-- ==== Sys2Proof/Word.lean ====
section
/-! DEFINITION. The word types of the module (spec/00_scope.md R7, R8, "Numbers, bits and bytes") and the plainest
arithmetic on them: bit-field read and write, numbered from bit 0 at the right, as R7 says. -/

namespace Sys2Proof

/-- 8 bits (spec/00_scope.md, after R8). -/
abbrev Byte := BitVec 8
/-- 32 bits, the width of every register (R9). -/
abbrev Word := BitVec 32
/-- 64 bits. -/
abbrev Dword := BitVec 64

/-- The field `[hi:lo]` of a register value, as a number (R7). -/
def fieldOf (w : Word) (hi lo : Nat) : Nat := (w.toNat >>> lo) % 2 ^ (hi + 1 - lo)

/-- Bit `[i]` of a register value (R7). -/
def bitOf (w : Word) (i : Nat) : Bool := w.getLsbD i

/-- A number placed in the field `[hi:lo]`, cut to the field's width. -/
def place (v hi lo : Nat) : Word := BitVec.ofNat 32 ((v % 2 ^ (hi + 1 - lo)) <<< lo)

/-- A flag placed in bit `[i]`. -/
def placeB (b : Bool) (i : Nat) : Word := if b then BitVec.ofNat 32 (2 ^ i) else 0

/-- A signed number as a register value (two's complement). -/
def sword (v : Int) : Word := BitVec.ofInt 32 v

/-- `n` held at most at `m`: a counter that saturates at its largest value. -/
def sat (m n : Nat) : Nat := if n ≤ m then n else m

/-- Bits of a list, entry `i` at bit `i`. -/
def maskOf : List Bool → Nat
  | [] => 0
  | b :: t => (if b then 1 else 0) + 2 * maskOf t

end Sys2Proof
end

