-- ==== Sys2Proof/Syntax.lean ====
section
/-! DEFINITION. The commands of the Xefold VCP-3 block: one constructor per row of
spec/opcode_table.json. A command is one whole, indivisible step of the part (spec/95_what_each_step_holds.md); its operands
say what the outside world brings to that step: a written value, the bytes of a frame, a measured voltage, what a
core commits. Numbers are plain numbers; which values an operand may take is WellFormed.lean's. -/

namespace Sys2Proof

/-- What a Rachis transaction does (R22, R28): an instruction fetch is a read marked as fetch. -/
inductive RKind where | read | write | fetch
  deriving DecidableEq, Repr

/-- What the receiving end's check of a transaction finds (R25, R27). -/
inductive Chk where
  /-- every beat passes -/
  | good
  /-- a single-bit error, corrected -/
  | corrected
  /-- an uncorrectable check-bit error -/
  | uncorrectable
  /-- a parity error on the control fields -/
  | parity
  deriving DecidableEq, Repr

/-- What a memory scrub or an access finds in its line (R171, R173). -/
inductive Scrub where | clean | correctable | uncorrectable
  deriving DecidableEq, Repr

/-- What happens to a transaction on its way between the ports (R25): the bits that arrive changed, as beat number within the
transaction and bit of the 72-bit beat (data 0 to 63, check bits 64 to 71); the address bits in which the place of delivery
differs from the place meant; and a control field that arrives changed. -/
structure Wire where
  flips : List (Nat × Nat) := []
  diff : Nat := 0
  ctl : Bool := false
  deriving DecidableEq, Repr

/-- A Rachis transaction offered by initiator `init` (R19, R22). `wire` is what its beats meet on the way, `cell` what the
memory's own code finds in the words that a read takes out (R26, R173). `answers` is false while the target gives no response
(the transaction then waits at the target's port for rung 1 or the backstop, R40). -/
structure Txn where
  init : Nat
  kind : RKind
  addr : Nat
  size : Nat
  data : List Byte
  wire : Wire
  cell : Scrub
  answers : Bool
  deriving DecidableEq, Repr

/-- The target ports of Rachis (R19, R20); registers by block window number (R417). -/
inductive Target where
  | rom | awn | mram | norA | norB | culm | dram
  | regs (window : Nat)
  deriving DecidableEq, Repr

/-- A function with an enable and an active field (R38). -/
inductive Fn where
  | awn
  | hubPort (p : Nat)
  | glmConn (c : Nat)
  | can (n : Nat)
  | canObj (n k : Nat)
  | owin (w : Nat)
  | iwin (v : Nat)
  deriving DecidableEq, Repr

/-- A store as a core commits it (R78, R84). -/
structure StoreRec where
  addr : Nat
  /-- size code 0 to 3 for 1, 2, 4, 8 bytes -/
  size : Nat
  be : Byte
  data : Dword
  deriving DecidableEq, Repr

/-- A trap taken by the committing instruction (R78), with its trap value. -/
structure TrapRec where
  machine : Bool
  irq : Bool
  code : Nat
  tval : Dword
  deriving DecidableEq, Repr

/-- A return from a trap: MRET or SRET (R72). -/
inductive TrapRet where | mret | sret
  deriving DecidableEq, Repr

/-- What one committed instruction makes visible (R78): a trap in place of everything else, or a store, an integer
write-back, a floating-point write-back and CSR write-backs. `pc` is the instruction's own address, `next` the address
of the instruction after it. `csrRead` is the CSR that the instruction reads into its integer register, `ret` its return
from a trap, and `illegal` an opcode outside the options of R72. -/
structure Commit where
  pc : Dword
  next : Dword
  trap : Option TrapRec
  store : Option StoreRec
  xw : Option (Nat × Dword)
  fw : Option (Nat × Dword)
  csr : List (Nat × Dword)
  csrRead : Option Nat := none
  ret : Option TrapRet := none
  illegal : Bool := false
  deriving DecidableEq, Repr

/-- The atomic operations of the A extension (R72). -/
inductive AmoOp where | lr | sc | swap | add | xor | and | or | min | max | minu | maxu
  deriving DecidableEq, Repr

/-- An atomic instruction: its own address and the next one, the operation, address and size (4 or 8 bytes), destination
register and operand (R72, R95). -/
structure Amo where
  pc : Dword
  next : Dword
  op : AmoOp
  addr : Nat
  size : Nat
  rd : Nat
  v : Dword
  deriving DecidableEq, Repr

/-- What a core does in one CORE_INSTRUCTION: it commits an instruction; it requests a load, which from a non-private page
closes its window with DEVICE_READ (R83); or it carries out an atomic instruction. -/
inductive CoreAct where
  | commit (c : Commit)
  | request (addr size : Nat)
  | amo (a : Amo)
  deriving DecidableEq, Repr

/-- An interrupt source: its number, and the position whose core it is for in split operation (R82, R95). -/
structure IrqSource where
  num : Nat
  pos : Nat
  deriving DecidableEq, Repr

/-- A line of a core's data or instruction cache, by an address in it (R73). -/
structure L1Line where
  core : Nat
  data : Bool
  addr : Nat
  deriving DecidableEq, Repr

/-- A bit operand of an Awn step (R107, R110): space, N, index. -/
structure BOp where
  sp : Nat
  neg : Bool
  idx : Nat
  deriving DecidableEq, Repr

/-- A word operand of an Awn step (R108, R110): space, and index or literal. -/
structure WOp where
  sp : Nat
  idx : Nat
  deriving DecidableEq, Repr

/-- How a receive end of a hub frame met the wire (R238): instants in ns after T0, length in bytes from DA to FCS. -/
structure HubRx where
  start : Int
  stop : Int
  len : Nat
  fcsOk : Bool
  /-- the instant at which byte BYTES + 1 of the frame arrived, where it has one -/
  overAt : Option Int
  body : List Byte
  deriving DecidableEq, Repr

/-- When a frame stands on the pair link: its first and its last instant, ns after T0 (R272). -/
structure PairRx where
  start : Int
  stop : Int
  deriving DecidableEq, Repr

/-- A CAN data or remote frame on the bus (R329, R330). -/
structure CanFrame where
  id : Nat
  ide : Bool
  fdf : Bool
  remote : Bool
  /-- bit-rate switch -/
  brs : Bool
  /-- error state indicator: the sender is error-passive -/
  esi : Bool
  dlc : Nat
  data : List Byte
  /-- SOF stamp, bits [31:0] of the train time base -/
  sof : Word
  deriving DecidableEq, Repr

/-- What a CAN controller receives (R325, R329): a frame without error, or one that ends in an error of KIND 1 to 5 with the
receive error counter after it; a recessive res bit after FDF is a form error. -/
inductive CanRx where
  | frame (f : CanFrame)
  | error (kind rec : Nat)
  deriving DecidableEq, Repr

/-- How a CAN transmission attempt ends (R331, R335). -/
inductive CanTxEnd where
  /-- success; the SOF stamp, and the loop delay measured where the frame had BRS set (R327) -/
  | success (sof : Word) (loop : Option Nat)
  | arbitrationLost
  /-- an error frame of KIND 1 to 5, with the error counters after it, and the loop delay where the frame got as far as its
  measurement (R327) -/
  | error (kind tec rec : Nat) (loop : Option Nat)
  deriving DecidableEq, Repr

/-- An outbound item offered to the Culm bridge by Rachis (R343, R347). -/
structure CulmItem where
  init : Nat
  write : Bool
  addr : Nat
  size : Nat
  data : List Byte
  deriving DecidableEq, Repr

/-- How an outbound Culm transaction ends on the backplane (R351). -/
inductive CulmEnd where
  /-- completed; the bytes as the card delivers them in ascending Culm address, for a read -/
  | completed (data : List Byte)
  /-- ended with retry after `words` words of a burst, whose bytes are `data` for a read (R340, R347) -/
  | retry (words : Nat) (data : List Byte)
  | unclaimed
  | targetAbort
  | parity
  deriving DecidableEq, Repr

/-- An inbound address phase of a card (R344, R348): byte enables of one word, or a burst of `words` words. -/
structure CulmPhase where
  master : Nat
  write : Bool
  addr : Nat
  be : Nat
  words : Nat
  data : List Byte
  parityOk : Bool
  /-- the cards whose request lines are active as the bus is granted (R340) -/
  reqs : List Nat
  deriving DecidableEq, Repr

/-- An outbound transaction's end, and the cards that requested the bus as it was granted to the bridge (R340, R357). -/
structure CulmGo where
  how : CulmEnd
  reqs : List Nat
  deriving DecidableEq, Repr

/-- What a Thresh run observes (R378 to R382): rows that fail and the spares that fail with them, units failing logic
BIST, units failing their retest. -/
structure ThreshObs where
  /-- failing rows: bank, row -/
  rows : List (Nat × Nat)
  /-- spare rows that fail themselves or hold a factory repair: bank, spare -/
  badSpares : List (Nat × Nat)
  /-- units whose logic BIST fails in stage 3 or 4 -/
  lbist : List Nat
  /-- units whose retest in stage 5 fails -/
  retest : List Nat
  durationMs : Nat
  deriving DecidableEq, Repr

/-- A window of the comparator test in which a fault of the die shows (R93): triad, step 1 to 6, the window's number within the
step, and for each position what its signature shows at the voter: 0 the routine's own signature, k + 1 another one. -/
structure CmpSeen where
  t : Nat
  step : Nat
  win : Nat
  shown : List Nat
  deriving DecidableEq, Repr

/-- What the comparator test meets (R93): the windows in which the signatures at a voter are not what the injection alone makes
them, and the triads whose voter takes signatures for equal that differ, or for different that agree. -/
structure CmpObs where
  seen : List CmpSeen
  /-- voters that answer every window with a release -/
  blind : List Nat
  deriving DecidableEq, Repr

/-- The client's side of a TLS 1.3 handshake (R369). -/
structure TlsOffer where
  relayed : Bool
  /-- only options the table of R369 lists -/
  optionsOk : Bool
  /-- certificates in the chain -/
  chain : Nat
  /-- anchor 0, 1, 2 at which the chain ends; none for any other -/
  anchor : Option Nat
  /-- signatures of the chain and of the handshake verify -/
  sigOk : Bool
  /-- SHA-384 digest of the handshake up to the module's certificate -/
  transcript : List Byte
  /-- the certificates' validity period, seconds since 1970 -/
  notBefore : Nat
  notAfter : Nat
  /-- bytes 0 to 3 and 4 to 7 of the SHA-384 digest of the client certificate's subject -/
  subj0 : Word
  subj1 : Word
  deriving DecidableEq, Repr

/-- A request's place: its session and the TAG of its message header (R370). -/
structure Req where
  ses : Nat
  tag : Nat
  deriving DecidableEq, Repr

/-- A frame arriving on X5 (R368). -/
inductive X5Frame where
  | arp (target : Nat)
  | echo (target : Nat) (body : List Byte)
  /-- a segment of an open TCP connection to a relay port: its bytes in order, and whether the host closes it; `num` is the
  stream that the gateway gave the connection (11 R263) -/
  | tcp (target port num : Nat) (bytes : List Byte) (close : Bool)
  | other
  deriving DecidableEq, Repr

/-- An episode of a rate-limited condition (R201, R324): code and index. -/
structure Episode where
  code : Nat
  idx : Nat
  deriving DecidableEq, Repr

/-- The commands: the rows with operands in the table's order, then the rows without. -/
inductive Instr where
  | registerWrite (init addr : Nat) (v : Word)
  | rachisTransaction (t : Txn)
  | busTimeout (t : Target)
  | engineWatchdog (e : Nat)
  | trdWatchdog (t : Nat)
  | clockFault (d : Nat)
  | functionDrainDone (f : Fn)
  | powerOn (coding : Nat)
  | supplySample (vin vbus lplus : Nat) (rails : List (Nat × Nat))
  | capacitanceMeasurement (ua us : Nat)
  | supervisorRelease (oscOk : Bool)
  | quenchDone (us : Nat)
  | cellMeasurement (mv : Nat)
  | errorEpisodeEnd (e : Episode)
  | aonSnap (init : Nat) (v : Word)
  | aonRtcSet (init : Nat) (v : Word)
  | bootSecuritySelftest (fail : Option Nat)
  | imageCheck (copyB : Bool)
  | protLock (init : Nat) (v : Word)
  | startupBist (o : ThreshObs)
  | cmptestStart (init : Nat) (v : Word)
  | cmptestDone (o : CmpObs)
  | coreInstruction (core : Nat) (a : CoreAct)
  | windowTimer (t : Nat)
  | triadInterrupt (t : Nat) (src : IrqSource)
  | singleIssueRead (t : Nat)
  | lagTimeout (t : Nat)
  | triadRestart (t : Nat)
  | releasedStoreError (t addr resp : Nat)
  | reserveL1ClearDone (r : Nat)
  | quiet (t : Nat)
  | reintegration (t : Nat) (live : Dword × Dword) (res : Dword)
  | toSplit (t : Nat)
  | splitStart (t : Nat)
  | toTriad (core : Nat)
  | handoverTimeout (t : Nat)
  | triadRestore (t : Nat) (ds : List Dword)
  | l1Error (line : L1Line)
  | awnLd (lane : Nat) (x : BOp)
  | awnAnd (lane : Nat) (x : BOp)
  | awnOr (lane : Nat) (x : BOp)
  | awnXor (lane : Nat) (x : BOp)
  | awnSt (lane : Nat) (x : BOp)
  | awnSet (lane : Nat) (x : BOp)
  | awnRst (lane : Nat) (x : BOp)
  | awnNot (lane : Nat)
  | awnPsh (lane : Nat)
  | awnPop (lane : Nat)
  | awnRds (lane : Nat)
  | awnPopa (lane : Nat)
  | awnPopo (lane : Nat)
  | awnPopx (lane : Nat)
  | awnTim (lane n : Nat)
  | awnTrs (lane n : Nat)
  | awnCtu (lane n : Nat)
  | awnCtd (lane n : Nat)
  | awnCrs (lane n : Nat)
  | awnCld (lane n : Nat)
  | awnEdg (lane n : Nat)
  | awnLw (lane : Nat) (x : WOp)
  | awnSw (lane : Nat) (x : WOp)
  | awnAdd (lane : Nat) (x : WOp)
  | awnSub (lane : Nat) (x : WOp)
  | awnMul (lane : Nat) (x : WOp)
  | awnAndw (lane : Nat) (x : WOp)
  | awnOrw (lane : Nat) (x : WOp)
  | awnXorw (lane : Nat) (x : WOp)
  | awnMin (lane : Nat) (x : WOp)
  | awnMax (lane : Nat) (x : WOp)
  | awnSel (lane : Nat) (x : WOp)
  | awnCeq (lane : Nat) (x : WOp)
  | awnCne (lane : Nat) (x : WOp)
  | awnClt (lane : Nat) (x : WOp)
  | awnCle (lane : Nat) (x : WOp)
  | awnCgt (lane : Nat) (x : WOp)
  | awnCge (lane : Nat) (x : WOp)
  | awnShl (lane sh : Nat)
  | awnShr (lane sh : Nat)
  | awnAsr (lane sh : Nat)
  | awnNegw (lane : Nat)
  | awnAbs (lane : Nat)
  | awnLdl (lane : Nat) (lit : Word)
  | awnJmp (lane target : Nat)
  | awnJc (lane target : Nat)
  | awnJnc (lane target : Nat)
  | awnNop (lane : Nat)
  | awnEnd (lane : Nat)
  | awnIllegalStep (lane : Nat) (ecc : Bool)
  | awnEnableWrite (init : Nat) (v : Word)
  | modeReqRun (init : Nat)
  | modeReqStop (init : Nat)
  | modeReqHold (init : Nat)
  | forceEntryWrite (init k : Nat) (v : Word)
  | olcCommit (init : Nat) (v : Word)
  | exchStart (init : Nat) (v : Word)
  | taskRelease (k : Nat)
  | dispatchTake (init t p : Nat) (v : Word)
  | jobDone (init t p : Nat) (v : Word)
  | deadlineMiss (k : Nat)
  | budgetOverrun (k : Nat)
  | sensorSample (q : List Int)
  | shedEnd (cause : Nat)
  | dramScrub (r : Scrub)
  | mramScrub (r : Scrub)
  | earFrameForward (port : Nat) (bytes : List Byte) (fcsOk : Bool)
  | earFrameReceive (port : Nat) (rx : Nat) (endPass : Bool) (bytes : List Byte)
  | vyfModeReq (init : Nat) (v : Word)
  | backboneLinkChange (port : Nat) (up : Bool)
  | hubTxSlot (desc : Nat)
  | hubFrameReceive (port : Nat) (f : HubRx)
  | hubRxWindowClose (desc : Nat)
  | portReopen (port : Nat)
  | hubPortEnableWrite (init port : Nat) (v : Word)
  | hubLinkChange (port : Nat) (up : Bool)
  | openMsg (src dst stream : Nat)
  | dataMsg (src dst stream offset ack : Nat) (bytes : List Byte)
  | closeMsg (src dst stream reason : Nat)
  | relayConnect (tcpPort : Nat)
  | streamResend (peer stream : Nat)
  | streamAckTimeout (peer stream : Nat)
  | streamIdleTimeout (peer stream : Nat)
  | pairTxSlot (buffer : Nat)
  | pairReportReceive (rx : PairRx) (bytes : List Byte)
  | shadowFrameReceive (rx : PairRx) (bytes : List Byte)
  | pilInChange (level : Bool)
  | pairSwitch (init : Nat) (v : Word)
  | glumeMessageReceive (transport index : Nat) (bytes : List Byte)
  | connectionTimeout (c : Nat)
  | glmConnEnableWrite (init c : Nat) (v : Word)
  | inputSample (di fb : List (Int × Int))
  | fbPullInTimeout (n : Nat)
  | fbDropOutTimeout (n : Nat)
  | readbackSample (dq : List (Int × Int)) (loadMa groupMa : List Nat)
  | offPulse (n : Nat)
  | offPulseEnd (n : Nat)
  | groupSwitchTest (g : Nat) (showsOpen : Bool)
  | outputOverload (n ma : Nat)
  | groupOvercurrent (g ma : Nat)
  | returnCrossFault (g : Nat)
  | openLoad (n : Nat)
  | faultResetInputs (init : Nat)
  | faultResetGroups (init mask : Nat)
  | faultResetChannels (init mask : Nat)
  | ovlResetGroups (init mask : Nat)
  | ovlResetChannels (init mask : Nat)
  | canFrameReceive (n : Nat) (r : CanRx)
  | txReq (init n k : Nat)
  | canTxAttemptEnd (n : Nat) (e : CanTxEnd)
  | canSendDeadline (n : Nat)
  | busOffHoldEnd (n : Nat)
  | recover (init n : Nat)
  | canRecoveryDone (n : Nat)
  | canEnableWrite (init n : Nat) (v : Word)
  | canObjectEnableWrite (init n k : Nat) (v : Word)
  | objStatRead (init n k : Nat)
  | referenceSend (n : Nat)
  | referenceLost (n : Nat)
  | culmOutboundAccept (q : CulmItem)
  | culmOutboundEnd (e : CulmGo)
  | culmInboundAddressPhase (p : CulmPhase)
  | delayedReadData (slot : Nat)
  | delayedReadDiscard (slot : Nat)
  | prefetchExpiry (buf : Nat)
  | culmWindowEnableWrite (init : Nat) (inbound : Bool) (w : Nat) (v : Word)
  | tlsHandshake (o : TlsOffer)
  | sessionIdleTimeout (ses : Nat)
  | attest (req : Req) (nonce : List Byte)
  | challenge (req : Req)
  | token (req : Req) (bytes : List Byte)
  | readReg (req : Req) (addr count : Nat)
  | writeReg (req : Req) (addr : Nat) (v : Word)
  | readMem (req : Req) (addr count : Nat)
  | clearRecords (req : Req)
  | imageBegin (req : Req) (len : Nat)
  | imageData (req : Req) (offset : Nat) (bytes : List Byte)
  | imageEnd (req : Req)
  | confirm (req : Req)
  | secImageConfirm (init : Nat) (v : Word)
  | activate (req : Req)
  | imageKeyInstall (req : Req) (slot : Nat) (wrapped : List Byte)
  | anchorInstall (req : Req) (slot : Nat) (key : List Byte)
  | keySlotProgram (req : Req) (slot : Nat) (key : List Byte)
  | slotRevoke (req : Req) (slot : Nat)
  | anchorA0Disable (req : Req)
  | debugOpen (req : Req)
  | rngRead (init : Nat)
  | shutdownGo (init : Nat) (v : Word)
  | shutdownRestart (init : Nat)
  | shutdownReady (init : Nat)
  | threshRun (o : ThreshObs)
  | eventRaise (code detail : Nat) (d0 d1 : Word)
  | rateIntervalEnd (code idx : Nat)
  | sessionClosed (ses : Nat)
  | openLoadCleared (n : Nat)
  | canBusIntegrated (n : Nat)
  | maintenanceFrameReceive (f : X5Frame)
  | bridgeBackstopTimeout
  | fluctuationTimeout
  | surgeTimeout
  | inputReconnect
  | braceDwellEnd
  | quenchGuardExpiry
  | railFaultTimeout
  | aonSnapDone
  | dramClear
  | verdictApply
  | imageSelect
  | counterRaise
  | loadAndLock
  | granaryStart
  | handOver
  | awnScanTrigger
  | laneTimeout
  | awnPublish
  | cycleBoundary
  | releasePhase
  | publish
  | hoursCopy
  | earFrameSend
  | modeRequestTimeout
  | listenTimeout
  | originTakeover
  | syncLost
  | beaconSend
  | guardianGraceEnd
  | originYield
  | candidateTimeout
  | candidateDrawEnd
  | checkScan
  | pairLinkLost
  | outputImageArrival
  | testRound
  | testRoundEnd
  | lplusRestored
  | culmTransactionTimeout
  | inboundWriteIssue
  | installationComplete
  | autoConfirm
  | rngHealthFail
  | sdreqActive
  | shutdownEntry
  | shutdownGraceEnd
  | threshRunDone
  | recordWritten
  | lifeWriteTick
  | operatingSecond
  | logicSupplyLost
  | lampTestEnd
  deriving DecidableEq, Repr

end Sys2Proof
end

