-- ==== Sys2Proof/Decode.lean ====
section
/-! DEFINITION. Commands have no encoding: no row of spec/opcode_table.json gives bits (log 5). -/

namespace Sys2Proof

/-- The command a word spells by the table's bits: the table gives none, so no word spells one. -/
def decodeTableWord (_nbits _w : Nat) : Option Instr := none

end Sys2Proof
end

