-- ==== Sys2Proof/Config.lean ====
section
/-! DEFINITION. What the spec leaves to the particular die, or to an algorithm it names and does not restate: constants
without a body, of which nothing can be proved but their type. A level with a tolerance is its minimum plus an offset
that never leaves the tolerance (`within`); cryptography and random draws are uninterpreted. -/

namespace Sys2Proof.Config

/-- A level between `lo` and `hi`, both ends included, picked by the offset `x`. -/
def within (lo hi x : Nat) : Nat := lo + x % (hi + 1 - lo)

/-- Columns of the Rachis code's 64 data bits, where they make a Hsiao code (01 R25). -/
opaque dataCols : Nat → Nat
/-- Columns of address bits [35:3], where they are even-weight and all different (01 R25). -/
opaque addrCols : Nat → Nat
/-- The line of a full cache set that makes room, by the set's lines (03 R73). -/
opaque l1Victim : List Nat → Nat
/-- The line of a full L2 cache that makes room, by the new line (03 R73). -/
opaque l2Victim : Nat → Nat
/-- RISC-V interrupt code under which a core takes an interrupt source (03 R82). -/
opaque irqCode : Nat → Nat
/-- Offset of the thermal trip level, quarter degrees (06 R163). -/
opaque tripOffset : Nat
/-- Offset of the supervisor's exit level, 10 mV (08 R193). -/
opaque exitOffset : Nat
/-- Offset of the supervisor's warning level, 10 mV (08 R193). -/
opaque warnOffset : Nat
/-- Offset of the supervisor's reset level, 10 mV (08 R193). -/
opaque resetOffset : Nat
/-- Offset of the rail floor, 10 mV (08 R193). -/
opaque floorOffset : Nat
/-- Offset of the lower L+ limit, 10 mV (08 R190). -/
opaque lplusLowOffset : Nat
/-- Offset of the upper L+ limit, 10 mV (08 R190). -/
opaque lplusHighOffset : Nat
/-- Offset of the low-cell level, mV (08 R200). -/
opaque cellOffset : Nat
/-- Offset of the ON threshold of input set `set` on path B (true) or A, mV (14 R304). -/
opaque onOffset : Nat → Bool → Nat
/-- Offset of the OFF threshold of input set `set` on path B (true) or A, mV (14 R304). -/
opaque offOffset : Nat → Bool → Nat
/-- Offset of zone boundary `k` (0 to 3) of wire-break monitoring on path B (true) or A, mV (14 R307). -/
opaque zoneOffset : Nat → Bool → Nat
/-- Offset of the HIGH readback level on path B (true) or A, mV (14 R312). -/
opaque rbHighOffset : Bool → Nat
/-- Offset of the LOW readback level on path B (true) or A, mV (14 R312). -/
opaque rbLowOffset : Bool → Nat

/-- Thermal trip level, quarter degrees: 123 to 127 degrees (06 R163). -/
def tripLevel : Int := within 492 508 tripOffset
/-- Exit level, 10 mV: 56.5 V to 57.5 V (08 R193). -/
def exitLevel : Nat := within 5650 5750 exitOffset
/-- Warning level, 10 mV: 35.5 V to 36.5 V (08 R193). -/
def warnLevel : Nat := within 3550 3650 warnOffset
/-- Reset level, 10 mV: 27.6 V to 28.4 V (08 R193). -/
def resetLevel : Nat := within 2760 2840 resetOffset
/-- Rail floor, 10 mV: 21.5 V to 22.5 V (08 R193). -/
def floorLevel : Nat := within 2150 2250 floorOffset
/-- Lower L+ limit, 10 mV: 19.2 V to 0.3 V either side (08 R190). -/
def lplusLow : Nat := within 1890 1950 lplusLowOffset
/-- Upper L+ limit, 10 mV: 30.0 V to 0.3 V either side (08 R190). -/
def lplusHigh : Nat := within 2970 3030 lplusHighOffset
/-- Low-cell level, mV: 2.50 V to 0.05 V either side (08 R200). -/
def cellLow : Nat := within 2450 2550 cellOffset

/-- ON threshold of an input set, mV (14 R304). -/
def onThreshold (set : Nat) (path : Bool) : Nat :=
  match set with
  | 1 => within 11500 12500 (onOffset set path)
  | 4 => within 43000 47000 (onOffset set path)
  | 5 => within 64000 70000 (onOffset set path)
  | _ => within 9500 10500 (onOffset set path)

/-- OFF threshold of an input set, mV (14 R304). -/
def offThreshold (set : Nat) (path : Bool) : Nat :=
  match set with
  | 1 => within 9500 10500 (offOffset set path)
  | 4 => within 28000 32000 (offOffset set path)
  | 5 => within 41000 47000 (offOffset set path)
  | _ => within 7500 8500 (offOffset set path)

/-- Zone boundary `k` of wire-break monitoring, mV: 3.0, 5.0, 10.5 and 14.0 V, each to 0.25 V (14 R307). -/
def zoneBound (k : Nat) (path : Bool) : Nat :=
  match k with
  | 0 => within 2750 3250 (zoneOffset k path)
  | 1 => within 4750 5250 (zoneOffset k path)
  | 2 => within 10250 10750 (zoneOffset k path)
  | _ => within 13750 14250 (zoneOffset k path)

/-- HIGH readback level, mV: 9.0 V to 0.25 V (14 R312). -/
def rbHigh (path : Bool) : Nat := within 8750 9250 (rbHighOffset path)
/-- LOW readback level, mV: 4.0 V to 0.25 V (14 R312). -/
def rbLow (path : Bool) : Nat := within 3750 4250 (rbLowOffset path)

/-- SHA-384 (17 R362). -/
opaque sha384 : List Byte → List Byte
/-- ECDSA P-384 verification: public key, digest, r, s (17 R364). -/
opaque ecdsaOk : List Byte → List Byte → List Byte → List Byte → Bool
/-- ECDSA P-384 signature with the identity key: the PUF helper data and the digest (17 R362, R374). -/
opaque identitySign : List Byte → List Byte → List Byte
/-- Identity public key from the PUF helper data (17 R362). -/
opaque identityKey : List Byte → List Byte
/-- AES-256-GCM opening: key, initialisation vector, additional data, ciphertext, tag (02 R50). -/
opaque gcmOpen : List Byte → List Byte → List Byte → List Byte → List Byte → Option (List Byte)
/-- The context string of TLS 1.3 that a server's proof signs (RFC 8446): "TLS 1.3, server CertificateVerify". -/
def serverContext : List Byte := "TLS 1.3, server CertificateVerify".toList.map (fun c => BitVec.ofNat 8 c.toNat)
/-- Unwrapping of an image key by ECDH P-384 against the identity key (17 R371). -/
opaque unwrapKey : List Byte → List Byte → Option (List Byte)
/-- The TLS records that carry a reply of a relayed session: session number and reply (11 R263, 17 R369). -/
opaque tlsRecord : Nat → List Byte → List Byte
/-- Public key of anchor A0, the Dyhild service root in the boot ROM (17 R369). -/
opaque anchorA0 : List Byte
/-- Contents of the boot ROM (01 R20, 17 R364). -/
opaque romByte : Nat → Byte
/-- Firewall regions of initiators 0x2B to 0x2E from the boot ROM: BASE, LIMIT, ATTR of initiator and region (02 R58). -/
opaque fixedRegion : Nat → Nat → Word × Word × Word

/-- Free value number `n`: a value the spec leaves open or draws at random (17 R367). -/
opaque freeWord : Nat → Word
/-- A free number. -/
opaque freeNat : Nat → Nat

end Sys2Proof.Config
end

