-- ==== Sys2Proof/Machine/Crc.lean ====
section
/-! DEFINITION. The check values of the formats: CRC-32 of IEEE 802.3 (02 R47), CRC-32C (09 R206), the Glume CRC
(13 R288), the signature CRC (03 R78); and byte-order helpers. -/

namespace Sys2Proof.Machine

/-- One bit of a reflected CRC. -/
def crcBit (poly c : Nat) : Nat := if c % 2 = 1 then (c >>> 1) ^^^ poly else c >>> 1

/-- `n` bits of a reflected CRC. -/
def crcBits (poly : Nat) (n c : Nat) : Nat :=
  match n with
  | 0 => c
  | n + 1 => crcBits poly n (crcBit poly c)

/-- A reflected CRC register over bytes. -/
def crcFold (poly : Nat) (bytes : List Byte) (c : Nat) : Nat :=
  match bytes with
  | [] => c
  | b :: t => crcFold poly t (crcBits poly 8 (c ^^^ b.toNat))

/-- A reflected CRC-32 with initial value and final XOR all ones. -/
def crcRef (poly : Nat) (bytes : List Byte) : Nat := crcFold poly bytes 0xFFFFFFFF ^^^ 0xFFFFFFFF

/-- CRC-32 of IEEE 802.3, polynomial 0x04C1_1DB7 reflected (02 R47). -/
def crc32 (bytes : List Byte) : Nat := crcRef 0xEDB88320 bytes

/-- CRC-32C, polynomial 0x1EDC_6F41 reflected (09 R206). -/
def crc32c (bytes : List Byte) : Nat := crcRef 0x82F63B78 bytes

/-- The Glume check, polynomial 0xF4AC_FB13 reflected (13 R288). -/
def crcGlume (bytes : List Byte) : Nat := crcRef 0xC8DF352F bytes

/-- `n` bits of the signature CRC, most significant bit first (03 R78). -/
def sigBits (n : Nat) (w c : Nat) : Nat :=
  match n with
  | 0 => c
  | n + 1 =>
    let fb := (c >>> 63) % 2 != (w >>> n) % 2
    let c' := (c <<< 1) % 2 ^ 64
    sigBits n w (if fb then c' ^^^ 0x42F0E1EBA9EA3693 else c')

/-- The signature register after a 64-bit word, from bit 63 down (03 R78). -/
def sigWord (c w : Dword) : Dword := BitVec.ofNat 64 (sigBits 64 w.toNat c.toNat)

/-- The signature register after a record of two words (03 R78). -/
def sigRecord (c w0 w1 : Dword) : Dword := sigWord (sigWord c w0) w1

/-- The signature register when a window or a scan opens: all ones (03 R78). -/
def sigInit : Dword := BitVec.ofNat 64 (2 ^ 64 - 1)

/-- The `n` low bytes of a number, least significant first. -/
def le (n v : Nat) : List Byte :=
  match n with
  | 0 => []
  | n + 1 => BitVec.ofNat 8 v :: le n (v / 256)

/-- The `n` low bytes of a number, most significant first. -/
def be (n v : Nat) : List Byte := (le n v).reverse

/-- The number little-endian bytes spell. -/
def leNat (bs : List Byte) : Nat :=
  match bs with
  | [] => 0
  | b :: t => b.toNat + 256 * leNat t

/-- The number big-endian bytes spell. -/
def beNat (bs : List Byte) : Nat := leNat bs.reverse

/-- `n` bytes from offset `o`, zeros beyond the end. -/
def slice (bs : List Byte) (o n : Nat) : List Byte :=
  let t := (bs.drop o).take n
  t ++ List.replicate (n - t.length) 0

/-- Little-endian field of `n` bytes at offset `o`. -/
def leAt (bs : List Byte) (o n : Nat) : Nat := leNat (slice bs o n)

/-- Big-endian field of `n` bytes at offset `o`. -/
def beAt (bs : List Byte) (o n : Nat) : Nat := beNat (slice bs o n)

/-- A 32-bit field read as a signed number. -/
def signed32 (n : Nat) : Int := (BitVec.ofNat 32 n).toInt

/-- Zero bytes. -/
def zeros (n : Nat) : List Byte := List.replicate n 0

/-- The list is all zero. -/
def allZero (bs : List Byte) : Bool := bs.all (fun b => b == 0)

end Sys2Proof.Machine
end

