-- ==== Sys2Proof/Machine/Map.lean ====
section
/-! DEFINITION. Sparse data by number: a list of (number, value) pairs in one canonical form, the numbers strictly
rising and no value equal to what an unlisted number reads as. Memories, register tables and object tables of the
module are held so. What an unlisted number reads as is given by the owner of the table. -/

namespace Sys2Proof

/-- Sparse data by number. -/
abbrev FMap (α : Type) := List (Nat × α)

/-- The value at `k`; `d` where `k` is not listed. -/
def FMap.look {α : Type} (m : FMap α) (d : α) (k : Nat) : α :=
  match m with
  | [] => d
  | (j, w) :: t => if j = k then w else FMap.look t d k

/-- The list without `k`. -/
def FMap.drop {α : Type} (m : FMap α) (k : Nat) : FMap α :=
  match m with
  | [] => []
  | (j, w) :: t => if j = k then FMap.drop t k else (j, w) :: FMap.drop t k

/-- The list with `k` holding `v`, the numbers kept rising. -/
def FMap.insert {α : Type} (m : FMap α) (k : Nat) (v : α) : FMap α :=
  match m with
  | [] => [(k, v)]
  | (j, w) :: t =>
    if k < j then (k, v) :: (j, w) :: t
    else if j = k then (k, v) :: t
    else (j, w) :: FMap.insert t k v

/-- Write `v` at `k`: writing what an unlisted number reads as removes the entry. -/
def FMap.store {α : Type} [DecidableEq α] (m : FMap α) (d : α) (k : Nat) (v : α) : FMap α :=
  if v = d then FMap.drop m k else FMap.insert m k v

/-- Every number of the list is above `b` (`b` none: no bound), the numbers rise, and no value is `d`. -/
def FMap.wfFrom {α : Type} [DecidableEq α] (d : α) (b : Option Nat) (m : FMap α) : Bool :=
  match m with
  | [] => true
  | (j, w) :: t =>
    (match b with | none => true | some k => decide (k < j)) && decide (w ≠ d) && FMap.wfFrom d (some j) t

/-- The canonical form. -/
def FMap.wf {α : Type} [DecidableEq α] (d : α) (m : FMap α) : Bool := FMap.wfFrom d none m

/-- Change the value at `k`. -/
def FMap.upd {α : Type} [DecidableEq α] (m : FMap α) (d : α) (k : Nat) (f : α → α) : FMap α :=
  FMap.store m d k (f (FMap.look m d k))

/-- Write the values `vs` at `k`, `k + 1`, … -/
def FMap.storeList {α : Type} [DecidableEq α] (m : FMap α) (d : α) (k : Nat) (vs : List α) : FMap α :=
  match vs with
  | [] => m
  | v :: t => FMap.storeList (FMap.store m d k v) d (k + 1) t

/-- The values at `k`, …, `k + n - 1`. -/
def FMap.lookList {α : Type} (m : FMap α) (d : α) (k n : Nat) : List α :=
  (List.range n).map (fun i => FMap.look m d (k + i))

/-- Every listed value changed by `f`, which leaves `d` as it is. -/
def FMap.mapv {α : Type} [DecidableEq α] (m : FMap α) (d : α) (f : α → α) : FMap α :=
  match m with
  | [] => []
  | (j, w) :: t => if f w = d then FMap.mapv t d f else (j, f w) :: FMap.mapv t d f

/-- The number of listed values with `p`. -/
def FMap.count {α : Type} (m : FMap α) (p : α → Bool) : Nat := (m.filter (fun e => p e.2)).length

/-- Entry `i` of a list changed; the list unchanged where there is no entry `i`. -/
def modAt {α : Type} (l : List α) (i : Nat) (f : α → α) : List α :=
  match l, i with
  | [], _ => []
  | a :: t, 0 => f a :: t
  | a :: t, i + 1 => a :: modAt t i f

/-- Entry `i` of a list; `d` where there is none. -/
def nth {α : Type} (l : List α) (i : Nat) (d : α) : α :=
  match l, i with
  | [], _ => d
  | a :: _, 0 => a
  | _ :: t, i + 1 => nth t i d

end Sys2Proof
end

