-- ==== Sys2Proof/Machine/StCore.lean ====
section
/-! DEFINITION. Parts of the machine's state: the sticky-error set every block has, what the last command gave out,
Rachis, the triads, the Awn engine, Granary. Every field's docstring names the register or the thing, its width, the
file and rule of spec/, and its reset value; the field's default IS its reset value. -/

namespace Sys2Proof.Machine

/-- A block's sticky-error set (R13, R32, R424). -/
structure ErrBlk where
  /-- ERR_STATUS; 32 bits, W1C; 21 R424; reset 0 -/
  status : Word := 0
  /-- IRQ_EN; 32 bits, RW; 21 R424; reset 0 -/
  irqEn : Word := 0
  /-- ERR_INFO with VALID in [0] and OVF in [1]; 32 bits; 01 R32; reset 0 -/
  info : Word := 0
  /-- the capture's second register (ERR_CYCLE, WINDOW, SCAN or ADDR_LO); 32 bits; 21 R424; reset 0 -/
  aux : Word := 0
  /-- the capture's third register (ADDR_HI, CULM_ERR_ADDR), where the block has one; 32 bits; 01 R32; reset 0 -/
  aux2 : Word := 0
  deriving DecidableEq, Repr

/-- What a command gives to the outside: the model's own record of it, emptied at the start of every command. -/
inductive Out where
  /-- a Rachis response to an initiator: code of R24 and read data -/
  | response (init code : Nat) (data : List Byte)
  /-- bytes sent on a port: 0 to 3 backbone A1, A2, B1, B2; 0x10 + p hub port p; 0x20 pair link; 0x30 X5 -/
  | frame (port : Nat) (bytes : List Byte)
  /-- a CAN frame handed to controller n's bus -/
  | can (n : Nat) (f : CanFrame)
  /-- a Culm transaction driven on the backplane: write or read, address, byte enables or length, bytes in bus order -/
  | culm (write : Bool) (addr len : Nat) (data : List Byte)
  /-- an answer to an inbound Culm phase: 0 completed, 1 retry, 2 target abort, 3 not claimed -/
  | culmAnswer (kind : Nat) (data : List Byte)
  /-- a maintenance response: session and message, header and all -/
  | reply (ses : Nat) (bytes : List Byte)
  /-- the module's side of a TLS handshake: its certificate, and its proof by the identity key -/
  | serverAuth (cert proof : List Byte)
  /-- an interrupt delivered to a core: core and source number -/
  | irq (core src : Nat)
  /-- an item of a block resolved or turned away: the block's window number, the unit, the outcome of 01 R37 -/
  | outcome (block unit code : Nat)
  /-- a TCP connection of X5 ended by this module: port, stream number at the gateway, reset or closed normally -/
  | tcp (port stream : Nat) (reset : Bool)
  deriving DecidableEq, Repr

/-- A Rachis transaction waiting at its target's port (R40). -/
structure Flight where
  /-- the transaction -/
  txn : Txn
  /-- the instant it was issued, ns -/
  since : Nat
  deriving DecidableEq, Repr

/-- Rachis and the memory controllers (01, 07). -/
structure Rch where
  /-- RCH_ERR_STATUS, RCH_IRQ_EN, RCH_ERR_INFO, RCH_ERR_ADDR_LO and _HI; 5 x 32 bits; 01 R30, R32; reset 0 -/
  err : ErrBlk := {}
  /-- RCH_MEM_STATUS, RCH_MEM_IRQ_EN, RCH_MEM_ERR_INFO, RCH_MEM_ERR_ADDR_LO and _HI; 5 x 32 bits; 07 R185; reset 0 -/
  mem : ErrBlk := {}
  /-- transactions issued and not answered, in issue order; a list; 01 R40; reset empty -/
  flight : List Flight := []
  /-- clock domains whose monitor has faulted; list of 1 to 14; 01 R33; reset empty -/
  clkFault : List Nat := []
  /-- next DRAM line the scrubber reads, in 64-byte lines; 26 bits; 07 R171; reset 0 -/
  dramScrub : Nat := 0
  /-- next MRAM line the scrubber reads, in 64-byte lines; 18 bits; 07 R173; reset 0 -/
  mramScrub : Nat := 0
  /-- scrub passes of the DRAM and the MRAM completed since start; 2 x 16 bits; 07 R185; reset 0 -/
  dramPasses : Nat := 0
  /-- the MRAM half of the pass counts; 16 bits; 07 R185; reset 0 -/
  mramPasses : Nat := 0
  /-- RCH_LAST_QUENCH; 32 bits; 07 R183; reset 0 -/
  lastQuench : Word := 0
  /-- RCH_LAST_QUENCH_EV; 32 bits; 07 R183; reset 0 -/
  lastQuenchEv : Word := 0
  deriving DecidableEq, Repr

/-- A window of a commit-buffer lane (R80, R84): closed once `cause` is set. -/
structure Win where
  /-- window number; 64 bits; 03 R80 -/
  num : Nat
  /-- signature register; 64 bits; 03 R78 -/
  sig : Dword
  /-- store records committed in the window, oldest first; 03 R84 -/
  stores : List StoreRec
  /-- close cause, 0 while open; 4 bits; 03 R80 -/
  cause : Nat
  deriving DecidableEq, Repr

/-- A position's lane of a triad (R84). -/
structure Lane where
  /-- windows of the lane that are not released, oldest first, the open one last; 03 R84; reset empty -/
  wins : List Win := []
  /-- number of the next window to open; 64 bits; 03 R80; reset 0 -/
  nextNum : Nat := 0
  /-- single-issue read the core waits for: address and size; 03 R83; reset none -/
  req : Option (Nat × Nat) := none
  /-- stopped at a TO_TRIAD store; 03 R97; reset false -/
  stopped : Bool := false
  deriving DecidableEq, Repr

/-- A core's architectural state as its commits show it (R72, R78, R91). -/
structure Core where
  /-- x1 to x31; 64 bits each, unlisted 0; 03 R72; reset none listed -/
  x : FMap Dword := []
  /-- f0 to f31; 64 bits each, unlisted 0; 03 R72; reset none listed -/
  f : FMap Dword := []
  /-- CSRs by address as last written; 64 bits each, unlisted 0; 03 R72; reset none listed -/
  csr : FMap Dword := []
  /-- program counter; 64 bits; 03 R72; reset 0 -/
  pc : Dword := 0
  /-- minstret; 64 bits; 03 R74; reset 0 -/
  minstret : Nat := 0
  /-- TRD_CORE_STATE.ROLE; 3 bits; 03 R88, TRD_CORE_STATE; reset 0 -/
  role : Nat := 0
  /-- TRD_CORE_STATE.TRIAD; 3 bits; 03 TRD_CORE_STATE; reset 0 -/
  triad : Nat := 0
  /-- TRD_CORE_STATE.POSITION; 2 bits; 03 TRD_CORE_STATE; reset 0 -/
  pos : Nat := 0
  /-- the core runs (is neither halted nor held in reset); 03 R88, R89; reset false -/
  running : Bool := false
  /-- clearing of a claimed reserve's L1 caches runs; 03 R91; reset false -/
  clearing : Bool := false
  /-- privilege mode: 0 user, 1 supervisor, 3 machine; 2 bits; 03 R72; reset 3 -/
  priv : Nat := 3
  /-- interrupt sources given to the core that it has not taken yet, oldest first; 03 R82, R95; reset empty -/
  intr : List Nat := []
  /-- line reserved by LR, as address over 64; 30 bits; 03 R72; reset none -/
  resv : Option Nat := none
  /-- mcycle less the die's time in ns, modulo 2^64: the core's own clock count at 1.0 GHz; 64 bits; 03 R72, R74; reset 0 -/
  cycBase : Dword := 0
  /-- lines that the instruction cache holds, as address over 64, oldest first; 1,024 x 30 bits; 03 R73; reset empty -/
  l1i : List Nat := []
  /-- lines that the data cache holds, as address over 64, oldest first; 1,024 x 30 bits; 03 R73; reset empty -/
  l1d : List Nat := []
  deriving DecidableEq, Repr

/-- A single-issue read that the voter or a split core has issued, with its response once it is there (R83). -/
structure HeldRead where
  /-- number of the window that the request closed; 64 bits -/
  win : Nat
  /-- address; 36 bits -/
  addr : Nat
  /-- size in bytes -/
  size : Nat
  /-- core under whose ID the bridge still reads; none once the response is there -/
  asker : Option Nat
  /-- the one position that the response is for, in split operation -/
  only : Option Nat
  /-- response code; 3 bits; R24 -/
  code : Nat
  /-- the data read -/
  data : List Byte
  /-- positions that have had the response -/
  given : List Nat
  deriving DecidableEq, Repr

/-- An instruction C that the voter has set (R81, R82). -/
structure ClosePt where
  /-- C, the minstret value; 64 bits -/
  c : Nat
  /-- close cause: 2 TIMER, 3 EVENT -/
  cause : Nat
  /-- number of the window that closes there; 64 bits -/
  win : Nat
  /-- interrupt sources that every live core takes there, oldest first -/
  irqs : List Nat
  deriving DecidableEq, Repr

/-- A triad (03). -/
structure Triad where
  /-- TRD_TRIAD_CFG.MODE, true for SPLIT; 1 bit; 02 R53; reset 0 -/
  split : Bool := false
  /-- TRD_TRIAD_CFG.HANDOVER; 1 bit; 02 R53; reset 0 -/
  handover : Bool := false
  /-- TRD_TRIAD_CFG.CORE_A, CORE_B, CORE_C; 3 x 5 bits; 03 R75; reset 0, 0, 0 -/
  cores : List Nat := [0, 0, 0]
  /-- core that each position held at hand-over, whose firewall regions apply; 3 x 5 bits; 03 R77; reset 0, 0, 0 -/
  fwCore : List Nat := [0, 0, 0]
  /-- positions left empty for want of a reserve; 3 x 1 bit; 03 R75; reset false -/
  empty : List Bool := [false, false, false]
  /-- TRD_TRIAD_STATE.LIVE; 3 bits; 03 TRD_TRIAD_STATE; reset 0 -/
  live : List Bool := [false, false, false]
  /-- TRD_TRIAD_STATE.STATE; 3 bits; 03 TRD_TRIAD_STATE; reset 0 STOPPED -/
  state : Nat := 0
  /-- TRD_TRIAD_STATE.HO_COUNT; 16 bits; 03 R96; reset 0 -/
  hoCount : Nat := 0
  /-- TRD_TRIAD_STATE.HO_RESULT; 3 bits; 03 R96; reset 0 -/
  hoResult : Nat := 0
  /-- TRD_TRIAD_STATE.REINT_PENDING; 1 bit; 03 R91; reset 0 -/
  reintPending : Bool := false
  /-- TRD_TRIAD_STATE.RESERVE_SEL; 1 bit; 03 R91; reset 0 -/
  reserveSel : Nat := 0
  /-- TRD_TRIAD_WINDOW; 64 bits; 03 R87; reset 0 -/
  window : Nat := 0
  /-- TRD_TRIAD_SIG; 64 bits; 03 R87; reset 0 -/
  sig : Dword := 0
  /-- TRD_TRIAD_CBUF.HIGH_WATER; 11 bits; 03 TRD_TRIAD_CBUF; reset 0 -/
  highWater : Nat := 0
  /-- the commit-buffer lanes of positions A, B, C; 03 R84; reset empty -/
  lanes : List Lane := [{}, {}, {}]
  /-- number of the window that closes for the triad next; 64 bits; 03 R87; reset 0 -/
  voteNum : Nat := 0
  /-- number of the window that is released next; 64 bits; 03 R85; reset 0 -/
  relNum : Nat := 0
  /-- window timestamps by window number, of the windows not resolved; 64 bits each, unlisted 0; 03 R80; reset none -/
  stamps : FMap Dword := []
  /-- number of the newest window that has a timestamp, plus 1; 64 bits; 03 R80; reset 0 (none) -/
  stampWin : Nat := 0
  /-- instant at which the first live core opened the newest window, ns; 03 R81; reset none -/
  openedAt : Option Nat := none
  /-- the instructions C that are set and that not every live core has retired, lowest first; 03 R81, R82; reset empty -/
  closeAt : List ClosePt := []
  /-- interrupt sources pending for the triad, oldest first; 03 R82; reset empty -/
  irqs : List Nat := []
  /-- windows with a signature: number, start of the lag timer in ns, close cause of the first signature; 03 R87; reset empty -/
  lags : List (Nat × Nat × Nat) := []
  /-- single-issue reads issued that not every live core has had the response of; up to 64; 03 R83; reset empty -/
  held : List HeldRead := []
  /-- lines that the L2 cache holds, as address over 64, oldest first; 16,384 x 30 bits; 03 R73; reset empty -/
  l2 : List Nat := []
  /-- paused after a QUIET store, reintegration running; 03 R91; reset false -/
  paused : Bool := false
  /-- instant the pause began, ns; 03 R92; reset 0 -/
  pausedAt : Nat := 0
  /-- instant the cores were halted for a restart, ns; 03 R89; reset none -/
  haltedAt : Option Nat := none
  /-- the core whose exclusion opened the empty position; 5 bits; 03 R91, 19 R442; reset 0 -/
  excludedCore : Nat := 0
  /-- save buffer of the hand-over: the voted state of each core, one copy; 03 R96; reset none -/
  saved : Option Core := none
  /-- signature of the check window over the saved state; 64 bits; 03 R96; reset 0 -/
  savedSig : Dword := 0
  /-- start of the return timer, ns; 03 R97; reset none -/
  returnSince : Option Nat := none
  /-- instant at which the last split core stopped, ns; 03 R97; reset none -/
  stoppedAt : Option Nat := none
  deriving DecidableEq, Repr

/-- The TRD block (03). -/
structure Trd where
  /-- TRD quartet, 0x001C TRD_ERR_WINDOW; 4 x 32 bits; 03 R98; reset 0 -/
  err : ErrBlk := {}
  /-- the 20 application cores; 03 R72; reset each at its reset values -/
  cores : List Core := List.replicate 20 {}
  /-- the six triads; 03 R75; reset each at its reset values -/
  triads : List Triad := List.replicate 6 {}
  /-- TRD_RESERVE.RES0_CORE and RES1_CORE; 2 x 5 bits; 03 TRD_RESERVE; reset 0 -/
  reserves : List Nat := [0, 0]
  /-- TRD_RESERVE.RES0_FREE and RES1_FREE; 2 x 1 bit; 03 TRD_RESERVE; reset 0 -/
  resFree : List Bool := [false, false]
  /-- comparator test running; 03 R93; reset false -/
  cmpRunning : Bool := false
  /-- TRD_CMPTEST_STATUS.DONE; 1 bit; 03 R94; reset 0 -/
  cmpDone : Bool := false
  /-- TRD_CMPTEST_STATUS.PASS; 1 bit; 03 R94; reset 0 -/
  cmpPass : Bool := false
  /-- TRD_CMPTEST_STATUS.VOTER_FAIL; 6 bits; 03 R94; reset 0 -/
  voterFail : Nat := 0
  /-- store records that the comparator test's sink has counted; 32 bits; 03 R93; reset 0 -/
  sink : Nat := 0
  /-- TRD_CMPTEST_PATHFAIL; 20 bits; 03 R94; reset 0 -/
  pathFail : Nat := 0
  deriving DecidableEq, Repr

/-- A timer of the Awn engine (R115). -/
structure AwnTimer where
  run : Bool := false
  q : Bool := false
  inp : Bool := false
  start : Dword := 0
  deriving DecidableEq, Repr

/-- A counter of the Awn engine (R119). -/
structure AwnCounter where
  cv : Word := 0
  inU : Bool := false
  inD : Bool := false
  deriving DecidableEq, Repr

/-- The data an Awn lane or a bank of the published copy holds (R99, R103). -/
structure AwnData where
  /-- I, input bits, by byte; 8,192 bits, unlisted 0; 04 R103; reset 0 -/
  i : FMap Byte := []
  /-- Q, output bits, by byte; 8,192 bits; 04 R103; reset 0 -/
  q : FMap Byte := []
  /-- M, marker bits, by byte; 8,192 bits; 04 R103; reset 0 -/
  m : FMap Byte := []
  /-- W, word memory; 4,096 x 32 bits; 04 R103; reset 0 -/
  w : FMap Word := []
  /-- K, constant table; 1,024 x 32 bits; 04 R103; reset 0 -/
  k : FMap Word := []
  /-- timers: RUN, Q, IN and 64-bit START; 2,048; 04 R115; reset 0 -/
  timers : FMap AwnTimer := []
  /-- counters: CV (32 bits), IN_U, IN_D; 1,024; 04 R119; reset 0 -/
  counters : FMap AwnCounter := []
  /-- edge detectors' PREV; 4,096 x 1 bit; 04 R120; reset 0 -/
  edges : FMap Bool := []
  /-- SCAN_TIME of the scan; 64 bits; 04 R101; reset 0 -/
  scanTime : Dword := 0
  deriving DecidableEq, Repr

/-- A lane of the Awn engine (R99). -/
structure AwnLane where
  /-- the lane's copy of the program memory; up to 65,536 x 32 bits; 04 R99; reset empty -/
  prog : List Word := []
  /-- the lane's copies of I, Q, M, W, K and the objects; 04 R99; reset 0 -/
  d : AwnData := {}
  /-- BA, bit accumulator; 1 bit; 04 R99, R102; reset 0 -/
  ba : Bool := false
  /-- WA, word accumulator; 32 bits; 04 R99, R102; reset 0 -/
  wa : Word := 0
  /-- branch stack, top first; up to 16 x 1 bit; 04 R113; reset empty -/
  stack : List Bool := []
  /-- system bit OV; 1 bit; 04 R112; reset 0 -/
  ov : Bool := false
  /-- step the lane executes next; 17 bits; 04 R99; reset 0 -/
  pc : Nat := 0
  /-- steps executed in the scan, LDL counted as 2; 17 bits; 04 R121; reset 0 -/
  steps : Nat := 0
  /-- lane signature register; 64 bits; 04 R121; reset all ones -/
  sig : Dword := BitVec.ofNat 64 (2 ^ 64 - 1)
  /-- close cause, none while the lane executes; 4 bits; 04 R122; reset none -/
  cause : Option Nat := none
  deriving DecidableEq, Repr

/-- The Awn engine (04). -/
structure Awn where
  /-- AWN quartet, 0x001C AWN_ERR_SCAN; 4 x 32 bits; 04 R131; reset 0 -/
  err : ErrBlk := {}
  /-- AWN_CTRL.EN; 1 bit; 04 R125; reset 0 -/
  en : Bool := false
  /-- AWN_CTRL.ACTIVE; 1 bit; 04 R125; reset 0 -/
  active : Bool := false
  /-- AWN_STATUS.STATE: 0 UNLOADED 1 IDLE 2 SCANNING 3 VOTING 4 PUBLISHING 5 HALTED; 3 bits; 04 AWN_STATUS; reset 0 -/
  state : Nat := 0
  /-- AWN_STATUS.LOADED; 1 bit; 04 AWN_STATUS; reset 0 -/
  loaded : Bool := false
  /-- AWN_STATUS.LIVE; 3 bits; 04 AWN_STATUS; reset 0 -/
  live : List Bool := [false, false, false]
  /-- AWN_STATUS.DEGRADED; 1 bit; 04 R124; reset 0 -/
  degraded : Bool := false
  /-- system bit DEGRADED of the scan, read from the next scan on; 1 bit; 04 R109, R124; reset 0 -/
  degradedScan : Bool := false
  /-- system bit FIRST of the scan; 1 bit; 04 R109; reset 0 -/
  first : Bool := false
  /-- no scan has started since EN rose; 1 bit; 04 R109; reset 0 -/
  firstNext : Bool := false
  /-- AWN_SCAN; 64 bits; 04 R106; reset 0 -/
  scan : Nat := 0
  /-- the three lanes; 04 R99; reset each at its reset values -/
  lanes : List AwnLane := [{}, {}, {}]
  /-- active bank of the published copy; 04 R106; reset 0 -/
  bank : AwnData := {}
  /-- the other bank of the published copy; 04 R106; reset 0 -/
  otherBank : AwnData := {}
  /-- the I area as merged and as written through Rachis, without input forces, by byte; 8,192 bits; 05 R147; reset 0 -/
  plainI : FMap Byte := []
  /-- shadow copy of the staged areas, by byte offset in the window, marked bytes only; 04 R104; reset empty -/
  staged : FMap (Option Byte) := []
  /-- start of the lane timer, ns; 04 R123; reset none -/
  laneSince : Option Nat := none
  /-- lane whose result the vote takes; 04 R123; reset none -/
  winner : Option Nat := none
  /-- AWN_LAST_SCAN; 17 bits; 04 AWN registers; reset 0 -/
  lastSteps : Nat := 0
  /-- AWN_SCAN_HW; 17 bits; 04 AWN registers; reset 0 -/
  hwSteps : Nat := 0
  /-- AWN_ABORTED; 12 bits; 04 R125; reset 0 -/
  aborted : Nat := 0
  /-- AWN_XFER_MOVED; 13 bits; 04 R130; reset 0 -/
  moved : Nat := 0
  /-- AWN_XFER_NEW; 13 bits; 04 R130; reset 0 -/
  newObjs : Nat := 0
  /-- AWN_XFER_DROPPED; 13 bits; 04 R130; reset 0 -/
  dropped : Nat := 0
  deriving DecidableEq, Repr

/-- An event record before it is written (R393). -/
structure Rec where
  /-- CODE; 16 bits; 19 R393 -/
  code : Nat
  /-- STATE; 8 bits; 19 R393 -/
  state : Nat
  /-- FLAGS; 8 bits; 19 R393 -/
  flags : Nat
  /-- POWER_CYCLE; 32 bits; 19 R393 -/
  power : Nat
  /-- SECONDS; 32 bits; 19 R393 -/
  secs : Nat
  /-- MS; 16 bits; 19 R393 -/
  ms : Nat
  /-- DETAIL; 16 bits; 19 R393 -/
  detail : Nat
  /-- DATA0; 32 bits; 19 R393 -/
  d0 : Word
  /-- DATA1; 32 bits; 19 R393 -/
  d1 : Word
  deriving DecidableEq, Repr

/-- The open interval of a rate-limited code (R396). -/
structure RateCell where
  code : Nat
  idx : Nat
  /-- instant the interval opened, ns -/
  since : Nat
  /-- occurrences since the interval's record -/
  count : Nat
  detail : Nat
  d1 : Word
  deriving DecidableEq, Repr

/-- Granary and the life counters (19). -/
structure Grn where
  /-- GRN quartet; 4 x 32 bits; 19 R405; reset 0 -/
  err : ErrBlk := {}
  /-- GRN_STATUS.READY; 1 bit; 19 R400; reset 0 -/
  ready : Bool := false
  /-- GRN_STATUS.FULL; 1 bit; 19 R397; reset 0 -/
  full : Bool := false
  /-- GRN_BASE_SEQ; 32 bits; 19 R395; reset 0 -/
  base : Nat := 0
  /-- GRN_NEXT_SEQ; 32 bits; 19 R395; reset 0 -/
  next : Nat := 0
  /-- GRN_LOST; 32 bits, saturating; 19 R397; reset 0 -/
  lost : Nat := 0
  /-- GRN_DROPPED; 32 bits, saturating; 19 R398; reset 0 -/
  dropped : Nat := 0
  /-- GRN_CLEARS, CLEAR_NUMBER; 32 bits; 19 R401; reset 0 -/
  clears : Nat := 0
  /-- GRN_POWER, the power-cycle count; 64 bits; 19 R400; reset 0 -/
  power : Nat := 0
  /-- records waiting, oldest first, at most 16; 19 R398; reset empty -/
  queue : List Rec := []
  /-- records dropped since the previous 0x2F13; 19 R398; reset 0 -/
  overflow : Nat := 0
  /-- open rate-limit intervals; 19 R396; reset empty -/
  rates : List RateCell := []
  /-- events kept by the supervisor in SUPERVISED, one per code, oldest first; 19 R393; reset empty -/
  held : List Rec := []
  /-- life increments held on the die, by MRAM offset of the 64-bit count; unlisted 0; 19 R403; reset 0 -/
  incr : FMap Nat := []
  deriving DecidableEq, Repr

end Sys2Proof.Machine
end

