-- ==== Sys2Proof/Machine/StPlant.lean ====
section
/-! DEFINITION. Parts of the machine's state: time, the memories, the control cycle, the budget scheduler, the supply
supervisor and the always-on domain. The docstrings and defaults are as in StCore.lean. -/

namespace Sys2Proof.Machine

/-- The module states of R4, with the powered-off state. -/
inductive Mode where
  | powerOff | supervised | boot | selftest | stop | run | hold | brace | safe | shutdown
  deriving DecidableEq, Repr

/-- Time as the module keeps it. -/
structure Clk where
  /-- the model's own clock, ns since its first state; no register; 00 R15 (timeouts); reset 0 -/
  now : Nat := 0
  /-- train time base, VYF_TIME, ns; 64 bits; 09 R217, 01 R35; reset 0 -/
  tb : Nat := 0
  /-- the train time base has been set; before, it runs freely from the release; 1 bit; 09 R217; reset 0 -/
  tbSet : Bool := false
  /-- correction to be slewed into the train time base over the first half of the next cycle, ns, signed; 09 R221; reset 0 -/
  slew : Int := 0
  /-- correction that is slewed over the first half of this cycle, ns, signed; 09 R221; reset 0 -/
  slewRun : Int := 0
  /-- share of a ns that RATE has gained or lost so far, in 10^-9 ns, signed; 09 R221; reset 0 -/
  frac : Int := 0
  deriving DecidableEq, Repr

/-- The memories off the die (07, 02, 17). -/
structure Mem where
  /-- DRAM, by byte offset from 0x1_0000_0000; 4 GiB, unlisted 0; 07 R170; reset cleared -/
  dram : FMap Byte := []
  /-- 8-byte DRAM beats that hold an uncorrectable error, by offset / 8; 07 R171; reset none -/
  dramBad : List Nat := []
  /-- MRAM, by byte offset from 0x0_0400_0000; 16 MiB, unlisted 0; 07 R173, R174; reset DESIGN CHOICE 0 (log 2) -/
  mram : FMap Byte := []
  /-- MRAM words that hold an uncorrectable error, by offset / 8; 07 R173; reset none -/
  mramBad : List Nat := []
  /-- boot NOR copy A, by byte offset; 256 MiB, unlisted 0xFF (erased); 02 R43, R44; reset erased -/
  norA : FMap Byte := []
  /-- boot NOR copy B, by byte offset; 256 MiB, unlisted 0xFF (erased); 02 R43, R44; reset erased -/
  norB : FMap Byte := []
  deriving DecidableEq, Repr

/-- A remote station (05 R138 to R142). -/
structure Stn where
  /-- CYC_STN_STAT.VALID; 1 bit; 05 R138; reset 0 -/
  valid : Bool := false
  /-- CYC_STN_STAT.LOST, as at the last freeze; 1 bit; 05 R138; reset 0 -/
  lost : Bool := false
  /-- CYC_STN_STAT.AGE; 8 bits; 05 R138; reset 0 -/
  age : Nat := 0
  /-- CYC_STN_STAT.DISCARDED; 16 bits, saturating; 05 R142; reset 0 -/
  discarded : Nat := 0
  /-- FRESH of the status word; 1 bit; 05 R138; reset 0 -/
  fresh : Bool := false
  /-- start-up state of R141; reset true (it ends at the first message) -/
  startUp : Bool := true
  /-- a loss episode is open; 05 R141; reset false -/
  episode : Bool := false
  /-- AGED raised in this episode; 05 R141; reset false -/
  aged : Bool := false
  /-- DISC raised in this episode; 05 R142; reset false -/
  disc : Bool := false
  /-- input words held; up to 64 x 32 bits; 05 R139; reset empty -/
  words : List Word := []
  /-- words of the last message handed to Glume; up to 64 x 32 bits; 05 R144; reset none -/
  sent : Option (List Word) := none
  deriving DecidableEq, Repr

/-- The cycle controller (05). -/
structure Cyc where
  /-- CYC quartet; 4 x 32 bits; 05 R154; reset 0 -/
  err : ErrBlk := {}
  /-- CYC_STATUS.MODE: 0 STOP 1 RUN 2 HOLD; 2 bits; 05 R144; reset 0 -/
  mode : Nat := 0
  /-- CYC_STATUS.PENDING and the instant the request was accepted, ns; 3 bits; 05 R145; reset none -/
  req : Option (Nat × Nat) := none
  /-- the change to STOP that R147 forces is pending; 05 R147; reset false -/
  forceStop : Bool := false
  /-- CYC_STATUS.PERMIT; 1 bit; 05 R147; reset 0 -/
  permit : Bool := false
  /-- CYC_CYCLE; 64 bits; 05 R132; reset 0 -/
  cycle : Nat := 0
  /-- the scan of this cycle has been triggered; 05 R133; reset false -/
  triggered : Bool := false
  /-- a boundary has fallen since hand-over; 05 R132; reset false -/
  begun : Bool := false
  /-- train time base at the next boundary, ns; 05 R132, 09 R217; reset none -/
  nextT0 : Option Nat := none
  /-- number of the cycle that begins there; 64 bits; 05 R132; reset 0 -/
  nextNum : Nat := 0
  /-- instant of the last boundary, ns of the model clock; 05 R133; reset 0 -/
  t0 : Nat := 0
  /-- train time base at the last boundary; 64 bits; 05 R136; reset 0 -/
  freezeTime : Nat := 0
  /-- phase of the cycle: 0 none, 1 merged, 2 released, 3 published; 05 R133; reset 0 -/
  phase : Nat := 0
  /-- the Awn scan of this cycle has published; 05 R135; reset false -/
  scanDone : Bool := false
  /-- CYC_SLACK_MIN; 16 bits; 05 registers; reset 0xFFFF -/
  slackMin : Nat := 65535
  /-- AUTORUN has requested RUN since start; 05 R145; reset false -/
  autorunDone : Bool := false
  /-- consecutive cycles in RUN or BRACE; 32 bits; 02 R69; reset 0 -/
  runCycles : Nat := 0
  /-- an exchange is in progress, CYC_STATUS.EXCH; 1 bit; 05 R151; reset 0 -/
  exch : Bool := false
  /-- CYC_EXCH_STATUS.DEFERRED; 4 bits; 05 R152; reset 0 -/
  deferred : Nat := 0
  /-- CYC_EXCH_STATUS.RESULT; 2 bits; 05 registers; reset 0 -/
  exchResult : Nat := 0
  /-- 0x2214 waits for the first published scan of the new program; 05 R151; reset false -/
  exchFirst : Bool := false
  /-- CYC_OLC_CTRL.COUNT; 5 bits; 05 R150; reset 0 -/
  olcCount : Nat := 0
  /-- CYC_OLC_ADDR, OLD, NEW of entries 0 to 15, by register offset; 48 x 32 bits; 05 R150; reset 0 -/
  olcRegs : FMap Word := []
  /-- CYC_OLC_STATUS.RESULT; 3 bits; 05 R150; reset 0 -/
  olcResult : Nat := 0
  /-- CYC_OLC_STATUS.FAIL_ENTRY; 4 bits; 05 R150; reset 0 -/
  olcFail : Nat := 0
  /-- CYC_FORCE of entries 0 to 63; 64 x 32 bits; 05 R148; reset 0 -/
  force : FMap Word := []
  /-- stations 0 to 127; 05 R138; reset each at its reset values -/
  stn : FMap Stn := []
  /-- local field bits I0 to I255 as frozen, bytes; 256 bits; 05 R136; reset 0 -/
  field : List Byte := List.replicate 32 0
  /-- Q image of the last publish, before forces, by byte; 8,192 bits; 05 R133, R144; reset 0 -/
  qOut : FMap Byte := []
  deriving DecidableEq, Repr

/-- A released, unfinished job (06 R155). -/
structure Job where
  /-- release instant, ns -/
  release : Nat
  /-- deadline instant, ns; none for Background -/
  deadline : Option Nat
  /-- the job has been named in SCH_RUNNING -/
  started : Bool
  /-- ungated time run, in sixteenths of a ns -/
  ran : Nat
  /-- its deadline has passed -/
  missed : Bool
  /-- BUDGET has been raised for it -/
  overrun : Bool
  deriving DecidableEq, Repr

/-- A task's run-time state (06). -/
structure TaskSt where
  /-- the released, unfinished job; 06 R159; reset none -/
  job : Option Job := none
  /-- SCH_TASK_STAT.MISSES; 16 bits, saturating; 06; reset 0 -/
  misses : Nat := 0
  /-- SCH_TASK_STAT.CONSEC; 4 bits; 06 R168; reset 0 -/
  consec : Nat := 0
  /-- SCH_TASK_SLACK.MIN_SLACK; 16 bits; 06; reset 0xFFFF -/
  minSlack : Nat := 65535
  /-- cycle of the last 0x3301 record of the task, plus 1; 06 R169; reset 0 (none) -/
  missCycle : Nat := 0
  /-- cycle in which a release of the task last fell due, plus 1; 06 R159; reset 0 (none) -/
  relCycle : Nat := 0
  deriving DecidableEq, Repr

/-- The dispatch registers of one position (06 R161). -/
structure Disp where
  /-- SCH_NEXT.TASK; 9 bits; 06; reset 0x100 -/
  next : Nat := 256
  /-- SCH_NEXT.PENDING; 1 bit; 06; reset 0 -/
  pending : Bool := false
  /-- SCH_RUNNING.TASK; 9 bits; 06; reset 0x100 -/
  running : Nat := 256
  /-- start of rung 4, ns; 06 R161; reset none -/
  since : Option Nat := none
  /-- instant up to which the running job's time is accounted, ns; 06 R165; reset 0 -/
  mark : Nat := 0
  deriving DecidableEq, Repr

/-- A triad's scheduler (06). -/
structure SchTriad where
  /-- dispatch registers of positions A, B, C; 06 R161; reset each at its reset values -/
  disp : List Disp := [{}, {}, {}]
  /-- SCH_TRIAD_STATE.SKIPS; 16 bits, saturating; 06; reset 0 -/
  skips : Nat := 0
  /-- SCH_TRIAD_STATE.GATE; 4 bits; 06 R165; reset 0 -/
  gate : Nat := 0
  /-- SCH_MISS.COUNT; 32 bits; 06; reset 0 -/
  miss : Nat := 0
  deriving DecidableEq, Repr

/-- A shed condition: set at a sample that meets it, left after its dwell (06 R164). -/
structure Shed where
  /-- the condition holds the level; reset false -/
  on : Bool := false
  /-- instant since which it has been clear by its margin, ns; reset none -/
  clearSince : Option Nat := none
  deriving DecidableEq, Repr

/-- The budget schedulers (06). -/
structure Sch where
  /-- SCH quartet; 4 x 32 bits; 06 R169; reset 0 -/
  err : ErrBlk := {}
  /-- SCH_TEMP.TEMP of sensors 0 to 7, quarter degrees, signed; 8 x 16 bits; 06 R163; reset 0 -/
  temp : List Int := [0, 0, 0, 0, 0, 0, 0, 0]
  /-- SCH_TEMP.FAULT of sensors 0 to 7; 8 x 1 bit; 06 R163; reset 0 -/
  faulted : List Bool := [false, false, false, false, false, false, false, false]
  /-- SCH_THERMAL.TMAX, quarter degrees, signed; 16 bits; 06 R163; reset 0 -/
  tmax : Int := 0
  /-- SCH_THERMAL.HEADROOM; 8 bits; 06; reset 0 -/
  headroom : Nat := 0
  /-- the last sample's TMAX was at or above the trip level; 06 R163; reset false -/
  hot : Bool := false
  /-- TRIP has been raised for the present excursion; 06 R163; reset false -/
  tripped : Bool := false
  /-- a sample has been taken since reset; 06 R163; reset false -/
  sampled : Bool := false
  /-- SCH_ENERGY.STORED in mJ; 16 bits; 06 R164; reset 0 -/
  stored : Nat := 0
  /-- SCH_ENERGY.BRACE; 1 bit; 08 R196; reset 0 -/
  brace : Bool := false
  /-- headroom below THERM_BG; 06 R164; reset clear -/
  thermBg : Shed := {}
  /-- headroom below THERM_SVC; 06 R164; reset clear -/
  thermSvc : Shed := {}
  /-- energy below ENERGY_BG; 06 R164; reset clear -/
  energyBg : Shed := {}
  /-- energy below ENERGY_SVC; 06 R164; reset clear -/
  energySvc : Shed := {}
  /-- BRACE holds level 2; 06 R164; reset false -/
  braceHold : Bool := false
  /-- SCH_LEVEL.LEVEL; 2 bits; 06 R164; reset 0 -/
  level : Nat := 0
  /-- SCH_LEVEL.DEMAND; 4 bits; 06 R165; reset 0 -/
  demand : Nat := 0
  /-- schedulers of triads 0 to 5; 06; reset each at its reset values -/
  triads : List SchTriad := List.replicate 6 {}
  /-- tasks 0 to 255; 06; reset each at its reset values -/
  tasks : FMap TaskSt := []
  deriving DecidableEq, Repr

/-- The supply supervisor (08), with what it holds across die resets (20). -/
structure Sup where
  /-- SUP quartet; 4 x 32 bits; 08 R201; reset 0 -/
  err : ErrBlk := {}
  /-- SUP_VIN, 10 mV; 16 bits; 08; reset 0 -/
  vin : Nat := 0
  /-- SUP_VBUS, 10 mV; 16 bits; 08; reset 0 -/
  vbus : Nat := 0
  /-- SUP_ENERGY, mJ; 16 bits; 08 R194; reset 0 -/
  energy : Nat := 0
  /-- SUP_LPLUS, 10 mV; 16 bits; 08; reset 0 -/
  lplus : Nat := 0
  /-- SUP_CAP, uF; 16 bits; 08 R191; reset 0 -/
  cap : Nat := 0
  /-- SUP_BRACE.DIPS; 8 bits; 08 R198; reset 0 -/
  dips : Nat := 0
  /-- SUP_BRACE.LAST_MS; 24 bits; 08 R198; reset 0 -/
  lastMs : Nat := 0
  /-- SUP_CFG.UN; 3 bits; 08 R188; reset 0 -/
  un : Nat := 0
  /-- value of the coding pins as read; 3 bits; 08 R188; reset 0 -/
  coding : Nat := 0
  /-- SUP_STATUS.INPUT_DISC; 1 bit; 08 R187; reset 0 -/
  disc : Bool := false
  /-- the disconnection was above the range; 08 R187; reset false -/
  discHigh : Bool := false
  /-- SUP_STATUS.INPUT_OK; 1 bit; 08; reset 0 -/
  inputOk : Bool := false
  /-- SUP_STATUS.WARN_LVL; 1 bit; 08; reset 0 -/
  warnLvl : Bool := false
  /-- SUP_STATUS.LPLUS_OK; 1 bit; 08; reset 0 -/
  lplusOk : Bool := false
  /-- SUP_STATUS.BRACE; 1 bit; 08; reset 0 -/
  brace : Bool := false
  /-- start of the fluctuation time, ns; 08 R187; reset none -/
  fluctSince : Option Nat := none
  /-- start of the surge time, ns; 08 R187; reset none -/
  surgeSince : Option Nat := none
  /-- start of the reconnect time, ns; 08 R187; reset none -/
  reconnSince : Option Nat := none
  /-- instant since which the input is outside its class window, ns; 08 R189; reset none -/
  winSince : Option Nat := none
  /-- INWIN raised for the present excursion; 08 R189; reset false -/
  winRaised : Bool := false
  /-- the last sample found L+ out of range; 08 R190; reset false -/
  lplusBad : Bool := false
  /-- LPLUS raised for the present excursion; 08 R190; reset false -/
  lplusRaised : Bool := false
  /-- consecutive samples with L+ below 12 V; 14 R320; reset 0 -/
  lplusLow : Nat := 0
  /-- the coding pins have been read since the last reset; 08 R188; reset false -/
  coded : Bool := false
  /-- rails that the last sample found out of tolerance; 08 R201; reset empty -/
  railBad : List Nat := []
  /-- start of the rail-fault time of each rail that is out, ns; 08 R201; reset empty -/
  railSince : List (Nat × Nat) := []
  /-- the reset level's request is given: a quench runs; start, ns; 08 R195; reset none -/
  quenchSince : Option Nat := none
  /-- instant BRACE was entered, ns; 08 R198; reset none -/
  braceSince : Option Nat := none
  /-- start of the BRACE dwell, ns; 08 R198; reset none -/
  dwellSince : Option Nat := none
  /-- open episodes of INWIN, LPLUS and CELL: code, and instant of the last occurrence or of the last sample with the condition, ns; 08 R201; reset empty -/
  episodes : List (Nat × Nat) := []
  /-- condition of the last cell measurement: low or missing; 08 R200; reset false -/
  cellBad : Bool := false
  /-- SUP_RESET_CAUSE, value of the last reset; 32 bits; 20 R413; reset 0 -/
  cause : Word := 0
  /-- SUP_START_TIME; 32 bits; 20; reset 0 -/
  startTime : Nat := 0
  /-- events, entries and instant of the quench that runs: entries released, events counted; 07 R183; reset 0, 0 -/
  quenchEntries : Nat := 0
  /-- events counted and not recorded in the quench that runs; 07 R182; reset 0 -/
  quenchEvents : Nat := 0
  deriving DecidableEq, Repr

/-- The always-on domain (08 R199, R200). -/
structure Aon where
  /-- operating-seconds count; 64 bits; 07 R180; reset kept by the cell, else 0 -/
  secs : Nat := 0
  /-- ns of logic supply since the count last advanced; 08 R200; reset 0 -/
  secNs : Nat := 0
  /-- real-time clock seconds; 64 bits; 08 R200; reset kept by the cell, else DESIGN CHOICE 0 (log 2) -/
  rtc : Nat := 0
  /-- sub-second count, 1/32,768 s; 15 bits; 08 R200; reset kept by the cell, else DESIGN CHOICE 0 (log 2) -/
  rtcSub : Nat := 0
  /-- ns x 32,768 since the sub-second count last advanced; 08 R200; reset 0 -/
  rtcFrac : Nat := 0
  /-- AON_STATUS.KEPT; 1 bit; 08 R200; reset 0 -/
  kept : Bool := false
  /-- the count is the module's: the domain kept it, or it has been set at this start; 07 R181; reset false -/
  whole : Bool := false
  /-- the last cell measurement found the cell at or above 1.80 V, so that it keeps the domain in POWER-OFF; 08 R200; reset false -/
  alive : Bool := false
  /-- AON_SNAP.DONE; 1 bit; 08; reset 0 -/
  done : Bool := false
  /-- instant of the last snapshot request not yet done, ns; 08, 01 R35; reset none -/
  snapSince : Option Nat := none
  /-- AON_SECONDS, the last snapshot; 64 bits; 08; reset 0 -/
  snapSecs : Nat := 0
  /-- AON_RTC, the last snapshot; 64 bits; 08; reset 0 -/
  snapRtc : Nat := 0
  /-- AON_RTC_SUB, the last snapshot; 15 bits; 08; reset 0 -/
  snapSub : Nat := 0
  /-- AON_RTC_SET_LO; 32 bits; 08; reset 0 -/
  setLo : Word := 0
  /-- AON_RTC_SET_HI; 32 bits; 08; reset 0 -/
  setHi : Word := 0
  /-- AON_STATUS.CELL_MV; 12 bits; 08; reset 0 -/
  cellMv : Nat := 0
  /-- AON_STATUS.CELL_LOW; 1 bit; 08; reset 0 -/
  cellLow : Bool := false
  /-- AON_STATUS.CELL_MISSING; 1 bit; 08; reset 0 -/
  cellMissing : Bool := false
  deriving DecidableEq, Repr

end Sys2Proof.Machine
end

