-- ==== Sys2Proof/Machine/StBoot.lean ====
section
/-! DEFINITION. Parts of the machine's state: the loaded image's contents that no register shows, the fuses, the security
engine, Thresh, and the module's own state machine. The docstrings and defaults are as in StCore.lean. -/

namespace Sys2Proof.Machine

/-- A memory partition (02 R57). -/
structure Part where
  id : Nat
  /-- true for MRAM -/
  mram : Bool
  clear : Bool
  shared : Bool
  /-- bit n set: initiator n owns the partition -/
  owners : Nat
  page : Nat
  count : Nat
  deriving DecidableEq, Repr

/-- A declared task (06 R157); CLASS, INSTANCE, ACTION and MISS_LIMIT are also in SCH_TASK_CFG. -/
structure Task where
  cls : Nat
  inst : Nat
  action : Nat
  missLimit : Nat
  every : Nat
  phase : Nat
  offset : Nat
  deadline : Nat
  wcet : Nat
  deriving DecidableEq, Repr

/-- A slot descriptor (09 R215). -/
structure Slot where
  offset : Nat
  length : Nat
  /-- 1 HUB_RX 2 HUB_TX 3 PAIR_TX 4 PAIR_RX -/
  kind : Nat
  port : Nat
  bytes : Nat
  buffer : Nat
  deriving DecidableEq, Repr

/-- A schedule mode (09 R214). -/
structure SMode where
  periodUs : Nat
  earOffset : Nat
  maxRound : Nat
  kslots : Nat
  rslots : Nat
  klen16 : Nat
  rlen16 : Nat
  slots : List Slot
  deriving DecidableEq, Repr

/-- A Glume connection entry (13 R299). -/
structure ConnEnt where
  used : Bool
  transport : Nat
  endNo : Nat
  send : Bool
  recv : Bool
  key : List Byte
  peer : Nat
  remote : Nat
  txWords : Nat
  rxWords : Nat
  seqGap : Nat
  ageMax : Nat
  timeout : Nat
  confirm : Nat
  deriving DecidableEq, Repr

/-- An object table entry of an Awn program (04 R126): TAG, KIND (or USED), BASE, PRESET_K, INIT. -/
structure AwnObj where
  tag : Nat
  kind : Nat
  base : Nat
  preset : Nat
  init : Word
  deriving DecidableEq, Repr

/-- An initial-value entry (04 R126). -/
structure AwnInit where
  area : Nat
  onExchange : Bool
  index : Nat
  value : Word
  deriving DecidableEq, Repr

/-- An Awn program (04 R126). -/
structure AwnProg where
  steps : List Word
  konst : List Word
  timers : List AwnObj
  counters : List AwnObj
  edges : List AwnObj
  inits : List AwnInit
  id : Nat
  wcet : Nat
  deriving DecidableEq, Repr

/-- The loaded image (02 to 16): contents that the LK registers do not hold. Empty until a load. -/
structure Img where
  /-- an image is loaded; 02 R70; reset false -/
  loaded : Bool := false
  /-- IMAGE_ID; 16 bytes; 02 R46; reset empty -/
  imageId : List Byte := []
  /-- SECURITY_VERSION; 16 bits; 02 R46; reset 0 -/
  secVersion : Nat := 0
  /-- CONFIRM_CYCLES; 32 bits; 02 R46; reset 0 -/
  confirmCycles : Nat := 0
  /-- partitions; up to 256; 02 R57; reset empty -/
  parts : List Part := []
  /-- CORE_IMAGE instances: INSTANCE, LOAD_ADDR, ENTRY; up to 24; 02 R56; reset empty -/
  cores : List (Nat × Nat × Nat) := []
  /-- locked PMP entries of triads 0 to 5: CFG and ADDR; up to 16 each; 02 R61; reset empty -/
  pmp : List (List (Nat × Nat)) := []
  /-- DEBUG_POLICY; 8 bits; 02 R60; reset 0 LOCKED -/
  debugPolicy : Nat := 0
  /-- PAIR_MODE; 1 bit; 02 R63; reset 0 -/
  pairMode : Bool := false
  /-- BACKBONE; 1 bit; 02 R63; reset 0 -/
  backbone : Bool := false
  /-- VEHICLE_ID; 32 bits; 11 R248; reset 0 -/
  vehicleId : Nat := 0
  /-- END1_PORT; 1 bit; 11 R248; reset 0 -/
  end1Port : Nat := 0
  /-- SETTLE; 8 bits; 11 R248; reset 0 -/
  settle : Nat := 0
  /-- RELAY.GATEWAY; 1 bit; 11 R248; reset 0 -/
  gateway : Bool := false
  /-- RELAY.TARGET; 1 bit; 11 R248; reset 0 -/
  target : Bool := false
  /-- ENGINE payloads 0 to 5; 02 R52; reset empty -/
  engines : List (List Byte) := []
  /-- declared tasks; up to 256; 06 R157; reset empty -/
  tasks : List Task := []
  /-- a FIELD_IO section is loaded; 02 R52; reset false -/
  fio : Bool := false
  /-- schedule modes, empty without a VYFABIN section; up to 4; 09 R214; reset empty -/
  modes : List SMode := []
  /-- HUB buffers: DIR and PORT, empty without a HUB section; up to 256; 10 R243; reset empty -/
  hubBufs : List (Nat × Nat) := []
  /-- CAN sections loaded, controllers 0 and 1; 15 R337; reset false, false -/
  can : List Bool := [false, false]
  /-- Glume connections, entry i for connection i; up to 512; 13 R299; reset empty -/
  conns : List ConnEnt := []
  /-- Awn program; 04 R126; reset none -/
  awn : Option AwnProg := none
  /-- a CULM section is loaded; 02 R52; reset false -/
  culm : Bool := false
  deriving DecidableEq, Repr

/-- The one-time fuses (17 R361). -/
structure Fuse where
  /-- SERIAL; 64 bits; 17 R361; reset factory, DESIGN CHOICE 0 (log 2) -/
  serial : Nat := 0
  /-- PUF helper data; 2,048 bytes; 17 R361; reset factory, DESIGN CHOICE empty (log 2) -/
  helper : List Byte := []
  /-- device certificate; up to 1,024 bytes; 17 R361; reset factory, DESIGN CHOICE empty (log 2) -/
  cert : List Byte := []
  /-- signing key slots 0 to 3; 4 x 96 bytes; 17 R361; reset factory, DESIGN CHOICE slot 0 of zeros, others empty (log 2) -/
  slots : List (Option (List Byte)) := [some (List.replicate 96 0), none, none, none]
  /-- revoke bits; 4 bits; 17 R361; reset 0 -/
  revoked : List Bool := [false, false, false, false]
  /-- A0_DISABLE; 1 bit; 17 R361; reset 0 -/
  a0Disable : Bool := false
  /-- anti-rollback thermometer fuses blown; 0 to 255; 17 R366; reset 0 -/
  rollback : Nat := 0
  /-- factory repairs: bank, spare, row; 07 R172; reset DESIGN CHOICE none (log 2) -/
  repairs : List (Nat × Nat × Nat) := []
  deriving DecidableEq, Repr

/-- A slot of a record of the security area: its sequence, its data, and whether what it holds still checks (07 R178). -/
structure SecSlot where
  seq : Nat
  data : List Byte
  good : Bool
  deriving DecidableEq, Repr

/-- A record of the security area, kept in two slots (17 R363, 07 R178). -/
structure SecRec where
  s0 : Option SecSlot := none
  s1 : Option SecSlot := none
  deriving DecidableEq, Repr

/-- The records of the security area of MRAM (17 R363), as the engine reads them. -/
structure SecArea where
  /-- anchor A1, a P-384 public key; two slots of 96 bytes; 17 R363; reset absent -/
  a1 : SecRec := {}
  /-- anchor A2; two slots of 96 bytes; 17 R363; reset absent -/
  a2 : SecRec := {}
  /-- image key 0; two slots of 32 bytes; 17 R363; reset absent -/
  key0 : SecRec := {}
  /-- image key 1; two slots of 32 bytes; 17 R363; reset absent -/
  key1 : SecRec := {}
  deriving DecidableEq, Repr

/-- A maintenance session (17 R370). -/
structure Session where
  /-- session number 0 to 3 -/
  id : Nat
  relayed : Bool
  /-- stream of a relayed session: gateway address and STREAM -/
  stream : Option (Nat × Nat)
  /-- instant of the last request, ns -/
  idle : Nat
  /-- last nonce issued, and its instant, ns; none once used -/
  nonce : Option (List Byte × Nat)
  /-- PRIV granted; 11 bits -/
  priv : Nat
  /-- NOT_AFTER of the token; 64 bits -/
  notAfter : Nat
  /-- AUTH_ID of the token; 32 bits -/
  authId : Word
  deriving DecidableEq, Repr

/-- An installation that runs (02 R68). -/
structure Install where
  /-- session that began it -/
  ses : Nat
  /-- target copy B -/
  copyB : Bool
  /-- length announced -/
  len : Nat
  /-- new SEQUENCE -/
  seq : Nat
  /-- bytes programmed so far -/
  got : Nat
  /-- IMAGE_END received -/
  ended : Bool
  /-- TAG of IMAGE_END -/
  tag : Nat := 0
  deriving DecidableEq, Repr

/-- The security engine and the image registers (17, 02). -/
structure Sec where
  /-- SEC quartet; 4 x 32 bits; 17 R376, 02 R65; reset 0 -/
  err : ErrBlk := {}
  /-- SEC_STATUS.READY; 1 bit; 17 R362; reset 0 -/
  ready : Bool := false
  /-- the self-test failed: the start stops; 17 R362; reset false -/
  failed : Bool := false
  /-- SEC_STATUS.RECOVERY; 1 bit; 02 R67; reset 0 -/
  recovery : Bool := false
  /-- SEC_STATUS.DEBUG; 1 bit; 17 R375; reset 0 -/
  debug : Bool := false
  /-- the clock has been set since start; 17 R369; reset false -/
  clockSet : Bool := false
  /-- the root and every derived key are held; 17 R362; reset false -/
  keys : Bool := false
  /-- a health test of the random generator has failed; 17 R367; reset false -/
  rngFailed : Bool := false
  /-- the maintenance port is closed by a fault of domain 10 or 13; 01 R33; reset false -/
  portClosed : Bool := false
  /-- open sessions; at most 4; 17 R370; reset empty -/
  sessions : List Session := []
  /-- SEC_PROT_LOCK.LOCK; 1 bit; 02 R71; reset 0 -/
  lock : Bool := false
  /-- SEC_BOOT_INFO.COPY; 1 bit; 02; reset 0 -/
  copyB : Bool := false
  /-- SEC_BOOT_INFO.FALLBACK; 1 bit; 02; reset 0 -/
  fallback : Bool := false
  /-- SEC_BOOT_INFO.TRIAL; 1 bit; 02; reset 0 -/
  trial : Bool := false
  /-- SEC_IMAGE_VERSION; 32 bits; 02; reset 0 -/
  version : Word := 0
  /-- SEC_IMAGE_SEQ; 32 bits; 02; reset 0 -/
  seq : Word := 0
  /-- SHA-384 digest of the running copy; 48 bytes; 17 R365; reset empty -/
  digest : List Byte := []
  /-- an installation runs; 02 R68; reset none -/
  install : Option Install := none
  /-- SEC_RNG.VALUE given by the last read, for the response; 32 bits; 17 R367; reset 0 -/
  rngLast : Word := 0
  deriving DecidableEq, Repr

/-- Thresh (18). -/
structure Thr where
  /-- THR quartet; 4 x 32 bits; 18 R388; reset 0 -/
  err : ErrBlk := {}
  /-- THR_STATUS.HOLDSAFE; 1 bit; 18 R387; reset 0 -/
  holdSafe : Bool := false
  /-- THR_STATUS.FLAG; 1 bit; 18 R387; reset 0 -/
  flag : Bool := false
  /-- THR_STATUS.QUICK; 1 bit; 18 R385; reset 0 -/
  quick : Bool := false
  /-- THR_STATUS.SOURCE, true for a start-up BIST; 1 bit; 18; reset 0 -/
  source : Bool := false
  /-- THR_STATUS.STATE; 3 bits; 18; reset 0 -/
  state : Nat := 0
  /-- THR_RETIRED, cores; 20 bits; 18 R384; reset 0 -/
  retired : List Nat := []
  /-- THR_UNIT_FAIL.VOTER, triads; 6 bits; 18 R383; reset 0 -/
  voter : List Nat := []
  /-- THR_UNIT_FAIL.L2, triads; 6 bits; 18 R383; reset 0 -/
  l2 : List Nat := []
  /-- THR_UNIT_FAIL.AWN, lanes; 3 bits; 18 R383; reset 0 -/
  awn : List Nat := []
  /-- EXHAUSTED, exhausted banks of unit 29, as the verdict counts them; 16 bits; 18 R383; reset 0 -/
  exhausted : Nat := 0
  /-- THR_REPAIRS.EXHAUSTED, exhausted banks of all units; 16 bits; 18; reset 0 -/
  exhAll : Nat := 0
  /-- field repairs applied: bank, spare, row; 18 R383; reset empty -/
  repairs : List (Nat × Nat × Nat) := []
  /-- THR_EXCL, exclusion counts of cores 0 to 19; 20 x 8 bits; 18; reset 0 -/
  excl : List Nat := List.replicate 20 0
  /-- THR_LAST.RETESTS; 8 bits; 18; reset 0 -/
  retests : Nat := 0
  /-- THR_LAST.DURATION; 16 bits; 18; reset 0 -/
  duration : Nat := 0
  /-- cores excluded in this session; 03 R88; reset empty -/
  excluded : List Nat := []
  /-- cores found FAILED_TEST in this session; 03 R94; reset empty -/
  failedTest : List Nat := []
  /-- the stored verdict has been read and applied at this start; 18 R385; reset false -/
  applied : Bool := false
  /-- the run that waits for its verdict: what it observed; 18 R378; reset none -/
  run : Option ThreshObs := none
  /-- test units that Thresh has isolated and holds in reset; 29 x 1 bit; 18 R380; reset none -/
  isolated : List Nat := []
  deriving DecidableEq, Repr

/-- The module's start, state and shut-down (20). -/
structure Mod where
  /-- module state; 00 R4; reset SUPERVISED (20 R195, R412) -/
  mode : Mode := .supervised
  /-- the whole DRAM has been cleared in this BOOT; 07 R170; reset false -/
  dramDone : Bool := false
  /-- IMAGE_SELECT has run: candidates left, first in order first, true for copy B; 02 R66; reset none -/
  candidates : Option (List Bool) := none
  /-- first candidate in order; 02 R66; reset none -/
  first : Option Bool := none
  /-- the copy that passed; true for copy B; 02 R66; reset none -/
  chosen : Option Bool := none
  /-- the start-up BIST is done or not needed; 18 R386; reset false -/
  bistDone : Bool := false
  /-- hand-over goes into SAFE; 20 R408; reset false -/
  toSafe : Bool := false
  /-- core that runs boot code; 20 R407; reset 0 -/
  bootCore : Nat := 0
  /-- instant of the release into BOOT, ns; 20; reset 0 -/
  releasedAt : Nat := 0
  /-- instant of hand-over, ns; 20 R407; reset none -/
  handedAt : Option Nat := none
  /-- SUP_START_TIME.RUN has been set in this start; 20; reset false -/
  ranOnce : Bool := false
  /-- the lamp test runs; 22 R440; reset false -/
  lamp : Bool := false
  /-- a shut-down request is held or a shut-down runs (SUP_SHUTDOWN_CTRL.PENDING); 20 R414; reset 0 -/
  shutPending : Bool := false
  /-- RESTART of the request; 20 R415; reset false -/
  restart : Bool := false
  /-- SUP_SHUTDOWN_CTRL.READY_MAP; 6 bits; 20; reset 0 -/
  ready : Nat := 0
  /-- shut-down step reached, 0 none, 1 hand-off, 3 grace, 4 drained, 5 Thresh; 20 R415; reset 0 -/
  shutStep : Nat := 0
  /-- cycle in which the hand-off of step 1 began; 20 R415; reset none -/
  handoff : Option Nat := none
  /-- instant the grace began, ns; 20 R415; reset none -/
  graceSince : Option Nat := none
  /-- SUP_SHUTDOWN_CTRL.SDREQ, filtered level; 1 bit; 20 R414; reset 0 -/
  sdreq : Bool := false
  /-- instant at which SDREQ was last found active, ns; 20 R414, R415; reset none -/
  sdreqAt : Option Nat := none
  /-- the shut-down request came from SDREQ; 20 R414, R415; reset false -/
  pinReq : Bool := false
  /-- the supervisor holds the die after a shut-down without RESTART, and whether the input has been disconnected since; 20 R415; reset none -/
  hold : Option Bool := none
  /-- an AUTORUN or maintenance request waits for nothing more: SAFE was entered in this start; 00 R4; reset false -/
  safeSeen : Bool := false
  deriving DecidableEq, Repr

end Sys2Proof.Machine
end

