-- ==== Sys2Proof/Machine/StField.lean ====
section
/-! DEFINITION. Parts of the machine's state: safe field I/O, the CAN controllers, the Culm bridge. The docstrings and
defaults are as in StCore.lean. -/

namespace Sys2Proof.Machine

/-- An episode of a condition that gives one record per channel (14 R324): the condition holds, or cleared at an instant. -/
structure Epi where
  /-- a record was given and the episode has not ended -/
  on : Bool := false
  /-- instant the condition cleared, ns; none while it holds -/
  cleared : Option Nat := none
  deriving DecidableEq, Repr

/-- An input or feedback input (14 R304 to R310). -/
structure Din where
  /-- FIO_DI_STAT.VOLTS (FIO_FB_STAT.VOLTS), path A, 50 mV; 12 bits; 14; reset 0 -/
  volts : Nat := 0
  /-- classes of the last sample of path A and of path B: 0 LOW 1 HIGH 2 UNDEF 3 BREAK; 14 R304; reset 0, 0 -/
  clsA : Nat := 0
  /-- class of the last sample on path B; 14 R304; reset 0 -/
  clsB : Nat := 0
  /-- FIO_DI_STAT.CLASS, the class the filter took; 2 bits; 14; reset 0 -/
  cls : Nat := 0
  /-- FIO_DI_STAT.COUNT, value filter; 8 bits; 14 R308; reset 0 -/
  count : Nat := 0
  /-- fault count; 8 bits; 14 R308; reset 0 -/
  fault : Nat := 0
  /-- filtered value; 1 bit; 14 R308; reset 0 -/
  value : Bool := false
  /-- quality lost to a wire break; 14 R308; reset false -/
  broken : Bool := false
  /-- quality lost to overvoltage; 14 R305; reset false -/
  overv : Bool := false
  /-- consecutive samples above 36 V; 14 R305; reset 0 -/
  high36 : Nat := 0
  /-- consecutive samples below 30 V; 14 R305; reset 0 -/
  low30 : Nat := 0
  /-- consecutive samples whose paths differ; 14 R306; reset 0 -/
  differ : Nat := 0
  /-- FIO_DI_STAT.PATHLK; 1 bit; 14 R306; reset 0 -/
  path : Bool := false
  /-- FIO_DI_STAT.PENDING; 1 bit; 14 R310; reset 0 -/
  pending : Bool := false
  /-- consecutive LOW samples of the start-up test; 14 R310; reset 0 -/
  lows : Nat := 0
  /-- WBREAK episode; 14 R324; reset closed -/
  epiBreak : Epi := {}
  /-- OVERV episode; 14 R324; reset closed -/
  epiOver : Epi := {}
  deriving DecidableEq, Repr

/-- An output channel (14 R311 to R319). -/
structure Dout where
  /-- FIO_DQ_STAT.CMD, the high side's commanded state; 1 bit; 14; reset 0 -/
  cmd : Bool := false
  /-- command of the last image that arrived; 1 bit; 14 R313; reset 0 -/
  want : Bool := false
  /-- instant of the high side's last change, ns; 14 R315; reset none -/
  changed : Option Nat := none
  /-- readback classes of paths A and B, HIGH true; 14 R312; reset LOW -/
  rbA : Bool := false
  /-- readback class of path B; 14 R312; reset LOW -/
  rbB : Bool := false
  /-- FIO_DQ_STAT.READBACK, filtered readback; 1 bit; 14; reset 0 -/
  rb : Bool := false
  /-- consecutive samples whose paths differ; 14 R306; reset 0 -/
  differ : Nat := 0
  /-- consecutive HIGH samples while off beyond SETTLE; 14 R315; reset 0 -/
  highs : Nat := 0
  /-- cross-fault latched; 14 R315; reset false -/
  cross : Bool := false
  /-- feedback fault latched; 14 R319; reset false -/
  fbk : Bool := false
  /-- PATH latched; 14 R306; reset false -/
  path : Bool := false
  /-- overload latched; 14 R318; reset false -/
  ovl : Bool := false
  /-- FIO_DQ_STAT.CAUSE; 4 bits; 14; reset 0 -/
  cause : Nat := 0
  /-- FIO_DQ_STAT.PARTNER; 4 bits; 14 R316; reset 0 -/
  partner : Nat := 0
  /-- FIO_DQ_STAT.FINAL; 1 bit; 14 R316; reset 0 -/
  final : Bool := false
  /-- the fault was latched before the round that runs began; 14 R316; reset false -/
  inRound : Bool := false
  /-- FIO_DQ_STAT.OPENLOAD; 1 bit; 14 R318; reset 0 -/
  openLoad : Bool := false
  /-- FIO_DQ_STAT.CURRENT, mA; 16 bits; 14; reset 0 -/
  current : Nat := 0
  /-- an off-pulse of the channel runs, since, ns; 14 R314; reset none -/
  pulse : Option Nat := none
  /-- readback at the last sample before another channel's pulse, LOW seen within it: named by that pulse; 14 R316; reset false -/
  before : Bool := false
  /-- LOW at a sample within the other channel's pulse; 14 R316; reset false -/
  lowIn : Bool := false
  /-- pull-in or drop-out running since, ns; 14 R319; reset none -/
  fbSince : Option Nat := none
  /-- FBn has shown the new state since the switch changed; 14 R319; reset false -/
  fbSeen : Bool := false
  /-- cause of the feedback fault latched: 4 WELDED, 5 PULL_IN, 6 STEADY; 14 R319, R322; reset 0 -/
  fbCause : Nat := 0
  /-- OPENLOAD episode; 14 R324; reset closed -/
  epiOpen : Epi := {}
  deriving DecidableEq, Repr

/-- An output group (14 R313, R317, R318). -/
structure Group where
  /-- FIO_GROUP.CLOSED; 1 bit; 14 R313; reset 0 -/
  closed : Bool := false
  /-- the closed switch is open for its slot test, since, ns; 14 R314; reset none -/
  test : Option Nat := none
  /-- group current trip latched; 14 R318; reset false -/
  gover : Bool := false
  /-- group switch test failed, latched; 14 R318; reset false -/
  gsw : Bool := false
  /-- cross-fault with cause RETURN latched; 14 R317; reset false -/
  ret : Bool := false
  /-- FIO_GROUP.CURRENT, mA; 16 bits; 14; reset 0 -/
  current : Nat := 0
  deriving DecidableEq, Repr

/-- The field I/O block (14). -/
structure Fio where
  /-- FIO quartet; 4 x 32 bits; 14 R324; reset 0 -/
  err : ErrBlk := {}
  /-- the block runs: hand-over has passed; 14 R308, R310; reset false -/
  on : Bool := false
  /-- DI00 to DI39; 14; reset each at its reset values -/
  di : List Din := List.replicate 40 {}
  /-- FB00 to FB15; 14; reset each at its reset values -/
  fb : List Din := List.replicate 16 {}
  /-- DQ00 to DQ15; 14; reset each at its reset values -/
  dq : List Dout := List.replicate 16 {}
  /-- output groups 0 and 1; 14; reset each at its reset values -/
  groups : List Group := [{}, {}]
  /-- FIO_STATUS.LPLUS_USABLE; 1 bit; 14 R320; reset 0 -/
  usable : Bool := false
  /-- L+ has stayed in 19.2 V to 30.0 V since, ns; 14 R320; reset none -/
  goodSince : Option Nat := none
  /-- L+ has been lost and not come back; 14 R320; reset false -/
  lost : Bool := false
  /-- FIO_STATUS.RECORD_LOST; 1 bit; 14 R321; reset 0 -/
  recordLost : Bool := false
  /-- a test round runs: its start, ns; 14 R314; reset none -/
  round : Option Nat := none
  /-- next slot of the round, 0 to 18; 14 R314; reset 0 -/
  slot : Nat := 0
  /-- start of the last round, ns (hand-over before the first); 14 R314; reset 0 -/
  roundAt : Nat := 0
  /-- the round that runs has been disturbed by a loss of L+; 14 R320; reset false -/
  roundBad : Bool := false
  /-- the channel whose off-pulse ended last, and when, ns; 14 R316; reset none -/
  lastPulse : Option (Nat × Nat) := none
  /-- image handed over at publish: commands of DQ00 to DQ15, whether it is a STOP image, instant, ns; 14 R313; reset none -/
  image : Option (List Bool × Nat) := none
  deriving DecidableEq, Repr

/-- A CAN message object (15 R328 to R331). -/
structure CanObj where
  /-- CANn_OBJ_CTRL.EN; 1 bit; 15 R333; reset 0 -/
  en : Bool := false
  /-- CANn_OBJ_CTRL.ACTIVE; 1 bit; 15 R333; reset 0 -/
  active : Bool := false
  /-- CANn_OBJ_CTRL.PENDING; 1 bit; 15 R331; reset 0 -/
  pending : Bool := false
  /-- CANn_OBJ_CTRL.OUTCOME; 4 bits; 15 R331; reset 0 -/
  outcome : Nat := 0
  /-- cycle in which the item became pending, plus 1 (0 before the first boundary); 15 R331; reset 0 -/
  since : Nat := 0
  /-- the item's deadline has passed: no further attempt; 15 R331; reset false -/
  last : Bool := false
  /-- the item was aborted by a disable: no further attempt; 15 R333; reset false -/
  disabled : Bool := false
  /-- instant at which EN fell, bits [31:0] of the train time base; 15 R333; reset none -/
  fell : Option Word := none
  /-- CANn_OBJ_DATA; 64 bytes; 15; reset 0 -/
  data : FMap Byte := []
  /-- CANn_OBJ_STAT.SEQ; 16 bits; 15 R330; reset 0 -/
  seq : Nat := 0
  /-- CANn_OBJ_STAT.DLC; 4 bits; 15; reset 0 -/
  dlc : Nat := 0
  /-- CANn_OBJ_STAT.OVR; 1 bit; 15 R330; reset 0 -/
  ovr : Bool := false
  /-- CANn_OBJ_STAT.NEW; 1 bit; 15 R330; reset 0 -/
  new : Bool := false
  /-- CANn_OBJ_RXID; 29 bits; 15; reset 0 -/
  rxId : Nat := 0
  /-- CANn_OBJ_TIME; 32 bits; 15; reset 0 -/
  time : Word := 0
  deriving DecidableEq, Repr

/-- A CAN controller (15). -/
structure Can where
  /-- CAN quartet; 4 x 32 bits; 15 R339; reset 0 -/
  err : ErrBlk := {}
  /-- CANn_CTRL.EN; 1 bit; 15 R333; reset 0 -/
  en : Bool := false
  /-- CANn_CTRL.ACTIVE; 1 bit; 15 R333; reset 0 -/
  active : Bool := false
  /-- instant at which EN fell, bits [31:0] of the train time base; 15 R333; reset none -/
  fell : Option Word := none
  /-- CANn_STATUS.STATE: 0 OFF 1 INTEGRATING 2 ERROR_ACTIVE 3 ERROR_PASSIVE 4 BUS_OFF 5 RECOVERING; 3 bits; 15; reset 0 -/
  state : Nat := 0
  /-- CANn_ERRCNT.TEC; 8 bits; 15; reset 0 -/
  tec : Nat := 0
  /-- receive error counter (CANn_ERRCNT.RP and REC); 8 bits; 15; reset 0 -/
  recErr : Nat := 0
  /-- CANn_TDC.TDCV; 7 bits; 15 R327; reset 0 -/
  tdcv : Nat := 0
  /-- CANn_REF_CYCLE; 32 bits; 15; reset 0 -/
  refCycle : Word := 0
  /-- CANn_REF_SOF; 32 bits; 15; reset 0 -/
  refSof : Word := 0
  /-- CANn_COUNT.UNMATCHED; 16 bits, saturating; 15; reset 0 -/
  unmatched : Nat := 0
  /-- CANn_COUNT.REF_MISSED; 16 bits, saturating; 15; reset 0 -/
  refMissed : Nat := 0
  /-- message objects 0 to 127; 15; reset each at its reset values -/
  objs : FMap CanObj := []
  /-- the reference item is pending: its data; 15 R335; reset none -/
  ref : Option (List Byte) := none
  /-- cycle in which the last reference item became pending, plus 1; 15 R335; reset 0 -/
  refSince : Nat := 0
  /-- the reference item's deadline has passed, its frame is on the bus; 15 R331; reset false -/
  refLast : Bool := false
  /-- the reference item's controller was disabled, its frame is on the bus; 15 R333; reset false -/
  refDisabled : Bool := false
  /-- T0 + REF_OFFSET of the pending reference on the train time base, ns; 15 R335; reset 0 -/
  refDue : Nat := 0
  /-- LAST_DELAY for the next reference; 24 bits; 15 R335; reset DEDUCED 0xFF_FFFF (no previous reference was sent) -/
  lastDelay : Nat := 16777215
  /-- the item on the bus: object number, 128 for the reference; 15 R331; reset none -/
  onBus : Option Nat := none
  /-- instant of bus-off, ns; 15 R334; reset none -/
  boffSince : Option Nat := none
  /-- a reference was received in this cycle; 15 R336; reset false -/
  refSeen : Bool := false
  /-- consecutive cycles without a reference received; 15 R336; reset 0 -/
  refSilent : Nat := 0
  /-- REFLOST episode is open; 15 R339; reset false -/
  refEpi : Bool := false
  deriving DecidableEq, Repr

/-- An outbound item the bridge has accepted (16 R350). -/
structure CulmOut where
  /-- the transaction -/
  item : CulmItem
  /-- its window -/
  win : Nat
  /-- already answered on Rachis -/
  posted : Bool
  /-- prefetch fill: the block is read for a buffer -/
  prefetch : Bool
  /-- instant of acceptance, ns -/
  since : Nat
  /-- it belongs to the retry set -/
  inSet : Bool
  /-- words of the burst already transferred -/
  doneWords : Nat
  /-- bytes received so far, in ascending Culm address -/
  got : List Byte
  deriving DecidableEq, Repr

/-- A prefetch buffer (16 R354). -/
structure CulmBuf where
  /-- window -/
  win : Nat
  /-- aligned physical address of the block -/
  block : Nat
  /-- the 64 bytes as Rachis sees them -/
  data : List Byte
  /-- mask of unread words -/
  unread : Nat
  /-- instant of the fill, ns -/
  since : Nat
  deriving DecidableEq, Repr

/-- A delayed read (16 R356). -/
structure CulmRd where
  /-- Culm master -/
  master : Nat
  /-- Culm address -/
  addr : Nat
  /-- byte enables -/
  be : Nat
  /-- burst length in words -/
  words : Nat
  /-- inbound window -/
  win : Nat
  /-- data in Culm byte order, once it has arrived; an error response gives none -/
  data : Option (Option (List Byte))
  /-- instant the data arrived, ns -/
  since : Nat
  /-- inbound writes accepted earlier and not yet issued -/
  ahead : Nat
  deriving DecidableEq, Repr

/-- The Culm bridge (16). -/
structure Culm where
  /-- CULM quartet and CULM_ERR_ADDR; 5 x 32 bits; 16 R360; reset 0 -/
  err : ErrBlk := {}
  /-- CULM_STATUS.OUTREF; 16 bits, saturating; 16 R352; reset 0 -/
  outref : Nat := 0
  /-- CULM_STATUS.BPRST; 1 bit; 16 R342; reset 1 -/
  bprst : Bool := true
  /-- STOP has been entered since power-on; 16 R342; reset false -/
  started : Bool := false
  /-- CULM_STATUS.PASS; 1 bit; 16 R357; reset 0 -/
  pass : Bool := false
  /-- masters served in the pass; list of 1 to 7; 16 R357; reset empty -/
  served : List Nat := []
  /-- cards that request the bus, as the bridge last saw their request lines; list of 1 to 7; 16 R340, R357; reset empty -/
  waiting : List Nat := []
  /-- card granted last, 0 none yet; 3 bits; 16 R340; reset 0, DESIGN CHOICE (log 197) -/
  grant : Nat := 0
  /-- outbound items accepted and not ended, in order (CULM_STATUS.POSTED counts the posted ones); 16 R350; reset empty -/
  out : List CulmOut := []
  /-- prefetch buffers, oldest first, at most 4; 16 R354; reset empty -/
  bufs : List CulmBuf := []
  /-- inbound write queue, oldest first, at most 8: window, master, Culm word address + 2^32 x byte enables, words, bytes; 16 R355; reset empty -/
  inq : List (Nat × Nat × Nat × Nat × List Byte) := []
  /-- delayed reads, at most 4; 16 R356; reset empty -/
  reads : List CulmRd := []
  /-- CULM_LOG entries 0 to 15: ADDR and INFO; 32 x 32 bits; 16; reset 0 -/
  log : FMap (Word × Word) := []
  /-- CULM_LOG_HEAD.TOTAL; 24 bits, saturating; 16; reset 0 -/
  logTotal : Nat := 0
  /-- CULM_LOG_HEAD.NEXT; 4 bits; 16; reset 0 -/
  logNext : Nat := 0
  /-- CULM_OWIN_CTRL.EN of windows 0 to 15; 16 x 1 bit; 16 R359; reset 0 -/
  oEn : List Bool := List.replicate 16 false
  /-- CULM_OWIN_CTRL.ACTIVE; 16 x 1 bit; 16 R359; reset 0 -/
  oAct : List Bool := List.replicate 16 false
  /-- CULM_OWIN_STAT; 16 x 32 bits; 16; reset 0 -/
  oItems : List Nat := List.replicate 16 0
  /-- CULM_IWIN_CTRL.EN of windows 0 to 3; 4 x 1 bit; 16 R359; reset 0 -/
  iEn : List Bool := List.replicate 4 false
  /-- CULM_IWIN_CTRL.ACTIVE; 4 x 1 bit; 16 R359; reset 0 -/
  iAct : List Bool := List.replicate 4 false
  /-- CULM_IWIN_STAT; 4 x 32 bits; 16; reset 0 -/
  iItems : List Nat := List.replicate 4 0
  deriving DecidableEq, Repr

end Sys2Proof.Machine
end

