-- ==== Sys2Proof/Machine/StNet.lean ====
section
/-! DEFINITION. Parts of the machine's state: Vyfabin, the train fabric, the hub, the pair link, Glume. The docstrings
and defaults are as in StCore.lean. -/

namespace Sys2Proof.Machine

/-- A kernel copy taken in this cycle (10 R245). -/
structure KCopy where
  /-- slot: kernel address -/
  addr : Nat
  /-- channel, 0 A and 1 B -/
  ch : Nat
  /-- the reader's stamp of the ADDR byte, ns -/
  rx : Nat
  /-- the bytes of the slot -/
  bytes : List Byte
  deriving DecidableEq, Repr

/-- One Vyfabin channel (09). -/
structure VyfCh where
  /-- link up on ports 1 and 2 of the channel; 2 x 1 bit; 09 VYF_STATUS.LINK; reset 0 -/
  link1 : Bool := false
  /-- link up on port 2; 1 bit; 09; reset 0 -/
  link2 : Bool := false
  /-- port on which the frame arrives from the origin, 0 or 1; 09 R204; reset none -/
  up : Option Nat := none
  /-- own LOOP, ns, signed; 32 bits; 09 R212; reset 0 -/
  loop : Int := 0
  /-- LOOP has been measured; 09 R212; reset false -/
  measured : Bool := false
  /-- instant the first DA byte of this cycle's frame passed the write point, own clock, ns; 09 R212; reset none -/
  wrote : Option Nat := none
  /-- ORIGIN_ID and CYCLE of the last frame forwarded outbound; 09 R204; reset none -/
  fwd : Option (Nat × Nat) := none
  /-- a valid header in this cycle; 09 R211; reset false -/
  hdrNow : Bool := false
  /-- VYF_STATUS.CH_OK; 1 bit; 09; reset 0 -/
  ok : Bool := false
  /-- receive clock domain declared failed; 01 R33; reset false -/
  failed : Bool := false
  /-- VYF_CNT.FOREIGN; 8 bits, saturating; 09; reset 0 -/
  foreign : Nat := 0
  /-- VYF_CNT.FCS; 12 bits, saturating; 09; reset 0 -/
  fcs : Nat := 0
  /-- VYF_CNT.KCRC; 12 bits, saturating; 09; reset 0 -/
  kcrc : Nat := 0
  /-- the bypass relay between the two ports is closed; 09 R203; reset true -/
  relay : Bool := true
  /-- ear header this module sent last as origin; 09 R231; reset empty -/
  sentHdr : List Byte := []
  /-- the ear header sent before it; 09 R231; reset empty -/
  sentPrev : List Byte := []
  /-- kernel payload committed to this channel's engine, and the cycle it is for; 09 R210; reset none -/
  buf : Option (Nat × List Byte) := none
  deriving DecidableEq, Repr

/-- The Vyfabin protocol engines (09, 10). -/
structure Vyf where
  /-- VYF quartet; 4 x 32 bits; 09 R234; reset 0 -/
  err : ErrBlk := {}
  /-- VYF_STATUS.STATE: 0 OFF 1 LISTEN 2 COLDSTART 3 INTEGRATING 4 SYNCED 5 ALONE; 3 bits; 09; reset 0 -/
  state : Nat := 0
  /-- VYF_STATUS.MODE; 2 bits; 09 R219; reset 0 -/
  mode : Nat := 0
  /-- VYF_STATUS.NEXT_MODE; 2 bits; 09 R219; reset 0 -/
  next : Nat := 0
  /-- VYF_STATUS.SWITCH; 1 bit; 09 R219; reset 0 -/
  switch : Bool := false
  /-- a valid header of this cycle carried SWITCH; 09 R219; reset false -/
  switchIn : Bool := false
  /-- channels A and B; 09; reset each at its reset values -/
  chA : VyfCh := {}
  /-- channel B; 09; reset each at its reset values -/
  chB : VyfCh := {}
  /-- this module is the origin of its line; 09 R204; reset false -/
  origin : Bool := false
  /-- as origin it sends KIND NORMAL frames; 09 R227; reset false -/
  normal : Bool := false
  /-- VYF_ID.ORIGIN_ID; 16 bits; 09; reset 0 -/
  originId : Nat := 0
  /-- VYF_SYNC.USED; 8 bits; 09 R221; reset 0 -/
  used : Nat := 0
  /-- VYF_SYNC.CORR, ns, signed; 16 bits; 09 R221; reset 0 -/
  corr : Int := 0
  /-- VYF_RATE.RATE, 0.001 ppm, signed; 24 bits; 09 R221; reset 0 -/
  rate : Int := 0
  /-- VYF_MODE_STATUS.MODE; 2 bits; 09; reset 0 -/
  reqMode : Nat := 0
  /-- VYF_MODE_STATUS.RESULT; 3 bits; 09 R220; reset 0 -/
  reqResult : Nat := 0
  /-- instant of the pending mode request, ns; 09 R218; reset none -/
  reqSince : Option Nat := none
  /-- cycles since the first REQUEST kernel; 09 R220; reset 0 -/
  reqCycles : Nat := 0
  /-- REQUEST is written in this module's kernels; 09 R218; reset false -/
  reqOn : Bool := false
  /-- lead request seen: address and mode; 09 R218; reset none -/
  lead : Option (Nat × Nat) := none
  /-- mode the origin announces in its next header; 09 R219; reset none -/
  ann : Option Nat := none
  /-- network cycle to follow: its number, its T0 and its mode; 09 R224; reset none -/
  pend : Option (Nat × Nat × Nat) := none
  /-- instant of the last header taken, ns; 09 R232; reset 0 -/
  hdrAt : Nat := 0
  /-- cycle of the last ear frame sent as origin, plus 1; 09 R207; reset 0 (none) -/
  sentMark : Nat := 0
  /-- the starter's own header has come back valid in this cycle; 09 R227; reset false -/
  ownBack : Bool := false
  /-- kernel copies taken in this cycle; 10 R245; reset empty -/
  taken : List KCopy := []
  /-- copies of the cycle that came second and were valid: address and bytes checked for R246; 10 R246; reset empty -/
  second : List Nat := []
  /-- VYF_VALID; 64 bits; 09; reset 0 -/
  valid : Nat := 0
  /-- VYF_SEL_A; 32 bits, saturating; 10; reset 0 -/
  selA : Nat := 0
  /-- VYF_SEL_B; 32 bits, saturating; 10; reset 0 -/
  selB : Nat := 0
  /-- VYF_SEL_SINGLE.A_ONLY; 16 bits, saturating; 10; reset 0 -/
  aOnly : Nat := 0
  /-- VYF_SEL_SINGLE.B_ONLY; 16 bits, saturating; 10; reset 0 -/
  bOnly : Nat := 0
  /-- VYF_SEL_DIFF; 32 bits, saturating; 10 R246; reset 0 -/
  diff : Nat := 0
  /-- consecutive cycles with no valid header on either channel; 01 R41; reset 0 -/
  missed : Nat := 0
  /-- start of the listen time, ns; 09 R226; reset none -/
  listenSince : Option Nat := none
  /-- lengthening of the listen time by a tie, ns; 09 R228; reset 0 -/
  listenExtra : Nat := 0
  /-- integration step reached, 1 to 4; 09 R229; reset 0 -/
  step : Nat := 0
  /-- consecutive cycles in which the starter's own frame came back valid; 09 R227; reset 0 -/
  coldBack : Nat := 0
  /-- cycles run as starter; 09 R227; reset 0 -/
  coldCycles : Nat := 0
  /-- modes for which 0x2513 has been recorded; list of 0 to 3; 09 R234; reset empty -/
  roundModes : List Nat := []
  /-- SCHED raised in the present listen time; 09 R229; reset false -/
  schedRaised : Bool := false
  /-- MAPMISS raised in this cycle; 11 R258; reset false -/
  mapMissNow : Bool := false
  /-- cycles in which a LEAVING kernel was written; 09 R233; reset 0 -/
  leaving : Nat := 0
  /-- a LEAVING kernel was written in this cycle; 09 R233; reset false -/
  leavingNow : Bool := false
  /-- INAUG field of the header received or sent in this cycle; 32 bits; 11 R254; reset 0 -/
  inaug : Nat := 0
  /-- CYCLE of the header received last; 64 bits; 09 R229; reset 0 -/
  hdrCycle : Nat := 0
  deriving DecidableEq, Repr

/-- A claim entry (11 R250). -/
structure Claim where
  hubId : Nat
  upEnd : Nat
  state : Nat
  tag : Nat
  vehicle : Nat
  deriving DecidableEq, Repr

/-- A claim copy taken in this cycle (11 R252). -/
structure ClaimCopy where
  /-- channel, 0 A and 1 B -/
  ch : Nat
  /-- the reader's stamp of its last byte, ns -/
  rx : Nat
  entry : Claim
  deriving DecidableEq, Repr

/-- An aperiodic slot's copy taken in this cycle (11 R260). -/
structure AperCopy where
  slot : Nat
  /-- channel, 0 A and 1 B -/
  ch : Nat
  /-- the reader's stamp of its last byte, ns -/
  rx : Nat
  /-- the messages for this module that it carried -/
  msgs : List (List Byte)
  deriving DecidableEq, Repr

/-- An entry of the map in force (11 R256). -/
structure MapEnt where
  hubId : Nat
  tag : Nat
  vehicleId : Nat
  /-- vehicle number 1 to 32 -/
  vehicle : Nat
  /-- 0 DIRECT, 1 INVERSE -/
  orient : Nat
  deriving DecidableEq, Repr

/-- A maintenance stream (11 R262). -/
structure Stream where
  /-- this module is the gateway of the stream -/
  gateway : Bool
  /-- train address of the gateway -/
  gw : Nat
  /-- train address of the target -/
  target : Nat
  /-- STREAM number -/
  num : Nat
  /-- TCP port at the gateway, 0 at the target -/
  tcp : Nat
  /-- bytes sent and not acknowledged, oldest first, at most 4,096 -/
  unacked : List Byte
  /-- offset of the first unacknowledged byte -/
  txBase : Nat
  /-- next offset expected from the other side -/
  rxNext : Nat
  /-- owned slots since ACK last advanced with data outstanding -/
  slots : Nat
  /-- instant ACK last advanced or data became outstanding, ns -/
  ackSince : Nat
  /-- instant data last passed either way, ns -/
  dataSince : Nat
  /-- how many of the unacknowledged bytes have been sent -/
  sent : Nat
  /-- bytes outstanding: how many of the unacknowledged bytes have been sent at least once -/
  out : Nat := 0
  /-- bytes held back until acknowledgements make room -/
  queued : List Byte := []
  deriving DecidableEq, Repr

/-- The train fabric (11). -/
structure Fab where
  /-- fabric quartet; 4 x 32 bits; 11 R265; reset 0 -/
  err : ErrBlk := {}
  /-- VYF_FAB_STATUS.NUMBER; 8 bits; 11 R256; reset 0 -/
  number : Nat := 0
  /-- VYF_FAB_STATUS.ADDR; 8 bits; 11; reset 0xFF -/
  addr : Nat := 255
  /-- VYF_FAB_STATUS.VEHICLE; 6 bits; 11; reset 0 -/
  vehicle : Nat := 0
  /-- VYF_FAB_STATUS.ORIENT; 1 bit; 11; reset 0 -/
  orient : Nat := 0
  /-- the map in force, entry k for address k (VYF_MAP, VYF_VEH); up to 64 entries; 11 R256; reset empty -/
  map : List MapEnt := []
  /-- list check of the map in force; 16 bits; 11 R254; reset 0 -/
  mapCheck : Nat := 0
  /-- ORIGIN_ID under which the map was committed; 16 bits; 11 R257; reset 0 -/
  mapOrigin : Nat := 0
  /-- claim copies of this cycle by position, as taken; 11 R252; reset empty -/
  claims : FMap (Option ClaimCopy) := []
  /-- the claim list of the last cycle; 11 R252; reset empty -/
  list : List Claim := []
  /-- VYF_FAB_LIST.CHECK; 16 bits; 11; reset 0 -/
  check : Nat := 0
  /-- VYF_FAB_LIST.STABLE; 8 bits, saturating; 11; reset 0 -/
  stable : Nat := 0
  /-- VYF_FAB_LIST.LEN; 7 bits; 11; reset 0 -/
  len : Nat := 0
  /-- TOPO raised for the present failing list; 11 R255; reset false -/
  topoRaised : Bool := false
  /-- WIRING raised since start; 11 R253; reset false -/
  wiringRaised : Bool := false
  /-- consecutive cycles the origin had one linked port per channel; 11 R255; reset 0 -/
  onePort : Nat := 0
  /-- consecutive cycles the origin had link on both ports of a channel; 11 R259; reset 0 -/
  twoPorts : Nat := 0
  /-- giving up the role: 0 no, 3 and 2 two and one YIELD headers still to send, 1 sent; 11 R259; reset 0 -/
  yieldLeft : Nat := 0
  /-- the origin commits the list in its next header; 11 R255; reset false -/
  commitNext : Bool := false
  /-- the whole list of the map in force; 11 R255, R256; reset empty -/
  mapList : List Claim := []
  /-- a claim list was built in this cycle; 11 R252; reset false -/
  built : Bool := false
  /-- a backbone link has changed in this cycle; 11 R255, R259; reset false -/
  changed : Bool := false
  /-- aperiodic slots filled for a cycle: cycle, slot, the payload on A and on B; 11 R260; reset empty -/
  slotBuf : List (Nat × Nat × List Byte × List Byte) := []
  /-- map to take at the next boundary: number, origin, list; 11 R256; reset none -/
  take : Option (Nat × Nat × List Claim) := none
  /-- a header with YIELD was received; 11 R259; reset false -/
  sawYield : Bool := false
  /-- streams relayed and served; up to 8; 11 R263; reset empty -/
  streams : List Stream := []
  /-- messages waiting for an owned aperiodic slot, oldest first, with the channels on which they were aborted: 1 A, 2 B;
  11 R261, 01 R41; reset empty -/
  outbox : List (Nat × List Byte) := []
  /-- next STREAM number the gateway chooses; 16 bits; 11 R261; reset 0 -/
  nextStream : Nat := 0
  /-- the map in force was committed by this module as the present origin; 11 R254; reset false -/
  ownMap : Bool := false
  /-- the stream that the next owned aperiodic slot serves first; 11 R262; reset 0 -/
  turn : Nat := 0
  /-- aperiodic slots taken in this cycle; 11 R260; reset empty -/
  aper : List AperCopy := []
  /-- aperiodic messages for this module, read and not yet acted on, oldest first; 11 R261; reset empty -/
  inbox : List (List Byte) := []
  deriving DecidableEq, Repr

/-- A hub port (10). -/
structure HubPort where
  /-- HUB_PORT_CTRL.EN; 1 bit; 10 R242; reset 0 -/
  en : Bool := false
  /-- HUB_PORT_CTRL.ACTIVE; 1 bit; 10 R242; reset 0 -/
  active : Bool := false
  /-- HUB_STATUS.LINK; 1 bit; 10; reset 0 -/
  link : Bool := false
  /-- the port is blocked; 1 bit; 10 R239; reset 0 -/
  blocked : Bool := false
  /-- HUB_PORT_STATUS.CONSEC; 2 bits; 10 R239; reset 0 -/
  consec : Nat := 0
  /-- HUB_PORT_STATUS.CLEAN; 4 bits; 10 R241; reset 0 -/
  clean : Nat := 0
  /-- a violation has occurred in this cycle; 10 R239; reset false -/
  violNow : Bool := false
  /-- HUB_PORT_VIOL.TRUNC; 16 bits, saturating; 10; reset 0 -/
  trunc : Nat := 0
  /-- HUB_PORT_VIOL.EARLY; 16 bits, saturating; 10; reset 0 -/
  early : Nat := 0
  /-- HUB_PORT_VIOL2.OVERSIZE; 16 bits, saturating; 10; reset 0 -/
  oversize : Nat := 0
  /-- HUB_PORT_VIOL2.BABBLE; 16 bits, saturating; 10; reset 0 -/
  babble : Nat := 0
  /-- HUB_PORT_FRAMES; 32 bits; 10; reset 0 -/
  frames : Nat := 0
  /-- HUB_PORT_BLOCKS.FCS; 16 bits, saturating; 10; reset 0 -/
  fcs : Nat := 0
  /-- HUB_PORT_BLOCKS.BLOCKS; 16 bits; 10; reset 0 -/
  blocks : Nat := 0
  /-- HUB_PORT_LASTRX, ns, signed; 32 bits; 10; reset 0 -/
  lastRx : Int := 0
  deriving DecidableEq, Repr

/-- The hub and guardian (10). -/
structure Hub where
  /-- HUB quartet; 4 x 32 bits; 10 R247; reset 0 -/
  err : ErrBlk := {}
  /-- ports 0 to 7; 10; reset each at its reset values -/
  ports : List HubPort := List.replicate 8 {}
  /-- HUB_PORT_STATUS.GRACE, the same for every port; 2 bits; 10 R240; reset 0 -/
  grace : Nat := 0
  /-- a step within this cycle: the grace begins at its end; 10 R240; reset false -/
  graceNew : Bool := false
  /-- the second grace cycle has ended; 10 R240; reset false -/
  graceDue : Bool := false
  /-- slot descriptors served in this cycle, 4,096 for the beacon; 10 R235; reset empty -/
  did : List Nat := []
  /-- windows of this cycle that have taken a frame: descriptor, accepted, within 500 ns; 10 R238, R241; reset empty -/
  used : List (Nat × Bool × Bool) := []
  /-- TX buffers committed: buffer, then cycle, commit instant and frame body; 10 R235; reset empty -/
  tx : List (Nat × Nat × Nat × List Byte) := []
  /-- RX buffers filled and not yet handed over: descriptor and body; 10 R235; reset empty -/
  rx : List (Nat × List Byte) := []
  deriving DecidableEq, Repr

/-- A shadow of the partner: its report and its blocks (12 R270, R271). -/
structure Shadow where
  /-- the 64-byte report body -/
  report : List Byte
  /-- blocks by number, 1,024 bytes each -/
  blocks : List (Nat × List Byte)
  deriving DecidableEq, Repr

/-- The pair engine (12). -/
structure Pair where
  /-- PAIR quartet; 4 x 32 bits; 12 R285; reset 0 -/
  err : ErrBlk := {}
  /-- PAIR_STATUS.ROLE: 0 none 1 ACTIVE 2 STANDBY 3 CANDIDATE; 2 bits; 12 R273; reset 0 -/
  role : Nat := 0
  /-- PAIR_REIGN; 32 bits; 12 R278; reset 0 -/
  reign : Nat := 0
  /-- PAIR_PARTNER_REIGN; 32 bits; 12; reset 0 -/
  partnerReign : Nat := 0
  /-- PAIR_PARTNER.HUB_ID; 16 bits; 12 R271; reset 0 -/
  partner : Nat := 0
  /-- the last valid partner report; 64 bytes; 12 R269; reset none -/
  report : Option (List Byte) := none
  /-- a valid report has arrived in this cycle; 12 R271; reset false -/
  heard : Bool := false
  /-- consecutive cycles with no valid partner report; 01 R41; reset 0 -/
  silent : Nat := 0
  /-- rung 6 has expired and no report has come since; 12 R277; reset false -/
  linkLost : Bool := false
  /-- PATH raised for the present episode; 12 R285; reset false -/
  pathRaised : Bool := false
  /-- PAIR_STATUS.SHADOW_OK; 1 bit; 12 R271; reset 0 -/
  shadowOk : Bool := false
  /-- PAIR_STATUS.PIL_OUT; 1 bit; 12 R268; reset 0 -/
  pilOut : Bool := false
  /-- PIL_IN as filtered; 1 bit; 12 R268; reset 0 -/
  pilIn : Bool := false
  /-- PIL_IN has changed in this cycle; 12 R268; reset false -/
  pilNow : Bool := false
  /-- PAIR_STATUS.PIL_ACT; 1 bit; 12 R268; reset 0 -/
  pilAct : Bool := false
  /-- PIL_ACT of the cycle before; 1 bit; 12 R277; reset 0 -/
  pilAct2 : Bool := false
  /-- PAIR_STATUS.PHY; 1 bit; 12; reset 0 -/
  phy : Bool := false
  /-- blocks of the partner's shadow received in this cycle: block, REIGN, data; up to 192; 12 R271; reset empty -/
  fill : List (Nat × Nat × List Byte) := []
  /-- the partner's shadow of this cycle is complete; 12 R271; reset false -/
  shadowNow : Bool := false
  /-- transmit buffers sent in this cycle; 12 R272; reset empty -/
  txDid : List Nat := []
  /-- a check scan has run in this cycle; 12 R275; reset false -/
  checked : Bool := false
  /-- the last complete shadow; 12 R271; reset none -/
  shadow : Option Shadow := none
  /-- the complete shadow before it; 12 R275; reset none -/
  shadowPrev : Option Shadow := none
  /-- PAIR_SWITCH.DEFERRED; 4 bits; 12 R281; reset 0 -/
  deferred : Nat := 0
  /-- PAIR_SWITCH.RESULT; 3 bits; 12 R281; reset 0 -/
  switchRes : Nat := 0
  /-- a planned switchover is under way; 12 R281; reset false -/
  wants : Bool := false
  /-- planned switchover under way for an exchange; 12 R281, 05 R151; reset false -/
  forExch : Bool := false
  /-- cycle named by INTENT (STANDBY); 12 R281; reset none -/
  intent : Option Nat := none
  /-- low 32 bits of the cycle named by the INTENT heard (ACTIVE) or by the RELEASE heard (STANDBY); 12 R281; reset none -/
  release : Option Nat := none
  /-- the ACTIVE's report of this cycle carried RELEASE; 12 R281; reset false -/
  relSent : Bool := false
  /-- the module took over at this cycle's boundary: trigger and release at T0 + 30 us; 12 R278; reset false -/
  takeLate : Bool := false
  /-- takeover due at the next boundary: cause; 12 R277; reset none -/
  takeover : Option Nat := none
  /-- demoted by RELEASE in this cycle, may return; 12 R281; reset false -/
  released : Bool := false
  /-- PAIR_TAKEOVER.COUNT; 16 bits, saturating; 12; reset 0 -/
  count : Nat := 0
  /-- PAIR_TAKEOVER.AGE; 8 bits, saturating; 12 R278; reset 0 -/
  age : Nat := 0
  /-- PAIR_TAKEOVER.CAUSE; 3 bits; 12 R278; reset 0 -/
  cause : Nat := 0
  /-- PAIR_SHADOW.DROPPED; 16 bits, saturating; 12 R272; reset 0 -/
  dropped : Nat := 0
  /-- PAIR_SHADOW.RX; 8 bits; 12; reset 0 -/
  rxBlocks : Nat := 0
  /-- PAIR_CHECK.FAILS; 16 bits, saturating; 12 R275; reset 0 -/
  fails : Nat := 0
  /-- PAIR_CHECK.CHECKS; 16 bits, saturating; 12 R275; reset 0 -/
  checks : Nat := 0
  /-- consecutive failed check scans; 12 R275; reset 0 -/
  runFails : Nat := 0
  /-- consecutive passed check scans while diverging; 12 R275; reset 0 -/
  runPasses : Nat := 0
  /-- PAIR_STATUS.DIVERGING; 1 bit; 12 R275; reset 0 -/
  diverging : Bool := false
  /-- start of the candidate time, ns; 12 R273; reset none -/
  candSince : Option Nat := none
  /-- draw: cycles left; 12 R273; reset none -/
  draw : Option Nat := none
  /-- PIL_IN has shown the partner acting during the draw; 12 R273; reset false -/
  drawLost : Bool := false
  /-- role to take at the next boundary; 12 R273; reset none -/
  nextRole : Option Nat := none
  /-- published as ACTIVE in this cycle; 12 R282; reset false -/
  pubNow : Bool := false
  /-- published as ACTIVE in the cycle before; 12 R282; reset false -/
  pubLast : Bool := false
  /-- the voted signature, SCAN_TIME, STAGED and FIRST of this cycle's scan, for the report; 12 R269; reset none -/
  scanSig : Dword := 0
  /-- the scan of this cycle took staged writes to M, W or K; 12 R269; reset false -/
  staged : Bool := false
  /-- FIRST was 1 in the scan of this cycle; 12 R269; reset false -/
  first : Bool := false
  /-- scan number folded by the scan of this cycle; 64 bits; 12 R270; reset 0 -/
  scanNum : Nat := 0
  deriving DecidableEq, Repr

/-- A Glume connection (13). -/
structure Conn where
  /-- GLM_CONN_CTRL.EN; 1 bit; 13 R297; reset 0 -/
  en : Bool := false
  /-- GLM_CONN_CTRL.ACTIVE; 1 bit; 13 R297; reset 0 -/
  active : Bool := false
  /-- GLM_CONN_STATE.STATE: 0 CLOSED 1 WAIT 2 CONFIRM 3 DATA; 2 bits; 13 R294; reset 0 -/
  state : Nat := 0
  /-- GLM_CONN_STATE.CONFIRMED; 4 bits; 13 R294; reset 0 -/
  confirmed : Nat := 0
  /-- L, sequence number of the last message accepted; 32 bits; 13 R293; reset clear -/
  last : Option Nat := none
  /-- GLM_CONN_REIGN, G; 32 bits; 13 R293; reset 0 -/
  reign : Nat := 0
  /-- GLM_CONN_STATE.PEER_READY; 1 bit; 13 R294; reset 0 -/
  peerReady : Bool := false
  /-- GLM_CONN_CNT.CHECK; 8 bits, saturating; 13; reset 0 -/
  nCheck : Nat := 0
  /-- GLM_CONN_CNT.SEQ; 8 bits, saturating; 13; reset 0 -/
  nSeq : Nat := 0
  /-- GLM_CONN_CNT.REPEAT; 8 bits, saturating; 13; reset 0 -/
  nRepeat : Nat := 0
  /-- GLM_CONN_CNT.LOST; 8 bits, saturating; 13; reset 0 -/
  nLost : Nat := 0
  /-- consecutive check failures; 13 R294; reset 0 -/
  runCheck : Nat := 0
  /-- cycle of the last acceptance; 64 bits; 13 R295; reset 0 -/
  accCycle : Nat := 0
  /-- words of the last message that may be taken at a freeze; up to 64 x 32 bits; 13 R296; reset empty -/
  words : List Word := []
  /-- it was accepted since the last freeze; 13 R296; reset false -/
  fresh : Bool := false
  /-- the mailbox connection's AGE; 8 bits; 13 R296; reset 0 -/
  age : Nat := 0
  /-- the connection was not in DATA at the last freeze; 13 R296, 05 R142; reset true -/
  lostFrz : Bool := true
  deriving DecidableEq, Repr

/-- The Glume offload (13). -/
structure Glm where
  /-- GLM quartet; 4 x 32 bits; 13 R302; reset 0 -/
  err : ErrBlk := {}
  /-- GLM_UNKNOWN; 32 bits, saturating; 13 R292; reset 0 -/
  unknown : Nat := 0
  /-- connections 0 to 511; 13; reset each at its reset values -/
  conns : FMap Conn := []
  /-- messages handed over and not yet judged, oldest first: transport, carrier index, bytes; 13 R292; reset empty -/
  inbox : List (Nat × Nat × List Byte) := []
  deriving DecidableEq, Repr

end Sys2Proof.Machine
end

