-- ==== Sys2Proof/Machine/State.lean ====
section
/-! DEFINITION. The machine's state: everything the spec gives the module, the queue of waiting commands, and what the
last command gave out. Its parts are in StCore, StPlant, StNet, StField and StBoot. -/

namespace Sys2Proof.Machine

/-- Why the machine stops: for no reason. SAFE and recovery are states that go on (R4, R67, R412), and every command of the
table has an effect or none in every state, so no meaning raises a fault. -/
inductive Fault where
  deriving DecidableEq, Repr

/-- Why a command has no meaning. -/
inductive Refusal where
  /-- Raised by exec's arms for a command without a meaning in this model. Safe: nothing is claimed of it. -/
  | notModelled (mnemonic : String)
  deriving DecidableEq, Repr

/-- The whole module. -/
structure State where
  /-- commands waiting, first in, first out; a list; the model's own (the row's cut); reset empty -/
  pending : List Instr := []
  /-- what the last command gave to the outside; a list; the model's own (log 3); reset empty -/
  out : List Out := []
  /-- time -/
  clk : Clk := {}
  /-- the module's start, state and shut-down -/
  mod : Mod := {}
  /-- the memories off the die -/
  mem : Mem := {}
  /-- every LK field and table word, by register offset from 0x0_F000_0000; 32 bits each, unlisted 0; 02 R42, 21 R421; reset 0 -/
  lk : FMap Word := []
  /-- the loaded image's contents that no register shows -/
  img : Img := {}
  /-- Rachis and the memory controllers -/
  rch : Rch := {}
  /-- triads -/
  trd : Trd := {}
  /-- Awn -/
  awn : Awn := {}
  /-- cycle controller -/
  cyc : Cyc := {}
  /-- budget schedulers -/
  sch : Sch := {}
  /-- Vyfabin -/
  vyf : Vyf := {}
  /-- train fabric -/
  fab : Fab := {}
  /-- hub and guardian -/
  hub : Hub := {}
  /-- pair link -/
  pair : Pair := {}
  /-- Glume -/
  glm : Glm := {}
  /-- field I/O -/
  fio : Fio := {}
  /-- CAN0 -/
  can0 : Can := {}
  /-- CAN1 -/
  can1 : Can := {}
  /-- Culm bridge -/
  culm : Culm := {}
  /-- supply supervisor -/
  sup : Sup := {}
  /-- always-on domain -/
  aon : Aon := {}
  /-- security engine -/
  sec : Sec := {}
  /-- security area of MRAM -/
  area : SecArea := {}
  /-- fuses -/
  fuse : Fuse := {}
  /-- Thresh -/
  thr : Thr := {}
  /-- Granary and life counters -/
  grn : Grn := {}
  /-- instants of the protocol engines' last progress, ns: channels A and B, hub, pair, CAN, Glume; 6 stamps; 01 R40; reset 0 -/
  eng : List Nat := List.replicate 6 0
  /-- draws of free values so far; the model's own (log 4); reset DESIGN CHOICE 0 -/
  free : Nat := 0
  deriving DecidableEq, Repr

/-- The machine right after a power-on reset: SUPERVISED (R195, R412), every register and object at its reset value. -/
def State.reset : State := {}

end Sys2Proof.Machine
end

