-- ==== Sys2Proof/Machine/Flags.lean ====
section
/-! DEFINITION. The flags of the block: sticky-error sets with their capture registers (01 R12, R13, R32, 21 R424), the
timers' "has the minimum passed" (00 R15), and the coding of a module state and of a pair role in a record (19 R393). -/

namespace Sys2Proof.Machine

/-- Raise error `bit`: the status bit is set; the capture takes `info`, `aux`, `aux2` while VALID is 0, and only OVF
rises otherwise (R32). OVF falls by nothing but a write of 1 (R11). `info` comes with VALID and OVF at 0. -/
def ErrBlk.raise (e : ErrBlk) (bit : Nat) (info aux aux2 : Word) : ErrBlk :=
  if bitOf e.info 0 then
    { e with status := e.status ||| placeB true bit, info := e.info ||| 2 }
  else
    { e with status := e.status ||| placeB true bit, info := (info &&& ~~~3) ||| (e.info &&& 2) ||| 1, aux := aux, aux2 := aux2 }

/-- Write ones to clear the status (R11). A bit that the same command sets is set after this (R12, log 176). -/
def ErrBlk.clearStatus (e : ErrBlk) (v : Word) : ErrBlk := { e with status := e.status &&& ~~~v }

/-- Set the interrupt enables the block has, `n` of them (R11). -/
def ErrBlk.setIrq (e : ErrBlk) (n : Nat) (v : Word) : ErrBlk :=
  { e with irqEn := v &&& BitVec.ofNat 32 (2 ^ n - 1) }

/-- Write ones to VALID or OVF of the capture (R32). -/
def ErrBlk.clearInfo (e : ErrBlk) (v : Word) : ErrBlk := { e with info := e.info &&& ~~~(v &&& 3) }

/-- The block interrupts: an enabled error is set (R13). -/
def ErrBlk.line (e : ErrBlk) : Bool := (e.status &&& e.irqEn) != 0

/-- A timer that started at `start` has run for at least its minimum of `min` ns (R15). -/
def due (start : Option Nat) (min now : Nat) : Bool :=
  match start with
  | none => false
  | some t => decide (t + min ≤ now)

/-- The coding of a module state in a record (R393); POWER-OFF records nothing. -/
def Mode.code (m : Mode) : Nat :=
  match m with
  | .powerOff => 0 | .supervised => 0 | .boot => 1 | .selftest => 2 | .stop => 3
  | .run => 4 | .hold => 5 | .brace => 6 | .safe => 7 | .shutdown => 8

/-- The module's triads, engines and field I/O run: hand-over has passed and no reset since (R407). -/
def Mode.handed (m : Mode) : Bool :=
  match m with
  | .stop | .run | .hold | .brace | .safe | .shutdown => true
  | _ => false

/-- The die is out of reset (R4). -/
def Mode.released (m : Mode) : Bool :=
  match m with
  | .powerOff | .supervised => false
  | _ => true

/-- RUN as far as the cycle controller is concerned (05, after R144). -/
def Mode.running (m : Mode) : Bool :=
  match m with
  | .run | .brace => true
  | _ => false

/-- Saturating count: one more, at most `m`. -/
def satInc (m n : Nat) : Nat := if n < m then n + 1 else n

/-- A 32-bit word of a number. -/
def w32 (n : Nat) : Word := BitVec.ofNat 32 n

end Sys2Proof.Machine
end

