-- ==== Sys2Proof/WellFormed.lean ====
section
/-! DEFINITION. Which operands a command may carry: units, indices and numbers that the part has (R19, R20, R75, R427
and the chapters named). A command that is not well formed names something the part does not have. -/

namespace Sys2Proof

/-- The widths a Rachis transaction may be offered with; alignment and allowed sizes are Rachis's own check (R22). -/
def Txn.wf (t : Txn) : Bool :=
  decide (t.init < 64) && decide (t.addr < 2 ^ 36) && decide (t.size < 2 ^ 12) &&
    (decide (t.kind ≠ .write) || decide (t.data.length = t.size))

/-- A target port that exists: register windows are 0 to 18 (R417). -/
def Target.wf (t : Target) : Bool :=
  match t with
  | .regs w => decide (w < 19)
  | _ => true

/-- A function that exists (R38). -/
def Fn.wf (f : Fn) : Bool :=
  match f with
  | .awn => true
  | .hubPort p => decide (p < 8)
  | .glmConn c => decide (c < 512)
  | .can n => decide (n < 2)
  | .canObj n k => decide (n < 2) && decide (k < 128)
  | .owin w => decide (w < 16)
  | .iwin v => decide (v < 4)

/-- The rails out of tolerance at a sample: each once, number and value of 16 bits. -/
def railsWf (l : List (Nat × Nat)) : Bool :=
  l.all (fun r => decide (r.1 < 65536) && decide (r.2 < 65536)) && decide (l.map (fun r => r.1)).Nodup

/-- A self-test result: pass, or the failing part 0 to 5 (17 R362, 19 R442 0x3D39). -/
def selftestWf (f : Option Nat) : Bool :=
  match f with
  | none => true
  | some k => decide (k < 6)

/-- A store record (03 R78). -/
def StoreRec.wf (r : StoreRec) : Bool := decide (r.addr < 2 ^ 36) && decide (r.size < 4)

/-- CSR write-backs in ascending CSR address (03 R78). -/
def csrWf (from' : Nat) (l : List (Nat × Dword)) : Bool :=
  match l with
  | [] => true
  | (a, _) :: t => decide (from' ≤ a) && decide (a < 4096) && csrWf (a + 1) t

/-- A register write-back's number. -/
def regWf (lo : Nat) (r : Option (Nat × Dword)) : Bool :=
  match r with
  | none => true
  | some (n, _) => decide (lo ≤ n) && decide (n < 32)

/-- A committed instruction (03 R78): a trap record stands in place of everything else. -/
def Commit.wf (c : Commit) : Bool :=
  (match c.store with | none => true | some r => r.wf) && regWf 1 c.xw && regWf 0 c.fw && csrWf 0 c.csr &&
    (match c.csrRead with | none => true | some a => decide (a < 4096)) &&
    (match c.trap with
     | none => true
     | some t => decide (t.code < 2 ^ 6) && c.store.isNone && c.xw.isNone && c.fw.isNone && c.csr.isEmpty)

/-- An atomic instruction (03 R72). -/
def Amo.wf (a : Amo) : Bool := decide (a.addr < 2 ^ 36) && decide (a.size = 4 ∨ a.size = 8) && decide (a.rd < 32)

/-- What a core does in one step. -/
def CoreAct.wf (a : CoreAct) : Bool :=
  match a with
  | .commit c => c.wf
  | .request addr size => decide (addr < 2 ^ 36) && decide (size = 1 ∨ size = 2 ∨ size = 4 ∨ size = 8)
  | .amo a => a.wf

/-- A bit operand's fields fit the step word (04 R110). -/
def BOp.wf (x : BOp) : Bool := decide (x.sp < 8) && decide (x.idx < 2 ^ 17)

/-- A word operand's fields fit the step word (04 R110). -/
def WOp.wf (x : WOp) : Bool := decide (x.sp < 8) && decide (x.idx < 2 ^ 16)

/-- A frame as the hub port meets it (10 R238). -/
def HubRx.wf (f : HubRx) : Bool := decide (f.start ≤ f.stop)

/-- A received CAN frame (15 R325). -/
def CanFrame.wf (f : CanFrame) : Bool :=
  decide (f.id < if f.ide then 2 ^ 29 else 2 ^ 11) && decide (f.dlc < 16) && decide (f.data.length ≤ 64)

/-- What a controller receives (15 R325, CANn_ERR_INFO.KIND). -/
def CanRx.wf (r : CanRx) : Bool :=
  match r with
  | .frame f => f.wf
  | .error k n => decide (1 ≤ k) && decide (k ≤ 5) && decide (n < 256)

/-- A measured loop delay. -/
def loopWf (l : Option Nat) : Bool :=
  match l with
  | none => true
  | some d => decide (d < 65536)

/-- The end of a transmission attempt (15 R331, CANn_ERR_INFO.KIND). -/
def CanTxEnd.wf (e : CanTxEnd) : Bool :=
  match e with
  | .success _ l => loopWf l
  | .arbitrationLost => true
  | .error k t r l => decide (1 ≤ k) && decide (k ≤ 5) && decide (t < 512) && decide (r < 256) && loopWf l

/-- An item offered to the bridge (16 R347). -/
def CulmItem.wf (i : CulmItem) : Bool :=
  decide (i.init < 64) && decide (0xC0000000 ≤ i.addr) && decide (i.addr + i.size ≤ 0xE0000000) &&
    (decide (i.size = 1 ∨ i.size = 2 ∨ i.size = 4 ∨ i.size = 8 ∨ i.size = 64)) && decide (i.addr % i.size = 0) &&
    (!i.write || decide (i.data.length = i.size))

/-- Cards of the backplane are 1 to 7 (16 R340). -/
def cardsWf (l : List Nat) : Bool := l.all (fun m => decide (1 ≤ m ∧ m ≤ 7))

/-- An inbound address phase (16 R344, R348). -/
def CulmPhase.wf (p : CulmPhase) : Bool :=
  decide (1 ≤ p.master) && decide (p.master ≤ 7) && decide (p.addr < 2 ^ 32) && decide (p.be < 16) &&
    decide (1 ≤ p.words) && decide (p.words ≤ 16) && p.reqs.contains p.master && cardsWf p.reqs

/-- What a Thresh run observes names banks, rows, spares and units of the part (18 R377, R379, R380). -/
def ThreshObs.wf (o : ThreshObs) : Bool :=
  o.rows.all (fun (b, r) => decide (b < 960) && decide (r < 512)) &&
    o.badSpares.all (fun (b, r) => decide (b < 960) && decide (r < 4)) &&
    o.lbist.all (fun u => decide (u < 29)) && o.retest.all (fun u => decide (u < 29)) && decide (o.durationMs < 65536)

/-- Windows of a step of the comparator test (03 R93). -/
def cmpWindows (step : Nat) : Nat :=
  match step with
  | 1 => 1 | 2 => 192 | 3 => 192 | 4 => 3 | 5 => 1 | 6 => 128 | _ => 0

/-- What the comparator test meets names triads, steps and windows of the test (03 R93). -/
def CmpObs.wf (o : CmpObs) : Bool :=
  o.seen.all (fun e => decide (e.t < 6) && decide (e.win < cmpWindows e.step) && decide (e.shown.length = 3)) &&
    o.blind.all (fun t => decide (t < 6))

/-- A request of one of the four sessions, with its TAG (17 R370). -/
def Req.wf (r : Req) : Bool := decide (r.ses < 4) && decide (r.tag < 2 ^ 32)

/-- A command's operands name things the part has. -/
def Instr.wf (i : Instr) : Bool :=
  match i with
  | .registerWrite init _ _ => decide (init < 64)
  | .rachisTransaction t => t.wf
  | .busTimeout t => t.wf
  | .engineWatchdog e => decide (e < 6)
  | .trdWatchdog t => decide (t < 6)
  | .clockFault d => decide (1 ≤ d) && decide (d ≤ 14)
  | .functionDrainDone f => f.wf
  | .powerOn coding => decide (coding < 8)
  | .supplySample vin vbus lplus rails => decide (vin < 65536) && decide (vbus < 65536) && decide (lplus < 65536) && railsWf rails
  | .capacitanceMeasurement _ us => decide (0 < us)
  | .supervisorRelease _ => true
  | .quenchDone _ => true
  | .cellMeasurement mv => decide (mv < 4096)
  | .errorEpisodeEnd e => decide (e.code < 65536)
  | .aonSnap init _ => decide (init < 64)
  | .aonRtcSet init _ => decide (init < 64)
  | .bootSecuritySelftest fail => selftestWf fail
  | .imageCheck _ => true
  | .protLock init _ => decide (init < 64)
  | .startupBist o => o.wf
  | .cmptestStart init _ => decide (init < 64)
  | .cmptestDone o => o.wf
  | .coreInstruction core a => decide (core < 20) && a.wf
  | .windowTimer t => decide (t < 6)
  | .triadInterrupt t src => decide (t < 6) && decide (src.pos < 3) && decide (src.num < 64)
  | .singleIssueRead t => decide (t < 6)
  | .lagTimeout t => decide (t < 6)
  | .triadRestart t => decide (t < 6)
  | .releasedStoreError t addr resp => decide (t < 6) && decide (addr < 2 ^ 36) && decide (1 ≤ resp) && decide (resp ≤ 6)
  | .reserveL1ClearDone r => decide (r < 2)
  | .quiet t => decide (t < 6)
  | .reintegration t _ _ => decide (t < 6)
  | .toSplit t => decide (t < 6)
  | .splitStart t => decide (t < 6)
  | .toTriad core => decide (core < 20)
  | .handoverTimeout t => decide (t < 6)
  | .triadRestore t ds => decide (t < 6) && decide (ds.length = 3)
  | .l1Error l => decide (l.core < 20) && decide (l.addr < 2 ^ 36)
  | .awnLd lane x => decide (lane < 3) && x.wf
  | .awnAnd lane x => decide (lane < 3) && x.wf
  | .awnOr lane x => decide (lane < 3) && x.wf
  | .awnXor lane x => decide (lane < 3) && x.wf
  | .awnSt lane x => decide (lane < 3) && x.wf
  | .awnSet lane x => decide (lane < 3) && x.wf
  | .awnRst lane x => decide (lane < 3) && x.wf
  | .awnNot lane => decide (lane < 3)
  | .awnPsh lane => decide (lane < 3)
  | .awnPop lane => decide (lane < 3)
  | .awnRds lane => decide (lane < 3)
  | .awnPopa lane => decide (lane < 3)
  | .awnPopo lane => decide (lane < 3)
  | .awnPopx lane => decide (lane < 3)
  | .awnTim lane n => decide (lane < 3) && decide (n < 2048)
  | .awnTrs lane n => decide (lane < 3) && decide (n < 2048)
  | .awnCtu lane n => decide (lane < 3) && decide (n < 1024)
  | .awnCtd lane n => decide (lane < 3) && decide (n < 1024)
  | .awnCrs lane n => decide (lane < 3) && decide (n < 1024)
  | .awnCld lane n => decide (lane < 3) && decide (n < 1024)
  | .awnEdg lane n => decide (lane < 3) && decide (n < 4096)
  | .awnLw lane x => decide (lane < 3) && x.wf
  | .awnSw lane x => decide (lane < 3) && x.wf
  | .awnAdd lane x => decide (lane < 3) && x.wf
  | .awnSub lane x => decide (lane < 3) && x.wf
  | .awnMul lane x => decide (lane < 3) && x.wf
  | .awnAndw lane x => decide (lane < 3) && x.wf
  | .awnOrw lane x => decide (lane < 3) && x.wf
  | .awnXorw lane x => decide (lane < 3) && x.wf
  | .awnMin lane x => decide (lane < 3) && x.wf
  | .awnMax lane x => decide (lane < 3) && x.wf
  | .awnSel lane x => decide (lane < 3) && x.wf
  | .awnCeq lane x => decide (lane < 3) && x.wf
  | .awnCne lane x => decide (lane < 3) && x.wf
  | .awnClt lane x => decide (lane < 3) && x.wf
  | .awnCle lane x => decide (lane < 3) && x.wf
  | .awnCgt lane x => decide (lane < 3) && x.wf
  | .awnCge lane x => decide (lane < 3) && x.wf
  | .awnShl lane sh => decide (lane < 3) && decide (sh < 32)
  | .awnShr lane sh => decide (lane < 3) && decide (sh < 32)
  | .awnAsr lane sh => decide (lane < 3) && decide (sh < 32)
  | .awnNegw lane => decide (lane < 3)
  | .awnAbs lane => decide (lane < 3)
  | .awnLdl lane _ => decide (lane < 3)
  | .awnJmp lane target => decide (lane < 3) && decide (target < 65536)
  | .awnJc lane target => decide (lane < 3) && decide (target < 65536)
  | .awnJnc lane target => decide (lane < 3) && decide (target < 65536)
  | .awnNop lane => decide (lane < 3)
  | .awnEnd lane => decide (lane < 3)
  | .awnIllegalStep lane _ => decide (lane < 3)
  | .awnEnableWrite init _ => decide (init < 64)
  | .modeReqRun init => decide (init < 64)
  | .modeReqStop init => decide (init < 64)
  | .modeReqHold init => decide (init < 64)
  | .forceEntryWrite init i _ => decide (init < 64) && decide (i < 64)
  | .olcCommit init _ => decide (init < 64)
  | .exchStart init _ => decide (init < 64)
  | .taskRelease i => decide (i < 256)
  | .dispatchTake init t p _ => decide (init < 64) && decide (t < 6) && decide (p < 3)
  | .jobDone init t p _ => decide (init < 64) && decide (t < 6) && decide (p < 3)
  | .deadlineMiss i => decide (i < 256)
  | .budgetOverrun i => decide (i < 256)
  | .sensorSample q => decide (q.length = 8)
  | .shedEnd cause => decide (1 ≤ cause) && decide (cause ≤ 3)
  | .dramScrub _ => true
  | .mramScrub _ => true
  | .earFrameForward port _ _ => decide (port < 4)
  | .earFrameReceive port _ _ _ => decide (port < 4)
  | .vyfModeReq init _ => decide (init < 64)
  | .backboneLinkChange port _ => decide (port < 4)
  | .hubTxSlot desc => decide (desc < 4096)
  | .hubFrameReceive port f => decide (port < 8) && f.wf
  | .hubRxWindowClose desc => decide (desc < 4096)
  | .portReopen port => decide (port < 8)
  | .hubPortEnableWrite init port _ => decide (init < 64) && decide (port < 8)
  | .hubLinkChange port _ => decide (port < 8)
  | .openMsg src dst stream => decide (src < 256) && decide (dst < 256) && decide (stream < 65536)
  | .dataMsg src dst stream offset ack bytes =>
    decide (src < 256) && decide (dst < 256) && decide (stream < 65536) && decide (offset < 2 ^ 32) && decide (ack < 2 ^ 32) &&
      decide (bytes.length < 65536)
  | .closeMsg src dst stream reason => decide (src < 256) && decide (dst < 256) && decide (stream < 65536) && decide (reason < 256)
  | .relayConnect tcpPort => decide (tcpPort < 65536)
  | .streamResend peer stream => decide (peer < 256) && decide (stream < 65536)
  | .streamAckTimeout peer stream => decide (peer < 256) && decide (stream < 65536)
  | .streamIdleTimeout peer stream => decide (peer < 256) && decide (stream < 65536)
  | .pairTxSlot buffer => decide (buffer < 256)
  | .pairReportReceive _ _ => true
  | .shadowFrameReceive _ _ => true
  | .pilInChange _ => true
  | .pairSwitch init _ => decide (init < 64)
  | .glumeMessageReceive transport _ _ => decide (1 ≤ transport) && decide (transport ≤ 4)
  | .connectionTimeout c => decide (c < 512)
  | .glmConnEnableWrite init c _ => decide (init < 64) && decide (c < 512)
  | .inputSample di fb => decide (di.length = 40) && decide (fb.length = 16)
  | .fbPullInTimeout n => decide (n < 16)
  | .fbDropOutTimeout n => decide (n < 16)
  | .readbackSample dq loadMa groupMa => decide (dq.length = 16) && decide (loadMa.length = 16) && decide (groupMa.length = 2)
  | .offPulse n => decide (n < 16)
  | .offPulseEnd n => decide (n < 16)
  | .groupSwitchTest g _ => decide (g < 2)
  | .outputOverload n ma => decide (n < 16) && decide (ma < 65536)
  | .groupOvercurrent g ma => decide (g < 2) && decide (ma < 65536)
  | .returnCrossFault g => decide (g < 2)
  | .openLoad n => decide (n < 16)
  | .faultResetInputs init => decide (init < 64)
  | .faultResetGroups init mask => decide (init < 64) && decide (mask < 4)
  | .faultResetChannels init mask => decide (init < 64) && decide (mask < 65536)
  | .ovlResetGroups init mask => decide (init < 64) && decide (mask < 4)
  | .ovlResetChannels init mask => decide (init < 64) && decide (mask < 65536)
  | .canFrameReceive n r => decide (n < 2) && r.wf
  | .txReq init n k => decide (init < 64) && decide (n < 2) && decide (k < 128)
  | .canTxAttemptEnd n e => decide (n < 2) && e.wf
  | .canSendDeadline n => decide (n < 2)
  | .busOffHoldEnd n => decide (n < 2)
  | .recover init n => decide (init < 64) && decide (n < 2)
  | .canRecoveryDone n => decide (n < 2)
  | .canEnableWrite init n _ => decide (init < 64) && decide (n < 2)
  | .canObjectEnableWrite init n k _ => decide (init < 64) && decide (n < 2) && decide (k < 128)
  | .objStatRead init n k => decide (init < 64) && decide (n < 2) && decide (k < 128)
  | .referenceSend n => decide (n < 2)
  | .referenceLost n => decide (n < 2)
  | .culmOutboundAccept i => i.wf
  | .culmOutboundEnd e => cardsWf e.reqs
  | .culmInboundAddressPhase p => p.wf
  | .delayedReadData slot => decide (slot < 4)
  | .delayedReadDiscard slot => decide (slot < 4)
  | .prefetchExpiry buf => decide (buf < 4)
  | .culmWindowEnableWrite init inbound w _ => decide (init < 64) && decide (w < if inbound then 4 else 16)
  | .tlsHandshake _ => true
  | .sessionIdleTimeout ses => decide (ses < 4)
  | .attest req _ => req.wf
  | .challenge req => req.wf
  | .token req _ => req.wf
  | .readReg req addr count => req.wf && decide (addr < 2 ^ 36) && decide (count < 2 ^ 32)
  | .writeReg req addr _ => req.wf && decide (addr < 2 ^ 36)
  | .readMem req addr count => req.wf && decide (addr < 2 ^ 36) && decide (count < 2 ^ 32)
  | .clearRecords req => req.wf
  | .imageBegin req len => req.wf && decide (len < 2 ^ 32)
  | .imageData req offset _ => req.wf && decide (offset < 2 ^ 32)
  | .imageEnd req => req.wf
  | .confirm req => req.wf
  | .secImageConfirm init _ => decide (init < 64)
  | .activate req => req.wf
  | .imageKeyInstall req slot _ => req.wf && decide (slot < 256)
  | .anchorInstall req slot _ => req.wf && decide (slot < 256)
  | .keySlotProgram req slot _ => req.wf && decide (slot < 256)
  | .slotRevoke req slot => req.wf && decide (slot < 256)
  | .anchorA0Disable req => req.wf
  | .debugOpen req => req.wf
  | .rngRead init => decide (init < 64)
  | .shutdownGo init _ => decide (init < 64)
  | .shutdownRestart init => decide (init < 64)
  | .shutdownReady init => decide (init < 64)
  | .threshRun o => o.wf
  | .eventRaise code detail _ _ => decide (code < 65536) && decide (detail < 65536)
  | .rateIntervalEnd code _ => decide (code < 65536)
  | .sessionClosed ses => decide (ses < 4)
  | .openLoadCleared n => decide (n < 16)
  | .canBusIntegrated n => decide (n < 2)
  | .maintenanceFrameReceive _ => true
  | .bridgeBackstopTimeout => true
  | .fluctuationTimeout => true
  | .surgeTimeout => true
  | .inputReconnect => true
  | .braceDwellEnd => true
  | .quenchGuardExpiry => true
  | .railFaultTimeout => true
  | .aonSnapDone => true
  | .dramClear => true
  | .verdictApply => true
  | .imageSelect => true
  | .counterRaise => true
  | .loadAndLock => true
  | .granaryStart => true
  | .handOver => true
  | .awnScanTrigger => true
  | .laneTimeout => true
  | .awnPublish => true
  | .cycleBoundary => true
  | .releasePhase => true
  | .publish => true
  | .hoursCopy => true
  | .earFrameSend => true
  | .modeRequestTimeout => true
  | .listenTimeout => true
  | .originTakeover => true
  | .syncLost => true
  | .beaconSend => true
  | .guardianGraceEnd => true
  | .originYield => true
  | .candidateTimeout => true
  | .candidateDrawEnd => true
  | .checkScan => true
  | .pairLinkLost => true
  | .outputImageArrival => true
  | .testRound => true
  | .testRoundEnd => true
  | .lplusRestored => true
  | .culmTransactionTimeout => true
  | .inboundWriteIssue => true
  | .installationComplete => true
  | .autoConfirm => true
  | .rngHealthFail => true
  | .sdreqActive => true
  | .shutdownEntry => true
  | .shutdownGraceEnd => true
  | .threshRunDone => true
  | .recordWritten => true
  | .lifeWriteTick => true
  | .operatingSecond => true
  | .logicSupplyLost => true
  | .lampTestEnd => true

end Sys2Proof
end

