-- ==== Sys2Proof/Machine/Ops.lean ====
section
/-! DEFINITION. The named operations every meaning is built from: running a command, giving something out, free values,
events and life counters, raising an error, and reading and writing the memories. -/

namespace Sys2Proof.Machine

/-- What the last command gave out is emptied at the start of a command (log 3). -/
def State.begin (s : State) : State := { s with out := [] }

/-- A meaning: the effect `f`, the queue untouched. A command that names a unit or a number the part does not have brings
about nothing (log 6). -/
def wfRun (i : Instr) (f : State → State) (s : State) : Host.Outcome State Fault Refusal :=
  .next (if i.wf then { f s.begin with pending := s.pending } else s.begin)

/-- Give something to the outside. -/
def emit (o : Out) (s : State) : State := { s with out := s.out ++ [o] }

/-- The next free number (log 4). -/
def freshNat (s : State) : Nat := Config.freeNat s.free

/-- One free value has been drawn (log 4). -/
def drawn (s : State) : State := { s with free := s.free + 1 }

/-- `n` fresh random bytes (R367). -/
def freshBytes (s : State) (n : Nat) : List Byte :=
  (List.range n).map (fun k => BitVec.ofNat 8 ((Config.freeWord (s.free + k / 4)).toNat >>> (8 * (k % 4))))

/-- `n` free values have been drawn (log 4). -/
def drawnN (n : Nat) (s : State) : State := { s with free := s.free + n }

/-- A draw from 0 to 63 (R228, R273): from the random source, or from SERIAL and the cycle number after it has failed
(R367). -/
def draw64 (s : State) : Nat :=
  if s.sec.rngFailed then (s.fuse.serial % 64) ^^^ (s.cyc.cycle % 64) else freshNat s % 64

/-- "Cycle": bits [31:0] of the cycle number, 0 before the first cycle (R442). -/
def cycleWord (s : State) : Word := if s.cyc.begun then w32 s.cyc.cycle else 0

/-! ## Events and life counters (19) -/

/-- MRAM offset of the life counter of a code (R403). -/
def lifeOff (code : Nat) : Nat := 0x248000 + 8 * (code % 4096)

/-- MRAM offset of CAN1's own life counter of a code (R425). -/
def lifeOffCan1 (code : Nat) : Nat := 0x248000 + 8 * ((code % 4096) ||| 0x80)

/-- A life counter rises: the increment is held on the die until its line is written (R403). -/
def lifeAdd (off n : Nat) (s : State) : State :=
  { s with grn := { s.grn with incr := FMap.upd s.grn.incr 0 off (· + n) } }

/-- A record stamped now (R393, R394). -/
def stamped (s : State) (code detail flags : Nat) (d0 d1 : Word) : Rec where
  code := code
  state := if s.mod.mode = .supervised then 0 else s.mod.mode.code + 16 * s.pair.role
  flags := flags
  power := s.grn.power % 2 ^ 32
  secs := s.aon.secs % 2 ^ 32
  ms := s.aon.secNs / 1000000 % 1000
  detail := detail
  d0 := d0
  d1 := d1

/-- DROP: a record met a full queue (R398). -/
def dropRecord (s : State) : State :=
  lifeAdd (lifeOff 0x2F13) 1
    { s with grn := { s.grn with
        dropped := satInc 0xFFFFFFFF s.grn.dropped, overflow := s.grn.overflow + 1,
        err := s.grn.err.raise 1 (place 1 11 8) (cycleWord s) 0 } }

/-- A record goes to Granary: kept by the supervisor in SUPERVISED, one per code (R393); counted, not recorded, once a
quench runs (R182); lost while recording has stopped (R397); queued while the 16 entries have room (R179), else dropped. -/
def enqueue (r : Rec) (s : State) : State :=
  if s.mod.mode = .powerOff then s
  else if s.sup.quenchSince.isSome then { s with sup := { s.sup with quenchEvents := s.sup.quenchEvents + 1 } }
  else if s.mod.mode = .supervised then
    if s.grn.held.any (fun h => h.code = r.code) then s
    else { s with grn := { s.grn with held := s.grn.held ++ [r] } }
  else if s.grn.full then { s with grn := { s.grn with lost := satInc 0xFFFFFFFF s.grn.lost } }
  else if s.grn.queue.length < 16 then { s with grn := { s.grn with queue := s.grn.queue ++ [r] } }
  else dropRecord s

/-- An event with its life counter at `off` (R391, R393). No event is raised in POWER-OFF. -/
def eventAt (off code detail : Nat) (d0 d1 : Word) (s : State) : State :=
  if s.mod.mode = .powerOff then s else enqueue (stamped s code detail 0 d0 d1) (lifeAdd off 1 s)

/-- An event of a code that gives one record per occurrence. -/
def event (code detail : Nat) (d0 d1 : Word) (s : State) : State := eventAt (lifeOff code) code detail d0 d1 s

/-- An occurrence that raises its life counter and gives no record. -/
def countOnly (code : Nat) (s : State) : State := lifeAdd (lifeOff code) 1 s

/-- The open interval of a rate-limited code and index. -/
def rateOpen (s : State) (code idx : Nat) : Bool := s.grn.rates.any (fun c => c.code = code ∧ c.idx = idx)

/-- Add an occurrence to an open interval. -/
def rateBump (code idx detail : Nat) (d1 : Word) (l : List RateCell) : List RateCell :=
  l.map (fun c => if c.code = code ∧ c.idx = idx then { c with count := c.count + 1, detail := detail, d1 := d1 } else c)

/-- An event of a rate-limited code: the first occurrence is recorded at once and opens an interval of 1 s; occurrences
within it are counted (R396). -/
def eventRateAt (off code idx detail : Nat) (d1 : Word) (s : State) : State :=
  if s.mod.mode = .powerOff then s
  else if rateOpen s code idx then
    lifeAdd off 1 { s with grn := { s.grn with rates := rateBump code idx detail d1 s.grn.rates } }
  else
    let s := enqueue (stamped s code detail 0 1 d1) (lifeAdd off 1 s)
    { s with grn := { s.grn with rates := s.grn.rates ++ [⟨code, idx, s.clk.now, 0, detail, d1⟩] } }

/-- A rate-limited event at its code's own life counter. -/
def eventRate (code idx detail : Nat) (d1 : Word) (s : State) : State :=
  eventRateAt (lifeOff code) code idx detail d1 s

/-- The codes of which Granary takes at most one record per interval and index (R31, R98, R131, R185, R234, R247, R265,
R285, R302, R339, R360, R369, R376). -/
def rateLimited (code : Nat) : Bool :=
  [0x2401, 0x2008, 0x2107, 0x2408, 0x2514, 0x2601, 0x2602, 0x2603, 0x2604, 0x2606, 0x2533, 0x2715, 0x3716, 0x2801,
   0x2802, 0x2803, 0x2804, 0x2805, 0x2A03, 0x2A04, 0x2A05, 0x2A07, 0x2B03, 0x2B04, 0x2B07, 0x2B08, 0x3D30,
   0x2D31].contains code

/-- The index of a rate-limited code that its chapter names: the hub port, the Glume connection or the CAN controller;
one count for the whole code otherwise (R247, R302, R339). -/
def rateIndex (code detail : Nat) : Nat :=
  if code / 256 = 0x26 || code / 256 = 0x28 then detail
  else if code / 256 = 0x2A then detail / 256 % 2
  else 0

/-! ## Raising an error (R13): status, capture and event. The life counter is the event's. -/

/-- Rachis error `bit` of a transaction (R30, R32). `source` is the engine or domain. -/
def errRch (bit source init : Nat) (write : Bool) (resp addr : Nat) (s : State) : State :=
  let info := place source 19 16 ||| place init 13 8 ||| placeB write 5 ||| place resp 4 2
  { s with rch := { s.rch with err := s.rch.err.raise bit info (w32 addr) (w32 (addr / 2 ^ 32 % 16)) } }

/-- The Rachis coding of DETAIL (R442). -/
def rchDetail (source init : Nat) (write : Bool) (resp : Nat) : Nat :=
  init % 64 + 64 * resp + (if write then 512 else 0) + 4096 * source

/-- A Rachis error with one record per occurrence (R30, R31). -/
def raiseRch (bit code source init : Nat) (write : Bool) (resp addr : Nat) (s : State) : State :=
  event code (rchDetail source init write resp) (w32 addr) (w32 (addr / 2 ^ 32 % 16))
    (errRch bit source init write resp addr s)

/-- CE, with one record a second (R31). -/
def raiseRchCe (init : Nat) (write : Bool) (addr : Nat) (s : State) : State :=
  eventRate 0x2401 0 0 (w32 addr) (errRch 0 0 init write 0 addr s)

/-- A memory error (R185): MCE 0, MUE 1, SUE 2, HRS 3. -/
def errMem (bit unit addr : Nat) (s : State) : State :=
  let info := place unit 9 8 ||| place bit 7 4
  { s with rch := { s.rch with mem := s.rch.mem.raise bit info (w32 addr) (w32 (addr / 2 ^ 32 % 16)) } }

/-- MUE or SUE, one record per occurrence (R185). -/
def raiseMem (bit code unit addr : Nat) (s : State) : State :=
  event code unit (w32 addr) (w32 (addr / 2 ^ 32 % 16)) (errMem bit unit addr s)

/-- MCE, one record a second (R185). -/
def raiseMce (unit addr : Nat) (s : State) : State := eventRate 0x2408 0 0 (w32 addr) (errMem 0 unit addr s)

/-- Sticky error of the triads, WINDOW captured (R98). -/
def errTrd (bit : Nat) (info : Word) (window : Nat) (s : State) : State :=
  { s with trd := { s.trd with err := s.trd.err.raise bit info (w32 window) 0 } }

/-- Sticky error of Awn, SCAN captured (R131). -/
def errAwn (bit : Nat) (info : Word) (s : State) : State :=
  { s with awn := { s.awn with err := s.awn.err.raise bit info (w32 s.awn.scan) 0 } }

/-- Sticky error of the cycle controller (R154). -/
def errCyc (bit : Nat) (info : Word) (s : State) : State :=
  { s with cyc := { s.cyc with err := s.cyc.err.raise bit info (cycleWord s) 0 } }

/-- Sticky error of the schedulers (R169). -/
def errSch (bit : Nat) (info : Word) (s : State) : State :=
  { s with sch := { s.sch with err := s.sch.err.raise bit info (cycleWord s) 0 } }

/-- Sticky error of Vyfabin (R234). -/
def errVyf (bit : Nat) (info : Word) (s : State) : State :=
  { s with vyf := { s.vyf with err := s.vyf.err.raise bit info (cycleWord s) 0 } }

/-- Sticky error of the train fabric (R265). -/
def errFab (bit : Nat) (info : Word) (s : State) : State :=
  { s with fab := { s.fab with err := s.fab.err.raise bit info (cycleWord s) 0 } }

/-- Sticky error of the hub (R247). -/
def errHub (bit : Nat) (info : Word) (s : State) : State :=
  { s with hub := { s.hub with err := s.hub.err.raise bit info (cycleWord s) 0 } }

/-- Sticky error of the pair engine (R285). -/
def errPair (bit : Nat) (info : Word) (s : State) : State :=
  { s with pair := { s.pair with err := s.pair.err.raise bit info (cycleWord s) 0 } }

/-- Sticky error of Glume (R302). -/
def errGlm (bit : Nat) (info : Word) (s : State) : State :=
  { s with glm := { s.glm with err := s.glm.err.raise bit info (cycleWord s) 0 } }

/-- Sticky error of field I/O (R324). -/
def errFio (bit : Nat) (info : Word) (s : State) : State :=
  { s with fio := { s.fio with err := s.fio.err.raise bit info (cycleWord s) 0 } }

/-- Sticky error of the Culm bridge, Culm address captured (R360). -/
def errCulm (bit : Nat) (info addr : Word) (s : State) : State :=
  { s with culm := { s.culm with err := s.culm.err.raise bit info (cycleWord s) addr } }

/-- Sticky error of the supervisor (R201). -/
def errSup (bit : Nat) (info : Word) (s : State) : State :=
  { s with sup := { s.sup with err := s.sup.err.raise bit info (cycleWord s) 0 } }

/-- Sticky error of the security engine (R376, R65). -/
def errSec (bit : Nat) (info : Word) (s : State) : State :=
  { s with sec := { s.sec with err := s.sec.err.raise bit info (cycleWord s) 0 } }

/-- Sticky error of Thresh (R388). -/
def errThr (bit : Nat) (info : Word) (s : State) : State :=
  { s with thr := { s.thr with err := s.thr.err.raise bit info (cycleWord s) 0 } }

/-- Sticky error of Granary (R405). -/
def errGrn (bit : Nat) (info : Word) (s : State) : State :=
  { s with grn := { s.grn with err := s.grn.err.raise bit info (cycleWord s) 0 } }

/-- CAN controller `n`. -/
def State.can (s : State) (n : Nat) : Can := if n = 0 then s.can0 else s.can1

/-- Controller `n` replaced. -/
def State.setCan (s : State) (n : Nat) (c : Can) : State :=
  if n = 0 then { s with can0 := c } else { s with can1 := c }

/-- Sticky error of a CAN controller (R339). -/
def errCan (n bit : Nat) (info : Word) (s : State) : State :=
  s.setCan n { s.can n with err := (s.can n).err.raise bit info (cycleWord s) 0 }

/-- Life counter of a CAN code, by controller (R339, R425). -/
def canLife (n code : Nat) : Nat := if n = 0 then lifeOff code else lifeOffCan1 code

/-! ## The memories -/

/-- First address of DRAM (R20). -/
def dramBase : Nat := 0x100000000
/-- First address of MRAM (R20). -/
def mramBase : Nat := 0x4000000
/-- The register space (R20). -/
def regBase : Nat := 0xF0000000

/-- The canonical form of the memories (MRAM, DRAM, both copies of the boot NOR): addresses strictly rising, no entry equal
to what an unlisted address reads as. -/
def Mem.wf (m : Mem) : Bool :=
  FMap.wf 0 m.mram && FMap.wf 0 m.dram && FMap.wf 0xFF m.norA && FMap.wf 0xFF m.norB

/-- Bytes of MRAM from offset `o`. -/
def Mem.mramGet (m : Mem) (o n : Nat) : List Byte := FMap.lookList m.mram 0 o n

/-- The beats of `n` bytes at offset `o` that the bytes cover whole. -/
def wholeBeats (o n : Nat) : List Nat :=
  (List.range (n / 8 + 2)).filterMap (fun k =>
    let b := o / 8 + k
    if o ≤ 8 * b ∧ 8 * b + 8 ≤ o + n then some b else none)

/-- Write bytes at MRAM offset `o`; a word covered whole holds no error afterwards (R173, log 12). -/
def Mem.mramPut (m : Mem) (o : Nat) (bs : List Byte) : Mem :=
  { m with mram := FMap.storeList m.mram 0 o bs,
           mramBad := m.mramBad.filter (fun b => !(wholeBeats o bs.length).contains b) }

/-- Bytes of DRAM from offset `o`. -/
def Mem.dramGet (m : Mem) (o n : Nat) : List Byte := FMap.lookList m.dram 0 o n

/-- Write bytes at DRAM offset `o`; a write that covers a damaged beat whole repairs it (R171). -/
def Mem.dramPut (m : Mem) (o : Nat) (bs : List Byte) : Mem :=
  { m with dram := FMap.storeList m.dram 0 o bs,
           dramBad := m.dramBad.filter (fun b => !(wholeBeats o bs.length).contains b) }

/-- An access of `n` bytes at offset `o` touches a beat of `bad`. -/
def touchesBad (bad : List Nat) (o n : Nat) : Bool := bad.any (fun b => decide (8 * b < o + n ∧ o < 8 * b + 8))

/-- Write into MRAM, over a record port or a controller's own write (R175). -/
def mramWrite (o : Nat) (bs : List Byte) (s : State) : State := { s with mem := s.mem.mramPut o bs }

/-- A read of MRAM on the die, `n` bytes at offset `o`: a damaged word in it raises MUE and stays (R173). -/
def mramProbe (o n : Nat) (s : State) : State :=
  if touchesBad s.mem.mramBad o n then raiseMem 1 0x3409 1 (mramBase + o) s else s

/-- Bytes of boot NOR copy A or B (R43, R44): unwritten flash reads 0xFF. -/
def norGet (s : State) (copyB : Bool) (o n : Nat) : List Byte :=
  FMap.lookList (if copyB then s.mem.norB else s.mem.norA) 0xFF o n

/-- Write bytes of a boot NOR copy. -/
def norPut (copyB : Bool) (o : Nat) (bs : List Byte) (s : State) : State :=
  if copyB then { s with mem := { s.mem with norB := FMap.storeList s.mem.norB 0xFF o bs } }
  else { s with mem := { s.mem with norA := FMap.storeList s.mem.norA 0xFF o bs } }

/-- A register of the LK store: window and offset (R421). -/
def lkAt (s : State) (window off : Nat) : Word := FMap.look s.lk 0 (0x10000 * window + off)

/-- Write an LK word. -/
def lkPut (window off : Nat) (v : Word) (s : State) : State :=
  { s with lk := FMap.store s.lk 0 (0x10000 * window + off) v }

/-- A command that the protocol engines `es` carry out: where it has any effect, each of them has made progress (01 R40,
log 67). -/
def engRun (es : List Nat) (f : State → State) (s : State) : State :=
  let t := f s
  { t with eng := if t = s then t.eng else es.foldl (fun l e => modAt l e (fun _ => t.clk.now)) t.eng }

/-- Triad `t`. -/
def State.tri (s : State) (t : Nat) : Triad := nth s.trd.triads t {}

/-- Triad `t` changed. -/
def modTri (t : Nat) (f : Triad → Triad) (s : State) : State :=
  { s with trd := { s.trd with triads := modAt s.trd.triads t f } }

/-- Core `n`. -/
def State.core (s : State) (n : Nat) : Core := nth s.trd.cores n {}

/-- Core `n` changed. -/
def modCore (n : Nat) (f : Core → Core) (s : State) : State :=
  { s with trd := { s.trd with cores := modAt s.trd.cores n f } }

/-- Positions that are live, of a triad. -/
def Triad.livePos (t : Triad) : List Nat := (List.range 3).filter (fun p => nth t.live p false)

/-- The core of a position. -/
def Triad.coreAt (t : Triad) (p : Nat) : Nat := nth t.cores p 0

/-! ## Structures kept in two slots (07 R178) -/

/-- The slot to write and its sequence number, from the sequences of the valid slots: the lower one, else the one that is
not valid, else slot 0 (R178). With no valid slot the sequence is 1 (log 13). -/
def slotNext (v0 v1 : Option Nat) : Nat × Nat :=
  match v0, v1 with
  | some a, some b => (if a ≤ b then 0 else 1, Nat.max a b + 1)
  | some a, none => (1, a + 1)
  | none, some b => (0, b + 1)
  | none, none => (0, 1)

/-- The slot to read: the valid one with the higher sequence (R178). -/
def slotBest (v0 v1 : Option Nat) : Option Nat :=
  match v0, v1 with
  | some a, some b => some (if a < b then 1 else 0)
  | some _, none => some 0
  | none, some _ => some 1
  | none, none => none

/-- The sequence of a 64-byte slot at MRAM offset `o` whose CRC-32 over offsets 0x00 to 0x3B stands at 0x3C; `q` is the
offset of the 4-byte sequence. None when the CRC fails. -/
def slot64 (s : State) (o q : Nat) : Option Nat :=
  let b := s.mem.mramGet o 64
  if leAt b 0x3C 4 = crc32 (b.take 0x3C) ∧ !touchesBad s.mem.mramBad o 64 then some (leAt b q 4) else none

/-- Complete 60 bytes with their CRC-32. -/
def sealed64 (b : List Byte) : List Byte := let b := slice b 0 0x3C; b ++ le 4 (crc32 b)

/-- Apply an operation to items and their indices, first item first. -/
def forIdx {α : Type} (i : Nat) (l : List α) (f : Nat → α → State → State) (s : State) : State :=
  match l with
  | [] => s
  | a :: t => forIdx (i + 1) t f (f i a s)

/-- Fold an operation over a list of items, first item first. -/
def forAll {α : Type} (l : List α) (f : α → State → State) (s : State) : State :=
  match l with
  | [] => s
  | a :: t => forAll t f (f a s)

end Sys2Proof.Machine
end

