-- ==== Sys2Proof/Machine/Operands.lean ====
section
/-! DEFINITION. The operand forms: the bit and word operands of an Awn step (04 R107 to R109, R115, R117, R119), read and
stored in a lane; who may write a register (21 R420, R421); the firewall's view of an address (01 R20, R22, R28). -/

namespace Sys2Proof.Machine

/-! ## Awn operands -/

/-- What a lane's steps see of the engine and of the program: the object tables, and system bits FIRST and DEGRADED. -/
structure AwnEnv where
  prog : AwnProg
  first : Bool
  degraded : Bool
  /-- scan number folded into the close record (R121) -/
  scan : Nat

/-- The empty program. -/
def AwnProg.none : AwnProg := ⟨[], [], [], [], [], [], 0, 0⟩

/-- Object table entry `n`; all zero (unused) beyond the table (R126). -/
def awnObj (t : List AwnObj) (n : Nat) : AwnObj := nth t n ⟨0, 0, 0, 0, 0⟩

/-- A timer's base in ns (R115, R126). -/
def timerBase (o : AwnObj) : Nat :=
  match o.base with
  | 0 => 100000
  | 1 => 1000000
  | 2 => 10000000
  | _ => 100000000

/-- A timer's preset: K, at most 0x1FFF_FFFF (R115). -/
def timerPreset (d : AwnData) (o : AwnObj) : Nat :=
  let k := (FMap.look d.k 0 o.preset).toNat
  if k ≤ 0x1FFFFFFF then k else 0x1FFFFFFF

/-- Elapsed time of a timer, on the 64-bit train time base (R116). -/
def timerElapsed (d : AwnData) (t : AwnTimer) : Nat := (d.scanTime - t.start).toNat

/-- TV: elapsed time in units of the base, capped at the preset (R117). -/
def timerValue (d : AwnData) (o : AwnObj) (t : AwnTimer) : Nat :=
  let p := timerPreset d o
  if t.run then Nat.min (timerElapsed d t / timerBase o) p
  else if t.q && o.kind == 1 then p
  else 0

/-- A counter's output bit (R119). -/
def counterOut (d : AwnData) (o : AwnObj) (c : AwnCounter) : Bool :=
  decide ((FMap.look d.k 0 o.preset).toInt ≤ c.cv.toInt)

/-- A square wave of half-period `h` ns (R109). -/
def square (d : AwnData) (h : Nat) : Bool := d.scanTime.toNat / h % 2 == 1

/-- System bit `i` (R109). -/
def sysBit (e : AwnEnv) (l : AwnLane) (i : Nat) : Bool :=
  match i with
  | 0 => true
  | 2 => e.first
  | 3 => l.ov
  | 4 => e.degraded
  | 8 => square l.d 50000000
  | 9 => square l.d 250000000
  | 10 => square l.d 500000000
  | 11 => square l.d 1000000000
  | _ => false

/-- Bit `i` of a bit area (R103). -/
def areaBit (a : FMap Byte) (i : Nat) : Bool := (FMap.look a 0 (i / 8)).getLsbD (i % 8)

/-- Set bit `i` of a bit area. -/
def areaSetBit (a : FMap Byte) (i : Nat) (b : Bool) : FMap Byte :=
  FMap.upd a 0 (i / 8) (fun y =>
    let m : Byte := BitVec.ofNat 8 (2 ^ (i % 8))
    if b then y ||| m else y &&& ~~~m)

/-- Word `k` of a bit area (R103): bit 32·k in bit 0. -/
def areaWord (a : FMap Byte) (k : Nat) : Word := w32 (leNat (FMap.lookList a 0 (4 * k) 4))

/-- Store word `k` of a bit area. -/
def areaSetWord (a : FMap Byte) (k : Nat) (v : Word) : FMap Byte := FMap.storeList a 0 (4 * k) (le 4 v.toNat)

/-- Read a bit operand before the N inversion; none where R107 does not allow it. -/
def readBit (e : AwnEnv) (l : AwnLane) (sp idx : Nat) : Option Bool :=
  match sp with
  | 0 => if idx < 8192 then some (areaBit l.d.i idx) else none
  | 1 => if idx < 8192 then some (areaBit l.d.q idx) else none
  | 2 => if idx < 8192 then some (areaBit l.d.m idx) else none
  | 3 => if idx < 131072 then some ((FMap.look l.d.w 0 (idx / 32)).getLsbD (idx % 32)) else none
  | 4 => if idx < 2048 then some (FMap.look l.d.timers {} idx).q else none
  | 5 => if idx < 1024 then some (counterOut l.d (awnObj e.prog.counters idx) (FMap.look l.d.counters {} idx)) else none
  | 6 => if idx < 12 then some (sysBit e l idx) else none
  | _ => none

/-- The operand x of LD, AND, OR and XOR, N applied (R111). -/
def bitOperand (e : AwnEnv) (l : AwnLane) (x : BOp) : Option Bool :=
  match readBit e l x.sp x.idx with
  | none => none
  | some b => some (b != x.neg)

/-- A bit operand may be stored to (R107). -/
def bitStorable (sp idx : Nat) : Bool :=
  match sp with
  | 1 => decide (idx < 8192)
  | 2 => decide (idx < 8192)
  | 3 => decide (idx < 131072)
  | _ => false

/-- Store a bit operand. -/
def storeBit (d : AwnData) (sp idx : Nat) (b : Bool) : AwnData :=
  match sp with
  | 1 => { d with q := areaSetBit d.q idx b }
  | 2 => { d with m := areaSetBit d.m idx b }
  | 3 =>
    { d with w := FMap.upd d.w 0 (idx / 32) (fun y =>
        if b then y ||| w32 (2 ^ (idx % 32)) else y &&& ~~~(w32 (2 ^ (idx % 32)))) }
  | _ => d

/-- Read a word operand; none where R108 does not allow it. -/
def readWord (e : AwnEnv) (l : AwnLane) (x : WOp) : Option Word :=
  match x.sp with
  | 0 => if x.idx < 256 then some (areaWord l.d.i x.idx) else none
  | 1 => if x.idx < 256 then some (areaWord l.d.q x.idx) else none
  | 2 => if x.idx < 256 then some (areaWord l.d.m x.idx) else none
  | 3 => if x.idx < 4096 then some (FMap.look l.d.w 0 x.idx) else none
  | 4 => if x.idx < 1024 then some (FMap.look l.d.k 0 x.idx) else none
  | 5 =>
    if x.idx < 2048 then
      some (w32 (timerValue l.d (awnObj e.prog.timers x.idx) (FMap.look l.d.timers {} x.idx)))
    else none
  | 6 => if x.idx < 1024 then some (FMap.look l.d.counters {} x.idx).cv else none
  | 7 => some ((BitVec.ofNat 16 x.idx).signExtend 32)
  | _ => none

/-- A word operand may be stored to (R108). -/
def wordStorable (x : WOp) : Bool :=
  match x.sp with
  | 1 => decide (x.idx < 256)
  | 2 => decide (x.idx < 256)
  | 3 => decide (x.idx < 4096)
  | _ => false

/-- Store a word operand. -/
def storeWord (d : AwnData) (x : WOp) (v : Word) : AwnData :=
  match x.sp with
  | 1 => { d with q := areaSetWord d.q x.idx v }
  | 2 => { d with m := areaSetWord d.m x.idx v }
  | 3 => { d with w := FMap.store d.w 0 x.idx v }
  | _ => d

/-! ## Initiators and writers -/

/-- Initiator of triad `t`'s voter (R19). -/
def voterId (t : Nat) : Nat := 0x18 + t
/-- Initiator of the cycle controller. -/
def cycId : Nat := 0x27
/-- Initiator of the security engine. -/
def secId : Nat := 0x2B

/-- The voter of a TRIAD-mode triad: a triad configured TRIAD, or one in SPLIT mode has no voter writes (R95). -/
def isVoter (s : State) (init : Nat) : Bool :=
  decide (0x18 ≤ init) && decide (init ≤ 0x1D) && !(s.tri (init - 0x18)).split

/-- LK fields take a write: the set-up is unlocked, and the writer is the core that runs boot code or the security engine
(R421). -/
def lkWritable (s : State) (init : Nat) : Bool :=
  s.mod.mode.released && !s.sec.lock && (decide (init = s.mod.bootCore) || decide (init = secId))

/-! ## Addresses and the firewall -/

/-- Size and alignment of R22: 1, 2, 4 or 8 bytes aligned, or 64 aligned. -/
def sizeOk (addr size : Nat) : Bool :=
  decide (size = 1 ∨ size = 2 ∨ size = 4 ∨ size = 8 ∨ size = 64) && decide (addr % size = 0)

/-- Region `r` of initiator `n` grants `kind` over the whole transaction (R28). -/
def regionGrants (s : State) (n r : Nat) (kind : RKind) (addr size : Nat) : Bool :=
  let o := 0x1000 + 0x100 * n + 0x10 * r
  let base := fieldOf (lkAt s 4 o) 23 0
  let limit := fieldOf (lkAt s 4 (o + 4)) 23 0
  let attr := lkAt s 4 (o + 8)
  let grant := match kind with
    | .read => bitOf attr 1
    | .write => bitOf attr 2
    | .fetch => bitOf attr 3
  bitOf attr 0 && grant && decide (base ≤ limit) && decide (base ≤ addr / 4096) &&
    decide ((addr + size - 1) / 4096 ≤ limit)

/-! ## The security area (17 R363) -/

/-- SEC_ERR_INFO without its flags; copy 15 for none. -/
def secInfo (bit step copy : Nat) : Word := place step 19 16 ||| place copy 15 12 ||| place bit 11 8

/-- An error of the security engine with its record. -/
def raiseSec (bit code detail step copy : Nat) (d0 d1 : Word) (s : State) : State :=
  event code detail d0 d1 (errSec bit (secInfo bit step copy) s)

/-- The sequence of a slot that is valid (07 R178). -/
def SecSlot.valid (x : Option SecSlot) : Option Nat :=
  match x with
  | some y => if y.good then some y.seq else none
  | none => none

/-- What a record holds: the valid slot of the higher sequence; none where it is absent (07 R178). -/
def SecRec.value (r : SecRec) : Option (List Byte) :=
  match slotBest (SecSlot.valid r.s0) (SecSlot.valid r.s1) with
  | some 0 => r.s0.map (fun x => x.data)
  | some _ => r.s1.map (fun x => x.data)
  | none => none

/-- The record written under R178: into the other slot, with the next sequence. -/
def SecRec.write (r : SecRec) (b : List Byte) : SecRec :=
  let n := slotNext (SecSlot.valid r.s0) (SecSlot.valid r.s1)
  if n.1 = 0 then { r with s0 := some ⟨n.2, b, true⟩ } else { r with s1 := some ⟨n.2, b, true⟩ }

/-- Slot `k` no longer checks. -/
def SecRec.spoil (r : SecRec) (k : Nat) : SecRec :=
  if k = 0 then { r with s0 := r.s0.map (fun x => { x with good := false }) }
  else { r with s1 := r.s1.map (fun x => { x with good := false }) }

/-- The record was written and no slot of it checks any more: it counts as absent (R363). -/
def SecRec.spoilt (r : SecRec) : Bool := (r.s0.isSome || r.s1.isSome) && r.value.isNone

/-- Record `r` of the area: A1, A2, image key 0, image key 1. -/
def SecArea.record (a : SecArea) (r : Nat) : SecRec :=
  match r with
  | 0 => a.a1
  | 1 => a.a2
  | 2 => a.key0
  | _ => a.key1

/-- Record `r` replaced. -/
def SecArea.set (a : SecArea) (r : Nat) (x : SecRec) : SecArea :=
  match r with
  | 0 => { a with a1 := x }
  | 1 => { a with a2 := x }
  | 2 => { a with key0 := x }
  | _ => { a with key1 := x }

/-- The initiator whose regions apply to `n`: a reserve core in a position uses those of the core that the position held
at hand-over (03 R77). -/
def fwId (s : State) (n : Nat) : Nat :=
  let c := s.core n
  if s.mod.mode.handed && decide (n < 20) && decide (c.role ≤ 1) then nth (s.tri c.triad).fwCore c.pos n else n

/-- The part of the first 4 MiB of MRAM that initiator `n` may write, as offsets: Thresh the verdict, the security engine its
area, Granary its two areas; nobody else any of it, and nobody through Rachis the life block or the reserved part (R174,
R175). -/
def mramOwn (n : Nat) : Nat × Nat :=
  match n with
  | 0x2B => (0x10000, 0x40000)
  | 0x2C => (0x1000, 0x10000)
  | 0x2D => (0x40000, 0x280000)
  | _ => (0, 0)

/-- Pages 0x00_0000 to 0x3F_FFFF of MRAM take nothing but reads of the Granary ring and the life data, the reads that the
fixed tables of 0x2B to 0x2E grant, and the writes of an area's own writer (R174, R176). -/
def mramGuard (n : Nat) (kind : RKind) (addr size : Nat) : Bool :=
  if addr < mramBase + 0x400000 ∧ mramBase < addr + size then
    match kind with
    | .read =>
      decide (0x2B ≤ n ∧ n ≤ 0x2E) || (decide (mramBase + 0x40000 ≤ addr) && decide (addr + size ≤ mramBase + 0x280000))
    | .write => decide (mramBase + (mramOwn n).1 ≤ addr) && decide (addr + size ≤ mramBase + (mramOwn n).2)
    | .fetch => false
  else true

/-- The firewall passes the transaction: one enabled region covers it and grants it (R28, 07 R176). -/
def firewallOk (s : State) (n : Nat) (kind : RKind) (addr size : Nat) : Bool :=
  mramGuard n kind addr size && (List.range 16).any (fun r => regionGrants s (fwId s n) r kind addr size)

/-- Where a physical address leads (R20, R417). -/
inductive Place where
  | rom (off : Nat)
  | awn (off : Nat)
  | mram (off : Nat)
  | nor (copyB : Bool) (off : Nat)
  | culm
  | reg (window off : Nat)
  | dram (off : Nat)
  | unmapped
  deriving DecidableEq, Repr

/-- The address map (R20, R21, R417). -/
def placeOf (addr : Nat) : Place :=
  if addr < 0x20000 then .rom addr
  else if 0x2000000 ≤ addr ∧ addr < 0x2010000 then .awn (addr - 0x2000000)
  else if 0x4000000 ≤ addr ∧ addr < 0x5000000 then .mram (addr - 0x4000000)
  else if 0x10000000 ≤ addr ∧ addr < 0x20000000 then .nor false (addr - 0x10000000)
  else if 0x20000000 ≤ addr ∧ addr < 0x30000000 then .nor true (addr - 0x20000000)
  else if 0xC0000000 ≤ addr ∧ addr < 0xE0000000 then .culm
  else if 0xF0000000 ≤ addr ∧ addr < 0xF0130000 then .reg ((addr - 0xF0000000) / 0x10000) (addr % 0x10000)
  else if 0x100000000 ≤ addr ∧ addr < 0x200000000 then .dram (addr - 0x100000000)
  else .unmapped

/-- The target port of an address, for transactions that wait there (R19, R40). -/
def targetOf (addr : Nat) : Option Target :=
  match placeOf addr with
  | .rom _ => some .rom
  | .awn _ => some .awn
  | .mram _ => some .mram
  | .nor b _ => some (if b then .norB else .norA)
  | .culm => some .culm
  | .reg w _ => some (.regs w)
  | .dram _ => some .dram
  | .unmapped => none

/-! ## Test units that Thresh has isolated (18 R377, R380) -/

/-- Thresh has isolated unit `u`. -/
def isolated (s : State) (u : Nat) : Bool := s.thr.isolated.contains u

/-- No transaction of initiator `init` leaves its unit: a core, or the voter of a triad, that is isolated. -/
def fencedOut (s : State) (init : Nat) : Bool :=
  (decide (init < 20) && isolated s init) || (decide (0x18 ≤ init ∧ init ≤ 0x1D) && isolated s (init - 4))

/-- A transaction to `addr` is one to an isolated unit: the process image of lanes of which one is isolated, or the registers
of a triad whose voter is (log 201). -/
def fencedIn (s : State) (addr : Nat) : Bool :=
  match placeOf addr with
  | .awn _ => [26, 27, 28].any (isolated s)
  | .reg w o => decide (w = 0 ∧ 0x100 ≤ o ∧ o < 0x280) && isolated s (20 + (o - 0x100) / 0x40)
  | _ => false

end Sys2Proof.Machine
end

