-- ==== Sys2Proof/Machine/AwnStep.lean ====
section
/-! DEFINITION. The steps of the Awn engine (04 R107 to R122): what one step does in one lane. A step acts on a lane that
executes: the engine scans, the lane is live and has not closed; it changes nothing otherwise (log 20). A step that
R107, R108 or R111 does not allow closes the lane with ILLEGAL (log 21). -/

namespace Sys2Proof.Machine

/-- The lane moves on by `n` words, `n` steps counted (R111). -/
def laneNext (n : Nat) (l : AwnLane) : AwnLane := { l with pc := l.pc + n, steps := l.steps + n }

/-- Fold a record into the lane's signature (R121). -/
def laneFold (w0 w1 : Nat) (l : AwnLane) : AwnLane :=
  { l with sig := sigRecord l.sig (BitVec.ofNat 64 w0) (BitVec.ofNat 64 w1) }

/-- The lane closes with a cause and folds its close record (R121, R122); `pc` stays at the step that closed it, which with
STACK, ECC and ILLEGAL does not count among the steps executed (log 181, DESIGN CHOICE). -/
def laneClose (e : AwnEnv) (cause : Nat) (l : AwnLane) : AwnLane :=
  { laneFold (0xF * 2 ^ 60 + cause * 2 ^ 40 + l.steps % 2 ^ 17) e.scan l with cause := some cause }

/-- Close with STACK (R113). -/
def laneStack (e : AwnEnv) (l : AwnLane) : AwnLane := laneClose e 2 l
/-- Close with ILLEGAL (R122). -/
def laneIllegal (e : AwnEnv) (l : AwnLane) : AwnLane := laneClose e 4 l

/-- A step whose effect is on BA alone. -/
def laneBa (b : Bool) (l : AwnLane) : AwnLane := laneNext 1 { l with ba := b }
/-- A step whose effect is on WA alone. -/
def laneWa (v : Word) (l : AwnLane) : AwnLane := laneNext 1 { l with wa := v }

/-- BA takes a function of BA and the bit operand. -/
def laneBit (f : Bool → Bool → Bool) (e : AwnEnv) (x : BOp) (l : AwnLane) : AwnLane :=
  match bitOperand e l x with
  | none => laneIllegal e l
  | some b => laneBa (f l.ba b) l

/-- LD (R111). -/
def laneLd (e : AwnEnv) (x : BOp) (l : AwnLane) : AwnLane := laneBit (fun _ b => b) e x l
/-- AND (R111). -/
def laneAnd (e : AwnEnv) (x : BOp) (l : AwnLane) : AwnLane := laneBit (fun a b => a && b) e x l
/-- OR (R111). -/
def laneOr (e : AwnEnv) (x : BOp) (l : AwnLane) : AwnLane := laneBit (fun a b => a || b) e x l
/-- XOR (R111). -/
def laneXor (e : AwnEnv) (x : BOp) (l : AwnLane) : AwnLane := laneBit (fun a b => a != b) e x l

/-- The first word of a bit-store record (R121). -/
def bitRecord (x : BOp) : Nat := 4 * 2 ^ 60 + x.sp * 2 ^ 57 + x.idx

/-- ST: the operand takes BA, or NOT BA when N is 1 (R111). -/
def laneSt (e : AwnEnv) (x : BOp) (l : AwnLane) : AwnLane :=
  if bitStorable x.sp x.idx then
    let b := l.ba != x.neg
    laneNext 1 (laneFold (bitRecord x) b.toNat { l with d := storeBit l.d x.sp x.idx b })
  else laneIllegal e l

/-- SET and RST: the operand takes `v` when BA is 1; N must be 0 (R111); the record holds the bit written, 0 where none
was (R121). -/
def laneSetTo (v : Bool) (e : AwnEnv) (x : BOp) (l : AwnLane) : AwnLane :=
  if bitStorable x.sp x.idx && !x.neg then
    laneNext 1 (laneFold (bitRecord x) (l.ba && v).toNat
      (if l.ba then { l with d := storeBit l.d x.sp x.idx v } else l))
  else laneIllegal e l

/-- SET (R111). -/
def laneSet (e : AwnEnv) (x : BOp) (l : AwnLane) : AwnLane := laneSetTo true e x l
/-- RST (R111). -/
def laneRst (e : AwnEnv) (x : BOp) (l : AwnLane) : AwnLane := laneSetTo false e x l

/-- NOT (R111). -/
def laneNot (l : AwnLane) : AwnLane := laneBa (!l.ba) l

/-- PSH: push BA; a full stack of 16 closes the lane with STACK (R111, R113). -/
def lanePsh (e : AwnEnv) (l : AwnLane) : AwnLane :=
  if l.stack.length < 16 then laneNext 1 { l with stack := l.ba :: l.stack } else laneStack e l

/-- A step that pops: BA takes a function of BA and the popped bit; an empty stack closes the lane with STACK. -/
def lanePopWith (f : Bool → Bool → Bool) (e : AwnEnv) (l : AwnLane) : AwnLane :=
  match l.stack with
  | [] => laneStack e l
  | b :: t => laneNext 1 { l with ba := f l.ba b, stack := t }

/-- POP (R111). -/
def lanePop (e : AwnEnv) (l : AwnLane) : AwnLane := lanePopWith (fun _ b => b) e l
/-- POPA (R111). -/
def lanePopa (e : AwnEnv) (l : AwnLane) : AwnLane := lanePopWith (fun a b => a && b) e l
/-- POPO (R111). -/
def lanePopo (e : AwnEnv) (l : AwnLane) : AwnLane := lanePopWith (fun a b => a || b) e l
/-- POPX (R111). -/
def lanePopx (e : AwnEnv) (l : AwnLane) : AwnLane := lanePopWith (fun a b => a != b) e l

/-- RDS: BA takes the top of the stack, which stays (R111). -/
def laneRds (e : AwnEnv) (l : AwnLane) : AwnLane :=
  match l.stack with
  | [] => laneStack e l
  | b :: _ => laneBa b l

/-- The first word of an object record: table 0 timer, 1 counter, 2 edge detector (R121). -/
def objRecord (table n : Nat) : Nat := 6 * 2 ^ 60 + table * 2 ^ 58 + n

/-- Timer bits of a record: Q in [0], RUN in [1], IN in [2] (R121). -/
def timerBits (t : AwnTimer) : Nat := t.q.toNat + 2 * t.run.toNat + 4 * t.inp.toNat

/-- TON (R116). -/
def evalTon (now : Dword) (limit : Nat) (inNow : Bool) (t : AwnTimer) : AwnTimer :=
  let t := if !inNow then { t with run := false, q := false }
    else if !t.run && !t.q then { t with run := true, start := now } else t
  if t.run && decide (limit ≤ (now - t.start).toNat) then { t with run := false, q := true } else t

/-- TOF (R116). -/
def evalTof (now : Dword) (limit : Nat) (inNow : Bool) (t : AwnTimer) : AwnTimer :=
  if inNow then { t with run := false, q := true }
  else if t.q then
    let t := if !t.run then { t with run := true, start := now } else t
    if limit ≤ (now - t.start).toNat then { t with run := false, q := false } else t
  else t

/-- TP (R116). -/
def evalTp (now : Dword) (limit : Nat) (inNow : Bool) (t : AwnTimer) : AwnTimer :=
  let t := if !t.run && inNow && !t.inp then { t with run := true, q := true, start := now } else t
  if t.run && decide (limit ≤ (now - t.start).toNat) then { t with run := false, q := false } else t

/-- A timer evaluated with input `inNow` (R116): KIND 1 TON, 2 TOF, 3 TP. -/
def evalTimer (d : AwnData) (o : AwnObj) (inNow : Bool) (t : AwnTimer) : AwnTimer :=
  let limit := timerPreset d o * timerBase o
  let t := match o.kind with
    | 1 => evalTon d.scanTime limit inNow t
    | 2 => evalTof d.scanTime limit inNow t
    | 3 => evalTp d.scanTime limit inNow t
    | _ => t
  { t with inp := inNow }

/-- A timer of the lane takes a new state, and its record is folded. -/
def lanePutTimer (n : Nat) (t : AwnTimer) (l : AwnLane) : AwnLane :=
  laneFold (objRecord 0 n) (timerBits t) { l with d := { l.d with timers := FMap.store l.d.timers {} n t } }

/-- TIM: evaluate timer `n` with input BA; BA takes its Q (R116). -/
def laneTim (e : AwnEnv) (n : Nat) (l : AwnLane) : AwnLane :=
  let t := evalTimer l.d (awnObj e.prog.timers n) l.ba (FMap.look l.d.timers {} n)
  laneBa t.q (lanePutTimer n t l)

/-- TRS: when BA is 1, RUN and Q of timer `n` go to 0 (R116). -/
def laneTrs (n : Nat) (l : AwnLane) : AwnLane :=
  let t := FMap.look l.d.timers {} n
  laneNext 1 (lanePutTimer n (if l.ba then { t with run := false, q := false } else t) l)

/-- A counter of the lane takes a new state, and its record is folded. -/
def lanePutCounter (n : Nat) (c : AwnCounter) (l : AwnLane) : AwnLane :=
  laneFold (objRecord 1 n) c.cv.toNat { l with d := { l.d with counters := FMap.store l.d.counters {} n c } }

/-- One up, saturating at 0x7FFF_FFFF (R119). -/
def cvUp (v : Word) : Word := if v = 0x7FFFFFFF#32 then v else v + 1
/-- One down, saturating at -2^31 (R119). -/
def cvDown (v : Word) : Word := if v = 0x80000000#32 then v else v - 1

/-- CTU: count up on a rising BA; BA takes the output bit (R119). -/
def laneCtu (e : AwnEnv) (n : Nat) (l : AwnLane) : AwnLane :=
  let c := FMap.look l.d.counters {} n
  let c := { c with cv := if l.ba && !c.inU then cvUp c.cv else c.cv, inU := l.ba }
  laneBa (counterOut l.d (awnObj e.prog.counters n) c) (lanePutCounter n c l)

/-- CTD: count down on a rising BA; BA takes the output bit (R119). -/
def laneCtd (e : AwnEnv) (n : Nat) (l : AwnLane) : AwnLane :=
  let c := FMap.look l.d.counters {} n
  let c := { c with cv := if l.ba && !c.inD then cvDown c.cv else c.cv, inD := l.ba }
  laneBa (counterOut l.d (awnObj e.prog.counters n) c) (lanePutCounter n c l)

/-- CRS: when BA is 1, CV takes INIT (R111). -/
def laneCrs (e : AwnEnv) (n : Nat) (l : AwnLane) : AwnLane :=
  let c := FMap.look l.d.counters {} n
  laneNext 1 (lanePutCounter n (if l.ba then { c with cv := (awnObj e.prog.counters n).init } else c) l)

/-- CLD: when BA is 1, CV takes WA (R111). -/
def laneCld (n : Nat) (l : AwnLane) : AwnLane :=
  let c := FMap.look l.d.counters {} n
  laneNext 1 (lanePutCounter n (if l.ba then { c with cv := l.wa } else c) l)

/-- EDG: edge detector `n` on BA; KIND 2 falling, else rising (R120). -/
def laneEdg (e : AwnEnv) (n : Nat) (l : AwnLane) : AwnLane :=
  let prev := FMap.look l.d.edges false n
  let out := if (awnObj e.prog.edges n).kind = 2 then prev && !l.ba else l.ba && !prev
  laneBa out
    (laneFold (objRecord 2 n) l.ba.toNat { l with d := { l.d with edges := FMap.store l.d.edges false n l.ba } })

/-- WA takes a function of WA and the word operand. -/
def laneWord (f : Word → Word → Word) (e : AwnEnv) (x : WOp) (l : AwnLane) : AwnLane :=
  match readWord e l x with
  | none => laneIllegal e l
  | some v => laneWa (f l.wa v) l

/-- WA takes the low 32 bits of a signed result, and OV tells whether it overflowed (R112). -/
def laneArith (r : Int) (l : AwnLane) : AwnLane :=
  laneWa (sword r) { l with ov := !(decide (-2147483648 ≤ r) && decide (r ≤ 2147483647)) }

/-- A signed operation on WA and the word operand, with OV (R112). -/
def laneSigned (f : Int → Int → Int) (e : AwnEnv) (x : WOp) (l : AwnLane) : AwnLane :=
  match readWord e l x with
  | none => laneIllegal e l
  | some v => laneArith (f l.wa.toInt v.toInt) l

/-- BA takes a signed comparison of WA and the word operand (R111). -/
def laneCompare (f : Int → Int → Bool) (e : AwnEnv) (x : WOp) (l : AwnLane) : AwnLane :=
  match readWord e l x with
  | none => laneIllegal e l
  | some v => laneBa (f l.wa.toInt v.toInt) l

/-- LW (R111). -/
def laneLw (e : AwnEnv) (x : WOp) (l : AwnLane) : AwnLane := laneWord (fun _ v => v) e x l

/-- SW: the operand takes WA (R111). -/
def laneSw (e : AwnEnv) (x : WOp) (l : AwnLane) : AwnLane :=
  if wordStorable x then
    laneNext 1 (laneFold (5 * 2 ^ 60 + x.sp * 2 ^ 57 + x.idx) l.wa.toNat { l with d := storeWord l.d x l.wa })
  else laneIllegal e l

/-- ADD (R112). -/
def laneAdd (e : AwnEnv) (x : WOp) (l : AwnLane) : AwnLane := laneSigned (fun a b => a + b) e x l
/-- SUB (R112). -/
def laneSub (e : AwnEnv) (x : WOp) (l : AwnLane) : AwnLane := laneSigned (fun a b => a - b) e x l
/-- MUL (R112). -/
def laneMul (e : AwnEnv) (x : WOp) (l : AwnLane) : AwnLane := laneSigned (fun a b => a * b) e x l
/-- ANDW (R111). -/
def laneAndw (e : AwnEnv) (x : WOp) (l : AwnLane) : AwnLane := laneWord (fun a b => a &&& b) e x l
/-- ORW (R111). -/
def laneOrw (e : AwnEnv) (x : WOp) (l : AwnLane) : AwnLane := laneWord (fun a b => a ||| b) e x l
/-- XORW (R111). -/
def laneXorw (e : AwnEnv) (x : WOp) (l : AwnLane) : AwnLane := laneWord (fun a b => a ^^^ b) e x l
/-- MIN, signed (R111). -/
def laneMin (e : AwnEnv) (x : WOp) (l : AwnLane) : AwnLane :=
  laneWord (fun a b => if a.toInt ≤ b.toInt then a else b) e x l
/-- MAX, signed (R111). -/
def laneMax (e : AwnEnv) (x : WOp) (l : AwnLane) : AwnLane :=
  laneWord (fun a b => if a.toInt ≤ b.toInt then b else a) e x l
/-- SEL: WA takes the operand when BA is 0 (R111). -/
def laneSel (e : AwnEnv) (x : WOp) (l : AwnLane) : AwnLane := laneWord (fun a b => if l.ba then a else b) e x l
/-- CEQ (R111). -/
def laneCeq (e : AwnEnv) (x : WOp) (l : AwnLane) : AwnLane := laneCompare (fun a b => decide (a = b)) e x l
/-- CNE (R111). -/
def laneCne (e : AwnEnv) (x : WOp) (l : AwnLane) : AwnLane := laneCompare (fun a b => decide (a ≠ b)) e x l
/-- CLT (R111). -/
def laneClt (e : AwnEnv) (x : WOp) (l : AwnLane) : AwnLane := laneCompare (fun a b => decide (a < b)) e x l
/-- CLE (R111). -/
def laneCle (e : AwnEnv) (x : WOp) (l : AwnLane) : AwnLane := laneCompare (fun a b => decide (a ≤ b)) e x l
/-- CGT (R111). -/
def laneCgt (e : AwnEnv) (x : WOp) (l : AwnLane) : AwnLane := laneCompare (fun a b => decide (b < a)) e x l
/-- CGE (R111). -/
def laneCge (e : AwnEnv) (x : WOp) (l : AwnLane) : AwnLane := laneCompare (fun a b => decide (b ≤ a)) e x l

/-- SHL (R111). -/
def laneShl (sh : Nat) (l : AwnLane) : AwnLane := laneWa (l.wa <<< sh) l
/-- SHR (R111). -/
def laneShr (sh : Nat) (l : AwnLane) : AwnLane := laneWa (l.wa >>> sh) l
/-- ASR (R111). -/
def laneAsr (sh : Nat) (l : AwnLane) : AwnLane := laneWa (l.wa.sshiftRight sh) l
/-- NEGW (R112). -/
def laneNegw (l : AwnLane) : AwnLane := laneArith (-l.wa.toInt) l
/-- ABS (R112). -/
def laneAbs (l : AwnLane) : AwnLane := laneArith (if l.wa.toInt < 0 then -l.wa.toInt else l.wa.toInt) l
/-- LDL: WA takes the next program word; two words, two steps (R111). -/
def laneLdl (lit : Word) (l : AwnLane) : AwnLane := laneNext 2 { l with wa := lit }

/-- A jump taken folds its record and continues at the target (R114, R121). -/
def laneJump (target : Nat) (l : AwnLane) : AwnLane :=
  { laneFold (7 * 2 ^ 60 + target) l.pc (laneNext 1 l) with pc := target }

/-- JMP (R111). -/
def laneJmp (target : Nat) (l : AwnLane) : AwnLane := laneJump target l
/-- JC (R111). -/
def laneJc (target : Nat) (l : AwnLane) : AwnLane := if l.ba then laneJump target l else laneNext 1 l
/-- JNC (R111). -/
def laneJnc (target : Nat) (l : AwnLane) : AwnLane := if l.ba then laneNext 1 l else laneJump target l
/-- NOP (R111). -/
def laneNop (l : AwnLane) : AwnLane := laneNext 1 l
/-- END: the step is counted, and the lane closes with END (R121, R122). -/
def laneEnd (e : AwnEnv) (l : AwnLane) : AwnLane := laneClose e 1 { l with steps := l.steps + 1 }

/-- One step of a lane, by the step's own name; any other command closes it with ILLEGAL. -/
def laneStep (e : AwnEnv) (i : Instr) (l : AwnLane) : AwnLane :=
  match i with
  | .awnLd _ x => laneLd e x l
  | .awnAnd _ x => laneAnd e x l
  | .awnOr _ x => laneOr e x l
  | .awnXor _ x => laneXor e x l
  | .awnSt _ x => laneSt e x l
  | .awnSet _ x => laneSet e x l
  | .awnRst _ x => laneRst e x l
  | .awnLw _ x => laneLw e x l
  | .awnSw _ x => laneSw e x l
  | .awnAdd _ x => laneAdd e x l
  | .awnSub _ x => laneSub e x l
  | .awnMul _ x => laneMul e x l
  | .awnAndw _ x => laneAndw e x l
  | .awnOrw _ x => laneOrw e x l
  | .awnXorw _ x => laneXorw e x l
  | .awnMin _ x => laneMin e x l
  | .awnMax _ x => laneMax e x l
  | .awnSel _ x => laneSel e x l
  | .awnCeq _ x => laneCeq e x l
  | .awnCne _ x => laneCne e x l
  | .awnClt _ x => laneClt e x l
  | .awnCle _ x => laneCle e x l
  | .awnCgt _ x => laneCgt e x l
  | .awnCge _ x => laneCge e x l
  | .awnPsh _ => lanePsh e l
  | .awnPop _ => lanePop e l
  | .awnRds _ => laneRds e l
  | .awnPopa _ => lanePopa e l
  | .awnPopo _ => lanePopo e l
  | .awnPopx _ => lanePopx e l
  | .awnEnd _ => laneEnd e l
  | .awnNot _ => laneNot l
  | .awnNegw _ => laneNegw l
  | .awnAbs _ => laneAbs l
  | .awnNop _ => laneNop l
  | .awnTim _ n => laneTim e n l
  | .awnCtu _ n => laneCtu e n l
  | .awnCtd _ n => laneCtd e n l
  | .awnCrs _ n => laneCrs e n l
  | .awnEdg _ n => laneEdg e n l
  | .awnTrs _ n => laneTrs n l
  | .awnCld _ n => laneCld n l
  | .awnShl _ sh => laneShl sh l
  | .awnShr _ sh => laneShr sh l
  | .awnAsr _ sh => laneAsr sh l
  | .awnJmp _ g => laneJmp g l
  | .awnJc _ g => laneJc g l
  | .awnJnc _ g => laneJnc g l
  | .awnLdl _ lit => laneLdl lit l
  | _ => laneIllegal e l

/-! ## Program words (R110, R111) -/

/-- Format B fields of a program word, zero field checked. -/
def bFields (w : Word) : Option BOp :=
  if fieldOf w 21 17 = 0 then some ⟨fieldOf w 25 23, bitOf w 22, fieldOf w 16 0⟩ else none

/-- Format B without N. -/
def bFieldsPlain (w : Word) : Option BOp :=
  match bFields w with
  | some x => if x.neg then none else some x
  | none => none

/-- Format W fields of a program word. -/
def wFields (w : Word) : Option WOp :=
  if fieldOf w 22 16 = 0 then some ⟨fieldOf w 25 23, fieldOf w 15 0⟩ else none

/-- Format O field. -/
def oField (w : Word) : Option Nat := if fieldOf w 25 12 = 0 then some (fieldOf w 11 0) else none
/-- Format J field. -/
def jField (w : Word) : Option Nat := if fieldOf w 25 16 = 0 then some (fieldOf w 15 0) else none
/-- Format S field. -/
def sField (w : Word) : Option Nat := if fieldOf w 25 5 = 0 then some (fieldOf w 4 0) else none

/-- A step without operands. -/
def nStep (w : Word) (i : Instr) : Option Instr := if fieldOf w 25 0 = 0 then some i else none

/-- The step a program word holds, for lane 0; `lit` is the word after it, the literal of an LDL (R110, R111). None for an
undefined opcode or a zero field that is not zero. -/
def awnDecode (w lit : Word) : Option Instr :=
  match fieldOf w 31 26 with
  | 0x01 => (bFields w).map (fun x => .awnLd 0 x)
  | 0x02 => (bFields w).map (fun x => .awnAnd 0 x)
  | 0x03 => (bFields w).map (fun x => .awnOr 0 x)
  | 0x04 => (bFields w).map (fun x => .awnXor 0 x)
  | 0x05 => (bFields w).map (fun x => .awnSt 0 x)
  | 0x06 => (bFieldsPlain w).map (fun x => .awnSet 0 x)
  | 0x07 => (bFieldsPlain w).map (fun x => .awnRst 0 x)
  | 0x08 => nStep w (.awnNot 0)
  | 0x10 => nStep w (.awnPsh 0)
  | 0x11 => nStep w (.awnPop 0)
  | 0x12 => nStep w (.awnRds 0)
  | 0x13 => nStep w (.awnPopa 0)
  | 0x14 => nStep w (.awnPopo 0)
  | 0x15 => nStep w (.awnPopx 0)
  | 0x18 => (oField w).map (fun n => .awnTim 0 n)
  | 0x19 => (oField w).map (fun n => .awnTrs 0 n)
  | 0x1A => (oField w).map (fun n => .awnCtu 0 n)
  | 0x1B => (oField w).map (fun n => .awnCtd 0 n)
  | 0x1C => (oField w).map (fun n => .awnCrs 0 n)
  | 0x1D => (oField w).map (fun n => .awnCld 0 n)
  | 0x1E => (oField w).map (fun n => .awnEdg 0 n)
  | 0x20 => (wFields w).map (fun x => .awnLw 0 x)
  | 0x21 => (wFields w).map (fun x => .awnSw 0 x)
  | 0x22 => (wFields w).map (fun x => .awnAdd 0 x)
  | 0x23 => (wFields w).map (fun x => .awnSub 0 x)
  | 0x24 => (wFields w).map (fun x => .awnMul 0 x)
  | 0x25 => (wFields w).map (fun x => .awnAndw 0 x)
  | 0x26 => (wFields w).map (fun x => .awnOrw 0 x)
  | 0x27 => (wFields w).map (fun x => .awnXorw 0 x)
  | 0x28 => (wFields w).map (fun x => .awnMin 0 x)
  | 0x29 => (wFields w).map (fun x => .awnMax 0 x)
  | 0x2A => (wFields w).map (fun x => .awnSel 0 x)
  | 0x2B => (wFields w).map (fun x => .awnCeq 0 x)
  | 0x2C => (wFields w).map (fun x => .awnCne 0 x)
  | 0x2D => (wFields w).map (fun x => .awnClt 0 x)
  | 0x2E => (wFields w).map (fun x => .awnCle 0 x)
  | 0x2F => (wFields w).map (fun x => .awnCgt 0 x)
  | 0x30 => (wFields w).map (fun x => .awnCge 0 x)
  | 0x31 => (sField w).map (fun n => .awnShl 0 n)
  | 0x32 => (sField w).map (fun n => .awnShr 0 n)
  | 0x33 => (sField w).map (fun n => .awnAsr 0 n)
  | 0x34 => nStep w (.awnNegw 0)
  | 0x35 => nStep w (.awnAbs 0)
  | 0x36 => nStep w (.awnLdl 0 lit)
  | 0x38 => (jField w).map (fun t => .awnJmp 0 t)
  | 0x39 => (jField w).map (fun t => .awnJc 0 t)
  | 0x3A => (jField w).map (fun t => .awnJnc 0 t)
  | 0x3E => nStep w (.awnNop 0)
  | 0x3F => nStep w (.awnEnd 0)
  | _ => none

/-- A lane runs its copy of the program, at most `fuel` steps; a word that decodes to no step closes it with ILLEGAL (R122). -/
def laneRun (fuel : Nat) (e : AwnEnv) (l : AwnLane) : AwnLane :=
  match fuel with
  | 0 => l
  | fuel + 1 =>
    if l.cause.isSome then l
    else
      match awnDecode (nth l.prog l.pc 0) (nth l.prog (l.pc + 1) 0) with
      | none => laneIllegal e l
      | some i => laneRun fuel e (laneStep e i l)

/-- A lane with program copy `p` at the start of a scan: accumulators 0, stack empty, at step 0 (R99, R102). -/
def laneStart (p : List Word) (d : AwnData) : AwnLane := { prog := p, d := d }

end Sys2Proof.Machine
end

