-- ==== Sys2Proof/Machine/Access.lean ====
section
/-! DEFINITION. A Rachis access to the memories (01 R21 to R28, 07 R171, R173): firewall, decode, and the effect in DRAM
or MRAM. Engines that read and write partitions use it directly; RACHIS_TRANSACTION adds the other targets. Response codes
are those of R24: 0 OKAY, 1 ERR_DECODE, 2 ERR_FIREWALL, 3 ERR_DATA, 4 ERR_TIMEOUT, 5 ERR_SIZE, 6 ERR_ABORT. -/

namespace Sys2Proof.Machine

/-- A refused access: the error is raised, data read zero (R21, R28). -/
def refuse (resp init : Nat) (write : Bool) (addr n : Nat) (s : State) : Nat × List Byte × State :=
  let s := match resp with
    | 1 => raiseRch 3 0x3404 0 init write 1 addr s
    | 2 => raiseRch 2 0x3403 0 init write 2 addr s
    | 3 => raiseRch 1 0x3402 0 init write 3 addr s
    | 5 => raiseRch 3 0x3404 0 init write 5 addr s
    | _ => s
  (resp, if write then [] else zeros n, s)

/-- Read `n` bytes of DRAM at offset `o`; a damaged beat ends it with ERR_DATA (R27, R171). -/
def readDram (init o n : Nat) (s : State) : Nat × List Byte × State :=
  if touchesBad s.mem.dramBad o n then refuse 3 init false (dramBase + o) n s
  else (0, s.mem.dramGet o n, s)

/-- Read `n` bytes of MRAM at offset `o`; a damaged word raises MUE and ends it with ERR_DATA (R173). -/
def readMram (o n : Nat) (s : State) : Nat × List Byte × State :=
  if touchesBad s.mem.mramBad o n then (3, zeros n, raiseMem 1 0x3409 1 (mramBase + o) s)
  else (0, s.mem.mramGet o n, s)

/-- Write the enabled bytes `en` of `bs` into a memory by `put`; a write of every byte goes as one piece. -/
def putEnabled (put : Nat → List Byte → State → State) (o : Nat) (bs : List Byte) (en : Nat) (s : State) : State :=
  if (List.range bs.length).all (fun k => en.testBit k) then put o bs s
  else forIdx 0 bs (fun k b s => if en.testBit k then put (o + k) [b] s else s) s

/-- An engine's read of a partition: its firewall, then DRAM or MRAM; any other place is refused. -/
def dmaRead (init addr n : Nat) (s : State) : Nat × List Byte × State :=
  if !firewallOk s init .read addr n then refuse 2 init false addr n s
  else
    match placeOf addr with
    | .dram o => readDram init o n s
    | .mram o => readMram o n s
    | _ => refuse 1 init false addr n s

/-- An engine's write to a partition: its firewall, then DRAM or MRAM; any other place is refused. -/
def dmaWrite (init addr : Nat) (bs : List Byte) (s : State) : Nat × State :=
  if !firewallOk s init .write addr bs.length then
    let r := refuse 2 init true addr 0 s
    (2, r.2.2)
  else
    match placeOf addr with
    | .dram o => (0, { s with mem := s.mem.dramPut o bs })
    | .mram o => (0, mramWrite o bs s)
    | _ =>
      let r := refuse 1 init true addr 0 s
      (1, r.2.2)

end Sys2Proof.Machine
end

