-- ==== Sys2Proof/Machine/Culm.lean ====
section
/-! DEFINITION. The Culm backplane bridge (16): windows, byte order, outbound items and prefetch, inbound writes and
delayed reads, the deadlock rule, aborts, and the meanings of this family's commands. -/

namespace Sys2Proof.Machine

/-! ## Windows -/

/-- Register offset of outbound window `w`. -/
def oReg (w : Nat) : Nat := 0x1000 + 0x20 * w
/-- Register offset of inbound window `v`. -/
def iReg (v : Nat) : Nat := 0x1400 + 0x20 * v
/-- Aperture offset of outbound window `w`. -/
def oOff (s : State) (w : Nat) : Nat := fieldOf (lkAt s 12 (oReg w + 4)) 28 16 * 65536
/-- Size of outbound window `w`. -/
def oSize (s : State) (w : Nat) : Nat := fieldOf (lkAt s 12 (oReg w + 8)) 29 16 * 65536
/-- CULM_BASE of outbound window `w`. -/
def oBase (s : State) (w : Nat) : Nat := fieldOf (lkAt s 12 (oReg w + 12)) 31 16 * 65536
/-- ATTR of outbound window `w`: POSTED, PREFETCH, BURST, LANES, OUTPUT from bit 0 up. -/
def oAttr (s : State) (w : Nat) : Word := lkAt s 12 (oReg w + 16)
/-- CULM_BASE of inbound window `v`. -/
def iBase (s : State) (v : Nat) : Nat := fieldOf (lkAt s 12 (iReg v + 4)) 31 16 * 65536
/-- Size of inbound window `v`. -/
def iSize (s : State) (v : Nat) : Nat := fieldOf (lkAt s 12 (iReg v + 8)) 29 16 * 65536
/-- TARGET_PAGE of inbound window `v`. -/
def iPage (s : State) (v : Nat) : Nat := fieldOf (lkAt s 12 (iReg v + 12)) 23 0
/-- ATTR of inbound window `v`: LANES, READ, WRITE from bit 0 up. -/
def iAttr (s : State) (v : Nat) : Word := lkAt s 12 (iReg v + 16)

/-- The outbound window that holds a physical address (R343). -/
def oWindow (s : State) (addr : Nat) : Option Nat :=
  (List.range 16).find? (fun w =>
    decide (0xC0000000 + oOff s w ≤ addr) && decide (addr < 0xC0000000 + oOff s w + oSize s w))

/-- The enabled inbound window that claims a Culm address (R344). -/
def iWindow (s : State) (addr : Nat) : Option Nat :=
  (List.range 4).find? (fun v =>
    nth s.culm.iEn v false && decide (iBase s v ≤ addr) && decide (addr < iBase s v + iSize s v))

/-- The Culm address of a physical address in outbound window `w` (R343). -/
def culmAddr (s : State) (w addr : Nat) : Nat := oBase s w + (addr - 0xC0000000 - oOff s w)

/-- Reverse each group of `n` bytes. -/
def revGroups (fuel n : Nat) (l : List Byte) : List Byte :=
  match fuel with
  | 0 => l
  | fuel + 1 => if l.isEmpty then [] else (l.take n).reverse ++ revGroups fuel n (l.drop n)

/-- Bytes in ascending address order carried across the data lines: ADDRESS keeps each byte's address, VALUE the value of
each halfword or word (R349). -/
def culmLanes (value : Bool) (l : List Byte) : List Byte :=
  if !value then l
  else if l.length ≤ 1 then l
  else if l.length = 2 then l.reverse
  else revGroups l.length 4 l

/-! ## Log, errors, records (R360, R442) -/

/-- The Culm coding of DETAIL. -/
def culmDetail (inbound : Bool) (win master : Nat) : Nat := win + (if inbound then 16 else 0) + 256 * master

/-- CULM_ERR_INFO of an error. -/
def culmInfo (bit outcome : Nat) (inbound : Bool) (win master : Nat) : Word :=
  place outcome 23 20 ||| place master 19 17 ||| placeB inbound 16 ||| place win 15 12 ||| place bit 11 8

/-- An entry of the address log (CULM_LOG). -/
def culmLog (kind outcome : Nat) (inbound : Bool) (win addr mask : Nat) (s : State) : State :=
  let info := place mask 31 16 ||| placeB inbound 12 ||| place win 11 8 ||| place outcome 7 4 ||| place kind 3 0
  { s with culm := { s.culm with
      log := FMap.store s.culm.log (0, 0) s.culm.logNext (w32 addr, info),
      logNext := (s.culm.logNext + 1) % 16, logTotal := satInc 0xFFFFFF s.culm.logTotal } }

/-- A bridge error with one record per occurrence: DATA0 the Culm address, DATA1 the outcome. -/
def raiseCulm (bit code outcome : Nat) (inbound : Bool) (win master addr : Nat) (s : State) : State :=
  event code (culmDetail inbound win master) (w32 addr) (w32 outcome)
    (errCulm bit (culmInfo bit outcome inbound win master) (w32 addr) s)

/-- A bridge error with one record a second: the count and the latest address. -/
def raiseCulmRate (bit code outcome : Nat) (inbound : Bool) (win master addr : Nat) (s : State) : State :=
  eventRate code 0 (culmDetail inbound win master) (w32 addr)
    (errCulm bit (culmInfo bit outcome inbound win master) (w32 addr) s)

/-- The words a transaction of `size` bytes concerns, from bit 0 (CULM_LOG_INFO.MASK, log 31). -/
def wordMask (size : Nat) : Nat := 2 ^ Nat.max 1 (size / 4) - 1

/-! ## Outbound items -/

/-- An outbound item's Culm address. -/
def CulmOut.culm (o : CulmOut) (s : State) : Nat := culmAddr s o.win o.item.addr

/-- The answer to a Rachis transaction. -/
def respond (init code : Nat) (data : List Byte) (s : State) : State := emit (.response init code data) s

/-- The response to a single-issue read that is still open under core `init`'s ID is there (03 R83): the first such entry
takes it. -/
def fillHeld (init addr code : Nat) (data : List Byte) (l : List HeldRead) : List HeldRead :=
  match l with
  | [] => []
  | h :: t =>
    if h.asker = some init ∧ h.addr = addr then { h with asker := none, code := code, data := data } :: t
    else h :: fillHeld init addr code data t

/-- A single-issue read of triad `t` is open under core `init`'s ID. -/
def readOpen (s : State) (init addr : Nat) : Bool :=
  decide (init < 20) && (s.tri (s.core init).triad).held.any (fun h => decide (h.asker = some init ∧ h.addr = addr))

/-- The answer to a transaction that the bridge took: to the cores that a voter's read was issued for, by way of the triad,
else to the initiator. -/
def answerItem (init addr code : Nat) (data : List Byte) (s : State) : State :=
  if readOpen s init addr then
    modTri (s.core init).triad (fun (x : Triad) => { x with held := fillHeld init addr code data x.held }) s
  else respond init code data s

/-- An item is aborted before it ends, with an outcome of R37: a non-posted one is answered, a posted one raises PWERR
with a log entry (R36, R351). -/
def abortOut (resp outcome : Nat) (o : CulmOut) (s : State) : State :=
  if o.posted then
    culmLog 1 outcome false o.win (o.culm s) (wordMask o.item.size)
      (raiseCulm 0 0x3B01 outcome false o.win 0 (o.culm s) s)
  else answerItem o.item.init o.item.addr resp (if o.item.write then [] else zeros o.item.size) s

/-- Every outbound item is aborted (R342, R33, R41); the retry set and a pass end with them. -/
def abortAllOut (resp outcome : Nat) (s : State) : State :=
  let items := s.culm.out
  forAll items (abortOut resp outcome) { s with culm := { s.culm with out := [], pass := false, served := [], waiting := [] } }

/-- Entries of the posted queue (R350). -/
def postedCount (s : State) : Nat := (s.culm.out.filter (fun o => o.posted)).length

/-- A prefetch buffer is discarded; with an unread word left PFD is raised and the block logged (R354). -/
def discardBuf (b : CulmBuf) (s : State) : State :=
  let s := { s with culm := { s.culm with bufs := s.culm.bufs.filter (fun x => x ≠ b) } }
  if b.unread = 0 then s
  else
    let a := culmAddr s b.win b.block
    culmLog 3 0 false b.win a b.unread (raiseCulmRate 7 0x2B08 0 false b.win 0 a s)

/-- Discard the buffers of window `w` with `p`. -/
def discardBufs (p : CulmBuf → Bool) (s : State) : State := forAll (s.culm.bufs.filter p) discardBuf s

/-- With 4 buffers valid, a new block takes the place of the oldest (R354). -/
def freeBuf (s : State) : State :=
  match s.culm.bufs with
  | b :: rest => if 3 ≤ rest.length then discardBuf b s else s
  | [] => s

/-- Words of a block that an access of `size` bytes at `addr` touches. -/
def blockWords (addr size : Nat) : List Nat :=
  (List.range 16).filter (fun k => decide (4 * k < addr % 64 + size) && decide (addr % 64 < 4 * k + 4))

/-- The read is served from a buffer: every byte lies in unread words (R354). -/
def bufHit (b : CulmBuf) (w addr size : Nat) : Bool :=
  decide (b.win = w) && decide (b.block = addr - addr % 64) && (blockWords addr size).all (fun k => b.unread.testBit k)

/-- The mask of words of an access. -/
def blockMask (addr size : Nat) : Nat := (blockWords addr size).foldl (fun m k => m + 2 ^ k) 0

/-- Serve a read from a buffer, each access converted on its own (R349): its words count as read, and a buffer with none
unread is freed. -/
def serveBuf (b : CulmBuf) (init addr size : Nat) (s : State) : State :=
  let left := b.unread - blockMask addr size
  let bufs := if left = 0 then s.culm.bufs.filter (fun x => x ≠ b)
    else s.culm.bufs.map (fun x => if x = b then { x with unread := left } else x)
  answerItem init addr 0 (culmLanes (bitOf (oAttr s b.win) 3) (slice b.data (addr % 64) size)) { s with culm := { s.culm with bufs := bufs } }

/-- An item goes to the end of the bridge's order (R350). -/
def pushOut (i : CulmItem) (w : Nat) (posted prefetch : Bool) (s : State) : State :=
  { s with culm := { s.culm with out := s.culm.out ++ [⟨i, w, posted, prefetch, s.clk.now, false, 0, []⟩] } }

/-- A write to an OUTPUT window is refused: CANDIDATE or STANDBY, or a state other than STOP, RUN, HOLD, BRACE (R352). -/
def outputRefused (s : State) : Bool := decide (s.pair.role = 2 ∨ s.pair.role = 3) || !stateOut s
where
  /-- STOP, RUN, HOLD or BRACE. -/
  stateOut (s : State) : Bool :=
    match s.mod.mode with
    | .stop | .run | .hold | .brace => true
    | _ => false

/-- An access waits at the bridge's port since `since` (R23, R350). -/
def waitAtPort (since : Nat) (i : CulmItem) (s : State) : State :=
  let t : Txn := ⟨i.init, if i.write then .write else .read, i.addr, i.size, i.data, {}, .clean, true⟩
  { s with rch := { s.rch with flight := s.rch.flight ++ [⟨t, since⟩] } }

/-- The address leads to the Culm bridge. -/
def toCulm (addr : Nat) : Bool := decide (placeOf addr = .culm)

/-- An access that stands at the bridge's port since `since` is offered to the bridge (R343, R347, R350 to R354, R359). A
posted write that finds the queue full waits there, and so does what its initiator issued after it (R23). -/
def culmOffer (since : Nat) (i : CulmItem) (s : State) : State :=
  let zero := if i.write then [] else zeros i.size
  if s.rch.flight.any (fun f => decide (f.txn.init = i.init) && toCulm f.txn.addr) then waitAtPort since i s
  else match oWindow s i.addr with
  | none => answerItem i.init i.addr 1 zero (raiseRch 3 0x3404 0 i.init i.write 1 i.addr s)
  | some w =>
    let a := oAttr s w
    if !nth s.culm.oEn w false then
      if s.mod.mode.handed then answerItem i.init i.addr 6 zero s
      else answerItem i.init i.addr 1 zero (raiseRch 3 0x3404 0 i.init i.write 1 i.addr s)
    else if decide (4 < i.size) && !bitOf a 2 then
      answerItem i.init i.addr 5 zero (raiseCulmRate 3 0x2B03 3 false w 0 (culmAddr s w i.addr) s)
    else if i.write && bitOf a 4 && outputRefused s then
      answerItem i.init i.addr 6 zero { s with culm := { s.culm with outref := satInc 65535 s.culm.outref } }
    else if i.write then
      let s := discardBufs (fun b => decide (b.win = w) && decide (b.block = i.addr - i.addr % 64)) s
      if bitOf a 0 then
        if postedCount s < 16 then answerItem i.init i.addr 0 [] (pushOut i w true false s)
        else waitAtPort since i s
      else pushOut i w false false s
    else if bitOf a 1 then
      match s.culm.bufs.find? (fun b => bufHit b w i.addr i.size) with
      | some b => serveBuf b i.init i.addr i.size s
      | none =>
        let s := discardBufs (fun b => decide (b.win = w) && decide (b.block = i.addr - i.addr % 64)) s
        pushOut i w false true (freeBuf s)
    else pushOut i w false false s

/-- A Rachis transaction reaches the bridge. -/
def culmAccept (i : CulmItem) (s : State) : State := culmOffer s.clk.now i s

/-- The accesses waiting at the port are offered again, in issue order: each initiator's go in up to the first that finds the
queue full (R23, R350). -/
def admitWaiting (s : State) : State :=
  let mine := fun (f : Flight) => toCulm f.txn.addr && f.txn.answers
  let l := s.rch.flight.filter mine
  forAll l (fun f s => culmOffer f.since
      ⟨f.txn.init, decide (f.txn.kind = .write), f.txn.addr, f.txn.size, f.txn.data⟩ s)
    { s with rch := { s.rch with flight := s.rch.flight.filter (fun f => !mine f) } }

/-- The retry set has drained: a pass begins (R357). -/
def afterOutEnd (had : Bool) (s : State) : State :=
  let s := admitWaiting s
  if had && !s.culm.out.any (fun o => o.inSet) then
    { s with culm := { s.culm with pass := !s.culm.waiting.isEmpty, served := [] } }
  else s

/-- One more item completed in outbound window `w`. -/
def countO (w : Nat) (s : State) : State :=
  { s with culm := { s.culm with oItems := modAt s.culm.oItems w (fun n => (n + 1) % 2 ^ 32) } }
/-- One more inbound transaction completed in window `v`. -/
def countI (v : Nat) (s : State) : State :=
  { s with culm := { s.culm with iItems := modAt s.culm.iItems v (fun n => (n + 1) % 2 ^ 32) } }

/-- The first item leaves the bridge's order. -/
def popOut (s : State) : State := { s with culm := { s.culm with out := s.culm.out.tail } }

/-- An outbound item completed on Culm; `bs` are its bytes in ascending Culm address, for a read (R349, R351, R354). -/
def completeOut (o : CulmOut) (bs : List Byte) (s : State) : State :=
  let value := bitOf (oAttr s o.win) 3
  let s := countO o.win s
  if o.prefetch then
    let block := o.item.addr - o.item.addr % 64
    let b : CulmBuf := ⟨o.win, block, slice bs 0 64, 0xFFFF, s.clk.now⟩
    let s := freeBuf s
    let s := serveBuf b o.item.init o.item.addr o.item.size { s with culm := { s.culm with bufs := s.culm.bufs ++ [b] } }
    if nth s.culm.oEn o.win false then s else discardBufs (fun b => decide (b.win = o.win)) s
  else if o.posted then s
  else if o.item.write then answerItem o.item.init o.item.addr 0 [] s
  else answerItem o.item.init o.item.addr 0 (culmLanes value (slice bs 0 o.item.size)) s

/-- An outbound item refused on Culm: no claim or target abort (R351). -/
def refusedOut (o : CulmOut) (s : State) : State :=
  let a := o.culm s
  if o.posted then
    culmLog 1 3 false o.win a (wordMask o.item.size) (raiseCulm 0 0x3B01 3 false o.win 0 a s)
  else
    answerItem o.item.init o.item.addr 1 (if o.item.write then [] else zeros o.item.size) (raiseCulm 1 0x2B02 3 false o.win 0 a s)

/-- The transaction an item drives on the backplane, its bytes in ascending Culm address. -/
def driveOut (o : CulmOut) (s : State) : State :=
  let size := if o.prefetch then 64 else o.item.size
  let addr := if o.prefetch then o.culm s - o.item.addr % 64 else o.culm s
  emit (.culm o.item.write (addr + 4 * o.doneWords) (size - 4 * o.doneWords)
    ((culmLanes (bitOf (oAttr s o.win) 3) o.item.data).drop (4 * o.doneWords))) s

/-- The pass ends when each requesting card has been served once (R357). -/
def passEnd (s : State) : State :=
  if s.culm.pass && s.culm.waiting.all (fun m => s.culm.served.contains m) then
    { s with culm := { s.culm with pass := false, served := [] } }
  else s

/-- The bridge sees the cards' request lines (R340); a pass in which no card is left to serve ends. -/
def seeRequests (reqs : List Nat) (s : State) : State := passEnd { s with culm := { s.culm with waiting := reqs } }

/-- The card that the arbiter grants next, round-robin after `last` (R340). -/
def nextGrant (last : Nat) (reqs : List Nat) : Option Nat :=
  ((List.range 7).map (fun k => (last + k) % 7 + 1)).find? (fun m => reqs.contains m)

/-- The first item's transaction ends on the backplane (R351). Nothing goes out while a pass runs. -/
def outboundEnd (e : CulmEnd) (s : State) : State :=
  match s.culm.out with
  | [] => s
  | o :: rest =>
    if s.culm.pass then s
    else
      let had := s.culm.out.any (fun x => x.inSet)
      let s := driveOut o s
      match e with
      | .completed bs => afterOutEnd had (completeOut o (o.got ++ bs) (popOut s))
      | .retry n bs =>
        { s with culm := { s.culm with
          out := { o with doneWords := o.doneWords + n, got := o.got ++ bs } :: rest } }
      | .unclaimed => afterOutEnd had (refusedOut o (popOut s))
      | .targetAbort => afterOutEnd had (refusedOut o (popOut s))
      | .parity =>
        if o.item.write then s
        else
          afterOutEnd had (answerItem o.item.init o.item.addr 3 (zeros o.item.size)
            (raiseCulmRate 4 0x2B04 3 false o.win 0 (o.culm s) (popOut s)))

/-- CULM_OUTBOUND_END (R351, R357). -/
def opCulmOutboundEnd (g : CulmGo) (s : State) : State := outboundEnd g.how (seeRequests g.reqs s)

/-- CULM_TRANSACTION_TIMEOUT (R40, R351): rung 2 of the oldest item: 40 µs at least after its acceptance. -/
def opCulmTransactionTimeout (s : State) : State :=
  match s.culm.out with
  | [] => s
  | o :: _ =>
    if due (some o.since) 40000 s.clk.now then
      let had := s.culm.out.any (fun x => x.inSet)
      let a := o.culm s
      let s := culmLog 2 2 false o.win a (wordMask o.item.size) (raiseCulm 2 0x3B05 2 false o.win 0 a (popOut s))
      afterOutEnd had
        (if o.posted then s else answerItem o.item.init o.item.addr 4 (if o.item.write then [] else zeros o.item.size) s)
    else s

/-- CULM_OUTBOUND_ACCEPT (R350). -/
def opCulmOutboundAccept (i : CulmItem) (s : State) : State := culmAccept i s

/-- PREFETCH_EXPIRY (R354): buffer `k` has been filled for 9.5 µs at least. -/
def opPrefetchExpiry (k : Nat) (s : State) : State :=
  match s.culm.bufs.drop k with
  | [] => s
  | b :: _ => if due (some b.since) 9500 s.clk.now then discardBuf b s else s

/-! ## Inbound (R344, R348, R355 to R357) -/

/-- Bytes of a word that byte enables mark: data lines [31:24], enable 3, carry the byte at address 4k (R340, log 32). -/
def beBytes (be : Nat) : List Nat := (List.range 4).filter (fun j => be.testBit (3 - j))

/-- The enables mark 1, 2 or 4 naturally aligned bytes (R348). -/
def beOk (be : Nat) : Bool := [8, 4, 2, 1, 12, 3, 15].contains be

/-- The answer to an inbound phase. -/
def answerIn (kind : Nat) (data : List Byte) (s : State) : State := emit (.culmAnswer kind data) s

/-- The Rachis accesses of an inbound transfer: address, and size 64 for a whole aligned block, 4 per word of a burst, or
the enabled bytes of one word (R348). -/
def inPieces (addr be words : Nat) : List (Nat × Nat) :=
  if words = 1 then
    match beBytes be with
    | [] => []
    | j :: t => [(addr - addr % 4 + j, 1 + t.length)]
  else if words = 16 ∧ addr % 64 = 0 then [(addr, 64)]
  else (List.range words).map (fun k => (addr - addr % 4 + 4 * k, 4))

/-- The words a burst moves before the bridge disconnects it at the 64-byte boundary (R340). -/
def burstWords (p : CulmPhase) : Nat := Nat.min p.words ((64 - p.addr % 64 + 3) / 4)

/-- The first byte of the data a phase carries for its first enabled byte. -/
def phaseBytes (p : CulmPhase) : List Byte :=
  if p.words = 1 then (beBytes p.be).map (fun j => nth p.data j 0) else slice p.data 0 (4 * burstWords p)

/-- A refused inbound attempt: target abort, SIZE raised (R348). -/
def refuseIn (p : CulmPhase) (v : Nat) (s : State) : State :=
  answerIn 2 [] (raiseCulmRate 3 0x2B03 3 true v p.master p.addr s)

/-- An inbound write: taken into the queue of 8 and completed at once, or retried while the queue is full (R355). -/
def inWrite (p : CulmPhase) (v : Nat) (s : State) : State :=
  if s.culm.inq.length < 8 then
    answerIn 0 [] { s with culm := { s.culm with
      inq := s.culm.inq ++ [(v, p.master, (p.addr - p.addr % 4) + 4294967296 * p.be, burstWords p, phaseBytes p)] } }
  else answerIn 1 [] s

/-- The delayed read that an attempt repeats (R356). -/
def sameRead (p : CulmPhase) (r : CulmRd) : Bool :=
  decide (r.master = p.master ∧ r.addr = p.addr ∧ r.be = p.be ∧ r.words = burstWords p)

/-- An inbound read, always delayed (R356). -/
def inRead (p : CulmPhase) (v : Nat) (s : State) : State :=
  match s.culm.reads.find? (sameRead p) with
  | some r =>
    match r.data with
    | none => answerIn 1 [] s
    | some d =>
      let s := { s with culm := { s.culm with reads := s.culm.reads.filter (fun x => x ≠ r) } }
      match d with
      | some bs => answerIn 0 bs (countI v s)
      | none => answerIn 2 [] s
  | none =>
    if s.culm.reads.length < 4 then
      answerIn 1 [] { s with culm := { s.culm with
        reads := s.culm.reads ++ [⟨p.master, p.addr, p.be, burstWords p, v, none, 0, s.culm.inq.length⟩] } }
    else answerIn 1 [] s

/-- An attempt handled normally (R348, R355, R356). -/
def inNormal (p : CulmPhase) (v : Nat) (s : State) : State :=
  let a := iAttr s v
  if !p.parityOk then answerIn 2 [] (raiseCulmRate 4 0x2B04 3 true v p.master p.addr s)
  else if (p.words = 1 && !beOk p.be) || (p.words ≠ 1 && p.be ≠ 15) then refuseIn p v s
  else if (p.write && !bitOf a 2) || (!p.write && !bitOf a 1) then refuseIn p v s
  else if p.write then inWrite p v s
  else inRead p v s

/-- Retry a master for outbound work; it waits for a grant. -/
def retryIn (m : Nat) (s : State) : State :=
  answerIn 1 [] { s with culm := { s.culm with
    waiting := if s.culm.waiting.contains m then s.culm.waiting else s.culm.waiting ++ [m] } }

/-- The attempt of a card that has been granted the bus, in a pass or not (R344, R357). -/
def inPhase (pass : Bool) (p : CulmPhase) (s : State) : State :=
  match iWindow s p.addr with
  | none => answerIn 3 [] s
  | some v =>
    if !pass && !s.culm.out.isEmpty then
      let set := s.culm.out.any (fun o => o.inSet)
      retryIn p.master (if set then s
        else { s with culm := { s.culm with out := s.culm.out.map (fun (o : CulmOut) => { o with inSet := true }) } })
    else inNormal p v s

/-- CULM_INBOUND_ADDRESS_PHASE (R340, R344, R357): of the cards that request the bus, in a pass of those not yet served in it,
the arbiter grants the next one round-robin; another's phase is not on the bus. -/
def opCulmInboundAddressPhase (p : CulmPhase) (s : State) : State :=
  let s := seeRequests p.reqs s
  let pass := s.culm.pass
  let cand := if pass then p.reqs.filter (fun m => !s.culm.served.contains m) else p.reqs
  if nextGrant s.culm.grant cand ≠ some p.master then s
  else
    let s := { s with culm := { s.culm with
        grant := p.master, waiting := s.culm.waiting.filter (fun m => m ≠ p.master),
        served := if pass then s.culm.served ++ [p.master] else s.culm.served } }
    passEnd (inPhase pass p s)

/-- Issue the Rachis writes of an inbound write, one after the other; the first error is kept (R355). -/
def issueWrites (value : Bool) (l : List (Nat × Nat)) (phys : Nat → Nat) (bs : List Byte) (s : State) : Nat × State :=
  match l with
  | [] => (0, s)
  | (a, n) :: t =>
    let (c, s) := dmaWrite 0x29 (phys a) (culmLanes value (slice bs 0 n)) s
    let (c', s) := issueWrites value t phys (bs.drop n) s
    (if c = 0 then c' else c, s)

/-- Issue the Rachis reads of a delayed read. -/
def issueReads (value : Bool) (l : List (Nat × Nat)) (phys : Nat → Nat) (s : State) : Nat × List Byte × State :=
  match l with
  | [] => (0, [], s)
  | (a, n) :: t =>
    let (c, d, s) := dmaRead 0x29 (phys a) n s
    let (c', d', s) := issueReads value t phys s
    (if c = 0 then c' else c, culmLanes value d ++ d', s)

/-- The physical address of a Culm address in inbound window `v` (R344). -/
def inPhys (s : State) (v a : Nat) : Nat := iPage s v * 4096 + (a - iBase s v)

/-- INBOUND_WRITE_ISSUE (R355): the first queued inbound write is issued; an error raises IERR and is logged. -/
def opInboundWriteIssue (s : State) : State :=
  match s.culm.inq with
  | [] => s
  | (v, master, key, words, bs) :: rest =>
    let addr := key % 4294967296
    let be := key / 4294967296
    let s := { s with culm := { s.culm with
        inq := rest, reads := s.culm.reads.map (fun (r : CulmRd) => { r with ahead := r.ahead - 1 }) } }
    let (c, s) := issueWrites (bitOf (iAttr s v) 0) (inPieces addr be words) (inPhys s v) bs s
    if c = 0 then countI v s
    else culmLog 5 3 true v addr (wordMask (4 * words)) (raiseCulm 5 0x3B06 3 true v master addr s)

/-- DELAYED_READ_DATA (R356): the read of entry `slot` is issued once every inbound write accepted earlier has its
response, and its data held; an error is held as target abort, raised and logged. -/
def opDelayedReadData (slot : Nat) (s : State) : State :=
  match s.culm.reads.drop slot with
  | [] => s
  | r :: _ =>
    if r.data.isSome || r.ahead ≠ 0 then s
    else
      let (c, d, s) := issueReads (bitOf (iAttr s r.win) 0) (inPieces r.addr r.be r.words) (inPhys s r.win) s
      let held : Option (List Byte) := if c = 0 then some d else none
      let s := { s with culm := { s.culm with
          reads := modAt s.culm.reads slot (fun r => { r with data := some held, since := s.clk.now }) } }
      if c = 0 then s
      else culmLog 5 3 true r.win r.addr (wordMask (4 * r.words)) (raiseCulm 5 0x3B06 3 true r.win r.master r.addr s)

/-- DELAYED_READ_DISCARD (R356): data unclaimed for 63.5 µs at least are discarded; UNCL is raised and logged. -/
def opDelayedReadDiscard (slot : Nat) (s : State) : State :=
  match s.culm.reads.drop slot with
  | [] => s
  | r :: _ =>
    if r.data.isSome && due (some r.since) 63500 s.clk.now then
      let s := { s with culm := { s.culm with reads := s.culm.reads.take slot ++ s.culm.reads.drop (slot + 1) } }
      culmLog 4 3 true r.win r.addr (wordMask (4 * r.words)) (raiseCulmRate 6 0x2B07 3 true r.win r.master r.addr s)
    else s

/-! ## Enables, hand-over, aborts, registers -/

/-- A write to an enable field with its active field (R38): 1 is discarded while ACTIVE is 1 and EN is 0. -/
def enableAfter (en active v : Bool) : Bool := v && (en || !active)

/-- CULM_WINDOW_ENABLE_WRITE (R359): a TRIAD-mode voter's or the security engine's write of EN. -/
def opCulmWindowEnableWrite (init : Nat) (inbound : Bool) (w : Nat) (v : Word) (s : State) : State :=
  if !(init = secId || isVoter s init) then s
  else if inbound then
    let en := enableAfter (nth s.culm.iEn w false) (nth s.culm.iAct w false) (bitOf v 0)
    let s := { s with culm := { s.culm with
        iEn := modAt s.culm.iEn w (fun _ => en), iAct := modAt s.culm.iAct w (fun a => a || en) } }
    if en then s
    else
      forAll (s.culm.reads.filter (fun r => r.win = w)) (fun _ s => emit (.outcome 12 (16 + w) 1) s)
        { s with culm := { s.culm with reads := s.culm.reads.filter (fun r => r.win ≠ w) } }
  else
    let en := enableAfter (nth s.culm.oEn w false) (nth s.culm.oAct w false) (bitOf v 0)
    let s := { s with culm := { s.culm with
        oEn := modAt s.culm.oEn w (fun _ => en), oAct := modAt s.culm.oAct w (fun a => a || en) } }
    if en then s else discardBufs (fun b => decide (b.win = w)) s

/-- Window `w` is drained after its EN fell (R359). -/
def oDrained (s : State) (w : Nat) : Bool :=
  !nth s.culm.oEn w false && s.culm.out.all (fun o => decide (o.win ≠ w))
/-- Inbound window `v` is drained after its EN fell. -/
def iDrained (s : State) (v : Nat) : Bool :=
  !nth s.culm.iEn v false && s.culm.inq.all (fun e => decide (e.1 ≠ v))

/-- Boot code enables every window of the section at hand-over (R359). -/
def culmStart (s : State) : State :=
  let o := (List.range 16).map (fun w => decide (oSize s w ≠ 0))
  let i := (List.range 4).map (fun v => decide (iSize s v ≠ 0))
  { s with culm := { s.culm with oEn := o, oAct := o, iEn := i, iAct := i } }

/-- The bridge aborts all its work: R33 domain 7, R41 backstop. -/
def culmAbortAll (resp outcome : Nat) (s : State) : State :=
  let s := discardBufs (fun _ => true) (abortAllOut resp outcome s)
  let ins := s.culm.inq.map (fun e => e.1) ++ s.culm.reads.map (fun r => r.win)
  let s := forAll ins (fun v s => emit (.outcome 12 (16 + v) outcome) s) s
  admitWaiting { s with culm := { s.culm with inq := [], reads := [] } }

/-- Entry to SAFE: queued outbound items abort with ABORTED_ERROR, then BPRST is asserted (R342). -/
def culmSafe (s : State) : State :=
  let s := admitWaiting (abortAllOut 6 3 s)
  { s with culm := { s.culm with bprst := true } }

/-- Reads of the CULM window, but for the quartet and the LK registers. -/
def culmRead (s : State) (o : Nat) : Word :=
  if o = 0 then
    place s.culm.outref 31 16 ||| placeB s.culm.bprst 10 ||| placeB s.culm.pass 9 |||
      placeB (s.culm.out.any (fun x => x.inSet)) 8 ||| place s.culm.reads.length 7 5 ||| place (postedCount s) 4 0
  else if o = 0x20 then s.culm.err.aux2
  else if o = 0x28 then place s.culm.logTotal 31 8 ||| place s.culm.logNext 3 0
  else if 0x200 ≤ o ∧ o < 0x280 then
    let e := FMap.look s.culm.log (0, 0) ((o - 0x200) / 8)
    if o % 8 = 0 then e.1 else e.2
  else if 0x1000 ≤ o ∧ o < 0x1200 then
    let w := (o - 0x1000) / 0x20
    if o % 0x20 = 0 then placeB (nth s.culm.oAct w false) 1 ||| placeB (nth s.culm.oEn w false) 0
    else if o % 0x20 = 0x14 then w32 (nth s.culm.oItems w 0) else 0
  else if 0x1400 ≤ o ∧ o < 0x1480 then
    let w := (o - 0x1400) / 0x20
    if o % 0x20 = 0 then placeB (nth s.culm.iAct w false) 1 ||| placeB (nth s.culm.iEn w false) 0
    else if o % 0x20 = 0x14 then w32 (nth s.culm.iItems w 0) else 0
  else 0

/-! ## Meanings -/

/-- CULM_OUTBOUND_ACCEPT. -/
def execCulmOutboundAccept (i : CulmItem) (s : State) : Host.Outcome State Fault Refusal :=
  wfRun (.culmOutboundAccept i) (opCulmOutboundAccept i) s
/-- CULM_OUTBOUND_END. -/
def execCulmOutboundEnd (e : CulmGo) (s : State) : Host.Outcome State Fault Refusal :=
  wfRun (.culmOutboundEnd e) (opCulmOutboundEnd e) s
/-- CULM_TRANSACTION_TIMEOUT. -/
def execCulmTransactionTimeout (s : State) : Host.Outcome State Fault Refusal :=
  wfRun .culmTransactionTimeout opCulmTransactionTimeout s
/-- CULM_INBOUND_ADDRESS_PHASE. -/
def execCulmInboundAddressPhase (p : CulmPhase) (s : State) : Host.Outcome State Fault Refusal :=
  wfRun (.culmInboundAddressPhase p) (opCulmInboundAddressPhase p) s
/-- INBOUND_WRITE_ISSUE. -/
def execInboundWriteIssue (s : State) : Host.Outcome State Fault Refusal := wfRun .inboundWriteIssue opInboundWriteIssue s
/-- DELAYED_READ_DATA. -/
def execDelayedReadData (k : Nat) (s : State) : Host.Outcome State Fault Refusal :=
  wfRun (.delayedReadData k) (opDelayedReadData k) s
/-- DELAYED_READ_DISCARD. -/
def execDelayedReadDiscard (k : Nat) (s : State) : Host.Outcome State Fault Refusal :=
  wfRun (.delayedReadDiscard k) (opDelayedReadDiscard k) s
/-- PREFETCH_EXPIRY. -/
def execPrefetchExpiry (k : Nat) (s : State) : Host.Outcome State Fault Refusal :=
  wfRun (.prefetchExpiry k) (opPrefetchExpiry k) s
/-- CULM_WINDOW_ENABLE_WRITE. -/
def execCulmWindowEnableWrite (init : Nat) (b : Bool) (w : Nat) (v : Word) (s : State) : Host.Outcome State Fault Refusal :=
  wfRun (.culmWindowEnableWrite init b w v) (opCulmWindowEnableWrite init b w v) s

end Sys2Proof.Machine
end

