-- ==== Sys2Proof/Machine/Fio.lean ====
section
/-! DEFINITION. Safe field inputs and outputs (14): configuration, classification and filters, outputs and group
switches, latches, the MRAM fault record, the field image, and the meanings of this family's commands. -/

namespace Sys2Proof.Machine

/-! ## Configuration (LK registers of the FIO window, 9) -/

/-- FIO_DI_CFG of input `i`. -/
def diCfg (s : State) (i : Nat) : Word := lkAt s 9 (0x200 + 4 * i)
/-- FIO_DQ_CFG of output `n`. -/
def dqCfg (s : State) (n : Nat) : Word := lkAt s 9 (0x400 + 8 * n)
/-- FIO_DQ_FB of output `n`. -/
def dqFbCfg (s : State) (n : Nat) : Word := lkAt s 9 (0x404 + 8 * n)
/-- Output `n` is used. -/
def dqUsed (s : State) (n : Nat) : Bool := bitOf (dqCfg s n) 31
/-- FB_EN of output `n`. -/
def fbOn (s : State) (n : Nat) : Bool := dqUsed s n && bitOf (dqCfg s n) 13
/-- STOP_VALUE of output `n`. -/
def stopValue (s : State) (n : Nat) : Bool := bitOf (dqCfg s n) 12
/-- SETTLE of output `n`, ns. -/
def settleNs (s : State) (n : Nat) : Nat := fieldOf (dqCfg s n) 25 16 * 1000000
/-- PULSE_WIDTH of output `n`, ns. -/
def pulseNs (s : State) (n : Nat) : Nat := fieldOf (dqCfg s n) 8 0 * 1000
/-- Group `g` is used. -/
def groupUsed (s : State) (g : Nat) : Bool := bitOf (lkAt s 9 0x20) (16 + g)

/-- Output `n`. -/
def State.dq (s : State) (n : Nat) : Dout := nth s.fio.dq n {}
/-- Input `i`. -/
def State.din (s : State) (i : Nat) : Din := nth s.fio.di i {}
/-- Feedback input `n`. -/
def State.fbk (s : State) (n : Nat) : Din := nth s.fio.fb n {}
/-- Group `g`. -/
def State.grp (s : State) (g : Nat) : Group := nth s.fio.groups g {}

/-- Output `n` changed. -/
def modDq (n : Nat) (f : Dout → Dout) (s : State) : State := { s with fio := { s.fio with dq := modAt s.fio.dq n f } }
/-- Input `i` changed. -/
def modDi (n : Nat) (f : Din → Din) (s : State) : State := { s with fio := { s.fio with di := modAt s.fio.di n f } }
/-- Feedback input `n` changed. -/
def modFb (n : Nat) (f : Din → Din) (s : State) : State := { s with fio := { s.fio with fb := modAt s.fio.fb n f } }
/-- Group `g` changed. -/
def modGrp (g : Nat) (f : Group → Group) (s : State) : State :=
  { s with fio := { s.fio with groups := modAt s.fio.groups g f } }

/-- The channel holds a latched fault (R303, R314). -/
def Dout.fault (d : Dout) : Bool := d.cross || d.fbk || d.path || d.ovl

/-! ## Raising (R324). Channel coding: 0x00 DI, 0x40 DQ, 0x50 FB, 0x60 group, 0xFF none. -/

/-- FIO_ERR_INFO of an error. -/
def fioInfo (bit ch cause : Nat) : Word := place ch 31 24 ||| place cause 23 20 ||| place bit 7 4

/-- An error of field I/O with one record per occurrence. -/
def raiseFio (bit code ch cause : Nat) (d0 d1 : Word) (s : State) : State :=
  event code ch d0 d1 (errFio bit (fioInfo bit ch cause) s)

/-- An error that gives one record per episode: recorded when no episode is open, only counted while one is (R324). -/
def raiseEpisode (bit code ch : Nat) (d0 : Word) (open' : Bool) (s : State) : State :=
  let s := errFio bit (fioInfo bit ch 0) s
  if open' then countOnly code s else event code ch d0 0 s

/-- The episode is open and its condition holds again. -/
def Epi.hold : Epi := { on := true, cleared := none }

/-- The condition of an open episode has cleared. -/
def Epi.clear (e : Epi) (now : Nat) : Epi := if e.on then { e with cleared := some now } else e

/-- An episode whose condition cleared at least 10 s ago has ended (R324). -/
def Epi.ended (e : Epi) (now : Nat) : Bool := e.on && due e.cleared 10000000000 now

/-! ## The fault record (R321) -/

/-- Bits of the outputs, as a number. -/
def dqMask (s : State) (f : Dout → Bool) : Nat := maskOf (s.fio.dq.map f)

/-- Nibbles, entry `n` in bits [4n+3:4n]. -/
def nibbles (l : List Nat) : Nat :=
  match l with
  | [] => 0
  | a :: t => a % 16 + 16 * nibbles t

/-- The fault record's 60 bytes with write sequence `q`. -/
def faultBytes (s : State) (q : Nat) : List Byte :=
  let g0 := s.grp 0
  let g1 := s.grp 1
  le 2 (dqMask s (·.cross)) ++ le 2 (dqMask s (·.fbk)) ++ le 1 (maskOf [g0.gsw, g1.gsw, g0.ret, g1.ret]) ++ zeros 3 ++
    le 8 (maskOf (s.fio.di.map (·.path))) ++ le 2 (dqMask s (·.path)) ++ le 2 (maskOf (s.fio.fb.map (·.path))) ++
    le 4 q ++ le 8 (nibbles (s.fio.dq.map (·.cause))) ++
    le 8 (nibbles (s.fio.dq.map (·.partner))) ++ le 2 (dqMask s (·.final)) ++ zeros 18

/-- Write the fault record into its next slot over the block's record port (R175, R321). -/
def writeFaultRecord (s : State) : State :=
  let (k, q) := slotNext (slot64 s 0x180 0x14) (slot64 s 0x1C0 0x14)
  mramWrite (0x180 + 0x40 * k) (sealed64 (faultBytes s q)) s

/-- A latched output as the record holds it: OVERLOAD is latched where its cause stands (log 198). The record has one
cause per channel, so a feedback fault behind another cause comes back with one of its own causes, `free` (log 199). -/
def dqFromRecord (b : List Byte) (free n : Nat) (d : Dout) : Dout :=
  let c := leAt b 0x18 8 / 2 ^ (4 * n) % 16
  let f := (leAt b 2 2).testBit n
  { d with
    cross := (leAt b 0 2).testBit n, fbk := f, path := (leAt b 0x10 2).testBit n, ovl := decide (c = 3),
    fbCause := if f then (if 4 ≤ c ∧ c ≤ 6 then c else 4 + free % 3) else 0,
    cause := c, partner := leAt b 0x20 8 / 2 ^ (4 * n) % 16, final := (leAt b 0x28 2).testBit n }

/-- Change every element of a list, with its index. -/
def mapIdxFrom {α : Type} (i : Nat) (f : Nat → α → α) (l : List α) : List α :=
  match l with
  | [] => []
  | a :: t => f i a :: mapIdxFrom (i + 1) f t

/-- Load the fault record at a start (R321). With no valid copy every channel is latched HELD_HIGH, final, both groups
RETURN, RECORD_LOST is set and CROSS raised. -/
def loadFaultRecord (s : State) : State :=
  let s := mramProbe 0x1C0 64 (mramProbe 0x180 64 s)
  match slotBest (slot64 s 0x180 0x14) (slot64 s 0x1C0 0x14) with
  | some k =>
    let b := s.mem.mramGet (0x180 + 0x40 * k) 64
    let g := leAt b 4 1
    { drawn s with fio := { s.fio with
        recordLost := false,
        dq := mapIdxFrom 0 (dqFromRecord b (freshNat s)) s.fio.dq,
        di := mapIdxFrom 0 (fun i d => { d with path := (leAt b 8 8).testBit i }) s.fio.di,
        fb := mapIdxFrom 0 (fun n d => { d with path := (leAt b 0x12 2).testBit n }) s.fio.fb,
        groups := mapIdxFrom 0 (fun i (x : Group) => { x with gsw := g.testBit i, ret := g.testBit (2 + i) }) s.fio.groups } }
  | none =>
    let s := { s with fio := { s.fio with
        recordLost := true,
        dq := s.fio.dq.map (fun (d : Dout) => { d with cross := true, cause := 1, final := true }),
        groups := s.fio.groups.map (fun (x : Group) => { x with ret := true }) } }
    writeFaultRecord (raiseFio 0 0x3901 0xFF 1 1 0 s)

/-! ## Outputs -/

/-- The pair role lets outputs act: ACTIVE, or no partner (R5, R313). -/
def roleActs (s : State) : Bool := decide (s.pair.role = 0 ∨ s.pair.role = 1)

/-- The module state lets outputs act (R313). -/
def stateActs (s : State) : Bool :=
  match s.mod.mode with
  | .stop | .run | .hold | .brace => true
  | _ => false

/-- High sides of group `g` may follow their commands: all of R313 but the latches of single channels. -/
def groupDrives (s : State) (g : Nat) : Bool :=
  s.fio.on && groupUsed s g && stateActs s && roleActs s && s.fio.usable &&
    !(s.grp g).gsw && !(s.grp g).gover && !(s.grp g).ret

/-- A channel of group `g` holds a cross-fault or an output PATH fault (R306, R315). -/
def groupCrossed (s : State) (g : Nat) : Bool :=
  ((s.fio.dq.drop (8 * g)).take 8).any (fun d => d.cross || d.path)

/-- The group switch may be closed (R313). -/
def groupMayClose (s : State) (g : Nat) : Bool := groupDrives s g && !groupCrossed s g

/-- FBn shows energised (R319): FB_NO 1 reads 1, FB_NO 0 reads 0 while energised. The value reads 0 while its quality is 0. -/
def fbEnergised (s : State) (n : Nat) : Bool :=
  let f := s.fbk n
  let v := f.value && !f.broken && !f.overv && !f.path
  if bitOf (dqCfg s n) 14 then v else !v

/-- High sides of group `g` may be on: its switch is closed, or is open only for its slot test (R314) or because a
cross-fault or an output PATH fault is latched on one of its channels (R313). -/
def groupOpenOk (s : State) (g : Nat) : Bool :=
  (s.grp g).closed || (s.grp g).test.isSome || groupCrossed s g

/-- The high side of channel `n` may be on: group driven and its switch no bar, no latch that holds it off; a cross-fault
holds it off only once its cause is final (R313, R316, R318, R319, R306). -/
def dqMayBeOn (s : State) (n : Nat) : Bool :=
  let d := s.dq n
  dqUsed s n && groupDrives s (n / 8) && groupOpenOk s (n / 8) && !d.ovl && !d.fbk && !d.path && !(d.cross && d.final)

/-- Switch the high side of channel `n`; the instant starts the pull-in or drop-out time (R319). -/
def dqSwitch (n : Nat) (on : Bool) (s : State) : State :=
  if (s.dq n).cmd = on then s
  else modDq n (fun d => { d with
      cmd := on, changed := some s.clk.now, highs := 0,
      fbSince := if fbOn s n then some s.clk.now else none, fbSeen := false }) s

/-- Latch FBK on channel `n` with a cause: the channel is held off, the record written (R319, R321). -/
def latchFbk (n cause : Nat) (s : State) : State :=
  let s := modDq n (fun d => { d with
      fbk := true, fbCause := cause, cause := if d.cause = 0 then cause else d.cause, fbSince := none }) s
  let s := dqSwitch n false s
  let s := modDq n (fun d => { d with fbSince := none }) s
  writeFaultRecord (raiseFio 4 0x3905 (0x40 + n) cause (w32 cause) 0 s)

/-- Channel `n` takes its command: a change to on first passes the before-switch-on check (R313, R319). -/
def dqFollow (n : Nat) (s : State) : State :=
  let d := s.dq n
  if d.want && dqMayBeOn s n then
    if d.cmd then s
    else if fbOn s n && fbEnergised s n then latchFbk n 4 s
    else dqSwitch n true s
  else dqSwitch n false s

/-- How long the slot test opens a closed group switch, ns (R314). -/
def groupTestNs : Nat := 100000

/-- A group switch after its conditions are looked at: it opens when they fail, and closes again at the end of its own
slot test while they hold; any other closing passes the check of GROUP_SWITCH_TEST (R313, R314). -/
def groupNow (s : State) (g : Nat) (x : Group) : Group :=
  let may := groupMayClose s g
  let ended := due x.test groupTestNs s.clk.now
  { x with closed := may && (x.closed || ended), test := if may && !ended then x.test else none }

/-- Group switches follow their conditions; in a group that is not driven every high side is off (R313). -/
def fioRefresh (s : State) : State :=
  let s := { s with fio := { s.fio with groups := mapIdxFrom 0 (groupNow s) s.fio.groups } }
  forAll (List.range 16) (fun n s => if (s.dq n).cmd && !dqMayBeOn s n then dqSwitch n false s else s) s

/-- A cross-fault is latched on channel `n`: cause HELD_HIGH, the group switch opens, CROSS is raised, the record is
written (R315). -/
def latchCross (n cause partner : Nat) (s : State) : State :=
  let s := modDq n (fun d => { d with cross := true, cause := cause, partner := partner, final := false, inRound := false }) s
  writeFaultRecord (raiseFio 0 0x3901 (0x40 + n) cause (w32 cause) (w32 partner) (fioRefresh s))

/-- PATH is latched on output `n`: held off, group switch open, cause PATH, final at once (R306). -/
def latchPathDq (n : Nat) (s : State) : State :=
  let s := modDq n (fun d => { d with path := true, cause := 7, partner := 0, final := true, inRound := false }) s
  writeFaultRecord (raiseFio 6 0x3907 (0x40 + n) 7 0 0 (fioRefresh s))

/-- GSW is latched on group `g`: every high side off, switch open, record written (R318). -/
def latchGsw (g : Nat) (s : State) : State :=
  writeFaultRecord (raiseFio 3 0x3904 (0x60 + g) 0 0 0 (fioRefresh (modGrp g (fun (x : Group) => { x with gsw := true }) s)))

/-- All outputs off and group switches open at once (R4): SAFE, SHUTDOWN, reset. -/
def fioOff (s : State) : State :=
  let s := { s with fio := { s.fio with groups := s.fio.groups.map (fun (x : Group) => { x with closed := false, test := none }) } }
  forAll (List.range 16) (fun n s => dqSwitch n false (modDq n (fun d => { d with want := false, pulse := none }) s))
    { s with fio := { s.fio with image := none } }

/-! ## Inputs (R304 to R310) -/

/-- Class of a sample against thresholds, with the previous class between them (R304). -/
def plainClass (set : Nat) (path : Bool) (v : Int) (prev : Nat) : Nat :=
  if (Config.onThreshold set path : Int) ≤ v then 1 else if v ≤ Config.offThreshold set path then 0 else prev

/-- Class of a sample by zone: 0 LOW, 1 HIGH, 2 UNDEF, 3 BREAK (R307). -/
def zoneClass (path : Bool) (v : Int) : Nat :=
  if v < Config.zoneBound 0 path then 3
  else if v < Config.zoneBound 1 path then 2
  else if v < Config.zoneBound 2 path then 0
  else if v < Config.zoneBound 3 path then 2
  else 1

/-- The rank of a class, lowest first: BREAK, LOW, UNDEF, HIGH (R306). -/
def classRank (c : Nat) : Nat :=
  match c with
  | 3 => 0
  | 0 => 1
  | 2 => 2
  | _ => 3

/-- The lower of two classes (R306). -/
def lowerClass (a b : Nat) : Nat := if classRank a ≤ classRank b then a else b

/-- A class as R309 takes it: with WB and L+ out of range, BREAK and UNDEF are LOW. -/
def lplusClass (sub : Bool) (c : Nat) : Nat := if sub && (c == 2 || c == 3) then 0 else c

/-- The value filter's count after a sample (R308). -/
def countStep (cls thresh count : Nat) : Nat :=
  match cls with
  | 1 => if count < thresh then count + 1 else thresh
  | 2 => count
  | _ => count - 1

/-- The fault count after a sample (R308). -/
def faultStep (cls thresh fault : Nat) : Nat :=
  if cls = 2 || cls = 3 then (if fault < thresh then fault + 1 else thresh) else fault - 1

/-- A path A voltage in units of 50 mV (FIO_DI_STAT.VOLTS); below 0 V it reads 0 (log 30). -/
def voltsField (v : Int) : Nat := Nat.min 4095 (v.toNat / 50)

/-- One sample of an input, without the reporting: `lp` is LPLUS_OK. -/
def dinSample (set thresh : Nat) (wb lp : Bool) (a b : Int) (d : Din) : Din :=
  let sub := wb && !lp
  let ra := if wb then zoneClass false a else plainClass set false a d.clsA
  let rb := if wb then zoneClass true b else plainClass set true b d.clsB
  let ca := lplusClass sub ra
  let cb := lplusClass sub rb
  let cls := lowerClass ca cb
  let count := countStep cls thresh d.count
  let fault := faultStep cls thresh d.fault
  let lows := if cls = 0 && ca == ra && cb == rb then (if d.lows < thresh then d.lows + 1 else d.lows) else 0
  let hi := decide (36000 < a ∨ 36000 < b)
  let lo := decide (a < 30000 ∧ b < 30000)
  { d with
    volts := voltsField a, clsA := ca, clsB := cb, cls := cls, count := count, fault := fault,
    value := if count = thresh then true else if count = 0 then false else d.value,
    high36 := if hi then (if d.high36 < 2 then d.high36 + 1 else 2) else 0,
    low30 := if lo then (if d.low30 < 100 then d.low30 + 1 else 100) else 0,
    differ := if ca = cb then 0 else (if d.differ < 10 then d.differ + 1 else 10),
    lows := lows, pending := d.pending && !decide (thresh ≤ lows) }

/-- The input is free of every fault (R303). -/
def Din.quality (d : Din) : Bool := !d.broken && !d.overv && !d.path

/-- The value an input shows: 0 while quality is 0 or the start-up test is pending (R303, R310). -/
def Din.shown (d : Din) : Bool := d.value && d.quality && !d.pending

/-- What one sample of an input reports: WBREAK, OVERV and PATH, and their ends (R305, R306, R308). `put` stores the
input, `get` reads it; `ch` is its channel coding. -/
def dinReport (ch thresh : Nat) (low : Bool) (get : State → Din) (put : (Din → Din) → State → State) (s : State) : State :=
  let now := s.clk.now
  let d := get s
  let s :=
    if d.fault = thresh && !d.broken then
      put (fun d => { d with broken := true, epiBreak := Epi.hold }) (raiseEpisode 5 0x2906 ch 0 d.epiBreak.on s)
    else if d.fault = 0 && d.broken then
      put (fun d => { d with broken := false, epiBreak := d.epiBreak.clear now }) s
    else s
  let s :=
    if low && d.high36 == 2 && !d.overv then
      put (fun d => { d with overv := true, epiOver := Epi.hold }) (raiseEpisode 7 0x2908 ch (w32 d.volts) d.epiOver.on s)
    else if d.low30 == 100 && d.overv then
      put (fun d => { d with overv := false, epiOver := d.epiOver.clear now }) s
    else s
  if d.differ == 10 && !d.path then
    writeFaultRecord (raiseFio 6 0x3907 ch 0 0 0 (put (fun d => { d with path := true }) s))
  else s

/-- Sample DIi. An unused input is not evaluated (R303). -/
def sampleDi (i : Nat) (v : Int × Int) (s : State) : State :=
  let c := diCfg s i
  let set := fieldOf c 2 0
  if set = 0 then s
  else
    dinReport i (fieldOf c 15 8) (decide (set ≤ 3)) (fun s => s.din i) (modDi i)
      (modDi i (dinSample set (fieldOf c 15 8) (bitOf c 16) s.sup.lplusOk v.1 v.2) s)

/-- The steady-state check and the notice of a shown contact, after FBn's sample (R319). -/
def fbCheck (n : Nat) (s : State) : State :=
  let d := s.dq n
  if !s.fio.usable || d.fbk then s
  else
    let agrees := fbEnergised s n == d.cmd
    if d.fbSince.isSome then (if agrees then modDq n (fun d => { d with fbSeen := true }) s else s)
    else if agrees || d.pulse.isSome then s
    else latchFbk n 6 s

/-- Sample FBn; an FBn of an unused output or with FB_EN 0 is not evaluated (R303). -/
def sampleFb (n : Nat) (v : Int × Int) (s : State) : State :=
  if fbOn s n then
    let th := fieldOf (dqFbCfg s n) 31 26
    fbCheck n (dinReport (0x50 + n) th true (fun s => s.fbk n) (modFb n)
      (modFb n (dinSample 1 th false s.sup.lplusOk v.1 v.2) s))
  else s

/-- INPUT_SAMPLE (R308): every input and feedback input is classified on both paths and filtered. The block samples from
hand-over on. -/
def opInputSample (di fb : List (Int × Int)) (s : State) : State :=
  if s.fio.on then forIdx 0 fb sampleFb (forIdx 0 di sampleDi s) else s

/-- The field image I0 to I255, as bytes (R303). -/
def fieldImage (s : State) : List Byte :=
  let used i := fieldOf (diCfg s i) 2 0 != 0
  let di := mapIdxFrom 0 (fun i (b : Bool) => b && used i)
  let bits (n v : Nat) : List Byte := le n v
  bits 5 (maskOf (di (s.fio.di.map Din.shown))) ++ zeros 3 ++
    bits 5 (maskOf (di (s.fio.di.map Din.quality))) ++ zeros 3 ++
    bits 2 (maskOf (mapIdxFrom 0 (fun n b => b && fbOn s n) (s.fio.fb.map Din.shown))) ++
    bits 2 (maskOf (mapIdxFrom 0 (fun n b => b && fbOn s n) (s.fio.fb.map Din.quality))) ++
    bits 2 (maskOf (s.fio.dq.map (fun d => !d.fault))) ++
    bits 2 (maskOf (s.fio.dq.map (·.rb))) ++
    bits 1 (maskOf [s.fio.usable, (s.grp 0).closed, (s.grp 1).closed]) ++
    bits 5 (maskOf (di (s.fio.di.map (·.pending)))) ++ zeros 2

/-! ## Readback (R312, R315, R316) -/

/-- Readback class of a path, with the previous class between the levels (R312). -/
def rbClass (path : Bool) (v : Int) (prev : Bool) : Bool :=
  if (Config.rbHigh path : Int) ≤ v then true else if v ≤ Config.rbLow path then false else prev

/-- One readback sample of a channel, without the reporting: `pulsing` while its own pulse runs, `settled` when it is
commanded off and SETTLE has passed since it switched off, `within` while another channel's pulse runs. -/
def doutSample (usable settled within : Bool) (a b : Int) (ma : Nat) (d : Dout) : Dout :=
  let ra := rbClass false a d.rbA
  let rb := rbClass true b d.rbB
  let r := ra && rb
  { d with
    rbA := ra, rbB := rb, rb := r, current := Nat.min 65535 ma,
    differ := if usable then (if ra = rb then 0 else (if d.differ < 10 then d.differ + 1 else 10)) else 0,
    highs := if usable && settled && r then (if d.highs < 20 then d.highs + 1 else 20) else 0,
    lowIn := d.lowIn || (within && !r) }

/-- A running off-pulse of some channel other than `n`. -/
def otherPulse (s : State) (n : Nat) : Bool :=
  (List.range 16).any (fun m => m != n && (s.dq m).pulse.isSome)

/-- The channel is commanded off and SETTLE has passed since it switched off (R315). -/
def dqSettledOff (s : State) (n : Nat) : Bool :=
  let d := s.dq n
  !d.cmd && (match d.changed with | none => true | some t => decide (t + settleNs s n ≤ s.clk.now))

/-- Channels `n` and the one whose pulse ended last are wired together: both take cause CROSS (R316). -/
def nameCross (n : Nat) (s : State) : State :=
  let d := s.dq n
  match s.fio.lastPulse with
  | none => s
  | some (m, t) =>
    if m = n || !d.cross || d.final || !d.before || !d.lowIn || !d.rb || s.clk.now > t + 200000 then s
    else
      let s := modDq n (fun d => { d with cause := 2, partner := m, before := false, lowIn := false }) s
      if (s.dq m).final then writeFaultRecord s
      else if (s.dq m).cross then
        writeFaultRecord (modDq m (fun d => { d with cause := 2, partner := n }) s)
      else latchCross m 2 n (writeFaultRecord s)

/-- Sample the readback of DQn and judge it. -/
def sampleDq (n : Nat) (v : Int × Int) (ma : Nat) (s : State) : State :=
  if !dqUsed s n then s
  else
    let s := modDq n (doutSample s.fio.usable (dqSettledOff s n) (otherPulse s n) v.1 v.2 ma) s
    let d := s.dq n
    let s := if d.differ == 10 && !d.path then latchPathDq n s else s
    let s := if d.highs == 20 && !d.cross && !(s.dq n).path then latchCross n 1 0 s else s
    nameCross n s

/-- READBACK_SAMPLE (R312): every 10 µs the readback is sampled on both paths and judged; load and group currents are
taken. Group switches follow their conditions. -/
def opReadbackSample (dq : List (Int × Int)) (loadMa groupMa : List Nat) (s : State) : State :=
  if s.fio.on then
    let s := forIdx 0 dq (fun n v s => sampleDq n v (nth loadMa n 0) s) s
    fioRefresh { s with fio := { s.fio with
      groups := mapIdxFrom 0 (fun g (x : Group) => { x with current := Nat.min 65535 (nth groupMa g 0) }) s.fio.groups } }
  else s

/-! ## Images, pulses and rounds (R313 to R316) -/

/-- OUTPUT_IMAGE_ARRIVAL (R313): the outputs follow the image, but for a channel in its own off-pulse. -/
def opOutputImageArrival (s : State) : State :=
  match s.fio.image with
  | none => s
  | some (cmds, _) =>
    let s := { s with fio := { s.fio with
        image := none, dq := mapIdxFrom 0 (fun n d => { d with want := nth cmds n false }) s.fio.dq } }
    forAll (List.range 16) (fun n s => if (s.dq n).pulse.isSome then s else dqFollow n s) (fioRefresh s)

/-- PULSE_PERIOD, ns. -/
def pulsePeriod (s : State) : Nat := fieldOf (lkAt s 9 0x20) 13 0 * 1000000

/-- The start of the newest round that has come: the rounds start at whole PULSE_PERIODs from hand-over, so no late
command makes them drift (R314). -/
def roundStart (s : State) : Nat :=
  s.fio.roundAt + (s.clk.now - s.fio.roundAt) / pulsePeriod s * pulsePeriod s

/-- TEST_ROUND (R314): a round begins PULSE_PERIOD after the last; causes latched before it are judged in it (R316). -/
def opTestRound (s : State) : State :=
  if s.fio.on && s.img.fio && s.fio.round.isNone && decide (s.fio.roundAt + pulsePeriod s ≤ s.clk.now) then
    { s with fio := { s.fio with
        round := some (roundStart s), roundAt := roundStart s, slot := 0, roundBad := !s.fio.usable,
        dq := s.fio.dq.map (fun (d : Dout) => { d with inRound := d.cross && !d.final }) } }
  else s

/-- Slot `k` of the round that runs is now, its test has not come yet, and no pulse and no group test runs (R314). -/
def inSlot (s : State) (k : Nat) : Bool :=
  match s.fio.round with
  | none => false
  | some t =>
    decide (s.fio.slot ≤ k) && decide (t + k * 1000000 ≤ s.clk.now) && decide (s.clk.now < t + (k + 1) * 1000000) &&
      s.fio.dq.all (fun d => d.pulse.isNone) && s.fio.groups.all (fun x => x.test.isNone)

/-- OFF_PULSE (R314): in its slot, a used output on by command, without a latched fault and on for SETTLE, is switched
off for its pulse. The readbacks of the faulted channels before the pulse are kept for R316. -/
def opOffPulse (n : Nat) (s : State) : State :=
  let d := s.dq n
  let onLong := match d.changed with
    | none => true
    | some t => decide (t + settleNs s n ≤ s.clk.now)
  if inSlot s n && dqUsed s n && d.cmd && !d.fault && onLong && s.fio.usable then
    let s := { s with fio := { s.fio with
        slot := n + 1, dq := s.fio.dq.map (fun (d : Dout) => { d with before := d.rb, lowIn := false }) } }
    modDq n (fun d => { d with pulse := some s.clk.now }) s
  else s

/-- OFF_PULSE_END (R314): readback must be LOW at the last sample of the pulse, else a cross-fault is latched; the
channel takes its command. -/
def opOffPulseEnd (n : Nat) (s : State) : State :=
  let d := s.dq n
  if due d.pulse (pulseNs s n) s.clk.now then
    let s := modDq n (fun d => { d with pulse := none }) s
    let s := { s with fio := { s.fio with lastPulse := some (n, s.clk.now) } }
    let s := if d.rb && s.fio.usable && !d.path then latchCross n 1 0 s else s
    dqFollow n s
  else s

/-- The check of group switch `g` with the internal test current, `slot` when it is the test of its slot: a switch that
does not show open is latched GSW; one that does closes where it is open and may, and opens for 100 µs where it is closed
(R313, R314). -/
def groupCheck (g : Nat) (slot showsOpen : Bool) (s : State) : State :=
  let x := s.grp g
  let s := if slot then { s with fio := { s.fio with slot := 17 + g } } else s
  if !showsOpen then (if x.gsw then s else latchGsw g s)
  else if x.closed then modGrp g (fun (x : Group) => { x with closed := false, test := some s.clk.now }) s
  else if groupMayClose s g && x.test.isNone then modGrp g (fun (x : Group) => { x with closed := true }) s
  else s

/-- GROUP_SWITCH_TEST: in its slot a closed switch opens for 100 µs and must show open, an open one is checked open (R314);
at any instant a switch that is open and may close is checked open before it closes (R313). Checks are suspended while L+
is lost (R320). Elsewhere the block makes no such check. -/
def opGroupSwitchTest (g : Nat) (showsOpen : Bool) (s : State) : State :=
  if s.fio.on && groupUsed s g && s.fio.usable && decide (g < 2) then
    let slot := inSlot s (16 + g)
    if slot || (!(s.grp g).closed && (s.grp g).test.isNone && groupMayClose s g) then groupCheck g slot showsOpen s
    else s
  else s

/-- TEST_ROUND_END (R316): after a complete round that began after a latch, every cause is final and each faulted high
side is held off. -/
def opTestRoundEnd (s : State) : State :=
  if due s.fio.round 18000000 s.clk.now then
    let judged := !s.fio.roundBad && s.fio.dq.any (fun d => d.inRound && d.cross && !d.final)
    let s := { s with fio := { s.fio with round := none } }
    if judged then
      let s := { s with fio := { s.fio with
          dq := s.fio.dq.map (fun d => if d.cross then { d with final := true, inRound := false } else d) } }
      writeFaultRecord (fioRefresh s)
    else s
  else s

/-- OUTPUT_OVERLOAD (R318): 5 ms in current limit: the high side goes off, OVERLOAD is latched. -/
def opOutputOverload (n ma : Nat) (s : State) : State :=
  let d := s.dq n
  if s.fio.on && dqUsed s n && d.cmd && !d.ovl then
    let s := modDq n (fun d => { d with ovl := true, current := ma, cause := if d.cause = 0 then 3 else d.cause }) s
    writeFaultRecord (raiseFio 1 0x3902 (0x40 + n) 3 (w32 ma) 0 (dqSwitch n false s))
  else s

/-- GROUP_OVERCURRENT (R318): 5 ms above the trip: the group is off, GOVER is latched. -/
def opGroupOvercurrent (g ma : Nat) (s : State) : State :=
  if s.fio.on && groupUsed s g && (s.grp g).closed then
    writeFaultRecord (raiseFio 2 0x3903 (0x60 + g) 0 (w32 ma) 0
      (fioRefresh (modGrp g (fun (x : Group) => { x with gover := true, current := ma }) s)))
  else s

/-- Every output of group `g` is commanded off, and no pulse runs (R317). -/
def groupAllOff (s : State) (g : Nat) : Bool :=
  ((s.fio.dq.drop (8 * g)).take 8).all (fun d => !d.cmd) && s.fio.dq.all (fun d => d.pulse.isNone)

/-- RETURN_CROSS_FAULT (R317): return current above 50 mA for 1 ms with every output off: RETURN is latched on the group. -/
def opReturnCrossFault (g : Nat) (s : State) : State :=
  if s.fio.on && groupUsed s g && groupAllOff s g && s.fio.usable && !(s.grp g).ret then
    let s := fioRefresh (modGrp g (fun (x : Group) => { x with ret := true }) s)
    writeFaultRecord (raiseFio 0 0x3901 (0x60 + g) 0 3 0 s)
  else s

/-- OPEN_LOAD (R318): 100 ms below 2 mA while on, with OPENLOAD_EN. -/
def opOpenLoad (n : Nat) (s : State) : State :=
  let d := s.dq n
  if s.fio.on && dqUsed s n && bitOf (dqCfg s n) 15 && d.cmd && !d.openLoad then
    modDq n (fun d => { d with openLoad := true, epiOpen := Epi.hold })
      (raiseEpisode 8 0x2909 (0x40 + n) 0 d.epiOpen.on s)
  else s

/-- OPEN_LOAD_CLEARED (R318): 100 ms above 2 mA: the condition clears. -/
def opOpenLoadCleared (n : Nat) (s : State) : State :=
  if (s.dq n).openLoad then
    modDq n (fun d => { d with openLoad := false, epiOpen := d.epiOpen.clear s.clk.now }) s
  else s

/-- FB_PULL_IN_TIMEOUT (R319): FB_ON_MAX after switch-on, FBn has not shown energised: PULL_IN. -/
def opFbPullInTimeout (n : Nat) (s : State) : State :=
  let d := s.dq n
  if s.fio.usable && fbOn s n && d.cmd && due d.fbSince (fieldOf (dqFbCfg s n) 9 0 * 1000000) s.clk.now then
    if d.fbSeen || fbEnergised s n then modDq n (fun d => { d with fbSince := none }) s else latchFbk n 5 s
  else s

/-- FB_DROP_OUT_TIMEOUT (R319): FB_OFF_MAX after switch-off, FBn has not shown released: WELDED. -/
def opFbDropOutTimeout (n : Nat) (s : State) : State :=
  let d := s.dq n
  if s.fio.usable && fbOn s n && !d.cmd && due d.fbSince (fieldOf (dqFbCfg s n) 25 16 * 1000000) s.clk.now then
    if d.fbSeen || !fbEnergised s n then modDq n (fun d => { d with fbSince := none }) s else latchFbk n 4 s
  else s

/-! ## L+ (R320) -/

/-- L+ is lost: every high side off, both switches open, checks suspended, nothing latched, LPLOST raised; a round that
runs is disturbed (R320). -/
def fioLplusLost (s : State) : State :=
  let s := { s with fio := { s.fio with
      usable := false, lost := true, goodSince := none, roundBad := true,
      dq := s.fio.dq.map (fun (d : Dout) => { d with pulse := none, highs := 0, differ := 0, fbSince := none }) } }
  raiseFio 9 0x290A 0xFF 0 (w32 s.sup.lplus) 0 (fioRefresh s)

/-- Output `n` at the instant L+ becomes usable: its readback, pulse and feedback checks start afresh (R320). -/
def dqAfresh (s : State) (n : Nat) (d : Dout) : Dout :=
  { d with
    highs := 0, differ := 0, changed := some s.clk.now, fbSeen := false,
    fbSince := if fbOn s n then some s.clk.now else none }

/-- L+ becomes usable, at a start or after a loss: every check starts afresh (R320). -/
def lplusUsable (s : State) : State :=
  fioRefresh { s with fio := { s.fio with usable := true, lost := false, dq := mapIdxFrom 0 (dqAfresh s) s.fio.dq } }

/-- LPLUS_RESTORED (R320): 100 ms within range: L+ is usable again. -/
def opLplusRestored (s : State) : State :=
  if s.fio.lost && due s.fio.goodSince 100000000 s.clk.now then lplusUsable s else s

/-! ## Resets of latches (R322) -/

/-- The condition of channel `n`'s CROSS latch shows in the sample of the reset; on a channel whose high side is held off
it cannot be seen (R322). -/
def crossSeen (s : State) (n : Nat) : Bool :=
  let d := s.dq n
  d.cross && d.highs == 20 && !(d.final || d.fbk || d.path || d.ovl)

/-- The condition of channel `n`'s PATH latch shows in the sample of the reset (R322). -/
def pathSeen (s : State) (n : Nat) : Bool := (s.dq n).path && (s.dq n).differ == 10

/-- The condition of channel `n`'s FBK latch shows in the sample of the reset (R322). -/
def fbkSeen (s : State) (n : Nat) : Bool :=
  let d := s.dq n
  d.fbk && s.fio.usable && d.fbSince.isNone && fbOn s n && fbEnergised s n != d.cmd

/-- A channel with only the latches whose conditions show kept. Its cause is that of a latch it still holds (log 200). -/
def dqCleared (cross path fbk : Bool) (d : Dout) : Dout :=
  let named := cross && (d.cause = 1 || d.cause = 2)
  { d with
    cross := cross, path := path, fbk := fbk, fbCause := if fbk then d.fbCause else 0,
    cause := if path then 7 else if cross then (if named then d.cause else 1) else if fbk then d.fbCause
      else if d.ovl then 3 else 0,
    partner := if named && !path then d.partner else 0, final := path || (named && d.final),
    inRound := cross && !path && d.inRound, highs := if cross then d.highs else 0 }

/-- The bits of a mask below `n`. -/
def maskBits (mask n : Nat) : List Nat := (List.range n).filter (fun i => mask.testBit i)

/-- Clear the latches FIO_FAULT_RESET selects, each but where its own condition shows; the event names the channels of
which a latch was cleared. -/
def faultReset (inputs : Bool) (groups channels : Nat) (s : State) : State :=
  let ch := (maskBits channels 16).filter (fun n =>
    ((s.dq n).cross && !crossSeen s n) || ((s.dq n).fbk && !fbkSeen s n) || ((s.dq n).path && !pathSeen s n))
  let back g := decide (50 < (s.grp g).current) && groupAllOff s g
  let gr := (maskBits groups 2).filter (fun g => (s.grp g).gsw || ((s.grp g).ret && !back g))
  let held (d : Din) := d.path && d.differ != 10
  let inp := inputs && (s.fio.di.any held || s.fio.fb.any held)
  let s := forAll ch (fun n s => modDq n (dqCleared (crossSeen s n) (pathSeen s n) (fbkSeen s n)) s) s
  let s := forAll gr (fun g => modGrp g (fun (x : Group) => { x with gsw := false, ret := x.ret && back g })) s
  let s := if inputs then { s with fio := { s.fio with
      di := s.fio.di.map (fun d => if held d then { d with path := false } else d),
      fb := s.fio.fb.map (fun d => if held d then { d with path := false } else d) } } else s
  let bits := ch.foldl (fun a n => a + 2 ^ n) 0 + gr.foldl (fun a g => a + 2 ^ (16 + g)) 0 + (if inp then 2 ^ 31 else 0)
  writeFaultRecord (event 0x2910 0 (w32 bits) 0 (fioRefresh s))

/-- A write to FIO_FAULT_RESET: the security engine's only (R322). The block holds no latch before hand-over, where it
loads its record. -/
def opFaultReset (init : Nat) (inputs : Bool) (groups channels : Nat) (s : State) : State :=
  if s.fio.on && decide (init = secId) then faultReset inputs groups channels s else s

/-- A write to FIO_OVL_RESET: a TRIAD-mode voter's or the security engine's (R322). -/
def opOvlReset (init groups channels : Nat) (s : State) : State :=
  if s.fio.on && (decide (init = secId) || isVoter s init) then
    let ch := (maskBits channels 16).filter (fun n => (s.dq n).ovl)
    let gr := (maskBits groups 2).filter (fun g => (s.grp g).gover)
    let s := forAll ch (fun n => modDq n (fun d => { d with
        ovl := false, cause := if d.cause = 3 then d.fbCause else d.cause })) s
    let s := forAll gr (fun g => modGrp g (fun (x : Group) => { x with gover := false })) s
    let bits := ch.foldl (fun a n => a + 2 ^ n) 0 + gr.foldl (fun a g => a + 2 ^ (16 + g)) 0
    writeFaultRecord (event 0x2910 1 (w32 bits) 0 (fioRefresh s))
  else s

/-! ## Hand-over and registers -/

/-- Field I/O starts at hand-over (R308, R310, R321, R313): the fault record is loaded, start-up tests are pending, the
round clock starts, and in STOP the outputs take their STOP_VALUE. -/
def fioStart (s : State) : State :=
  let s := loadFaultRecord { s with fio := { s.fio with on := true, roundAt := s.clk.now } }
  let s := { s with fio := { s.fio with
      di := mapIdxFrom 0 (fun i d => { d with pending := bitOf (diCfg s i) 17 && fieldOf (diCfg s i) 2 0 != 0 }) s.fio.di,
      image := some ((List.range 16).map (stopValue s), s.clk.now) } }
  fioRefresh s

/-- FIO_GROUP (R318). -/
def groupReg (x : Group) : Word :=
  place x.current 15 0 ||| placeB x.closed 16 ||| placeB (x.gover || x.gsw || x.ret) 17 |||
    place (if x.gover then 1 else if x.gsw then 2 else if x.ret then 3 else 0) 19 18

/-- Reads of the FIO window, but for the quartet and the LK registers. -/
def fioRead (s : State) (o : Nat) : Word :=
  if o = 0 then
    place (dqMask s Dout.fault) 31 16 ||| placeB s.fio.recordLost 4 ||| placeB (s.grp 1).closed 3 |||
      placeB (s.grp 0).closed 2 ||| placeB s.fio.usable 0
  else if o = 0x24 then groupReg (s.grp 0)
  else if o = 0x28 then groupReg (s.grp 1)
  else if 0x100 ≤ o ∧ o < 0x1A0 then
    let i := (o - 0x100) / 4
    let d := s.din i
    let used := fieldOf (diCfg s i) 2 0 != 0
    placeB d.path 28 ||| placeB d.pending 27 ||| placeB (d.quality && used) 26 ||| placeB d.shown 25 |||
      place d.cls 23 22 ||| place d.count 21 14 ||| place d.volts 11 0
  else if 0x300 ≤ o ∧ o < 0x340 then
    let n := (o - 0x300) / 4
    let d := s.fbk n
    placeB (d.quality && fbOn s n) 26 ||| placeB (d.shown && fbOn s n) 25 ||| place d.volts 11 0
  else if 0x480 ≤ o ∧ o < 0x4C0 then
    let d := s.dq ((o - 0x480) / 4)
    placeB d.openLoad 28 ||| place d.partner 27 24 ||| placeB d.final 23 ||| place d.cause 22 19 |||
      placeB d.fault 18 ||| placeB d.rb 17 ||| placeB d.cmd 16 ||| place d.current 15 0
  else 0

/-! ## Meanings -/

/-- INPUT_SAMPLE. -/
def execInputSample (di fb : List (Int × Int)) (s : State) : Host.Outcome State Fault Refusal :=
  wfRun (.inputSample di fb) (opInputSample di fb) s
/-- FB_PULL_IN_TIMEOUT. -/
def execFbPullInTimeout (n : Nat) (s : State) : Host.Outcome State Fault Refusal :=
  wfRun (.fbPullInTimeout n) (opFbPullInTimeout n) s
/-- FB_DROP_OUT_TIMEOUT. -/
def execFbDropOutTimeout (n : Nat) (s : State) : Host.Outcome State Fault Refusal :=
  wfRun (.fbDropOutTimeout n) (opFbDropOutTimeout n) s
/-- READBACK_SAMPLE. -/
def execReadbackSample (dq : List (Int × Int)) (l g : List Nat) (s : State) : Host.Outcome State Fault Refusal :=
  wfRun (.readbackSample dq l g) (opReadbackSample dq l g) s
/-- OUTPUT_IMAGE_ARRIVAL. -/
def execOutputImageArrival (s : State) : Host.Outcome State Fault Refusal :=
  wfRun .outputImageArrival opOutputImageArrival s
/-- TEST_ROUND. -/
def execTestRound (s : State) : Host.Outcome State Fault Refusal := wfRun .testRound opTestRound s
/-- OFF_PULSE. -/
def execOffPulse (n : Nat) (s : State) : Host.Outcome State Fault Refusal := wfRun (.offPulse n) (opOffPulse n) s
/-- OFF_PULSE_END. -/
def execOffPulseEnd (n : Nat) (s : State) : Host.Outcome State Fault Refusal :=
  wfRun (.offPulseEnd n) (opOffPulseEnd n) s
/-- GROUP_SWITCH_TEST. -/
def execGroupSwitchTest (g : Nat) (b : Bool) (s : State) : Host.Outcome State Fault Refusal :=
  wfRun (.groupSwitchTest g b) (opGroupSwitchTest g b) s
/-- TEST_ROUND_END. -/
def execTestRoundEnd (s : State) : Host.Outcome State Fault Refusal := wfRun .testRoundEnd opTestRoundEnd s
/-- OUTPUT_OVERLOAD. -/
def execOutputOverload (n ma : Nat) (s : State) : Host.Outcome State Fault Refusal :=
  wfRun (.outputOverload n ma) (opOutputOverload n ma) s
/-- GROUP_OVERCURRENT. -/
def execGroupOvercurrent (g ma : Nat) (s : State) : Host.Outcome State Fault Refusal :=
  wfRun (.groupOvercurrent g ma) (opGroupOvercurrent g ma) s
/-- RETURN_CROSS_FAULT. -/
def execReturnCrossFault (g : Nat) (s : State) : Host.Outcome State Fault Refusal :=
  wfRun (.returnCrossFault g) (opReturnCrossFault g) s
/-- OPEN_LOAD. -/
def execOpenLoad (n : Nat) (s : State) : Host.Outcome State Fault Refusal := wfRun (.openLoad n) (opOpenLoad n) s
/-- OPEN_LOAD_CLEARED. -/
def execOpenLoadCleared (n : Nat) (s : State) : Host.Outcome State Fault Refusal :=
  wfRun (.openLoadCleared n) (opOpenLoadCleared n) s
/-- LPLUS_RESTORED. -/
def execLplusRestored (s : State) : Host.Outcome State Fault Refusal := wfRun .lplusRestored opLplusRestored s
/-- FAULT_RESET_INPUTS: INPUTS 1 of FIO_FAULT_RESET. -/
def execFaultResetInputs (init : Nat) (s : State) : Host.Outcome State Fault Refusal :=
  wfRun (.faultResetInputs init) (opFaultReset init true 0 0) s
/-- FAULT_RESET_GROUPS: GROUPS of FIO_FAULT_RESET. -/
def execFaultResetGroups (init mask : Nat) (s : State) : Host.Outcome State Fault Refusal :=
  wfRun (.faultResetGroups init mask) (opFaultReset init false mask 0) s
/-- FAULT_RESET_CHANNELS: CHANNELS of FIO_FAULT_RESET. -/
def execFaultResetChannels (init mask : Nat) (s : State) : Host.Outcome State Fault Refusal :=
  wfRun (.faultResetChannels init mask) (opFaultReset init false 0 mask) s
/-- OVL_RESET_GROUPS: GROUPS of FIO_OVL_RESET. -/
def execOvlResetGroups (init mask : Nat) (s : State) : Host.Outcome State Fault Refusal :=
  wfRun (.ovlResetGroups init mask) (opOvlReset init mask 0) s
/-- OVL_RESET_CHANNELS: CHANNELS of FIO_OVL_RESET. -/
def execOvlResetChannels (init mask : Nat) (s : State) : Host.Outcome State Fault Refusal :=
  wfRun (.ovlResetChannels init mask) (opOvlReset init 0 mask) s

end Sys2Proof.Machine
end

