-- ==== Sys2Proof/Machine/Granary.lean ====
section
/-! DEFINITION. Granary and life data (19): writing records and life-data lines, the start steps, the clearing, the
registers of the GRN and LIFE windows, and the commands of the family. -/

namespace Sys2Proof.Machine

/-! ## The event codes -/

/-- The event codes of blocks 0x0 to 0x7 (R390). -/
def eventCodesLow : List Nat :=
  [0x3001, 0x3002, 0x3003, 0x3004, 0x3005, 0x3006, 0x3007, 0x2008, 0x3010, 0x2020, 0x2021, 0x2022] ++
  [0x3101, 0x3102, 0x3103, 0x3104, 0x3105, 0x3106, 0x2107] ++
  [0x3201, 0x3202, 0x3203, 0x2204, 0x3205, 0x2206, 0x3207, 0x2208, 0x2210, 0x2211, 0x2212, 0x2213, 0x2214, 0x2215] ++
  [0x3301, 0x2302, 0x3303, 0x3304, 0x2310, 0x2311] ++
  [0x2401, 0x3402, 0x3403, 0x3404, 0x3405, 0x3406, 0x3407, 0x2408, 0x3409, 0x340A, 0x240B] ++
  [0x3510, 0x3511, 0x3512, 0x2513, 0x2514, 0x2515, 0x2516, 0x2520, 0x2521, 0x2522, 0x2523, 0x2524, 0x3530, 0x3531,
    0x3532, 0x2533, 0x2534, 0x2537, 0x2538] ++
  [0x2601, 0x2602, 0x2603, 0x2604, 0x3605, 0x2606, 0x2607, 0x2610] ++
  [0x3710, 0x2711, 0x3712, 0x3713, 0x3714, 0x2715, 0x3716, 0x2717, 0x2720, 0x2721, 0x2722]

/-- The event codes of blocks 0x8 to 0xF (R390). -/
def eventCodesHigh : List Nat :=
  [0x2801, 0x2802, 0x2803, 0x2804, 0x2805, 0x3806, 0x2807, 0x2810] ++
  [0x3901, 0x3902, 0x3903, 0x3904, 0x3905, 0x2906, 0x3907, 0x2908, 0x2909, 0x290A, 0x2910] ++
  [0x3A01, 0x2A02, 0x2A03, 0x2A04, 0x2A05, 0x3A06, 0x2A07] ++
  [0x3B01, 0x2B02, 0x2B03, 0x2B04, 0x3B05, 0x3B06, 0x2B07, 0x2B08] ++
  [0x2C01, 0x3C02, 0x2C03, 0x2C04, 0x3C05, 0x2C06, 0x2C07, 0x3C08, 0x3C09, 0x2C11, 0x2C20] ++
  [0x3D20, 0x2D21, 0x3D22, 0x2D23, 0x2D24, 0x3D30, 0x2D31, 0x3D32, 0x3D33, 0x2D34, 0x2D35, 0x2D36, 0x2D37, 0x2D38,
    0x3D39] ++
  [0x3E01, 0x3E02, 0x3E03, 0x2E04, 0x3E05, 0x2E06, 0x2E07, 0x3E08, 0x2E09, 0x2E10] ++
  [0x2F01, 0x3F02, 0x2F03, 0x2F10, 0x3F11, 0x3F12, 0x2F13]

/-- The code is one of the 165 listed (R390). -/
def codeListed (c : Nat) : Bool := eventCodesLow.contains c || eventCodesHigh.contains c

/-! ## Writing -/

/-- A record's 32 bytes with sequence number `q` (R393, R395). -/
def recBytes (r : Rec) (q : Nat) : List Byte :=
  let b := le 2 r.code ++ le 1 r.state ++ le 1 r.flags ++ le 4 r.power ++ le 4 r.secs ++ le 2 r.ms ++ le 2 r.detail ++
    le 4 r.d0.toNat ++ le 4 r.d1.toNat ++ le 4 q
  b ++ le 4 (crc32 b)

/-- MRAM offset of ring slot `k` (R174). -/
def slotOff (k : Nat) : Nat := 0x40000 + 32 * k

/-- Records held: NEXT less BASE (R395). -/
def ringHeld (s : State) : Nat := (s.grn.next + 2 ^ 32 - s.grn.base) % 2 ^ 32

/-- One record into the ring (R395); the record that meets the last slot is given up for 0x3F11, and FULL is raised
(R397). `q`: written in a quench (R393). -/
def putRec (q : Bool) (r : Rec) (s : State) : State :=
  if s.grn.full then { s with grn := { s.grn with lost := satInc 0xFFFFFFFF s.grn.lost } }
  else
    let k := ringHeld s
    let last := decide (65535 ≤ k)
    let r := if last then { r with code := 0x3F11, flags := 0, detail := 0, d0 := 0, d1 := 0 } else r
    let r := if q then { r with flags := r.flags ||| 2 } else r
    let s := mramWrite (slotOff k) (recBytes r s.grn.next) s
    let s := { s with grn := { s.grn with next := (s.grn.next + 1) % 2 ^ 32 } }
    if last then
      lifeAdd (lifeOff 0x3F11) 1 { s with grn := { s.grn with
          full := true, lost := 1, err := s.grn.err.raise 0 (place 0 11 8) (cycleWord s) 0 } }
    else s

/-- The 0x2F13 record of an overflow episode is queued once an entry is free (R398). -/
def overflowRecord (s : State) : State :=
  if s.grn.overflow = 0 then s
  else
    { s with grn := { s.grn with
        queue := s.grn.queue ++ [stamped s 0x2F13 0 0 (w32 s.grn.overflow) 0], overflow := 0 } }

/-- The oldest waiting record is written (R395). -/
def writeFront (q : Bool) (s : State) : State :=
  match s.grn.queue with
  | [] => s
  | r :: t => overflowRecord (putRec q r { s with grn := { s.grn with queue := t } })

/-- Every waiting record is written, where the start scan has ended (R196, R182, R402). -/
def flushQueue (q : Bool) (s : State) : State :=
  if s.grn.ready then forAll (List.range (s.grn.queue.length + 1)) (fun _ => writeFront q) s else s

/-- A 64-bit count as MRAM gives it; what a damaged word counts is a free value (log 190). -/
def lifeWord (s : State) (off : Nat) : Nat :=
  if touchesBad s.mem.mramBad off 8 then freshNat s % 2 ^ 64 else leNat (s.mem.mramGet off 8)

/-- A 64-bit count of MRAM with its held increment (R403). -/
def lifeRead (s : State) (off : Nat) : Nat := (lifeWord s off + FMap.look s.grn.incr 0 off) % 2 ^ 64

/-- One count is raised by `e.2`: a damaged word raises MUE and is written anew (R173, R403, log 190). -/
def lifeLine (e : Nat × Nat) (s : State) : State :=
  let n := (lifeWord s e.1 + e.2) % 2 ^ 64
  let s := if touchesBad s.mem.mramBad e.1 8 then drawn (mramProbe e.1 8 s) else s
  mramWrite e.1 (le 8 n) s

/-- Every life-data line that holds increments is written (R403). -/
def lifeFlush (s : State) : State := forAll s.grn.incr lifeLine { s with grn := { s.grn with incr := [] } }

/-- One copy of the operating-seconds count into the life block (R180). -/
def hoursCopy (s : State) : State :=
  let q := (slotNext (slot64 s 0 8) (slot64 s 0x40 8)).2
  mramWrite (0x40 * (q % 2)) (sealed64 (le 8 s.aon.secs ++ le 4 q ++ zeros 48)) s

/-- The same, where the count is the module's: before R181 has set it, an unkept count is not copied over the one that MRAM
holds (R180, R181, log 92). -/
def hoursCopyWhole (s : State) : State := if s.aon.whole then hoursCopy s else s

/-! ## Start (R400) -/

/-- A ring slot holds a valid record for BASE `base` (R399). -/
def recValid (s : State) (base k : Nat) : Bool :=
  let b := s.mem.mramGet (slotOff k) 32
  decide (leAt b 0x1C 4 = crc32 (b.take 0x1C)) && decide (leAt b 0x18 4 = (base + k) % 2 ^ 32) &&
    !touchesBad s.mem.mramBad (slotOff k) 32

/-- The first slot from `k` that is not valid, at most `fuel` slots further (R400, step 3). -/
def scanRing (s : State) (base k fuel : Nat) : Nat :=
  match fuel with
  | 0 => k
  | n + 1 => if recValid s base k then scanRing s base (k + 1) n else k

/-- The slot at MRAM offset `o + 64 i`, commit word at 0x38, that R178 reads. -/
def bestSlot (s : State) (o : Nat) : Option (List Byte) :=
  match slotBest (slot64 s o 0x38) (slot64 s (o + 0x40) 0x38) with
  | none => none
  | some i => some (s.mem.mramGet (o + 0x40 * i) 64)

/-- Write `data` (at most 56 bytes) into the two-slot structure at `o` (R178). -/
def writeSlot (o : Nat) (data : List Byte) (s : State) : State :=
  let n := slotNext (slot64 s o 0x38) (slot64 s (o + 0x40) 0x38)
  mramWrite (o + 0x40 * n.1) (sealed64 (slice (data ++ zeros 56) 0 56 ++ le 4 n.2)) s

/-- The last-quench block's bytes where its CRC matches (R183). -/
def quenchBlock (s : State) : Option (List Byte) :=
  let b := s.mem.mramGet 0x80 64
  if leAt b 0x3C 4 = crc32 (b.take 0x3C) ∧ !touchesBad s.mem.mramBad 0x80 64 then some b else none

/-- LIFEBAD with its DETAIL (R405). -/
def lifeBad (d : Nat) (s : State) : State := event 0x3F12 d 0 0 (errGrn 2 (place 2 11 8 ||| place d 7 4) s)

/-- Write the control block (R401). -/
def writeControl (s : State) : State := writeSlot 0x240000 (le 4 s.grn.base ++ le 4 s.grn.clears) s

/-- The two slots at `o` are read (R173, R178). -/
def probeSlots (o : Nat) (s : State) : State := mramProbe (o + 0x40) 64 (mramProbe o 64 s)

/-- Step 2: BASE and CLEAR_NUMBER; a CLEAR_NUMBER that no block gives is a free value (log 34). -/
def startControl (s : State) : State :=
  let s := probeSlots 0x240000 s
  match bestSlot s 0x240000 with
  | some b => { s with grn := { s.grn with base := leAt b 0 4, clears := leAt b 4 4 } }
  | none =>
    let b := s.mem.mramGet (slotOff 0) 32
    let ok := decide (leAt b 0x1C 4 = crc32 (b.take 0x1C)) && !touchesBad s.mem.mramBad (slotOff 0) 32
    let s := { s with grn := { s.grn with
        base := (if ok then leAt b 0x18 4 else 0), clears := freshNat s % 2 ^ 32 } }
    lifeBad 1 (writeControl (drawn s))

/-- Step 1: the count of this session (R400). -/
def startPower (last : Nat) (s : State) : State :=
  let s := probeSlots 0x200 s
  match bestSlot s 0x200 with
  | some b =>
    let s := { s with grn := { s.grn with power := (leAt b 0 8 + 1) % 2 ^ 64 } }
    writeSlot 0x200 (le 8 s.grn.power) s
  | none =>
    let blk := match quenchBlock s with
      | some b => leAt b 0 8
      | none => 0
    let s := { s with grn := { s.grn with power := (Nat.max blk last + 1) % 2 ^ 64 } }
    lifeBad 2 (writeSlot 0x200 (le 8 s.grn.power) s)

/-- SEC_BOOT_INFO (02). -/
def bootInfo (s : State) : Nat :=
  (if s.sec.copyB then 1 else 0) + (if s.sec.fallback then 2 else 0) + (if s.sec.trial then 4 else 0)

/-- GRANARY_START (R400): power-cycle count, control block, scan, and 0x2F01 outside recovery. -/
def opGranaryStart (s : State) : State :=
  if s.mod.mode = .boot ∧ !s.grn.ready ∧ (s.img.loaded ∨ s.sec.recovery) then
    let c := startControl s
    let held := scanRing c c.grn.base 0 65536
    let last := if held = 0 then 0 else leAt (c.mem.mramGet (slotOff (held - 1)) 32) 4 4
    let s := startControl (startPower last s)
    let s := if held < 65536 then mramProbe (slotOff held) 32 s else s
    let p := s.grn.power % 2 ^ 32
    let s := { s with grn := { s.grn with
        next := (s.grn.base + held) % 2 ^ 32, full := decide (65536 ≤ held), ready := true,
        queue := s.grn.queue.map (fun (r : Rec) => { r with power := p }) } }
    if s.sec.recovery then s
    else
      let s := event 0x2F01 (bootInfo s) (if s.thr.quick then 1 else 0)
        (if bitOf s.rch.lastQuench 31 then s.rch.lastQuenchEv else 0) s
      { s with mod := { s.mod with mode := .selftest } }
  else s

/-! ## Clearing (R402) -/

/-- CLEAR_RECORDS at Granary: the queue is written, then the history entry, the control block, and 0x2F10. -/
def grnClear (auth : Word) (s : State) : State :=
  let s := flushQueue false s
  let n := (s.grn.clears + 1) % 2 ^ 32
  let cleared := ringHeld s
  let e := le 4 n ++ le 4 auth.toNat ++ le 4 (s.grn.power % 2 ^ 32) ++ le 4 (s.aon.secs % 2 ^ 32) ++ le 4 s.grn.base ++
    le 4 s.grn.next ++ le 4 s.grn.lost
  let s := mramWrite (0x240400 + 32 * (n % 16)) (e ++ le 4 (crc32 e)) s
  let s := writeControl { s with grn := { s.grn with base := s.grn.next, clears := n } }
  event 0x2F10 (n % 65536) (w32 cleared) auth { s with grn := { s.grn with lost := 0, full := false } }

/-! ## The other commands -/

/-- EVENT_RAISE: an event of the block that names it; a corrected Awn error also sets its sticky bit (R391 to R398, R131). -/
def opEventRaise (code detail : Nat) (d0 d1 : Word) (s : State) : State :=
  let s := if code = 0x2107 then
      errAwn 6 (place d1.toNat 31 16 ||| place 6 11 8 ||| place detail 5 4) s
    else s
  if !codeListed code then s
  else if rateLimited code then eventRate code (rateIndex code detail) detail d1 s else event code detail d0 d1 s

/-- The end of a rate interval: a count above 0 is recorded and opens a new interval; else it closes. A count held when a
quench begins waits for the last-quench block (R396). -/
def opRateIntervalEnd (code idx : Nat) (s : State) : State :=
  match s.grn.rates.find? (fun c => c.code = code ∧ c.idx = idx) with
  | none => s
  | some c =>
    if !due (some c.since) 1000000000 s.clk.now ∨ s.sup.quenchSince.isSome then s
    else
      let rest := s.grn.rates.filter (fun c => !(c.code = code ∧ c.idx = idx))
      if c.count = 0 then { s with grn := { s.grn with rates := rest } }
      else
        let s := enqueue (stamped s code c.detail 1 (w32 c.count) c.d1) s
        { s with grn := { s.grn with rates := rest ++ [⟨code, idx, s.clk.now, 0, c.detail, c.d1⟩] } }

/-- RECORD_WRITTEN: the oldest waiting record is written (R395). -/
def opRecordWritten (s : State) : State := if s.grn.ready then writeFront false s else s

/-- LIFE_WRITE_TICK (R403). -/
def opLifeWriteTick (s : State) : State := if s.grn.ready then lifeFlush s else s

/-- Bin of TMAX, in quarter degrees (R404). -/
def tempBin (t : Int) : Nat := if t < -120 then 0 else Nat.min 15 ((t + 120).toNat / 40 + 1)
/-- Bin of the input voltage, in 10 mV (R404). -/
def vinBin (v : Nat) : Nat := if v < 2000 then 0 else Nat.min 15 ((v - 2000) / 1000 + 1)
/-- Bin of a job's slack in ns; none: missed (R404). -/
def slackBin (x : Option Nat) : Nat :=
  match x with
  | none => 0
  | some n => if n < 2000 then 1 else Nat.min 15 (Nat.log2 (n / 1000) + 1)

/-- One job counted in the slack histogram of class `c` (R404). -/
def slackCount (c : Nat) (x : Option Nat) (s : State) : State :=
  if c < 3 then lifeAdd (0x241000 + 0x80 * c + 8 * slackBin x) 1 s else s

/-- OPERATING_SECOND: the temperature and input-voltage histograms count, while the die runs (R404). -/
def opOperatingSecond (s : State) : State :=
  if s.mod.mode.released then
    lifeAdd (0x241180 + 8 * tempBin s.sch.tmax) 1 (lifeAdd (0x241200 + 8 * vinBin s.sup.vin) 1 s)
  else s

/-- HOURS_COPY (R180). -/
def opHoursCopy (s : State) : State := if s.mod.mode.released then hoursCopyWhole s else s

/-! ## Registers -/

/-- Reads of the GRN window but for the quartet. -/
def grnRead (s : State) (o : Nat) : Word :=
  match o with
  | 0x00 => placeB s.grn.full 1 ||| placeB s.grn.ready 0
  | 0x20 => w32 s.grn.base
  | 0x24 => w32 s.grn.next
  | 0x28 => w32 s.grn.lost
  | 0x2C => w32 s.grn.dropped
  | 0x30 => w32 s.grn.clears
  | 0x38 => w32 s.grn.power
  | 0x3C => w32 (s.grn.power / 2 ^ 32)
  | _ => 0

/-- A life counter exists at these low bits: those of a listed code, and the CAN1 positions (R391, R425). -/
def lifeCode (c : Nat) : Bool :=
  codeListed (0x2000 + c) || codeListed (0x3000 + c) ||
    (decide (c / 256 = 10) && decide (0x81 ≤ c % 256) && decide (c % 256 ≤ 0x87))

/-- MRAM offset of the count that an offset of the LIFE window shows (R403, R404, R425). -/
def lifeOffset (o : Nat) : Option Nat :=
  if 0x400 ≤ o ∧ o < 0x680 then some (0x241000 + (o - 0x400) / 8 * 8)
  else if 0x8000 ≤ o ∧ lifeCode ((o - 0x8000) / 8) then some (0x248000 + (o - 0x8000) / 8 * 8)
  else none

/-- Reads of the LIFE window (R403, R404, R425). -/
def lifeWindow (s : State) (o : Nat) : Word :=
  match lifeOffset o with
  | some off => if o % 8 = 0 then w32 (lifeRead s off) else w32 (lifeRead s off / 2 ^ 32)
  | none => 0

/-! ## Meanings -/

/-- GRANARY_START. -/
def execGranaryStart (s : State) : Host.Outcome State Fault Refusal := wfRun .granaryStart opGranaryStart s
/-- EVENT_RAISE. -/
def execEventRaise (code detail : Nat) (d0 d1 : Word) (s : State) : Host.Outcome State Fault Refusal :=
  wfRun (.eventRaise code detail d0 d1) (opEventRaise code detail d0 d1) s
/-- RATE_INTERVAL_END. -/
def execRateIntervalEnd (code idx : Nat) (s : State) : Host.Outcome State Fault Refusal :=
  wfRun (.rateIntervalEnd code idx) (opRateIntervalEnd code idx) s
/-- RECORD_WRITTEN. -/
def execRecordWritten (s : State) : Host.Outcome State Fault Refusal := wfRun .recordWritten opRecordWritten s
/-- LIFE_WRITE_TICK. -/
def execLifeWriteTick (s : State) : Host.Outcome State Fault Refusal := wfRun .lifeWriteTick opLifeWriteTick s
/-- OPERATING_SECOND. -/
def execOperatingSecond (s : State) : Host.Outcome State Fault Refusal := wfRun .operatingSecond opOperatingSecond s
/-- HOURS_COPY. -/
def execHoursCopy (s : State) : Host.Outcome State Fault Refusal := wfRun .hoursCopy opHoursCopy s

end Sys2Proof.Machine
end

