-- ==== Sys2Proof/Machine/Safe.lean ====
section
/-! DEFINITION. What several families share: interrupts to the triads (03 R82), leaving BRACE (08 R198), entry to SAFE (00
R4, 20 R412), halting cores and lanes, and the reset of the die (20 R412, R413). -/

namespace Sys2Proof.Machine

/-! ## Interrupts to triads (R82). Source numbers are the model's (log 35). -/

/-- Brace interrupt (R196). -/
def irqBrace : Nat := 0
/-- Shut-down interrupt (R415). -/
def irqShutdown : Nat := 1
/-- Dispatch interrupt (R161). -/
def irqDispatch : Nat := 2
/-- Store-error interrupt (R86). -/
def irqStoreError : Nat := 3

/-- The highest minstret of a triad's live cores: C (R81). -/
def highest (s : State) (t : Nat) : Nat :=
  ((s.tri t).livePos.map (fun p => (s.core ((s.tri t).coreAt p)).minstret)).foldl Nat.max 0

/-- Number of the newest window of a triad's live cores. -/
def newest (s : State) (t : Nat) : Nat :=
  ((s.tri t).livePos.map (fun p => (nth (s.tri t).lanes p {}).nextNum)).foldl Nat.max 0 - 1

/-- The triad votes and its cores run (R87, R91). -/
def Triad.voting (t : Triad) : Bool := decide (t.state = 1 ∨ t.state = 2) && !t.paused

/-- Sources of the blocks' error interrupts: 16 plus the block's window number (log 35). -/
def irqBlock (w : Nat) : Nat := 16 + w

/-- A source is given to a core, to take before its next instruction (R82, R95). -/
def giveIrq (n src : Nat) (s : State) : State :=
  emit (.irq n src) (modCore n (fun (c : Core) => { c with intr := c.intr ++ [src] }) s)

/-- An interrupt source becomes pending for triad `t` (R82): the voter delivers it at an instruction C (Triad.lean). In split
operation it goes to the cores of the positions `ps` directly (R95). While a triad is paused or hands over, the source stays
pending (R92, log 68). -/
def irqTriad (t : Nat) (ps : List Nat) (src : Nat) (s : State) : State :=
  let x := s.tri t
  if x.state = 4 then forAll ps (fun p s => giveIrq (x.coreAt p) src s) s
  else if 1 ≤ x.state ∧ x.state ≤ 5 then modTri t (fun (x : Triad) => { x with irqs := x.irqs ++ [src] }) s
  else s

/-- The interrupt goes to every core that runs. -/
def irqAll (src : Nat) (s : State) : State :=
  forAll (List.range 6) (fun t s => irqTriad t ((List.range 3).filter (fun p => (s.core ((s.tri t).coreAt p)).running)) src s) s

/-! ## BRACE and SAFE -/

/-- BRACE ends (R198): the flags are cleared, LAST_MS takes the duration, and 0x2C11 is recorded. -/
def braceEnd (s : State) : State :=
  match s.sup.braceSince with
  | none => s
  | some t =>
    let ms := Nat.min 0xFFFFFF ((s.clk.now - t) / 1000000)
    event 0x2C11 0 (w32 ms) (w32 s.sup.dips) { s with
      sup := { s.sup with brace := false, braceSince := none, dwellSince := none, lastMs := ms },
      sch := { s.sch with brace := false } }

/-- Entry to SAFE for the event `cause` (R4, R198, R342, R392): outputs de-energised, group switches open, queued Culm
work aborted and BPRST asserted, 0x3F02 recorded. A shut-down continues instead (R416); SAFE is entered once. -/
def enterSafe (cause : Nat) (s : State) : State :=
  if s.mod.mode.released ∧ s.mod.mode ≠ .safe ∧ s.mod.mode ≠ .shutdown then
    let s := { s with mod := { s.mod with mode := .safe, safeSeen := true } }
    event 0x3F02 cause 0 0 (culmSafe (fioOff (braceEnd s)))
  else s

/-! ## Halting -/

/-- A triad whose cores halt: nothing unreleased is kept (R89, R182). -/
def Triad.emptied (t : Triad) : Triad :=
  { t with
    lanes := [{}, {}, {}], lags := [], closeAt := [], irqs := [], openedAt := none, held := [], paused := false,
    voteNum := 0, relNum := 0, stampWin := 0, stamps := [] }

/-- Cores whose triad is `t` stop running. -/
def haltCores (t : Nat) (s : State) : State :=
  { s with trd := { s.trd with
      cores := s.trd.cores.map (fun (c : Core) =>
        if c.triad = t ∧ (c.role = 0 ∨ c.role = 1) then { c with running := false } else c) } }

/-- A timer is aborted (R125). -/
def timerAborted (t : AwnTimer) : AwnTimer := { t with run := false, q := false }

/-- The timers of one copy of the data aborted. -/
def dataAborted (d : AwnData) : AwnData := { d with timers := FMap.mapv d.timers {} timerAborted }

/-- Every timer whose RUN or Q is 1 is aborted, in the lanes and in both banks (R125). -/
def abortTimers (s : State) : State :=
  let n := FMap.count s.awn.bank.timers (fun t => t.run || t.q)
  { s with awn := { s.awn with
      lanes := s.awn.lanes.map (fun (l : AwnLane) => { l with d := dataAborted l.d }),
      bank := dataAborted s.awn.bank, otherBank := dataAborted s.awn.otherBank, aborted := n } }

/-- A scan that runs ends unpublished, and the engine is in state `st`; a disable that waited for the scan aborts the timers
(R124, R125). -/
def awnScanLost (st : Nat) (s : State) : State :=
  let s := { s with awn := { s.awn with state := st, laneSince := none, winner := none } }
  if s.awn.en then s else abortTimers s

/-- Every core halts (R182, R415). -/
def haltAll (s : State) : State :=
  let s := { s with
    trd := { s.trd with
      cores := s.trd.cores.map (fun (c : Core) => { c with running := false }),
      triads := s.trd.triads.map (fun (t : Triad) => if t.state = 0 then t else { t.emptied with state := 6, haltedAt := none }) } }
  if s.awn.state = 2 ∨ s.awn.state = 3 then awnScanLost 1 s else s

/-! ## Reset of the die -/

/-- Every reset clears the die and keeps what R413 lists; the supervisor goes on watching (R187, R192, R201: its timers and
open episodes run on), and reads the coding pins anew in SUPERVISED (R188). -/
def dieReset (cause : Nat) (quenched : Bool) (hold : Option Bool) (s : State) : State :=
  { State.reset with
    pending := s.pending,
    out := s.out,
    free := s.free,
    clk := { now := s.clk.now },
    mem := { mram := s.mem.mram, mramBad := s.mem.mramBad, norA := s.mem.norA, norB := s.mem.norB },
    fuse := s.fuse,
    area := s.area,
    aon := { secs := s.aon.secs, secNs := s.aon.secNs, rtc := s.aon.rtc, rtcSub := s.aon.rtcSub, rtcFrac := s.aon.rtcFrac,
             kept := true, whole := s.aon.whole, alive := s.aon.alive },
    sup := { vin := s.sup.vin, vbus := s.sup.vbus, lplus := s.sup.lplus, cap := s.sup.cap,
             coding := s.sup.coding, disc := s.sup.disc, discHigh := s.sup.discHigh, inputOk := s.sup.inputOk,
             warnLvl := s.sup.warnLvl, fluctSince := s.sup.fluctSince, surgeSince := s.sup.surgeSince,
             reconnSince := s.sup.reconnSince, winSince := s.sup.winSince, winRaised := s.sup.winRaised,
             lplusBad := s.sup.lplusBad, lplusRaised := s.sup.lplusRaised, cellBad := s.sup.cellBad,
             episodes := s.sup.episodes, railBad := s.sup.railBad, railSince := s.sup.railSince,
             cause := place cause 2 0 ||| placeB quenched 8, startTime := s.sup.startTime },
    mod := { ready := s.mod.ready, sdreqAt := s.mod.sdreqAt, pinReq := hold.isSome && s.mod.pinReq, hold := hold } }

end Sys2Proof.Machine
end

