-- ==== Sys2Proof/Machine/AwnScan.lean ====
section
/-! DEFINITION. The Awn engine's scans (04): the trigger, closing lanes and the vote, publishing, the enable, the Rachis
window with its staged writes, loading and state transfer, and the engine's registers. -/

namespace Sys2Proof.Machine

/-- The loaded program. -/
def awnProg (s : State) : AwnProg := s.img.awn.getD AwnProg.none

/-- What a lane's steps see of the engine. -/
def awnEnv (s : State) : AwnEnv :=
  { prog := awnProg s, first := s.awn.first, degraded := s.awn.degradedScan, scan := s.awn.scan }

/-- Lane `l` of the engine. -/
def awnLane (s : State) (l : Nat) : AwnLane := nth s.awn.lanes l {}

/-- Lane `l` replaced. -/
def putLane (l : Nat) (x : AwnLane) (s : State) : State :=
  { s with awn := { s.awn with lanes := modAt s.awn.lanes l (fun _ => x) } }

/-- Lane `l` takes part. -/
def laneLive (s : State) (l : Nat) : Bool := nth s.awn.live l false

/-- The live lanes, in the order A, B, C. -/
def liveLanes (s : State) : List Nat := (List.range 3).filter (laneLive s)

/-- AWN_ERR_INFO without its flags. -/
def awnInfo (bit lane cause step : Nat) : Word :=
  place step 31 16 ||| place cause 15 12 ||| place bit 11 8 ||| place lane 5 4

/-! ## Data areas -/

/-- Write byte `o` of the Rachis window's staged areas I, M, W and K into a lane's data (R103, R104). -/
def stageByte (d : AwnData) (o : Nat) (b : Byte) : AwnData :=
  let inWord := fun (m : FMap Word) (k : Nat) =>
    FMap.upd m 0 (k / 4) (fun (w : Word) =>
      (w &&& ~~~(w32 (0xFF <<< (8 * (k % 4))))) ||| w32 (b.toNat <<< (8 * (k % 4))))
  if o < 0x400 then { d with i := FMap.store d.i 0 o b }
  else if 0x800 ≤ o ∧ o < 0xC00 then { d with m := FMap.store d.m 0 (o - 0x800) b }
  else if 0x1000 ≤ o ∧ o < 0x5000 then { d with w := inWord d.w (o - 0x1000) }
  else if 0x5000 ≤ o ∧ o < 0x6000 then { d with k := inWord d.k (o - 0x5000) }
  else d

/-- The staged bytes written into a lane's data. -/
def stageInto (l : FMap (Option Byte)) (d : AwnData) : AwnData :=
  match l with
  | [] => d
  | (o, some b) :: t => stageInto t (stageByte d o b)
  | (_, none) :: t => stageInto t d

/-- An offset of the Rachis window lies in a staged area (R103). -/
def awnStageable (o : Nat) : Bool :=
  decide (o < 0x400 ∨ (0x800 ≤ o ∧ o < 0xC00) ∨ (0x1000 ≤ o ∧ o < 0x6000))

/-- An offset of the Rachis window is mapped (R103). -/
def awnMapped (o : Nat) : Bool := decide (o < 0xE00 ∨ (0x1000 ≤ o ∧ o < 0x9000))

/-- Bytes staged at offset `o` (R104). -/
def awnShadow (o : Nat) (bs : List Byte) (s : State) : State :=
  { s with awn := { s.awn with staged := FMap.storeList s.awn.staged none o (bs.map some) } }

/-- Bytes staged at offset `o` otherwise than by an input force (R104, 05 R147). -/
def awnStage (o : Nat) (bs : List Byte) (s : State) : State :=
  let s := awnShadow o bs s
  if o < 0x400 then { s with awn := { s.awn with plainI := FMap.storeList s.awn.plainI 0 o bs } } else s

/-- TS word of a timer (R117). -/
def tsWord (p : AwnProg) (d : AwnData) (n : Nat) : Word :=
  let t := FMap.look d.timers {} n
  placeB t.q 31 ||| placeB t.run 30 ||| placeB t.inp 29 ||| place (timerValue d (awnObj p.timers n) t) 28 0

/-- Byte `k` of a word. -/
def byteOf (w : Word) (k : Nat) : Byte := BitVec.ofNat 8 (w.toNat >>> (8 * k))

/-- The first live lane's data: what the lanes hold (R103). -/
def lanesData (s : State) : AwnData :=
  match liveLanes s with
  | l :: _ => (awnLane s l).d
  | [] => (awnLane s 0).d

/-- Byte `o` of the Rachis window as read (R103). -/
def awnReadByte (s : State) (o : Nat) : Byte :=
  let d := s.awn.bank
  if o < 0x400 then FMap.look d.i 0 o
  else if o < 0x800 then FMap.look d.q 0 (o - 0x400)
  else if o < 0xC00 then FMap.look d.m 0 (o - 0x800)
  else if o < 0xE00 then
    BitVec.ofNat 8 (maskOf ((List.range 8).map (fun k => FMap.look d.edges false (8 * (o - 0xC00) + k))))
  else if o < 0x5000 then byteOf (FMap.look d.w 0 ((o - 0x1000) / 4)) (o % 4)
  else if o < 0x6000 then byteOf (FMap.look (lanesData s).k 0 ((o - 0x5000) / 4)) (o % 4)
  else if o < 0x8000 then byteOf (tsWord (awnProg s) d ((o - 0x6000) / 4)) (o % 4)
  else byteOf (FMap.look d.counters {} ((o - 0x8000) / 4)).cv (o % 4)

/-- Bytes of the Rachis window. -/
def awnRead (s : State) (o n : Nat) : List Byte := (List.range n).map (fun k => awnReadByte s (o + k))

/-! ## Trigger -/

/-- The start of a scan (R100 to R104, R109): SCAN_TIME, the staged set, accumulators 0, FIRST and DEGRADED. -/
def awnTrigger (s : State) : State :=
  if s.awn.en ∧ s.awn.loaded ∧ s.awn.state = 1 ∧ s.sup.quenchSince.isNone then
    let t : Dword := BitVec.ofNat 64 s.clk.tb
    let start := fun (l : AwnLane) => laneStart l.prog { stageInto s.awn.staged l.d with scanTime := t }
    let lanes := List.zipWith (fun (live : Bool) (l : AwnLane) => if live then start l else l) s.awn.live s.awn.lanes
    let mw := s.awn.staged.any (fun e => decide (0x400 ≤ e.1))
    { s with
      awn := { s.awn with
        lanes := lanes, staged := [], state := 2, first := s.awn.firstNext, firstNext := false,
        degradedScan := s.awn.degraded, laneSince := none, winner := none },
      pair := { s.pair with staged := mw, first := s.awn.firstNext } }
  else s

/-! ## Closing and the vote -/

/-- Pairs of closed lanes with equal signatures: the first of them. -/
def agreeing (s : State) (ls : List Nat) : Option Nat :=
  ls.find? (fun a => ls.any (fun b => decide (a ≠ b) && decide ((awnLane s a).sig = (awnLane s b).sig)))

/-- A lane is excluded at a vote (R124): MISMATCH where it closed, LATE where it is missing. -/
def excludeLane (l : Nat) (s : State) : State :=
  let s := { s with awn := { s.awn with live := modAt s.awn.live l (fun _ => false), degraded := true } }
  match (awnLane s l).cause with
  | some c => event 0x3101 l (w32 s.awn.scan) (w32 c) (errAwn 0 (awnInfo 0 l c 0) s)
  | none => event 0x3103 l (w32 s.awn.scan) 0 (errAwn 2 (awnInfo 2 l 0 0) s)

/-- No majority: nothing is published, HALTED, and the module enters SAFE (R124). -/
def awnNoMajority (s : State) : State :=
  let s := event 0x3102 3 (w32 s.awn.scan) 0 (errAwn 1 (awnInfo 1 3 0 0) s)
  enterSafe 0x3102 (awnScanLost 5 s)

/-- AWN_VOTE (R123). -/
def awnVote (s : State) : State :=
  let live := liveLanes s
  let closed := live.filter (fun l => (awnLane s l).cause.isSome)
  match agreeing s closed with
  | none => awnNoMajority s
  | some w =>
    let out := live.filter (fun l =>
      (awnLane s l).cause.isNone || decide ((awnLane s l).sig ≠ (awnLane s w).sig))
    if live.length < 3 ∧ out ≠ [] then awnNoMajority s
    else
      let s := forAll out excludeLane s
      { s with
        awn := { s.awn with state := 4, winner := some w, laneSince := none },
        pair := { s.pair with scanSig := (awnLane s w).sig, scanNum := s.awn.scan } }

/-- A lane has closed: the sticky error of its cause, then the lane timer or the vote (R122, R123, R131). -/
def laneClosed (l : Nat) (s : State) : State :=
  let x := awnLane s l
  let raise := fun (bit code c : Nat) (s : State) =>
    event code l (w32 s.awn.scan) (w32 x.pc) (errAwn bit (awnInfo bit l c x.pc) s)
  let s := match x.cause with
    | some 2 => raise 3 0x3104 2 s
    | some 3 => raise 5 0x3106 3 s
    | some 4 => raise 4 0x3105 4 s
    | _ => s
  let live := liveLanes s
  let closed := live.filter (fun l => (awnLane s l).cause.isSome)
  if closed.length = live.length then awnVote s
  else if closed.length + 1 = live.length ∧ s.awn.laneSince.isNone then
    { s with awn := { s.awn with laneSince := some s.clk.now } }
  else s

/-- One step of lane `l`: it acts on a lane that executes (log 20). -/
def awnStep (l : Nat) (f : AwnEnv → AwnLane → AwnLane) (s : State) : State :=
  if s.awn.state = 2 ∧ laneLive s l ∧ (awnLane s l).cause.isNone then
    let x := f (awnEnv s) (awnLane s l)
    let s := putLane l x s
    if x.cause.isSome then laneClosed l s else s
  else s

/-- AWN_ILLEGAL_STEP (R122): an undefined step closes the lane with ILLEGAL, an uncorrectable word with ECC. -/
def opAwnIllegalStep (l : Nat) (ecc : Bool) (s : State) : State :=
  awnStep l (fun e x => laneClose e (if ecc then 3 else 4) x) s

/-- LANE_TIMEOUT (R123). -/
def opLaneTimeout (s : State) : State :=
  if s.awn.state = 2 ∧ due s.awn.laneSince 400 s.clk.now then awnVote s else s

/-! ## Publish and disable -/

/-- Publishing (R106): the winner's data into the inactive bank, the banks swapped; a disable that waited for the scan
aborts the timers (R125). -/
def awnPublishCore (s : State) : State :=
  match s.awn.winner with
  | none => s
  | some w =>
    let l := awnLane s w
    let s := { s with awn := { s.awn with
        otherBank := s.awn.bank, bank := l.d, scan := (s.awn.scan + 1) % 2 ^ 64, state := 1, winner := none,
        lastSteps := l.steps, hwSteps := Nat.max s.awn.hwSteps l.steps } }
    if s.awn.en then s else abortTimers s

/-- A scan runs: triggered and not yet published. -/
def scanRuns (s : State) : Bool := decide (2 ≤ s.awn.state ∧ s.awn.state ≤ 4)

/-- The enable field written (R125, R38): a rise arms FIRST; a fall drains the scan, or aborts the timers at once. -/
def awnSetEn (v : Bool) (s : State) : State :=
  let en := enableAfter s.awn.en s.awn.active v
  let rose := en && !s.awn.en
  let fell := !en && s.awn.en
  let s := { s with awn := { s.awn with
      en := en, active := s.awn.active || en, firstNext := s.awn.firstNext || rose } }
  if fell && !scanRuns s then abortTimers s else s

/-- AWN_ENABLE_WRITE: the cycle controller's write of AWN_CTRL; any other initiator's has no effect. -/
def opAwnEnableWrite (init : Nat) (v : Word) (s : State) : State := if init = cycId then awnSetEn (bitOf v 0) s else s

/-- The engine is drained (R125). -/
def awnDrained (s : State) : Bool := !s.awn.en && s.awn.active && !scanRuns s

/-! ## Load and transfer -/

/-- Initial state of the used counters of a program, from number `n`. -/
def initCounters (n : Nat) (l : List AwnObj) (m : FMap AwnCounter) : FMap AwnCounter :=
  match l with
  | [] => m
  | o :: t => initCounters (n + 1) t (FMap.store m {} n { cv := if o.tag = 0 then 0 else o.init })

/-- Initial state of the used edge detectors. -/
def initEdges (n : Nat) (l : List AwnObj) (m : FMap Bool) : FMap Bool :=
  match l with
  | [] => m
  | o :: t => initEdges (n + 1) t (FMap.store m false n (bitOf o.init 0))

/-- A word of the initial-value table written. -/
def initWord (e : AwnInit) (d : AwnData) : AwnData :=
  if e.area = 2 then { d with m := areaSetWord d.m e.index e.value }
  else { d with w := FMap.store d.w 0 e.index e.value }

/-- The initial-value table written, all of it or the INIT_ON_EXCHANGE entries. -/
def initWords (all : Bool) (l : List AwnInit) (d : AwnData) : AwnData :=
  match l with
  | [] => d
  | e :: t => initWords all t (if all || e.onExchange then initWord e d else d)

/-- The data a load gives (R129). -/
def awnInitData (p : AwnProg) : AwnData :=
  initWords true p.inits
    { k := FMap.storeList [] 0 0 p.konst, counters := initCounters 0 p.counters [], edges := initEdges 0 p.edges [] }

/-- The engine takes program data into all lanes and both banks. -/
def awnFill (d : AwnData) (s : State) : State :=
  { s with awn := { s.awn with
      lanes := s.awn.lanes.map (fun (l : AwnLane) => { l with d := d }), bank := d, otherBank := d, plainI := d.i } }

/-- The engine after a load of its section: every lane takes its copy of the program (R99, R129). -/
def awnLoad (p : AwnProg) (s : State) : State :=
  let s := awnFill (awnInitData p) s
  { s with awn := { s.awn with
      loaded := true, state := 1, live := [true, true, true],
      lanes := s.awn.lanes.map (fun (l : AwnLane) => { l with prog := p.steps }) } }

/-- Number of the object of `old` with the tag, and the kind where one is asked. -/
def findObj (old : List AwnObj) (o : AwnObj) (kind : Bool) (n : Nat) : Option Nat :=
  match old with
  | [] => none
  | x :: t => if x.tag = o.tag ∧ x.tag ≠ 0 ∧ (!kind ∨ x.kind = o.kind) then some n else findObj t o kind (n + 1)

/-- Move the objects of one table (R130): the new table's state, and how many moved. -/
def moveObjs {α : Type} [DecidableEq α] (old : List AwnObj) (st : FMap α) (d : α) (kind : Bool) (new : List AwnObj)
    (n moved : Nat) (acc : FMap α) : FMap α × Nat :=
  match new with
  | [] => (acc, moved)
  | o :: t =>
    if o.tag = 0 then moveObjs old st d kind t (n + 1) moved acc
    else
      match findObj old o kind 0 with
      | some k => moveObjs old st d kind t (n + 1) (moved + 1) (FMap.store acc d n (FMap.look st d k))
      | none => moveObjs old st d kind t (n + 1) moved acc

/-- Used objects of a table. -/
def usedObjs (l : List AwnObj) : Nat := (l.filter (fun o => o.tag ≠ 0)).length

/-- AWN_STATE_TRANSFER (R130): the state of `old`, in program `po`, moves to the loaded program by identity tag. I and Q, of
which R130 says nothing, hold what the old program left in them (log 182, DESIGN CHOICE). -/
def awnTransfer (po : AwnProg) (old : AwnData) (s : State) : State :=
  let p := awnProg s
  let init := awnInitData p
  let t := moveObjs po.timers old.timers {} true p.timers 0 0 []
  let c := moveObjs po.counters old.counters {} false p.counters 0 0 init.counters
  let e := moveObjs po.edges old.edges false true p.edges 0 0 init.edges
  let d := initWords false p.inits
    { init with timers := t.1, counters := c.1, edges := e.1, m := old.m, w := old.w, q := old.q, i := old.i,
                scanTime := old.scanTime }
  let moved := t.2 + c.2 + e.2
  let used := usedObjs p.timers + usedObjs p.counters + usedObjs p.edges
  let was := usedObjs po.timers + usedObjs po.counters + usedObjs po.edges
  let s := awnFill d s
  { s with awn := { s.awn with moved := moved, newObjs := used - moved, dropped := was - moved } }

/-! ## Registers -/

/-- Reads of the AWN window but for the quartet. -/
def awnReg (s : State) (o : Nat) : Word :=
  match o with
  | 0x00 => placeB s.awn.active 1 ||| placeB s.awn.en 0
  | 0x04 =>
    placeB s.awn.loaded 9 ||| placeB s.awn.degraded 8 ||| place s.awn.state 6 4 ||| place (maskOf s.awn.live) 2 0
  | 0x08 => w32 s.awn.scan
  | 0x0C => w32 (s.awn.scan / 2 ^ 32)
  | 0x20 => place (awnProg s).steps.length 16 0
  | 0x24 => place (awnProg s).wcet 16 0
  | 0x28 => w32 (awnProg s).id
  | 0x2C => w32 ((awnProg s).id / 2 ^ 32)
  | 0x30 => place s.awn.lastSteps 16 0
  | 0x34 => place s.awn.hwSteps 16 0
  | 0x38 => place s.awn.aborted 11 0
  | 0x40 => place s.awn.moved 12 0
  | 0x44 => place s.awn.newObjs 12 0
  | 0x48 => place s.awn.dropped 12 0
  | _ => 0

/-! ## Meanings -/

/-- LD in one lane (R111). -/
def execAwnLd (lane : Nat) (x : BOp) (s : State) : Host.Outcome State Fault Refusal :=
  wfRun (.awnLd lane x) (awnStep lane (fun e l => laneLd e x l)) s
/-- AND in one lane (R111). -/
def execAwnAnd (lane : Nat) (x : BOp) (s : State) : Host.Outcome State Fault Refusal :=
  wfRun (.awnAnd lane x) (awnStep lane (fun e l => laneAnd e x l)) s
/-- OR in one lane (R111). -/
def execAwnOr (lane : Nat) (x : BOp) (s : State) : Host.Outcome State Fault Refusal :=
  wfRun (.awnOr lane x) (awnStep lane (fun e l => laneOr e x l)) s
/-- XOR in one lane (R111). -/
def execAwnXor (lane : Nat) (x : BOp) (s : State) : Host.Outcome State Fault Refusal :=
  wfRun (.awnXor lane x) (awnStep lane (fun e l => laneXor e x l)) s
/-- ST in one lane (R111). -/
def execAwnSt (lane : Nat) (x : BOp) (s : State) : Host.Outcome State Fault Refusal :=
  wfRun (.awnSt lane x) (awnStep lane (fun e l => laneSt e x l)) s
/-- SET in one lane (R111). -/
def execAwnSet (lane : Nat) (x : BOp) (s : State) : Host.Outcome State Fault Refusal :=
  wfRun (.awnSet lane x) (awnStep lane (fun e l => laneSet e x l)) s
/-- RST in one lane (R111). -/
def execAwnRst (lane : Nat) (x : BOp) (s : State) : Host.Outcome State Fault Refusal :=
  wfRun (.awnRst lane x) (awnStep lane (fun e l => laneRst e x l)) s
/-- NOT in one lane (R111). -/
def execAwnNot (lane : Nat) (s : State) : Host.Outcome State Fault Refusal :=
  wfRun (.awnNot lane) (awnStep lane (fun _ l => laneNot l)) s
/-- PSH in one lane (R111). -/
def execAwnPsh (lane : Nat) (s : State) : Host.Outcome State Fault Refusal :=
  wfRun (.awnPsh lane) (awnStep lane lanePsh) s
/-- POP in one lane (R111). -/
def execAwnPop (lane : Nat) (s : State) : Host.Outcome State Fault Refusal :=
  wfRun (.awnPop lane) (awnStep lane lanePop) s
/-- RDS in one lane (R111). -/
def execAwnRds (lane : Nat) (s : State) : Host.Outcome State Fault Refusal :=
  wfRun (.awnRds lane) (awnStep lane laneRds) s
/-- POPA in one lane (R111). -/
def execAwnPopa (lane : Nat) (s : State) : Host.Outcome State Fault Refusal :=
  wfRun (.awnPopa lane) (awnStep lane lanePopa) s
/-- POPO in one lane (R111). -/
def execAwnPopo (lane : Nat) (s : State) : Host.Outcome State Fault Refusal :=
  wfRun (.awnPopo lane) (awnStep lane lanePopo) s
/-- POPX in one lane (R111). -/
def execAwnPopx (lane : Nat) (s : State) : Host.Outcome State Fault Refusal :=
  wfRun (.awnPopx lane) (awnStep lane lanePopx) s
/-- TIM in one lane (R111). -/
def execAwnTim (lane : Nat) (n : Nat) (s : State) : Host.Outcome State Fault Refusal :=
  wfRun (.awnTim lane n) (awnStep lane (fun e l => laneTim e n l)) s
/-- TRS in one lane (R111). -/
def execAwnTrs (lane : Nat) (n : Nat) (s : State) : Host.Outcome State Fault Refusal :=
  wfRun (.awnTrs lane n) (awnStep lane (fun _ l => laneTrs n l)) s
/-- CTU in one lane (R111). -/
def execAwnCtu (lane : Nat) (n : Nat) (s : State) : Host.Outcome State Fault Refusal :=
  wfRun (.awnCtu lane n) (awnStep lane (fun e l => laneCtu e n l)) s
/-- CTD in one lane (R111). -/
def execAwnCtd (lane : Nat) (n : Nat) (s : State) : Host.Outcome State Fault Refusal :=
  wfRun (.awnCtd lane n) (awnStep lane (fun e l => laneCtd e n l)) s
/-- CRS in one lane (R111). -/
def execAwnCrs (lane : Nat) (n : Nat) (s : State) : Host.Outcome State Fault Refusal :=
  wfRun (.awnCrs lane n) (awnStep lane (fun e l => laneCrs e n l)) s
/-- CLD in one lane (R111). -/
def execAwnCld (lane : Nat) (n : Nat) (s : State) : Host.Outcome State Fault Refusal :=
  wfRun (.awnCld lane n) (awnStep lane (fun _ l => laneCld n l)) s
/-- EDG in one lane (R111). -/
def execAwnEdg (lane : Nat) (n : Nat) (s : State) : Host.Outcome State Fault Refusal :=
  wfRun (.awnEdg lane n) (awnStep lane (fun e l => laneEdg e n l)) s
/-- LW in one lane (R111). -/
def execAwnLw (lane : Nat) (x : WOp) (s : State) : Host.Outcome State Fault Refusal :=
  wfRun (.awnLw lane x) (awnStep lane (fun e l => laneLw e x l)) s
/-- SW in one lane (R111). -/
def execAwnSw (lane : Nat) (x : WOp) (s : State) : Host.Outcome State Fault Refusal :=
  wfRun (.awnSw lane x) (awnStep lane (fun e l => laneSw e x l)) s
/-- ADD in one lane (R111). -/
def execAwnAdd (lane : Nat) (x : WOp) (s : State) : Host.Outcome State Fault Refusal :=
  wfRun (.awnAdd lane x) (awnStep lane (fun e l => laneAdd e x l)) s
/-- SUB in one lane (R111). -/
def execAwnSub (lane : Nat) (x : WOp) (s : State) : Host.Outcome State Fault Refusal :=
  wfRun (.awnSub lane x) (awnStep lane (fun e l => laneSub e x l)) s
/-- MUL in one lane (R111). -/
def execAwnMul (lane : Nat) (x : WOp) (s : State) : Host.Outcome State Fault Refusal :=
  wfRun (.awnMul lane x) (awnStep lane (fun e l => laneMul e x l)) s
/-- ANDW in one lane (R111). -/
def execAwnAndw (lane : Nat) (x : WOp) (s : State) : Host.Outcome State Fault Refusal :=
  wfRun (.awnAndw lane x) (awnStep lane (fun e l => laneAndw e x l)) s
/-- ORW in one lane (R111). -/
def execAwnOrw (lane : Nat) (x : WOp) (s : State) : Host.Outcome State Fault Refusal :=
  wfRun (.awnOrw lane x) (awnStep lane (fun e l => laneOrw e x l)) s
/-- XORW in one lane (R111). -/
def execAwnXorw (lane : Nat) (x : WOp) (s : State) : Host.Outcome State Fault Refusal :=
  wfRun (.awnXorw lane x) (awnStep lane (fun e l => laneXorw e x l)) s
/-- MIN in one lane (R111). -/
def execAwnMin (lane : Nat) (x : WOp) (s : State) : Host.Outcome State Fault Refusal :=
  wfRun (.awnMin lane x) (awnStep lane (fun e l => laneMin e x l)) s
/-- MAX in one lane (R111). -/
def execAwnMax (lane : Nat) (x : WOp) (s : State) : Host.Outcome State Fault Refusal :=
  wfRun (.awnMax lane x) (awnStep lane (fun e l => laneMax e x l)) s
/-- SEL in one lane (R111). -/
def execAwnSel (lane : Nat) (x : WOp) (s : State) : Host.Outcome State Fault Refusal :=
  wfRun (.awnSel lane x) (awnStep lane (fun e l => laneSel e x l)) s
/-- CEQ in one lane (R111). -/
def execAwnCeq (lane : Nat) (x : WOp) (s : State) : Host.Outcome State Fault Refusal :=
  wfRun (.awnCeq lane x) (awnStep lane (fun e l => laneCeq e x l)) s
/-- CNE in one lane (R111). -/
def execAwnCne (lane : Nat) (x : WOp) (s : State) : Host.Outcome State Fault Refusal :=
  wfRun (.awnCne lane x) (awnStep lane (fun e l => laneCne e x l)) s
/-- CLT in one lane (R111). -/
def execAwnClt (lane : Nat) (x : WOp) (s : State) : Host.Outcome State Fault Refusal :=
  wfRun (.awnClt lane x) (awnStep lane (fun e l => laneClt e x l)) s
/-- CLE in one lane (R111). -/
def execAwnCle (lane : Nat) (x : WOp) (s : State) : Host.Outcome State Fault Refusal :=
  wfRun (.awnCle lane x) (awnStep lane (fun e l => laneCle e x l)) s
/-- CGT in one lane (R111). -/
def execAwnCgt (lane : Nat) (x : WOp) (s : State) : Host.Outcome State Fault Refusal :=
  wfRun (.awnCgt lane x) (awnStep lane (fun e l => laneCgt e x l)) s
/-- CGE in one lane (R111). -/
def execAwnCge (lane : Nat) (x : WOp) (s : State) : Host.Outcome State Fault Refusal :=
  wfRun (.awnCge lane x) (awnStep lane (fun e l => laneCge e x l)) s
/-- SHL in one lane (R111). -/
def execAwnShl (lane : Nat) (sh : Nat) (s : State) : Host.Outcome State Fault Refusal :=
  wfRun (.awnShl lane sh) (awnStep lane (fun _ l => laneShl sh l)) s
/-- SHR in one lane (R111). -/
def execAwnShr (lane : Nat) (sh : Nat) (s : State) : Host.Outcome State Fault Refusal :=
  wfRun (.awnShr lane sh) (awnStep lane (fun _ l => laneShr sh l)) s
/-- ASR in one lane (R111). -/
def execAwnAsr (lane : Nat) (sh : Nat) (s : State) : Host.Outcome State Fault Refusal :=
  wfRun (.awnAsr lane sh) (awnStep lane (fun _ l => laneAsr sh l)) s
/-- NEGW in one lane (R111). -/
def execAwnNegw (lane : Nat) (s : State) : Host.Outcome State Fault Refusal :=
  wfRun (.awnNegw lane) (awnStep lane (fun _ l => laneNegw l)) s
/-- ABS in one lane (R111). -/
def execAwnAbs (lane : Nat) (s : State) : Host.Outcome State Fault Refusal :=
  wfRun (.awnAbs lane) (awnStep lane (fun _ l => laneAbs l)) s
/-- LDL in one lane (R111). -/
def execAwnLdl (lane : Nat) (lit : Word) (s : State) : Host.Outcome State Fault Refusal :=
  wfRun (.awnLdl lane lit) (awnStep lane (fun _ l => laneLdl lit l)) s
/-- JMP in one lane (R111). -/
def execAwnJmp (lane : Nat) (target : Nat) (s : State) : Host.Outcome State Fault Refusal :=
  wfRun (.awnJmp lane target) (awnStep lane (fun _ l => laneJmp target l)) s
/-- JC in one lane (R111). -/
def execAwnJc (lane : Nat) (target : Nat) (s : State) : Host.Outcome State Fault Refusal :=
  wfRun (.awnJc lane target) (awnStep lane (fun _ l => laneJc target l)) s
/-- JNC in one lane (R111). -/
def execAwnJnc (lane : Nat) (target : Nat) (s : State) : Host.Outcome State Fault Refusal :=
  wfRun (.awnJnc lane target) (awnStep lane (fun _ l => laneJnc target l)) s
/-- NOP in one lane (R111). -/
def execAwnNop (lane : Nat) (s : State) : Host.Outcome State Fault Refusal :=
  wfRun (.awnNop lane) (awnStep lane (fun _ l => laneNop l)) s
/-- END in one lane (R111). -/
def execAwnEnd (lane : Nat) (s : State) : Host.Outcome State Fault Refusal :=
  wfRun (.awnEnd lane) (awnStep lane laneEnd) s
/-- AWN_ILLEGAL_STEP. -/
def execAwnIllegalStep (lane : Nat) (ecc : Bool) (s : State) : Host.Outcome State Fault Refusal :=
  wfRun (.awnIllegalStep lane ecc) (opAwnIllegalStep lane ecc) s
/-- AWN_ENABLE_WRITE. -/
def execAwnEnableWrite (init : Nat) (v : Word) (s : State) : Host.Outcome State Fault Refusal :=
  wfRun (.awnEnableWrite init v) (opAwnEnableWrite init v) s
/-- LANE_TIMEOUT. -/
def execLaneTimeout (s : State) : Host.Outcome State Fault Refusal := wfRun .laneTimeout opLaneTimeout s

end Sys2Proof.Machine
end

