-- ==== Sys2Proof/Machine/Glume.lean ====
section
/-! DEFINITION. The Glume offload (13): connections and their receive state machine, judging and building messages, the
mailboxes, and the GLM registers. A message's operand index names its carrier: the writer's kernel address, the hub port,
or 128 n + k for object k of CAN controller n. -/

namespace Sys2Proof.Machine

/-- Entry of connection `c`; an unused one where the image has none. -/
def connEnt (s : State) (c : Nat) : ConnEnt :=
  nth s.img.conns c ⟨false, 0, 0, false, false, [], 0, 0, 0, 0, 0, 0, 0, 0⟩

/-- Connection `c`. -/
def connAt (s : State) (c : Nat) : Conn := FMap.look s.glm.conns {} c

/-- Connection `c` changed. -/
def modConn (c : Nat) (f : Conn → Conn) (s : State) : State :=
  { s with glm := { s.glm with conns := FMap.upd s.glm.conns {} c f } }

/-- The numbers of the image's connections. -/
def connNums (s : State) : List Nat := List.range s.img.conns.length

/-- CYC_STN_CFG, CYC_STN_IN and CYC_STN_OUT of station `k` (05). -/
def stnReg (s : State) (k j : Nat) : Word := lkAt s 2 (0x1000 + 0x10 * k + 4 * j)

/-- Station `k` is in use. -/
def stnUsed (s : State) (k : Nat) : Bool := bitOf (stnReg s k 0) 31
/-- Its connection. -/
def stnConn (s : State) (k : Nat) : Nat := fieldOf (stnReg s k 0) 24 16

/-- The station bound to connection `c` (R300). -/
def stationOf (s : State) (c : Nat) : Option Nat :=
  (List.range 128).find? (fun k => stnUsed s k && decide (stnConn s k = c))

/-- Station `k`. -/
def stnAt (s : State) (k : Nat) : Stn := FMap.look s.cyc.stn {} k

/-- Station `k` changed. -/
def modStn (k : Nat) (f : Stn → Stn) (s : State) : State :=
  { s with cyc := { s.cyc with stn := FMap.upd s.cyc.stn {} k f } }

/-! ## Leaving and entering data exchange -/

/-- GLM_ERR_INFO without its flags. -/
def glmInfo (bit c : Nat) : Word := place c 24 16 ||| place bit 7 4

/-- An error limited to one record per connection and second (R302). -/
def raiseGlmRate (bit code c : Nat) (s : State) : State := eventRate code c c 0 (errGlm bit (glmInfo bit c) s)

/-- The station of a connection that leaves DATA becomes LOST: a loss episode begins, but not in the start-up state nor in
an episode that runs (05 R141). -/
def stationLost (c : Nat) (s : State) : State :=
  match stationOf s c with
  | none => s
  | some k =>
    modStn k (fun (x : Stn) =>
      if x.startUp || x.episode then x else { x with episode := true, aged := false, disc := false }) s

/-- A connection enters state `dest` (WAIT or CLOSED); entering WAIT clears L (R293); LOST is raised where it leaves DATA, for
`cause` (R294). -/
def connLeave (c dest cause : Nat) (s : State) : State :=
  let x := connAt s c
  let s := modConn c (fun (x : Conn) => { x with
      state := dest, confirmed := 0, last := if dest = 1 then none else x.last, runCheck := 0, fresh := false,
      nLost := if x.state = 3 then satInc 255 x.nLost else x.nLost }) s
  if x.state = 3 then stationLost c (event 0x3806 c (w32 cause) 0 (errGlm 5 (glmInfo 5 c) s)) else s

/-- TRANSPORT_LOST (R295): every connection in DATA of which `p` holds leaves it at once. -/
def transportLost (p : ConnEnt → Bool) (s : State) : State :=
  forAll (connNums s) (fun c s =>
    if (connAt s c).state = 3 && p (connEnt s c) then connLeave c 1 3 s else s) s

/-- The kernel transport is lost: not SYNCED, or no map (R295). -/
def kernelLost (s : State) : State := transportLost (fun e => decide (e.transport = 1)) s

/-- The map in force holds no address of a peer's vehicle (R295). -/
def kernelRemapped (s : State) : State :=
  transportLost (fun e => decide (e.transport = 1) && !s.fab.map.any (fun m => decide (m.vehicleId = e.peer))) s

/-- The hub transport of a port is lost (R295). -/
def hubLost (port : Nat) (s : State) : State := transportLost (fun e => decide (e.transport = 2 ∧ e.peer = port)) s

/-- Controller and receive object of a CAN connection (R299). -/
def peerCan (peer : Nat) : Nat × Nat := (peer / 2 ^ 23 % 2, peer % 128)
/-- Transmit object of a CAN connection (R299). -/
def peerTx (peer : Nat) : Nat := peer / 2 ^ 16 % 128

/-- The CAN transport is lost: all receive objects of a controller, or one (R295). -/
def canLost (n : Nat) (obj : Option Nat) (s : State) : State :=
  transportLost (fun e =>
    decide (e.transport = 3 ∧ (peerCan e.peer).1 = n) &&
      (match obj with
        | none => true
        | some k => decide ((peerCan e.peer).2 = k))) s

/-! ## Messages -/

/-- The check value of R288 over the prefix and the message up to CHECK. -/
def glumeCheck (key : List Byte) (endNo seq : Nat) (msg : List Byte) : Nat :=
  crcGlume (key.reverse ++ le 1 endNo ++ [0] ++ be 2 (seq / 65536) ++ msg)

/-- The reign a module sends: 0 from a single module (R287). -/
def ownReign (s : State) : Nat := if s.img.pairMode then s.pair.reign else 0

/-- Build a message of connection `c` (R287, R288). -/
def glumeMessage (s : State) (c : Nat) (words : List Word) : List Byte :=
  let e := connEnt s c
  let q := s.cyc.cycle % 2 ^ 32
  let hdr := 0x40 + (if (connAt s c).state = 3 then 0x20 else 0)
  let m := be 1 hdr ++ be 1 words.length ++ be 2 c ++ be 2 (q % 65536) ++ be 2 0 ++ be 4 (ownReign s) ++
    (words.map (fun w => be 4 w.toNat)).flatten
  m ++ be 4 (glumeCheck e.key e.endNo q m)

/-- The connection a message matches at step 1 (R292). -/
def glumeMatch (s : State) (transport index src : Nat) : Option Nat :=
  (connNums s).find? (fun c =>
    let e := connEnt s c
    e.used && e.recv && decide (e.transport = transport ∧ e.remote = src) &&
      (match transport with
        | 1 => s.fab.map[index]?.any (fun m => decide (m.vehicleId = e.peer))
        | 2 => decide (e.peer = index)
        | 3 => decide ((peerCan e.peer).1 = index / 128 ∧ (peerCan e.peer).2 = index % 128)
        | _ => false))

/-- The data words of a message in the die's order (R287). -/
def glumeWords (n : Nat) (b : List Byte) : List Word := (List.range n).map (fun w => w32 (beAt b (12 + 4 * w) 4))

/-- Message accepted (R293, R294): sequence `q`, reign `r`. -/
def glumeAccept (c q r : Nat) (ready : Bool) (words : List Word) (s : State) : State :=
  let e := connEnt s c
  let x := connAt s c
  let count := if x.state = 1 then 1 else x.confirmed + 1
  let enters := decide (x.state ≠ 3) && decide (e.confirm ≤ count)
  let inData := decide (x.state = 3) || enters
  let s := modConn c (fun (x : Conn) => { x with
      last := some q, reign := Nat.max x.reign r, peerReady := ready, runCheck := 0, accCycle := s.cyc.cycle,
      state := if inData then 3 else 2,
      confirmed := if x.state = 3 then x.confirmed else count,
      words := if inData then words else x.words,
      fresh := inData || x.fresh }) s
  if enters then event 0x2810 c (cycleWord s) 0 s else s

/-- A rejection at steps 3 to 7 other than a repeat takes CONFIRM back to WAIT (R294). -/
def glumeReject (c : Nat) (s : State) : State := if (connAt s c).state = 2 then connLeave c 1 0 s else s

/-- Outcome of the reign and sequence rules of R293: 0 passes, 1 REIGN, 2 repeat, 3 SEQ. -/
def glumeSequence (gap : Nat) (x : Conn) (q r : Nat) : Nat :=
  if r < x.reign then 1
  else
    match x.last with
    | none => 0
    | some l =>
      if q < l ∨ gap < q - l then 3
      else if q = l ∧ r = x.reign then 2
      else 0

/-- The message's form meets step 3 (R292). -/
def glumeFormat (e : ConnEnt) (b : List Byte) : Bool :=
  let h := beAt b 0 1
  let w := beAt b 1 1
  decide (h / 64 = 1) && decide (h % 32 = 0) && decide (beAt b 2 2 < 512) && decide (beAt b 6 2 = 0) &&
    decide (w = e.rxWords) && decide (16 + 4 * w ≤ b.length)

/-- A run of messages cut into its messages (R287, R291); what is left at the end too short for one stays one piece. -/
def messageRun (fuel : Nat) (b : List Byte) : List (List Byte) :=
  match fuel with
  | 0 => []
  | f + 1 =>
    let n := 16 + 4 * beAt b 1 1
    if b.isEmpty then [] else if b.length ≤ n then [b] else b.take n :: messageRun f (b.drop n)

/-- A carrier hands its messages to the offload (R292): kernel copy, hub buffer or receive object. -/
def glumeOffer (transport index : Nat) (ms : List (List Byte)) (s : State) : State :=
  { s with glm := { s.glm with inbox := s.glm.inbox ++ ms.map (fun b => (transport, index, b)) } }

/-- Messages handed over and replaced before they were judged (10 R245). -/
def glumeWithdraw (transport index : Nat) (ms : List (List Byte)) (s : State) : State :=
  { s with glm := { s.glm with inbox := ms.foldl (fun l b => l.erase (transport, index, b)) s.glm.inbox } }

/-- A message judged (R292): the steps in order. -/
def glumeJudge (transport index : Nat) (b : List Byte) (s : State) : State :=
  match glumeMatch s transport index (beAt b 2 2 % 512) with
  | none => { s with glm := { s.glm with unknown := satInc 0xFFFFFFFF s.glm.unknown } }
  | some c =>
    let e := connEnt s c
    let x := connAt s c
    if !x.en then emit (.outcome 8 c 4) s
    else if !glumeFormat e b then glumeReject c (raiseGlmRate 1 0x2802 c s)
    else
      let n := 12 + 4 * e.rxWords
      let d := (s.cyc.cycle % 65536 + 65536 - beAt b 4 2) % 65536
      let q := (s.cyc.cycle + 2 ^ 32 - d) % 2 ^ 32
      if beAt b n 4 ≠ glumeCheck e.key (1 - e.endNo) q (b.take n) then
        let s := raiseGlmRate 0 0x2801 c s
        let s := modConn c (fun (x : Conn) => { x with
            nCheck := satInc 255 x.nCheck, runCheck := satInc 3 x.runCheck }) s
        if x.state = 3 ∧ 3 ≤ (connAt s c).runCheck then connLeave c 1 1 s else glumeReject c s
      else
        let r := beAt b 8 4
        let o := glumeSequence e.seqGap x q r
        let bump := fun (s : State) => modConn c (fun (x : Conn) => { x with nSeq := satInc 255 x.nSeq }) s
        if o = 1 then glumeReject c (raiseGlmRate 4 0x2805 c s)
        else if e.ageMax < d then glumeReject c (bump (raiseGlmRate 3 0x2804 c s))
        else if o = 2 then modConn c (fun (x : Conn) => { x with nRepeat := satInc 255 x.nRepeat }) s
        else if o = 3 then glumeReject c (bump (raiseGlmRate 2 0x2803 c s))
        else glumeAccept c q r (decide (beAt b 0 1 / 32 % 2 = 1)) (glumeWords e.rxWords b) s

/-- GLUME_MESSAGE_RECEIVE (R292): a message that its carrier has handed over is judged. -/
def opGlumeMessageReceive (transport index : Nat) (b : List Byte) (s : State) : State :=
  if s.glm.inbox.contains (transport, index, b) then
    glumeJudge transport index b { s with glm := { s.glm with inbox := s.glm.inbox.erase (transport, index, b) } }
  else s

/-! ## Timeouts, enables -/

/-- The last acceptance lies in a cycle below C − TIMEOUT (R295). -/
def connTimedOut (s : State) (c : Nat) : Bool :=
  let x := connAt s c
  decide (2 ≤ x.state) && decide (x.accCycle + (connEnt s c).timeout < s.cyc.cycle)

/-- CONNECTION_TIMEOUT (R294, R295). -/
def opConnectionTimeout (c : Nat) (s : State) : State := if connTimedOut s c then connLeave c 1 2 s else s

/-- The timeouts at a boundary, before the freeze (R295). -/
def glumeTimeouts (s : State) : State := forAll (connNums s) opConnectionTimeout s

/-- The enable written: a rise enters WAIT, a fall enters CLOSED (R294, R297). -/
def connSetEn (c : Nat) (v : Bool) (s : State) : State :=
  let x := connAt s c
  let en := enableAfter x.en x.active v
  let s := if x.en && !en then connLeave c 0 4 s else s
  modConn c (fun (y : Conn) => { y with
      en := en, active := y.active || en, state := if en && !x.en then 1 else y.state,
      last := if en && !x.en then none else y.last }) s

/-- ACTIVE of a disabled connection of the kernel and hub transports falls at the first boundary (R297). -/
def connsFall (s : State) : State :=
  { s with glm := { s.glm with conns := s.glm.conns.map (fun e =>
      if e.2.en || decide ((connEnt s e.1).transport = 3) then e else (e.1, { e.2 with active := false })) } }

/-- GLM_CONN_ENABLE_WRITE: by the voter of a TRIAD-mode triad or the security engine (R297). -/
def opGlmConnEnableWrite (init c : Nat) (v : Word) (s : State) : State :=
  if (init = secId || isVoter s init) && (connEnt s c).used then connSetEn c (bitOf v 0) s else s

/-- Boot code enables every used connection at hand-over (R297). -/
def glmStart (s : State) : State :=
  forAll (connNums s) (fun c s => if (connEnt s c).used then connSetEn c true s else s) s

/-! ## Mailboxes (R296) -/

/-- Physical address of mailbox `c`. -/
def mboxAddr (s : State) (c : Nat) : Nat := fieldOf (lkAt s 8 0x24) 23 0 * 4096 + 0x400 * c

/-- Words in the die's order. -/
def wordBytes (l : List Word) : List Byte := (l.map (fun w => le 4 w.toNat)).flatten

/-- The freeze at a connection served through its mailbox: input words and STATUS, CYCLE_LO last. -/
def mboxFreeze (c : Nat) (s : State) : State :=
  let e := connEnt s c
  let x := connAt s c
  let data := decide (x.state = 3)
  let age := if data && x.fresh then 0 else satInc 255 x.age
  let words := if data then x.words else List.replicate e.rxWords 0
  let status := placeB data 31 ||| placeB (!data) 30 ||| placeB (data && x.fresh) 29 ||| place age 7 0
  let s := (dmaWrite 0x25 (mboxAddr s c + 0x100) (wordBytes words) s).2
  let s := (dmaWrite 0x25 (mboxAddr s c) (le 4 status.toNat) s).2
  let s := (dmaWrite 0x25 (mboxAddr s c + 4) (le 4 (s.cyc.cycle % 2 ^ 32)) s).2
  modConn c (fun (x : Conn) => { x with age := age, fresh := false, lostFrz := !data }) s

/-- Connections served through mailboxes. -/
def mboxConns (s : State) : List Nat :=
  (connNums s).filter (fun c => (connEnt s c).used && (stationOf s c).isNone)

/-- The words of a mailbox at publish; a wrong TAG makes them 0 and raises STALE (MAILBOX_STALE). -/
def mboxWords (c : Nat) (s : State) : List Word × State :=
  let n := (connEnt s c).txWords
  let r := dmaRead 0x25 (mboxAddr s c + 0x200) (4 + 4 * n) s
  if leAt r.2.1 0 4 = s.cyc.cycle % 2 ^ 32 then
    ((List.range n).map (fun w => w32 (leAt r.2.1 (4 + 4 * w) 4)), r.2.2)
  else (List.replicate n 0, event 0x2807 c (cycleWord s) 0 (errGlm 6 (glmInfo 6 c) r.2.2))

/-! ## Registers and meanings -/

/-- Reads of the GLM window but for the quartet and the LK registers. -/
def glmRead (s : State) (o : Nat) : Word :=
  if o = 0 then
    place (s.img.conns.filter (fun e => e.used)).length 25 16 |||
      place (FMap.count s.glm.conns (fun x => decide (x.state = 3))) 9 0
  else if o = 0x28 then w32 s.glm.unknown
  else if 0x1000 ≤ o ∧ o < 0x3000 then
    let x := connAt s ((o - 0x1000) / 16)
    match o % 16 with
    | 0 => placeB x.active 1 ||| placeB x.en 0
    | 4 => place (x.last.getD 0) 31 16 ||| place x.confirmed 11 8 ||| placeB x.peerReady 3 ||| place x.state 1 0
    | 8 => w32 x.reign
    | _ => place x.nCheck 31 24 ||| place x.nSeq 23 16 ||| place x.nRepeat 15 8 ||| place x.nLost 7 0
  else 0

/-- GLUME_MESSAGE_RECEIVE. -/
def execGlumeMessageReceive (t i : Nat) (b : List Byte) (s : State) : Host.Outcome State Fault Refusal :=
  wfRun (.glumeMessageReceive t i b) (engRun [5] (opGlumeMessageReceive t i b)) s
/-- CONNECTION_TIMEOUT. -/
def execConnectionTimeout (c : Nat) (s : State) : Host.Outcome State Fault Refusal :=
  wfRun (.connectionTimeout c) (opConnectionTimeout c) s
/-- GLM_CONN_ENABLE_WRITE. -/
def execGlmConnEnableWrite (init c : Nat) (v : Word) (s : State) : Host.Outcome State Fault Refusal :=
  wfRun (.glmConnEnableWrite init c v) (opGlmConnEnableWrite init c v) s

end Sys2Proof.Machine
end

