-- ==== Sys2Proof/Machine/Hub.lean ====
section
/-! DEFINITION. The hub and guardian (10): beacons, transmit slots, receive windows and their violations, blocking and
reopening, enables, and the HUB registers; with what the network chapters share: hub ID, mode in force, frames. -/

namespace Sys2Proof.Machine

/-! ## Shared by the network chapters -/

/-- The module's hub ID (R225): COLD_PRIO and the low 12 bits of the serial number. -/
def ownHubId (s : State) : Nat := fieldOf (lkAt s 5 0x40) 11 8 * 4096 + s.fuse.serial % 4096

/-- Mode `m` of the image; one without slots where the image has none. -/
def modeAt (s : State) (m : Nat) : SMode := nth s.img.modes m ⟨0, 0, 0, 0, 0, 0, 0, []⟩

/-- The schedule mode in force. -/
def modeNow (s : State) : SMode := modeAt s s.vyf.mode

/-- Slot descriptor `d` of the mode in force (R215). -/
def slotDesc (s : State) (d : Nat) : Option Slot := (modeNow s).slots[d]?

/-- Instant `off` ns after T0 has come (R133). -/
def afterT0 (s : State) (off : Nat) : Bool := s.cyc.begun && decide (s.cyc.t0 + off ≤ s.clk.now)

/-- The 802.3 frame check sequence, as it stands on the wire. -/
def etherFcs (b : List Byte) : List Byte := le 4 (crc32 b)

/-- A frame of the module's own: DA, SA of its hub ID, EtherType and body, closed with its FCS (R206, R236). -/
def etherFrame (s : State) (da : Nat) (body : List Byte) : List Byte :=
  let b := be 6 da ++ be 6 (0x025946520000 + ownHubId s) ++ be 2 0x88B5 ++ body
  b ++ etherFcs b

/-! ## Ports -/

/-- HUB_PORTS bit `p`. -/
def hubUsed (s : State) (p : Nat) : Bool := bitOf (lkAt s 6 0x24) p

/-- Port `p`. -/
def State.hubPort (s : State) (p : Nat) : HubPort := nth s.hub.ports p {}

/-- Port `p` changed. -/
def modPort (p : Nat) (f : HubPort → HubPort) (s : State) : State :=
  { s with hub := { s.hub with ports := modAt s.hub.ports p f } }

/-- Port `p` is in service (R235). -/
def inService (s : State) (p : Nat) : Bool :=
  s.mod.mode.handed && hubUsed s p && (s.hubPort p).en && (s.hubPort p).link

/-- HUB_PORT_STATUS.STATE. -/
def portState (s : State) (p : Nat) : Nat :=
  if !(s.hubPort p).en then 0 else if !(s.hubPort p).link then 1 else if (s.hubPort p).blocked then 3 else 2

/-! ## Sending -/

/-- The beacon's body for port `p` (R236). -/
def beaconBody (s : State) (p : Nat) : List Byte :=
  let b := be 1 1 ++ be 1 0x10 ++ be 1 p ++ be 1 (s.vyf.mode + 4 * s.vyf.next + (if s.vyf.switch then 16 else 0)) ++
    be 8 s.cyc.cycle ++ be 8 s.clk.tb ++ be 4 (lkAt s 5 0x3C).toNat ++ be 1 (if (s.hubPort p).blocked then 3 else 2) ++
    be 1 s.vyf.state ++ zeros 16
  b ++ be 4 (crc32c b)

/-- Note that slot `d` of this cycle has been served. -/
def hubDid (d : Nat) (s : State) : State := { s with hub := { s.hub with did := s.hub.did ++ [d] } }

/-- BEACON_SEND (R235, R236): once a cycle, at T0 + BEACON_OFFSET. -/
def opBeaconSend (s : State) : State :=
  if afterT0 s (fieldOf (lkAt s 6 0x20) 25 0) && !s.hub.did.contains 4096 && !s.img.hubBufs.isEmpty &&
      decide (s.mod.mode ≠ .shutdown) then
    forAll (List.range 8) (fun p s =>
      if inService s p then emit (.frame (0x10 + p) (etherFrame s 0x035946520020 (beaconBody s p))) s else s)
      (hubDid 4096 s)
  else s

/-- The frame body committed to buffer `b` for this cycle before `limit` (R235). -/
def txBody (s : State) (b limit : Nat) : Option (List Byte) :=
  (s.hub.tx.find? (fun e => decide (e.1 = b ∧ e.2.1 = s.cyc.cycle ∧ e.2.2.1 ≤ limit))).map (fun e => e.2.2.2)

/-- HUB_TX_SLOT (R235). -/
def opHubTxSlot (d : Nat) (s : State) : State :=
  match slotDesc s d with
  | none => s
  | some x =>
    if x.kind ≠ 2 ∨ !afterT0 s x.offset ∨ s.hub.did.contains d then s
    else
      let s := hubDid d s
      match inService s x.port, txBody s x.buffer (s.cyc.t0 + x.offset - 2000) with
      | true, some b =>
        emit (.outcome 6 x.port 0) (emit (.frame (0x10 + x.port) (etherFrame s 0x035946520041 b)) s)
      | _, _ => s

/-- The offload commits a frame body to TX buffer `b` (R291); refused while the port is disabled (R242). -/
def hubCommit (b : Nat) (body : List Byte) (s : State) : State :=
  if (s.hubPort (nth s.img.hubBufs b (0, 0)).2).en then
    { s with hub := { s.hub with
        tx := s.hub.tx.filter (fun e => e.1 ≠ b) ++ [(b, s.cyc.cycle, s.clk.now, body)] } }
  else emit (.outcome 6 (nth s.img.hubBufs b (0, 0)).2 4) s

/-! ## The guardian -/

/-- Receive windows of port `p`: descriptor and slot, in order. -/
def rxWindows (s : State) (p : Nat) : List (Nat × Slot) :=
  ((List.range (modeNow s).slots.length).zip (modeNow s).slots).filter (fun e => decide (e.2.kind = 1 ∧ e.2.port = p))

/-- A window opens and closes, ns after T0 (R238). -/
def Slot.opens (x : Slot) : Int := (x.offset : Int) - 1000
/-- The closing edge. -/
def Slot.closes (x : Slot) : Int := (x.offset + x.length + 1000 : Nat)

/-- HUB_ERR_INFO without its flags. -/
def hubInfo (bit port desc : Nat) : Word := place desc 31 16 ||| place port 10 8 ||| place bit 7 4

/-- A hub error of at most one record per port and second (R247). -/
def raiseHubRate (bit code p desc : Nat) (s : State) : State :=
  eventRate code p p (w32 desc) (errHub bit (hubInfo bit p desc) s)

/-- A hub error with one record per occurrence. -/
def raiseHub (bit code p : Nat) (s : State) : State := event code p 0 0 (errHub bit (hubInfo bit p 65535) s)

/-- This cycle is one of grace (R240). -/
def hubGraced (s : State) : Bool := decide (0 < s.hub.grace) && !s.hub.graceDue

/-- PORT_BLOCK (R239). -/
def portBlock (p : Nat) (s : State) : State :=
  hubLost p (raiseHub 4 0x3605 p (modPort p (fun (x : HubPort) => { x with
      blocked := true, clean := 0, blocks := (x.blocks + 1) % 65536 }) s))

/-- A violation on port `p` (R238, R239): the first of a cycle counts in CONSEC, but not in grace (R240). -/
def hubViolation (bit code p desc : Nat) (count : HubPort → HubPort) (s : State) : State :=
  let s := modPort p count (raiseHubRate bit code p desc s)
  if (s.hubPort p).violNow then s
  else
    let s := modPort p (fun (x : HubPort) => { x with violNow := true }) s
    if (s.hubPort p).blocked || hubGraced s then s
    else
      let s := modPort p (fun (x : HubPort) => { x with consec := x.consec + 1 }) s
      if 3 ≤ (s.hubPort p).consec then portBlock p s else s

/-- Frames judged against a window they start in: TRUNC, OVERSIZE, FCS failure or accepted. -/
inductive RxJudge where
  | trunc | oversize | fcs | accepted
  deriving DecidableEq, Repr

/-- The case of R238 for a frame that starts inside window `x`. -/
def rxJudge (x : Slot) (second : Bool) (f : HubRx) : RxJudge :=
  let long := decide (x.bytes < f.len)
  let before := match f.overAt with
    | some t => decide (t < x.closes)
    | none => decide (f.stop ≤ x.closes)
  if second || (long && before) then .oversize
  else if x.closes < f.stop then .trunc
  else if long then .oversize
  else if !f.fcsOk then .fcs
  else .accepted

/-- Counters of the violations. -/
def countTrunc (x : HubPort) : HubPort := { x with trunc := satInc 65535 x.trunc }
/-- EARLY. -/
def countEarly (x : HubPort) : HubPort := { x with early := satInc 65535 x.early }
/-- OVERSIZE. -/
def countOver (x : HubPort) : HubPort := { x with oversize := satInc 65535 x.oversize }
/-- BABBLE. -/
def countBabble (x : HubPort) : HubPort := { x with babble := satInc 65535 x.babble }

/-- A frame that starts inside window `d`. -/
def rxInside (p d : Nat) (x : Slot) (f : HubRx) (s : State) : State :=
  let second := s.hub.used.any (fun e => decide (e.1 = d))
  let j := rxJudge x second f
  let delta := f.start - (x.offset : Int)
  let near := decide (-500 ≤ delta ∧ delta ≤ 500)
  let s := modPort p (fun (y : HubPort) => { y with lastRx := delta }) s
  let s := if second then s
    else { s with hub := { s.hub with used := s.hub.used ++ [(d, decide (j = .accepted), near)] } }
  match j with
  | .trunc => hubViolation 0 0x2601 p d countTrunc s
  | .oversize => hubViolation 3 0x2604 p d countOver s
  | .fcs =>
    modPort p (fun (y : HubPort) => { y with fcs := satInc 65535 y.fcs }) (raiseHubRate 5 0x2606 p d s)
  | .accepted =>
    if (s.hubPort p).blocked then s
    else
      let s := modPort p (fun (y : HubPort) => { y with frames := (y.frames + 1) % 2 ^ 32 }) s
      { s with hub := { s.hub with rx := s.hub.rx ++ [(d, f.body)] } }

/-- HUB_FRAME_RECEIVE (R238): on a port in service only. -/
def opHubFrameReceive (p : Nat) (f : HubRx) (s : State) : State :=
  if !(inService s p && s.cyc.begun) then s
  else
    match (rxWindows s p).find? (fun e => decide (e.2.opens ≤ f.start ∧ f.start < e.2.closes)) with
    | some (d, x) => rxInside p d x f s
    | none =>
      match (rxWindows s p).find? (fun e => decide (f.start < e.2.opens ∧ e.2.opens ≤ f.stop)) with
      | some (d, _) => hubViolation 1 0x2602 p d countEarly s
      | none => hubViolation 2 0x2603 p 65535 countBabble s

/-- The messages of a hub frame's body (13 R291): VERSION 1, KIND 0x40, PAYLOAD_LEN and the run. -/
def hubMessages (b : List Byte) : List (List Byte) :=
  if beAt b 0 1 = 1 ∧ beAt b 1 1 = 0x40 then
    let p := slice b 4 (Nat.min (beAt b 2 2) (b.length - 4))
    messageRun p.length p
  else []

/-- Accepted frames of the RX buffers chosen by `p` are handed to the offload (R235, R242). -/
def hubHandOver (p : Nat → Bool) (s : State) : State :=
  let rx := s.hub.rx
  forAll (rx.filter (fun e => p e.1))
    (fun e s => match slotDesc s e.1 with
      | some x => emit (.outcome 6 x.port 0) (glumeOffer 2 x.port (hubMessages e.2) s)
      | none => s)
    { s with hub := { s.hub with rx := rx.filter (fun e => !p e.1) } }

/-- HUB_RX_WINDOW_CLOSE (R235): the accepted frame goes to the offload, which judges its messages (GLUME_MESSAGE_RECEIVE). -/
def opHubRxWindowClose (d : Nat) (s : State) : State :=
  match slotDesc s d with
  | none => s
  | some x =>
    if afterT0 s (x.offset + x.length + 1000) then hubHandOver (fun e => decide (e = d)) s else s

/-- A cycle of blocked port `p` was clean (R241). -/
def portClean (s : State) (p : Nat) : Bool :=
  !(s.hubPort p).violNow &&
    (rxWindows s p).all (fun w => s.hub.used.any (fun e => decide (e.1 = w.1) && e.2.1 && e.2.2))

/-- Port `p` at a boundary (R239, R241). -/
def portBoundary (s : State) (p : Nat) (x : HubPort) : HubPort :=
  if !x.en then { x with violNow := false }
  else if x.blocked then { x with violNow := false, clean := if portClean s p then satInc 8 x.clean else 0 }
  else { x with violNow := false, consec := if x.violNow || hubGraced s then x.consec else 0 }

/-- The hub at a boundary: judged with the mode that ends. -/
def hubBoundary (s : State) : State :=
  let h := s.hub
  { s with hub := { h with
      ports := mapIdxFrom 0 (fun p x => portBoundary s p x) h.ports,
      graceNew := false,
      graceDue := !h.graceNew && (h.graceDue || decide (h.grace = 1)),
      grace := if h.graceNew then 2 else if h.grace = 2 then 1 else h.grace,
      did := [], used := [], tx := [] } }

/-- A time step (within a cycle) or a mode switch (at the boundary) grants grace for the 2 cycles that follow (R240). -/
def hubGrace (within : Bool) (s : State) : State :=
  if within then { s with hub := { s.hub with graceNew := true } }
  else { s with hub := { s.hub with grace := 2, graceNew := false, graceDue := false } }

/-- GUARDIAN_GRACE_END (R240). -/
def opGuardianGraceEnd (s : State) : State :=
  if s.hub.graceDue then { s with hub := { s.hub with grace := 0, graceDue := false } } else s

/-- PORT_REOPEN (R241). -/
def opPortReopen (p : Nat) (s : State) : State :=
  if (s.hubPort p).blocked ∧ (s.hubPort p).clean = 8 then
    event 0x2610 p 0 0 (modPort p (fun (x : HubPort) => { x with blocked := false, consec := 0, clean := 0 }) s)
  else s

/-! ## Enables and links -/

/-- The port's enable written (R242): at its fall an accepted frame drains to the offload at once, and what is committed for
its transmit slots is aborted. -/
def portSetEn (p : Nat) (v : Bool) (s : State) : State :=
  let x := s.hubPort p
  let en := enableAfter x.en x.active v
  let s := modPort p (fun (y : HubPort) => { y with en := en, active := y.active || en }) s
  if x.en && !en then
    let mine := s.hub.tx.filter (fun e => decide ((nth s.img.hubBufs e.1 (0, 0)).2 = p))
    let s := hubHandOver (fun d => (slotDesc s d).any (fun y => decide (y.port = p))) s
    let s := forAll mine (fun _ s => emit (.outcome 6 p 1) s) s
    hubLost p { s with hub := { s.hub with tx := s.hub.tx.filter (fun e => (nth s.img.hubBufs e.1 (0, 0)).2 ≠ p) } }
  else s

/-- HUB_PORT_ENABLE_WRITE (R242): by the voter of a TRIAD-mode triad or the security engine, on a port of HUB_PORTS. -/
def opHubPortEnableWrite (init p : Nat) (v : Word) (s : State) : State :=
  if (init = secId || isVoter s init) && hubUsed s p then portSetEn p (bitOf v 0) s else s

/-- Boot code enables the ports of HUB_PORTS at hand-over. -/
def hubStart (s : State) : State :=
  forAll (List.range 8) (fun p s => if hubUsed s p then portSetEn p true s else s) s

/-- HUB_LINK_CHANGE (R247). -/
def opHubLinkChange (p : Nat) (up : Bool) (s : State) : State :=
  if !s.mod.mode.released then s
  else
    let was := (s.hubPort p).link
    let s := modPort p (fun (x : HubPort) => { x with link := up }) s
    if was && !up then hubLost p (raiseHub 6 0x2607 p s) else s

/-- The hub sends and hands over nothing more of what it holds: each item is aborted with outcome `code` (01 R37, R41). -/
def hubHalt (code : Nat) (s : State) : State :=
  let tx := s.hub.tx.map (fun e => (nth s.img.hubBufs e.1 (0, 0)).2)
  let rx := s.hub.rx.filterMap (fun e => (slotDesc s e.1).map (fun x => x.port))
  forAll (tx ++ rx) (fun p s => emit (.outcome 6 p code) s) { s with hub := { s.hub with tx := [], rx := [] } }

/-! ## Registers -/

/-- Mask of the ports with a property. -/
def portMask (f : Nat → Bool) : Nat := maskOf ((List.range 8).map f)

/-- Reads of the HUB window but for the quartet and the LK registers. -/
def hubRead (s : State) (o : Nat) : Word :=
  if o = 0 then
    place (portMask (fun p => (s.hubPort p).blocked)) 23 16 |||
      place (portMask (fun p => inService s p && !(s.hubPort p).blocked)) 15 8 |||
      place (portMask (fun p => (s.hubPort p).link)) 7 0
  else if 0x100 ≤ o ∧ o < 0x200 then
    let p := (o - 0x100) / 32
    let x := s.hubPort p
    match o % 32 with
    | 0 => placeB x.active 1 ||| placeB x.en 0
    | 4 => place s.hub.grace 13 12 ||| place x.clean 11 8 ||| place x.consec 5 4 ||| place (portState s p) 2 0
    | 8 => place x.early 31 16 ||| place x.trunc 15 0
    | 12 => place x.oversize 31 16 ||| place x.babble 15 0
    | 16 => w32 x.frames
    | 20 => place x.fcs 31 16 ||| place x.blocks 15 0
    | 24 => sword x.lastRx
    | _ => 0
  else 0

/-- BEACON_SEND. -/
def execBeaconSend (s : State) : Host.Outcome State Fault Refusal := wfRun .beaconSend (engRun [2] opBeaconSend) s
/-- HUB_TX_SLOT. -/
def execHubTxSlot (d : Nat) (s : State) : Host.Outcome State Fault Refusal := wfRun (.hubTxSlot d) (engRun [2] (opHubTxSlot d)) s
/-- HUB_FRAME_RECEIVE. -/
def execHubFrameReceive (p : Nat) (f : HubRx) (s : State) : Host.Outcome State Fault Refusal :=
  wfRun (.hubFrameReceive p f) (engRun [2] (opHubFrameReceive p f)) s
/-- HUB_RX_WINDOW_CLOSE. -/
def execHubRxWindowClose (d : Nat) (s : State) : Host.Outcome State Fault Refusal :=
  wfRun (.hubRxWindowClose d) (engRun [2, 5] (opHubRxWindowClose d)) s
/-- PORT_REOPEN. -/
def execPortReopen (p : Nat) (s : State) : Host.Outcome State Fault Refusal := wfRun (.portReopen p) (opPortReopen p) s
/-- GUARDIAN_GRACE_END. -/
def execGuardianGraceEnd (s : State) : Host.Outcome State Fault Refusal := wfRun .guardianGraceEnd opGuardianGraceEnd s
/-- HUB_PORT_ENABLE_WRITE. -/
def execHubPortEnableWrite (init p : Nat) (v : Word) (s : State) : Host.Outcome State Fault Refusal :=
  wfRun (.hubPortEnableWrite init p v) (engRun [2, 5] (opHubPortEnableWrite init p v)) s
/-- HUB_LINK_CHANGE. -/
def execHubLinkChange (p : Nat) (up : Bool) (s : State) : Host.Outcome State Fault Refusal :=
  wfRun (.hubLinkChange p up) (opHubLinkChange p up) s

end Sys2Proof.Machine
end

