-- ==== Sys2Proof/Machine/Fabric.lean ====
section
/-! DEFINITION. The train fabric (11): the claim list and its rules, maps taken and dropped, yielding, aperiodic slots and
the maintenance streams they carry, and the fabric registers. A stream command names the other end by its train address. -/

namespace Sys2Proof.Machine

/-! ## Frame geometry (R208, R250) -/

/-- KLEN of a mode. -/
def SMode.klen (m : SMode) : Nat := 16 * m.klen16
/-- RLEN of a mode. -/
def SMode.rlen (m : SMode) : Nat := 16 * m.rlen16
/-- E: claim entries in a reserved slot. -/
def SMode.claimsPer (m : SMode) : Nat := m.rlen16 - 2
/-- CLAIM_SLOTS. -/
def SMode.claimSlots (m : SMode) : Nat := (m.kslots + m.claimsPer - 1) / m.claimsPer
/-- Frame offset of kernel slot `k`. -/
def SMode.kernelAt (m : SMode) (k : Nat) : Nat := 62 + k * m.klen
/-- Frame offset of reserved slot `r`. -/
def SMode.reservedAt (m : SMode) (r : Nat) : Nat := 62 + m.kslots * m.klen + r * m.rlen
/-- Frame offset of claim position `j`. -/
def SMode.claimAt (m : SMode) (j : Nat) : Nat :=
  m.reservedAt (j / m.claimsPer) + 0x1C + 16 * (j % m.claimsPer)
/-- Claim positions of a mode. -/
def SMode.claims (m : SMode) : Nat := m.claimSlots * m.claimsPer
/-- A: aperiodic slots of a mode (R260). -/
def SMode.aperiodic (m : SMode) : Nat := m.rslots - m.claimSlots

/-- Bytes put into a frame at offset `o`. -/
def putAt (b : List Byte) (o : Nat) (x : List Byte) : List Byte := b.take o ++ x ++ b.drop (o + x.length)

/-! ## Errors (R265) -/

/-- VYF_FAB_ERR_INFO without its flags. -/
def fabInfo (bit index rule : Nat) : Word := place index 31 24 ||| place rule 23 20 ||| place bit 7 4

/-- NOADDR (R251, R256). -/
def raiseNoAddr (index : Word) (s : State) : State := event 0x3531 0 index 0 (errFab 1 (fabInfo 1 255 0) s)

/-! ## Claims (R250, R252) -/

/-- The entry at a claim position, where it is occupied. -/
def claimOf (b : List Byte) : Option Claim :=
  if b.length = 16 ∧ beAt b 12 4 = crc32c (b.take 12) then
    some ⟨beAt b 0 2, beAt b 2 1 % 4, beAt b 3 1, beAt b 4 4, beAt b 8 4⟩
  else none

/-- A claim as its 16 bytes. -/
def Claim.bytes (c : Claim) : List Byte :=
  let b := be 2 c.hubId ++ be 1 c.upEnd ++ be 1 c.state ++ be 4 c.tag ++ be 4 c.vehicle
  b ++ be 4 (crc32c b)

/-- The bytes of a claim that enter the list check. -/
def Claim.checkBytes (c : Claim) : List Byte := be 2 c.hubId ++ be 1 c.upEnd ++ be 4 c.tag ++ be 4 c.vehicle

/-- LIST_CHECK of a list (R252). -/
def listCheck (l : List Claim) : Nat := crc32c (l.map Claim.checkBytes).flatten % 65536

/-- Two lists agree entry for entry; STATE does not count (R252). -/
def sameList (a b : List Claim) : Bool := decide (a.map Claim.checkBytes = b.map Claim.checkBytes)

/-- First index at which `p` holds of an entry and the list before it. -/
def firstBad (p : List Claim → Claim → Bool) (before l : List Claim) : Option Nat :=
  match l with
  | [] => none
  | c :: t => if p before c then some before.length else firstBad p (before ++ [c]) t

/-- Entry `c` breaks grouping after `b`: its vehicle stands earlier and is broken off or full. -/
def groupBad (b : List Claim) (c : Claim) : Bool :=
  let n := (b.filter (fun x => decide (x.vehicle = c.vehicle))).length
  decide (0 < n) && (decide (b.getLast?.map Claim.vehicle ≠ some c.vehicle) || decide (2 ≤ n))

/-- The vehicles of a list, in order of first mention. -/
def firstVehicles (l : List Claim) : List Nat :=
  l.foldl (fun a c => if a.contains c.vehicle then a else a ++ [c.vehicle]) []

/-- The list rules of R255: number of the first rule broken (1 to 4) and the first failing entry. -/
def listFault (l : List Claim) : Option (Nat × Nat) :=
  match firstBad (fun b c => b.any (fun x => decide (x.tag = c.tag))) [] l with
  | some i => some (1, i)
  | none =>
    match firstBad groupBad [] l with
    | some i => some (2, i)
    | none =>
      match firstBad (fun b c => b.any (fun x => decide (x.vehicle = c.vehicle ∧ x.upEnd % 2 ≠ c.upEnd % 2))) [] l with
      | some i => some (3, i)
      | none =>
        match firstBad (fun b c => decide (32 < (firstVehicles (b ++ [c])).length)) [] l with
        | some i => some (4, i)
        | none => none

/-- The claim list of the cycle is built, and TOPO raised for a failing list that has settled (R252, R255). -/
def buildList (s : State) : State :=
  let l := (List.range (modeNow s).claims).filterMap (fun j => (FMap.look s.fab.claims none j).map ClaimCopy.entry)
  let same := sameList l s.fab.list
  let stable := if same then satInc 255 s.fab.stable else 1
  let s := { s with fab := { s.fab with
      list := l, check := listCheck l, len := l.length, stable := stable, built := true,
      topoRaised := s.fab.topoRaised && same } }
  match listFault l with
  | none => s
  | some (rule, i) =>
    if s.img.settle ≤ stable ∧ !s.fab.topoRaised then
      event 0x3530 rule (w32 i) (w32 s.fab.check) (errFab 0 (fabInfo 0 i rule)
        { s with fab := { s.fab with topoRaised := true } })
    else s

/-! ## Maps (R256, R257) -/

/-- The map entries of a list (R256). -/
def mapOf (l : List Claim) : List MapEnt :=
  l.map (fun c => ⟨c.hubId, c.tag, c.vehicle, (firstVehicles l).idxOf c.vehicle + 1, c.upEnd % 2⟩)

/-- The session that a stream carries ends; an installation it has not ended aborts (17 R371). -/
def dropSession (ses : Nat) (s : State) : State :=
  { s with sec := { s.sec with
      sessions := s.sec.sessions.filter (fun x => decide (x.id ≠ ses)),
      install := match s.sec.install with
        | some i => if i.ses = ses ∧ !i.ended then none else some i
        | none => none } }

/-- A stream ends at this module (R264): its unacknowledged bytes are aborted, the outcome `code` is reported, the TCP
connection of a gateway is reset or closed normally, and a session served here ends. -/
def dropStream (x : Stream) (code : Nat) (reset : Bool) (s : State) : State :=
  let s := emit (.outcome 5 x.num code) { s with fab := { s.fab with
      streams := s.fab.streams.filter (fun y => decide (¬ (y.gateway = x.gateway ∧ y.gw = x.gw ∧ y.target = x.target ∧ y.num = x.num))) } }
  if x.gateway then emit (.tcp x.tcp x.num reset) s
  else
    match s.sec.sessions.find? (fun y => decide (y.stream = some (x.gw, x.num))) with
    | some y => dropSession y.id s
    | none => s

/-- A message of the aperiodic area (R261). -/
def aperMsg (dst src kind reason stream off ack : Nat) (data : List Byte) : List Byte :=
  be 1 dst ++ be 1 src ++ be 1 kind ++ be 1 reason ++ be 2 stream ++ be 2 data.length ++ be 4 off ++ be 4 ack ++ data ++
    zeros ((4 - data.length % 4) % 4)

/-- A message waits for an owned aperiodic slot. -/
def pushMsg (m : List Byte) (s : State) : State := { s with fab := { s.fab with outbox := s.fab.outbox ++ [(0, m)] } }

/-- The other end of a stream. -/
def Stream.peer (x : Stream) : Nat := if x.gateway then x.target else x.gw

/-- CLOSE sent for a stream, with the offset reached in this direction and the next one expected in the other (R261). -/
def pushClose (x : Stream) (reason : Nat) (s : State) : State :=
  pushMsg (aperMsg x.peer s.fab.addr 3 reason x.num ((x.txBase + x.sent) % 2 ^ 32) (x.rxNext % 2 ^ 32) []) s

/-- Every stream ends because a map is taken or dropped (R264). -/
def streamsReinaug (send : Bool) (s : State) : State :=
  forAll s.fab.streams (fun x s => let s := dropStream x 1 true s; if send then pushClose x 3 s else s) s

/-- The map is dropped (R257): no address, and every kernel connection loses its transport. -/
def mapDrop (s : State) : State :=
  if s.fab.map.isEmpty then s
  else
    let s := streamsReinaug false s
    kernelLost { s with fab := { s.fab with
        map := [], mapList := [], number := 0, addr := 255, vehicle := 0, orient := 0, mapCheck := 0, outbox := [],
        slotBuf := [], inbox := [], ownMap := false } }

/-- MAP_TAKE (R256): list `l` becomes map `num` of origin `org`. -/
def mapTake (num org : Nat) (l : List Claim) (s : State) : State :=
  let es := mapOf l
  let n := (modeNow s).kslots
  let own := l.findIdx? (fun c => decide (c.hubId = ownHubId s ∧ c.tag = s.fuse.serial % 2 ^ 32))
  let me := own.bind (fun i => es[i]?)
  let addr := match own with | some i => if i < n then i else 255 | none => 255
  let s := { s with fab := { s.fab with
      map := es.take n, mapList := l, number := num, mapOrigin := org, mapCheck := listCheck l, addr := addr,
      vehicle := (me.map MapEnt.vehicle).getD 0, orient := (me.map MapEnt.orient).getD 0, outbox := [], slotBuf := [],
      inbox := [], ownMap := s.vyf.origin } }
  let s := streamsReinaug true s
  let s := event 0x2537 num (w32 addr) (w32 (es.take n).length) s
  let s := if addr = 255 then raiseNoAddr (match own with | some i => w32 i | none => 0xFFFFFFFF#32) s else s
  kernelRemapped s

/-- A valid header judged against the map (R257), YIELD seen by a far end (R259), and a committed list noted (R256). -/
def fabHeader (inaug origin : Nat) (far : Bool) (s : State) : State :=
  let num := inaug / 2 ^ 24 % 256
  let commit := inaug / 2 ^ 23 % 2 = 1
  let s := if s.fab.map.isEmpty ∨ (origin = s.fab.mapOrigin ∧ (commit ∨ num = s.fab.number)) then s else mapDrop s
  let s := { s with fab := { s.fab with sawYield := decide (inaug / 2 ^ 22 % 2 = 1) && (s.fab.sawYield || far) } }
  if commit ∧ s.fab.check = inaug % 65536 ∧ !s.fab.list.isEmpty ∧ !s.fab.built then
    { s with fab := { s.fab with take := some (num, origin, s.fab.list) } }
  else s

/-- A module without a map finds its own list in a header without COMMIT (R257). -/
def fabAdopt (s : State) : State :=
  let i := s.vyf.inaug
  if s.fab.map.isEmpty ∧ s.fab.take.isNone ∧ i / 2 ^ 23 % 2 = 0 ∧ i / 2 ^ 24 % 256 ≠ 0 ∧ i % 65536 = s.fab.check ∧
      !s.fab.list.isEmpty then
    { s with fab := { s.fab with take := some (i / 2 ^ 24 % 256, s.vyf.originId, s.fab.list) } }
  else s

/-- Link on exactly one port of each channel. -/
def oneEach (s : State) : Bool := (s.vyf.chA.link1 != s.vyf.chA.link2) && (s.vyf.chB.link1 != s.vyf.chB.link2)
/-- Link on both ports of a channel. -/
def bothOn (s : State) : Bool := (s.vyf.chA.link1 && s.vyf.chA.link2) || (s.vyf.chB.link1 && s.vyf.chB.link2)

/-- LIST_COMMIT (R255): the origin commits a settled list in its next header. -/
def fabCommit (s : State) : State :=
  if s.vyf.origin ∧ s.fab.yieldLeft = 0 ∧ s.fab.take.isNone ∧ s.img.settle ≤ s.fab.stable ∧ !s.fab.list.isEmpty ∧
      (s.fab.map.isEmpty ∨ !sameList s.fab.list s.fab.mapList) ∧ (listFault s.fab.list).isNone ∧
      oneEach s ∧ !s.fab.changed ∧ s.img.settle ≤ s.fab.onePort + 1 then
    { s with fab := { s.fab with commitNext := true } }
  else s

/-- The number an origin's headers carry: that of the map it has committed as this origin, 0 before (R254). -/
def originNumber (s : State) : Nat :=
  if !s.fab.map.isEmpty ∧ s.fab.ownMap then s.fab.number else 0

/-- The INAUG field an origin writes (R254). -/
def originInaug (s : State) : Nat :=
  let n := originNumber s
  let y := if 2 ≤ s.fab.yieldLeft then 2 ^ 22 else 0
  if s.fab.commitNext ∧ s.fab.yieldLeft = 0 then (if n = 255 then 1 else n + 1) * 2 ^ 24 + 2 ^ 23 + s.fab.check
  else n * 2 ^ 24 + y + if n = 0 then 0 else s.fab.mapCheck

/-- After an origin's header has gone out. -/
def fabSent (s : State) : State :=
  { s with fab := { s.fab with
      commitNext := false, yieldLeft := if 2 ≤ s.fab.yieldLeft then s.fab.yieldLeft - 1 else s.fab.yieldLeft } }

/-- The module is no longer origin; a switch it was about to announce, a commit and a yield are void. -/
def loseOrigin (s : State) : State :=
  { s with
    vyf := { s.vyf with origin := false, normal := false, ann := none },
    fab := { s.fab with ownMap := false, commitNext := false, yieldLeft := 0 } }

/-- ORIGIN_YIELD (R259): after 4 cycles with link on both ports of a channel. -/
def opOriginYield (s : State) : State :=
  if s.vyf.state = 4 ∧ s.vyf.origin ∧ 4 ≤ s.fab.twoPorts ∧ s.fab.yieldLeft = 0 then
    { s with fab := { s.fab with yieldLeft := 3, commitNext := false } }
  else s

/-- The second YIELD header has been sent: the origin gives up the role (R259). -/
def yieldEnd (s : State) : State :=
  if s.fab.yieldLeft = 1 then
    event 0x2538 0 (w32 (ownHubId s)) (cycleWord s) (loseOrigin s)
  else s

/-- The fabric at a boundary: the map committed is taken, and the counts of the cycle are closed. -/
def fabBoundary (s : State) : State :=
  let s := match s.fab.take with
    | some (n, o, l) => if s.vyf.state = 4 then mapTake n o l s else s
    | none => s
  let f := s.fab
  yieldEnd { s with fab := { f with
      take := none, claims := [], aper := [], built := false, changed := false,
      list := if f.built then f.list else [], check := if f.built then f.check else 0,
      len := if f.built then f.len else 0, stable := if f.built then f.stable else 0,
      onePort := if oneEach s && !f.changed then f.onePort + 1 else 0,
      twoPorts := if bothOn s && !f.changed then f.twoPorts + 1 else 0 } }

/-! ## Aperiodic slots (R260 to R262) -/

/-- Owner of aperiodic slot `a` in cycle `n`; none without a map. -/
def slotOwner (s : State) (n a : Nat) : Option Nat :=
  if s.fab.map.isEmpty then none
  else some ((n * (modeNow s).aperiodic + a) % s.fab.map.length)

/-- How many of the messages fit into `room` bytes, first first. -/
def fitCount (room : Nat) (l : List (List Byte)) : Nat :=
  match l with
  | [] => 0
  | m :: t => if m.length ≤ room then fitCount (room - m.length) t + 1 else 0

/-- Messages that fit into `room` bytes, first first, and those left. -/
def fitMsgs (room : Nat) (l : List (List Byte)) : List Byte × List (List Byte) :=
  let k := fitCount room l
  ((l.take k).flatten, l.drop k)

/-- The messages that channel `ch` still holds, of those in the outbox (01 R41). -/
def heldOn (ch : Nat) (l : List (Nat × List Byte)) : List Byte :=
  ((l.filter (fun m => !m.1.testBit ch)).map (fun m => m.2)).flatten

/-- One DATA message of each stream into `room` bytes, in turn (R262); data of at most `cap` bytes. The streams served are
counted. -/
def streamMsgs (own cap now room : Nat) (l : List Stream) : List Byte × List Stream × Nat :=
  match l with
  | [] => ([], [], 0)
  | x :: t =>
    if room < 16 then ([], x :: t, 0)
    else
      let d := (x.unacked.drop x.sent).take (Nat.min cap ((room - 16) / 4 * 4))
      let m := aperMsg x.peer own 2 0 x.num ((x.txBase + x.sent) % 2 ^ 32) (x.rxNext % 2 ^ 32) d
      let y := { x with
        sent := x.sent + d.length,
        out := Nat.max x.out (x.sent + d.length),
        slots := if 0 < x.out then x.slots + 1 else x.slots,
        ackSince := if x.out = 0 ∧ 0 < d.length then now else x.ackSince,
        dataSince := if 0 < d.length then now else x.dataSince }
      let r := streamMsgs own cap now (room - m.length) t
      (m ++ r.1, y :: r.2.1, r.2.2 + 1)

/-- A list turned so that its element `k` comes first. -/
def turned {α : Type} (k : Nat) (l : List α) : List α := l.drop k ++ l.take k

/-- The payload this module writes into reserved slot `r` this cycle on channel `ch`: the same on both, but for what an
engine's halt aborted on one. -/
def slotPayload (ch r : Nat) (s : State) : List Byte × State :=
  let pick := fun (e : List Byte × List Byte) => if ch = 0 then e.1 else e.2
  match s.fab.slotBuf.find? (fun e => decide (e.1 = s.cyc.cycle ∧ e.2.1 = r)) with
  | some e => (pick e.2.2, s)
  | none =>
    let room := (modeNow s).rlen - 32
    let o := s.fab.outbox
    let g := fitCount room (o.map (fun m => m.2))
    let used := ((o.take g).map (fun m => m.2.length)).sum
    let n := s.fab.streams.length
    let k := s.fab.turn % n
    let b := streamMsgs s.fab.addr ((modeNow s).rlen - 48) s.clk.now (room - used) (turned k s.fab.streams)
    let p := (heldOn 0 (o.take g) ++ b.1, heldOn 1 (o.take g) ++ b.1)
    (pick p, { s with fab := { s.fab with
        outbox := o.drop g, streams := turned (n - k) b.2.1, turn := (k + b.2.2) % n,
        slotBuf := s.fab.slotBuf.filter (fun e => decide (e.1 = s.cyc.cycle)) ++ [(s.cyc.cycle, r, p)] } })

/-! ## Streams (R262 to R264) -/

/-- The stream of number `num` with the other end `peer`: a message does not say which of two such streams it means, one
opened by either end, and the one opened here first is taken (log 73). -/
def streamWith (s : State) (peer num : Nat) : Option Stream :=
  s.fab.streams.find? (fun x => decide (x.peer = peer ∧ x.num = num))

/-- The same stream: gateway, number and the other end (R262). -/
def Stream.same (x y : Stream) : Bool := decide (x.gateway = y.gateway ∧ x.gw = y.gw ∧ x.target = y.target ∧ x.num = y.num)

/-- A stream changed. -/
def modStream (x : Stream) (f : Stream → Stream) (s : State) : State :=
  { s with fab := { s.fab with streams := s.fab.streams.map (fun y => if y.same x then f y else y) } }

/-- A stream of gateway `gw` and number `num` is served here. -/
def servedHere (s : State) (gw num : Nat) : Bool :=
  s.fab.streams.any (fun x => !x.gateway && decide (x.gw = gw ∧ x.num = num))

/-- Streams relayed here as gateway (true) or served as target (false). -/
def streamCount (s : State) (gateway : Bool) : Nat := (s.fab.streams.filter (fun x => x.gateway == gateway)).length

/-- A fresh stream. -/
def newStream (gateway : Bool) (gw target num tcp now : Nat) : Stream where
  gateway := gateway
  gw := gw
  target := target
  num := num
  tcp := tcp
  unacked := []
  txBase := 0
  rxNext := 0
  sent := 0
  slots := 0
  ackSince := now
  dataSince := now

/-- A message is for this module: it holds an address, and the sender stands in the map. -/
def msgForMe (s : State) (src dst : Nat) : Bool :=
  decide (s.fab.addr ≠ 255) && decide (dst = s.fab.addr) && decide (src < s.fab.map.length) && decide (src ≠ dst)

/-- Fields of a message (R261). -/
def aperIs (m : List Byte) (dst src kind reason stream : Nat) : Bool :=
  decide (beAt m 0 1 = dst) && decide (beAt m 1 1 = src) && decide (beAt m 2 1 = kind) && decide (beAt m 3 1 = reason) &&
    decide (beAt m 4 2 = stream)

/-- Act on a message that an aperiodic slot has brought (R260, R261). -/
def withMsg (p : List Byte → Bool) (f : State → State) (s : State) : State :=
  match s.fab.inbox.find? p with
  | some m => f { s with fab := { s.fab with inbox := s.fab.inbox.erase m } }
  | none => s

/-- OPEN judged (R263). -/
def takeOpen (src dst stream : Nat) (s : State) : State :=
  if !msgForMe s src dst then s
  else if servedHere s src stream then s
  else if !s.img.target then pushMsg (aperMsg src dst 3 4 stream 0 0 []) s
  else if 4 ≤ streamCount s false then pushMsg (aperMsg src dst 3 1 stream 0 0 []) s
  else { s with fab := { s.fab with streams := s.fab.streams ++ [newStream false src dst stream 0 s.clk.now] } }

/-- OPEN (R263). -/
def opOpenMsg (src dst stream : Nat) (s : State) : State :=
  withMsg (fun m => aperIs m dst src 1 0 stream) (takeOpen src dst stream) s

/-- Bytes given to a stream join those that wait, and as many become unacknowledged as the 4,096 leave room for (R262). -/
def Stream.fed (x : Stream) (b : List Byte) : Stream :=
  let q := x.queued ++ b
  let room := 4096 - x.unacked.length
  { x with unacked := x.unacked ++ q.take room, queued := q.drop room }

/-- ACK received: acknowledged bytes leave the buffer (R262). -/
def Stream.acked (x : Stream) (ack now : Nat) : Stream :=
  let d := (ack + 2 ^ 32 - x.txBase % 2 ^ 32) % 2 ^ 32
  if 0 < d ∧ d ≤ x.out then
    Stream.fed { x with
      unacked := x.unacked.drop d, txBase := x.txBase + d, sent := x.sent - d, out := x.out - d, slots := 0,
      ackSince := now } []
  else x

/-- DATA judged (R262): data at the expected offset is taken, held data trimmed, data beyond discarded. -/
def takeData (src dst stream offset ack : Nat) (bytes : List Byte) (s : State) : State :=
  if !msgForMe s src dst ∨ (modeNow s).rlen < bytes.length + 48 then s
  else
    match streamWith s src stream with
    | none => s
    | some x =>
      let held := (x.rxNext + 2 ^ 32 - offset % 2 ^ 32) % 2 ^ 32
      let new := if held ≤ bytes.length then bytes.drop held else []
      let s := modStream x (fun (x : Stream) =>
        let y := x.acked (ack % 2 ^ 32) s.clk.now
        { y with rxNext := (y.rxNext + new.length) % 2 ^ 32,
                 dataSince := if bytes.isEmpty then y.dataSince else s.clk.now }) s
      if x.gateway ∧ !new.isEmpty then emit (.frame 0x30 new) s else s

/-- DATA (R262). -/
def opDataMsg (src dst stream offset ack : Nat) (bytes : List Byte) (s : State) : State :=
  withMsg (fun m => aperIs m dst src 2 0 stream && decide (beAt m 8 4 = offset) && decide (beAt m 12 4 = ack) &&
    decide (slice m 16 (beAt m 6 2) = bytes)) (takeData src dst stream offset ack bytes) s

/-- CLOSE judged (R264): NORMAL drains and closes the TCP connection normally, TIMEOUT and the others reset it. -/
def takeClose (src dst stream reason : Nat) (s : State) : State :=
  if !msgForMe s src dst then s
  else match streamWith s src stream with
    | none => s
    | some x =>
      dropStream x (match reason with | 0 => 0 | 2 => 2 | _ => 1) (decide (reason ≠ 0)) s

/-- CLOSE (R264). -/
def opCloseMsg (src dst stream reason : Nat) (s : State) : State :=
  withMsg (fun m => aperIs m dst src 3 reason stream) (takeClose src dst stream reason) s

/-- A STREAM number that no stream of this gateway has. -/
def freeStream (s : State) (n fuel : Nat) : Nat :=
  match fuel with
  | 0 => n
  | f + 1 =>
    if s.fab.streams.any (fun x => x.gateway && decide (x.num = n)) then freeStream s ((n + 1) % 65536) f else n

/-- RELAY_CONNECT (R263): served locally (TLS_HANDSHAKE), relayed, or refused with a TCP reset: a fifth stream, and an
address that the map does not hold. -/
def opRelayConnect (port : Nat) (s : State) : State :=
  let k := port - 5000
  if !s.img.gateway ∨ s.sec.portClosed ∨ port < 5000 ∨ 5063 < port then s
  else if s.fab.addr = 255 ∨ s.fab.map.length ≤ k then emit (.tcp port 0 true) s
  else if k = s.fab.addr then s
  else if 4 ≤ streamCount s true then emit (.tcp port 0 true) s
  else
    let n := freeStream s s.fab.nextStream 8
    pushMsg (aperMsg k s.fab.addr 1 0 n 0 0 []) { s with fab := { s.fab with
        nextStream := (n + 1) % 65536,
        streams := s.fab.streams ++ [newStream true s.fab.addr k n port s.clk.now] } }

/-- STREAM_RESEND (R262): four owned slots without an advance of ACK. -/
def opStreamResend (peer stream : Nat) (s : State) : State :=
  match streamWith s peer stream with
  | none => s
  | some x =>
    if 4 ≤ x.slots ∧ 0 < x.out then modStream x (fun (x : Stream) => { x with sent := 0, slots := 0 }) s else s

/-- STREAM_ACK_TIMEOUT (R264): data outstanding and no progress for 10 s. -/
def opStreamAckTimeout (peer stream : Nat) (s : State) : State :=
  match streamWith s peer stream with
  | none => s
  | some x =>
    if 0 < x.out ∧ x.ackSince + 9900000000 ≤ s.clk.now then
      event 0x2534 x.num (w32 x.gw) (w32 x.target) (errFab 4 (fabInfo 4 255 0) (pushClose x 2 (dropStream x 2 true s)))
    else s

/-- STREAM_IDLE_TIMEOUT (R264): no data for 600 s. -/
def opStreamIdleTimeout (peer stream : Nat) (s : State) : State :=
  match streamWith s peer stream with
  | none => s
  | some x => if x.dataSince + 599000000000 ≤ s.clk.now then pushClose x 0 (dropStream x 0 false s) else s

/-- Bytes of a relayed session's reply enter its stream, which holds at most 4,096 unacknowledged bytes (R262). -/
def streamPush (gw num : Nat) (b : List Byte) (s : State) : State :=
  match s.fab.streams.find? (fun x => !x.gateway && decide (x.gw = gw ∧ x.num = num)) with
  | none => s
  | some x => modStream x (fun (y : Stream) => y.fed b) s

/-- The relayed connection of TCP port `port` that has stream number `num`. -/
def relayStream (s : State) (port num : Nat) : Option Stream :=
  s.fab.streams.find? (fun x => x.gateway && decide (x.tcp = port ∧ x.num = num))

/-- Bytes of the host on a relayed TCP connection enter its stream (R263). -/
def relayData (port num : Nat) (b : List Byte) (s : State) : State :=
  match relayStream s port num with
  | none => s
  | some x => modStream x (fun (y : Stream) => y.fed b) s

/-- The host closes a relayed TCP connection (R264). -/
def relayClose (port num : Nat) (s : State) : State :=
  match relayStream s port num with
  | none => s
  | some x => pushClose x 0 (dropStream x 0 false s)

/-! ## Registers -/

/-- VEHICLE_ID of vehicle number `v`; 0 when none. -/
def vehicleIdOf (s : State) (v : Nat) : Nat :=
  match s.fab.map.find? (fun e => decide (e.vehicle = v)) with
  | some e => e.vehicleId
  | none => 0

/-- Reads of the fabric registers but for the quartet. -/
def fabRead (s : State) (o : Nat) : Word :=
  let f := s.fab
  if o = 0x80 then
    place f.number 31 24 ||| place f.orient 23 23 ||| place f.map.length 22 16 ||| place f.addr 15 8 ||| place f.vehicle 5 0
  else if o = 0x84 then place f.len 30 24 ||| place f.stable 23 16 ||| place f.check 15 0
  else if o = 0xA0 then place (streamCount s false) 7 4 ||| place (streamCount s true) 3 0
  else if 0x400 ≤ o ∧ o < 0x600 then
    match f.map[(o - 0x400) / 8]? with
    | none => 0
    | some e =>
      if o % 8 = 0 then w32 e.tag
      else placeB true 31 ||| place e.orient 30 30 ||| place e.vehicle 29 24 ||| place e.hubId 15 0
  else if 0x600 ≤ o ∧ o < 0x680 then w32 (vehicleIdOf s ((o - 0x600) / 4 + 1))
  else 0

/-- ORIGIN_YIELD. -/
def execOriginYield (s : State) : Host.Outcome State Fault Refusal := wfRun .originYield opOriginYield s
/-- OPEN. -/
def execOpenMsg (src dst stream : Nat) (s : State) : Host.Outcome State Fault Refusal :=
  wfRun (.openMsg src dst stream) (engRun [0, 1] (opOpenMsg src dst stream)) s
/-- DATA. -/
def execDataMsg (src dst stream offset ack : Nat) (bytes : List Byte) (s : State) : Host.Outcome State Fault Refusal :=
  wfRun (.dataMsg src dst stream offset ack bytes) (engRun [0, 1] (opDataMsg src dst stream offset ack bytes)) s
/-- CLOSE. -/
def execCloseMsg (src dst stream reason : Nat) (s : State) : Host.Outcome State Fault Refusal :=
  wfRun (.closeMsg src dst stream reason) (engRun [0, 1] (opCloseMsg src dst stream reason)) s
/-- RELAY_CONNECT. -/
def execRelayConnect (port : Nat) (s : State) : Host.Outcome State Fault Refusal :=
  wfRun (.relayConnect port) (engRun [0, 1] (opRelayConnect port)) s
/-- STREAM_RESEND. -/
def execStreamResend (peer stream : Nat) (s : State) : Host.Outcome State Fault Refusal :=
  wfRun (.streamResend peer stream) (engRun [0, 1] (opStreamResend peer stream)) s
/-- STREAM_ACK_TIMEOUT. -/
def execStreamAckTimeout (peer stream : Nat) (s : State) : Host.Outcome State Fault Refusal :=
  wfRun (.streamAckTimeout peer stream) (engRun [0, 1] (opStreamAckTimeout peer stream)) s
/-- STREAM_IDLE_TIMEOUT. -/
def execStreamIdleTimeout (peer stream : Nat) (s : State) : Host.Outcome State Fault Refusal :=
  wfRun (.streamIdleTimeout peer stream) (engRun [0, 1] (opStreamIdleTimeout peer stream)) s

end Sys2Proof.Machine
end

