-- ==== Sys2Proof/Machine/Image.lean ====
section
/-! DEFINITION. The Sheaf image (02): the state of a copy, the container, the parsing of its payloads into the contents
that Img holds, steps 1 to 5 of R64, and the LK words the sections give. Each chapter's checks of step 6 are in
ImageRules.lean. -/

namespace Sys2Proof.Machine

/-! ## The copies (R43 to R45) -/

/-- Offset of a copy's status block (R43). -/
def statusOff : Nat := 0x8000000

/-- Word at offset `o` of the status block. -/
def statusWord (s : State) (c : Bool) (o : Nat) : Nat := leNat (norGet s c (statusOff + o) 4)

/-- A mark is set: its word reads other than all ones (R44). -/
def markSet (s : State) (c : Bool) (o : Nat) : Bool := decide (statusWord s c o ≠ 0xFFFFFFFF)

/-- The state of a copy (R45). -/
inductive CopyState where
  | bad | good | failedTrial | trial | empty
  deriving DecidableEq, Repr

/-- The table of R45. -/
def copyState (s : State) (c : Bool) : CopyState :=
  if markSet s c 0x1C then .bad
  else if markSet s c 0x18 then .good
  else if markSet s c 0x14 then .failedTrial
  else if markSet s c 0x10 then .trial
  else .empty

/-- Set a mark: its word is programmed to zero (R44). -/
def setMark (c : Bool) (o : Nat) (s : State) : State := norPut c (statusOff + o) (zeros 4) s

/-- SEQUENCE of a copy. -/
def copySeq (s : State) (c : Bool) : Nat := statusWord s c 0

/-! ## The container (R46 to R50) -/

/-- Bytes `o` to `o + n - 1` of a list are zero and lie inside it. -/
def zeroAt (b : List Byte) (o n : Nat) : Bool := decide (o + n ≤ b.length) && allZero (slice b o n)

/-- Bytes of an image held in a copy. -/
def imgBytes (s : State) (c : Bool) (o n : Nat) : List Byte := norGet s c o n

/-- The header of a copy. -/
def imgHeader (s : State) (c : Bool) : List Byte := imgBytes s c 0 0x400

/-- IMAGE_LENGTH. -/
def imgLength (h : List Byte) : Nat := leAt h 0x0C 4
/-- SECTION_COUNT. -/
def imgSections (h : List Byte) : Nat := leAt h 0x1A 2
/-- SECURITY_VERSION. -/
def imgSecVersion (h : List Byte) : Nat := leAt h 0x18 2

/-- Step 1 (R46). -/
def step1 (h : List Byte) : Bool :=
  let l := imgLength h
  decide (leAt h 0 4 = 0x46454853) && decide (leAt h 4 2 = 3) && decide (leAt h 6 2 = 0) &&
    decide (leAt h 8 4 = 0x400) && decide (l % 64 = 0) && decide (0x600 ≤ l) && decide (l ≤ 0x8000000) &&
    decide (leAt h 0x10 4 = 0x00030010) && decide (17 ≤ imgSections h) && decide (imgSections h ≤ 48) &&
    zeroAt h 0x38 196 && decide (leAt h 0xFC 4 = crc32 (slice h 0 0xFC ++ slice h 0x100 0x300))

/-- A used entry of the section table (R48). -/
structure SecEnt where
  type : Nat
  inst : Nat
  flags : Nat
  offset : Nat
  length : Nat
  crc : Nat
  /-- the entry's first 12 bytes, the additional data of R50 -/
  head : List Byte
  deriving DecidableEq, Repr

/-- Entry `i` of the section table. -/
def secEnt (h : List Byte) (i : Nat) : SecEnt :=
  let e := slice h (0x100 + 16 * i) 16
  ⟨leAt e 0 2, leAt e 2 1, leAt e 3 1, leAt e 4 4, leAt e 8 4, leAt e 12 4, e.take 12⟩

/-- The used entries. -/
def secEnts (h : List Byte) : List SecEnt := (List.range (imgSections h)).map (secEnt h)

/-- Two sections share a byte. -/
def secOverlap (a b : SecEnt) : Bool := decide (a.offset < b.offset + b.length) && decide (b.offset < a.offset + a.length)

/-- No two entries of a list satisfy `p`. -/
def noPair {α : Type} (p : α → α → Bool) (l : List α) : Bool :=
  match l with
  | [] => true
  | a :: t => !t.any (p a) && noPair p t

/-- Entries of a type. -/
def ofType (l : List SecEnt) (t : Nat) : List Nat := (l.filter (fun e => decide (e.type = t))).map (fun e => e.inst)

/-- Types, instances and occurrences of R51. -/
def occurrencesOk (l : List SecEnt) : Bool :=
  let one := fun (t : Nat) => decide (ofType l t = [0])
  let opt := fun (t : Nat) => decide (ofType l t = [] ∨ ofType l t = [0])
  let cores := ofType l 6
  l.all (fun e => decide (1 ≤ e.type ∧ e.type ≤ 14)) && one 1 && one 2 && one 3 && one 4 && one 7 &&
    (List.range 6).all (fun k => decide ((ofType l 5).count k = 1)) && decide ((ofType l 5).length = 6) &&
    cores.all (fun k => decide (k < 24) && decide (cores.count k = 1)) &&
    (List.range 6).all (fun t =>
      let n := (cores.filter (fun k => decide (k / 4 = t))).length
      decide (n = 1 ∨ n = 3 ∨ n = 4)) &&
    opt 8 && opt 9 && opt 10 && opt 12 && opt 13 && opt 14 &&
    (ofType l 11).all (fun k => decide (k < 2) && decide ((ofType l 11).count k = 1))

/-- Step 2 (R48, R51). -/
def step2 (s : State) (c : Bool) (h : List Byte) : Bool :=
  let l := secEnts h
  let len := imgLength h
  occurrencesOk l && zeroAt h (0x100 + 16 * imgSections h) (16 * (48 - imgSections h)) &&
    l.all (fun e =>
      decide (e.flags ≤ 1) && decide (e.offset % 64 = 0) && decide (1 ≤ e.length) && decide (0x400 ≤ e.offset) &&
        decide (e.offset + e.length ≤ len - 0x200) && decide (crc32 (imgBytes s c e.offset e.length) = e.crc)) &&
    noPair secOverlap l

/-- The signature block (R49). -/
def sigBlock (s : State) (c : Bool) (h : List Byte) : List Byte := imgBytes s c (imgLength h - 0x200) 0x200

/-- IMAGE_KEY of KEY_INDEX (R364). -/
def imageKeyNo (b : List Byte) : Nat := leAt b 5 1 % 2

/-- Signing slot `n` holds a key that is not revoked. -/
def slotKey (s : State) (n : Nat) : Option (List Byte) := if nth s.fuse.revoked n false then none else nth s.fuse.slots n none

/-- The digest that the signature covers. -/
def imgDigest (s : State) (c : Bool) (h : List Byte) : List Byte := Config.sha384 (imgBytes s c 0 (imgLength h - 0x200))

/-- Step 3 (R49, R364). -/
def step3 (s : State) (c : Bool) (h : List Byte) : Bool :=
  let b := sigBlock s c h
  decide (leAt b 0 4 = 0x4E474953) && decide (leAt b 4 4 % 256 ≤ 3) && decide (leAt b 4 4 / 256 ≤ 1) && zeroAt b 8 8 &&
    zeroAt b 0x70 400 &&
    match slotKey s (leAt b 4 4 % 4) with
    | none => false
    | some k => Config.ecdsaOk k (imgDigest s c h) (slice b 0x10 48) (slice b 0x40 48)

/-- Step 4: not below the anti-rollback counter. -/
def step4 (s : State) (h : List Byte) : Bool := decide (s.fuse.rollback ≤ imgSecVersion h)

/-- Image key `n` of the security area; one whose tag fails counts as absent (R363), and none is read once the storage key
is cleared (R362). -/
def imageKey (s : State) (n : Nat) : Option (List Byte) :=
  if s.sec.keys then (s.area.record (if n = 0 then 2 else 3)).value else none

/-- The plaintext of a section (R50); none where its tag does not verify or its key is absent. -/
def secPlain (s : State) (c : Bool) (key : Nat) (e : SecEnt) : Option (List Byte) :=
  let b := imgBytes s c e.offset e.length
  if e.flags % 2 = 0 then some b
  else if e.length < 32 ∨ !zeroAt b 12 4 then none
  else
    match imageKey s key with
    | none => none
    | some k => Config.gcmOpen k (b.take 12) e.head (slice b 16 (e.length - 32)) (b.drop (e.length - 16))

/-- Payloads by type and instance. -/
abbrev Pays := List (Nat × Nat × List Byte)

/-- The payloads of a copy; none where step 5 fails. -/
def payloads (s : State) (c : Bool) (key : Nat) (l : List SecEnt) : Option Pays :=
  match l with
  | [] => some []
  | e :: t =>
    match secPlain s c key e, payloads s c key t with
    | some b, some r => some ((e.type, e.inst, b) :: r)
    | _, _ => none

/-- Payload of a type and instance, where the image has the section. -/
def payOf (p : Pays) (t i : Nat) : Option (List Byte) :=
  match p with
  | [] => none
  | x :: r => if x.1 = t ∧ x.2.1 = i then some x.2.2 else payOf r t i

/-- The payload, empty without the section. -/
def pay (p : Pays) (t i : Nat) : List Byte := (payOf p t i).getD []

/-- The image has the section. -/
def hasPay (p : Pays) (t i : Nat) : Bool := (payOf p t i).isSome

/-- The payloads of a copy as step 5 gives them. -/
def copyPays (s : State) (c : Bool) : Option Pays :=
  let h := imgHeader s c
  payloads s c (imageKeyNo (sigBlock s c h)) (secEnts h)

/-! ## Parsing -/

/-- Core of position `p` of triad `t` in STRUCTURE (R53). -/
def strCore (b : List Byte) (t p : Nat) : Nat := leAt b (8 * t + p) 1
/-- Triad `t` is SPLIT in STRUCTURE. -/
def strSplit (b : List Byte) (t : Nat) : Bool := decide (leAt b (8 * t + 3) 1 = 1)
/-- HANDOVER of triad `t`. -/
def strHandover (b : List Byte) (t : Nat) : Bool := decide (leAt b (8 * t + 4) 1 % 2 = 1)

/-- Partitions of PARTITIONS (R57). -/
def parseParts (b : List Byte) : List Part :=
  (List.range (leAt b 0 2)).map (fun k =>
    let e := slice b (8 + 24 * k) 24
    { id := leAt e 0 2, mram := decide (leAt e 2 1 = 1), clear := decide (leAt e 3 1 % 2 = 1),
      shared := decide (leAt e 3 1 / 2 % 2 = 1), owners := leAt e 8 8, page := leAt e 16 4, count := leAt e 20 4 })

/-- Region entry `k` of PARTITIONS, its 16 bytes. -/
def regEnt (b : List Byte) (k : Nat) : List Byte := slice b (8 + 24 * leAt b 0 2 + 16 * k) 16

/-- The region entries. -/
def regEnts (b : List Byte) : List (List Byte) := (List.range (leAt b 2 2)).map (regEnt b)

/-- Locked PMP entries of triad `t`, the L bit forced (R60, R61). -/
def parsePmp (b : List Byte) (t : Nat) : List (Nat × Nat) :=
  let e := slice b (0x10 + 0x110 * t) 0x110
  (List.range (leAt e 0 1)).map (fun j => (leAt e (0x10 + 16 * j) 1 ||| 0x80, leAt e (0x18 + 16 * j) 8))

/-- Task entry `i` of TASKS (R157). -/
def parseTask (b : List Byte) (i : Nat) : Task :=
  let e := slice b (0x40 + 32 * i) 32
  { cls := leAt e 0 1, inst := leAt e 1 1, action := leAt e 2 1, missLimit := leAt e 3 1, every := leAt e 4 2,
    phase := leAt e 6 2, offset := leAt e 8 4, deadline := leAt e 12 4, wcet := leAt e 16 4 }

/-- The tasks. -/
def parseTasks (b : List Byte) : List Task := (List.range (leAt b 0 2)).map (parseTask b)

/-- A slot descriptor (R215). -/
def parseSlot (e : List Byte) : Slot :=
  { offset := leAt e 0 4, length := leAt e 4 4, kind := leAt e 8 1, port := leAt e 9 1, bytes := leAt e 10 2,
    buffer := leAt e 12 2 }

/-- A mode block at the start of `b` (R214). -/
def parseMode (b : List Byte) : SMode :=
  { periodUs := leAt b 0 4, earOffset := leAt b 4 4, maxRound := leAt b 8 4, kslots := leAt b 12 1,
    rslots := leAt b 13 1, klen16 := leAt b 14 1, rlen16 := leAt b 15 1,
    slots := (List.range (leAt b 16 2)).map (fun k => parseSlot (slice b (64 + 16 * k) 16)) }

/-- Length of a mode block. -/
def modeLen (b : List Byte) : Nat := 64 + 16 * leAt b 16 2

/-- The raw mode blocks that follow one another in `b`. -/
def modeBlocks (n : Nat) (b : List Byte) : List (List Byte) :=
  match n with
  | 0 => []
  | n + 1 => slice b 0 (modeLen b) :: modeBlocks n (b.drop (modeLen b))

/-- The raw mode blocks of a VYFABIN payload (R213). -/
def vyfBlocks (b : List Byte) : List (List Byte) := modeBlocks (leAt b 6 1) (b.drop 64)

/-- The schedule modes of an image; none without a VYFABIN section. -/
def parseModes (p : Pays) : List SMode :=
  match payOf p 9 0 with
  | none => []
  | some b => (vyfBlocks b).map parseMode

/-- Hub buffers (R243). -/
def parseHub (p : Pays) : List (Nat × Nat) :=
  match payOf p 10 0 with
  | none => []
  | some b => (List.range (leAt b 6 2)).map (fun k => (leAt b (0x40 + 4 * k) 1, leAt b (0x41 + 4 * k) 1))

/-- Glume connection entry `k` of the payload, its 32 bytes (R298). -/
def connBytes (b : List Byte) (k : Nat) : List Byte := slice b (64 + 32 * k) 32

/-- A Glume connection entry (R299). -/
def parseConn (e : List Byte) : ConnEnt :=
  { used := decide (leAt e 0 1 = 1), transport := leAt e 1 1, endNo := leAt e 2 1, send := decide (leAt e 3 1 % 2 = 1),
    recv := decide (leAt e 3 1 / 2 % 2 = 1), key := slice e 4 8, peer := leAt e 12 4, remote := leAt e 16 2,
    txWords := leAt e 18 1, rxWords := leAt e 19 1, seqGap := leAt e 20 1, ageMax := leAt e 21 1, timeout := leAt e 22 1,
    confirm := leAt e 23 1 }

/-- The Glume connections of an image. -/
def parseConns (p : Pays) : List ConnEnt :=
  match payOf p 12 0 with
  | none => []
  | some b => (List.range (leAt b 6 2)).map (fun k => parseConn (connBytes b k))

/-- Glume station entries, 272 bytes each (R300). -/
def stnEnts (p : Pays) : List (List Byte) :=
  match payOf p 12 0 with
  | none => []
  | some b => (List.range (leAt b 8 2)).map (fun k => slice b (64 + 32 * leAt b 6 2 + 272 * k) 272)

/-- `n` little-endian words at offset `o`. -/
def wordsAt (b : List Byte) (o n : Nat) : List Word := (List.range n).map (fun k => w32 (leAt b (o + 4 * k) 4))

/-- Offsets of the parts of an AWN payload (R126): K, timers, counters, edges, initial values, end. -/
def awnParts (b : List Byte) : Nat × Nat × Nat × Nat × Nat × Nat :=
  let k := 64 + 4 * leAt b 8 4
  let t := k + 4 * leAt b 0x12 2
  let c := t + 8 * leAt b 0x0C 2
  let e := c + 16 * leAt b 0x0E 2
  let i := e + 8 * leAt b 0x10 2
  (k, t, c, e, i, i + 8 * leAt b 0x14 2)

/-- A timer table entry. -/
def parseTimer (e : List Byte) : AwnObj := ⟨leAt e 0 4, leAt e 4 1, leAt e 5 1, leAt e 6 2, 0⟩
/-- A counter table entry; KIND is USED. -/
def parseCounter (e : List Byte) : AwnObj := ⟨leAt e 0 4, leAt e 4 1, 0, leAt e 6 2, w32 (leAt e 8 4)⟩
/-- An edge table entry. -/
def parseEdge (e : List Byte) : AwnObj := ⟨leAt e 0 4, leAt e 4 1, 0, 0, w32 (leAt e 5 1)⟩
/-- An initial-value entry. -/
def parseInit (e : List Byte) : AwnInit := ⟨leAt e 0 1, decide (leAt e 1 1 % 2 = 1), leAt e 2 2, w32 (leAt e 4 4)⟩

/-- `n` entries of `size` bytes from offset `o`. -/
def entriesAt (b : List Byte) (o size n : Nat) : List (List Byte) :=
  (List.range n).map (fun k => slice b (o + size * k) size)

/-- An Awn program without its longest path (R126). -/
def parseAwn (b : List Byte) : AwnProg :=
  let (k, t, c, e, i, _) := awnParts b
  { steps := wordsAt b 64 (leAt b 8 4), konst := wordsAt b k (leAt b 0x12 2),
    timers := (entriesAt b t 8 (leAt b 0x0C 2)).map parseTimer,
    counters := (entriesAt b c 16 (leAt b 0x0E 2)).map parseCounter,
    edges := (entriesAt b e 8 (leAt b 0x10 2)).map parseEdge,
    inits := (entriesAt b i 8 (leAt b 0x14 2)).map parseInit,
    id := leAt b 0x18 8, wcet := 0 }

/-! ## The loader's walk over an Awn program (R110, R113, R114, R128) -/

/-- Fields of a step word (R110). -/
def awnOpc (w : Word) : Nat := fieldOf w 31 26
/-- SPACE. -/
def awnSpc (w : Word) : Nat := fieldOf w 25 23
/-- N. -/
def awnN (w : Word) : Bool := bitOf w 22

/-- Object `n` of a table is used. -/
def objUsed (t : List AwnObj) (n : Nat) : Bool := decide ((awnObj t n).tag ≠ 0)

/-- A bit operand is allowed: to be read, or to be stored to (R107, R128). -/
def bitAllowed (p : AwnProg) (store : Bool) (sp idx : Nat) : Bool :=
  if store then bitStorable sp idx
  else
    match sp with
    | 0 => decide (idx < 8192)
    | 1 => decide (idx < 8192)
    | 2 => decide (idx < 8192)
    | 3 => decide (idx < 131072)
    | 4 => decide (idx < 2048) && objUsed p.timers idx
    | 5 => decide (idx < 1024) && objUsed p.counters idx
    | 6 => decide (idx < 12)
    | _ => false

/-- A word operand is allowed (R108, R128). -/
def wordAllowed (p : AwnProg) (store : Bool) (sp idx : Nat) : Bool :=
  if store then wordStorable ⟨sp, idx⟩
  else
    match sp with
    | 0 => decide (idx < 256)
    | 1 => decide (idx < 256)
    | 2 => decide (idx < 256)
    | 3 => decide (idx < 4096)
    | 4 => decide (idx < 1024)
    | 5 => decide (idx < 2048) && objUsed p.timers idx
    | 6 => decide (idx < 1024) && objUsed p.counters idx
    | _ => true

/-- The step word at step `n` decodes and its operands are allowed (R110, R111, R114, R128). -/
def awnWordOk (p : AwnProg) (n : Nat) (w : Word) : Bool :=
  let op := awnOpc w
  let b := fun (neg store : Bool) =>
    decide (fieldOf w 21 17 = 0) && (neg || !awnN w) && bitAllowed p store (awnSpc w) (fieldOf w 16 0)
  let wd := fun (store : Bool) => decide (fieldOf w 22 16 = 0) && wordAllowed p store (awnSpc w) (fieldOf w 15 0)
  let obj := fun (t : List AwnObj) => decide (fieldOf w 25 12 = 0) && objUsed t (fieldOf w 11 0)
  let jump := decide (fieldOf w 25 16 = 0) && decide (n < fieldOf w 15 0) && decide (fieldOf w 15 0 < p.steps.length)
  let none' := decide (fieldOf w 25 0 = 0)
  match op with
  | 0x01 | 0x02 | 0x03 | 0x04 => b true false
  | 0x05 => b true true
  | 0x06 | 0x07 => b false true
  | 0x08 | 0x10 | 0x11 | 0x12 | 0x13 | 0x14 | 0x15 => none'
  | 0x18 | 0x19 => obj p.timers
  | 0x1A | 0x1B | 0x1C | 0x1D => obj p.counters
  | 0x1E => obj p.edges
  | 0x20 => wd false
  | 0x21 => wd true
  | 0x22 | 0x23 | 0x24 | 0x25 | 0x26 | 0x27 | 0x28 | 0x29 | 0x2A => wd false
  | 0x2B | 0x2C | 0x2D | 0x2E | 0x2F | 0x30 => wd false
  | 0x31 | 0x32 | 0x33 => decide (fieldOf w 25 5 = 0)
  | 0x34 | 0x35 | 0x36 | 0x3E | 0x3F => none'
  | 0x38 | 0x39 | 0x3A => jump
  | _ => false

/-- Stack depth after a step met at depth `d`; none where R113 refuses it. -/
def awnDepth (w : Word) (d : Nat) : Option Nat :=
  match awnOpc w with
  | 0x10 => if d < 16 then some (d + 1) else none
  | 0x11 | 0x13 | 0x14 | 0x15 => if d = 0 then none else some (d - 1)
  | 0x12 => if d = 0 then none else some d
  | 0x3F => if d = 0 then some d else none
  | _ => some d

/-- The walk so far: paths that arrive at the next step by falling through or by a jump, as (depth, longest cost). -/
structure AwnWalk where
  ok : Bool
  fall : Option (Nat × Nat)
  /-- jumps taken further on: target, depth, cost -/
  jumps : List (Nat × Nat × Nat)
  /-- the next word is the literal of an LDL reached as an instruction, whose path goes on after it -/
  literal : Option (Nat × Nat)
  /-- longest path to an END -/
  best : Nat
  /-- (opcode, object) of every object step reached -/
  objs : List (Nat × Nat)
  deriving DecidableEq, Repr

/-- Paths that meet at a step: one depth, the longest cost; none where they disagree or there is none. -/
def meet (l : List (Nat × Nat)) : Option (Option (Nat × Nat)) :=
  match l with
  | [] => some none
  | a :: t => if t.all (fun b => decide (b.1 = a.1)) then some (some (a.1, (l.map (fun b => b.2)).foldl Nat.max 0)) else none

/-- One step word of the walk. -/
def awnWalkStep (p : AwnProg) (n : Nat) (w : Word) (x : AwnWalk) : AwnWalk :=
  let here := (x.jumps.filter (fun j => decide (j.1 = n))).map (fun j => j.2)
  let later := x.jumps.filter (fun j => decide (j.1 ≠ n))
  match x.literal with
  | some a => { x with ok := x.ok && here.isEmpty, jumps := later, literal := none, fall := some a }
  | none =>
    match meet (here ++ x.fall.toList) with
    | none => { x with ok := false, fall := none, jumps := later }
    | some none => { x with fall := none, jumps := later }
    | some (some (d, c)) =>
      match awnDepth w d with
      | none => { x with ok := false, fall := none, jumps := later }
      | some d' =>
        let op := awnOpc w
        let x := { x with
          ok := x.ok && awnWordOk p n w, jumps := later,
          objs := if 0x18 ≤ op ∧ op ≤ 0x1E then (op, fieldOf w 11 0) :: x.objs else x.objs }
        match op with
        | 0x3F => { x with fall := none, best := Nat.max x.best (c + 1) }
        | 0x38 => { x with fall := none, jumps := (fieldOf w 15 0, d', c + 1) :: x.jumps }
        | 0x39 | 0x3A => { x with fall := some (d', c + 1), jumps := (fieldOf w 15 0, d', c + 1) :: x.jumps }
        | 0x36 => { x with fall := none, literal := some (d', c + 2) }
        | _ => { x with fall := some (d', c + 1) }

/-- The walk over the words from step `n`. -/
def awnWalkFrom (p : AwnProg) (n : Nat) (l : List Word) (x : AwnWalk) : AwnWalk :=
  match l with
  | [] => x
  | w :: t => awnWalkFrom p (n + 1) t (awnWalkStep p n w x)

/-- The loader's walk over a program. -/
def awnWalk (p : AwnProg) : AwnWalk := awnWalkFrom p 0 p.steps ⟨true, some (0, 0), [], none, 0, []⟩

/-- Every path ends at an END, and every step reached is allowed (R113, R114). -/
def AwnWalk.good (x : AwnWalk) : Bool := x.ok && x.fall.isNone && x.literal.isNone && x.jumps.isEmpty

/-- An Awn program with its longest path, AWN_PROG_WCET. -/
def awnWithWcet (b : List Byte) : AwnProg :=
  let p := parseAwn b
  { p with wcet := (awnWalk p).best }

/-- The Awn program of an image. -/
def parseProg (p : Pays) : Option AwnProg :=
  match payOf p 13 0 with
  | none => none
  | some b => some (awnWithWcet b)

/-- The contents of an image that no register shows. -/
def parseImg (h : List Byte) (p : Pays) : Img :=
  let dep := pay p 4 0
  { loaded := true
    imageId := slice h 0x28 16
    secVersion := imgSecVersion h
    confirmCycles := leAt h 0x1C 4
    parts := parseParts (pay p 2 0)
    cores := (List.range 24).filterMap (fun i =>
      match payOf p 6 i with
      | none => none
      | some b => some (i, leAt b 0 8, leAt b 8 8))
    pmp := (List.range 6).map (parsePmp (pay p 3 0))
    debugPolicy := leAt (pay p 3 0) 0 1
    pairMode := decide (leAt dep 0 1 = 1)
    backbone := decide (leAt dep 1 1 = 1)
    vehicleId := leAt dep 8 4
    end1Port := leAt dep 12 1
    settle := leAt dep 13 1
    gateway := decide (leAt dep 14 1 % 2 = 1)
    target := decide (leAt dep 14 1 / 2 % 2 = 1)
    engines := (List.range 6).map (fun i => pay p 5 i)
    tasks := parseTasks (pay p 7 0)
    fio := hasPay p 8 0
    modes := parseModes p
    hubBufs := parseHub p
    can := [hasPay p 11 0, hasPay p 11 1]
    conns := parseConns p
    awn := parseProg p
    culm := hasPay p 14 0 }

/-! ## The LK words of the sections (R42, R70) -/

/-- An LK word: its offset from 0x0_F000_0000, and its value. -/
def lkw (window off : Nat) (v : Word) : Nat × Word := (0x10000 * window + off, v)

/-- Firewall regions: the image's, and the boot ROM's for 0x2B to 0x2E (R58). -/
def lkFirewall (p : Pays) : List (Nat × Word) :=
  let reg := fun (n r : Nat) (b l a : Word) =>
    let o := 0x1000 + 0x100 * n + 0x10 * r
    [lkw 4 o (b &&& 0xFFFFFF#32), lkw 4 (o + 4) (l &&& 0xFFFFFF#32), lkw 4 (o + 8) (a &&& 15#32)]
  ((List.range 4).map (fun k => ((List.range 16).map (fun r =>
      let f := Config.fixedRegion (0x2B + k) r
      reg (0x2B + k) r f.1 f.2.1 f.2.2)).flatten)).flatten ++
    ((regEnts (pay p 2 0)).map (fun e =>
      reg (leAt e 0 1) (leAt e 1 1) (w32 (leAt e 4 4)) (w32 (leAt e 8 4)) (w32 (leAt e 2 1)))).flatten

/-- CYC and SCH words of TASKS (R156). -/
def lkTasks (b : List Byte) : List (Nat × Word) :=
  let hold := leAt b 10 2
  [ lkw 2 0x20 (place (leAt b 4 2) 15 0 ||| place (leAt b 6 1) 17 16),
    lkw 2 0x24 (place (leAt b 8 2) 15 0),
    lkw 2 0x28 (placeB (decide (hold / 2 ^ 15 = 1)) 31 ||| place hold 12 0),
    lkw 2 0x30 (place (leAt b 12 4) 23 0),
    lkw 2 0x34 (place (leAt b 16 4) 23 0),
    lkw 3 0x30 (place (leAt b 0x14 1) 7 0 ||| place (leAt b 0x15 1) 15 8 ||| place (leAt b 0x16 1) 23 16 |||
      place (leAt b 0x17 1) 27 24),
    lkw 3 0x34 (place (leAt b 0x18 2) 15 0 ||| place (leAt b 0x1A 2) 31 16) ] ++
    (List.range (leAt b 0 2)).map (fun i =>
      let t := parseTask b i
      lkw 3 (0x1000 + 0x10 * i)
        (placeB true 31 ||| place t.inst 12 8 ||| place t.missLimit 7 4 ||| place t.action 2 2 ||| place t.cls 1 0))

/-- FIO words (R323). -/
def lkFio (b : List Byte) : List (Nat × Word) :=
  [lkw 9 0x20 (place (leAt b 8 2) 13 0 ||| place (leAt b 10 1) 17 16)] ++
    (List.range 40).map (fun i =>
      let e := slice b (0x40 + 8 * i) 8
      lkw 9 (0x200 + 4 * i) (place (leAt e 0 1) 2 0 ||| place (leAt e 1 1) 15 8 ||| place (leAt e 2 1) 17 16)) ++
    ((List.range 16).map (fun n =>
      let e := slice b (0x180 + 16 * n) 16
      [ lkw 9 (0x400 + 8 * n) (place (leAt e 0 1) 31 31 ||| place (leAt e 4 2) 25 16 ||| place (leAt e 1 1) 15 12 |||
          place (leAt e 2 2) 8 0),
        lkw 9 (0x404 + 8 * n) (place (leAt e 10 1) 31 26 ||| place (leAt e 8 2) 25 16 ||| place (leAt e 6 2) 9 0) ])).flatten

/-- VYF words (R213). -/
def lkVyf (b : List Byte) : List (Nat × Word) :=
  [ lkw 5 0x3C (w32 (leAt b 8 4)),
    lkw 5 0x40 (place (leAt b 6 1) 18 16 ||| place (leAt b 13 1 / 128) 12 12 ||| place (leAt b 13 1) 11 8 |||
      place (leAt b 12 1) 7 4 ||| place (leAt b 7 1) 1 0) ]

/-- HUB words (R243, R63). -/
def lkHub (b dep : List Byte) : List (Nat × Word) :=
  [ lkw 6 0x20 (place (leAt b 8 4) 25 0), lkw 6 0x24 (place (leAt b 6 2) 16 8 ||| place (leAt dep 2 1) 7 0) ]

/-- The shadow partition: the DRAM partition that 0x23 owns (R266). -/
def shadowPart (l : List Part) : Option Part := l.find? (fun x => !x.mram && x.owners.testBit 0x23)

/-- PAIR words (R266). -/
def lkPair (p : Pays) : List (Nat × Word) :=
  match shadowPart (parseParts (pay p 2 0)) with
  | some x =>
    if leAt (pay p 4 0) 0 1 = 1 then [lkw 7 0x44 (place x.page 23 0), lkw 7 0x48 (place x.count 4 0)] else []
  | none => []

/-- GLM words, and the CYC station registers and safe values (R298, R300). -/
def lkGlume (p : Pays) (b : List Byte) : List (Nat × Word) :=
  [ lkw 8 0x20 (place (leAt b 6 2) 25 16 ||| place (leAt b 8 2) 7 0), lkw 8 0x24 (place (leAt b 12 4) 23 0) ] ++
    ((stnEnts p).map (fun e =>
      let k := leAt e 0 1
      let o := 0x1000 + 0x10 * k
      [ lkw 2 o (placeB true 31 ||| place (leAt e 2 2) 24 16 ||| place (leAt e 1 1) 7 0),
        lkw 2 (o + 4) (place (leAt e 4 1) 31 24 ||| place (leAt e 5 1) 22 16 ||| place (leAt e 6 1) 14 8),
        lkw 2 (o + 8) (place (leAt e 7 1) 31 24 ||| place (leAt e 8 1) 22 16 ||| place (leAt e 9 1) 14 8) ] ++
        (List.range 64).map (fun w => lkw 2 (0x8000 + 0x100 * k + 4 * w) (w32 (leAt e (0x10 + 4 * w) 4))))).flatten

/-- CAN words of controller `n` (R337). -/
def lkCan (n : Nat) (b : List Byte) : List (Nat × Word) :=
  let w := 10 + n
  let flags := leAt b 0x12 2
  [ lkw w 0x24 (place (leAt b 8 1) 30 25 ||| place (leAt b 10 2) 24 16 ||| place (leAt b 12 1) 15 8 |||
      place (leAt b 9 1) 7 0),
    lkw w 0x28 (place (leAt b 13 1) 29 24 ||| place (leAt b 14 1) 21 16 ||| place (leAt b 15 1) 12 8 |||
      place (leAt b 16 1) 4 0),
    lkw w 0x2C (place (flags / 2) 16 16 ||| place (leAt b 17 1) 6 0),
    lkw w 0x30 (place (leAt b 0x1D 1) 15 8 ||| place flags 4 0),
    lkw w 0x34 (place (leAt b 0x16 2) 26 16 ||| place (leAt b 0x15 1) 15 8 ||| place (leAt b 0x14 1) 1 0),
    lkw w 0x38 (w32 (leAt b 0x18 4)),
    lkw w 0x48 (place (leAt b 0x1C 1) 7 0) ] ++
    ((List.range (leAt b 6 2)).map (fun k =>
      let e := slice b (0x40 + 16 * k) 16
      let o := 0x1000 + 0x10 * k
      [ lkw w (o + 4) (place (leAt e 4 4) 28 0), lkw w (o + 8) (place (leAt e 8 4) 28 0),
        lkw w (o + 12) (place (leAt e 1 1) 11 8 ||| place (leAt e 0 1) 5 0) ])).flatten

/-- CULM words (R345). -/
def lkCulm (b : List Byte) : List (Nat × Word) :=
  let hi := fun (v : Nat) => w32 v &&& 0xFFFF0000#32
  ((List.range 16).map (fun w =>
      let e := slice b (0x40 + 16 * w) 16
      let o := 0x1000 + 0x20 * w
      [ lkw 12 (o + 4) (hi (leAt e 0 4)), lkw 12 (o + 8) (hi (leAt e 4 4)), lkw 12 (o + 12) (hi (leAt e 8 4)),
        lkw 12 (o + 16) (place (leAt e 12 1) 4 0) ])).flatten ++
    ((List.range 4).map (fun v =>
      let e := slice b (0x140 + 16 * v) 16
      let o := 0x1400 + 0x20 * v
      [ lkw 12 (o + 4) (hi (leAt e 0 4)), lkw 12 (o + 8) (hi (leAt e 4 4)),
        lkw 12 (o + 12) (place (leAt e 8 4) 23 0), lkw 12 (o + 16) (place (leAt e 12 1) 2 0) ])).flatten

/-- The words of an optional section. -/
def lkOpt (x : Option (List Byte)) (f : List Byte → List (Nat × Word)) : List (Nat × Word) :=
  match x with
  | none => []
  | some b => f b

/-- Every LK word of the image. -/
def lkImage (p : Pays) : List (Nat × Word) :=
  lkFirewall p ++ lkTasks (pay p 7 0) ++ lkOpt (payOf p 8 0) lkFio ++ lkOpt (payOf p 9 0) lkVyf ++
    lkOpt (payOf p 10 0) (fun b => lkHub b (pay p 4 0)) ++ lkPair p ++ lkOpt (payOf p 12 0) (lkGlume p) ++
    lkOpt (payOf p 11 0) (lkCan 0) ++ lkOpt (payOf p 11 1) (lkCan 1) ++ lkOpt (payOf p 14 0) lkCulm

end Sys2Proof.Machine
end

