-- ==== Sys2Proof/Machine/ImageRules.lean ====
section
/-! DEFINITION. Steps 6 and 7 of R64: the payload rules R53 and R55 to R63, and the checks that each section's chapter
states (R113, R114, R126 to R128, R134, R139, R156 to R158, R176, R213 to R216, R243, R244, R248, R249, R266, R272, R298 to
R301, R323, R325, R337, R338, R345, R346). -/

namespace Sys2Proof.Machine

/-- `lo ≤ v ≤ hi`. -/
def inRange (lo hi v : Nat) : Bool := decide (lo ≤ v) && decide (v ≤ hi)

/-- The numbers of a list differ. -/
def distinct {α : Type} [DecidableEq α] (l : List α) : Bool := noPair (fun a b => decide (a = b)) l

/-! ## STRUCTURE, CORE_IMAGE (R53, R55, R56) -/

/-- The core numbers of STRUCTURE in order. -/
def strCores (b : List Byte) : List Nat :=
  ((List.range 6).map (fun t => (List.range 3).map (fun p => strCore b t p))).flatten ++ [leAt b 0x30 1, leAt b 0x31 1]

/-- R53. -/
def structureOk (b : List Byte) : Bool :=
  decide (b.length = 0x40) &&
    (List.range 6).all (fun t =>
      decide (leAt b (8 * t + 3) 1 ≤ 1) && decide (leAt b (8 * t + 4) 1 ≤ 1) && zeroAt b (8 * t + 5) 3) &&
    zeroAt b 0x32 14 && (strCores b).all (fun c => decide (c < 20)) && distinct (strCores b)

/-- R55: the split instances and the triad instance of triad `t`. -/
def coreImagesOk (p : Pays) (t : Nat) : Bool :=
  let b := pay p 1 0
  let triad := !strSplit b t || strHandover b t
  let split := strSplit b t || strHandover b t
  hasPay p 6 (4 * t) == triad && [1, 2, 3].all (fun k => hasPay p 6 (4 * t + k) == split)

/-- Cores that run CORE_IMAGE instance `i`. -/
def instCores (b : List Byte) (i : Nat) : List Nat :=
  if i % 4 = 0 then (List.range 3).map (fun p => strCore b (i / 4) p) else [strCore b (i / 4) (i % 4 - 1)]

/-- First address of a partition. -/
def Part.first (x : Part) : Nat := 4096 * x.page
/-- Address after a partition. -/
def Part.stop (x : Part) : Nat := 4096 * (x.page + x.count)

/-- R56. -/
def coreImageOk (p : Pays) (i : Nat) : Bool :=
  match payOf p 6 i with
  | none => true
  | some b =>
    let a := leAt b 0 8
    let n := leAt b 16 4
    decide (1 ≤ n) && decide (b.length = 0x20 + n) && zeroAt b 0x14 12 && inRange a (a + n - 1) (leAt b 8 8) &&
      (parseParts (pay p 2 0)).any (fun x =>
        !x.mram && decide (x.first ≤ a) && decide (a + n ≤ x.stop) &&
          (instCores (pay p 1 0) i).all (fun c => x.owners.testBit c))

/-! ## PARTITIONS (R57, R58, R176) -/

/-- Two partitions share a page. -/
def partOverlap (a b : Part) : Bool := decide (a.page < b.page + b.count) && decide (b.page < a.page + a.count)

/-- An initiator of R19 whose regions an image may set (R58). -/
def imgInitiator (n : Nat) : Bool := inRange 0 0x13 n || inRange 0x18 0x1D n || inRange 0x20 0x2A n

/-- R57, one partition entry. -/
def partOk (e : List Byte) : Bool :=
  let page := leAt e 16 4
  let n := leAt e 20 4
  decide (leAt e 2 1 ≤ 1) && decide (leAt e 3 1 ≤ 3) && zeroAt e 4 4 && decide (1 ≤ n) &&
    (if leAt e 2 1 = 0 then decide (0x100000 ≤ page) && decide (page + n ≤ 0x200000)
     else decide (0x4400 ≤ page) && decide (page + n ≤ 0x5000))

/-- A region entry grants W over a partition that refuses it (R58). -/
def regionSteals (parts : List Part) (e : List Byte) : Bool :=
  let lo := leAt e 4 4
  let hi := leAt e 8 4
  decide (leAt e 2 1 % 2 = 1) && decide (leAt e 2 1 / 4 % 2 = 1) && decide (lo ≤ hi) &&
    parts.any (fun x =>
      !x.shared && !x.owners.testBit (leAt e 0 1) && decide (x.page ≤ hi) && decide (lo < x.page + x.count))

/-- A region entry grants W or X below the application range of MRAM (R176). -/
def regionReserved (e : List Byte) : Bool :=
  decide (leAt e 2 1 % 2 = 1) && decide (4 ≤ leAt e 2 1) && decide (leAt e 4 4 ≤ leAt e 8 4) &&
    decide (leAt e 4 4 < 0x4400) && decide (0x4000 ≤ leAt e 8 4)

/-- R57, R58, R176. -/
def partitionsOk (b : List Byte) : Bool :=
  let n := leAt b 0 2
  let r := leAt b 2 2
  let parts := parseParts b
  let regs := regEnts b
  decide (n ≤ 256) && decide (r ≤ 1024) && zeroAt b 4 4 && decide (b.length = 8 + 24 * n + 16 * r) &&
    (entriesAt b 8 24 n).all partOk && distinct (parts.map (fun x => x.id)) && noPair partOverlap parts &&
    regs.all (fun e =>
      imgInitiator (leAt e 0 1) && decide (leAt e 1 1 ≤ 15) && decide (leAt e 2 1 ≤ 15) && zeroAt e 3 1 &&
        decide (leAt e 4 4 < 0x1000000) && decide (leAt e 8 4 < 0x1000000) && zeroAt e 12 4 &&
        !regionSteals parts e && !regionReserved e) &&
    distinct (regs.map (fun e => leAt e 0 2))

/-! ## PROTECTION (R60 to R62) -/

/-- A locked PMP entry (R60, R62). -/
def pmpOk (e : List Byte) : Bool :=
  let c := leAt e 0 1
  decide (c / 32 % 4 = 0) && !(decide (c / 2 % 2 = 1) && decide (c % 2 = 0)) && zeroAt e 1 7 && decide (leAt e 8 8 < 2 ^ 34)

/-- R60 to R62. -/
def protectionOk (b : List Byte) : Bool :=
  decide (b.length = 0x670) && decide (leAt b 0 1 ≤ 1) && zeroAt b 1 15 &&
    (List.range 6).all (fun t =>
      let e := slice b (0x10 + 0x110 * t) 0x110
      let n := leAt e 0 1
      decide (n ≤ 16) && zeroAt e 1 15 &&
        (List.range 16).all (fun j =>
          let x := slice e (0x10 + 16 * j) 16
          if j < n then pmpOk x else allZero x))

/-! ## DEPLOYMENT, ENGINE (R52, R63, R248, R249) -/

/-- CLAIM_SLOTS of a mode (R250); `KSLOTS` where no entry fits. -/
def claimSlotsOf (m : SMode) : Nat :=
  let e := m.rlen16 - 2
  if e = 0 then m.kslots else (m.kslots + e - 1) / e

/-- R63, R248, R249. -/
def deploymentOk (p : Pays) : Bool :=
  let b := pay p 4 0
  let modes := parseModes p
  decide (b.length = 0x40) && decide (leAt b 0 1 ≤ 1) && decide (leAt b 1 1 ≤ 1) && zeroAt b 3 5 &&
    decide (leAt b 14 1 ≤ 3) && zeroAt b 15 49 &&
    (decide (leAt b 1 1 = 0) || hasPay p 9 0) && (decide (leAt b 2 1 = 0) || hasPay p 10 0) &&
    (!hasPay p 10 0 || hasPay p 9 0) &&
    (decide (leAt b 1 1 = 0) ||
      (decide (leAt b 8 4 ≠ 0) && decide (leAt b 12 1 ≤ 1) && decide (4 ≤ leAt b 13 1) &&
        modes.all (fun m => decide (m.kslots = (modes.headD ⟨0, 0, 0, 0, 0, 0, 0, []⟩).kslots)) &&
        modes.all (fun m => decide (claimSlotsOf m + 1 ≤ m.rslots))))

/-- An ENGINE payload's header (R52). -/
def engineOk (p : Pays) (i : Nat) : Bool := decide (16 ≤ (pay p 5 i).length) && decide (leAt (pay p 5 i) 0 1 = i)

/-! ## TASKS (R134, R156 to R158) -/

/-- OUT_OFFSET in µs. -/
def imgOut (p : Pays) : Nat := leAt (pay p 7 0) 8 2

/-- The shortest period in µs (R158). -/
def minPeriod (p : Pays) : Nat :=
  match parseModes p with
  | [] => leAt (pay p 7 0) 4 2
  | m :: t => t.foldl (fun n x => Nat.min n x.periodUs) m.periodUs

/-- Lead in µs plus S, within O: S is 9.32 µs and 2.5 ns for each step of the longest path (R133, R134, R266). -/
def scanFits (lead wcet o : Nat) : Bool := decide (10000 * lead + 93200 + 25 * wcet ≤ 10000 * o)

/-- The longest path of the image's Awn program; 0 without one. -/
def imgWcet (p : Pays) : Nat :=
  match parseProg p with
  | none => 0
  | some a => a.wcet

/-- The header of TASKS (R156). -/
def tasksHeaderOk (b : List Byte) : Bool :=
  let n := leAt b 0 2
  decide (n ≤ 256) && decide (b.length = 0x40 + 32 * n) && zeroAt b 2 2 && decide (leAt b 6 1 ≤ 3) && zeroAt b 7 1 &&
    decide (leAt b 10 2 / 2 ^ 13 % 4 = 0) && decide (leAt b 12 4 < 2 ^ 24) && decide (leAt b 16 4 < 2 ^ 24) &&
    decide (leAt b 0x14 1 ≤ 60) && decide (leAt b 0x15 1 ≤ leAt b 0x14 1) && decide (leAt b 0x16 1 ≤ leAt b 0x15 1) &&
    decide (leAt b 0x17 1 ≤ 8) && decide (leAt b 0x1A 2 ≤ leAt b 0x18 2) && zeroAt b 0x1C 36

/-- One task (R157, R158), `o` and `per` in µs. -/
def taskOk (p : Pays) (o per : Nat) (t : Task) : Bool :=
  decide (t.cls ≤ 3) && decide (t.action ≤ 1) && inRange 1 15 t.missLimit && inRange 1 1024 t.every &&
    decide (t.phase < t.every) && decide (t.inst < 24) && hasPay p 6 t.inst &&
    (match t.cls with
     | 3 => decide (t.deadline = 0) && decide (t.action = 0) && decide (t.offset < per)
     | 2 =>
       decide (0 < t.wcet) && decide (t.wcet ≤ t.deadline) && decide (t.offset < per) &&
         decide (t.offset + t.deadline ≤ t.every * per)
     | c =>
       decide (t.offset = 10) && decide (t.every = 1) && decide (t.wcet ≤ t.deadline) && decide (10 + t.deadline ≤ o) &&
         decide (t.inst % 4 = 0) && (decide (c = 1) || (decide (t.action = 1) && decide (t.missLimit ≤ 3))))

/-- The demand test of a triad (R158). -/
def demandOk (l : List Task) (t : Nat) : Bool :=
  let l := l.filter (fun x => decide (x.cls ≤ 1 ∧ x.inst / 4 = t))
  l.all (fun k =>
    decide ((l.filter (fun x => decide (x.deadline ≤ k.deadline))).foldl (fun n x => n + x.wcet) 0 ≤ k.deadline))

/-- R134, R156 to R158. -/
def tasksOk (p : Pays) : Bool :=
  let b := pay p 7 0
  let l := parseTasks b
  let per := minPeriod p
  tasksHeaderOk b && (hasPay p 9 0 || inRange 500 64000 (leAt b 4 2)) && scanFits 10 (imgWcet p) (imgOut p) &&
    decide (imgOut p + 20 ≤ per) && (entriesAt b 0x40 32 (leAt b 0 2)).all (fun e => zeroAt e 0x14 12) &&
    l.all (taskOk p (imgOut p) per) && (List.range 6).all (demandOk l)

/-! ## FIELD_IO (R323) -/

/-- An input entry. -/
def fioInOk (e : List Byte) : Bool :=
  if leAt e 0 1 = 0 then allZero e
  else
    decide (leAt e 0 1 ≤ 5) && decide (1 ≤ leAt e 1 1) && decide (leAt e 2 1 ≤ 3) && zeroAt e 3 5 &&
      (decide (leAt e 2 1 % 2 = 0) || decide (leAt e 0 1 = 1 ∨ leAt e 0 1 = 3))

/-- An output entry of a group mask. -/
def fioOutOk (groups n : Nat) (e : List Byte) : Bool :=
  if leAt e 0 1 = 0 then allZero e
  else
    decide (leAt e 0 1 = 1) && decide (leAt e 1 1 < 16) && inRange 100 300 (leAt e 2 2) && decide (leAt e 4 2 ≤ 1000) &&
      zeroAt e 11 5 && groups.testBit (n / 8) &&
      (if leAt e 1 1 / 2 % 2 = 1 then
        inRange 1 1000 (leAt e 6 2) && inRange 1 1000 (leAt e 8 2) && inRange 1 63 (leAt e 10 1)
       else zeroAt e 6 5 && decide (leAt e 1 1 / 4 % 2 = 0))

/-- R323. -/
def fioOk (b : List Byte) : Bool :=
  decide (b.length = 640) && decide (leAt b 0 4 = 0x314F4946) && decide (leAt b 4 2 = 1) && zeroAt b 6 2 &&
    inRange 20 10000 (leAt b 8 2) && decide (leAt b 10 1 ≤ 3) && zeroAt b 11 53 &&
    (entriesAt b 0x40 8 40).all fioInOk &&
    (List.range 16).all (fun n => fioOutOk (leAt b 10 1) n (slice b (0x180 + 16 * n) 16))

/-! ## VYFABIN (R213 to R216) and HUB (R243, R244) -/

/-- Half-open intervals share an instant. -/
def spansMeet (a n b m : Nat) : Bool := decide (a < b + m) && decide (b < a + n)

/-- Two slots of the same KIND and PORT overlap. -/
def slotOverlap (a b : Slot) : Bool :=
  decide (a.kind = b.kind) && decide (a.port = b.port) && spansMeet a.offset a.length b.offset b.length

/-- Descriptors in ascending OFFSET. -/
def slotsRise (l : List Slot) : Bool :=
  match l with
  | [] => true
  | a :: t => t.all (fun b => decide (a.offset ≤ b.offset)) && slotsRise t

/-- A descriptor's own fields (R215), `per` the period in ns. -/
def slotOk (per : Nat) (e : List Byte) : Bool :=
  let x := parseSlot e
  decide (x.offset % 8 = 0) && decide (x.length % 8 = 0) && decide (512 ≤ x.length) && inRange 1 4 x.kind &&
    (if x.kind ≤ 2 then decide (x.port < 8) else decide (x.port = 0)) && inRange 64 1522 x.bytes && zeroAt e 14 2 &&
    decide (x.offset + x.length ≤ per)

/-- Length of a mode's frame on the wire, ns (R207). -/
def frameTime (m : SMode) : Nat := (66 + 16 * (m.kslots * m.klen16 + m.rslots * m.rlen16)) * 8

/-- A mode block (R214, R216), `o` in ns. -/
def modeOk (o : Nat) (b : List Byte) : Bool :=
  let m := parseMode b
  let per := 1000 * m.periodUs
  inRange 500 64000 m.periodUs && decide (m.earOffset % 8 = 0) && inRange 1 64 m.kslots && decide (m.rslots ≤ 16) &&
    inRange 4 64 m.klen16 && (if m.rslots = 0 then decide (m.rlen16 = 0) || inRange 4 64 m.rlen16 else inRange 4 64 m.rlen16) &&
    decide (leAt b 16 2 ≤ 4096) && zeroAt b 18 46 &&
    decide (48 + 16 * (m.kslots * m.klen16 + m.rslots * m.rlen16) ≤ 16384) && decide (o + 30000 ≤ m.earOffset) &&
    decide (m.earOffset + frameTime m + m.maxRound + 20000 ≤ per) && slotsRise m.slots && noPair slotOverlap m.slots &&
    (entriesAt b 64 16 (leAt b 16 2)).all (slotOk per)

/-- R213 to R216. -/
def vyfabinOk (o : Nat) (b : List Byte) : Bool :=
  let n := leAt b 6 1
  let blocks := vyfBlocks b
  decide (leAt b 0 4 = 0x31465956) && decide (leAt b 4 2 = 1) && inRange 1 4 n && decide (leAt b 7 1 < n) &&
    decide ((leAt b 12 1).testBit (leAt b 7 1) = true) && decide (leAt b 12 1 < 2 ^ n) &&
    decide (leAt b 13 1 / 16 % 8 = 0) && zeroAt b 14 50 &&
    decide (b.length = 64 + (blocks.map List.length).foldl (· + ·) 0) &&
    decide (leAt b 8 4 = crc32 ((blocks.map (fun x => slice x 0 16)).flatten)) && blocks.all (modeOk o)

/-- R244 for one mode of an image. -/
def hubModeOk (bufs : List (Nat × Nat)) (ports beacon : Nat) (m : SMode) : Bool :=
  let per := 1000 * m.periodUs
  let rx := m.slots.filter (fun x => decide (x.kind = 1))
  let tx := m.slots.filter (fun x => decide (x.kind = 2))
  decide (beacon + 672 ≤ per) &&
    (rx ++ tx).all (fun x =>
      ports.testBit x.port && decide (bufs[x.buffer]? = some (x.kind, x.port)) &&
        decide ((x.bytes + 20) * 8 ≤ x.length)) &&
    distinct (rx.map (fun x => x.buffer)) &&
    rx.all (fun x => decide (1000 ≤ x.offset) && decide (x.offset + x.length + 1000 ≤ per)) &&
    noPair (fun a b => spansMeet a.offset (a.length + 2000) b.offset (b.length + 2000)) rx &&
    tx.all (fun x => !spansMeet x.offset x.length beacon 672)

/-- R243, R244. -/
def hubOk (p : Pays) : Bool :=
  let ports := leAt (pay p 4 0) 2 1
  match payOf p 10 0 with
  | none => (parseModes p).all (fun m => m.slots.all (fun x => decide (3 ≤ x.kind)))
  | some b =>
    let n := leAt b 6 2
    decide (leAt b 0 4 = 0x31425548) && decide (leAt b 4 2 = 1) && inRange 1 256 n && decide (leAt b 8 4 % 8 = 0) &&
      zeroAt b 12 52 && decide (b.length = 0x40 + 4 * n) &&
      (entriesAt b 0x40 4 n).all (fun e => inRange 1 2 (leAt e 0 1) && decide (leAt e 1 1 ≤ 7) && zeroAt e 2 2) &&
      (parseModes p).all (hubModeOk (parseHub p) ports (leAt b 8 4))

/-! ## Pairs (R266, R272) -/

/-- Blocks that cover `n` objects, `per` to a block, from block `b` (R270). -/
def blocksFrom (b n per : Nat) : List Nat := (List.range ((n + per - 1) / per)).map (fun k => b + k)

/-- The blocks that an image's shadow sends (R270). -/
def imgBlocks (p : Pays) : List Nat :=
  (match parseProg p with
   | none => []
   | some a =>
     List.range 24 ++ blocksFrom 24 a.timers.length 64 ++ blocksFrom 56 a.counters.length 64 ++
       blocksFrom 72 a.edges.length 128) ++
    (match shadowPart (parseParts (pay p 2 0)) with
     | none => []
     | some x => blocksFrom 128 (4 * x.count) 1)

/-- R272 for one mode, `o` in ns. -/
def pairModeOk (blocks : List Nat) (o : Nat) (m : SMode) : Bool :=
  let per := 1000 * m.periodUs
  let l := m.slots.filter (fun x => decide (3 ≤ x.kind))
  let bufs := fun (k : Nat) => (l.filter (fun x => decide (x.kind = k))).map (fun x => x.buffer)
  let once := fun (k : Nat) =>
    decide ((bufs k).count 0 = 1) && blocks.all (fun n => decide ((bufs k).count (n + 1) = 1))
  once 3 && once 4 &&
    l.all (fun x =>
      (decide (x.buffer = 0) || blocks.contains (x.buffer - 1)) &&
        decide (x.bytes = if x.buffer = 0 then 82 else 1078) && decide ((x.bytes + 20) * 8 ≤ x.length) &&
        decide (o + 20000 ≤ x.offset) && decide (x.offset + x.length + 1000 ≤ per)) &&
    noPair (fun a b => spansMeet a.offset a.length b.offset b.length) (l.filter (fun x => decide (x.kind = 3))) &&
    noPair (fun a b => spansMeet a.offset (a.length + 2000) b.offset (b.length + 2000))
      (l.filter (fun x => decide (x.kind = 4)))

/-- R266. -/
def pairOk (p : Pays) : Bool :=
  let dep := pay p 4 0
  let modes := parseModes p
  let mine := (parseParts (pay p 2 0)).filter (fun x => !x.mram && x.owners.testBit 0x23)
  if leAt dep 0 1 = 0 then modes.all (fun m => m.slots.all (fun x => decide (x.kind ≤ 2)))
  else
    decide (leAt dep 1 1 = 1) && (hasPay p 13 0 || !mine.isEmpty) && scanFits 30 (imgWcet p) (imgOut p) &&
      decide (mine.length ≤ 1) &&
      mine.all (fun x =>
        decide (x.count ≤ 16) &&
          (List.range 64).all (fun n =>
            !x.owners.testBit n || decide (n = 0x23) || (inRange 0x18 0x1D n && !strSplit (pay p 1 0) (n - 0x18)))) &&
      modes.all (pairModeOk (imgBlocks p) (1000 * imgOut p))

/-! ## CAN (R325, R337, R338) -/

/-- Bytes of a data length code of CAN FD (ISO 11898-1, by R325). -/
def fdBytes (dlc : Nat) : Nat :=
  match dlc with
  | 9 => 12 | 10 => 16 | 11 => 20 | 12 => 24 | 13 => 32 | 14 => 48 | 15 => 64 | d => d

/-- The smallest data length code that holds `n` bytes. -/
def fdDlc (n : Nat) : Nat := ((List.range 16).find? (fun d => decide (n ≤ fdBytes d))).getD 15

/-- An object entry's fields: DIR, IDE, FDF, BRS, OWNER from the CFG byte. -/
def coDir (e : List Byte) : Nat := leAt e 0 1 % 4
/-- IDE. -/
def coIde (e : List Byte) : Bool := (leAt e 0 1).testBit 2
/-- FDF. -/
def coFdf (e : List Byte) : Bool := (leAt e 0 1).testBit 3
/-- BRS. -/
def coBrs (e : List Byte) : Bool := (leAt e 0 1).testBit 4
/-- OWNER. -/
def coOwner (e : List Byte) : Bool := (leAt e 0 1).testBit 5

/-- The object entries of a CAN payload. -/
def canEnts (b : List Byte) : List (List Byte) := entriesAt b 0x40 16 (leAt b 6 2)

/-- One object entry (R337, R338). -/
def canEntOk (fd : Bool) (e : List Byte) : Bool :=
  if coDir e = 0 then allZero e
  else
    let ids := if coIde e then 2 ^ 29 else 2 ^ 11
    decide (coDir e ≤ 2) && decide (leAt e 0 1 < 64) && zeroAt e 2 2 && zeroAt e 12 4 && decide (leAt e 4 4 < ids) &&
      (fd || !(coFdf e || coBrs e)) && (coFdf e || !coBrs e) &&
      (if coDir e = 1 then
        decide (leAt e 1 1 ≤ 15) && (coFdf e || decide (leAt e 1 1 ≤ 8)) && decide (leAt e 8 4 = 0)
       else decide (leAt e 1 1 = 0) && decide (leAt e 8 4 < ids))

/-- The CAN connections of an image that use controller `n`. -/
def canConns (p : Pays) (n : Nat) : List ConnEnt :=
  (parseConns p).filter (fun c => c.used && decide (c.transport = 3) && decide (c.peer / 2 ^ 23 % 2 = n))

/-- Connections that name object `k`. -/
def connsNaming (l : List ConnEnt) (k : Nat) : Nat :=
  (l.filter (fun c => (c.send && decide (c.peer / 2 ^ 16 % 128 = k)) || (c.recv && decide (c.peer % 128 = k)))).length

/-- The objects of a CAN connection are as R301 and R338 ask. -/
def canConnOk (ents : List (List Byte)) (c : ConnEnt) : Bool :=
  let tx := (ents[c.peer / 2 ^ 16 % 128]?).getD []
  let rx := (ents[c.peer % 128]?).getD []
  decide (c.txWords ≤ 12) && decide (c.rxWords ≤ 12) &&
    (!c.send || (decide (coDir tx = 1) && coOwner tx && coFdf tx && !coIde tx &&
      decide (leAt tx 1 1 = fdDlc (16 + 4 * c.txWords)))) &&
    (!c.recv || (decide (coDir rx = 2) && coOwner rx && coFdf rx))

/-- An RX object matches an 11-bit identifier of a classical frame (R329). -/
def canEntTakes (id : Nat) (e : List Byte) : Bool :=
  decide (coDir e = 2) && !coIde e && !coFdf e && decide ((id ^^^ leAt e 4 4) &&& leAt e 8 4 = 0)

/-- R325, R337, R338 for controller `n`. -/
def canOk (p : Pays) (n : Nat) (b : List Byte) : Bool :=
  let k := leAt b 6 2
  let flags := leAt b 0x12 2
  let fd := flags.testBit 0
  let ents := canEnts b
  let nq := leAt b 8 1 * (1 + leAt b 10 2 + leAt b 12 1)
  let dq := leAt b 13 1 * (1 + leAt b 14 1 + leAt b 15 1)
  let id := leAt b 0x16 2
  let conns := canConns p n
  decide (leAt b 0 4 = 0x314E4143) && decide (leAt b 4 2 = 1) && decide (k ≤ 128) && decide (b.length = 0x40 + 16 * k) &&
    inRange 1 32 (leAt b 8 1) && inRange 1 128 (leAt b 9 1) && inRange 2 256 (leAt b 10 2) && inRange 1 128 (leAt b 12 1) &&
    inRange 1 32 (leAt b 13 1) && inRange 1 32 (leAt b 14 1) && inRange 1 16 (leAt b 15 1) && inRange 1 16 (leAt b 16 1) &&
    decide (leAt b 17 1 ≤ 127) && decide (flags < 32) && decide (leAt b 0x14 1 ≤ 2) && decide (1 ≤ leAt b 0x15 1) &&
    decide (id < 2 ^ 11) && decide (leAt b 0x18 4 < 1000 * minPeriod p) && decide (1 ≤ leAt b 0x1C 1) && zeroAt b 0x1E 34 &&
    decide (leAt b 9 1 ≤ leAt b 12 1) && decide (leAt b 16 1 ≤ leAt b 15 1) && inRange 80 640 nq && inRange 10 nq dq &&
    (fd || !flags.testBit 1) && ents.all (canEntOk fd) &&
    (!flags.testBit 2 || (ents.all (fun e => decide (coDir e ≠ 1)) && decide (leAt b 0x14 1 ≠ 1))) &&
    (decide (leAt b 0x14 1 ≠ 1) ||
      ents.all (fun e => (decide (coDir e ≠ 1) || decide (id < leAt e 4 4)) && !canEntTakes id e)) &&
    (List.range k).all (fun j =>
      !coOwner (slice b (0x40 + 16 * j) 16) || decide (connsNaming conns j = 1)) &&
    conns.all (canConnOk ents) && (conns.isEmpty || decide (leAt b 0x14 1 = 1))

/-! ## GLUME (R139, R298 to R301) -/

/-- One connection entry (R299, R301). -/
def connOk (p : Pays) (e : List Byte) : Bool :=
  let c := parseConn e
  if leAt e 0 1 = 0 then allZero e
  else
    decide (leAt e 0 1 = 1) && inRange 1 3 c.transport && decide (c.endNo ≤ 1) && inRange 1 3 (leAt e 3 1) &&
      !allZero c.key &&
      (match c.transport with
       | 1 => decide (leAt (pay p 4 0) 1 1 = 1)
       | 2 => decide (c.peer < 8) && hasPay p 10 0 && hasPay p 9 0
       | _ => decide (c.peer < 2 ^ 24) && decide (c.peer / 2 ^ 7 % 2 ^ 9 = 0) && hasPay p 11 (c.peer / 2 ^ 23)) &&
      decide (c.remote ≤ 511) && decide (c.txWords ≤ 64) && decide (c.rxWords ≤ 64) && decide (1 ≤ c.seqGap) &&
      decide (c.ageMax ≤ 15) && decide (1 ≤ c.timeout) && inRange 1 8 c.confirm && zeroAt e 24 8 &&
      decide (c.timeout ≤ c.seqGap)

/-- One station entry (R139, R300, R301). -/
def stnOk (conns : List ConnEnt) (e : List Byte) : Bool :=
  let iw := leAt e 4 1
  let ic := leAt e 5 1
  let len := leAt e 6 1
  let qw := leAt e 7 1
  let qc := leAt e 8 1
  let out := qc + leAt e 9 1
  decide (leAt e 0 1 ≤ 127) && zeroAt e 10 6 && decide (ic ≤ 64) && decide (len ≤ 64) && decide (out ≤ 64) &&
    (decide (ic = 0) || (decide (12 ≤ iw) && decide (iw + ic ≤ 256))) &&
    (decide (qc = 0) || (decide (12 ≤ qw) && decide (qw + qc ≤ 256))) &&
    match conns[leAt e 2 2]? with
    | none => false
    | some c =>
      c.used && (decide (len = 0) || (c.recv && decide (c.rxWords = len))) &&
        (decide (out = 0) || (c.send && decide (c.txWords = out)))

/-- The I words of two stations overlap (R139). -/
def stnOverlap (a b : List Byte) : Bool := spansMeet (leAt a 4 1) (leAt a 5 1) (leAt b 4 1) (leAt b 5 1) &&
  decide (0 < leAt a 5 1) && decide (0 < leAt b 5 1)

/-- What is left of messages of the given lengths once the slots are filled in turn (R291). -/
def fillLeft (slots : List Slot) (ms : List (List Byte)) : List (List Byte) :=
  match slots with
  | [] => ms
  | x :: t => fillLeft t (fitMsgs (x.bytes - 22) ms).2

/-- A message of `w` words is 16 bytes and its words long. -/
def msgLen (w : Nat) : Nat := 16 + 4 * w

/-- The messages of a mode fit their transports (R301). -/
def glumeModeOk (conns : List ConnEnt) (o : Nat) (m : SMode) : Bool :=
  let out := conns.filter (fun c => c.used && c.send)
  let kern := (out.filter (fun c => decide (c.transport = 1))).foldl (fun n c => n + msgLen c.txWords) 0
  let tx := fun (q : Nat) => m.slots.filter (fun x => decide (x.kind = 2 ∧ x.port = q))
  decide (kern + 32 ≤ 16 * m.klen16 ∨ kern = 0) &&
    (List.range 8).all (fun q =>
      (fillLeft (tx q)
        ((out.filter (fun c => decide (c.transport = 2 ∧ c.peer = q))).map (fun c => zeros (msgLen c.txWords)))).isEmpty) &&
    m.slots.all (fun x => decide (x.kind ≠ 2) || decide (o + 30000 ≤ x.offset))

/-- Used connections that no station names. -/
def mailboxes (conns : List ConnEnt) (stns : List (List Byte)) : List Nat :=
  (List.range conns.length).filter (fun i =>
    (match conns[i]? with
     | some c => c.used
     | none => false) && !stns.any (fun e => decide (leAt e 2 2 = i)))

/-- R139, R298 to R301. -/
def glumeOk (p : Pays) (b : List Byte) : Bool :=
  let n := leAt b 6 2
  let k := leAt b 8 2
  let page := leAt b 12 4
  let conns := parseConns p
  let stns := stnEnts p
  let boxes := mailboxes conns stns
  decide (leAt b 0 4 = 0x314D4C47) && decide (leAt b 4 2 = 1) && decide (n ≤ 512) && decide (k ≤ 128) && zeroAt b 10 2 &&
    decide (page < 2 ^ 24) && zeroAt b 16 48 && decide (b.length = 64 + 32 * n + 272 * k) &&
    (List.range n).all (fun i => connOk p (connBytes b i)) &&
    distinct ((conns.filter (fun c => c.used)).map (fun c => (c.transport, c.peer, c.remote))) &&
    stns.all (stnOk conns) && distinct (stns.map (fun e => leAt e 0 1)) && distinct (stns.map (fun e => leAt e 2 2)) &&
    noPair stnOverlap stns &&
    (if boxes.isEmpty then decide (page = 0)
      else decide (page ≠ 0) &&
        (parseParts (pay p 2 0)).any (fun x =>
          !x.mram && x.shared && x.owners.testBit 0x25 && decide (x.page ≤ page) &&
            boxes.all (fun c => decide (page + c / 4 < x.page + x.count)))) &&
    (parseModes p).all (glumeModeOk conns (1000 * imgOut p))

/-! ## AWN (R126 to R128) -/

/-- A timer table entry: fields in range, an unused one all zero. -/
def timerOk (konst : Nat) (e : List Byte) : Bool :=
  if leAt e 4 1 = 0 then allZero e
  else decide (leAt e 4 1 ≤ 3) && decide (leAt e 5 1 ≤ 3) && decide (leAt e 6 2 < konst) && decide (leAt e 0 4 ≠ 0)

/-- A counter table entry. -/
def counterOk (konst : Nat) (e : List Byte) : Bool :=
  if leAt e 4 1 = 0 then allZero e
  else
    decide (leAt e 4 1 = 1) && zeroAt e 5 1 && decide (leAt e 6 2 < konst) && zeroAt e 12 4 && decide (leAt e 0 4 ≠ 0)

/-- An edge table entry. -/
def edgeOk (e : List Byte) : Bool :=
  if leAt e 4 1 = 0 then allZero e
  else decide (leAt e 4 1 ≤ 2) && decide (leAt e 5 1 ≤ 1) && zeroAt e 6 2 && decide (leAt e 0 4 ≠ 0)

/-- An initial-value entry. -/
def initOk (e : List Byte) : Bool :=
  decide (leAt e 1 1 ≤ 1) &&
    (if leAt e 0 1 = 2 then decide (leAt e 2 2 < 256) else decide (leAt e 0 1 = 3) && decide (leAt e 2 2 < 4096))

/-- Tags of the used objects of a table. -/
def usedTags (l : List AwnObj) : List Nat := (l.filter (fun o => decide (o.tag ≠ 0))).map (fun o => o.tag)

/-- Numbers of the used objects of a table. -/
def usedNums (l : List AwnObj) : List Nat := (List.range l.length).filter (fun n => objUsed l n)

/-- R126 to R128, with R113 and R114. -/
def awnOk (b : List Byte) : Bool :=
  let p := parseAwn b
  let (_, t, c, e, i, stop) := awnParts b
  let konst := leAt b 0x12 2
  let w := awnWalk p
  let times := fun (op n : Nat) => w.objs.count (op, n)
  decide (leAt b 0 4 = 0x314E5741) && decide (leAt b 4 2 = 1) && zeroAt b 6 2 && inRange 1 65536 (leAt b 8 4) &&
    decide (leAt b 0x0C 2 ≤ 2048) && decide (leAt b 0x0E 2 ≤ 1024) && decide (leAt b 0x10 2 ≤ 4096) &&
    decide (konst ≤ 1024) && decide (leAt b 0x14 2 ≤ 8192) && zeroAt b 0x16 2 && zeroAt b 0x20 32 &&
    decide (b.length = stop) &&
    (entriesAt b t 8 (leAt b 0x0C 2)).all (timerOk konst) && (entriesAt b c 16 (leAt b 0x0E 2)).all (counterOk konst) &&
    (entriesAt b e 8 (leAt b 0x10 2)).all edgeOk && (entriesAt b i 8 (leAt b 0x14 2)).all initOk &&
    distinct (usedTags p.timers) && distinct (usedTags p.counters) && distinct (usedTags p.edges) &&
    distinct (p.inits.map (fun x => (x.area, x.index))) && w.good &&
    (usedNums p.timers).all (fun n => decide (times 0x18 n = 1)) &&
    (usedNums p.edges).all (fun n => decide (times 0x1E n = 1)) &&
    (usedNums p.counters).all (fun n => decide (times 0x1A n ≤ 1) && decide (times 0x1B n ≤ 1))

/-! ## CULM (R345, R346) -/

/-- A 64 KiB multiple. -/
def whole64 (v : Nat) : Bool := decide (v % 65536 = 0)

/-- An outbound entry. -/
def owinOk (e : List Byte) : Bool :=
  let a := leAt e 12 1
  whole64 (leAt e 0 4) && whole64 (leAt e 4 4) && decide (65536 ≤ leAt e 4 4) && whole64 (leAt e 8 4) && decide (a < 32) &&
    zeroAt e 13 3 && decide (leAt e 0 4 + leAt e 4 4 ≤ 0x20000000) && decide (leAt e 8 4 + leAt e 4 4 ≤ 2 ^ 32) &&
    (!a.testBit 1 || (a.testBit 2 && !a.testBit 0 && !a.testBit 4))

/-- An inbound entry. -/
def iwinOk (parts : List Part) (e : List Byte) : Bool :=
  let a := leAt e 12 1
  let first := 4096 * leAt e 8 4
  whole64 (leAt e 0 4) && whole64 (leAt e 4 4) && inRange 65536 0x3FFF0000 (leAt e 4 4) &&
    decide (leAt e 0 4 + leAt e 4 4 ≤ 2 ^ 32) && decide (leAt e 8 4 < 2 ^ 24) && inRange 2 7 a && zeroAt e 13 3 &&
    parts.any (fun x => decide (x.first ≤ first) && decide (first + leAt e 4 4 ≤ x.stop))

/-- Ranges (start, size) share an address. -/
def rangesMeet (a b : Nat × Nat) : Bool := spansMeet a.1 a.2 b.1 b.2

/-- R345, R346. -/
def culmOk (p : Pays) (b : List Byte) : Bool :=
  let o := entriesAt b 0x40 16 (leAt b 6 1)
  let i := entriesAt b 0x140 16 (leAt b 7 1)
  decide (b.length = 0x180) && decide (leAt b 0 4 = 0x314D4C43) && decide (leAt b 4 2 = 1) && decide (leAt b 6 1 ≤ 16) &&
    decide (leAt b 7 1 ≤ 4) && zeroAt b 8 56 && o.all owinOk && i.all (iwinOk (parseParts (pay p 2 0))) &&
    zeroAt b (0x40 + 16 * leAt b 6 1) (16 * (16 - leAt b 6 1)) &&
    zeroAt b (0x140 + 16 * leAt b 7 1) (16 * (4 - leAt b 7 1)) &&
    noPair rangesMeet (o.map (fun e => (leAt e 0 4, leAt e 4 4))) &&
    noPair rangesMeet (o.map (fun e => (leAt e 8 4, leAt e 4 4)) ++ i.map (fun e => (leAt e 0 4, leAt e 4 4)))

/-! ## Steps 6 and 7 -/

/-- A check of an optional section. -/
def optOk (x : Option (List Byte)) (f : List Byte → Bool) : Bool :=
  match x with
  | none => true
  | some b => f b

/-- Step 6. -/
def step6 (p : Pays) : Bool :=
  structureOk (pay p 1 0) && (List.range 6).all (coreImagesOk p) && partitionsOk (pay p 2 0) &&
    (List.range 24).all (coreImageOk p) && protectionOk (pay p 3 0) && deploymentOk p && (List.range 6).all (engineOk p) &&
    tasksOk p && optOk (payOf p 8 0) fioOk && optOk (payOf p 9 0) (vyfabinOk (1000 * imgOut p)) && hubOk p && pairOk p &&
    optOk (payOf p 11 0) (canOk p 0) && optOk (payOf p 11 1) (canOk p 1) && optOk (payOf p 12 0) (glumeOk p) &&
    optOk (payOf p 13 0) awnOk && optOk (payOf p 14 0) (culmOk p)

/-- Step 7: every Safety and Control task runs on a TRIAD-mode triad. -/
def step7 (p : Pays) : Bool :=
  (parseTasks (pay p 7 0)).all (fun t => decide (2 ≤ t.cls) || !strSplit (pay p 1 0) (t.inst / 4))

/-- Steps 1 to 5, which an installation reads back (R68): the first that fails, else the payloads. -/
def checkGenuine (s : State) (c : Bool) : Nat × Pays :=
  let h := imgHeader s c
  if !step1 h then (1, [])
  else if !step2 s c h then (2, [])
  else if !step3 s c h then (3, [])
  else if !step4 s h then (4, [])
  else
    match copyPays s c with
    | none => (5, [])
    | some p => (0, p)

/-- Steps 1 to 7: the first that fails, 0 where the copy passes (R64). -/
def checkImage (s : State) (c : Bool) : Nat :=
  let g := checkGenuine s c
  if g.1 ≠ 0 then g.1
  else if !step6 g.2 then 6
  else if !step7 g.2 then 7
  else 0

end Sys2Proof.Machine
end

