-- ==== Sys2Proof/Machine/Sched.lean ====
section
/-! DEFINITION. Deadlines and the budget scheduler (06): the choice and its dispatch registers, gating, shed levels, missed
deadlines, the junction sensors, and the registers of the SCH window. -/

namespace Sys2Proof.Machine

/-! ## Tasks and jobs -/

/-- Declared task `i`. -/
def taskAt (s : State) (i : Nat) : Option Task := s.img.tasks[i]?

/-- Run-time state of task `i`. -/
def taskSt (s : State) (i : Nat) : TaskSt := FMap.look s.sch.tasks {} i

/-- Change the run-time state of task `i`. -/
def modTask (i : Nat) (f : TaskSt → TaskSt) (s : State) : State :=
  { s with sch := { s.sch with tasks := FMap.upd s.sch.tasks {} i f } }

/-- Scheduler of triad `t`. -/
def schTri (s : State) (t : Nat) : SchTriad := nth s.sch.triads t {}

/-- Change the scheduler of triad `t`. -/
def modSchTri (t : Nat) (f : SchTriad → SchTriad) (s : State) : State :=
  { s with sch := { s.sch with triads := modAt s.sch.triads t f } }

/-- Dispatch registers of position `p` of triad `t`. -/
def dispAt (s : State) (t p : Nat) : Disp := nth (schTri s t).disp p {}

/-- Change them. -/
def modDisp (t p : Nat) (f : Disp → Disp) (s : State) : State :=
  modSchTri t (fun (x : SchTriad) => { x with disp := modAt x.disp p f }) s

/-- Position whose dispatch registers an instance uses: 0 for the triad's, its own for a split instance (06 registers). -/
def instPos (inst : Nat) : Nat := inst % 4 - 1

/-- The instance runs (R159): instance 4·t in triad operation, a split instance in split operation. -/
def instRuns (s : State) (inst : Nat) : Bool :=
  let t := s.tri (inst / 4)
  if inst % 4 = 0 then decide (1 ≤ t.state ∧ t.state ≤ 3)
  else decide (t.state = 4) && (s.core (t.coreAt (instPos inst))).running

/-- The released, unfinished jobs of triad `t`: task number, task, job. -/
def jobsOf (s : State) (t : Nat) : List (Nat × Task × Job) :=
  (List.range s.img.tasks.length).filterMap (fun i =>
    match taskAt s i, (taskSt s i).job with
    | some k, some j => if k.inst / 4 = t then some (i, k, j) else none
    | _, _ => none)

/-- A triad runs Safety or Control tasks (R40, R89, R96). -/
def runsSafety (s : State) (t : Nat) : Bool := s.img.tasks.any (fun k => decide (k.inst / 4 = t ∧ k.cls ≤ 1))

/-- A job is held at shed level `l` (R164). -/
def jobHeld (l : Nat) (k : Task) (j : Job) : Bool :=
  if k.cls = 3 then decide (1 ≤ l) else if k.cls = 2 then decide (2 ≤ l) && !j.started else false

/-- Band of R160 as a number, 0 first; 3 for a held job. -/
def jobBand (l : Nat) (k : Task) (j : Job) : Nat :=
  if jobHeld l k j then 3 else if k.cls ≤ 1 then 0 else if k.cls = 2 then 1 else 2

/-- The order of R160 within a band: deadline, then class, then task number; Background by number. -/
def jobBefore (l : Nat) (a b : Nat × Task × Job) : Bool :=
  let key := fun (x : Nat × Task × Job) =>
    (jobBand l x.2.1 x.2.2, x.2.2.deadline.getD 0, x.2.1.cls, x.1)
  let (a0, a1, a2, a3) := key a
  let (b0, b1, b2, b3) := key b
  decide (a0 < b0 ∨ (a0 = b0 ∧ (a1 < b1 ∨ (a1 = b1 ∧ (a2 < b2 ∨ (a2 = b2 ∧ a3 < b3))))))

/-- The choice of R160 among jobs; 0x100 is idle. -/
def chooseFrom (l : Nat) (best : Option (Nat × Task × Job)) (js : List (Nat × Task × Job)) : Nat :=
  match js with
  | [] => match best with
    | some b => b.1
    | none => 256
  | x :: t =>
    if jobBand l x.2.1 x.2.2 = 3 then chooseFrom l best t
    else
      match best with
      | none => chooseFrom l (some x) t
      | some b => if jobBefore l x b then chooseFrom l (some x) t else chooseFrom l best t

/-- The job that position `p` of triad `t` is to run (R160). -/
def choice (s : State) (t p : Nat) : Nat :=
  chooseFrom s.sch.level none
    ((jobsOf s t).filter (fun x =>
      if (s.tri t).state = 4 then decide (x.2.1.inst % 4 = p + 1) else decide (x.2.1.inst % 4 = 0)))

/-- Positions whose dispatch registers work now: 0 in triad operation, all three in split operation. -/
def dispPos (s : State) (t : Nat) : List Nat :=
  let st := (s.tri t).state
  if st = 4 then [0, 1, 2] else if 1 ≤ st ∧ st ≤ 3 then [0] else []

/-- Task `i` belongs to what position `p` of triad `t` runs now: the triad's instance, or the position's split instance. -/
def ownTask (s : State) (t p i : Nat) : Bool :=
  match taskAt s i with
  | none => false
  | some k => decide (k.inst = if (s.tri t).state = 4 then 4 * t + 1 + p else 4 * t)

/-- The running jobs' time is accounted up to now, at the gated rate (R165); a paused triad runs nothing. -/
def account (t : Nat) (s : State) : State :=
  forAll (dispPos s t) (fun p s =>
    let d := dispAt s t p
    let dt := if (s.tri t).paused || !ownTask s t p d.running then 0 else (s.clk.now - d.mark) * (16 - (schTri s t).gate)
    let s := modTask d.running (fun (x : TaskSt) => { x with
        job := (match x.job with
          | some j => some { j with ran := j.ran + dt }
          | none => none) }) s
    modDisp t p (fun (d : Disp) => { d with mark := s.clk.now }) s) s

/-- Remaining budget of a job in sixteenths of a ns (R165). -/
def budgetLeft (k : Task) (j : Job) : Nat := k.wcet * 16000 - j.ran

/-- A job has run past its WCET (R165); a Background job has no budget. -/
def pastWcet (k : Task) (j : Job) : Bool := decide (k.cls ≤ 2) && decide (k.wcet * 16000 < j.ran)

/-- Gate value `g` keeps every released job of bands 1 and 2 on time (R165). -/
def gateFits (s : State) (js : List (Nat × Task × Job)) (g : Nat) : Bool :=
  js.all (fun x =>
    match x.2.2.deadline with
    | none => true
    | some d =>
      let sum := (js.filter (fun y => decide (y.2.2.deadline.getD 0 ≤ d))).foldl (fun n y => n + budgetLeft y.2.1 y.2.2) 0
      decide (sum ≤ (d - s.clk.now) * (16 - g)))

/-- The largest gate value up to `g` that fits. -/
def gateDown (s : State) (js : List (Nat × Task × Job)) (g : Nat) : Nat :=
  match g with
  | 0 => 0
  | n + 1 => if gateFits s js (n + 1) then n + 1 else gateDown s js n

/-- The gate of triad `t` is recomputed (R165), over the jobs of bands 1 and 2: a Service job that is held and has not started
is in neither, and its budget does not enter the sum (log 98, DESIGN CHOICE). -/
def regate (t : Nat) (s : State) : State :=
  let js := (jobsOf s t).filter (fun x => decide (jobBand s.sch.level x.2.1 x.2.2 ≤ 1))
  let g := if (jobsOf s t).any (fun x => pastWcet x.2.1 x.2.2) then 0 else gateDown s js s.sch.demand
  modSchTri t (fun (x : SchTriad) => { x with gate := g }) s

/-- The dispatch registers follow the choice (R161); a paused triad's requests are held (R92). A job that SCH_RUNNING names
already has started (R164). -/
def dispatch (t p : Nat) (s : State) : State :=
  if (s.tri t).paused then s
  else
    let c := choice s t p
    let d := dispAt s t p
    if c = d.running then
      modTask c (fun (x : TaskSt) => { x with job := x.job.map (fun (j : Job) => { j with started := true }) })
        (modDisp t p (fun (d : Disp) => { d with next := c, pending := false, since := none }) s)
    else if d.pending then modDisp t p (fun (d : Disp) => { d with next := c }) s
    else
      irqTriad t [p] irqDispatch
        (modDisp t p (fun (d : Disp) => { d with next := c, pending := true, since := some s.clk.now }) s)

/-- One event of R160 at triad `t`: time accounted, gate recomputed, choice made. -/
def resched (t : Nat) (s : State) : State :=
  let s := regate t (account t s)
  forAll (dispPos s t) (dispatch t) s

/-- The event at every triad. -/
def reschedAll (s : State) : State := forAll (List.range 6) resched s

/-! ## Missed deadlines (R166 to R168) -/

/-- SCH_ERR_INFO without its flags. -/
def schInfo (bit task triad : Nat) : Word := place task 24 16 ||| place triad 10 8 ||| place bit 7 4

/-- MISS for a number that is no task: 0x101, 0x102 (R167). -/
def missFault (task : Nat) (s : State) : State :=
  event 0x3301 task 7 (cycleWord s) (errSch 0 (schInfo 0 task 7) s)

/-- One miss of task `i` (R166): counted, the miss bin, MISS, and one record per task and cycle. -/
def missOf (i : Nat) (s : State) : State :=
  match taskAt s i with
  | none => s
  | some k =>
    let t := k.inst / 4
    let again := decide ((taskSt s i).missCycle = s.cyc.cycle + 1)
    let s := modTask i (fun (x : TaskSt) => { x with
        misses := satInc 65535 x.misses, consec := satInc 15 x.consec, missCycle := s.cyc.cycle + 1 }) s
    let s := modSchTri t (fun (x : SchTriad) => { x with miss := (x.miss + 1) % 2 ^ 32 }) s
    let s := slackCount k.cls none (errSch 0 (schInfo 0 i t) s)
    if again then countOnly 0x3301 s else event 0x3301 i (w32 t) (cycleWord s) s

/-- A miss with the reaction of R168. -/
def missReact (i : Nat) (s : State) : State :=
  let s := missOf i s
  match taskAt s i with
  | none => s
  | some k => if k.action = 1 ∧ k.missLimit ≤ (taskSt s i).consec then enterSafe 0x3301 s else s

/-- A triad is halted by rung 4 or by no majority: one miss for each released, unfinished job, which ends; no request
waits and no job is named (R167, R40, log 63). -/
def missHalted (t : Nat) (s : State) : State :=
  let s := forAll ((jobsOf s t).map (fun x => x.1))
    (fun i s => modTask i (fun (x : TaskSt) => { x with job := none }) (missOf i s)) s
  modSchTri t (fun (x : SchTriad) => { x with
      disp := x.disp.map (fun (d : Disp) => { d with next := 256, running := 256, pending := false, since := none }) }) s

/-! ## Release, completion, deadline -/

/-- One skipped release (R159, R164). -/
def skipRelease (t : Nat) (s : State) : State :=
  modSchTri t (fun (x : SchTriad) => { x with skips := satInc 65535 x.skips }) s

/-- The class is released in this module state (R155); Safety and Control only by an ACTIVE or an unpaired module (12
R274, R282). -/
def classReleased (m : Mode) (role cls : Nat) : Bool :=
  if cls ≤ 1 then m.running && decide (role ≤ 1)
  else match m with
    | .stop | .run | .hold | .brace => true
    | _ => false

/-- TASK_RELEASE (R159): at T0 + OFFSET of a cycle that meets EVERY and PHASE. Every release that is skipped counts in SKIPS,
and one skipped for an unfinished job is a missed deadline besides, a held class included (log 97). -/
def opTaskRelease (i : Nat) (s : State) : State :=
  match taskAt s i with
  | none => s
  | some k =>
    let t := k.inst / 4
    let at' := s.cyc.t0 + if s.pair.takeLate ∧ k.cls ≤ 1 then Nat.max 30000 (k.offset * 1000) else k.offset * 1000
    if !(s.cyc.begun && decide (s.cyc.cycle % k.every = k.phase) && classReleased s.mod.mode s.pair.role k.cls &&
        decide (at' ≤ s.clk.now) && decide ((taskSt s i).relCycle ≠ s.cyc.cycle + 1)) then s
    else
      let s := modTask i (fun (x : TaskSt) => { x with relCycle := s.cyc.cycle + 1 }) s
      if !instRuns s k.inst then skipRelease t s
      else if (taskSt s i).job.isSome then
        if k.cls = 3 then skipRelease t s else missReact i (skipRelease t s)
      else if (k.cls = 3 ∧ 1 ≤ s.sch.level) ∨ (k.cls = 2 ∧ 2 ≤ s.sch.level) then skipRelease t s
      else
        resched t (modTask i (fun (x : TaskSt) => { x with
            job := some { release := at', deadline := if k.cls = 3 then none else some (at' + k.deadline * 1000),
                          started := false, ran := 0, missed := false, overrun := false } }) (account t s))

/-- The writer of the dispatch registers: the triad's voter in triad operation, split core `p` for its own. -/
def dispWriter (s : State) (init t p : Nat) : Bool :=
  if (s.tri t).state = 4 then decide (init = (s.tri t).coreAt p)
  else decide (init = voterId t) && decide (p = 0)

/-- DISPATCH_TAKE: a store to SCH_RUNNING (R161). -/
def opDispatchTake (init t p : Nat) (v : Word) (s : State) : State :=
  let d := dispAt s t p
  if dispWriter s init t p && d.pending && decide (fieldOf v 8 0 = d.next) then
    let s := account t s
    let s := modDisp t p (fun (d : Disp) => { d with running := d.next, pending := false, since := none }) s
    modTask d.next (fun (x : TaskSt) => { x with
        job := (match x.job with
          | some j => some { j with started := true }
          | none => none) }) s
  else s

/-- JOB_DONE: a store to SCH_DONE naming the running job completes it (R161, R162, R166, R168). -/
def opJobDone (init t p : Nat) (v : Word) (s : State) : State :=
  let i := fieldOf v 8 0
  match taskAt s i, (taskSt s i).job with
  | some k, some j =>
    if dispWriter s init t p && decide ((dispAt s t p).running = i) && decide (k.inst / 4 = t) then
      let s := account t s
      let s := match j.deadline with
        | none => s
        | some d =>
          if j.missed then s
          else if s.clk.now ≤ d then
            let slack := d - s.clk.now
            slackCount k.cls (some slack) (modTask i (fun (x : TaskSt) => { x with
                consec := 0, minSlack := Nat.min x.minSlack (slack / 1000) }) s)
          else missReact i s
      resched t (modTask i (fun (x : TaskSt) => { x with job := none }) s)
    else s
  | _, _ => s

/-- DEADLINE_MISS: a job's deadline has passed (R166, R168). A completion at the deadline's own instant is on time, whichever
command comes first (R162). -/
def opDeadlineMiss (i : Nat) (s : State) : State :=
  match (taskSt s i).job with
  | none => s
  | some j =>
    match j.deadline with
    | none => s
    | some d =>
      if !j.missed && decide (d < s.clk.now) then
        missReact i (modTask i (fun (x : TaskSt) => { x with job := some { j with missed := true } }) s)
      else s

/-- BUDGET_OVERRUN: a running job has run past its WCET: BUDGET once for the job, and G is 0 (R165). -/
def opBudgetOverrun (i : Nat) (s : State) : State :=
  match taskAt s i with
  | none => s
  | some k =>
    let t := k.inst / 4
    let s := account t s
    match (taskSt s i).job with
    | none => s
    | some j =>
      if pastWcet k j && !j.overrun then
        let s := modTask i (fun (x : TaskSt) => { x with job := some { j with overrun := true } }) s
        regate t (event 0x2302 i (w32 t) (cycleWord s) (errSch 1 (schInfo 1 i t) s))
      else s

/-! ## Shedding and gating (R163 to R165) -/

/-- Thresholds of SCH_CFG: 0 BG, 1 SVC, 2 GATE in °C, 3 MAX_GATE. -/
def thermCfg (s : State) (k : Nat) : Nat := fieldOf (lkAt s 3 0x30) (if k = 3 then 27 else 8 * k + 7) (8 * k)
/-- ENERGY_BG and ENERGY_SVC in mJ. -/
def energyCfg (s : State) (k : Nat) : Nat := fieldOf (lkAt s 3 0x34) (16 * k + 15) (16 * k)

/-- Headroom in quarter degrees (R163). -/
def headroom4 (s : State) : Int := 440 - s.sch.tmax

/-- A shed condition at a sample (R164). -/
def shedStep (cond clear : Bool) (now : Nat) (x : Shed) : Shed :=
  if cond then { on := true, clearSince := none }
  else if !x.on then x
  else if clear then { x with clearSince := (match x.clearSince with
      | some t => some t
      | none => some now) }
  else { x with clearSince := none }

/-- Level set by headroom. -/
def thermLevel (c : Sch) : Nat := if c.thermSvc.on then 2 else if c.thermBg.on then 1 else 0
/-- Level set by stored energy or BRACE. -/
def energyLevel (c : Sch) : Nat := if c.braceHold || c.energySvc.on then 2 else if c.energyBg.on then 1 else 0

/-- Gate demand (R165). -/
def gateDemand (s : State) : Nat :=
  let m := thermCfg s 3
  let short := 4 * (thermCfg s 2 : Int) - headroom4 s
  let therm := if s.sch.sampled ∧ 0 < short then Nat.min m (short.toNat / 4) else 0
  if s.sch.stored < energyCfg s 1 then m else therm

/-- The level and the demand are applied: a change of level is one change of the module, and records its cause (R164). -/
def applyLevel (cause : Nat) (s : State) : State :=
  let new := Nat.max (thermLevel s.sch) (energyLevel s.sch)
  let old := s.sch.level
  let s := { s with sch := { s.sch with level := new, demand := gateDemand s } }
  let s := if old < new then event 0x2310 cause (w32 old) (w32 new) s
    else if new < old then event 0x2311 cause (w32 old) (w32 new) s
    else s
  reschedAll s

/-- The supervisor's energy report reaches the schedulers (R164): energy and BRACE conditions at a sample. -/
def energySample (s : State) : State :=
  let e := s.sch.stored
  let bg := energyCfg s 0
  let sv := energyCfg s 1
  let was := s.sch
  let s := { s with sch := { s.sch with
      energyBg := shedStep (decide (e < bg)) (decide (bg + 100 ≤ e)) s.clk.now s.sch.energyBg,
      energySvc := shedStep (decide (e < sv)) (decide (sv + 100 ≤ e)) s.clk.now s.sch.energySvc,
      braceHold := s.sch.brace } }
  let byBrace := decide (was.braceHold ≠ s.sch.brace) && (was.energySvc.on == s.sch.energySvc.on)
  applyLevel (if byBrace then 3 else 2) s

/-- Insert into a rising list. -/
def insertInt (x : Int) (l : List Int) : List Int :=
  match l with
  | [] => [x]
  | a :: t => if x ≤ a then x :: a :: t else a :: insertInt x t

/-- The sum of the fourth and fifth of the readings in ascending order: twice the median (R163). -/
def twiceMedian (q : List Int) : Int :=
  let l := q.foldr insertInt []
  nth l 3 0 + nth l 4 0

/-- A reading that faults its sensor (R163). -/
def sensorBad (m2 x : Int) : Bool := decide (x < -220 ∨ 600 < x) || decide (160 < 2 * x - m2 ∨ 160 < m2 - 2 * x)

/-- The first index of the largest reading. -/
def hottest (i : Nat) (best : Nat × Int) (l : List Int) : Nat × Int :=
  match l with
  | [] => best
  | x :: t => hottest (i + 1) (if best.2 < x then (i, x) else best) t

/-- SENSOR_SAMPLE (R163 to R165). -/
def opSensorSample (q : List Int) (s : State) : State :=
  if !s.mod.mode.released then s
  else
    let m2 := twiceMedian q
    let s := { s with sch := { s.sch with temp := q, sampled := true } }
    let s := forIdx 0 q (fun i x s =>
      if sensorBad m2 x && !nth s.sch.faulted i false then
        event 0x3304 i (sword x) 0 (errSch 3 (schInfo 3 i 7)
          { s with sch := { s.sch with faulted := modAt s.sch.faulted i (fun _ => true) } })
      else s) s
    let eff := List.zipWith (fun (f : Bool) (x : Int) => if f then 440 else x) s.sch.faulted q
    let (hi, tmax) := hottest 0 (0, nth eff 0 0) eff
    let hot := decide (Config.tripLevel ≤ tmax)
    let trip := hot && s.sch.hot && !s.sch.tripped
    let s := { s with sch := { s.sch with
        tmax := tmax, headroom := (440 - tmax).toNat / 4, hot := hot, tripped := hot && (s.sch.tripped || trip) } }
    let s := if trip then enterSafe 0x3303 (event 0x3303 hi (sword tmax) 0 (errSch 2 (schInfo 2 0 7) s)) else s
    let h := headroom4 s
    let bg := 4 * (thermCfg s 0 : Int)
    let sv := 4 * (thermCfg s 1 : Int)
    let s := { s with sch := { s.sch with
        thermBg := shedStep (decide (h < bg)) (decide (bg + 12 ≤ h)) s.clk.now s.sch.thermBg,
        thermSvc := shedStep (decide (h < sv)) (decide (sv + 12 ≤ h)) s.clk.now s.sch.thermSvc } }
    applyLevel 1 s

/-- A shed condition is left after its dwell. -/
def shedLeave (min now : Nat) (x : Shed) : Shed := if x.on && due x.clearSince min now then {} else x

/-- SHED_END: the dwell of cause 1 or 2 has passed, or BRACE has ended (R164). -/
def opShedEnd (cause : Nat) (s : State) : State :=
  let s := match cause with
    | 1 => { s with sch := { s.sch with
        thermBg := shedLeave 99900000 s.clk.now s.sch.thermBg,
        thermSvc := shedLeave 99900000 s.clk.now s.sch.thermSvc } }
    | 2 => { s with sch := { s.sch with
        energyBg := shedLeave 9900000 s.clk.now s.sch.energyBg,
        energySvc := shedLeave 9900000 s.clk.now s.sch.energySvc } }
    | _ => { s with sch := { s.sch with braceHold := s.sch.braceHold && s.sch.brace } }
  applyLevel cause s

/-! ## Registers -/

/-- SCH_TASK_STAT.STATE. -/
def taskState (s : State) (i : Nat) : Nat :=
  match taskAt s i, (taskSt s i).job with
  | some k, some j =>
    if (dispAt s (k.inst / 4) (instPos k.inst)).running = i then 2 else if jobHeld s.sch.level k j then 3 else 1
  | _, _ => 0

/-- Reads of a triad's dispatch block. -/
def schTriRead (s : State) (t o : Nat) : Word :=
  let d := dispAt s t (o % 16 / 4)
  if o < 0x0C then placeB d.pending 31 ||| place d.next 8 0
  else if 0x10 ≤ o ∧ o < 0x1C then place d.running 8 0
  else if o = 0x30 then
    place (schTri s t).skips 31 16 ||| place (jobsOf s t).length 15 8 ||| place s.sch.level 5 4 |||
      place (schTri s t).gate 3 0
  else if o = 0x34 then w32 (schTri s t).miss
  else 0

/-- Reads of the SCH window but for the quartet and the LK registers. -/
def schRead (s : State) (o : Nat) : Word :=
  if o = 0x20 then
    place (maskOf s.sch.faulted) 31 24 ||| place s.sch.headroom 23 16 ||| (sword s.sch.tmax &&& 0xFFFF)
  else if o = 0x24 then placeB s.sch.brace 16 ||| place s.sch.stored 15 0
  else if o = 0x28 then
    place s.sch.demand 11 8 ||| place s.sch.level 5 4 ||| place (energyLevel s.sch) 3 2 ||| place (thermLevel s.sch) 1 0
  else if 0x40 ≤ o ∧ o < 0x60 then
    placeB (nth s.sch.faulted ((o - 0x40) / 4) false) 31 ||| (sword (nth s.sch.temp ((o - 0x40) / 4) 0) &&& 0xFFFF)
  else if 0x100 ≤ o ∧ o < 0x280 then schTriRead s ((o - 0x100) / 0x40) ((o - 0x100) % 0x40)
  else if 0x1000 ≤ o ∧ o < 0x2000 then
    let i := (o - 0x1000) / 16
    let x := taskSt s i
    if o % 16 = 4 then place x.misses 31 16 ||| place x.consec 7 4 ||| place (taskState s i) 1 0
    else if o % 16 = 8 then place x.minSlack 15 0
    else 0
  else 0

end Sys2Proof.Machine
end

