-- ==== Sys2Proof/Machine/TrdCore.lean ====
section
/-! DEFINITION. The application core (03 R72 to R74): its CSRs, physical memory protection, traps and returns, atomic
operations, the caches' lines, and what a committed instruction leaves in its registers. What R72 takes from the RISC-V
privileged architecture 1.12 without restating it is marked in log 178. -/

namespace Sys2Proof.Machine

/-! ## CSRs -/

/-- Bits of mstatus that sstatus shows: SIE, SPIE, SPP, FS, SUM, MXR (log 178). -/
def sstatusMask : Dword := 0xC6122

/-- CSR writes that the core ignores: mcycle, mhpmcounter3 to 31 and mhpmevent3 to 31 (R72, R74). -/
def csrIgnored (a : Nat) : Bool := decide (a = 0xB00 ∨ (0xB03 ≤ a ∧ a ≤ 0xB1F) ∨ (0x323 ≤ a ∧ a ≤ 0x33F))

/-- Counters that read 0: hpmcounter3 to 31 with their machine forms and event selectors (R72). -/
def csrZero (a : Nat) : Bool :=
  decide ((0xC03 ≤ a ∧ a ≤ 0xC1F) ∨ (0xB03 ≤ a ∧ a ≤ 0xB1F) ∨ (0x323 ≤ a ∧ a ≤ 0x33F))

/-- A stored CSR. -/
def Core.csrAt (k : Core) (a : Nat) : Dword := FMap.look k.csr 0 a

/-- The present value of a CSR that the core itself holds: sstatus, sie and sip are views of mstatus, mie and mip, fflags and
frm of fcsr (log 178); minstret and instret count (R74). -/
def csrNow (k : Core) (a : Nat) : Dword :=
  if a = 0xB02 ∨ a = 0xC02 then BitVec.ofNat 64 k.minstret
  else if csrZero a then 0
  else if a = 0x100 then k.csrAt 0x300 &&& sstatusMask
  else if a = 0x104 then k.csrAt 0x304 &&& k.csrAt 0x303
  else if a = 0x144 then k.csrAt 0x344 &&& k.csrAt 0x303
  else if a = 0x001 then k.csrAt 0x003 &&& 0x1F
  else if a = 0x002 then (k.csrAt 0x003 >>> 5) &&& 7
  else k.csrAt a

/-- A stored CSR changed. -/
def Core.csrSet (k : Core) (a : Nat) (v : Dword) : Core := { k with csr := FMap.store k.csr 0 a v }

/-- A view's bits `m` of CSR `a` replaced by those of `v`. -/
def Core.csrMerge (k : Core) (a : Nat) (m v : Dword) : Core := k.csrSet a ((k.csrAt a &&& ~~~m) ||| (v &&& m))

/-- A CSR takes the value `v`. -/
def csrPut (k : Core) (a : Nat) (v : Dword) : Core :=
  if a = 0xB02 then { k with minstret := v.toNat }
  else if a = 0x100 then k.csrMerge 0x300 sstatusMask v
  else if a = 0x104 then k.csrMerge 0x304 (k.csrAt 0x303) v
  else if a = 0x144 then k.csrMerge 0x344 (k.csrAt 0x303) v
  else if a = 0x001 then k.csrMerge 0x003 0x1F v
  else if a = 0x002 then k.csrMerge 0x003 0xE0 (v <<< 5)
  else k.csrSet a v

/-- Byte `j` of a doubleword. -/
def dwByte (v : Dword) (j : Nat) : Nat := v.toNat / 256 ^ j % 256

/-- Configuration byte of PMP entry `i`. -/
def pmpCfg (k : Core) (i : Nat) : Nat := dwByte (k.csrAt (0x3A0 + 2 * (i / 8))) (i % 8)

/-- PMP entry `i` is locked (R61). -/
def pmpLocked (k : Core) (i : Nat) : Bool := decide (128 ≤ pmpCfg k i)

/-- The address register of PMP entry `i` is locked: by its own entry, or by a locked TOR entry after it (log 174). -/
def pmpAddrLocked (k : Core) (i : Nat) : Bool :=
  pmpLocked k i || (decide (i < 15) && pmpLocked k (i + 1) && decide (pmpCfg k (i + 1) / 8 % 4 = 1))

/-- The value that a CSR takes from a write of `v`: satp keeps its value for a mode other than Bare and Sv39, mstatus.MBE,
SBE and UBE stay 0 (R72), and what a locked PMP entry holds stays (R61, log 174). -/
def csrTaken (k : Core) (a : Nat) (v : Dword) : Dword :=
  if a = 0x180 then (if v.toNat / 2 ^ 60 = 0 ∨ v.toNat / 2 ^ 60 = 8 then v else csrNow k a)
  else if a = 0x300 then v &&& ~~~0x3000000040#64
  else if a = 0x100 then v &&& sstatusMask
  else if a = 0x001 then v &&& 0x1F
  else if a = 0x002 then v &&& 7
  else if a = 0x003 then v &&& 0xFF
  else if a = 0x104 ∨ a = 0x144 then v &&& k.csrAt 0x303
  else if a = 0x3A0 ∨ a = 0x3A2 then
    BitVec.ofNat 64 (leNat ((List.range 8).map (fun j =>
      BitVec.ofNat 8 (if pmpLocked k (4 * (a - 0x3A0) + j) then dwByte (csrNow k a) j else dwByte v j))))
  else if 0x3B0 ≤ a ∧ a < 0x3C0 ∧ pmpAddrLocked k (a - 0x3B0) then csrNow k a
  else v

/-- The CSR write-backs that count: not ignored, each with the value it takes, and a change of value (R78). -/
def csrWrites (k : Core) (c : Commit) : List (Nat × Dword) :=
  ((c.csr.filter (fun w => !csrIgnored w.1)).map (fun w => (w.1, csrTaken k w.1 w.2))).filter
    (fun w => decide (csrNow k w.1 ≠ w.2))

/-- A CSR access that the core does not have: a hypervisor CSR (R72), one above the core's mode, a write of a read-only one
(log 178). -/
def csrDenied (k : Core) (a : Nat) (write : Bool) : Bool :=
  decide (a / 256 % 4 = 2) || decide (k.priv < a / 256 % 4) || (write && decide (a / 1024 = 3))

/-! ## Physical memory protection (R72) -/

/-- The region of PMP entry `i`, first and last 4 KiB page: TOR, NA4 and NAPOT below 4 KiB are the pages that contain them
(R72). -/
def pmpRegion (k : Core) (i : Nat) : Option (Nat × Nat) :=
  let a := 4 * (k.csrAt (0x3B0 + i)).toNat
  match pmpCfg k i / 8 % 4 with
  | 1 =>
    let lo := if i = 0 then 0 else 4 * (k.csrAt (0x3B0 + i - 1)).toNat
    if lo < a then some (lo / 4096, (a - 1) / 4096) else none
  | 2 => some (a / 4096, a / 4096)
  | 3 =>
    let t := ((List.range 54).find? (fun j => !(a / 4).testBit j)).getD 54
    let z := 8 * 2 ^ t
    some (a / z * z / 4096, (a / z * z + z - 1) / 4096)
  | _ => none

/-- The mode that a load or store is made in: MPP while MPRV is set (log 178). -/
def dataPriv (k : Core) : Nat :=
  let m := k.csrAt 0x300
  if k.priv = 3 ∧ m.getLsbD 17 then m.toNat / 2048 % 4 else k.priv

/-- The PMP refuses an access of `size` bytes at `addr` that needs permission bit `bit` (0 read, 1 write): the lowest entry
that meets any of it decides; machine mode is bound by locked entries only (R61, R72). -/
def pmpDenies (k : Core) (bit addr size : Nat) : Bool :=
  let lo := addr / 4096
  let hi := (addr + size - 1) / 4096
  let meets := fun (i : Nat) => match pmpRegion k i with
    | some (a, b) => decide (a ≤ hi) && decide (lo ≤ b)
    | none => false
  match (List.range 16).find? meets with
  | none => decide (dataPriv k ≠ 3)
  | some i =>
    if dataPriv k = 3 ∧ !pmpLocked k i then false
    else match pmpRegion k i with
      | some (a, b) => !(decide (a ≤ lo) && decide (hi ≤ b) && (pmpCfg k i).testBit bit)
      | none => false

/-! ## Traps and returns (R72, R78) -/

/-- The mode that takes a trap: supervisor where it is delegated and the core is not in machine mode (log 178). -/
def trapMachine (k : Core) (irq : Bool) (code : Nat) : Bool :=
  decide (k.priv = 3) || !(k.csrAt (if irq then 0x303 else 0x302)).getLsbD code

/-- The core takes a trap at `pc`: exception pc, cause, trap value and the status are saved, the mode changes, and the core
goes on at the handler (RISC-V privileged architecture 1.12, by R72; log 178). -/
def takeTrap (r : TrapRec) (pc : Dword) (k : Core) : Core :=
  let base := if r.machine then 0x340 else 0x140
  let tvec := k.csrAt (if r.machine then 0x305 else 0x105)
  let at' := tvec &&& ~~~3#64
  let m := k.csrAt 0x300
  let m' := if r.machine then
      (m &&& ~~~0x1888#64) ||| (BitVec.ofNat 64 (k.priv * 2048)) ||| (if m.getLsbD 3 then 0x80 else 0)
    else (m &&& ~~~0x122#64) ||| (if k.priv = 0 then 0 else 0x100) ||| (if m.getLsbD 1 then 0x20 else 0)
  let k := (((k.csrSet (base + 1) pc).csrSet (base + 2) (BitVec.ofNat 64 ((if r.irq then 2 ^ 63 else 0) + r.code))).csrSet
    (base + 3) r.tval).csrSet 0x300 m'
  { k with
    priv := if r.machine then 3 else 1,
    pc := if r.irq ∧ tvec.getLsbD 0 then at' + BitVec.ofNat 64 (4 * r.code) else at' }

/-- The core returns from a trap: the status and the mode are restored, and it goes on at the saved pc (log 178). -/
def takeRet (r : TrapRet) (k : Core) : Core :=
  let m := k.csrAt 0x300
  match r with
  | .mret =>
    let p := m.toNat / 2048 % 4
    let m' := (m &&& ~~~(if p = 3 then 0x1888#64 else 0x21888#64)) ||| (if m.getLsbD 7 then 8 else 0) ||| 0x80
    { k.csrSet 0x300 m' with priv := p, pc := k.csrAt 0x341 }
  | .sret =>
    let m' := (m &&& ~~~0x20122#64) ||| (if m.getLsbD 5 then 2 else 0) ||| 0x20
    { k.csrSet 0x300 m' with priv := if m.getLsbD 8 then 1 else 0, pc := k.csrAt 0x141 }

/-- An instruction that traps with exception `code` (R78). -/
def trapCommit (k : Core) (pc : Dword) (irq : Bool) (code : Nat) (tval : Dword) : Commit where
  pc := pc
  next := pc
  trap := some ⟨trapMachine k irq code, irq, code, tval⟩
  store := none
  xw := none
  fw := none
  csr := []

/-- The instruction is one that R72 does not give the core: an opcode outside the options, a CSR the core does not have, a
return above the core's mode. -/
def isIllegal (k : Core) (c : Commit) : Bool :=
  c.illegal || c.csr.any (fun w => csrDenied k w.1 true) ||
    (match c.csrRead with
      | some a => csrDenied k a false
      | none => false) ||
    (match c.ret with
      | some .mret => decide (k.priv < 3)
      | some .sret => decide (k.priv = 0)
      | none => false)

/-- The exception that an instruction raises instead of its effect by the limits of R72: illegal instruction (2), misaligned
store (6), store that the PMP refuses (7). -/
def limitTrap (k : Core) (c : Commit) : Option (Nat × Dword) :=
  if c.trap.isSome then none
  else if isIllegal k c then some (2, 0)
  else
    match c.store with
    | none => none
    | some r =>
      if r.addr % 2 ^ r.size ≠ 0 then some (6, BitVec.ofNat 64 r.addr)
      else if pmpDenies k 1 r.addr (2 ^ r.size) then some (7, BitVec.ofNat 64 r.addr)
      else none

/-! ## Interrupts of a core -/

/-- The core would take an interrupt of `code` now (RISC-V privileged architecture 1.12, by R72; log 178). -/
def irqEnabled (k : Core) (code : Nat) : Bool :=
  let m := k.csrAt 0x300
  (k.csrAt 0x304).getLsbD code &&
    (if (k.csrAt 0x303).getLsbD code then decide (k.priv = 0) || (decide (k.priv = 1) && m.getLsbD 1)
     else decide (k.priv < 3) || m.getLsbD 3)

/-- The oldest source given to the core that it would take now. -/
def Core.takes (k : Core) : Option Nat :=
  if k.csrAt 0x304 = 0 then none else k.intr.find? (fun i => irqEnabled k (Config.irqCode i % 64))

/-! ## Caches (R73) -/

/-- Lines of an L1 cache after line `n` has been filled: 256 sets of 4 lines; which one makes room is the die's. -/
def fillL1 (l : List Nat) (n : Nat) : List Nat :=
  if l.contains n then l
  else
    let set := l.filter (fun x => x % 256 = n % 256)
    if set.length < 4 then l ++ [n]
    else l.erase (nth set (Config.l1Victim set % 4) 0) ++ [n]

/-- Lines of the L2 cache after line `n` has been filled: 1 MiB of 64-byte lines; which one makes room is the die's. -/
def fillL2 (l : List Nat) (n : Nat) : List Nat :=
  if l.contains n then l
  else if l.length < 16384 then l ++ [n]
  else l.erase (nth l (Config.l2Victim n % 16384) 0) ++ [n]

/-- Code is fetched at physical addresses: no translation is on (R72). -/
def untranslated (k : Core) : Bool := decide (k.priv = 3) || decide ((k.csrAt 0x180).toNat / 2 ^ 60 = 0)

/-- The instruction's line comes into the instruction cache. -/
def fetchLine (k : Core) (pc : Dword) : List Nat := if untranslated k then fillL1 k.l1i (pc.toNat / 64) else k.l1i

/-! ## Atomic operations (R72, R95) -/

/-- A value as a register takes it from `size` bytes: words are sign-extended. -/
def regOf (size n : Nat) : Dword := if size = 4 then (BitVec.ofNat 32 n).signExtend 64 else BitVec.ofNat 64 n

/-- The value that an atomic operation leaves in memory, of `size` bytes, from the old one and the operand. -/
def amoNew (op : AmoOp) (size : Nat) (old v : Dword) : Dword :=
  let b := regOf size v.toNat
  match op with
  | .lr => old
  | .sc => b
  | .swap => b
  | .add => old + b
  | .xor => old ^^^ b
  | .and => old &&& b
  | .or => old ||| b
  | .min => if old.toInt ≤ b.toInt then old else b
  | .max => if old.toInt ≤ b.toInt then b else old
  | .minu => if (old.setWidth (8 * size)).toNat ≤ (b.setWidth (8 * size)).toNat then old else b
  | .maxu => if (old.setWidth (8 * size)).toNat ≤ (b.setWidth (8 * size)).toNat then b else old

/-! ## Registers after an instruction -/

/-- CSR write-backs taken in order. -/
def putCsrs (l : List (Nat × Dword)) (k : Core) : Core :=
  match l with
  | [] => k
  | (a, v) :: t => putCsrs t (csrPut k a v)

/-- The core's registers after an instruction: a trapped one does not retire. -/
def commitRegs (c : Commit) (k : Core) : Core :=
  let k := { k with l1i := fetchLine k c.pc }
  match c.trap with
  | some r => takeTrap r c.pc k
  | none =>
    let k' := putCsrs (csrWrites k c) { k with
      pc := c.next,
      x := (match c.xw with
        | some (n, v) => if n = 0 then k.x else FMap.store k.x 0 n v
        | none => k.x),
      f := (match c.fw with
        | some (n, v) => FMap.store k.f 0 n v
        | none => k.f) }
    let k' := { k' with minstret := (match c.csr.find? (fun y => decide (y.1 = 0xB02)) with
        | some y => y.2.toNat
        | none => (k.minstret + 1) % 2 ^ 64) }
    match c.ret with
    | some r => takeRet r k'
    | none => k'

end Sys2Proof.Machine
end

