-- ==== Sys2Proof/Machine/TrdBase.lean ====
section
/-! DEFINITION. Triads: what start-up, voting and repair share (03 R61, R75, R88, R91, R98; 19 R442): codings, starting a
core and a triad, claiming a reserve. -/

namespace Sys2Proof.Machine

/-! ## Codings -/

/-- The triad coding of DETAIL (R442): core (255 none), position (3 none), triad (15 none). -/
def trdDetail (core pos t : Nat) : Nat := 256 * core + 16 * pos + t

/-- TRD_ERR_INFO without its flags; core 0x1F for the whole triad. -/
def trdInfo (bit cause core pos t : Nat) : Word :=
  place cause 23 20 ||| place bit 19 16 ||| place core 12 8 ||| place pos 7 6 ||| place t 4 2

/-- An error of a whole triad: status, capture and record. -/
def raiseTriad (bit code cause t window : Nat) (d0 d1 : Word) (s : State) : State :=
  event code (trdDetail 255 3 t) d0 d1 (errTrd bit (trdInfo bit cause 0x1F 3 t) window s)

/-- An error of a core in a position: status, capture and record. -/
def raiseCore (bit code cause core pos t window : Nat) (d0 d1 : Word) (s : State) : State :=
  event code (trdDetail core pos t) d0 d1 (errTrd bit (trdInfo bit cause core pos t) window s)

/-! ## Images of the cores -/

/-- ENTRY of a CORE_IMAGE instance (R56). -/
def entryOf (s : State) (inst : Nat) : Nat :=
  match s.img.cores.find? (fun x => decide (x.1 = inst)) with
  | some x => x.2.2
  | none => 0

/-- Locked PMP entries of triad `t`: configuration and address (R61). -/
def pmpOf (s : State) (t : Nat) : List (Nat × Nat) := nth s.img.pmp t []

/-- The PMP CSRs that boot code writes: pmpcfg0 at 0x3A0, pmpcfg2 at 0x3A2, pmpaddr0 at 0x3B0 (R61, R72). -/
def pmpCsrs (l : List (Nat × Nat)) : FMap Dword :=
  let cfg := fun (k : Nat) =>
    BitVec.ofNat 64 (leNat ((List.range 8).map (fun j => BitVec.ofNat 8 (nth l (8 * k + j) (0, 0)).1)))
  let a : FMap Dword := FMap.store (FMap.store [] 0 0x3A0 (cfg 0)) 0 0x3A2 (cfg 1)
  FMap.storeList a 0 0x3B0 (l.map (fun x => BitVec.ofNat 64 x.2))

/-- Core `n` out of reset at `entry`, in position `p` of triad `t`: caches empty, its clock count at 0 (R89, log 178). -/
def startCore (n entry role t p : Nat) (s : State) : State :=
  modCore n (fun (_ : Core) =>
    { csr := pmpCsrs (pmpOf s t), pc := BitVec.ofNat 64 entry, role := role, triad := t, pos := p, running := true,
      cycBase := -(BitVec.ofNat 64 s.clk.now) }) s

/-- Positions of a triad that hold a core fit to run. -/
def Triad.filled (x : Triad) : List Nat := (List.range 3).filter (fun p => !nth x.empty p false)

/-- Voting starts with the positions `ps`, every window gone (R89, R407). -/
def Triad.votingWith (x : Triad) (ps : List Nat) : Triad :=
  { x.emptied with
    live := (List.range 3).map (fun p => ps.contains p),
    state := if ps.length = 3 then 1 else if ps.length = 2 then 2 else 6, haltedAt := none }

/-- The cores of positions `ps` start at ENTRY of instance 4·t as the members of triad `t` (R89, R407). A voter that Thresh
holds in reset starts none (18 R380). -/
def startVoting (t : Nat) (ps : List Nat) (s : State) : State :=
  if isolated s (20 + t) then s
  else
  let s := modTri t (fun (x : Triad) => x.votingWith ps) s
  if ps.length < 2 then s
  else forAll ps (fun p s => startCore ((s.tri t).coreAt p) (entryOf s (4 * t)) 0 t p s) s

/-- The core of position `p` starts at ENTRY of its split instance, a0 holding `a0` (R95, R96). -/
def startSplitCore (t a0 p : Nat) (s : State) : State :=
  let n := (s.tri t).coreAt p
  modCore n (fun (c : Core) => { c with x := FMap.store [] 0 10 (BitVec.ofNat 64 a0) })
    (startCore n (entryOf s (4 * t + 1 + p)) 1 t p s)

/-- Triad `t` starts split (R95, R407). -/
def startSplit (t : Nat) (s : State) : State :=
  let s := modTri t (fun (x : Triad) => { x.emptied with live := [false, false, false], state := 4 }) s
  forAll (s.tri t).filled (fun p s => startSplitCore t 0 p s) s

/-! ## Lanes and agreement (R85, R87) -/

/-- The closed window `n` of a lane. -/
def Lane.closed (l : Lane) (n : Nat) : Option Win := l.wins.find? (fun w => decide (w.num = n ∧ w.cause ≠ 0))

/-- Lane of position `p`. -/
def Triad.lane (x : Triad) (p : Nat) : Lane := nth x.lanes p {}

/-- Two live cores have delivered equal signatures for window `n`: the first of them in position order, and its window. -/
def Triad.agreed (x : Triad) (n : Nat) : Option (Nat × Win) :=
  match x.livePos.filterMap (fun p => (match (x.lane p).closed n with
      | some w => some (p, w)
      | none => none)) with
  | [] => none
  | a :: rest =>
    if rest.any (fun b => decide (b.2.sig = a.2.sig)) then some a
    else
      match rest with
      | [] => none
      | b :: rest => if rest.any (fun c => decide (c.2.sig = b.2.sig)) then some b else none

/-- The bytes of a store record, byte k for the address plus k, zero where not enabled (R78, log 69). -/
def storeBytes (st : StoreRec) : List Byte :=
  (List.range (2 ^ st.size)).map (fun k =>
    if st.be.getLsbD k then BitVec.ofNat 8 (st.data.toNat >>> (8 * k)) else 0)

/-! ## Reserves (R88, R91) -/

/-- The first free reserve. -/
def freeReserve (s : State) : Option Nat :=
  if nth s.trd.resFree 0 false then some 0 else if nth s.trd.resFree 1 false then some 1 else none

/-- Core of reserve `r`. -/
def resCore (s : State) (r : Nat) : Nat := nth s.trd.reserves r 0

/-- The one empty position of a triad; position 0 where none is. -/
def Triad.gap (x : Triad) : Nat := ((List.range 3).find? (fun p => nth x.empty p false)).getD 0

/-- Triad `t` claims a free reserve: JOINING, its L1 caches being cleared, REINT_PENDING set (R91). -/
def claimReserve (t : Nat) (s : State) : State :=
  match freeReserve s with
  | none => modTri t (fun (x : Triad) => { x with reintPending := false }) s
  | some r =>
    let p := (s.tri t).gap
    let s := { s with trd := { s.trd with resFree := modAt s.trd.resFree r (fun _ => false) } }
    let s := modCore (resCore s r) (fun (_ : Core) => { role := 3, triad := t, pos := p, clearing := true }) s
    modTri t (fun (x : Triad) => { x with reintPending := true, reserveSel := r }) s

/-- Reserve core `n` takes position `p` of triad `t` as a member. -/
def joinCore (t p n : Nat) (s : State) : State :=
  modTri t (fun (x : Triad) => { x with
      cores := modAt x.cores p (fun _ => n), empty := modAt x.empty p (fun _ => false), reintPending := false })
    (modCore n (fun (c : Core) => { c with role := 0, triad := t, pos := p, running := true, clearing := false }) s)

end Sys2Proof.Machine
end

