-- ==== Sys2Proof/Machine/Supply.lean ====
section
/-! DEFINITION. The supply supervisor and the always-on domain (08), the quench (07 R182, R183) and the resets the
supervisor makes (20 R412). Voltages are in units of 10 mV. -/

namespace Sys2Proof.Machine

/-! ## Errors -/

/-- SUP_ERR_INFO without its flags. -/
def supInfo (bit value : Nat) : Word := place value 31 16 ||| place bit 7 4

/-- An error of the supervisor with one record per occurrence (R201). -/
def raiseSup (bit code detail value : Nat) (s : State) : State :=
  event code detail (w32 value) 0 (errSup bit (supInfo bit value) s)

/-- An episode of a code is open (R201). -/
def supEpisode (s : State) (code : Nat) : Bool := s.sup.episodes.any (fun e => e.1 = code)

/-- The condition of an episode shows now. -/
def episodeNow (code : Nat) (s : State) : State :=
  { s with sup := { s.sup with
      episodes := s.sup.episodes.map (fun e => if e.1 = code then (code, s.clk.now) else e) } }

/-- INWIN, LPLUS and CELL: one record per episode, every occurrence counted (R201). -/
def raiseSupEpisode (bit code detail value info : Nat) (s : State) : State :=
  let s := errSup bit (supInfo bit info) s
  if supEpisode s code then episodeNow code (countOnly code s)
  else
    let s := event code detail (w32 value) 0 s
    { s with sup := { s.sup with episodes := s.sup.episodes ++ [(code, s.clk.now)] } }

/-! ## Quench and the supervisor's resets -/

/-- Counts of rate-limited events still held (R396). -/
def heldCounts (s : State) : Nat := s.grn.rates.foldl (fun n c => n + c.count) 0

/-- The session number of the last-quench block: this session's power-cycle count, or the stored count of the session before
where Granary has not made one yet (R183, R400, log 191). -/
def quenchSession (s : State) : Nat :=
  if s.grn.power ≠ 0 then s.grn.power
  else match bestSlot s 0x200 with
    | some b => leAt b 0 8
    | none => 0

/-- The last-quench block (R183). -/
def writeQuenchBlock (us : Nat) (s : State) : State :=
  mramWrite 0x80
    (sealed64 (le 8 (quenchSession s) ++ le 2 us ++ le 2 s.sup.quenchEntries ++ le 2 (s.sup.quenchEvents + heldCounts s) ++
      zeros 46)) s

/-- QUENCH_DONE (R182, R183, R195): queue, life-data lines and last-quench block are written; the die resets. -/
def opQuenchDone (us : Nat) (s : State) : State :=
  if s.sup.quenchSince.isSome then
    dieReset 1 true none (writeQuenchBlock us (lifeFlush (flushQueue true s)))
  else s

/-- QUENCH_GUARD_EXPIRY (R195): the die resets with what a stalled quench had done: of the records and lines, as many as a
free value says (log 36). -/
def opQuenchGuardExpiry (s : State) : State :=
  if due s.sup.quenchSince 900000 s.clk.now then
    let k := freshNat s % (s.grn.queue.length + 1)
    let s := drawn s
    let s := if s.grn.ready then forAll (List.range k) (fun _ => writeFront true) s else s
    let n := if s.grn.queue = [] then freshNat s % (s.grn.incr.length + 1) else 0
    let s := { s with grn := { s.grn with incr := s.grn.incr.take n } }
    dieReset 3 false none (lifeFlush (drawn s))
  else s

/-- RAIL_FAULT_TIMEOUT (R201): a rail has stayed out of tolerance for the rail-fault time. A quench that runs is not cut
short (07 R182). -/
def opRailFaultTimeout (s : State) : State :=
  if s.mod.mode.released && s.sup.quenchSince.isNone &&
      s.sup.railSince.any (fun r => due (some r.2) 9900000 s.clk.now) then
    dieReset 2 false none s
  else s

/-! ## The input (R186, R187) -/

/-- The input is disconnected (R187); a die held after a shut-down may be released once it returns (R415). -/
def disconnect (high : Bool) (s : State) : State :=
  let s := { s with
    sup := { s.sup with disc := true, discHigh := high, fluctSince := none, surgeSince := none, reconnSince := none },
    mod := { s.mod with hold := (match s.mod.hold with
      | some _ => some true
      | none => none) } }
  raiseSup 3 0x2C04 0 s.sup.vin s

/-- The start of a timer that runs while a condition holds. -/
def runWhile (c : Bool) (t : Option Nat) (now : Nat) : Option Nat :=
  if c then (match t with
    | some x => some x
    | none => some now) else none

/-- The input at a sample: disconnection at once, or the timers of R187. -/
def inputSampled (s : State) : State :=
  let v := s.sup.vin
  let now := s.clk.now
  let ok := decide (1680 ≤ v ∧ v ≤ 15400)
  if s.sup.disc then
    { s with sup := { s.sup with reconnSince := runWhile ok s.sup.reconnSince now } }
  else if v < 1400 then disconnect false s
  else if 17000 < v then disconnect true s
  else
    { s with sup := { s.sup with
        fluctSince := runWhile (decide (v < 1680)) s.sup.fluctSince now,
        surgeSince := runWhile (decide (15400 < v)) s.sup.surgeSince now } }

/-- FLUCTUATION_TIMEOUT (R187). -/
def opFluctuationTimeout (s : State) : State :=
  if s.mod.mode ≠ .powerOff ∧ !s.sup.disc ∧ due s.sup.fluctSince 100000000 s.clk.now then disconnect false s else s

/-- SURGE_TIMEOUT (R187). -/
def opSurgeTimeout (s : State) : State :=
  if s.mod.mode ≠ .powerOff ∧ !s.sup.disc ∧ due s.sup.surgeSince 1000000000 s.clk.now then disconnect true s else s

/-- INPUT_RECONNECT (R187): 9 ms after a disconnection above the range, 0.2 ms after one below it. -/
def opInputReconnect (s : State) : State :=
  if s.mod.mode ≠ .powerOff ∧ s.sup.disc ∧
      due s.sup.reconnSince (if s.sup.discHigh then 9000000 else 200000) s.clk.now then
    { s with sup := { s.sup with disc := false, reconnSince := none } }
  else s

/-- Nominal voltage of a valid coding (SUP_CFG), V. -/
def unVolts (un : Nat) : Nat := nth [24, 36, 48, 72, 96, 110] un 0

/-- INWIN: outside 0.7 Un to 1.25 Un for the fluctuation time; no check with an invalid coding (R188, R189). -/
def windowSampled (s : State) : State :=
  if 5 < s.sup.un then s
  else
    let out := decide (s.sup.vin < 70 * unVolts s.sup.un ∨ 125 * unVolts s.sup.un < s.sup.vin)
    let s := { s with sup := { s.sup with
        winSince := runWhile out s.sup.winSince s.clk.now, winRaised := out && s.sup.winRaised } }
    let s := if out then episodeNow 0x2C03 s else s
    if out && !s.sup.winRaised && due s.sup.winSince 100000000 s.clk.now then
      raiseSupEpisode 2 0x2C03 0 s.sup.vin s.sup.vin { s with sup := { s.sup with winRaised := true } }
    else s

/-! ## L+ and the rails (R190, R201, R320) -/

/-- L+ at a sample: LPLUS after two samples out of range; usable and lost as the field I/O block judges it (R320). -/
def lplusSampled (s : State) : State :=
  let v := s.sup.lplus
  let out := decide (v < Config.lplusLow ∨ Config.lplusHigh < v)
  let raise := out && s.sup.lplusBad && !s.sup.lplusRaised
  let inRange := decide (1920 ≤ v ∧ v ≤ 3000)
  let low := if v < 1200 then satInc 10 s.sup.lplusLow else 0
  let s := { s with
    sup := { s.sup with lplusBad := out, lplusRaised := out && (s.sup.lplusRaised || raise), lplusLow := low },
    fio := { s.fio with goodSince := runWhile inRange s.fio.goodSince s.clk.now } }
  let s := if out then episodeNow 0x2C06 s else s
  let s := if raise then raiseSupEpisode 5 0x2C06 0 v v s else s
  if s.fio.on && !s.fio.lost && decide (10 ≤ low) then fioLplusLost s
  else if s.fio.on && !s.fio.lost && !s.fio.usable && decide (1200 ≤ v) then
    lplusUsable s
  else s

/-- RAIL is raised for rail `r.1`, at value `r.2`, and its rail-fault time starts (R201). -/
def railFault (r : Nat × Nat) (s : State) : State :=
  enterSafe 0x3C09 (raiseSup 8 0x3C09 r.1 r.2 { s with sup := { s.sup with
    railSince := s.sup.railSince ++ [(r.1, s.clk.now)] } })

/-- The rails at a sample, `rails` those out of tolerance: RAIL and SAFE at a rail's second sample in a row; the time of a
rail that has returned stops (R201). -/
def railSampled (rails : List (Nat × Nat)) (s : State) : State :=
  let old := s.sup.railBad
  let isOut := fun (n : Nat) => rails.any (fun r => decide (r.1 = n))
  let s := { s with sup := { s.sup with
      railBad := rails.map (fun r => r.1), railSince := s.sup.railSince.filter (fun e => isOut e.1) } }
  forAll (rails.filter (fun r => old.contains r.1 && !s.sup.railSince.any (fun e => decide (e.1 = r.1)))) railFault s

/-! ## The bus (R193 to R198) -/

/-- WARN (R196, R197) with the module state of the record. -/
def raiseWarn (s : State) : State := raiseSup 0 0x2C01 s.mod.mode.code s.sup.vbus s

/-- BRACE_ENTRY (R196). -/
def braceEntry (s : State) : State :=
  let s := { s with
    mod := { s.mod with mode := .brace },
    sup := { s.sup with brace := true, braceSince := some s.clk.now, dwellSince := none, dips := 0 },
    sch := { s.sch with brace := true } }
  irqAll irqBrace (lifeFlush (flushQueue false (hoursCopy (raiseWarn s))))

/-- A further fall during BRACE adds 1 to DIPS and records nothing new (R198). -/
def braceDip (s : State) : State :=
  countOnly 0x2C01 (errSup 0 (supInfo 0 s.sup.vbus) { s with sup := { s.sup with dips := satInc 255 s.sup.dips } })

/-- A fall below the warning level with no effect on the module state: WARN, the copy and the flush (R197, log 92). -/
def warnOnly (s : State) : State := flushQueue false (hoursCopyWhole (raiseWarn s))

/-- The bus has fallen below the warning level, and not below the reset level. -/
def warnFall (s : State) : State :=
  match s.mod.mode with
  | .run => braceEntry s
  | .brace => braceDip s
  | .powerOff => s
  | _ => warnOnly s

/-- The bus has fallen below both levels in one sample: BRACE is not entered, WARN is still raised (R193, R197, R198). -/
def warnFallDeep (s : State) : State :=
  match s.mod.mode with
  | .run => raiseWarn s
  | .brace => braceDip s
  | .powerOff => s
  | _ => warnOnly s

/-! ## Step 2 of the quench (07 R182) -/

/-- Windows of triad `t` that two equal signatures have voted and that are not released yet, in window order. -/
def votedWindows (x : Triad) : List Win :=
  if x.state = 4 ∨ x.state = 6 then []
  else
    let last := (x.lanes.map (fun (l : Lane) => l.nextNum)).foldl Nat.max 0
    ((List.range (last - x.relNum)).filterMap (fun k => x.agreed (x.relNum + k))).map (fun e => e.2)

/-- One released entry: written where it goes to MRAM, and counted; an entry to another target is discarded. -/
def quenchStore (t : Nat) (st : StoreRec) (s : State) : State :=
  match placeOf st.addr with
  | .mram o =>
    if firewallOk s (voterId t) .write st.addr (2 ^ st.size) then
      putEnabled mramWrite o (storeBytes st) st.be.toNat { s with sup := { s.sup with quenchEntries := s.sup.quenchEntries + 1 } }
    else s
  | _ => s

/-- The MRAM entries of every voted window are released, in window order and in commit order. -/
def quenchRelease (s : State) : State :=
  forAll (List.range 6) (fun t s =>
    forAll (votedWindows (s.tri t)) (fun w s => forAll w.stores (quenchStore t) s) s) s

/-- RESET_REQUEST (R195): 0x3C02 is queued, cores and lanes halt, the MRAM entries of voted windows are released, and the
rest is discarded (R182). -/
def resetRequest (s : State) : State :=
  let s := raiseSup 1 0x3C02 0 s.sup.vbus s
  haltAll (quenchRelease
    { s with sup := { s.sup with quenchSince := some s.clk.now, quenchEntries := 0, quenchEvents := 0 } })

/-- The bus levels at a sample, `old` the bus of the sample before (R193). -/
def busSampled (old : Nat) (s : State) : State :=
  let v := s.sup.vbus
  let fell := fun (l : Nat) => decide (l ≤ old ∧ v < l)
  let s := { s with sup := { s.sup with
      dwellSince := if s.sup.brace then runWhile (decide (Config.exitLevel ≤ v)) s.sup.dwellSince s.clk.now else none } }
  if s.mod.mode.released && s.sup.quenchSince.isNone && fell Config.resetLevel then
    resetRequest (if fell Config.warnLevel then warnFallDeep s else s)
  else if s.sup.quenchSince.isNone && fell Config.warnLevel then warnFall s
  else s

/-- Energy above the reset level in mJ (R194), the fraction of an mJ dropped (log 192). -/
def storedEnergy (cap vbus : Nat) : Nat := Nat.min 65535 (cap * (vbus * vbus - 2800 * 2800) / 20000000)

/-- The coding pins are read (R188): UN shows them, 7 and CODING for an invalid coding. -/
def readPins (s : State) : State :=
  if s.sup.coded then s
  else
    let c := s.sup.coding
    let s := { s with sup := { s.sup with un := if c ≤ 5 then c else 7, coded := true } }
    if c ≤ 5 then s else raiseSup 7 0x3C08 0 c s

/-- SUPPLY_SAMPLE (R193): measurements, input, class window, L+, rails, bus levels, and the energy report. In SUPERVISED the
first sample after a reset finds the coding pins read (R188, log 193). -/
def opSupplySample (vin vbus lplus : Nat) (rails : List (Nat × Nat)) (s : State) : State :=
  if s.mod.mode = .powerOff then s
  else
    let s := if s.mod.mode = .supervised then readPins s else s
    let old := s.sup.vbus
    let e := storedEnergy s.sup.cap vbus
    let s := { s with
      sup := { s.sup with
        vin := vin, vbus := vbus, lplus := lplus, energy := e, inputOk := decide (1680 ≤ vin ∧ vin ≤ 15400),
        lplusOk := decide (1920 ≤ lplus ∧ lplus ≤ 3000), warnLvl := decide (vbus < Config.warnLevel) },
      sch := { s.sch with stored := e } }
    if s.mod.mode.released && decide (Config.floorLevel ≤ old ∧ vbus < Config.floorLevel) then dieReset 2 false none s
    else
      let s := railSampled rails (lplusSampled (windowSampled (inputSampled s)))
      let s := busSampled old s
      if s.mod.mode.released then energySample s else s

/-- BRACE_DWELL_END (R198): back to RUN. -/
def opBraceDwellEnd (s : State) : State :=
  if s.mod.mode = .brace ∧ due s.sup.dwellSince 450000000 s.clk.now then
    braceEnd { s with mod := { s.mod with mode := .run } }
  else s

/-! ## Power-on, store, release -/

/-- POWER_ON (R412, R188, R200): logic supply from POWER-OFF: SUPERVISED, CAUSE 0, the coding read. -/
def opPowerOn (coding : Nat) (s : State) : State :=
  if s.mod.mode = .powerOff then
    let s := dieReset 0 false none { s with sup := {}, mod := {} }
    readPins { s with
      sup := { s.sup with coding := coding },
      aon := { s.aon with kept := s.aon.alive, whole := s.aon.alive } }
  else s

/-- CAPACITANCE_MEASUREMENT (R191): µA times µs over 20 V, in µF. -/
def opCapacitanceMeasurement (ua us : Nat) (s : State) : State :=
  if s.mod.mode = .supervised then
    let c := Nat.min 65535 (ua * us / 20000000)
    let s := { s with sup := { s.sup with cap := c } }
    if c < 800 then raiseSup 4 0x3C05 0 c s else s
  else s

/-- The hold of R415 lets the supervisor release: no hold, the input has been disconnected since, or SDREQ asked for the
shut-down and has read inactive for 10 samples. -/
def holdOver (s : State) : Bool :=
  match s.mod.hold with
  | none => true
  | some true => true
  | some false => s.mod.pinReq && due s.mod.sdreqAt 10000000 s.clk.now

/-- SUPERVISOR_RELEASE (R192): the die goes from SUPERVISED into BOOT; relays open, the lamp test starts, kept events go to
Granary's queue (R203, R393, R440). -/
def opSupervisorRelease (oscOk : Bool) (s : State) : State :=
  if s.mod.mode = .supervised ∧ !s.sup.disc ∧ 5400 ≤ s.sup.vbus ∧ 300 ≤ s.sup.cap ∧ s.sup.railBad = [] ∧ oscOk ∧
      holdOver s then
    let s := readPins s
    let held := s.grn.held
    let s := { s with
      mod := { s.mod with
        mode := .boot, hold := none, pinReq := false, ready := 0, releasedAt := s.clk.now, lamp := true },
      grn := { s.grn with held := [] },
      vyf := { s.vyf with chA := { s.vyf.chA with relay := false }, chB := { s.vyf.chB with relay := false } } }
    forAll held enqueue s
  else s

/-- LOGIC_SUPPLY_LOST (R199, R200): POWER-OFF; the always-on domain goes on only from a cell that keeps it. -/
def opLogicSupplyLost (s : State) : State :=
  let a := s.aon
  let s := dieReset 0 false none s
  { s with
    mod := { mode := .powerOff },
    sup := {},
    aon := if a.alive then { s.aon with kept := false } else {} }

/-- LAMP_TEST_END (R440): 500 ms after release. -/
def opLampTestEnd (s : State) : State :=
  if s.mod.lamp && decide (s.mod.releasedAt + 500000000 ≤ s.clk.now) then { s with mod := { s.mod with lamp := false } }
  else s

/-! ## The cell and the always-on domain -/

/-- CELL_MEASUREMENT (R200). In POWER-OFF nobody measures: `mv` is then the supply that the domain has from the cell, and
below 1.80 V, the cell out of its holder among them, the domain loses what it keeps (R199, log 91). -/
def opCellMeasurement (mv : Nat) (s : State) : State :=
  if s.mod.mode = .powerOff then (if mv < 1800 then { s with aon := {} } else s)
  else
    let low := decide (mv < Config.cellLow)
    let missing := decide (mv < 1800)
    let bad := low || missing
    let was := s.sup.cellBad
    let s := { s with
      aon := { s.aon with cellMv := mv, cellLow := low, cellMissing := missing, alive := !missing },
      sup := { s.sup with cellBad := bad } }
    let s := if bad || was then episodeNow 0x2C07 s else s
    if bad then raiseSupEpisode 6 0x2C07 (if missing then 2 else 1) mv (mv / 10) s else s

/-- AON_SNAP (R35): a write of REQ takes a snapshot. -/
def opAonSnap (_init : Nat) (v : Word) (s : State) : State :=
  if bitOf v 0 then { s with aon := { s.aon with done := false, snapSince := some s.clk.now } } else s

/-- AON_SNAP_DONE (R35): the snapshot crosses in 30,518 ns at least; it holds the values of the instant of DONE (log 194). -/
def opAonSnapDone (s : State) : State :=
  if due s.aon.snapSince 30518 s.clk.now then
    { s with aon := { s.aon with
        done := true, snapSince := none, snapSecs := s.aon.secs, snapRtc := s.aon.rtc, snapSub := s.aon.rtcSub } }
  else s

/-- AON_RTC_SET: a write of AON_RTC_CTRL.SET by the security engine (R200). -/
def opAonRtcSet (init : Nat) (v : Word) (s : State) : State :=
  if init = secId ∧ bitOf v 0 then
    let old := s.aon.rtc
    let new := s.aon.setHi.toNat * 2 ^ 32 + s.aon.setLo.toNat
    event 0x2C20 0 (w32 old) (w32 new) { s with
      aon := { s.aon with rtc := new, rtcSub := 0, rtcFrac := 0 }, sec := { s.sec with clockSet := true } }
  else s

/-! ## Episodes -/

/-- ERROR_EPISODE_END: an episode ends 10 s after its condition was last seen (R201, R324). -/
def opErrorEpisodeEnd (e : Episode) (s : State) : State :=
  let now := s.clk.now
  let stop := fun (x : Epi) => if x.ended now then ({} : Epi) else x
  match e.code with
  | 0x2906 =>
    if e.idx < 40 then modDi e.idx (fun (d : Din) => { d with epiBreak := stop d.epiBreak }) s
    else modFb (e.idx - 0x50) (fun (d : Din) => { d with epiBreak := stop d.epiBreak }) s
  | 0x2908 =>
    if e.idx < 40 then modDi e.idx (fun (d : Din) => { d with epiOver := stop d.epiOver }) s
    else modFb (e.idx - 0x50) (fun (d : Din) => { d with epiOver := stop d.epiOver }) s
  | 0x2909 => modDq (e.idx - 0x40) (fun (d : Dout) => { d with epiOpen := stop d.epiOpen }) s
  | 0x2C07 =>
    if s.sup.cellBad then s
    else { s with sup := { s.sup with
        episodes := s.sup.episodes.filter (fun x => !(x.1 = 0x2C07 ∧ x.2 + 10000000000 ≤ now)) } }
  | c => { s with sup := { s.sup with
      episodes := s.sup.episodes.filter (fun x => !(x.1 = c ∧ x.2 + 10000000000 ≤ now)) } }

/-! ## Registers -/

/-- Reads of the SUP window but for the quartet. -/
def supRead (s : State) (o : Nat) : Word :=
  match o with
  | 0x00 =>
    place s.sup.un 10 8 ||| placeB s.sup.lplusOk 5 ||| placeB (decide (560 ≤ s.sup.cap)) 4 ||| placeB s.sup.disc 3 |||
      placeB s.sup.brace 2 ||| placeB s.sup.warnLvl 1 ||| placeB s.sup.inputOk 0
  | 0x20 => place s.sup.vin 15 0
  | 0x24 => place s.sup.vbus 15 0
  | 0x28 => place s.sup.energy 15 0
  | 0x2C => place s.sup.lplus 15 0
  | 0x30 => place s.sup.cap 15 0
  | 0x34 => place s.sup.dips 31 24 ||| place s.sup.lastMs 23 0
  | 0x38 => place s.sup.un 2 0
  | 0x40 => s.sup.cause
  | 0x44 => place s.mod.ready 21 16 ||| placeB s.mod.sdreq 9 ||| placeB s.mod.shutPending 8
  | 0x48 => w32 s.sup.startTime
  | _ => 0

/-- Reads of the AON window. -/
def aonRead (s : State) (o : Nat) : Word :=
  match o with
  | 0x00 => placeB s.aon.done 1
  | 0x04 => place s.aon.cellMv 27 16 ||| placeB s.aon.cellMissing 2 ||| placeB s.aon.cellLow 1 ||| placeB s.aon.kept 0
  | 0x08 => w32 s.aon.snapSecs
  | 0x0C => w32 (s.aon.snapSecs / 2 ^ 32)
  | 0x10 => w32 s.aon.snapRtc
  | 0x14 => w32 (s.aon.snapRtc / 2 ^ 32)
  | 0x18 => place s.aon.snapSub 14 0
  | 0x20 => s.aon.setLo
  | 0x24 => s.aon.setHi
  | _ => 0

/-! ## Meanings that raise no interrupt of a triad -/

/-- POWER_ON. -/
def execPowerOn (c : Nat) (s : State) : Host.Outcome State Fault Refusal := wfRun (.powerOn c) (opPowerOn c) s
/-- CAPACITANCE_MEASUREMENT. -/
def execCapacitanceMeasurement (ua us : Nat) (s : State) : Host.Outcome State Fault Refusal :=
  wfRun (.capacitanceMeasurement ua us) (opCapacitanceMeasurement ua us) s
/-- SUPERVISOR_RELEASE. -/
def execSupervisorRelease (b : Bool) (s : State) : Host.Outcome State Fault Refusal :=
  wfRun (.supervisorRelease b) (opSupervisorRelease b) s
/-- QUENCH_DONE. -/
def execQuenchDone (us : Nat) (s : State) : Host.Outcome State Fault Refusal := wfRun (.quenchDone us) (opQuenchDone us) s
/-- QUENCH_GUARD_EXPIRY. -/
def execQuenchGuardExpiry (s : State) : Host.Outcome State Fault Refusal := wfRun .quenchGuardExpiry opQuenchGuardExpiry s
/-- CELL_MEASUREMENT. -/
def execCellMeasurement (mv : Nat) (s : State) : Host.Outcome State Fault Refusal :=
  wfRun (.cellMeasurement mv) (opCellMeasurement mv) s
/-- ERROR_EPISODE_END. -/
def execErrorEpisodeEnd (e : Episode) (s : State) : Host.Outcome State Fault Refusal :=
  wfRun (.errorEpisodeEnd e) (opErrorEpisodeEnd e) s
/-- AON_SNAP. -/
def execAonSnap (init : Nat) (v : Word) (s : State) : Host.Outcome State Fault Refusal :=
  wfRun (.aonSnap init v) (opAonSnap init v) s
/-- AON_RTC_SET. -/
def execAonRtcSet (init : Nat) (v : Word) (s : State) : Host.Outcome State Fault Refusal :=
  wfRun (.aonRtcSet init v) (opAonRtcSet init v) s
/-- AON_SNAP_DONE. -/
def execAonSnapDone (s : State) : Host.Outcome State Fault Refusal := wfRun .aonSnapDone opAonSnapDone s
/-- FLUCTUATION_TIMEOUT. -/
def execFluctuationTimeout (s : State) : Host.Outcome State Fault Refusal := wfRun .fluctuationTimeout opFluctuationTimeout s
/-- SURGE_TIMEOUT. -/
def execSurgeTimeout (s : State) : Host.Outcome State Fault Refusal := wfRun .surgeTimeout opSurgeTimeout s
/-- INPUT_RECONNECT. -/
def execInputReconnect (s : State) : Host.Outcome State Fault Refusal := wfRun .inputReconnect opInputReconnect s
/-- BRACE_DWELL_END. -/
def execBraceDwellEnd (s : State) : Host.Outcome State Fault Refusal := wfRun .braceDwellEnd opBraceDwellEnd s
/-- RAIL_FAULT_TIMEOUT. -/
def execRailFaultTimeout (s : State) : Host.Outcome State Fault Refusal := wfRun .railFaultTimeout opRailFaultTimeout s
/-- LOGIC_SUPPLY_LOST. -/
def execLogicSupplyLost (s : State) : Host.Outcome State Fault Refusal := wfRun .logicSupplyLost opLogicSupplyLost s
/-- LAMP_TEST_END. -/
def execLampTestEnd (s : State) : Host.Outcome State Fault Refusal := wfRun .lampTestEnd opLampTestEnd s

end Sys2Proof.Machine
end

