-- ==== Sys2Proof/Machine/Thresh.lean ====
section
/-! DEFINITION. Thresh (18): what a run finds, repairs and retires, its records, the verdict in MRAM, its use at start, and
the registers of the THR window. -/

namespace Sys2Proof.Machine

/-- Numbers below `n` that are in `l`, as bits. -/
def bitsIn (n : Nat) (l : List Nat) : Nat := maskOf ((List.range n).map (fun k => l.contains k))

/-- Numbers below `n` whose bit is set in `w`. -/
def bitList (n w : Nat) : List Nat := (List.range n).filter (fun k => w.testBit k)

/-- THR_ERR_INFO without its flags: bank, unit (0x3F none), STALE cause. -/
def thrInfo (bit bank unit cause : Nat) : Word :=
  place bank 31 22 ||| place unit 21 16 ||| place cause 15 12 ||| place bit 11 8

/-- An error of Thresh with its record. -/
def raiseThr (bit code detail : Nat) (info d0 d1 : Word) (s : State) : State :=
  event code detail d0 d1 (errThr bit info s)

/-! ## What a run finds (R378 to R384) -/

/-- What a run found and decided. -/
structure ThrFound where
  /-- field repairs added: bank, spare, row -/
  reps : List (Nat × Nat × Nat)
  /-- banks found exhausted -/
  exh : List Nat
  /-- units that failed stage 3 or 4 and were tested again -/
  retested : List Nat
  /-- units that failed logic BIST for good -/
  failed : List Nat
  /-- cores retired by the run, with the reason of the record -/
  retire : List (Nat × Nat)
  /-- exclusion counts after the run -/
  excl : List Nat
  deriving DecidableEq, Repr

/-- The unit is tested: a core that the verdict marks retired is not (R378). -/
def unitTested (s : State) (u : Nat) : Bool := !(decide (u < 20) && s.thr.retired.contains u)

/-- A spare row takes no repair: it holds one, or fails itself (R381). -/
def spareUsed (s : State) (o : ThreshObs) (reps : List (Nat × Nat × Nat)) (b k : Nat) : Bool :=
  let holds := fun (e : Nat × Nat × Nat) => decide (e.1 = b ∧ e.2.1 = k)
  s.fuse.repairs.any holds || s.thr.repairs.any holds || reps.any holds || o.badSpares.contains (b, k)

/-- A failing row takes the lowest free spare of its bank; without one the bank is exhausted (R381). -/
def repairRow (s : State) (o : ThreshObs) (x : List (Nat × Nat × Nat) × List Nat) (b row : Nat) :
    List (Nat × Nat × Nat) × List Nat :=
  if x.1.any (fun e => decide (e.1 = b ∧ e.2.2 = row)) then x
  else match (List.range 4).find? (fun k => !spareUsed s o x.1 b k) with
  | some k => (x.1 ++ [(b, k, row)], x.2)
  | none => if x.2.contains b then x else (x.1, x.2 ++ [b])

/-- The failing rows in turn. -/
def repairRows (s : State) (o : ThreshObs) (l : List (Nat × Nat)) (x : List (Nat × Nat × Nat) × List Nat) :
    List (Nat × Nat × Nat) × List Nat :=
  match l with
  | [] => x
  | (b, row) :: t => repairRows s o t (if unitTested s (b / 32) then repairRow s o x b row else x)

/-- The failing rows in the order of the march: by bank (R378). -/
def marched (o : ThreshObs) : List (Nat × Nat) :=
  (List.range 960).flatMap (fun b => o.rows.filter (fun x => decide (x.1 = b)))

/-- Exclusion counts raised by this session's exclusions, at most 3 (R383, R384). -/
def exclAfter (s : State) : List Nat :=
  (List.range 20).map (fun n => if s.thr.excluded.contains n then satInc 3 (nth s.thr.excl n 0) else nth s.thr.excl n 0)

/-- The reason for which core `n` is retired, none when it keeps its place (R384). -/
def retireReason (s : State) (exh failed excl : List Nat) (n : Nat) : Option Nat :=
  if s.thr.retired.contains n then none
  else if failed.contains n then some 1
  else if exh.any (fun b => decide (b / 32 = n)) then some 2
  else if s.thr.failedTest.contains n then some 3
  else if s.thr.excluded.contains n && decide (3 ≤ nth excl n 0) then some 4
  else none

/-- The findings of a run (R378 to R384). -/
def threshFind (s : State) (o : ThreshObs) : ThrFound :=
  let (reps, exh) := repairRows s o (marched o) ([], [])
  let lb := (List.range 29).filter (fun u => o.lbist.contains u && unitTested s u)
  let again := lb.take 8
  let failed := again.filter (fun u => o.retest.contains u) ++ lb.drop 8
  let excl := exclAfter s
  { reps := reps, exh := exh, retested := again, failed := failed, excl := excl,
    retire := (List.range 20).filterMap (fun n =>
      match retireReason s exh failed excl n with
      | some r => some (n, r)
      | none => none) }

/-- Unit `u` failed for good: logic BIST or an exhausted bank. -/
def ThrFound.unitBad (f : ThrFound) (u : Nat) : Bool := f.failed.contains u || f.exh.any (fun b => decide (b / 32 = u))

/-- A count of exhausted banks carried forward: how many of the banks found were counted before is not kept, so that the
new count is a free value between the two bounds when both counts are above 0 (R383, log 50). -/
def exhCount (old found free : Nat) : Nat :=
  if old = 0 then found
  else if found = 0 then old
  else Nat.max old found + free % (old + found + 1 - Nat.max old found)

/-- The findings join what was applied: nothing is ever undone (R383). -/
def thrJoin (f : ThrFound) (o : ThreshObs) (startup : Bool) (s : State) : State :=
  let x := freshNat s
  { drawn s with thr := { s.thr with
      source := startup,
      retired := (List.range 20).filter (fun n => s.thr.retired.contains n || f.retire.any (fun e => decide (e.1 = n))),
      voter := (List.range 6).filter (fun t => s.thr.voter.contains t || f.failed.contains (20 + t)),
      l2 := (List.range 6).filter (fun t => s.thr.l2.contains t || f.exh.any (fun b => decide (b / 32 = 20 + t))),
      awn := (List.range 3).filter (fun p => s.thr.awn.contains p || f.unitBad (26 + p)),
      exhausted := exhCount s.thr.exhausted (f.exh.filter (fun b => decide (b / 32 = 29))).length x,
      exhAll := exhCount s.thr.exhAll f.exh.length x,
      repairs := s.thr.repairs ++ f.reps,
      excl := f.excl,
      retests := f.retested.length,
      duration := o.durationMs,
      isolated := f.failed } }

/-- Unit `u` has its SRAM banks written to zero after its test, in a shut-down (`!startup`) and in a start-up BIST (R380): what
the image has put into lanes and tables stands again at a start (log 201). -/
def zeroUnit (startup : Bool) (u : Nat) (s : State) : State :=
  if u < 20 then modCore u (fun (c : Core) => { c with l1i := [], l1d := [] }) s
  else if u < 26 then
    modTri (u - 20) (fun (x : Triad) => { x with lanes := [{}, {}, {}], saved := none, savedSig := 0, l2 := [] }) s
  else if u < 29 then
    (if startup then s else { s with awn := { s.awn with lanes := modAt s.awn.lanes (u - 26) (fun _ => {}) } })
  else
    { s with
      vyf := { s.vyf with
        chA := { s.vyf.chA with buf := none, wrote := none }, chB := { s.vyf.chB with buf := none, wrote := none } },
      fab := { s.fab with slotBuf := [], outbox := [] },
      hub := { s.hub with tx := [], rx := [] },
      pair := { s.pair with fill := [] },
      glm := { s.glm with inbox := [] },
      culm := { s.culm with out := [], bufs := [], inq := [], reads := [] } }

/-- The units that a run tests (R378). -/
def testedUnits (s : State) : List Nat := (List.range 30).filter (unitTested s)

/-- The lanes that failed their test are held in reset (R380). -/
def holdLanes (s : State) : State :=
  { s with awn := { s.awn with
      live := List.zipWith (fun (l : Bool) (p : Nat) => l && !isolated s (26 + p)) s.awn.live [0, 1, 2] } }

/-- A run found something beyond what was applied (R386). -/
def thrNews (old new : Thr) : Bool :=
  decide (old.retired ≠ new.retired ∨ old.repairs ≠ new.repairs ∨ old.voter ≠ new.voter ∨ old.l2 ≠ new.l2 ∨
    old.awn ≠ new.awn ∨ old.exhausted ≠ new.exhausted)

/-! ## Records of a run (R388), each written as it comes (log 51) -/

/-- ROW and SPARE of bank `b`. -/
def bankRecords (f : ThrFound) (b : Nat) (s : State) : State :=
  let s := forAll (f.reps.filter (fun e => decide (e.1 = b))) (fun e s =>
    flushQueue false (raiseThr 3 0x2E04 b (thrInfo 3 b (b / 32) 0) (w32 e.2.1) (w32 e.2.2) s)) s
  if f.exh.contains b then flushQueue false (raiseThr 4 0x3E05 b (thrInfo 4 b (b / 32) 0) 0 0 s) else s

/-- TRANS, CORE, VOTER and LANE of unit `u`. -/
def unitRecords (f : ThrFound) (u : Nat) (s : State) : State :=
  let one := fun (bit code : Nat) (d0 d1 : Word) (s : State) =>
    flushQueue false (raiseThr bit code u (thrInfo bit 0 u 0) d0 d1 s)
  let s := if f.retested.contains u && !f.failed.contains u then one 8 0x2E09 0 0 s else s
  let s := match f.retire.find? (fun e => decide (e.1 = u)) with
    | some e => one 0 0x3E01 (w32 e.2) (w32 (nth f.excl u 0)) s
    | none => s
  if 20 ≤ u ∧ u < 26 ∧ f.unitBad u then one 1 0x3E02 0 0 s
  else if 26 ≤ u ∧ f.unitBad u then one 2 0x3E03 0 0 s
  else s

/-- The records of a run, 0x2E10 last. -/
def threshRecords (f : ThrFound) (o : ThreshObs) (startup : Bool) (s : State) : State :=
  let banks := (List.range 960).filter (fun b => f.exh.contains b || f.reps.any (fun e => decide (e.1 = b)))
  let s := forAll (List.range 29) (unitRecords f) (forAll banks (bankRecords f) s)
  flushQueue false (event 0x2E10 (if startup then 1 else 0) (w32 o.durationMs) (w32 f.retested.length) s)

/-! ## The verdict (R383) -/

/-- Offset of verdict slot `i`. -/
def verdictOff (i : Nat) : Nat := 0x1000 + 0x4000 * i

/-- The sequence of a verdict slot whose commit word is valid. -/
def verdictSeq (s : State) (i : Nat) : Option Nat :=
  let b := s.mem.mramGet (verdictOff i) 0x4000
  if leAt b 0x3FFC 4 = crc32 (b.take 0x3FFC) ∧ !touchesBad s.mem.mramBad (verdictOff i) 0x4000 then some (leAt b 0x3FF8 4)
  else none

/-- Cores whose tests failed in a run: FAILED of the verdict. -/
def coresFailed (f : ThrFound) : List Nat := (List.range 20).filter f.unitBad

/-- The verdict's bytes before the commit word. -/
def verdictBytes (s : State) (failed : List Nat) (startup : Bool) : List Byte :=
  let head := le 4 0x56524854 ++ le 2 1 ++ le 2 s.thr.repairs.length ++ le 8 s.grn.power ++ le 8 s.aon.secs ++
    le 4 (bitsIn 20 s.thr.retired) ++ le 4 (bitsIn 20 failed) ++ le 1 (bitsIn 6 s.thr.voter) ++ le 1 (bitsIn 6 s.thr.l2) ++
    le 1 (bitsIn 3 s.thr.awn) ++ le 1 (if startup then 3 else 1) ++ le 2 s.thr.exhausted ++ zeros 2 ++
    (s.thr.excl.map (fun n => BitVec.ofNat 8 n)) ++ zeros 4
  let reps := (s.thr.repairs.map (fun e => le 4 (e.1 + 1024 * e.2.1 + 4096 * e.2.2))).flatten
  slice (head ++ reps ++ zeros 0x3FF8) 0 0x3FF8

/-- The verdict goes into its next slot (R178, R383). -/
def writeVerdict (failed : List Nat) (startup : Bool) (s : State) : State :=
  let (i, q) := slotNext (verdictSeq s 0) (verdictSeq s 1)
  let b := verdictBytes s failed startup ++ le 4 q
  mramWrite (verdictOff i) (b ++ le 4 (crc32 b)) s

/-- Repair entries of a verdict. -/
def verdictRepairs (b : List Byte) : List (Nat × Nat × Nat) :=
  (List.range (leAt b 6 2)).map (fun e =>
    let w := leAt b (0x40 + 4 * e) 4
    (w % 1024, w / 1024 % 4, w / 4096 % 512))

/-- STALE of a verdict: 0 when it is current (R385). -/
def staleCause (s : State) (b : Option (List Byte)) : Nat :=
  match b with
  | none => 1
  | some b =>
    let flags := leAt b 0x23 1
    let session := match bestSlot s 0x200 with
      | some p => decide (leAt p 0 8 = leAt b 8 8)
      | none => false
    if flags % 2 = 0 then 2
    else if session && (decide (flags / 2 % 2 = 0) || decide (fieldOf s.sup.cause 2 0 = 5)) then 0
    else 3

/-- VERDICT_APPLY (R385, R172, R407): repairs and retirements are applied; the verdict is judged current, or STALE. The
banks of all units that an earlier run found exhausted are not in the verdict: a free value unless nothing points to any
(log 50). -/
def opVerdictApply (s : State) : State :=
  if s.mod.mode = .boot ∧ s.sec.ready ∧ !s.thr.applied then
    let s := mramProbe (verdictOff 1) 0x4000 (mramProbe (verdictOff 0) 0x4000 s)
    let slot := slotBest (verdictSeq s 0) (verdictSeq s 1)
    let b := match slot with
      | some i => some (s.mem.mramGet (verdictOff i) 0x4000)
      | none => none
    let cause := staleCause s b
    let s := match b with
      | none => { s with thr := { s.thr with applied := true } }
      | some b =>
        let e := leAt b 0x24 2
        let ret := bitList 20 (leAt b 0x18 4)
        let l2 := bitList 6 (leAt b 0x21 1)
        let lanes := bitList 3 (leAt b 0x22 1)
        let lo := e + l2.length
        { drawn s with thr := { s.thr with
            applied := true, quick := decide (cause = 0), source := decide (leAt b 0x23 1 / 2 % 2 = 1),
            retired := ret, voter := bitList 6 (leAt b 0x20 1), l2 := l2, awn := lanes, exhausted := e,
            exhAll := if ret.isEmpty && l2.isEmpty && lanes.isEmpty then e else lo + freshNat s % (961 - lo),
            repairs := verdictRepairs b, excl := (slice b 0x28 20).map (fun (y : Byte) => y.toNat) } }
    let core := ((List.range 20).find? (fun n => !s.thr.retired.contains n)).getD 0
    let s := { s with mod := { s.mod with bootCore := core } }
    if cause = 0 then s else raiseThr 5 0x2E06 0 (thrInfo 5 0 0x3F cause) (w32 cause) 0 s
  else s

/-! ## The runs -/

/-- Stage 1 (R378, R379): the root and every derived key are cleared, Granary's queue is written. -/
def zeroise (s : State) : State := flushQueue false { s with sec := { s.sec with keys := false } }

/-- The run's findings are joined, recorded and written as the verdict (R383, R388); the tested units' memories are zero, and
the units that failed stay isolated until the next reset (R380). -/
def threshVerdict (o : ThreshObs) (startup : Bool) (s : State) : State :=
  let f := threshFind s o
  let s := forAll (testedUnits s) (zeroUnit startup) s
  let s := threshRecords f o startup (holdLanes (thrJoin f o startup s))
  lifeFlush (writeVerdict (coresFailed f) startup s)

/-- STARTUP_BIST (R386): in SELFTEST, only when the verdict is not current; anything new resets the die. A quench that runs is
not cut short (07 R182), here as in THRESH_RUN_DONE. -/
def opStartupBist (o : ThreshObs) (s : State) : State :=
  if s.mod.mode = .selftest ∧ s.grn.ready ∧ !s.thr.quick ∧ !s.mod.bistDone ∧ s.sup.quenchSince.isNone then
    let old := s.thr
    let s := threshVerdict o true (zeroise s)
    if thrNews old s.thr then dieReset 5 false none s
    else { s with mod := { s.mod with bistDone := true }, thr := { s.thr with state := 6 } }
  else s

/-- THRESH_RUN (R378): stages 1 to 5 of the run that ends a shut-down. The units that it tests are isolated while it runs
(R380, log 201). -/
def opThreshRun (o : ThreshObs) (s : State) : State :=
  if s.mod.mode = .shutdown ∧ s.mod.shutStep = 4 then
    let s := zeroise s
    { s with
      thr := { s.thr with run := some o, source := false, state := 5, isolated := testedUnits s },
      mod := { s.mod with shutStep := 5 } }
  else s

/-- The die is held after a shut-down unless RESTART was set (R415). -/
def shutHold (s : State) : Option Bool := if s.mod.restart then none else some false

/-- THRESH_RUN_DONE (R383, R415): the verdict is written and the die resets with CAUSE 4. -/
def opThreshRunDone (s : State) : State :=
  match s.thr.run with
  | none => s
  | some o =>
    if s.mod.mode = .shutdown ∧ s.sup.quenchSince.isNone then
      let s := threshVerdict o false s
      dieReset 4 false (shutHold s) s
    else s

/-! ## Registers -/

/-- Reads of the THR window but for the quartet. -/
def thrRead (s : State) (o : Nat) : Word :=
  let t := s.thr
  match o with
  | 0x00 => placeB t.holdSafe 10 ||| placeB t.flag 9 ||| placeB t.quick 8 ||| placeB t.source 4 ||| place t.state 2 0
  | 0x20 => place (bitsIn 20 t.retired) 19 0
  | 0x24 => place (bitsIn 3 t.awn) 18 16 ||| place (bitsIn 6 t.l2) 13 8 ||| place (bitsIn 6 t.voter) 5 0
  | 0x28 => place t.exhAll 31 16 ||| place t.repairs.length 11 0
  | 0x2C => place t.retests 31 24 ||| place t.duration 15 0
  | _ =>
    if 0x40 ≤ o ∧ o < 0x54 ∧ o % 4 = 0 then
      let j := o - 0x40
      place (nth t.excl (j + 3) 0) 31 24 ||| place (nth t.excl (j + 2) 0) 23 16 ||| place (nth t.excl (j + 1) 0) 15 8 |||
        place (nth t.excl j 0) 7 0
    else 0

/-! ## Meanings -/

/-- VERDICT_APPLY. -/
def execVerdictApply (s : State) : Host.Outcome State Fault Refusal := wfRun .verdictApply opVerdictApply s
/-- STARTUP_BIST. -/
def execStartupBist (o : ThreshObs) (s : State) : Host.Outcome State Fault Refusal :=
  wfRun (.startupBist o) (opStartupBist o) s
/-- THRESH_RUN. -/
def execThreshRun (o : ThreshObs) (s : State) : Host.Outcome State Fault Refusal := wfRun (.threshRun o) (opThreshRun o) s
/-- THRESH_RUN_DONE. -/
def execThreshRunDone (s : State) : Host.Outcome State Fault Refusal := wfRun .threshRunDone opThreshRunDone s

end Sys2Proof.Machine
end

