-- ==== Sys2Proof/Machine/Boot.lean ====
section
/-! DEFINITION. BOOT (02, 07, 17, 20): the security self-test, the DRAM clear, the choice and check of a copy, the counter
raise, and the load with its lock. -/

namespace Sys2Proof.Machine

/-- A copy as a number: 0 A, 1 B. -/
def copyNo (c : Bool) : Nat := if c then 1 else 0

/-- IMG: copy `c` failed step `k` (R65). -/
def rejectCopy (c : Bool) (k : Nat) (s : State) : State :=
  let h := imgHeader s c
  raiseSec 0 0x3D20 (k + 16 * copyNo c) k (copyNo c) (w32 (leAt h 0x28 4)) (w32 (leAt h 0x2C 4)) s

/-- ENTER_RECOVERY (R66, R67): NOIMG; the module serves installation only. -/
def enterRecovery (s : State) : State :=
  raiseSec 2 0x3D22 0 0 15 0 0 { s with sec := { s.sec with recovery := true } }

/-! ## The steps of BOOT -/

/-- BOOT_SECURITY_SELFTEST (R362, R363): the root and the keys are there and the area's bad records are reported, or KAT is
raised and the start stops. -/
def opBootSecuritySelftest (fail : Option Nat) (s : State) : State :=
  if s.mod.mode = .boot ∧ !s.sec.ready ∧ !s.sec.failed then
    match fail with
    | some k => raiseSec 8 0x3D39 k 0 15 0 0 { s with sec := { s.sec with failed := true } }
    | none =>
      forAll ((List.range 4).filter (fun r => (s.area.record r).spoilt)) (fun r s => raiseSec 6 0x3D33 r 0 15 0 0 s)
        { s with sec := { s.sec with ready := true, keys := true } }
  else s

/-- DRAM_CLEAR (R170): zeros with valid check bits over the whole DRAM. -/
def opDramClear (s : State) : State :=
  if s.mod.mode = .boot ∧ !s.mod.dramDone then
    { s with mem := { s.mem with dram := [], dramBad := [] }, mod := { s.mod with dramDone := true } }
  else s

/-- A copy in state FAILED_TRIAL is marked BAD and recorded with step 0 (R66). -/
def dropFailed (c : Bool) (s : State) : State :=
  if copyState s c = .failedTrial then rejectCopy c 0 (setMark c 0x1C s) else s

/-- A copy is a candidate (R66). -/
def isCandidate (s : State) (c : Bool) : Bool := decide (copyState s c = .trial ∨ copyState s c = .good)

/-- The candidates in order: highest SEQUENCE first, copy A first on equal ones (R66). -/
def candidatesOf (s : State) : List Bool :=
  (if copySeq s false < copySeq s true then [true, false] else [false, true]).filter (isCandidate s)

/-- IMAGE_SELECT (R66). -/
def opImageSelect (s : State) : State :=
  if s.mod.mode = .boot ∧ s.sec.ready ∧ s.thr.applied ∧ s.mod.candidates.isNone ∧ !s.sec.recovery then
    let s := dropFailed true (dropFailed false s)
    let l := candidatesOf s
    let s := { s with mod := { s.mod with candidates := some l, first := l.head? } }
    if l.isEmpty then enterRecovery s else s
  else s

/-- The copy passed: a copy other than the first is a fallback (R65, R66). -/
def acceptCopy (c : Bool) (s : State) : State :=
  let s := { s with mod := { s.mod with chosen := some c } }
  if s.mod.first = some c then s
  else
    raiseSec 1 0x2D21 (copyNo c) 0 (copyNo c) (w32 (copySeq s c)) 0 { s with sec := { s.sec with fallback := true } }

/-- IMAGE_CHECK (R64, R66): the next candidate passes, or is passed over; the last one leads to recovery. -/
def opImageCheck (c : Bool) (s : State) : State :=
  match s.mod.candidates with
  | some (h :: t) =>
    if s.mod.mode = .boot ∧ h = c ∧ s.mod.chosen.isNone ∧ !s.sec.recovery then
      let k := checkImage s c
      if k = 0 then acceptCopy c s
      else
        let s := if copyState s c = .trial then setMark c 0x1C s else s
        let s := rejectCopy c k { s with mod := { s.mod with candidates := some t } }
        if t.isEmpty then enterRecovery s else s
    else s
  | _ => s

/-- The counter that a copy's SECURITY_VERSION asks for (R366). -/
def counterOf (s : State) (c : Bool) : Nat := Nat.min 255 (imgSecVersion (imgHeader s c))

/-- A raise of the counter is pending for the chosen copy: it is GOOD and asks for more than is blown (R366). -/
def raisePending (s : State) (c : Bool) : Bool := decide (copyState s c = .good) && decide (s.fuse.rollback < counterOf s c)

/-- COUNTER_RAISE (R366): the pending raise is completed; CTR. -/
def opCounterRaise (s : State) : State :=
  match s.mod.chosen with
  | none => s
  | some c =>
    if s.mod.mode = .boot ∧ raisePending s c then
      let old := s.fuse.rollback
      raiseSec 7 0x2D34 0 0 15 (w32 old) (w32 (counterOf s c))
        { s with fuse := { s.fuse with rollback := counterOf s c } }
    else s

/-! ## LOAD_AND_LOCK (R70) -/

/-- Step 1 for position `p` of triad `t` (R54, R75): the core of STRUCTURE, or a reserve for a retired one, or none. -/
def fillPosition (t p : Nat) (s : State) : State :=
  let n := (s.tri t).coreAt p
  if !s.thr.retired.contains n then s
  else
    match freeReserve s with
    | some r =>
      modTri t (fun (x : Triad) => { x with cores := modAt x.cores p (fun _ => resCore s r) })
        { s with trd := { s.trd with resFree := modAt s.trd.resFree r (fun _ => false) } }
    | none => modTri t (fun (x : Triad) => { x with empty := modAt x.empty p (fun _ => true) }) s

/-- Roles of the cores from the assignment: members, free reserves, retired cores, others unassigned. -/
def assignRoles (s : State) : State :=
  let s := { s with trd := { s.trd with
      cores := (List.range 20).map (fun n => { role := if s.thr.retired.contains n then 5 else 7 }) } }
  let s := forAll (List.range 2) (fun r s =>
    if nth s.trd.resFree r false then modCore (resCore s r) (fun (c : Core) => { c with role := 2 }) s else s) s
  forAll (List.range 6) (fun t s =>
    forAll (s.tri t).filled (fun p s =>
      modCore ((s.tri t).coreAt p) (fun (c : Core) =>
        { c with role := if (s.tri t).split then 1 else 0, triad := t, pos := p }) s) s) s

/-- Step 1: the verdict applied to STRUCTURE (R53, R54, R75). -/
def assignTriads (b : List Byte) (s : State) : State :=
  let res := [leAt b 0x30 1, leAt b 0x31 1]
  let s := { s with trd := { s.trd with
      triads := (List.range 6).map (fun t =>
        { cores := (List.range 3).map (strCore b t), split := strSplit b t, handover := strHandover b t }),
      reserves := res, resFree := res.map (fun n => !s.thr.retired.contains n) } }
  let s := forAll (List.range 6) (fun t s => forAll (List.range 3) (fillPosition t) s) s
  assignRoles s

/-- Write LK words. -/
def lkPutAll (l : List (Nat × Word)) (s : State) : State :=
  forAll l (fun e s => { s with lk := FMap.store s.lk 0 e.1 e.2 }) s

/-- Step 2: the fixed firewall regions of the boot ROM (R58). -/
def fixedRegions : List (Nat × Word) :=
  [0x2B, 0x2C, 0x2D, 0x2E].flatMap (fun n => (List.range 16).flatMap (fun r =>
    let v := Config.fixedRegion n r
    let o := 0x1000 + 0x100 * n + 0x10 * r
    [lkw 4 o v.1, lkw 4 (o + 4) v.2.1, lkw 4 (o + 8) v.2.2]))

/-- Drop the entries of a memory between `a` and `b` less one. -/
def clearRange (a b : Nat) (m : FMap Byte) : FMap Byte := m.filter (fun e => !(decide (a ≤ e.1) && decide (e.1 < b)))

/-- Beats that lie between `a` and `b`. -/
def clearBeats (a b : Nat) (l : List Nat) : List Nat := l.filter (fun k => !(decide (a ≤ 8 * k) && decide (8 * k < b)))

/-- Step 3: a partition with CLEAR set is zero-filled (R59). -/
def clearPart (x : Part) (s : State) : State :=
  if !x.clear then s
  else if x.mram then
    let a := x.first - mramBase
    let b := x.stop - mramBase
    { s with mem := { s.mem with mram := clearRange a b s.mem.mram, mramBad := clearBeats a b s.mem.mramBad } }
  else
    let a := x.first - dramBase
    let b := x.stop - dramBase
    { s with mem := { s.mem with dram := clearRange a b s.mem.dram, dramBad := clearBeats a b s.mem.dramBad } }

/-- Step 4: a core image goes to its load range (R56). -/
def loadCoreImage (p : Pays) (i : Nat) (s : State) : State :=
  match payOf p 6 i with
  | none => s
  | some b => { s with mem := s.mem.dramPut (leAt b 0 8 - dramBase) (slice b 0x20 (leAt b 0x10 4)) }

/-- The operating-seconds count at start (07 R181): DETAIL 1 restored, 2 restarted, 3 kept with no copy. -/
def hoursRestore (s : State) : State :=
  let s := probeSlots 0 s
  let v0 := slot64 s 0 8
  let v1 := slot64 s 0x40 8
  let hrs := fun (d : Nat) (s : State) => event 0x240B d (w32 s.aon.secs) 0 (errMem 3 3 mramBase s)
  let set := fun (n : Nat) (s : State) => { s with aon := { s.aon with secs := n } }
  let s := { s with aon := { s.aon with whole := true } }
  match slotBest v0 v1 with
  | some i =>
    let m := leNat (s.mem.mramGet (0x40 * i) 8)
    if s.aon.kept then set (Nat.max s.aon.secs m) s else hrs 1 (set m s)
  | none => if s.aon.kept then hrs 3 (hoursCopy s) else hrs 2 (set 0 s)

/-- The last-quench registers (07 R183): the block as it stands; VALID when its CRC matches, its session is the one before
this, and the last reset came after a complete quench or from POWER-OFF (08 R195, log 191). -/
def loadQuench (s : State) : State :=
  let s := mramProbe 0x80 64 s
  let b := s.mem.mramGet 0x80 64
  let ended := decide (fieldOf s.sup.cause 2 0 = 0) || bitOf s.sup.cause 8
  let valid := match quenchBlock s, bestSlot s 0x200 with
    | some q, some p => ended && decide (leAt q 0 8 = leAt p 0 8)
    | _, _ => false
  { s with rch := { s.rch with
      lastQuench := placeB valid 31 ||| place (leAt b 0x0A 2) 28 16 ||| place (leAt b 8 2) 9 0,
      lastQuenchEv := place (leAt b 0x0C 2) 15 0 } }

/-- SEC registers of the running copy (02 R71, 17 R365). -/
def bootRegisters (c : Bool) (s : State) : State :=
  let h := imgHeader s c
  { s with sec := { s.sec with
      copyB := c, trial := decide (copyState s c = .trial), version := w32 (leAt h 0x14 4), seq := w32 (copySeq s c),
      digest := imgDigest s c h } }

/-- Step 5: the sections go into their blocks. -/
def loadSections (h : List Byte) (p : Pays) (s : State) : State :=
  let s := lkPutAll (lkImage p) { s with img := parseImg h p }
  match s.img.awn with
  | some a => awnLoad a s
  | none => s

/-- LOAD_AND_LOCK (R70, 07 R181, R183). -/
def opLoadAndLock (s : State) : State :=
  match s.mod.chosen with
  | none => s
  | some c =>
    if s.mod.mode = .boot ∧ s.mod.dramDone ∧ !s.img.loaded ∧ !s.sec.lock ∧ !raisePending s c then
      match copyPays s c with
      | none => s
      | some p =>
        let s := lkPutAll fixedRegions (assignTriads (pay p 1 0) s)
        let s := forAll (parseParts (pay p 2 0)) clearPart s
        let s := forAll (List.range 24) (loadCoreImage p) s
        let s := bootRegisters c (loadSections (imgHeader s c) p s)
        loadQuench (hoursRestore { s with sec := { s.sec with lock := true } })
    else s

/-- PROT_LOCK (R71, R421): a write of 1 locks every LK field; it is an LK field itself. -/
def opProtLock (init : Nat) (v : Word) (s : State) : State :=
  if lkWritable s init && bitOf v 0 then { s with sec := { s.sec with lock := true } } else s

/-! ## Meanings -/

/-- BOOT_SECURITY_SELFTEST. -/
def execBootSecuritySelftest (fail : Option Nat) (s : State) : Host.Outcome State Fault Refusal :=
  wfRun (.bootSecuritySelftest fail) (opBootSecuritySelftest fail) s
/-- DRAM_CLEAR. -/
def execDramClear (s : State) : Host.Outcome State Fault Refusal := wfRun .dramClear opDramClear s
/-- IMAGE_SELECT. -/
def execImageSelect (s : State) : Host.Outcome State Fault Refusal := wfRun .imageSelect opImageSelect s
/-- IMAGE_CHECK. -/
def execImageCheck (c : Bool) (s : State) : Host.Outcome State Fault Refusal := wfRun (.imageCheck c) (opImageCheck c) s
/-- COUNTER_RAISE. -/
def execCounterRaise (s : State) : Host.Outcome State Fault Refusal := wfRun .counterRaise opCounterRaise s
/-- LOAD_AND_LOCK. -/
def execLoadAndLock (s : State) : Host.Outcome State Fault Refusal := wfRun .loadAndLock opLoadAndLock s
/-- PROT_LOCK. -/
def execProtLock (init : Nat) (v : Word) (s : State) : Host.Outcome State Fault Refusal :=
  wfRun (.protLock init v) (opProtLock init v) s

end Sys2Proof.Machine
end

