-- ==== Sys2Proof/Machine/Can.lean ====
section
/-! DEFINITION. The CAN FD controllers (15): receiving and matching, transmit items and their ends, disabling, bus-off and
recovery, the reference message, and the CAN registers. Which of the pending items has begun its SOF is the bus's own
doing: where a rule depends on it, it is a free value (log 37). -/

namespace Sys2Proof.Machine

/-- A register of controller `n`'s window that LK fields hold. -/
def canReg (s : State) (n o : Nat) : Word := lkAt s (10 + n) o
/-- FLAGS bit `i` of the section. -/
def canFlag (s : State) (n i : Nat) : Bool := bitOf (canReg s n 0x30) i
/-- REF_ROLE. -/
def canRole (s : State) (n : Nat) : Nat := fieldOf (canReg s n 0x34) 1 0
/-- REF_ID. -/
def canRefId (s : State) (n : Nat) : Nat := fieldOf (canReg s n 0x34) 26 16
/-- CFG of object `k`. -/
def objCfg (s : State) (n k : Nat) : Word := canReg s n (0x100C + 0x10 * k)
/-- DIR of object `k`: 0 unused, 1 TX, 2 RX. -/
def objDir (s : State) (n k : Nat) : Nat := fieldOf (objCfg s n k) 1 0
/-- OWNER of object `k`: the Glume offload. -/
def objOwner (s : State) (n k : Nat) : Bool := bitOf (objCfg s n k) 5
/-- Identifier of object `k`. -/
def objId (s : State) (n k : Nat) : Nat := fieldOf (canReg s n (0x1004 + 0x10 * k)) 28 0
/-- DLC of TX object `k`. -/
def objDlc (s : State) (n k : Nat) : Nat := fieldOf (objCfg s n k) 11 8

/-- Object `k` of controller `n`. -/
def State.canObj (s : State) (n k : Nat) : CanObj := FMap.look (s.can n).objs {} k

/-- Controller `n` changed. -/
def modCan (n : Nat) (f : Can → Can) (s : State) : State := s.setCan n (f (s.can n))

/-- Object `k` of controller `n` changed. -/
def modCanObj (n k : Nat) (f : CanObj → CanObj) (s : State) : State :=
  modCan n (fun (c : Can) => { c with objs := FMap.upd c.objs {} k f }) s

/-- Bytes of a data length code (ISO 11898-1, by R325). -/
def dlcBytes (dlc : Nat) : Nat :=
  match dlc with
  | 9 => 12 | 10 => 16 | 11 => 20 | 12 => 24 | 13 => 32 | 14 => 48 | 15 => 64 | d => d

/-- The controller takes part in bus traffic: ERROR_ACTIVE or ERROR_PASSIVE. -/
def canOnBus (s : State) (n : Nat) : Bool := decide ((s.can n).state = 2 ∨ (s.can n).state = 3)

/-- The cycle number, plus 1; 0 before the first boundary. -/
def cycleMark (s : State) : Nat := if s.cyc.begun then s.cyc.cycle + 1 else 0

/-! ## Errors (R339) -/

/-- The CAN coding of DETAIL (R442). -/
def canDetail (n obj : Nat) : Nat := 256 * n + obj

/-- CANn_ERR_INFO without its flags. -/
def canInfo (bit obj kind : Nat) : Word := place obj 31 24 ||| place kind 18 16 ||| place bit 7 4

/-- A CAN error with one record per occurrence. -/
def raiseCan (n bit code : Nat) (d0 d1 : Word) (s : State) : State :=
  eventAt (canLife n code) code (canDetail n 255) d0 d1 (errCan n bit (canInfo bit 255 0) s)

/-- A CAN error with one record per controller and second. -/
def raiseCanRate (n bit code obj kind : Nat) (d1 : Word) (s : State) : State :=
  eventRateAt (canLife n code) code n (canDetail n obj) d1 (errCan n bit (canInfo bit obj kind) s)

/-- REFLOST (R335, R336, R339): one record per episode. -/
def raiseRefLost (n : Nat) (s : State) : State :=
  let epi := (s.can n).refEpi
  let s := modCan n (fun (c : Can) => { c with refMissed := satInc 65535 c.refMissed, refEpi := true }) s
  let s := errCan n 5 (canInfo 5 255 0) s
  if epi then lifeAdd (canLife n 0x3A06) 1 s
  else eventAt (canLife n 0x3A06) 0x3A06 (canDetail n 255) (w32 (s.can n).refMissed) (cycleWord s) s

/-! ## Transmit items -/

/-- Objects with a pending item. -/
def canPending (s : State) (n : Nat) : List Nat := ((s.can n).objs.filter (fun e => e.2.pending)).map (fun e => e.1)

/-- Identifier and number of a pending item; 128 is the reference. -/
def itemKey (s : State) (n k : Nat) : Nat := if k = 128 then canRefId s n else objId s n k

/-- The lower identifier, then the lower number. -/
def lowestItem (s : State) (n : Nat) (best : Option Nat) (l : List Nat) : Option Nat :=
  match l with
  | [] => best
  | k :: t =>
    match best with
    | none => lowestItem s n (some k) t
    | some b => lowestItem s n (some (if itemKey s n k < itemKey s n b then k else b)) t

/-- R332: a CANDIDATE or a STANDBY sends no data frame. -/
def canHeld (s : State) : Bool := decide (s.pair.role = 2 ∨ s.pair.role = 3)

/-- The item the controller offers (R331): the lowest identifier; none while R332 holds every frame back, and none in
SHUTDOWN (20 R415). -/
def canOffer (s : State) (n : Nat) : Option Nat :=
  if canHeld s || decide (s.mod.mode = .shutdown) || !canOnBus s n then none
  else lowestItem s n none (canPending s n ++ (if (s.can n).ref.isSome then [128] else []))

/-- Whether the offered item has begun its SOF is a free value (log 37). -/
def canMayStart (n : Nat) (s : State) : State :=
  match (s.can n).onBus, canOffer s n with
  | none, some k =>
    let b := decide (freshNat s % 2 = 1)
    modCan n (fun (c : Can) => { c with onBus := if b then some k else none }) (drawn s)
  | _, _ => s

/-- Object `k`'s item ends with `outcome` (R331, R37). -/
def itemEnd (n k outcome : Nat) (s : State) : State :=
  modCan n (fun (c : Can) => { c with onBus := if c.onBus = some k then none else c.onBus })
    (modCanObj n k (fun (o : CanObj) => { o with pending := false, last := false, disabled := false, outcome := outcome }) s)

/-- The reference item is aborted: it is not sent (R335). -/
def refAbort (n : Nat) (s : State) : State :=
  match (s.can n).ref with
  | none => s
  | some _ =>
    raiseRefLost n (modCan n (fun (c : Can) => { c with
        ref := none, refLast := false, refDisabled := false, lastDelay := 0xFFFFFF,
        onBus := if c.onBus = some 128 then none else c.onBus }) s)

/-- Every pending item of the controller aborts with `outcome` (R334). -/
def canAbortAll (n outcome : Nat) (s : State) : State :=
  refAbort n (forAll (canPending s n) (fun k s => itemEnd n k outcome s) s)

/-- A transmit request or a commit of object `k` (R331, R332, R333). -/
def canRequest (n k : Nat) (s : State) : State :=
  let o := s.canObj n k
  if objDir s n k ≠ 1 ∨ o.pending then s
  else if canHeld s || !o.en || !(s.can n).en then
    modCanObj n k (fun (o : CanObj) => { o with outcome := 4 }) s
  else
    modCanObj n k (fun (o : CanObj) => { o with
        pending := true, since := cycleMark s, last := false, disabled := false }) (canMayStart n s)

/-- Who may write the data and the transmit request of object `k` (R328). -/
def objWriter (s : State) (init n k : Nat) : Bool := decide (init = 0x25) == objOwner s n k

/-- TX_REQ. -/
def opTxReq (init n k : Nat) (s : State) : State := if objWriter s init n k then canRequest n k s else s

/-- A write into CANn_OBJ_DATA (R331): bytes at offset `o` of object `k`. -/
def canDataWrite (init n k o : Nat) (bs : List Byte) (s : State) : State :=
  if objWriter s init n k && !objOwner s n k && decide (objDir s n k = 1) && !(s.canObj n k).pending then
    modCanObj n k (fun (x : CanObj) => { x with data := FMap.storeList x.data 0 o bs }) s
  else s

/-- The offload commits a message to object `k` (R290, R331). -/
def canCommit (n k : Nat) (bs : List Byte) (s : State) : State :=
  if (s.canObj n k).pending then s
  else canRequest n k (modCanObj n k (fun (x : CanObj) => { x with data := FMap.storeList x.data 0 0 bs }) s)

/-! ## Bus-off, leaving and joining -/

/-- CAN_BUS_OFF (R334). -/
def canBusOff (n : Nat) (s : State) : State :=
  let s := modCan n (fun (c : Can) => { c with state := 4, boffSince := some s.clk.now }) s
  canLost n none (canAbortAll n 3 (raiseCan n 0 0x3A01 (w32 (s.can n).tec) (cycleWord s) s))

/-- The controller leaves its bus for a clock fault (outcome 3) or an engine halt (outcome 2) (R33, R334). -/
def canLeave (n outcome : Nat) (s : State) : State :=
  canLost n none (modCan n (fun (c : Can) => { c with state := 0, onBus := none }) (canAbortAll n outcome s))

/-- STATE after EN rose or the engine restarted: off without a section (R52) or with domain 8 faulted. -/
def canJoinState (s : State) (n : Nat) : Nat :=
  if (s.can n).en && nth s.img.can n false && !s.rch.clkFault.contains 8 then 1 else 0

/-- The engine has restarted (01 R40): the controller integrates again. -/
def canRejoin (n : Nat) (s : State) : State := modCan n (fun (c : Can) => { c with state := canJoinState s n }) s

/-! ## The ends of an attempt -/

/-- The frame of object `k`. -/
def objFrame (s : State) (n k : Nat) (sof : Word) : CanFrame where
  id := objId s n k
  ide := bitOf (objCfg s n k) 2
  fdf := bitOf (objCfg s n k) 3
  remote := false
  brs := bitOf (objCfg s n k) 4
  esi := bitOf (objCfg s n k) 3 && decide ((s.can n).state = 3)
  dlc := objDlc s n k
  data := FMap.lookList (s.canObj n k).data 0 0 (dlcBytes (objDlc s n k))
  sof := sof

/-- The reference message as a frame (R335). -/
def refFrame (s : State) (n : Nat) (d : List Byte) (sof : Word) : CanFrame :=
  ⟨canRefId s n, false, false, false, false, false, 8, d, sof⟩

/-- The measured loop delay, and saturation of the secondary sample point (R327). -/
def canTdc (n d : Nat) (s : State) : State :=
  if canFlag s n 1 then
    let s := modCan n (fun (c : Can) => { c with tdcv := Nat.min 127 d }) s
    if 127 < d + fieldOf (canReg s n 0x2C) 6 0 then raiseCanRate n 6 0x2A07 255 0 (w32 (s.can n).tdcv) s else s
  else s

/-- The loop delay of object `k`'s frame, where it was measured: one with BRS set (R327). -/
def canLoop (n k : Nat) (loop : Option Nat) (s : State) : State :=
  match loop with
  | none => s
  | some d => if k ≠ 128 ∧ bitOf (objCfg s n k) 4 then canTdc n d s else s

/-- ERROR_PASSIVE while a counter is at 128 or more (ISO 11898-1, by R325). -/
def canErrState (c : Can) : Can := { c with state := if 128 ≤ c.tec ∨ 128 ≤ c.recErr then 3 else 2 }

/-- The attempt succeeds: the frame is on the bus whole. -/
def canSent (n k : Nat) (sof : Word) (loop : Option Nat) (s : State) : State :=
  let frame := objFrame s n k sof
  let s := modCan n (fun (c : Can) => canErrState { c with tec := c.tec - 1 }) s
  if k = 128 then
    let c := s.can n
    let late := (sof.toNat + 2 ^ 32 - c.refDue % 2 ^ 32) % 2 ^ 32
    emit (.can n (refFrame s n (c.ref.getD []) sof)) (modCan n (fun (c : Can) => { c with
        ref := none, refLast := false, refDisabled := false, onBus := none, refEpi := false,
        refCycle := w32 (beAt (c.ref.getD []) 0 4), refSof := sof, lastDelay := Nat.min 0xFFFFFF late }) s)
  else
    let s := emit (.can n frame) s
    canLoop n k loop (itemEnd n k 0 (modCanObj n k (fun (o : CanObj) => { o with time := sof }) s))

/-- The attempt does not succeed: the item contends again unless its attempt was its last (R331, R333). -/
def canFailed (n k : Nat) (error : Bool) (s : State) : State :=
  let s := modCan n (fun (c : Can) => { c with onBus := none }) s
  if k = 128 then
    if error || (s.can n).refLast || (s.can n).refDisabled then refAbort n s else s
  else
    let o := s.canObj n k
    if o.disabled then itemEnd n k 1 s else if o.last then itemEnd n k 2 s else s

/-- The error counters after an error frame, and what follows from them. -/
def canCounted (n tec rec : Nat) (s : State) : State :=
  let passive := decide ((s.can n).state = 3)
  let s := modCan n (fun (c : Can) => canErrState { c with tec := Nat.min 255 tec, recErr := rec }) s
  if 256 ≤ tec then canBusOff n s
  else if (s.can n).state = 3 ∧ !passive then
    raiseCan n 1 0x2A02 (w32 (s.can n).tec) (w32 rec) s
  else s

/-- CAN_TX_ATTEMPT_END (R331): the attempt is that of the item on the bus, or of the item the controller offers. -/
def opCanTxAttemptEnd (n : Nat) (e : CanTxEnd) (s : State) : State :=
  let item := match (s.can n).onBus with
    | some k => some k
    | none => canOffer s n
  match item with
  | none => s
  | some k =>
    if !canOnBus s n then s
    else match e with
      | .success sof loop => canSent n k sof loop s
      | .arbitrationLost => canFailed n k false s
      | .error kind tec rec loop =>
        canCounted n tec rec (canFailed n k true (raiseCanRate n 2 0x2A03 255 kind (w32 kind) (canLoop n k loop s)))

/-- CAN_SEND_DEADLINE: items that became pending before the last boundary (R331). -/
def opCanSendDeadline (n : Nat) (s : State) : State :=
  let now := cycleMark s
  let s := canMayStart n s
  let s := forAll (canPending s n) (fun k s =>
    if (s.canObj n k).since = now then s
    else if (s.can n).onBus = some k then modCanObj n k (fun (o : CanObj) => { o with last := true }) s
    else raiseCanRate n 4 0x2A05 k 0 0 (itemEnd n k 2 s)) s
  if (s.can n).ref.isNone ∨ (s.can n).refSince = now then s
  else if (s.can n).onBus = some 128 then modCan n (fun (c : Can) => { c with refLast := true }) s
  else refAbort n (raiseCanRate n 4 0x2A05 255 0 0 s)

/-! ## Receiving -/

/-- A frame whose SOF lies at or before the instant `fell` was in reception as the enable fell (R333). -/
def inReception (active : Bool) (fell : Option Word) (sof : Word) : Bool :=
  active && fell.any (fun t => decide ((t - sof).toNat < 2 ^ 31))

/-- Object `k` takes frame `f` (R329); a frame in reception when the object is disabled is still taken (R333). -/
def objTakes (s : State) (n : Nat) (f : CanFrame) (k : Nat) : Bool :=
  decide (objDir s n k = 2) && ((s.canObj n k).en || inReception (s.canObj n k).active (s.canObj n k).fell f.sof) &&
    (bitOf (objCfg s n k) 2 == f.ide) && (bitOf (objCfg s n k) 3 == f.fdf) &&
    decide ((w32 f.id ^^^ w32 (objId s n k)) &&& (canReg s n (0x1008 + 0x10 * k)) &&& 0x1FFFFFFF#32 = 0)

/-- A frame stored in object `k` (R330); that of an owned object is passed to the offload, which takes it before the next can
come. -/
def objStore (n k : Nat) (f : CanFrame) (s : State) : State :=
  let lost := (s.canObj n k).new
  let s := modCanObj n k (fun (o : CanObj) => { o with
      data := FMap.storeList o.data 0 0 f.data, rxId := f.id, dlc := f.dlc, time := f.sof,
      seq := (o.seq + 1) % 65536, ovr := lost, new := !objOwner s n k }) s
  let s := if lost then raiseCanRate n 3 0x2A04 k 0 0 s else s
  if objOwner s n k then glumeOffer 3 (128 * n + k) [f.data] s else s

/-- A valid reference received by a RECEIVER (R336). -/
def refReceived (n : Nat) (f : CanFrame) (s : State) : State :=
  if canRole s n = 2 ∧ !f.remote ∧ !f.ide ∧ f.id = canRefId s n ∧ 4 ≤ f.data.length then
    modCan n (fun (c : Can) => { c with
        refCycle := w32 (beAt f.data 0 4), refSof := f.sof, refSeen := true, refSilent := 0, refEpi := false }) s
  else s

/-- The receive error counter after a frame received without error (ISO 11898-1, by R325): one less, or from 128 and
above a value between 119 and 127 of which the standard leaves the choice open. -/
def recAfter (s : State) (r : Nat) : Nat := if r < 128 then r - 1 else 119 + freshNat s % 9

/-- A frame without error (R329): from a controller whose EN has fallen, only the one then in reception (R333). -/
def canReceived (n : Nat) (f : CanFrame) (s : State) : State :=
  if !((s.can n).en || inReception (s.can n).active (s.can n).fell f.sof) then s
  else
    let r := recAfter s (s.can n).recErr
    let s := modCan n (fun (c : Can) => canErrState { c with recErr := r }) (drawn s)
    let s := refReceived n f s
    match (if f.remote then none else (List.range 128).find? (objTakes s n f)) with
    | some k => objStore n k f s
    | none => modCan n (fun (c : Can) => { c with unmatched := satInc 65535 c.unmatched }) s

/-- CAN_FRAME_RECEIVE (R329): a frame that ends in an error is discarded and raises PROTO (R333, R339). -/
def opCanFrameReceive (n : Nat) (r : CanRx) (s : State) : State :=
  if !canOnBus s n then s
  else match r with
  | .frame f => canReceived n f s
  | .error kind rec => canCounted n (s.can n).tec rec (raiseCanRate n 2 0x2A03 255 kind (w32 kind) s)

/-- CANn_OBJ_STAT. -/
def objStat (o : CanObj) : Word := place o.seq 31 16 ||| place o.dlc 15 12 ||| placeB o.ovr 1 ||| placeB o.new 0

/-- Reading CANn_OBJ_STAT clears NEW (R330). -/
def objStatTake (n k : Nat) (s : State) : State := modCanObj n k (fun (o : CanObj) => { o with new := false }) s

/-- OBJ_STAT_READ. -/
def opObjStatRead (init n k : Nat) (s : State) : State :=
  objStatTake n k (respond init 0 (le 4 (objStat (s.canObj n k)).toNat) s)

/-! ## Enables, recovery, the reference -/

/-- The controller's enable written (R333, R334). -/
def opCanEnableWrite (n : Nat) (v : Word) (s : State) : State :=
  let c := s.can n
  let en := enableAfter c.en c.active (bitOf v 0)
  if en && !c.en then
    let s := modCan n (fun (c : Can) => { c with en := true, active := true }) s
    modCan n (fun (c : Can) => { c with state := canJoinState s n, tec := 0, recErr := 0 }) s
  else if c.en && !en then
    let s := modCan n (fun (c : Can) => { c with en := false, fell := some (w32 s.clk.tb) }) (canMayStart n s)
    let s := forAll (canPending s n) (fun k s =>
      if (s.can n).onBus = some k then modCanObj n k (fun (o : CanObj) => { o with disabled := true }) s
      else itemEnd n k 1 s) s
    let s := if (s.can n).onBus = some 128 then modCan n (fun (c : Can) => { c with refDisabled := true }) s
      else refAbort n s
    canLost n none s
  else s

/-- The controller is drained after its EN fell. -/
def canDrained (s : State) (n : Nat) : Bool :=
  !(s.can n).en && (s.can n).active && (canPending s n).isEmpty && (s.can n).ref.isNone

/-- It leaves the bus, and ACTIVE falls (R333). -/
def canDrainDone (n : Nat) (s : State) : State :=
  if canDrained s n then modCan n (fun (c : Can) => { c with active := false, state := 0, onBus := none }) s else s

/-- An object's enable written (R333). -/
def opCanObjectEnableWrite (n k : Nat) (v : Word) (s : State) : State :=
  let o := s.canObj n k
  let en := enableAfter o.en o.active (bitOf v 0)
  if o.en && !en then
    let s := modCanObj n k (fun (o : CanObj) => { o with en := false, fell := some (w32 s.clk.tb) }) (canMayStart n s)
    if objDir s n k = 2 then canLost n (some k) s
    else if !o.pending then s
    else if (s.can n).onBus = some k then modCanObj n k (fun (o : CanObj) => { o with disabled := true }) s
    else itemEnd n k 1 s
  else modCanObj n k (fun (o : CanObj) => { o with en := en, active := o.active || en }) s

/-- The object's last item has resolved. -/
def objDrainDone (n k : Nat) (s : State) : State :=
  let o := s.canObj n k
  if !o.en && o.active && !o.pending then modCanObj n k (fun (o : CanObj) => { o with active := false }) s else s

/-- BUS_OFF_HOLD_END (R334). -/
def opBusOffHoldEnd (n : Nat) (s : State) : State :=
  let hold := fieldOf (canReg s n 0x30) 15 8 * 10000000
  if (s.can n).state = 4 ∧ canFlag s n 4 ∧ due (s.can n).boffSince hold s.clk.now then
    modCan n (fun (c : Can) => { c with state := 5, boffSince := none }) s
  else s

/-- RECOVER (R334). -/
def opRecover (n : Nat) (s : State) : State :=
  if (s.can n).state = 4 ∧ !canFlag s n 4 then
    modCan n (fun (c : Can) => { c with state := 5, boffSince := none }) s
  else s

/-- CAN_RECOVERY_DONE (R334): the controller rejoins the bus with its counters at 0 (ISO 11898-1, by R325). -/
def opCanRecoveryDone (n : Nat) (s : State) : State :=
  if (s.can n).state = 5 then modCan n (fun (c : Can) => { c with state := 2, tec := 0, recErr := 0 }) s else s

/-- CAN_BUS_INTEGRATED (R325). -/
def opCanBusIntegrated (n : Nat) (s : State) : State :=
  if (s.can n).state = 1 ∧ (s.can n).en then modCan n (fun (c : Can) => { c with state := 2 }) s else s

/-- A module that sends references: in STOP, RUN, HOLD, BRACE or SAFE, ACTIVE or without a partner (R335). -/
def refSends (s : State) : Bool :=
  s.mod.mode.handed && decide (s.mod.mode ≠ .shutdown) && !canHeld s

/-- REFERENCE_SEND (R335): once a cycle, at T0 + REF_OFFSET. -/
def opReferenceSend (n : Nat) (s : State) : State :=
  let off := (canReg s n 0x38).toNat
  let every := fieldOf (canReg s n 0x34) 15 8
  if canRole s n = 1 ∧ (s.can n).en ∧ refSends s ∧ s.cyc.begun ∧ s.cyc.cycle % every = 0 ∧
      s.cyc.t0 + off ≤ s.clk.now ∧ (s.can n).refSince ≠ cycleMark s ∧ (s.can n).ref.isNone then
    let d := be 4 (s.cyc.cycle % 2 ^ 32) ++ be 3 (s.can n).lastDelay ++
      be 1 (s.vyf.mode + if s.mod.mode.running then 4 else 0)
    modCan n (fun (c : Can) => { c with
        ref := some d, refSince := cycleMark s, refDue := s.cyc.freezeTime + off, refLast := false,
        refDisabled := false }) (canMayStart n s)
  else s

/-- REFERENCE_LOST (R336): REF_LOSS consecutive cycles without a reference. -/
def opReferenceLost (n : Nat) (s : State) : State :=
  if canRole s n = 2 ∧ (s.can n).en ∧ 1 ≤ (s.can n).refSilent ∧
      fieldOf (canReg s n 0x48) 7 0 ≤ (s.can n).refSilent then
    raiseRefLost n (modCan n (fun (c : Can) => { c with refSilent := 0 }) s)
  else s

/-- A cycle ends for the count of R336. -/
def canBoundary (n : Nat) (s : State) : State :=
  modCan n (fun (c : Can) => { c with
      refSeen := false, refSilent := if c.refSeen || !c.en then 0 else c.refSilent + 1 }) s

/-- Boot code enables the controllers and objects in use at hand-over. -/
def canStart (n : Nat) (s : State) : State :=
  if nth s.img.can n false then
    let s := opCanEnableWrite n 1#32 s
    forAll (List.range 128) (fun k s => if objDir s n k = 0 then s else opCanObjectEnableWrite n k 1#32 s) s
  else s

/-! ## Registers -/

/-- Reads of a CAN window but for the quartet; LK fields are joined with the RO and RW ones. -/
def canRead (s : State) (n o : Nat) : Word :=
  let c := s.can n
  if o = 0 then placeB c.active 1 ||| placeB c.en 0
  else if o = 4 then place c.state 2 0
  else if o = 0x20 then placeB (decide (128 ≤ c.recErr)) 15 ||| place (c.recErr % 128) 14 8 ||| place c.tec 7 0
  else if o = 0x2C then place c.tdcv 14 8 ||| canReg s n 0x2C
  else if o = 0x3C then c.refCycle
  else if o = 0x40 then c.refSof
  else if o = 0x44 then place c.unmatched 31 16 ||| place c.refMissed 15 0
  else if 0x1000 ≤ o ∧ o < 0x1800 ∧ o % 16 = 0 then
    let x := s.canObj n ((o - 0x1000) / 16)
    place x.outcome 7 4 ||| placeB x.pending 3 ||| placeB x.active 1 ||| placeB x.en 0
  else if 0x3000 ≤ o ∧ o < 0x3800 then
    let x := s.canObj n ((o - 0x3000) / 16)
    match o % 16 with
    | 0 => objStat x
    | 4 => place x.rxId 28 0
    | 8 => x.time
    | _ => 0
  else if 0x4000 ≤ o ∧ o < 0x6000 then
    w32 (leNat (FMap.lookList (s.canObj n ((o - 0x4000) / 64)).data 0 (o % 64) 4))
  else 0

/-- CAN_FRAME_RECEIVE. -/
def execCanFrameReceive (n : Nat) (f : CanRx) (s : State) : Host.Outcome State Fault Refusal :=
  wfRun (.canFrameReceive n f) (engRun [4, 5] (opCanFrameReceive n f)) s
/-- TX_REQ. -/
def execTxReq (init n k : Nat) (s : State) : Host.Outcome State Fault Refusal :=
  wfRun (.txReq init n k) (engRun [4] (opTxReq init n k)) s
/-- CAN_TX_ATTEMPT_END. -/
def execCanTxAttemptEnd (n : Nat) (e : CanTxEnd) (s : State) : Host.Outcome State Fault Refusal :=
  wfRun (.canTxAttemptEnd n e) (engRun [4] (opCanTxAttemptEnd n e)) s
/-- CAN_SEND_DEADLINE. -/
def execCanSendDeadline (n : Nat) (s : State) : Host.Outcome State Fault Refusal :=
  wfRun (.canSendDeadline n) (opCanSendDeadline n) s
/-- BUS_OFF_HOLD_END. -/
def execBusOffHoldEnd (n : Nat) (s : State) : Host.Outcome State Fault Refusal :=
  wfRun (.busOffHoldEnd n) (opBusOffHoldEnd n) s
/-- RECOVER. -/
def execRecover (init n : Nat) (s : State) : Host.Outcome State Fault Refusal :=
  wfRun (.recover init n) (opRecover n) s
/-- CAN_RECOVERY_DONE. -/
def execCanRecoveryDone (n : Nat) (s : State) : Host.Outcome State Fault Refusal :=
  wfRun (.canRecoveryDone n) (engRun [4] (opCanRecoveryDone n)) s
/-- CAN_ENABLE_WRITE. -/
def execCanEnableWrite (init n : Nat) (v : Word) (s : State) : Host.Outcome State Fault Refusal :=
  wfRun (.canEnableWrite init n v) (opCanEnableWrite n v) s
/-- CAN_OBJECT_ENABLE_WRITE. -/
def execCanObjectEnableWrite (init n k : Nat) (v : Word) (s : State) : Host.Outcome State Fault Refusal :=
  wfRun (.canObjectEnableWrite init n k v) (opCanObjectEnableWrite n k v) s
/-- OBJ_STAT_READ. -/
def execObjStatRead (init n k : Nat) (s : State) : Host.Outcome State Fault Refusal :=
  wfRun (.objStatRead init n k) (opObjStatRead init n k) s
/-- REFERENCE_SEND. -/
def execReferenceSend (n : Nat) (s : State) : Host.Outcome State Fault Refusal :=
  wfRun (.referenceSend n) (engRun [4] (opReferenceSend n)) s
/-- REFERENCE_LOST. -/
def execReferenceLost (n : Nat) (s : State) : Host.Outcome State Fault Refusal :=
  wfRun (.referenceLost n) (opReferenceLost n) s
/-- CAN_BUS_INTEGRATED. -/
def execCanBusIntegrated (n : Nat) (s : State) : Host.Outcome State Fault Refusal :=
  wfRun (.canBusIntegrated n) (engRun [4] (opCanBusIntegrated n)) s

end Sys2Proof.Machine
end

