-- ==== Sys2Proof/Machine/Pair.lean ====
section
/-! DEFINITION. The active and standby pair (12): the interlock, reports and shadows, settling roles, check scans, takeover
and planned switchover, fencing, and the PAIR registers. A received frame's operand is its body (R206). -/

namespace Sys2Proof.Machine

/-- Kernel STATE (09 R209). -/
def kernelState (s : State) : Nat :=
  match s.mod.mode with
  | .run => 1 | .brace => 1 | .hold => 2 | .safe => 3 | .shutdown => 4
  | _ => 0

/-- PAIR_ERR_INFO without its flags. -/
def pairInfo (bit hub : Nat) : Word := place hub 31 16 ||| place bit 7 4

/-- A pair error with one record per occurrence (R285). -/
def raisePair (bit code hub : Nat) (d0 d1 : Word) (s : State) : State :=
  event code 0 d0 d1 (errPair bit (pairInfo bit hub) s)

/-! ## The pair record and the reign (R279) -/

/-- REIGN of the stored record, where a copy is valid. -/
def pairRecord (s : State) : Option Nat :=
  match slotBest (slot64 s 0x100 4) (slot64 s 0x140 4) with
  | some i => some (leAt (s.mem.mramGet (0x100 + 0x40 * i) 64) 0 4)
  | none => none

/-- The module's reign is set and written. -/
def setReign (r : Nat) (s : State) : State :=
  let n := slotNext (slot64 s 0x100 4) (slot64 s 0x140 4)
  let s := { s with pair := { s.pair with reign := r % 2 ^ 32 } }
  mramWrite (0x100 + 0x40 * n.1) (sealed64 (le 4 r ++ le 4 n.2 ++ zeros 52)) s

/-- A partner reign seen (R279): one higher than its own is taken as its own, but not by an ACTIVE module (R280). -/
def reignSeen (r : Nat) (s : State) : State :=
  let s := { s with pair := { s.pair with partnerReign := Nat.max s.pair.partnerReign r } }
  if s.pair.role ≠ 1 ∧ s.pair.reign < r then setReign r s else s

/-! ## Report fields (R269) -/

/-- ROLE of a report. -/
def repRole (b : List Byte) : Nat := beAt b 2 1 % 4
/-- Bit `i` of the ROLE byte. -/
def repBit (b : List Byte) (i : Nat) : Bool := (nth b 2 0).getLsbD i
/-- STATE. -/
def repState (b : List Byte) : Nat := beAt b 3 1 % 16
/-- REIGN. -/
def repReign (b : List Byte) : Nat := beAt b 4 4
/-- CYCLE. -/
def repCycle (b : List Byte) : Nat := beAt b 8 8
/-- TAKE_CYCLE. -/
def repTake (b : List Byte) : Nat := beAt b 16 4
/-- PROGRAM_ID. -/
def repProg (b : List Byte) : Nat := beAt b 20 8
/-- HUB_ID. -/
def repHub (b : List Byte) : Nat := beAt b 28 2
/-- VEHICLE_ID. -/
def repVehicle (b : List Byte) : Nat := beAt b 30 4
/-- SHADOW_BLOCKS. -/
def repBlocks (b : List Byte) : Nat := beAt b 36 2
/-- SHADOW_CHECK. -/
def repCheck (b : List Byte) : Nat := beAt b 40 4
/-- AWN_SIG. -/
def repSig (b : List Byte) : Nat := beAt b 44 8
/-- SCAN_TIME. -/
def repTime (b : List Byte) : Nat := beAt b 52 8

/-- The last valid report; zeros before one. -/
def lastReport (s : State) : List Byte := s.pair.report.getD (zeros 64)

/-- PROGRAM_ID of this module. -/
def ownProgram (s : State) : Nat := (awnProg s).id

/-- A triad runs Safety or Control tasks and is not at VOTING_2OO3. -/
def triadUnfit (s : State) (t : Nat) : Bool := runsSafety s t && decide ((s.tri t).state ≠ 1)

/-- FIT (R276). -/
def pairFit (s : State) : Bool :=
  decide (s.pair.role = 2) && s.pair.report.isSome && decide (repState (lastReport s) = kernelState s) &&
    !(List.range 6).any (triadUnfit s) && decide (s.awn.state ≠ 5) && s.pair.shadowOk && !s.pair.diverging &&
    (decide (repProg (lastReport s) = ownProgram s) || s.cyc.exch)

/-! ## Shadow blocks (R270) -/

/-- Blocks that cover `n` objects, `per` to a block, from block `b`. -/
def coverBlocks (b n per : Nat) : List Nat := (List.range ((n + per - 1) / per)).map (fun k => b + k)

/-- The blocks that R270 sends, in ascending order. -/
def pairBlocks (s : State) : List Nat :=
  let p := awnProg s
  (if s.img.awn.isSome then
      List.range 24 ++ coverBlocks 24 p.timers.length 64 ++ coverBlocks 56 p.counters.length 64 ++
        coverBlocks 72 p.edges.length 128
    else []) ++
    coverBlocks 128 (4 * fieldOf (lkAt s 7 0x48) 4 0) 1

/-- Initiator of the pair engine (01 R19). -/
def pairId : Nat := 0x23

/-- Address of the shadow partition's block `b`. -/
def partAddr (s : State) (b : Nat) : Nat := fieldOf (lkAt s 7 0x44) 23 0 * 4096 + (b - 128) * 1024

/-- The pair engine's read of partition block `b`, under its own initiator (01 R19, R28); a block it may not read, or that is
damaged, is sent as zeros (log 180). -/
def partRead (b : Nat) (s : State) : List Byte × State :=
  let r := dmaRead pairId (partAddr s b) 1024 s
  (r.2.1, r.2.2)

/-- A timer's record. -/
def timerRec (o : AwnObj) (t : AwnTimer) : List Byte :=
  let f := placeB t.run 0 ||| placeB t.q 1 ||| placeB t.inp 2 ||| place o.kind 9 8
  le 4 o.tag ++ le 4 f.toNat ++ le 8 t.start.toNat

/-- A counter's record. -/
def counterRec (o : AwnObj) (c : AwnCounter) : List Byte :=
  le 4 o.tag ++ le 4 c.cv.toNat ++ le 4 (placeB c.inU 0 ||| placeB c.inD 1).toNat ++ zeros 4

/-- An edge detector's record. -/
def edgeRec (o : AwnObj) (p : Bool) : List Byte := le 4 o.tag ++ le 4 (placeB p 0 ||| place o.kind 9 8).toNat

/-- The E area's 512 bytes. -/
def edgeBytes (d : AwnData) : List Byte :=
  (List.range 512).map (fun o =>
    BitVec.ofNat 8 (maskOf ((List.range 8).map (fun k => FMap.look d.edges false (8 * o + k)))))

/-- The 1,024 bytes of block `b`, from the published bank and the shadow partition. -/
def blockData (s : State) (b : Nat) : List Byte :=
  let d := s.awn.bank
  let p := awnProg s
  let run := fun (n : Nat) (f : Nat → List Byte) => ((List.range n).map f).flatten
  if b = 0 then FMap.lookList d.i 0 0 1024
  else if b = 1 then FMap.lookList d.q 0 0 1024
  else if b = 2 then FMap.lookList d.m 0 0 1024
  else if b = 3 then edgeBytes d ++ le 8 s.pair.scanNum ++ zeros 504
  else if b < 20 then run 256 (fun k => le 4 (FMap.look d.w 0 (256 * (b - 4) + k)).toNat)
  else if b < 24 then run 256 (fun k => le 4 (FMap.look d.k 0 (256 * (b - 20) + k)).toNat)
  else if b < 56 then
    run 64 (fun k => let n := 64 * (b - 24) + k; timerRec (awnObj p.timers n) (FMap.look d.timers {} n))
  else if b < 72 then
    run 64 (fun k => let n := 64 * (b - 56) + k; counterRec (awnObj p.counters n) (FMap.look d.counters {} n))
  else if b < 104 then
    run 128 (fun k => let n := 128 * (b - 72) + k; edgeRec (awnObj p.edges n) (FMap.look d.edges false n))
  else (partRead b s).1

/-- The module sends its shadow in this cycle: an ACTIVE that is not in SAFE or SHUTDOWN, or one that RELEASE demoted at
this cycle's boundary (R281). -/
def sendsShadow (s : State) : Bool :=
  (decide (s.pair.role = 1) && decide (s.mod.mode ≠ .safe ∧ s.mod.mode ≠ .shutdown)) || s.pair.released

/-! ## Sending (R269 to R272) -/

/-- The report's RELEASE bit (R281): an ACTIVE in RUN or HOLD that has read INTENT for the next cycle. -/
def relNow (s : State) : Bool :=
  decide (s.pair.role = 1) && decide (s.mod.mode = .run ∨ s.mod.mode = .hold) && !s.pair.wants &&
    decide (s.pair.release = some ((s.cyc.cycle + 1) % 2 ^ 32))

/-- The report body. -/
def reportBody (s : State) : List Byte :=
  let blocks := if sendsShadow s then pairBlocks s else []
  let intent := s.pair.wants && s.pair.intent.isSome
  let rel := relNow s
  let role := place s.pair.role 1 0 ||| placeB (pairFit s) 2 ||| placeB intent 3 ||| placeB rel 4 |||
    placeB s.pair.staged 5 ||| placeB s.pair.first 6
  let take := if intent then s.pair.intent.getD 0 else if rel then s.cyc.cycle + 1 else 0
  let health := maskOf ((List.range 6).map (fun t => decide ((s.tri t).state = 1 ∨ (s.tri t).state = 4))) +
    (if s.awn.degraded then 64 else 0) + (if s.pair.shadowOk then 128 else 0)
  let b := be 1 1 ++ be 1 0x20 ++ be 1 role.toNat ++ be 1 (kernelState s) ++ be 4 s.pair.reign ++ be 8 s.cyc.cycle ++
    be 4 take ++ be 8 (ownProgram s) ++ be 2 (ownHubId s) ++ be 4 s.img.vehicleId ++ be 2 health ++
    be 2 blocks.length ++ zeros 2 ++ be 4 (crc32c (blocks.map (blockData s)).flatten) ++
    be 8 s.pair.scanSig.toNat ++ be 8 s.awn.bank.scanTime.toNat
  b ++ be 4 (crc32c b)

/-- A shadow frame's body. -/
def shadowBody (s : State) (k : Nat) : List Byte :=
  let b := be 1 1 ++ be 1 0x21 ++ be 2 k ++ be 4 s.pair.reign ++ be 8 s.cyc.cycle ++ zeros 16 ++ blockData s k
  b ++ be 4 (crc32c b)

/-- The PAIR_TX descriptor of a buffer, in the mode in force. -/
def pairTxSlot (s : State) (buf : Nat) : Option Slot :=
  (modeNow s).slots.find? (fun x => decide (x.kind = 3 ∧ x.buffer = buf))

/-- PAIR_TX_SLOT (R272): once a cycle and buffer, at T0 + OFFSET. A new INTENT names the cycle after next (R281). -/
def opPairTxSlot (buf : Nat) (s : State) : State :=
  match pairTxSlot s buf with
  | none => s
  | some x =>
    if !afterT0 s x.offset || s.pair.txDid.contains buf || decide (s.pair.role = 0) then s
    else
      let s := { s with pair := { s.pair with txDid := s.pair.txDid ++ [buf] } }
      if buf = 0 then
        let s := if s.pair.wants ∧ s.pair.intent.isNone then
            { s with pair := { s.pair with intent := some (s.cyc.cycle + 2) } }
          else s
        emit (.frame 0x20 (etherFrame s 0x035946520030 (reportBody s)))
          { s with pair := { s.pair with relSent := relNow s } }
      else if sendsShadow s ∧ (pairBlocks s).contains (buf - 1) then
        emit (.frame 0x20 (etherFrame s 0x035946520030 (shadowBody s (buf - 1))))
          (if 128 ≤ buf - 1 then (partRead (buf - 1) s).2 else s)
      else s

/-! ## Receiving shadows (R271) -/

/-- Insert a block by number. -/
def insBlock (x : Nat × Nat × List Byte) (l : List (Nat × Nat × List Byte)) : List (Nat × Nat × List Byte) :=
  match l with
  | [] => [x]
  | y :: t => if x.1 < y.1 then x :: y :: t else if x.1 = y.1 then x :: t else y :: insBlock x t

/-- The shadow of this cycle is swapped in once it is complete (R271). -/
def shadowTry (s : State) : State :=
  match s.pair.report with
  | none => s
  | some r =>
    let bs := s.pair.fill.filter (fun e => decide (e.2.1 = repReign r))
    if s.pair.heard ∧ !s.pair.shadowNow ∧ 0 < repBlocks r ∧ bs.length = repBlocks r ∧
        crc32c (bs.map (fun e => e.2.2)).flatten = repCheck r then
      { s with pair := { s.pair with
          shadowNow := true, shadowPrev := s.pair.shadow,
          shadow := some { report := r, blocks := bs.map (fun e => (e.1, e.2.2)) } } }
    else s

/-- A frame outside every window is counted (R272). -/
def pairDropped (s : State) : State :=
  { s with pair := { s.pair with dropped := satInc 65535 s.pair.dropped } }

/-- A frame from `rx.start` to `rx.stop` lies wholly in the window of a PAIR_RX descriptor of the mode in force (R272). -/
def pairInWindow (s : State) (rx : PairRx) : Bool :=
  (modeNow s).slots.any (fun x =>
    decide (x.kind = 4) && decide ((x.offset : Int) - 1000 ≤ rx.start) && decide (rx.start ≤ rx.stop) &&
      decide (rx.stop ≤ (x.offset : Int) + x.length + 1000))

/-- SHADOW_FRAME_RECEIVE. -/
def opShadowFrameReceive (rx : PairRx) (b : List Byte) (s : State) : State :=
  if s.pair.role = 0 ∨ !s.cyc.begun then s
  else
    let s := { s with pair := { s.pair with phy := true } }
    if !pairInWindow s rx then pairDropped s
    else if b.length = 1060 ∧ beAt b 1056 4 = crc32c (b.take 1056) ∧ beAt b 0 1 = 1 ∧ beAt b 1 1 = 0x21 ∧
        beAt b 8 8 = s.cyc.cycle ∧ beAt b 2 2 < 192 then
      shadowTry { s with pair := { s.pair with
          fill := insBlock (beAt b 2 2, beAt b 4 4, slice b 32 1024) s.pair.fill } }
    else s

/-! ## Roles and fencing -/

/-- A draw of k cycles from the random source (R273). -/
def startDraw (s : State) : State :=
  drawn { s with pair := { s.pair with
      draw := some (draw64 s), drawLost := false, nextRole := none, candSince := none } }

/-- The role a CANDIDATE settles in (R273). -/
def settleRole (r : Nat) (s : State) : State :=
  event 0x2722 r (w32 s.pair.reign) 0 { s with pair := { s.pair with
      role := r, candSince := none, draw := none, drawLost := false, nextRole := none } }

/-- An ACTIVE loses its role at once (R282): it publishes nothing, releases nothing, leaves PIL_OUT as it is. -/
def pairFence (role partner hub : Nat) (s : State) : State :=
  let s := raisePair 2 0x3712 hub (w32 s.pair.reign) (w32 partner) s
  let s := fioRefresh { s with pair := { s.pair with role := role, release := none } }
  if role = 3 then startDraw s else reignSeen partner s

/-- A partner ACTIVE with reign `r` and hub ID `hub`, seen by this ACTIVE (R282). -/
def fenceCheck (r hub : Nat) (s : State) : State :=
  if s.pair.reign < r then pairFence 2 r hub s
  else if r = s.pair.reign ∧ hub < ownHubId s then pairFence 2 r hub s
  else if r = s.pair.reign ∧ hub = ownHubId s then pairFence 3 r hub s
  else s

/-- A valid report read by an ACTIVE (R280 to R282). -/
def reportActive (b : List Byte) (s : State) : State :=
  if repRole b = 1 then fenceCheck (repReign b) (repHub b) s
  else
    let s := if s.pair.reign < repReign b then { s with pair := { s.pair with takeover := some 4 } } else s
    if repBit b 3 then { s with pair := { s.pair with release := some (repTake b) } } else s

/-- A valid report read by a STANDBY (R277, R281). -/
def reportStandby (b : List Byte) (s : State) : State :=
  let s := if (repState b = 3 ∨ repState b = 4) ∧ s.mod.mode ≠ .safe then
      { s with pair := { s.pair with takeover := some 2 } }
    else s
  if repBit b 4 then { s with pair := { s.pair with release := some (repTake b) } } else s

/-- A valid report read by a CANDIDATE whose reign is `own` (R273). -/
def reportCandidate (own : Nat) (b : List Byte) (s : State) : State :=
  let take := fun (r : Nat) => { s with pair := { s.pair with nextRole := some r, candSince := none, draw := none } }
  if repRole b = 1 then take 2
  else if repReign b ≠ own then take (if repReign b < own then 1 else 2)
  else if repHub b ≠ ownHubId s then take (if ownHubId s < repHub b then 1 else 2)
  else if s.pair.draw.isSome ∨ s.pair.nextRole.isSome then s
  else startDraw s

/-- PARTNER: a report from another vehicle (R271). -/
def wrongPartner (b : List Byte) (s : State) : State :=
  eventRate 0x3716 0 (repHub b) (w32 (repVehicle b)) (errPair 6 (pairInfo 6 (repHub b)) s)

/-- The report's form is valid but for VEHICLE_ID (R271). -/
def reportForm (s : State) (b : List Byte) : Bool :=
  decide (b.length = 64) && decide (beAt b 60 4 = crc32c (b.take 60)) && decide (beAt b 0 1 = 1) &&
    decide (beAt b 1 1 = 0x20) && decide (repCycle b = s.cyc.cycle)

/-- A valid report is taken. -/
def reportTaken (b : List Byte) (s : State) : State :=
  let own := s.pair.reign
  let s := { s with pair := { s.pair with
      partner := (if s.pair.report.isNone then repHub b else s.pair.partner), report := some b, heard := true,
      silent := 0, linkLost := false, pathRaised := false } }
  let s := reignSeen (repReign b) s
  let s := match s.pair.role with
    | 1 => reportActive b s
    | 2 => reportStandby b s
    | _ => reportCandidate own b s
  shadowTry s

/-- PAIR_REPORT_RECEIVE (R271). -/
def opPairReportReceive (rx : PairRx) (b : List Byte) (s : State) : State :=
  if s.pair.role = 0 ∨ !s.cyc.begun then s
  else
    let s := { s with pair := { s.pair with phy := true } }
    if !pairInWindow s rx then pairDropped s
    else if !reportForm s b then s
    else if repVehicle b ≠ s.img.vehicleId then wrongPartner b s
    else reportTaken b s

/-- A valid kernel with the partner's hub ID (R280, R282): its pair role and reign. -/
def pairKernel (hub role reign : Nat) (s : State) : State :=
  if s.pair.role = 0 ∨ s.pair.report.isNone ∨ hub ≠ s.pair.partner then s
  else
    let s := reignSeen reign s
    if s.pair.role = 1 ∧ role = 1 ∧ s.pair.reign < reign then pairFence 2 reign hub s else s

/-- PIL_IN_CHANGE (R268): the level is taken in every state; in a pair, a change is the partner acting. -/
def opPilInChange (level : Bool) (s : State) : State :=
  if level = s.pair.pilIn then s
  else if s.pair.role = 0 then { s with pair := { s.pair with pilIn := level } }
  else { s with pair := { s.pair with
      pilIn := level, pilNow := true, drawLost := s.pair.drawLost || s.pair.draw.isSome } }

/-- CANDIDATE_TIMEOUT (R273): the candidate time has ended with no valid report. -/
def opCandidateTimeout (s : State) : State :=
  if s.pair.role = 3 ∧ due s.pair.candSince 1900000000 s.clk.now ∧ s.pair.report.isNone then
    if s.pair.pilAct ∨ s.pair.pilNow then settleRole 2 s else startDraw s
  else s

/-- CANDIDATE_DRAW_END (R273): ACTIVE at the next boundary, or STANDBY if the partner has been seen acting. -/
def opCandidateDrawEnd (s : State) : State :=
  if s.pair.role = 3 ∧ s.pair.draw = some 0 ∧ s.pair.nextRole.isNone then
    if s.pair.drawLost then settleRole 2 s else { s with pair := { s.pair with nextRole := some 1 } }
  else s

/-! ## Loading a shadow -/

/-- A block of a shadow; zeros where it holds none. -/
def Shadow.block (x : Shadow) (b : Nat) : List Byte :=
  match x.blocks.find? (fun e => decide (e.1 = b)) with
  | some e => e.2
  | none => zeros 1024

/-- The blocks from `b` on, `n` of them, end to end. -/
def Shadow.area (x : Shadow) (b n : Nat) : List Byte := ((List.range n).map (fun k => x.block (b + k))).flatten

/-- Words of an area. -/
def areaWords (a : List Byte) (n : Nat) : List Word := (List.range n).map (fun k => w32 (leAt a (4 * k) 4))

/-- Number of objects in a shadow's blocks `b` to `b + n - 1`, `per` to a block. -/
def Shadow.objects (x : Shadow) (b n per : Nat) : Nat :=
  per * (x.blocks.filter (fun e => decide (b ≤ e.1 ∧ e.1 < b + n))).length

/-- Timer `n` of a shadow. -/
def Shadow.timer (x : Shadow) (n : Nat) : AwnTimer :=
  let r := slice (x.block (24 + n / 64)) (16 * (n % 64)) 16
  let f := w32 (leAt r 4 4)
  { run := bitOf f 0, q := bitOf f 1, inp := bitOf f 2, start := BitVec.ofNat 64 (leAt r 8 8) }

/-- Counter `n` of a shadow. -/
def Shadow.counter (x : Shadow) (n : Nat) : AwnCounter :=
  let r := slice (x.block (56 + n / 64)) (16 * (n % 64)) 16
  { cv := w32 (leAt r 4 4), inU := bitOf (w32 (leAt r 8 4)) 0, inD := bitOf (w32 (leAt r 8 4)) 1 }

/-- The Awn data of a shadow (R270). -/
def Shadow.data (x : Shadow) : AwnData where
  i := FMap.storeList [] 0 0 (x.block 0)
  q := FMap.storeList [] 0 0 (x.block 1)
  m := FMap.storeList [] 0 0 (x.block 2)
  w := FMap.storeList [] 0 0 (areaWords (x.area 4 16) 4096)
  k := FMap.storeList [] 0 0 (areaWords (x.area 20 4) 1024)
  timers := FMap.storeList [] {} 0 ((List.range (x.objects 24 32 64)).map x.timer)
  counters := FMap.storeList [] {} 0 ((List.range (x.objects 56 16 64)).map x.counter)
  edges := FMap.storeList [] false 0
    ((List.range 4096).map (fun n => (nth (x.block 3) (n / 8) 0).getLsbD (n % 8)))
  scanTime := BitVec.ofNat 64 (repTime x.report)

/-- An object table rebuilt from the tags and kinds of records of `size` bytes; `kinded` where the record holds KIND. -/
def Shadow.table (x : Shadow) (b n per size : Nat) (kinded : Bool) : List AwnObj :=
  (List.range (x.objects b n per)).map (fun k =>
    let r := slice (x.block (b + k / per)) (size * (k % per)) size
    ⟨leAt r 0 4, if kinded then leAt r 4 4 / 256 % 4 else 0, 0, 0, 0⟩)

/-- The object tables of the program that made a shadow, for R130. -/
def Shadow.prog (x : Shadow) : AwnProg :=
  { AwnProg.none with
    timers := x.table 24 32 64 16 true, counters := x.table 56 16 64 16 false, edges := x.table 72 32 128 8 true,
    id := repProg x.report }

/-- Step 2 of R278: the Awn state into the engine, the partition blocks into the shadow partition by the pair engine's writes
(01 R19, R28). -/
def loadShadow (x : Shadow) (s : State) : State :=
  let s := if s.img.awn.isNone then s
    else if repProg x.report = ownProgram s then awnFill x.data s
    else awnTransfer x.prog x.data s
  let room := 4 * fieldOf (lkAt s 7 0x48) 4 0
  forAll (x.blocks.filter (fun e => decide (128 ≤ e.1 ∧ e.1 < 128 + room)))
    (fun e s => (dmaWrite pairId (partAddr s e.1) e.2 s).2) s

/-! ## Takeover and switchover (R277 to R281) -/

/-- The force table is cleared, each entry that changes recorded (05 R149). -/
def forceClear (s : State) : State :=
  let s := forAll s.cyc.force (fun e s => if e.2 = 0 then s else event 0x2212 e.1 e.2 0 s) s
  { s with cyc := { s.cyc with force := [] } }

/-- CYC_ERR_INFO without its flags (05). -/
def cycInfo (bit stn : Nat) : Word := place stn 14 8 ||| place bit 4 2

/-- An exchange fails (05 R152); `why` is 0 abandoned, 1 START refused. -/
def exchFail (why : Nat) (s : State) : State :=
  let s := { s with cyc := { s.cyc with exch := false, exchResult := 2 } }
  event 0x3207 0 (w32 s.cyc.deferred) (w32 why) (errCyc 6 (cycInfo 6 0) s)

/-- PAIR_TAKEOVER (R278, R280) at the boundary of cycle `b`: START keeps the module's own state. Awn's enable follows the
mode again, where another program had held it at 0 (05 R151). -/
def pairTakeover (cause b : Nat) (s : State) : State :=
  let r := Nat.max s.pair.reign s.pair.partnerReign + 1
  let s := setReign r s
  let age := match cause, s.pair.shadow with
    | 4, _ => 0
    | _, some x => b - 1 - repCycle x.report
    | _, none => freshNat s
  let s := if cause ≠ 4 ∧ s.pair.shadow.isNone then drawn s else s
  let s := if cause = 4 then s
    else match s.pair.shadow with
      | some x => loadShadow x s
      | none => s
  let s := if cause ≠ 4 ∧ s.cyc.mode ≠ 0 ∧ s.awn.loaded then awnSetEn true s else s
  event 0x2720 cause (w32 r) (w32 age) { s with pair := { s.pair with
      role := 1, count := satInc 65535 s.pair.count, age := sat 255 age, cause := cause, takeover := none,
      takeLate := decide (cause ≠ 4), intent := none } }

/-- A planned switchover completes (R281, 05 R151); after an exchange the first scan reads FIRST 1 (05 R153). -/
def switchDone (b : Nat) (s : State) : State :=
  let exch := s.pair.forExch
  let s := pairTakeover 3 b s
  let s := event 0x2721 0 (w32 s.pair.reign) 0 { s with pair := { s.pair with
      wants := false, forExch := false, switchRes := if exch then s.pair.switchRes else 2 } }
  if exch then
    forceClear { s with
      cyc := { s.cyc with exch := false, exchResult := 1, exchFirst := true },
      awn := { s.awn with firstNext := true } }
  else s

/-- A switchover is refused or given up: SWREF (R281, R285). -/
def switchRefused (res : Nat) (s : State) : State :=
  raisePair 7 0x2717 0 (w32 res) 0 { s with pair := { s.pair with switchRes := res, wants := false, intent := none } }

/-- A switchover's cycle `b` has come without RELEASE or shadow, or an exchange that was deferred waits for the cycle of its
new INTENT: it is deferred, at most 8 times, an exchange for at most 8 cycles (R281, 05 R152, log 186). -/
def switchDefer (b : Nat) (s : State) : State :=
  let n := s.pair.deferred + 1
  let s := { s with pair := { s.pair with
      deferred := n, intent := if s.pair.intent = some b then none else s.pair.intent } }
  if s.pair.forExch then
    let s := { s with cyc := { s.cyc with deferred := n } }
    if 8 ≤ n then exchFail 0 { s with pair := { s.pair with wants := false, forExch := false } } else s
  else if 8 ≤ n then switchRefused 5 s
  else s

/-- PAIR_SWITCH (R281): by the voter of a TRIAD-mode triad or the security engine. A store while a switchover is under way
has no effect (log 40). -/
def opPairSwitch (init : Nat) (v : Word) (s : State) : State :=
  if !(bitOf v 0 && (init = secId || isVoter s init)) || s.pair.wants then s
  else if s.pair.role ≠ 2 ∨ s.pair.report.isNone ∨ repRole (lastReport s) ≠ 1 then switchRefused 4 s
  else if !pairFit s then switchRefused 3 s
  else { s with pair := { s.pair with wants := true, forExch := false, deferred := 0, switchRes := 1, intent := none } }

/-- A takeover of another cause ends a switchover that is under way (log 42). -/
def switchOvertaken (s : State) : State :=
  if !s.pair.wants then s
  else if s.pair.forExch then exchFail 0 { s with pair := { s.pair with wants := false, forExch := false } }
  else switchRefused 4 s

/-! ## The boundary -/

/-- What a STANDBY does at the boundary of cycle `b`, in the order: return, PARTNER_SAFE, PLANNED, SILENCE. -/
def standbyBoundary (back : Bool) (b : Nat) (s : State) : State :=
  let p := s.pair
  if back then { s with pair := { p with role := 1, takeover := none } }
  else if p.takeover = some 2 ∧ s.mod.mode ≠ .safe then switchOvertaken (pairTakeover 2 b s)
  else if p.wants ∧ p.intent = some b ∧ p.release = some (b % 2 ^ 32) ∧ p.shadowNow ∧ s.mod.mode ≠ .safe then switchDone b s
  else if p.linkLost ∧ !p.pilAct ∧ !p.pilAct2 ∧ s.mod.mode ≠ .safe then switchOvertaken (pairTakeover 1 b s)
  else if p.wants ∧ (p.intent = some b ∨ (p.forExch ∧ 0 < p.deferred)) then switchDefer b s
  else s

/-- What an ACTIVE does at the boundary of cycle `b`: DUAL's CANDIDATE, RELEASE, START. A RELEASE to a partner with another
program is an exchange, at whose switch-over the force table is cleared (05 R149, log 187). -/
def activeBoundary (dual : Bool) (b : Nat) (s : State) : State :=
  let p := s.pair
  if dual ∧ !p.heard then startDraw (fioRefresh { s with pair := { p with role := 3 } })
  else if p.relSent ∧ p.release = some (b % 2 ^ 32) then
    let s := if repProg (lastReport s) = ownProgram s then s else forceClear s
    fioRefresh { s with pair := { p with role := 2, released := true, takeover := none } }
  else if p.takeover = some 4 then pairTakeover 4 b s
  else s

/-- What a CANDIDATE does at a boundary (R273). -/
def candidateBoundary (s : State) : State :=
  match s.pair.nextRole with
  | some 1 => settleRole 1 (setReign (Nat.max s.pair.reign s.pair.partnerReign + 1) s)
  | some r => settleRole r s
  | none =>
    { s with pair := { s.pair with draw := (match s.pair.draw with
        | some (k + 1) => some k
        | d => d) } }

/-- DUAL (R283) and SHADOW (R271) of the cycle that ends. -/
def pairFaults (s : State) : State :=
  let s := if s.pair.pubNow ∧ s.pair.pilNow then
      raisePair 3 0x3713 0 (w32 s.pair.reign) (w32 (if s.pair.heard then repReign (lastReport s) else 0)) s
    else s
  if s.pair.role = 2 ∧ !s.pair.shadowNow ∧ !(s.pair.heard ∧ repBlocks (lastReport s) = 0) then
    eventRate 0x2715 0 0 0 (errPair 5 (pairInfo 5 0) s)
  else s

/-- The pair engine at the boundary of cycle `b`. -/
def pairBoundary (b : Nat) (s : State) : State :=
  if s.pair.role = 0 then s
  else
    let dual := s.pair.pubNow && s.pair.pilNow
    let back := s.pair.released && s.pair.heard && decide (repRole (lastReport s) = 2)
    let s := pairFaults s
    let s := { s with pair := { s.pair with
        pilAct2 := s.pair.pilAct, pilAct := s.pair.pilNow, pilNow := false, pubLast := s.pair.pubNow, pubNow := false,
        shadowOk := s.pair.shadowNow, silent := if s.pair.heard then 0 else satInc 255 s.pair.silent,
        released := false, takeLate := false, txDid := [], checked := false } }
    let s := match s.pair.role with
      | 1 => activeBoundary dual b s
      | 2 => standbyBoundary back b s
      | _ => candidateBoundary s
    { s with pair := { s.pair with
        heard := false, shadowNow := false, rxBlocks := s.pair.fill.length, fill := [], relSent := false,
        takeover := none } }

/-- PAIR_LINK_LOST: rung 6 (01 R41, R277, R285). -/
def opPairLinkLost (s : State) : State :=
  if s.pair.role = 0 ∨ s.pair.linkLost ∨ s.pair.silent < 3 then s
  else
    let s := raisePair 0 0x3710 0 (cycleWord s) 0 { s with pair := { s.pair with linkLost := true, phy := false } }
    if s.pair.role = 2 ∧ (s.pair.pilAct ∨ s.pair.pilAct2 ∨ s.pair.pilNow) ∧ !s.pair.pathRaised then
      raisePair 1 0x2711 0 (cycleWord s) 0 { s with pair := { s.pair with pathRaised := true } }
    else s

/-- The publish of an ACTIVE is fenced by the interlock (R282). -/
def publishFenced (s : State) : Bool :=
  decide (s.pair.role = 1) && !s.pair.pubLast && s.pair.pilAct &&
    decide (s.pair.release ≠ some (s.cyc.cycle % 2 ^ 32))

/-- A publish releases outputs as ACTIVE, which an unpaired module always is (R273): PIL_OUT is inverted (R268). -/
def pairPublished (s : State) : State :=
  if s.pair.role ≤ 1 then { s with pair := { s.pair with pilOut := !s.pair.pilOut, pubNow := true } } else s

/-! ## Check scans (R275) -/

/-- The signature of a check scan from shadow `a` with the inputs of shadow `b`. -/
def checkSig (s : State) (a b : Shadow) : Dword :=
  let e : AwnEnv := { prog := awnProg s, first := false, degraded := bitOf (w32 (beAt b.report 34 2)) 6,
                      scan := leAt (b.block 3) 0x200 8 }
  let d := { a.data with i := b.data.i, scanTime := BitVec.ofNat 64 (repTime b.report) }
  (laneRun 131072 e (laneStart e.prog.steps d)).sig

/-- The result of a check scan counted. -/
def checkCount (ok : Bool) (s : State) : State :=
  let s := { s with pair := { s.pair with checks := satInc 65535 s.pair.checks, checked := true } }
  if ok then
    let n := if s.pair.diverging then s.pair.runPasses + 1 else 0
    { s with pair := { s.pair with runFails := 0, runPasses := n, diverging := s.pair.diverging && decide (n < 16) } }
  else
    let s := { s with pair := { s.pair with
        fails := satInc 65535 s.pair.fails, runFails := s.pair.runFails + 1, runPasses := 0 } }
    if 3 ≤ s.pair.runFails ∧ !s.pair.diverging then
      raisePair 4 0x3714 0 (w32 s.pair.fails) (cycleWord s) { s with pair := { s.pair with diverging := true } }
    else s

/-- CHECK_SCAN (R275): once a cycle. The scan counts as the first since EN rose (log 41). -/
def opCheckScan (s : State) : State :=
  match s.pair.shadowPrev, s.pair.shadow with
  | some a, some b =>
    let n := s.cyc.cycle
    if s.pair.role = 2 ∧ !s.pair.checked ∧ s.pair.shadowOk ∧ s.awn.loaded ∧ repProg b.report = ownProgram s ∧
        repCycle a.report + 2 = n ∧ repCycle b.report + 1 = n ∧ !repBit b.report 5 ∧ !repBit b.report 6 then
      let s := { s with awn := { s.awn with firstNext := false } }
      checkCount (decide (checkSig s a b = BitVec.ofNat 64 (repSig b.report))) s
    else s
  | _, _ => s

/-! ## Start and registers -/

/-- Hand-over of a paired module: CANDIDATE with its stored reign (R273, R280). -/
def pairStart (s : State) : State :=
  if !s.img.pairMode then s
  else
    let s := mramProbe 0x140 64 (mramProbe 0x100 64 s)
    let s := match pairRecord s with
      | some r => { s with pair := { s.pair with reign := r } }
      | none => lifeBad 3 { s with pair := { s.pair with reign := 0 } }
    { s with pair := { s.pair with role := 3, candSince := some s.clk.now } }

/-- Reads of the PAIR window but for the quartet and the LK registers. -/
def pairRead (s : State) (o : Nat) : Word :=
  let p := s.pair
  match o with
  | 0x00 =>
    placeB p.diverging 11 ||| placeB (p.report.isSome && repBit (lastReport s) 2) 10 |||
      place (if p.report.isSome then repRole (lastReport s) else 0) 9 8 ||| placeB p.shadowOk 7 ||| placeB p.pilOut 6 |||
      placeB p.pilAct 5 ||| placeB p.phy 4 ||| placeB (pairFit s) 3 ||| place p.role 1 0
  | 0x20 => w32 p.reign
  | 0x24 => w32 p.partnerReign
  | 0x28 => place p.partner 15 0
  | 0x34 => place p.switchRes 6 4 ||| place p.deferred 3 0
  | 0x38 => place p.count 31 16 ||| place p.age 15 8 ||| place p.cause 2 0
  | 0x3C => place p.dropped 31 16 ||| place p.rxBlocks 15 8 ||| place (if p.role = 0 then 0 else (pairBlocks s).length) 7 0
  | 0x40 => place p.fails 31 16 ||| place p.checks 15 0
  | _ => 0

/-- PAIR_TX_SLOT. -/
def execPairTxSlot (b : Nat) (s : State) : Host.Outcome State Fault Refusal := wfRun (.pairTxSlot b) (engRun [3] (opPairTxSlot b)) s
/-- PAIR_REPORT_RECEIVE. -/
def execPairReportReceive (w : PairRx) (b : List Byte) (s : State) : Host.Outcome State Fault Refusal :=
  wfRun (.pairReportReceive w b) (engRun [3] (opPairReportReceive w b)) s
/-- SHADOW_FRAME_RECEIVE. -/
def execShadowFrameReceive (w : PairRx) (b : List Byte) (s : State) : Host.Outcome State Fault Refusal :=
  wfRun (.shadowFrameReceive w b) (engRun [3] (opShadowFrameReceive w b)) s
/-- PIL_IN_CHANGE. -/
def execPilInChange (l : Bool) (s : State) : Host.Outcome State Fault Refusal := wfRun (.pilInChange l) (opPilInChange l) s
/-- PAIR_SWITCH. -/
def execPairSwitch (init : Nat) (v : Word) (s : State) : Host.Outcome State Fault Refusal :=
  wfRun (.pairSwitch init v) (opPairSwitch init v) s
/-- CANDIDATE_TIMEOUT. -/
def execCandidateTimeout (s : State) : Host.Outcome State Fault Refusal := wfRun .candidateTimeout opCandidateTimeout s
/-- CANDIDATE_DRAW_END. -/
def execCandidateDrawEnd (s : State) : Host.Outcome State Fault Refusal := wfRun .candidateDrawEnd opCandidateDrawEnd s
/-- CHECK_SCAN. -/
def execCheckScan (s : State) : Host.Outcome State Fault Refusal := wfRun .checkScan opCheckScan s
/-- PAIR_LINK_LOST. -/
def execPairLinkLost (s : State) : Host.Outcome State Fault Refusal := wfRun .pairLinkLost opPairLinkLost s

end Sys2Proof.Machine
end

