-- ==== Sys2Proof/Machine/Vyf.lean ====
section
/-! DEFINITION. The Vyfabin cycle (09, 10): ports and roles, the ear frame sent, forwarded and read, the copies taken, clock
synchronisation, schedule modes, start and loss of the network, and the VYF registers. Ports are 0 A1, 1 A2, 2 B1, 3 B2. A
frame's bytes run from DA to the last slot byte, without the FCS; its stamp is the train time base at its first DA byte. -/

namespace Sys2Proof.Machine

/-! ## Channels and ports -/

/-- Channel `ch`, 0 A and 1 B. -/
def vch (s : State) (ch : Nat) : VyfCh := if ch = 0 then s.vyf.chA else s.vyf.chB

/-- Channel `ch` changed. -/
def modCh (ch : Nat) (f : VyfCh → VyfCh) (s : State) : State :=
  if ch = 0 then { s with vyf := { s.vyf with chA := f s.vyf.chA } }
  else { s with vyf := { s.vyf with chB := f s.vyf.chB } }

/-- Both channels changed. -/
def modChs (f : VyfCh → VyfCh) (s : State) : State := modCh 1 f (modCh 0 f s)

/-- Link on port `p` (0 or 1) of a channel. -/
def VyfCh.link (c : VyfCh) (p : Nat) : Bool := if p = 0 then c.link1 else c.link2

/-- A module with link on both ports of the channel. -/
def VyfCh.both (c : VyfCh) : Bool := c.link1 && c.link2
/-- A module with link on one port of the channel. -/
def VyfCh.single (c : VyfCh) : Bool := c.link1 != c.link2

/-- Role on a channel (R204): 0 none, 1 origin, 2 middle, 3 far end. -/
def chRole (s : State) (ch : Nat) : Nat :=
  let c := vch s ch
  if !(c.link1 || c.link2) then 0 else if s.vyf.origin then 1 else if c.both then 2 else 3

/-- The Vyfabin engine runs: hand-over has passed, with BACKBONE 1. -/
def vyfRuns (s : State) : Bool := decide (1 ≤ s.vyf.state ∧ s.vyf.state ≤ 4)

/-- VYF_ERR_INFO without its flags. -/
def vyfInfo (bit addr port : Nat) : Word := place addr 31 24 ||| place port 17 16 ||| place bit 11 8

/-- A Vyfabin error with one record per occurrence (R234). -/
def raiseVyf (bit code detail port : Nat) (d0 d1 : Word) (s : State) : State :=
  event code detail d0 d1 (errVyf bit (vyfInfo bit 255 port) s)

/-- Period of schedule mode `m`, ns. -/
def modePeriod (s : State) (m : Nat) : Nat := (modeAt s m).periodUs * 1000

/-- P_max: the longest period among the image's modes, ns (R226). -/
def periodMax (s : State) : Nat := s.img.modes.foldl (fun n m => Nat.max n (m.periodUs * 1000)) 0

/-- VYF_CFG fields (R213). -/
def initialMode (s : State) : Nat := fieldOf (lkAt s 5 0x40) 1 0
/-- MODE_PERMIT of a mode. -/
def modePermitted (s : State) (m : Nat) : Bool := bitOf (lkAt s 5 0x40) (4 + m)
/-- COLD_ENABLE. -/
def coldEnable (s : State) : Bool := bitOf (lkAt s 5 0x40) 12

/-- The network cycle of this instant: number, T0 on the train time base, mode (R224). -/
def netNow (s : State) : Nat × Nat × Nat :=
  match s.vyf.pend with
  | some (n, t, m) =>
    let k := (s.clk.tb - t) / modePeriod s m
    (n + k, t + k * modePeriod s m, m)
  | none => (s.cyc.cycle, s.cyc.freezeTime, s.vyf.mode)

/-! ## Following the network's boundaries (R217, R224) -/

/-- O in ns. -/
def outOffset (s : State) : Nat := fieldOf (lkAt s 2 0x24) 15 0 * 1000

/-- The first network boundary after now and at or after `from'`. -/
def netBoundary (s : State) (n t m from' : Nat) : Nat × Nat :=
  let p := modePeriod s m
  let lo := Nat.max from' (s.clk.tb + 1)
  let k := if lo ≤ t then 0 else (lo - t + p - 1) / p
  (n + k, t + k * p)

/-- The next boundary is chosen, with its number (R217): the network's, where one may follow the last own boundary; the
module's own, where the network's still follows that far enough away (R224, log 196). -/
def nextBoundary (s : State) : State :=
  let own := s.cyc.freezeTime + modePeriod s s.vyf.mode
  match s.vyf.pend with
  | none => { s with cyc := { s.cyc with nextT0 := some own, nextNum := (s.cyc.cycle + 1) % 2 ^ 64 } }
  | some (n, t, m) =>
    let gap := outOffset s + 20000
    let b := netBoundary s n t m (if s.cyc.begun then s.cyc.freezeTime + gap else 0)
    if s.cyc.begun ∧ own + gap ≤ b.2 then
      { s with cyc := { s.cyc with nextT0 := some own, nextNum := (s.cyc.cycle + 1) % 2 ^ 64 } }
    else { s with cyc := { s.cyc with nextT0 := some b.2, nextNum := b.1 } }

/-- At a boundary that is the network's, the module follows the network from there on. -/
def pendFollow (s : State) : State :=
  match s.vyf.pend with
  | none => s
  | some (n, t, m) =>
    let p := modePeriod s m
    let tb := s.cyc.freezeTime
    if t ≤ tb ∧ (tb - t) % p = 0 ∧ s.cyc.cycle = n + (tb - t) / p then
      { s with vyf := { s.vyf with pend := none, mode := m, next := m } }
    else s

/-- An instant of the train time base after a step. -/
def stepped (t : Nat) (d : Int) : Nat := ((t : Int) + d).toNat

/-- The train time base is stepped by `d` ns (R224): boundaries keep their instants, running Awn timers their elapsed
time, and the guardian grants grace (10 R240). -/
def timeStep (d : Int) (s : State) : State :=
  let move := fun (t : AwnTimer) => if t.run then { t with start := t.start + BitVec.ofInt 64 d } else t
  let lanes := match s.mod.mode with
    | .run | .hold | .brace =>
      s.awn.lanes.map (fun (l : AwnLane) => { l with d := { l.d with timers := FMap.mapv l.d.timers {} move } })
    | _ => s.awn.lanes
  let w := fun (c : VyfCh) => { c with wrote := c.wrote.map (fun t => stepped t d) }
  hubGrace true (modChs w { s with
    clk := { s.clk with tb := stepped s.clk.tb d, tbSet := true },
    awn := { s.awn with lanes := lanes },
    cyc := { s.cyc with freezeTime := stepped s.cyc.freezeTime d, nextT0 := s.cyc.nextT0.map (fun t => stepped t d) } })

/-! ## States -/

/-- LISTEN is entered, or the listen time starts again (R226). -/
def listen (extra : Nat) (s : State) : State :=
  let s := loseOrigin s
  { s with vyf := { s.vyf with
      state := 1, listenSince := some s.clk.now, listenExtra := extra, schedRaised := false, step := 0, pend := none,
      taken := [], second := [] } }

/-- Integration starts from a header of origin `id` and cycle `cyc` (R229). -/
def integrate (id cyc : Nat) (s : State) : State :=
  let s := loseOrigin s
  { s with
    vyf := { s.vyf with
      state := 3, step := 0, originId := id, hdrCycle := cyc, hdrAt := s.clk.now, listenSince := none, pend := none,
      reqOn := false, taken := [], second := [], switch := false, switchIn := false },
    fab := { s.fab with claims := [], aper := [], built := false } }

/-- VYF_VALID's map of the copies taken. -/
def takenMap (s : State) : Nat := maskOf ((List.range 64).map (fun w => s.vyf.taken.any (fun k => decide (k.addr = w))))

/-- The copies of the cycle are counted and cleared; VYF_VALID takes their map. -/
def kernelsClose (s : State) : State :=
  let v := s.vyf
  let only := fun (ch : Nat) => (v.taken.filter (fun k => decide (k.ch = ch) && !v.second.contains k.addr)).length
  let got := fun (ch : Nat) => (v.taken.filter (fun k => decide (k.ch = ch))).length
  { s with vyf := { v with
      valid := takenMap s, selA := sat 0xFFFFFFFF (v.selA + got 0), selB := sat 0xFFFFFFFF (v.selB + got 1),
      aOnly := sat 65535 (v.aOnly + only 0), bOnly := sat 65535 (v.bOnly + only 1), taken := [], second := [],
      mapMissNow := false } }

/-- A SYNCED module leaves that state: what it has taken is counted, and its kernel connections lose their transport (13
R295). -/
def leaveSynced (f : State → State) (s : State) : State :=
  if s.vyf.state = 4 then kernelLost (f (kernelsClose s)) else f s

/-- A tie (R228, R231): both abandon, with a random lengthening of the listen time. -/
def vyfTie (id : Nat) (s : State) : State :=
  let k := draw64 s
  leaveSynced (listen (k * modePeriod s (initialMode s))) (event 0x2524 0 (w32 id) (w32 k) (drawn s))

/-! ## The module's own slots (R208 to R210, R251, R260) -/

/-- The module may write slots of KIND `kind` (R210, R233). -/
def mayWrite (s : State) (kind : Nat) : Bool :=
  decide (s.vyf.state = 4) && decide (kind = 1) && s.mod.mode.handed &&
    !(decide (s.mod.mode = .shutdown) && decide (2 ≤ s.vyf.leaving))

/-- A request is on its way: at least 5 us after the store (R218). -/
def requesting (s : State) : Bool := decide (s.vyf.reqResult = 1) && due s.vyf.reqSince 5000 s.clk.now

/-- MODE_REQ of the kernel (R218). -/
def modeReqByte (s : State) : Nat :=
  if requesting s then 12 + s.vyf.reqMode
  else
    match s.vyf.lead with
    | some (_, m) => m + if modePermitted s m then 8 else 0
    | none => (netNow s).2.2

/-- A force entry is enabled (05 R149). -/
def anyForced (s : State) : Bool := s.cyc.force.any (fun e => bitOf e.2 31)

/-- The triad votes 2oo2, while a reserve joins it or a hand-over drains it too (R209, 03 R87, R92). -/
def Triad.twoLive (x : Triad) : Bool :=
  decide (x.state = 2) || (decide (x.state = 3 ∨ x.state = 5) && decide (x.livePos.length = 2))

/-- A slot in the layout of R209, `len` bytes long, whose first byte passes the write point at `tx`. -/
def slotBytes (s : State) (len tx : Nat) (loop : Int) (payload : List Byte) : List Byte :=
  let flags := (if s.mod.mode = .brace then 1 else 0) + (if anyForced s then 2 else 0) +
    (if s.trd.triads.any Triad.twoLive || s.awn.degraded then 4 else 0)
  let p := slice payload 0 (len - 32)
  let b := be 1 s.fab.addr ++ be 1 (kernelState s + 16 * s.pair.role) ++ be 1 (modeReqByte s) ++ be 1 flags ++
    be 4 (ownReign s) ++ be 4 (netNow s).1 ++ be 4 tx ++ be 4 (sword loop).toNat ++ be 2 (ownHubId s) ++
    be 2 payload.length ++ zeros 4 ++ p
  b ++ be 4 (crc32c b)

/-- The kernel's payload on channel `ch`: the buffer committed for the current cycle number, else none (R210). -/
def kernelPayload (s : State) (ch : Nat) : List Byte :=
  match (vch s ch).buf with
  | some (c, b) => if c = (netNow s).1 then b else []
  | none => []

/-- Write the own kernel into a frame whose first DA byte leaves at `tx`. -/
def putKernel (ch tx : Nat) (b : List Byte) (s : State) : List Byte × State :=
  let m := modeAt s (netNow s).2.2
  let k := s.fab.addr
  if k < m.kslots ∧ m.kernelAt k + m.klen ≤ b.length then
    let x := slotBytes s m.klen (tx + 8 * m.kernelAt k) (vch s ch).loop (kernelPayload s ch)
    (putAt b (m.kernelAt k) x, { s with vyf := { s.vyf with
        reqOn := s.vyf.reqOn || requesting s, leavingNow := s.vyf.leavingNow || decide (s.mod.mode = .shutdown) } })
  else (b, s)

/-- The vehicle end that the up port of a channel faces: an origin's up port is its unlinked one. -/
def upEndOf (s : State) (ch : Nat) : Option Nat :=
  let c := vch s ch
  let up := if s.vyf.origin then (if c.single then some (if c.link1 then 1 else 0) else none) else c.up
  up.map (fun p => if p = s.img.end1Port then 0 else 1)

/-- UP_END of the claim written on channel `ch` (R253). -/
def claimEnd (s : State) (ch : Nat) : Nat :=
  let a := if ch = 0 ∨ s.vyf.chA.ok ∨ s.vyf.chA.hdrNow then upEndOf s 0 else none
  match a, upEndOf s 1 with
  | some e, _ => e
  | none, some e => e
  | none, none => 0

/-- Both channels carry the same frame, so that their up ports can be compared; those of an origin are its unlinked ones. -/
def sameFrame (s : State) : Bool := s.vyf.origin || (s.vyf.chA.fwd.isSome && decide (s.vyf.chA.fwd = s.vyf.chB.fwd))

/-- WIRING: the up ports of A and B lie at different vehicle ends; once per start (R253). -/
def wiringCheck (s : State) : State :=
  if !sameFrame s then s
  else match upEndOf s 0, upEndOf s 1 with
  | some a, some b =>
    if a ≠ b ∧ !s.fab.wiringRaised then
      event 0x3532 0 0 0 (errFab 2 (fabInfo 2 255 0) { s with fab := { s.fab with wiringRaised := true } })
    else s
  | _, _ => s

/-- Write the claim into the first position that is unoccupied; NOADDR where there is none (R251). -/
def putClaim (ch : Nat) (b : List Byte) (s : State) : List Byte × State :=
  let m := modeAt s (netNow s).2.2
  let s := wiringCheck s
  let c : Claim := ⟨ownHubId s, claimEnd s ch, kernelState s + 16 * s.pair.role, s.fuse.serial % 2 ^ 32, s.img.vehicleId⟩
  match (List.range m.claims).find? (fun j => (claimOf (slice b (m.claimAt j) 16)).isNone) with
  | some j => if m.claimAt j + 16 ≤ b.length then (putAt b (m.claimAt j) c.bytes, s) else (b, s)
  | none => (b, raiseNoAddr 0xFFFFFFFF s)

/-- Write the aperiodic slots this module owns in this cycle (R260). -/
def putAper (ch tx : Nat) (as : List Nat) (b : List Byte) (s : State) : List Byte × State :=
  match as with
  | [] => (b, s)
  | a :: t =>
    let m := modeNow s
    let r := m.claimSlots + a
    if slotOwner s s.cyc.cycle a = some s.fab.addr ∧ m.reservedAt r + m.rlen ≤ b.length then
      let p := slotPayload ch r s
      let x := slotBytes p.2 m.rlen (tx + 8 * m.reservedAt r) (vch s ch).loop p.1
      putAper ch tx t (putAt b (m.reservedAt r) x) p.2
    else putAper ch tx t b s

/-- Everything this module writes into a frame of channel `ch` and KIND `kind` that leaves at `tx`. -/
def putSlots (ch kind tx : Nat) (b : List Byte) (s : State) : List Byte × State :=
  if !mayWrite s kind then (b, s)
  else
    let k := putKernel ch tx b s
    let c := putClaim ch k.1 k.2
    if s.vyf.pend.isSome then c else putAper ch tx (List.range (modeNow s).aperiodic) c.1 c.2

/-! ## Sending (R207, R227, R231) -/

/-- The ear header this origin writes on channel `ch` (R207). -/
def earHeader (s : State) (ch : Nat) : List Byte :=
  let m := modeNow s
  let nx := match s.vyf.ann with
    | some a => a + 128
    | none => s.vyf.mode
  let b := be 1 1 ++ be 1 (if s.vyf.normal then 1 else 2) ++ be 1 ch ++ be 1 s.vyf.mode ++ be 8 s.cyc.cycle ++
    be 8 s.clk.tb ++ be 4 (sword (vch s ch).loop).toNat ++ be 2 (ownHubId s) ++ be 1 m.kslots ++ be 1 m.rslots ++
    be 4 (lkAt s 5 0x3C).toNat ++ be 4 (originInaug s) ++ be 1 nx ++ zeros 7
  b ++ be 4 (crc32c b)

/-- The frame of channel `ch` goes out of each linked port. -/
def earSendCh (ch : Nat) (s : State) : State :=
  let c := vch s ch
  if !(c.link1 || c.link2) then s
  else
    let m := modeNow s
    let h := earHeader s ch
    let b := be 6 (0x035946520000 + ch) ++ be 6 (0x025946520000 + ownHubId s) ++ be 2 0x88B5 ++ h ++
      zeros (m.kslots * m.klen + m.rslots * m.rlen)
    let r := putSlots ch (beAt h 1 1) s.clk.tb b s
    let s := modCh ch (fun (c : VyfCh) => { c with
      sentPrev := c.sentHdr, sentHdr := h, wrote := some s.clk.tb }) r.2
    let out := r.1 ++ etherFcs r.1
    let s := if c.link1 then emit (.frame (2 * ch) out) s else s
    if c.link2 then emit (.frame (2 * ch + 1) out) s else s

/-- EAR_FRAME_SEND: once a cycle, at T0 + EAR_OFFSET. A switch it announces takes effect here too only once the header has
come back valid (R219). -/
def opEarFrameSend (s : State) : State :=
  if s.vyf.origin ∧ (s.vyf.state = 2 ∨ s.vyf.state = 4) ∧ s.vyf.pend.isNone ∧ s.vyf.sentMark ≠ s.cyc.cycle + 1 ∧
      afterT0 s (modeNow s).earOffset then
    let s := earSendCh 1 (earSendCh 0 s)
    fabSent { s with vyf := { s.vyf with
        sentMark := s.cyc.cycle + 1, next := s.vyf.ann.getD s.vyf.mode, switch := s.vyf.ann.isSome, ann := none } }
  else s

/-! ## Forwarding (R202 to R206) -/

/-- The bytes are an ear frame of channel `ch`. -/
def isEar (ch : Nat) (b : List Byte) : Bool :=
  decide (beAt b 0 6 = 0x035946520000 + ch) && decide (beAt b 12 2 = 0x88B5) && decide (62 ≤ b.length)

/-- A frame leaves with its FCS, inverted where it came in with a bad one (R206). -/
def earOut (port : Nat) (fcsOk : Bool) (b : List Byte) (s : State) : State :=
  emit (.frame port (b ++ if fcsOk then etherFcs b else (etherFcs b).map (fun x => ~~~x))) s

/-- A frame that passes this module's write point on channel `ch`, coming in at port `p` and leaving at `q`. -/
def earWrite (ch p q : Nat) (fcsOk : Bool) (b : List Byte) (s : State) : State :=
  let tx := s.clk.tb + 800
  let s := modCh ch (fun (c : VyfCh) => { c with
      up := some p, wrote := some tx, fwd := some (beAt b 38 2, beAt b 18 8) }) s
  let r := putSlots ch (beAt b 15 1) tx b s
  earOut (2 * ch + q) fcsOk r.1 r.2

/-- EAR_FRAME_FORWARD (R205): a middle module passes the frame on, a far end turns it back, an origin drops it. -/
def opEarFrameForward (port : Nat) (b : List Byte) (fcsOk : Bool) (s : State) : State :=
  let ch := port / 2
  let p := port % 2
  let c := vch s ch
  if !s.mod.mode.released ∨ c.relay ∨ !c.link p then s
  else if !isEar ch b then modCh ch (fun (c : VyfCh) => { c with foreign := satInc 255 c.foreign }) s
  else
    let s := if fcsOk then s else modCh ch (fun (c : VyfCh) => { c with fcs := satInc 4095 c.fcs }) s
    if s.vyf.origin then s
    else if c.both then
      if c.fwd = some (beAt b 38 2, beAt b 18 8) ∧ c.up ≠ some p then earOut (2 * ch + (1 - p)) fcsOk b s
      else earWrite ch p (1 - p) fcsOk b s
    else earWrite ch p p fcsOk b s

/-! ## Reading: the header (R211) -/

/-- A header as read. -/
structure EarHdr where
  bytes : List Byte
  kind : Nat
  mode : Nat
  cycle : Nat
  time : Nat
  loop : Int
  id : Nat
  sched : Nat
  inaug : Nat
  next : Nat
  switch : Bool
  deriving DecidableEq, Repr

/-- The ear header of a frame. -/
def earHdr (b : List Byte) : EarHdr :=
  let h := slice b 14 48
  { bytes := h, kind := beAt h 1 1, mode := beAt h 3 1 % 4, cycle := beAt h 4 8, time := beAt h 0x0C 8,
    loop := signed32 (beAt h 0x14 4), id := beAt h 0x18 2, sched := beAt h 0x1C 4, inaug := beAt h 0x20 4,
    next := beAt h 0x24 1 % 4, switch := decide (128 ≤ beAt h 0x24 1) }

/-- HDR_CRC and VERSION match. -/
def EarHdr.sound (h : EarHdr) : Bool :=
  decide (beAt h.bytes 0x2C 4 = crc32c (h.bytes.take 0x2C)) && decide (beAt h.bytes 0 1 = 1)

/-- A SYNCED module's further conditions: cycle, mode, and arrival within 2 us (R211). -/
def hdrExpected (s : State) (ch rx : Nat) (h : EarHdr) : Bool :=
  let n := netNow s
  let at' : Int := (n.2.1 : Int) + (modeAt s n.2.2).earOffset + Int.tdiv (h.loop + (vch s ch).loop) 2
  decide (h.cycle = n.1) && decide (h.mode = n.2.2) && decide (-2000 ≤ (rx : Int) - at' ∧ (rx : Int) - at' ≤ 2000)

/-- The header is one this origin sent on the channel: its CYCLE and ORIGIN_TIME are those of a header sent (R231). -/
def ownHeader (s : State) (ch : Nat) (h : EarHdr) : Bool :=
  let same := fun (b : List Byte) => !b.isEmpty && decide (slice b 4 16 = slice h.bytes 4 16)
  same (vch s ch).sentHdr || same (vch s ch).sentPrev

/-- ROUND (R216, R234): every occurrence counts; one record per mode and start. -/
def roundCheck (port : Nat) (loop : Int) (s : State) : State :=
  let m := s.vyf.mode
  if loop ≤ (modeNow s).maxRound then s
  else
    let s := errVyf 3 (vyfInfo 3 255 port) s
    if s.vyf.roundModes.contains m then countOnly 0x2513 s
    else event 0x2513 m (sword loop) (w32 (modeNow s).maxRound) { s with vyf := { s.vyf with
        roundModes := s.vyf.roundModes ++ [m] } }

/-- LOOP is measured at the read point (R212). -/
def measureLoop (port rx : Nat) (s : State) : State :=
  let ch := port / 2
  let c := vch s ch
  if chRole s ch = 3 then modCh ch (fun (c : VyfCh) => { c with loop := -800, measured := true }) s
  else
    match c.wrote with
    | none => s
    | some t =>
      let d : Int := (rx : Int) - t
      let s := modCh ch (fun (c : VyfCh) => { c with loop := d, measured := true }) s
      if s.vyf.origin then roundCheck port d s else s

/-! ## Copies of kernels (10 R245, R246) -/

/-- The map gives address `addr` the hub ID `hub`, or no map is in force (11 R258). -/
def mapOk (s : State) (addr hub : Nat) : Bool :=
  s.fab.map.isEmpty || (match s.fab.map[addr]? with
    | some e => decide (e.hubId = hub)
    | none => false)

/-- MAPMISS (11 R258), at most once a cycle. -/
def mapCheck (addr hub : Nat) (s : State) : State :=
  if mapOk s addr hub ∨ s.vyf.mapMissNow then s
  else
    eventRate 0x2533 0 addr 0 (errFab 3 (fabInfo 3 addr 0) { s with vyf := { s.vyf with mapMissNow := true } })

/-- Two valid copies differ in bytes 0x00 to 0x0B or in their payload (R246). -/
def copiesDiffer (a b : List Byte) : Bool :=
  decide (a.take 12 ≠ b.take 12) || decide (slice a 0x1C (a.length - 32) ≠ slice b 0x1C (b.length - 32))

/-- The Glume messages of a kernel (R209, 13 R291). -/
def kernelMessages (b : List Byte) : List (List Byte) :=
  let p := slice b 0x1C (Nat.min (beAt b 0x16 2) (b.length - 32))
  messageRun p.length p

/-- The copy taken is handed to the Glume offload, where the map has the writer's hub ID at its address (R245, 11 R258). -/
def kernelOffer (k : Nat) (b : List Byte) (s : State) : State :=
  let hub := beAt b 0x14 2
  let s := mapCheck k hub s
  if mapOk s k hub then glumeOffer 1 k (kernelMessages b) s else s

/-- Of two copies valid within the same 8 ns the one on channel A is taken (R245): the copy on `ch` with its last byte at
`rx` takes the place of the one on `ch'` at `rx'`. -/
def takesOver (ch rx ch' rx' : Nat) : Bool := decide (ch = 0 ∧ ch' = 1 ∧ rx / 8 = rx' / 8)

/-- A valid copy of kernel `k` on channel `ch`, its ADDR byte stamped `rx` (R245, R246). -/
def takeKernel (k ch rx : Nat) (b : List Byte) (s : State) : State :=
  let s := pairKernel (beAt b 0x14 2) (beAt b 1 1 / 16 % 4) (beAt b 4 4) s
  let x : KCopy := { addr := k, ch := ch, rx := rx, bytes := b }
  match s.vyf.taken.find? (fun y => decide (y.addr = k)) with
  | none => kernelOffer k b { s with vyf := { s.vyf with taken := s.vyf.taken ++ [x] } }
  | some y =>
    if y.ch = ch then s
    else
      let s := { s with vyf := { s.vyf with
          second := s.vyf.second ++ [k],
          diff := if copiesDiffer y.bytes b then satInc 0xFFFFFFFF s.vyf.diff else s.vyf.diff } }
      let last := 8 * (b.length - 1)
      if takesOver ch (rx + last) y.ch (y.rx + last) then
        let s := if mapOk s k (beAt y.bytes 0x14 2) then glumeWithdraw 1 k (kernelMessages y.bytes) s else s
        kernelOffer k b { s with vyf := { s.vyf with
            taken := s.vyf.taken.map (fun z => if z.addr = k then x else z) } }
      else s

/-- The last byte of a slot, read at `at'`, comes before the next boundary. -/
def beforeNext (s : State) (at' : Nat) : Bool :=
  match s.cyc.nextT0 with
  | some t => decide (at' < t)
  | none => true

/-- A slot fails its KCRC (R211, R234). -/
def kcrcFail (port addr : Nat) (s : State) : State :=
  eventRate 0x2514 0 addr (w32 (port / 2)) (errVyf 4 (vyfInfo 4 addr port)
    (modCh (port / 2) (fun (c : VyfCh) => { c with kcrc := satInc 4095 c.kcrc }) s))

/-- Slot `x` of a frame with header `h` holds a valid copy written by address `addr`, its last byte at `last` (R211). -/
def slotValid (s : State) (h : EarHdr) (addr last : Nat) (x : List Byte) : Bool :=
  decide (beAt x 0 1 = addr) && decide (beAt x 8 4 = h.cycle % 2 ^ 32) && beforeNext s last

/-- KCRC of a slot matches. -/
def kcrcOk (x : List Byte) : Bool := decide (beAt x (x.length - 4) 4 = crc32c (x.take (x.length - 4)))

/-- A kernel slot is judged (R211). -/
def readKernel (port rx : Nat) (h : EarHdr) (b : List Byte) (k : Nat) (s : State) : State :=
  let m := modeAt s h.mode
  let x := slice b (m.kernelAt k) m.klen
  if allZero x then s
  else if !kcrcOk x then kcrcFail port k s
  else if slotValid s h k (rx + 8 * (m.kernelAt k + m.klen)) x then takeKernel k (port / 2) (rx + 8 * m.kernelAt k) x s
  else s

/-- The claim positions of a frame, taken under the rules for kernels (11 R252). -/
def readClaims (port rx : Nat) (h : EarHdr) (b : List Byte) (s : State) : State :=
  let m := modeAt s h.mode
  let ch := port / 2
  forAll (List.range m.claims) (fun j s =>
    let last := rx + 8 * (m.claimAt j + 15)
    match claimOf (slice b (m.claimAt j) 16) with
    | none => s
    | some c =>
      let put := { s with fab := { s.fab with claims := FMap.store s.fab.claims none j (some ⟨ch, last, c⟩) } }
      if !beforeNext s (last + 8) then s
      else match FMap.look s.fab.claims none j with
        | none => put
        | some y => if takesOver ch last y.ch y.rx then put else s) s

/-- The messages of an aperiodic slot's payload (11 R261). -/
def aperRun (fuel : Nat) (p : List Byte) : List (List Byte) :=
  match fuel with
  | 0 => []
  | f + 1 =>
    let n := 16 + beAt p 6 2
    if p.length < 16 ∨ p.length < n then [] else p.take n :: aperRun f (p.drop ((n + 3) / 4 * 4))

/-- Those that name this module, from the writer of the slot (11 R261). -/
def aperFor (s : State) (src : Nat) (x : List Byte) : List (List Byte) :=
  let p := slice x 0x1C (Nat.min (beAt x 0x16 2) (x.length - 32))
  (aperRun p.length p).filter (fun m => decide (s.fab.addr ≠ 255 ∧ beAt m 0 1 = s.fab.addr ∧ beAt m 1 1 = src))

/-- An aperiodic slot is judged and its messages for this module kept (11 R260). -/
def readAper (port rx : Nat) (h : EarHdr) (b : List Byte) (a : Nat) (s : State) : State :=
  let m := modeAt s h.mode
  let r := m.claimSlots + a
  let x := slice b (m.reservedAt r) m.rlen
  let last := rx + 8 * (m.reservedAt r + m.rlen)
  match slotOwner s h.cycle a with
  | none => s
  | some w =>
    if allZero x then s
    else if !kcrcOk x then kcrcFail port w s
    else if !slotValid s h w last x then s
    else
      let s := mapCheck w (beAt x 0x14 2) s
      if !mapOk s w (beAt x 0x14 2) then s
      else
        let e : AperCopy := ⟨a, port / 2, last, aperFor s w x⟩
        match s.fab.aper.find? (fun y => decide (y.slot = a)) with
        | none => { s with fab := { s.fab with aper := s.fab.aper ++ [e], inbox := s.fab.inbox ++ e.msgs } }
        | some y =>
          if takesOver e.ch last y.ch y.rx then
            { s with fab := { s.fab with
                aper := s.fab.aper.map (fun z => if z.slot = a then e else z),
                inbox := y.msgs.foldl (fun l q => l.erase q) s.fab.inbox ++ e.msgs } }
          else s

/-- Every slot of a frame with a valid header is read: kernels, claims, aperiodic slots. -/
def readSlots (port rx : Nat) (h : EarHdr) (b : List Byte) (s : State) : State :=
  let m := modeAt s h.mode
  let s := forAll (List.range m.kslots) (fun k s => readKernel port rx h b k s) s
  forAll (List.range m.aperiodic) (fun a s => readAper port rx h b a s) (readClaims port rx h b s)

/-! ## Reading: what the module does with a header -/

/-- A valid header is noted: the channel carries it, and the fabric judges it (R211, 11 R257). -/
def noteHeader (port : Nat) (h : EarHdr) (s : State) : State :=
  let ch := port / 2
  let s := modCh ch (fun (c : VyfCh) => { c with hdrNow := true }) { s with vyf := { s.vyf with
      originId := h.id, hdrCycle := h.cycle, hdrAt := s.clk.now, inaug := h.inaug } }
  fabHeader h.inaug h.id (decide (chRole s ch = 3)) s

/-- Integration starts with header `h` (R229): it is judged against the map, and its slots are read. -/
def startIntegrate (port rx : Nat) (h : EarHdr) (b : List Byte) (s : State) : State :=
  readSlots port rx h b (noteHeader port h (integrate h.id h.cycle s))

/-- A valid header is taken: the origin followed, NEXT and SWITCH, LOOP, and the fabric's view of it. -/
def takeHeader (port rx : Nat) (h : EarHdr) (s : State) : State :=
  let new := decide (h.cycle ≠ s.vyf.hdrCycle)
  let s := if new ∧ s.vyf.state = 3 then
      kernelsClose { s with fab := { s.fab with claims := [], aper := [], built := false } }
    else s
  let s := { s with vyf := { s.vyf with
      next := h.next, switch := h.switch, switchIn := s.vyf.switchIn || h.switch,
      reqResult := if h.switch ∧ s.vyf.reqOn ∧ h.next = s.vyf.reqMode then 2 else s.vyf.reqResult } }
  measureLoop port rx (noteHeader port h s)

/-- Step 2 of R229: the time base, CYCLE and MODE are taken from the header. -/
def setTime (port rx : Nat) (h : EarHdr) (s : State) : State :=
  let d : Int := (h.time : Int) + Int.tdiv (h.loop + (vch s (port / 2)).loop) 2 - rx
  let s := timeStep d s
  let s := { s with vyf := { s.vyf with
      pend := some (h.cycle, h.time - (modeAt s h.mode).earOffset, h.mode),
      mode := if s.cyc.begun then s.vyf.mode else h.mode, step := 2 } }
  event 0x2520 0 (w32 h.id) (cycleWord s) s

/-- A header read while INTEGRATING (R229): the steps advance with its cycles, on the lowest ORIGIN_ID. -/
def headerIntegrating (port rx : Nat) (h : EarHdr) (b : List Byte) (s : State) : State :=
  if h.id < s.vyf.originId then startIntegrate port rx h b s
  else if s.vyf.originId < h.id then s
  else
    let new := decide (h.cycle ≠ s.vyf.hdrCycle)
    let s := takeHeader port rx h s
    let s := if !new then s
      else
        match s.vyf.step with
        | 0 => { s with vyf := { s.vyf with step := 1 } }
        | 1 => if (vch s (port / 2)).measured then setTime port rx h s else s
        | _ => { s with vyf := { s.vyf with step := 3 } }
    readSlots port rx h b s

/-- A header read in COLDSTART (R227, R228). -/
def headerCold (port rx : Nat) (h : EarHdr) (b : List Byte) (s : State) : State :=
  let own := ownHubId s
  if h.id < own then startIntegrate port rx h b s
  else if own < h.id then s
  else if ownHeader s (port / 2) h then
    let s := takeHeader port rx h s
    { s with vyf := { s.vyf with ownBack := true } }
  else vyfTie h.id s

/-- A header read by a SYNCED module (R211, R219, R231). -/
def headerSynced (port rx : Nat) (h : EarHdr) (b : List Byte) (s : State) : State :=
  let ok := hdrExpected s (port / 2) rx h
  let take := fun (s : State) => readSlots port rx h b (takeHeader port rx h s)
  let start := leaveSynced (startIntegrate port rx h b)
  if s.vyf.origin then
    if h.id = ownHubId s then (if ownHeader s (port / 2) h then (if ok then take s else s) else vyfTie h.id s)
    else if h.id < ownHubId s then (if ok then take (loseOrigin s) else start (loseOrigin s))
    else s
  else if ok then
    if (s.vyf.chA.hdrNow ∨ s.vyf.chB.hdrNow) ∧ s.vyf.originId < h.id then s else take s
  else
    let n := netNow s
    if h.id < s.vyf.originId ∨ (h.id = s.vyf.originId ∧ (h.cycle ≠ n.1 ∨ h.mode ≠ n.2.2)) then start s else s

/-- SCHED, once per listen time (R229). -/
def schedMismatch (sched : Nat) (s : State) : State :=
  if s.vyf.state = 1 ∧ !s.vyf.schedRaised then
    raiseVyf 2 0x3512 0 0 (w32 sched) (lkAt s 5 0x3C) { s with vyf := { s.vyf with schedRaised := true } }
  else s

/-- A frame's header is judged; nothing of a channel declared failed is valid (01 R33). -/
def readHeader (port rx : Nat) (b : List Byte) (s : State) : State :=
  let h := earHdr b
  if !h.sound ∨ (vch s (port / 2)).failed then s
  else if h.sched ≠ (lkAt s 5 0x3C).toNat then schedMismatch h.sched s
  else
    match s.vyf.state with
    | 1 => startIntegrate port rx h b s
    | 2 => headerCold port rx h b s
    | 3 => headerIntegrating port rx h b s
    | 4 => headerSynced port rx h b s
    | _ => s

/-! ## Clock synchronisation (R221) -/

/-- Offset against the writer of a copy, where the copy may be used. -/
def clockDelta (s : State) (c : KCopy) : Option Int :=
  let loop := signed32 (beAt c.bytes 0x10 4)
  if c.addr = s.fab.addr then none
  else if loop = 0 ∧ !(s.vyf.valid.testBit c.addr) then none
  else
    let expected : Int := beAt c.bytes 0x0C 4 + Int.tdiv (loop + (vch s c.ch).loop) 2
    some (BitVec.ofInt 32 ((c.rx : Int) - expected)).toInt

/-- The fault-tolerant midpoint: the correction C and the number of values. -/
def clockCorr (s : State) : Int × Nat :=
  let v := (0 :: s.vyf.taken.filterMap (clockDelta s)).foldr insertInt []
  let n := v.length
  let k := if 7 ≤ n then 2 else if 4 ≤ n then 1 else 0
  (-(Int.tdiv (nth v k 0 + nth v (n - 1 - k) 0) 2), n)

/-- A rate held within 200 ppm, in units of 0.001 ppm. -/
def clampRate (r : Int) : Int := if 200000 < r then 200000 else if r < -200000 then -200000 else r

/-- R221 is run; the result tells whether the correction is within 1 us. -/
def clockSync (s : State) : Bool × State :=
  let c := clockCorr s
  let s := { s with vyf := { s.vyf with used := c.2, corr := c.1 } }
  if c.1 < -1000 ∨ 1000 < c.1 then (false, s)
  else
    let p : Int := modePeriod s (netNow s).2.2
    (true, { s with
      vyf := { s.vyf with rate := clampRate (s.vyf.rate + Int.tdiv (c.1 * 1000000000) (4 * p)) },
      clk := { s.clk with slew := c.1 } })

/-- CLOCK: the correction is beyond 1 us; SYNCED is left (R221). -/
def clockOut (s : State) : State :=
  leaveSynced (fun s => integrate s.vyf.originId s.vyf.hdrCycle s)
    (raiseVyf 1 0x3511 0 0 (sword s.vyf.corr) (cycleWord s) s)

/-! ## Schedule modes (R218 to R220) -/

/-- MODE_REQ of a copy: mode, REQUEST, AGREE. -/
def KCopy.mode (k : KCopy) : Nat := beAt k.bytes 2 1 % 4
/-- REQUEST. -/
def KCopy.request (k : KCopy) : Bool := (nth k.bytes 2 0).getLsbD 2
/-- AGREE. -/
def KCopy.agree (k : KCopy) : Bool := (nth k.bytes 2 0).getLsbD 3

/-- The lead request: the valid kernel with REQUEST 1 and the lowest address. -/
def leadOf (l : List KCopy) : Option (Nat × Nat) :=
  l.foldl (fun a k =>
    if !k.request then a
    else
      match a with
      | none => some (k.addr, k.mode)
      | some b => if k.addr < b.1 then some (k.addr, k.mode) else a) none

/-- A mode request is refused with a result (R218, R220). -/
def modeRefused (res : Nat) (s : State) : State :=
  raiseVyf 6 0x2516 s.vyf.reqMode 0 (w32 res) 0
    { s with vyf := { s.vyf with reqResult := res, reqSince := none, reqOn := false, reqCycles := 0 } }

/-- The requester withdraws its request (R220). -/
def requestJudged (s : State) : State :=
  if !s.vyf.reqOn ∨ s.vyf.reqResult ≠ 1 then s
  else if (match s.vyf.lead with | some (a, _) => decide (a < s.fab.addr) | none => false) then modeRefused 5 s
  else if s.vyf.taken.any (fun k => decide (k.addr ≠ s.fab.addr ∧ k.mode = s.vyf.reqMode) && !k.agree) then
    modeRefused 4 s
  else s

/-- The origin announces a switch (R219), once: not while its header carries one. -/
def announce (s : State) : State :=
  match s.vyf.lead with
  | some (_, m) =>
    if s.vyf.origin ∧ !s.vyf.switch ∧ s.vyf.taken.all (fun k => decide (k.mode = m) && k.agree) ∧ takenMap s = s.vyf.valid then
      { s with vyf := { s.vyf with ann := some m } }
    else s
  | none => s

/-- The end of the return pass (R219 to R221, 11 R252, R255, R257). -/
def endOfPass (s : State) : State :=
  if !(s.vyf.chA.hdrNow || s.vyf.chB.hdrNow) ∨ s.fab.built then s
  else if s.vyf.state = 4 then
    let c := clockSync s
    if !c.1 then clockOut c.2
    else
      let s := { c.2 with vyf := { c.2.vyf with lead := leadOf c.2.vyf.taken } }
      fabCommit (fabAdopt (buildList (announce (requestJudged s))))
  else if s.vyf.state = 3 ∧ s.vyf.step = 3 then
    let c := clockSync s
    let s := buildList c.2
    if c.1 then
      nextBoundary (fabAdopt { s with vyf := { s.vyf with state := 4, step := 4, missed := 0, lead := none } })
    else { s with vyf := { s.vyf with step := 0 } }
  else s

/-- EAR_FRAME_RECEIVE (R211): the frame's header and slots are judged; `endPass` marks the end of the return pass. -/
def opEarFrameReceive (port rx : Nat) (endPass : Bool) (b : List Byte) (s : State) : State :=
  if !vyfRuns s ∨ !(vch s (port / 2)).link (port % 2) then s
  else
    let s := if isEar (port / 2) b then readHeader port rx b s else s
    if endPass then endOfPass s else s

/-! ## Commands of firmware, links and timers -/

/-- VYF_MODE_REQ (R218): a later store replaces an earlier request (log 43). -/
def opVyfModeReq (init : Nat) (v : Word) (s : State) : State :=
  let m := fieldOf v 1 0
  if !(bitOf v 31 && (init = secId || isVoter s init)) then s
  else
    let s := { s with vyf := { s.vyf with reqMode := m, reqOn := false, reqCycles := 0 } }
    if s.vyf.state ≠ 4 ∨ s.img.modes.length ≤ m ∨ !modePermitted s m ∨ m = s.vyf.mode then modeRefused 7 s
    else { s with vyf := { s.vyf with reqResult := 1, reqSince := some s.clk.now } }

/-- MODE_REQUEST_TIMEOUT (R220): 16 cycles without a SWITCH. -/
def opModeRequestTimeout (s : State) : State :=
  if s.vyf.reqOn ∧ s.vyf.reqResult = 1 ∧ 16 ≤ s.vyf.reqCycles then modeRefused 6 s else s

/-- BACKBONE_LINK_CHANGE (R204, R226, R234). -/
def opBackboneLinkChange (port : Nat) (up : Bool) (s : State) : State :=
  let ch := port / 2
  let was := (vch s ch).link (port % 2)
  if !s.mod.mode.released ∨ (vch s ch).relay ∨ was = up then s
  else
    let s := modCh ch (fun (c : VyfCh) =>
      if port % 2 = 0 then { c with link1 := up } else { c with link2 := up }) s
    let s := { s with fab := { s.fab with changed := true } }
    if !up then raiseVyf 5 0x2515 port port 0 0 s
    else if s.vyf.state = 1 then { s with vyf := { s.vyf with listenSince := some s.clk.now } }
    else s

/-- The always-on clock as a train time (R217). -/
def rtcTime (s : State) : Nat := s.aon.rtc * 1000000000 + s.aon.rtcSub * 1000000000 / 32768

/-- A cold start (R227): time from the real-time clock, T0 of cycle 0 the first whole us at least 1 ms ahead. -/
def coldStart (s : State) : State :=
  let t := rtcTime s
  let t0 := (t + 1000000 + 999) / 1000 * 1000
  let m := initialMode s
  let s := timeStep ((t : Int) - s.clk.tb) (loseOrigin s)
  let s := { s with vyf := { s.vyf with
      state := 2, origin := true, normal := false, originId := ownHubId s, coldBack := 0, coldCycles := 0,
      ownBack := false, listenSince := none, pend := some (0, t0, m), mode := if s.cyc.begun then s.vyf.mode else m } }
  nextBoundary s

/-- LISTEN_TIMEOUT (R226): a module that may cold-start does; any other listens again. -/
def opListenTimeout (s : State) : State :=
  if s.vyf.state = 1 ∧ due s.vyf.listenSince (2 * periodMax s + 900000 + s.vyf.listenExtra) s.clk.now then
    if coldEnable s ∧ !(s.vyf.chA.both ∧ s.vyf.chB.both) ∧ s.mod.mode ≠ .shutdown then coldStart s else listen 0 s
  else s

/-- The module is an end whose up port on some channel has lost link, or a far end that saw YIELD (R231, 11 R259). -/
def lostUp (s : State) : Bool :=
  let lost := fun (c : VyfCh) =>
    match c.up with
    | some p => !c.link p
    | none => false
  lost s.vyf.chA || lost s.vyf.chB || (s.fab.sawYield && (s.vyf.chA.single || s.vyf.chB.single))

/-- ORIGIN_TAKEOVER (R231): after a cycle with no valid header on either channel; the first frame goes out at T0 + EAR_OFFSET
of the cycle that follows, or of the next one where that instant has passed. -/
def opOriginTakeover (s : State) : State :=
  if s.vyf.state = 4 ∧ !s.vyf.origin ∧ coldEnable s ∧ lostUp s ∧ 1 ≤ s.vyf.missed ∧ s.mod.mode ≠ .shutdown then
    event 0x2522 0 (w32 (ownHubId s)) (cycleWord s) { s with
      vyf := { s.vyf with
        origin := true, normal := true, ann := none, originId := ownHubId s, missed := 0,
        sentMark := if afterT0 s (modeNow s).earOffset then s.cyc.cycle + 1 else s.vyf.sentMark },
      fab := { s.fab with sawYield := false, ownMap := false } }
  else s

/-- SYNC_LOST: rung 5 (01 R41, R232). A module that integrates with no header for two of the longest cycles has lost the
network too (log 44). -/
def opSyncLost (s : State) : State :=
  if (s.vyf.state = 4 ∧ 2 ≤ s.vyf.missed) ∨ (s.vyf.state = 3 ∧ s.vyf.hdrAt + 2 * periodMax s ≤ s.clk.now) then
    leaveSynced (listen 0) (raiseVyf 0 0x3510 0 0 (cycleWord s) 0 s)
  else s

/-! ## The boundary -/

/-- The starter's count of returned frames; COLDSTART_DONE after three, or with no link at the end of cycle 2 (R227). -/
def coldBoundary (s : State) : State :=
  if s.vyf.state ≠ 2 ∨ s.vyf.pend.isSome ∨ !s.cyc.begun then s
  else
    let v := s.vyf
    let s := { s with vyf := { v with
        coldBack := if v.ownBack then v.coldBack + 1 else 0, coldCycles := v.coldCycles + 1, ownBack := false } }
    let alone := decide (chRole s 0 = 0 ∧ chRole s 1 = 0)
    if 3 ≤ s.vyf.coldBack ∨ (alone ∧ 3 ≤ s.vyf.coldCycles) then
      event 0x2521 0 (w32 (ownHubId s)) (cycleWord s) { s with vyf := { s.vyf with state := 4, normal := true, missed := 0 } }
    else s

/-- The switch announced takes effect (R219, 10 R240); a module that does not yet follow the network's boundaries lets it
pass, and integrates again as R219 says. -/
def modeSwitch (s : State) : State :=
  let on := s.vyf.switchIn
  let s := { s with vyf := { s.vyf with switch := false, switchIn := false } }
  if s.vyf.pend.isNone ∧ s.vyf.state = 4 ∧ on then
    let old := s.vyf.mode
    let m := s.vyf.next
    hubGrace false (event 0x2523 0 (w32 old) (w32 m) { s with vyf := { s.vyf with
        mode := m, ann := none, lead := none, reqOn := false, reqSince := none, reqCycles := 0,
        reqResult := if s.vyf.reqResult = 1 ∨ s.vyf.reqResult = 2 then (if s.vyf.reqMode = m then 3 else s.vyf.reqResult)
          else s.vyf.reqResult } })
  else s

/-- Cycles with no valid header (01 R41); an origin with no link has none to miss (log 45). -/
def missedCount (s : State) : State :=
  let alone := s.vyf.origin && decide (chRole s 0 = 0 ∧ chRole s 1 = 0)
  let seen := s.vyf.chA.hdrNow || s.vyf.chB.hdrNow
  if s.vyf.state = 4 ∧ s.cyc.begun then
    { s with vyf := { s.vyf with missed := if seen ∨ alone then 0 else satInc 255 s.vyf.missed } }
  else s

/-- In SHUTDOWN (R233): after two consecutive LEAVING kernels, or two cycles of a module that writes none, the module stops
writing and gives up the origin role; a starter goes back to LISTEN. -/
def leaveNetwork (s : State) : State :=
  let v := s.vyf
  let writes := decide (v.state = 4 ∧ s.fab.addr < (modeNow s).kslots)
  let left := if 2 ≤ v.leaving then v.leaving else if v.leavingNow || !writes then v.leaving + 1 else 0
  let s := { s with vyf := { v with leaving := left, leavingNow := false } }
  if left < 2 then s
  else
    let s := if v.origin then loseOrigin s else s
    if v.state = 2 then listen 0 s else s

/-- Vyfabin at the end of a cycle, before the number and the mode of the new one are taken. A module that integrates closes
its copies with the network's cycles. -/
def vyfEnd (s : State) : State :=
  let s := if s.vyf.state = 3 then s else kernelsClose s
  let s := coldBoundary (missedCount s)
  let s := modChs (fun (c : VyfCh) => { c with ok := c.hdrNow, hdrNow := false }) s
  let s := { s with vyf := { s.vyf with reqCycles := if s.vyf.reqOn then s.vyf.reqCycles + 1 else s.vyf.reqCycles } }
  if s.mod.mode = .shutdown then leaveNetwork s else s

/-- Hand-over (R203, R217, R226): with BACKBONE the module listens; without, it keeps its schedule alone and its relays
close. -/
def vyfStart (s : State) : State :=
  if s.img.backbone then listen 0 { s with vyf := { s.vyf with mode := initialMode s, next := initialMode s } }
  else
    let t := rtcTime s
    let vyf := !s.img.modes.isEmpty
    let m := if vyf then initialMode s else 0
    let p := if vyf then modePeriod s m else fieldOf (lkAt s 2 0x20) 15 0 * 1000
    let s := modChs (fun (c : VyfCh) => { c with relay := true, link1 := false, link2 := false }) s
    { s with
      clk := { s.clk with tb := t, tbSet := true },
      vyf := { s.vyf with state := 5, mode := m, next := m },
      cyc := { s.cyc with nextT0 := some ((t / p + 1) * p), nextNum := 0 } }

/-! ## Registers -/

/-- Reads of the VYF window but for the quartets, the fabric and the LK registers. -/
def vyfRead (s : State) (o : Nat) : Word :=
  let v := s.vyf
  let cnt := fun (c : VyfCh) => place c.foreign 31 24 ||| place c.fcs 23 12 ||| place c.kcrc 11 0
  match o with
  | 0x00 =>
    placeB v.chB.ok 21 ||| placeB v.chA.ok 20 ||| placeB v.chB.link2 19 ||| placeB v.chB.link1 18 |||
      placeB v.chA.link2 17 ||| placeB v.chA.link1 16 ||| placeB v.switch 12 ||| place v.next 11 10 |||
      place v.mode 9 8 ||| place (chRole s 1) 7 6 ||| place (chRole s 0) 5 4 ||| place v.state 2 0
  | 0x20 => w32 s.clk.tb
  | 0x24 => w32 (s.clk.tb / 2 ^ 32)
  | 0x28 => place v.used 23 16 ||| (sword v.corr &&& 0xFFFF)
  | 0x2C => sword v.rate &&& 0xFFFFFF
  | 0x30 => sword v.chA.loop
  | 0x34 => sword v.chB.loop
  | 0x38 => place v.originId 31 16 ||| place (ownHubId s) 15 0
  | 0x48 => place v.reqMode 5 4 ||| place v.reqResult 2 0
  | 0x50 => w32 v.valid
  | 0x54 => w32 (v.valid / 2 ^ 32)
  | 0x58 => cnt v.chA
  | 0x5C => cnt v.chB
  | 0x60 => w32 v.selA
  | 0x64 => w32 v.selB
  | 0x68 => place v.bOnly 31 16 ||| place v.aOnly 15 0
  | 0x6C => w32 v.diff
  | _ => 0

/-! ## Meanings -/

/-- EAR_FRAME_SEND. -/
def execEarFrameSend (s : State) : Host.Outcome State Fault Refusal := wfRun .earFrameSend (engRun [0, 1] opEarFrameSend) s
/-- EAR_FRAME_FORWARD. -/
def execEarFrameForward (p : Nat) (b : List Byte) (f : Bool) (s : State) : Host.Outcome State Fault Refusal :=
  wfRun (.earFrameForward p b f) (engRun [p / 2] (opEarFrameForward p b f)) s
/-- EAR_FRAME_RECEIVE. -/
def execEarFrameReceive (p rx : Nat) (e : Bool) (b : List Byte) (s : State) : Host.Outcome State Fault Refusal :=
  wfRun (.earFrameReceive p rx e b) (engRun [p / 2] (opEarFrameReceive p rx e b)) s
/-- VYF_MODE_REQ. -/
def execVyfModeReq (init : Nat) (v : Word) (s : State) : Host.Outcome State Fault Refusal :=
  wfRun (.vyfModeReq init v) (opVyfModeReq init v) s
/-- MODE_REQUEST_TIMEOUT. -/
def execModeRequestTimeout (s : State) : Host.Outcome State Fault Refusal :=
  wfRun .modeRequestTimeout opModeRequestTimeout s
/-- BACKBONE_LINK_CHANGE. -/
def execBackboneLinkChange (p : Nat) (u : Bool) (s : State) : Host.Outcome State Fault Refusal :=
  wfRun (.backboneLinkChange p u) (opBackboneLinkChange p u) s
/-- LISTEN_TIMEOUT. -/
def execListenTimeout (s : State) : Host.Outcome State Fault Refusal := wfRun .listenTimeout opListenTimeout s
/-- ORIGIN_TAKEOVER. -/
def execOriginTakeover (s : State) : Host.Outcome State Fault Refusal := wfRun .originTakeover opOriginTakeover s
/-- SYNC_LOST. -/
def execSyncLost (s : State) : Host.Outcome State Fault Refusal := wfRun .syncLost opSyncLost s

end Sys2Proof.Machine
end

