-- ==== Sys2Proof/Machine/Cycle.lean ====
section
/-! DEFINITION. The control cycle (05): the boundary with mode changes, freeze and merge; the release; publish with the
messages handed to Glume and committed to their transports (13 R290, R291); forcing, online change, exchange; and the CYC
registers. -/

namespace Sys2Proof.Machine

/-! ## Errors and small things -/

/-- A cycle error with one record per occurrence (R154). -/
def raiseCyc (bit code stn detail : Nat) (d0 d1 : Word) (s : State) : State :=
  event code detail d0 d1 (errCyc bit (cycInfo bit stn) s)

/-- A source of R145: the voter of a TRIAD-mode triad or the security engine. -/
def reqSource (s : State) (init : Nat) : Bool := decide (init = secId) || isVoter s init

/-- The input (0) or output (1) bank of the cycle that runs (R136). -/
def bankAddr (s : State) (out : Nat) : Nat :=
  fieldOf (lkAt s 2 (0x30 + 4 * out)) 23 0 * 4096 + 0x20000 * (s.cyc.cycle % 2)

/-- A DMA write of the cycle controller. -/
def cycWrite (addr : Nat) (b : List Byte) (s : State) : State := (dmaWrite cycId addr b s).2

/-- Byte `o` of the I area as the next scan will read it: staged, else as the lanes hold it. -/
def inByte (s : State) (o : Nat) : Byte :=
  match FMap.look s.awn.staged none o with
  | some b => b
  | none => FMap.look (lanesData s).i 0 o

/-- I bit `i` as merged, before input forces (R147). -/
def inBit (s : State) (i : Nat) : Bool := (FMap.look s.awn.plainI 0 (i / 8)).getLsbD (i % 8)

/-- A bit put into a byte. -/
def putBit (b : Byte) (i : Nat) (v : Bool) : Byte :=
  let m : Byte := BitVec.ofNat 8 (2 ^ i)
  if v then b ||| m else b &&& ~~~m

/-- The module's cycle controller is in RUN or HOLD and SAFE does not override it. -/
def forcesAct (s : State) : Bool :=
  match s.mod.mode with
  | .run | .hold | .brace => true
  | _ => false

/-- CYC_CFG fields. -/
def cycCfg (s : State) (i : Nat) : Bool := bitOf (lkAt s 2 0x20) i

/-! ## Mode requests (R145 to R147, R409) -/

/-- A request for mode `m` (1 RUN, 2 STOP, 3 HOLD) is accepted; a STANDBY and SAFE take none (12 R274), and RUN and HOLD are
refused once debug is open (17 R375). -/
def modeRequest (init m : Nat) (s : State) : State :=
  let state := match s.mod.mode with
    | .stop | .run | .hold | .brace => true
    | _ => false
  if reqSource s init && state && decide (s.pair.role ≠ 2) && (decide (m = 2) || !s.sec.debug) then
    { s with cyc := { s.cyc with req := some (m, s.clk.now) } }
  else s

/-- MODE_REQ_RUN. -/
def opModeReqRun (init : Nat) (s : State) : State := modeRequest init 1 s
/-- MODE_REQ_STOP. -/
def opModeReqStop (init : Nat) (s : State) : State := modeRequest init 2 s
/-- MODE_REQ_HOLD (R147): refused unless the permission bit of the last freeze is 1. -/
def opModeReqHold (init : Nat) (s : State) : State :=
  if bitOf (lkAt s 2 0x28) 31 && s.cyc.permit then modeRequest init 3 s else s

/-- CYC_STATUS.MODE of a request. -/
def reqToMode (m : Nat) : Nat := match m with
  | 1 => 1
  | 3 => 2
  | _ => 0

/-- The STANDBY's program is not the partner's: Awn's enable stays 0 (R151). -/
def foreignProgram (s : State) : Bool := decide (s.pair.role = 2) && decide (repProg (lastReport s) ≠ ownProgram s)

/-- SUP_START_TIME.RUN at the first boundary in RUN (20). -/
def firstRun (s : State) : State :=
  match s.mod.handedAt with
  | some t =>
    if s.mod.ranOnce then s
    else
      let ms := Nat.min 65535 ((s.clk.now - t + 500000) / 1000000)
      { s with mod := { s.mod with ranOnce := true },
               sup := { s.sup with startTime := s.sup.startTime % 65536 + 65536 * ms } }
  | none => s

/-- MODE_CHANGE (R146): mode `m` is taken at this boundary; 0x2210 is recorded. A change that needs Awn's enable waits for
ACTIVE 0. The answer tells whether the change was made. -/
def modeChange (m : Nat) (s : State) : Bool × State :=
  let old := s.cyc.mode
  let rise := decide (old = 0) && s.awn.loaded && !foreignProgram s
  if rise && s.awn.active then (false, s)
  else
    let s := if rise then awnSetEn true s else if m = 0 ∧ s.awn.loaded then awnSetEn false s else s
    let s := if m ≠ 1 then braceEnd s else s
    let s := { s with
      cyc := { s.cyc with mode := m },
      mod := { s.mod with mode := if m = 1 then .run else if m = 2 then .hold else .stop } }
    let s := if m = 1 then firstRun s else s
    (true, event 0x2210 0 (w32 old) (w32 m) s)

/-- The mode at this boundary: R147's forced STOP, else a request at least 5 us old (R145). -/
def modeAtBoundary (s : State) : State :=
  let state := match s.mod.mode with
    | .stop | .run | .hold | .brace => true
    | _ => false
  if !state then s
  else if s.cyc.forceStop then
    let s := { s with cyc := { s.cyc with forceStop := false } }
    if s.cyc.mode = 0 then s else (modeChange 0 s).2
  else
    match s.cyc.req with
    | none => s
    | some (r, t) =>
      if s.clk.now < t + 5000 then s
      else
        let m := reqToMode r
        if m = s.cyc.mode then { s with cyc := { s.cyc with req := none } }
        else
          let c := modeChange m s
          if c.1 then { c.2 with cyc := { c.2.cyc with req := none } } else s

/-- Awn's enable follows the role and the mode (R146, R151): 0 while the program is not the partner's; else 1 in RUN and
HOLD, once ACTIVE reads 0. -/
def awnFollow (s : State) : State :=
  if !s.awn.loaded then s
  else if foreignProgram s then (if s.awn.en then awnSetEn false s else s)
  else if forcesAct s && decide (s.cyc.mode ≠ 0) && !s.awn.en && !s.awn.active then awnSetEn true s
  else s

/-- A STANDBY follows the mode its partner's report of the cycle that ends shows (12 R274). -/
def followPartner (s : State) : State :=
  if s.pair.role = 2 ∧ s.pair.heard then
    match repState (lastReport s) with
    | 0 => { s with cyc := { s.cyc with req := some (2, 0) } }
    | 1 => { s with cyc := { s.cyc with req := some (1, 0) } }
    | 2 => { s with cyc := { s.cyc with req := some (3, 0) } }
    | _ => s
  else s

/-- AUTORUN_REQUEST (R409). -/
def autorun (s : State) : State :=
  if cycCfg s 16 ∧ !s.cyc.autorunDone ∧ s.mod.mode = .stop ∧ !s.sec.debug ∧
      (s.vyf.state = 5 ∨ (s.vyf.state = 4 ∧ !s.fab.map.isEmpty)) ∧ s.pair.role ≤ 1 ∧
      !(List.range 6).any (fun t => runsSafety s t && decide ((s.tri t).state = 6)) then
    { s with cyc := { s.cyc with autorunDone := true, req := some (1, s.clk.now) } }
  else s

/-! ## Freeze (R133, R138 to R142) -/

/-- Declared safe input words of station `k` (R141). -/
def safeWords (s : State) (k : Nat) : List Word :=
  (List.range (fieldOf (stnReg s k 1) 14 8)).map (fun w => lkAt s 2 (0x8000 + 0x100 * k + 4 * w))

/-- AGE_LIMIT. -/
def ageLimit (s : State) (k : Nat) : Nat := fieldOf (stnReg s k 0) 7 0

/-- A station in its start-up state at a freeze without a message (R141). -/
def stnStartUp (k : Nat) (s : State) : State :=
  modStn k (fun (x : Stn) => { x with
      words := safeWords s k, valid := false, lost := true, fresh := false, age := 255 }) s

/-- A new message is taken: the episode, if one is open, ends (R141). -/
def stnTake (k : Nat) (words : List Word) (s : State) : State :=
  let x := stnAt s k
  let s := if x.episode then event 0x2215 k (cycleWord s) (w32 x.age) s else s
  modStn k (fun (x : Stn) => { x with
      words := words, valid := true, lost := false, fresh := true, age := 0, startUp := false, episode := false,
      aged := false, disc := false }) s

/-- No new message: the age rises; beyond AGE_LIMIT the safe words stand, and AGED is raised once in a loss episode
(R141). -/
def stnAge (k : Nat) (lost : Bool) (s : State) : State :=
  let age := satInc 255 (stnAt s k).age
  let s := modStn k (fun (x : Stn) => { x with age := age, fresh := false, lost := lost }) s
  if age ≤ ageLimit s k then s
  else
    let x := stnAt s k
    let s := modStn k (fun (x : Stn) => { x with
        words := safeWords s k, valid := false, aged := x.aged || x.episode }) s
    if x.episode ∧ !x.aged then raiseCyc 4 0x3205 k k (cycleWord s) (w32 age) s else s

/-- A station at the freeze. -/
def stnFreeze (k : Nat) (s : State) : State :=
  let c := stnConn s k
  let x := connAt s c
  let recv := (connEnt s c).recv
  let data := decide (x.state = 3)
  let s := modConn c (fun (x : Conn) => { x with fresh := false, lostFrz := !data }) s
  if recv && data && x.fresh then stnTake k x.words s
  else if recv && (stnAt s k).startUp then stnStartUp k s
  else stnAge k (recv && !data) s

/-- Used stations. -/
def usedStations (s : State) : List Nat := (List.range 128).filter (stnUsed s)

/-- FREEZE: the field image, every station, every mailbox. -/
def freeze (s : State) : State :=
  let s := { s with cyc := { s.cyc with field := fieldImage s } }
  let s := forAll (usedStations s) stnFreeze s
  forAll (mboxConns s) mboxFreeze s

/-! ## Merge (R133, R136, R137) -/

/-- Station status word (R138). -/
def stnStatus (x : Stn) : Word := placeB x.valid 31 ||| placeB x.lost 30 ||| placeB x.fresh 29 ||| place x.age 7 0

/-- The input bank is written, CYCLE last. -/
def writeInputBank (s : State) : State :=
  let a := bankAddr s 0
  if a < 0x20000 * 2 then s
  else
    let s := forAll (usedStations s) (fun k s => cycWrite (a + 0x400 + 0x200 * k) (wordBytes (stnAt s k).words) s) s
    let st := (List.range 128).map (fun k => if stnUsed s k then stnStatus (stnAt s k) else 0)
    let s := cycWrite (a + 0x40) (wordBytes st) s
    let s := cycWrite (a + 8) (le 8 s.cyc.freezeTime) s
    let s := cycWrite (a + 0x10) s.cyc.field s
    cycWrite a (le 8 s.cyc.cycle) s

/-- Local field bits, VALID bits and station words are staged into the I area. -/
def stageInputs (s : State) : State :=
  let s := awnStage 0 s.cyc.field s
  let v := maskOf ((List.range 128).map (fun k => stnUsed s k && (stnAt s k).valid))
  let s := awnStage 32 (le 16 v) s
  forAll (usedStations s) (fun k s =>
    let n := fieldOf (stnReg s k 1) 22 16
    let ws := (stnAt s k).words
    awnStage (4 * fieldOf (stnReg s k 1) 31 24) (wordBytes ((List.range n).map (fun w => nth ws w 0))) s) s

/-- HOLD permission at this freeze, before forces; HOLD_PERMIT_LOST (R147). -/
def holdPermit (s : State) : State :=
  let cfg := lkAt s 2 0x28
  let p := bitOf cfg 31 && inBit s (fieldOf cfg 12 0)
  let s := { s with cyc := { s.cyc with permit := p } }
  if s.mod.mode = .hold ∧ !p then
    raiseCyc 7 0x2208 0 0 (cycleWord s) 0 { s with cyc := { s.cyc with forceStop := true } }
  else s

/-- Enabled force entries of an area: bit index and value. -/
def forcesOf (s : State) (q : Bool) : List (Nat × Bool) :=
  s.cyc.force.filterMap (fun e =>
    if bitOf e.2 31 && (bitOf e.2 29 == q) then some (fieldOf e.2 12 0, bitOf e.2 30) else none)

/-- Input forces are applied to the I area (R148). -/
def forceInputs (s : State) : State :=
  if forcesAct s then
    forAll (forcesOf s false) (fun f s => awnShadow (f.1 / 8) [putBit (inByte s (f.1 / 8)) (f.1 % 8) f.2] s) s
  else s

/-! ## Online change (R150) -/

/-- Register of the online change set. -/
def olcReg (s : State) (o : Nat) : Word := FMap.look s.cyc.olcRegs 0 o

/-- An online change is refused: OLC and 0x2206. -/
def olcRefused (res fail : Nat) (s : State) : State :=
  raiseCyc 5 0x2206 0 0 (w32 res) (w32 fail) { s with cyc := { s.cyc with olcResult := res, olcFail := fail } }

/-- AREA and INDEX of entry `i`. -/
def olcAddr (s : State) (i : Nat) : Nat × Nat :=
  let a := olcReg s (0x200 + 16 * i)
  (fieldOf a 16 16, fieldOf a 11 0)

/-- Entry `i` holds the value expected: the published W word or the lanes' K word. -/
def olcMatch (s : State) (i : Nat) : Bool :=
  let a := olcAddr s i
  let v := if a.1 = 0 then FMap.look s.awn.bank.w 0 a.2 else FMap.look (lanesData s).k 0 a.2
  decide (v = olcReg s (0x204 + 16 * i))

/-- The pending set is checked and staged. -/
def olcMerge (s : State) : State :=
  if s.cyc.olcResult ≠ 1 then s
  else
    match (List.range s.cyc.olcCount).find? (fun i => !olcMatch s i) with
    | some i => olcRefused 4 i s
    | none =>
      let s := forAll (List.range s.cyc.olcCount) (fun i s =>
        let a := olcAddr s i
        awnStage ((if a.1 = 0 then 0x1000 else 0x5000) + 4 * a.2) (le 4 (olcReg s (0x208 + 16 * i)).toNat) s) s
      { s with cyc := { s.cyc with olcResult := 2 } }

/-- Writes to the online change registers have an effect (R145, R150). -/
def olcWritable (s : State) (init : Nat) : Bool :=
  reqSource s init && decide (s.cyc.olcResult ≠ 1 ∧ s.cyc.olcResult ≠ 2)

/-- OLC_COMMIT: a write of CYC_OLC_CTRL. A commit while a set waits is refused and leaves that set's RESULT (log 46). -/
def opOlcCommit (init : Nat) (v : Word) (s : State) : State :=
  if !reqSource s init then s
  else if !olcWritable s init then
    if bitOf v 31 then raiseCyc 5 0x2206 0 0 6 0 s else s
  else
    let n := fieldOf v 4 0
    let s := { s with cyc := { s.cyc with olcCount := n } }
    if !bitOf v 31 then s
    else if s.cyc.exch then olcRefused 6 0 s
    else if n = 0 ∨ 16 < n then olcRefused 5 0 s
    else
      match (List.range n).find? (fun i => decide ((olcAddr s i).1 = 1 ∧ 1024 ≤ (olcAddr s i).2)) with
      | some i => olcRefused 5 i s
      | none => { s with cyc := { s.cyc with olcResult := 1, olcFail := 0 } }

/-- A write of an entry's register. -/
def olcWrite (init o : Nat) (v : Word) (s : State) : State :=
  if olcWritable s init then
    let v := if o % 16 = 0 then place (fieldOf v 16 16) 16 16 ||| place (fieldOf v 11 0) 11 0 else v
    { s with cyc := { s.cyc with olcRegs := FMap.store s.cyc.olcRegs 0 o v } }
  else s

/-! ## The boundary -/

/-- MERGE. -/
def merge (s : State) : State :=
  olcMerge (forceInputs (holdPermit (stageInputs (writeInputBank s))))

/-- The module state publishes: outputs and messages leave at O (R144, R290). -/
def publishes (s : State) : Bool :=
  decide (s.pair.role ≤ 1) &&
    match s.mod.mode with
    | .stop | .run | .hold | .brace => true
    | _ => false

/-- CYCLE_OVERRUN (R135): the publish of the cycle has not ended by the next boundary. -/
def cycleOverrun (s : State) : State :=
  if s.cyc.begun ∧ publishes s ∧ s.cyc.phase ≠ 3 then
    enterSafe 0x3202 (missFault 0x102 (raiseCyc 1 0x3202 0 0 (cycleWord s) 0 s))
  else s

/-- The engines of the network at the end of a cycle, before its successor's number and mode are taken. -/
def cycleEnd (s : State) : State :=
  let s := if vyfRuns s then fabBoundary (vyfEnd s) else s
  canBoundary 1 (canBoundary 0 (hubBoundary s))

/-- The new cycle begins: its number and instant, and the schedule that holds from now on. -/
def cycleBegin (n : Nat) (s : State) : State :=
  let s := { s with
    cyc := { s.cyc with
      cycle := s.cyc.nextNum, begun := true, t0 := s.clk.now, freezeTime := n, phase := 1, triggered := false,
      scanDone := false }
    clk := { s.clk with slewRun := s.clk.slew, slew := 0 } }
  let s := pendFollow (modeSwitch s)
  if s.img.modes.isEmpty then
    { s with cyc := { s.cyc with
        nextT0 := some (n + fieldOf (lkAt s 2 0x20) 15 0 * 1000), nextNum := (s.cyc.cycle + 1) % 2 ^ 64 } }
  else nextBoundary s

/-- Consecutive cycles completed in RUN or BRACE (02 R69). -/
def countRun (was : Bool) (s : State) : State :=
  { s with cyc := { s.cyc with
      runCycles := if was then s.cyc.runCycles + 1 else 0 } }

/-- CYCLE_BOUNDARY (R132): the next boundary has come. -/
def opCycleBoundary (s : State) : State :=
  match s.cyc.nextT0 with
  | none => s
  | some n =>
    if !s.mod.mode.handed ∨ s.clk.tb < n then s
    else
      let was := s.cyc.begun && s.mod.mode.running
      let s := cycleEnd (cycleOverrun s)
      let s := pairBoundary s.cyc.nextNum (followPartner s)
      let s := cycleBegin n s
      let s := autorun (awnFollow (modeAtBoundary s))
      let s := glumeTimeouts (connsFall (countRun was s))
      merge (freeze s)

/-! ## Release (R133, R135) -/

/-- Instant of the trigger and of the release after T0, ns; later after a takeover (12 R278). -/
def releaseAt (s : State) : Nat := if s.pair.takeLate then 30000 else 10000

/-- SCAN_OVERRUN (R135). -/
def scanOverrun (s : State) : State :=
  enterSafe 0x3201 (missFault 0x101 (raiseCyc 0 0x3201 0 0 (cycleWord s) 0 s))

/-- AWN_SCAN_TRIGGER: in RUN and BRACE, once a cycle, by an ACTIVE or an unpaired module (R100, R144). -/
def opAwnScanTrigger (s : State) : State :=
  if !afterT0 s (releaseAt s) ∨ s.cyc.triggered ∨ !s.mod.mode.running ∨ 2 ≤ s.pair.role then s
  else
    let s := { s with cyc := { s.cyc with triggered := true } }
    if scanRuns s then scanOverrun s else awnTrigger s

/-- RELEASE_PHASE: the scan is triggered, and tasks of OFFSET 0 may be released (TASK_RELEASE). -/
def opReleasePhase (s : State) : State :=
  if !afterT0 s (releaseAt s) ∨ s.cyc.phase ≠ 1 then s
  else opAwnScanTrigger { s with cyc := { s.cyc with phase := 2 } }

/-- AWN_PUBLISH (R106): the winner's data is published; an online change it took is APPLIED, and the margin to O is kept. -/
def opAwnPublish (s : State) : State :=
  if s.awn.winner.isNone then s
  else
    let s := awnPublishCore s
    let late := s.clk.now - s.cyc.t0
    let slack := (outOffset s - late) / 1000
    let s := { s with cyc := { s.cyc with scanDone := true, slackMin := Nat.min s.cyc.slackMin slack } }
    if s.cyc.olcResult = 2 then
      event 0x2213 0 (w32 s.cyc.olcCount) (cycleWord s) { s with cyc := { s.cyc with olcResult := 3 } }
    else s

/-! ## Publish (R133, R142 to R144, R148) -/

/-- The Q image to publish, before forces: STOP_VALUE in STOP, the program's in RUN, the last one in HOLD. A module that takes
over in HOLD holds what it published last itself, not the partner's values (log 184, DESIGN CHOICE). -/
def baseImage (s : State) : FMap Byte :=
  match s.cyc.mode with
  | 0 => FMap.storeList [] 0 0 (le 2 (maskOf ((List.range 16).map (stopValue s))))
  | 1 => s.awn.bank.q
  | _ => s.cyc.qOut

/-- Output forces applied to an image. -/
def forcedImage (fs : List (Nat × Bool)) (q : FMap Byte) : FMap Byte :=
  match fs with
  | [] => q
  | (i, v) :: t => forcedImage t (FMap.upd q 0 (i / 8) (fun b => putBit b (i % 8) v))

/-- Output forces applied to a message's `n` words from Q word `w` on (R148). -/
def forcedWords (fs : List (Nat × Bool)) (w n : Nat) (ws : List Word) : List Word :=
  match fs with
  | [] => ws
  | (i, v) :: t =>
    let hit := decide (w ≤ i / 32) && decide (i / 32 < w + n)
    forcedWords t w n
      (if hit then
        modAt ws (i / 32 - w) (fun x => if v then x ||| w32 (2 ^ (i % 32)) else x &&& ~~~(w32 (2 ^ (i % 32))))
      else ws)

/-- Words of a station's message from the image and its output block, and whether they are not stale; STALE where the TAG
is wrong (R143). -/
def stnRunWords (k : Nat) (q : FMap Byte) (s : State) : List Word × Bool × State :=
  let o := stnReg s k 2
  let qn := fieldOf o 22 16
  let tn := fieldOf o 14 8
  let qs := (List.range qn).map (fun w => areaWord q (fieldOf o 31 24 + w))
  if tn = 0 then (qs, true, s)
  else
    let r := dmaRead cycId (bankAddr s 1 + 0x400 + 0x200 * k) (4 + 4 * tn) s
    let tag := leAt r.2.1 0 4
    if tag = s.cyc.cycle % 2 ^ 32 then
      (qs ++ (List.range tn).map (fun w => w32 (leAt r.2.1 (4 + 4 * w) 4)), true, r.2.2)
    else (List.replicate (qn + tn) 0, false, raiseCyc 2 0x3203 k k (cycleWord s) (w32 tag) r.2.2)

/-- Words of a station's message in the mode in force (R144), before and after the output forces `fs` (R148): a message of
zeros for a stale block or in STOP takes no force. -/
def stnWords (k : Nat) (q : FMap Byte) (fs : List (Nat × Bool)) (s : State) : List Word × List Word × State :=
  let o := stnReg s k 2
  let zero := List.replicate (fieldOf o 22 16 + fieldOf o 14 8) (0 : Word)
  let forced := forcedWords fs (fieldOf o 31 24) (fieldOf o 22 16)
  match s.cyc.mode with
  | 0 => (zero, zero, s)
  | 1 =>
    let r := stnRunWords k q s
    (r.1, if r.2.1 then forced r.1 else r.1, r.2.2)
  | _ =>
    let w := (stnAt s k).sent.getD zero
    (w, forced w, s)

/-- OUTPUT_DISCARD (R142): uncounted in the start-up state; recorded once in a loss episode. -/
def stnDiscard (k : Nat) (s : State) : State :=
  let x := stnAt s k
  if x.startUp then s
  else
    let s := modStn k (fun (x : Stn) => { x with discarded := satInc 65535 x.discarded, disc := x.disc || x.episode }) s
    if x.disc then countOnly 0x2204 s else raiseCyc 3 0x2204 k k (cycleWord s) (w32 x.age) s

/-- A connection's receive side keeps its message back (R142, R296). -/
def withheld (s : State) (c : Nat) (lostFrz : Bool) : Bool :=
  (connEnt s c).recv && (lostFrz || decide ((connAt s c).state ≠ 3))

/-- The message of connection `c` is built and given to its transport: a CAN message is committed, any other is added to
those of the cycle (R290, R291). -/
def glumeSendOne (c : Nat) (words : List Word) (acc : List (Nat × List Byte)) (s : State) :
    List (Nat × List Byte) × State :=
  let e := connEnt s c
  let m := glumeMessage s c words
  if e.transport = 3 then (acc, canCommit (peerCan e.peer).1 (peerTx e.peer) m s) else (acc ++ [(c, m)], s)

/-- The message of one connection, where there is one (R142, R290, R296). -/
def connMessage (q : FMap Byte) (fs : List (Nat × Bool)) (c : Nat) (x : List (Nat × List Byte) × State) : List (Nat × List Byte) × State :=
  let s := x.2
  let e := connEnt s c
  if !(e.used && e.send) then x
  else
    match stationOf s c with
    | some k =>
      if withheld s c ((stnAt s k).lost || ((connEnt s c).recv && (stnAt s k).startUp)) then (x.1, stnDiscard k s)
      else if !(connAt s c).en then x
      else
        let w := stnWords k q fs s
        glumeSendOne c w.2.1 x.1 (modStn k (fun (y : Stn) => { y with sent := some w.1 }) w.2.2)
    | none =>
      if !(connAt s c).en ∨ withheld s c (connAt s c).lostFrz then x
      else
        let w := mboxWords c s
        glumeSendOne c w.1 x.1 w.2

/-- Every message of the cycle, in ascending connection number. -/
def allMessages (q : FMap Byte) (fs : List (Nat × Bool)) (cs : List Nat) (x : List (Nat × List Byte) × State) :
    List (Nat × List Byte) × State :=
  match cs with
  | [] => x
  | c :: t => allMessages q fs t (connMessage q fs c x)

/-- Hub frames of one port: its slots filled in turn (R291). -/
def fillSlots (slots : List Slot) (ms : List (List Byte)) (s : State) : State :=
  match slots with
  | [] => s
  | x :: t =>
    let f := fitMsgs (x.bytes - 22) ms
    if f.1.isEmpty then fillSlots t ms s
    else
      let body := be 1 1 ++ be 1 0x40 ++ be 2 f.1.length ++ f.1
      fillSlots t f.2 (hubCommit x.buffer (body ++ zeros (46 - body.length)) s)

/-- GLUME_SEND: the messages are committed to the kernel buffer and the hub's TX buffers. -/
def commitMessages (ms : List (Nat × List Byte)) (s : State) : State :=
  let of := fun (t : Nat) => ms.filter (fun m => decide ((connEnt s m.1).transport = t))
  let k := some (s.cyc.cycle, ((of 1).map (fun m => m.2)).flatten)
  let s := { s with vyf := { s.vyf with chA := { s.vyf.chA with buf := k }, chB := { s.vyf.chB with buf := k } } }
  forAll (List.range 8) (fun p s =>
    fillSlots ((modeNow s).slots.filter (fun x => decide (x.kind = 2 ∧ x.port = p)))
      (((of 2).filter (fun m => decide ((connEnt s m.1).peer = p))).map (fun m => m.2)) s) s

/-- EXCHANGE_DONE (R151): 0x2214 is recorded with the first publish after an exchange. -/
def exchRecord (s : State) : State :=
  if s.cyc.exchFirst then
    event 0x2214 0 (cycleWord s) (w32 s.awn.moved) { s with cyc := { s.cyc with exchFirst := false } }
  else s

/-- The outputs of the cycle leave. -/
def publishNow (s : State) : State :=
  let base := baseImage s
  let fs := if forcesAct s then forcesOf s true else []
  let q := forcedImage fs base
  let w := leNat (FMap.lookList q 0 0 2)
  let s := { s with
    cyc := { s.cyc with qOut := base },
    fio := { s.fio with image := some ((List.range 16).map (fun n => w.testBit n), s.clk.now) } }
  let r := allMessages base fs (connNums s) ([], s)
  exchRecord (pairPublished (commitMessages r.1 r.2))

/-- PUBLISH (R133, R135): once a cycle at T0 + O. -/
def opPublish (s : State) : State :=
  if !afterT0 s (outOffset s) ∨ s.cyc.phase = 3 ∨ !s.mod.mode.handed then s
  else
    let s := { s with cyc := { s.cyc with phase := 3 } }
    if !publishes s then s
    else if publishFenced s then pairFence 2 s.pair.partnerReign s.pair.partner s
    else if s.cyc.mode = 1 ∧ s.awn.loaded ∧ !s.cyc.scanDone then scanOverrun s
    else publishNow s

/-! ## Forcing and exchange (R148, R149, R151) -/

/-- FORCE_ENTRY_WRITE: by the security engine, where FORCE_PERMIT allows it. -/
def opForceEntryWrite (init i : Nat) (v : Word) (s : State) : State :=
  if init ≠ secId ∨ !cycCfg s 17 then s
  else
    let old := FMap.look s.cyc.force 0 i
    let new := v &&& 0xE0001FFF#32
    let s := { s with cyc := { s.cyc with force := FMap.store s.cyc.force 0 i new } }
    if old = new then s
    else if bitOf old 31 && !bitOf new 31 then event 0x2212 i old 0 s
    else event 0x2211 i new 0 s

/-- EXCH_START (R151, R152): by the security engine. A START while an exchange is in progress has no effect; a planned
switchover that is under way gives way to the exchange and is refused (log 185, DESIGN CHOICE). -/
def opExchStart (init : Nat) (v : Word) (s : State) : State :=
  if init ≠ secId ∨ !bitOf v 0 ∨ s.cyc.exch then s
  else if s.pair.role ≠ 2 ∨ s.pair.report.isNone ∨ repRole (lastReport s) ≠ 1 ∨ s.pair.linkLost then exchFail 1 s
  else
    let s := if s.pair.wants then switchRefused 4 s else s
    { s with
      cyc := { s.cyc with exch := true, deferred := 0, exchResult := 0 },
      pair := { s.pair with wants := true, forExch := true, deferred := 0, intent := none } }

/-! ## Registers -/

/-- Reads of the CYC window but for the quartet and the LK registers. -/
def cycRead (s : State) (o : Nat) : Word :=
  let c := s.cyc
  if o = 4 then
    placeB c.exch 10 ||| placeB c.permit 9 ||| placeB (anyForced s) 8 |||
      place (if c.forceStop then 2 else (match c.req with
        | some r => r.1
        | none => 0)) 6 4 ||| place c.mode 1 0
  else if o = 8 then w32 c.cycle
  else if o = 0xC then w32 (c.cycle / 2 ^ 32)
  else if o = 0x38 then place c.slackMin 15 0
  else if o = 0x44 then place c.exchResult 5 4 ||| place c.deferred 3 0
  else if o = 0x100 then place c.olcCount 4 0
  else if o = 0x104 then place c.olcFail 7 4 ||| place c.olcResult 2 0
  else if 0x200 ≤ o ∧ o < 0x300 then olcReg s o
  else if 0x400 ≤ o ∧ o < 0x500 then FMap.look c.force 0 ((o - 0x400) / 4)
  else if 0x1000 ≤ o ∧ o < 0x1800 ∧ o % 16 = 12 then
    let x := stnAt s ((o - 0x1000) / 16)
    placeB x.valid 31 ||| placeB x.lost 30 ||| place x.discarded 23 8 ||| place x.age 7 0
  else 0

/-! ## Meanings -/

/-- MODE_REQ_RUN. -/
def execModeReqRun (init : Nat) (s : State) : Host.Outcome State Fault Refusal :=
  wfRun (.modeReqRun init) (opModeReqRun init) s
/-- MODE_REQ_STOP. -/
def execModeReqStop (init : Nat) (s : State) : Host.Outcome State Fault Refusal :=
  wfRun (.modeReqStop init) (opModeReqStop init) s
/-- MODE_REQ_HOLD. -/
def execModeReqHold (init : Nat) (s : State) : Host.Outcome State Fault Refusal :=
  wfRun (.modeReqHold init) (opModeReqHold init) s
/-- FORCE_ENTRY_WRITE. -/
def execForceEntryWrite (init i : Nat) (v : Word) (s : State) : Host.Outcome State Fault Refusal :=
  wfRun (.forceEntryWrite init i v) (opForceEntryWrite init i v) s
/-- OLC_COMMIT. -/
def execOlcCommit (init : Nat) (v : Word) (s : State) : Host.Outcome State Fault Refusal :=
  wfRun (.olcCommit init v) (opOlcCommit init v) s
/-- EXCH_START. -/
def execExchStart (init : Nat) (v : Word) (s : State) : Host.Outcome State Fault Refusal :=
  wfRun (.exchStart init v) (opExchStart init v) s
/-- CYCLE_BOUNDARY. -/
def execCycleBoundary (s : State) : Host.Outcome State Fault Refusal := wfRun .cycleBoundary (engRun (List.range 6) opCycleBoundary) s
/-- RELEASE_PHASE. -/
def execReleasePhase (s : State) : Host.Outcome State Fault Refusal := wfRun .releasePhase opReleasePhase s
/-- AWN_SCAN_TRIGGER. -/
def execAwnScanTrigger (s : State) : Host.Outcome State Fault Refusal := wfRun .awnScanTrigger opAwnScanTrigger s
/-- AWN_PUBLISH. -/
def execAwnPublish (s : State) : Host.Outcome State Fault Refusal := wfRun .awnPublish opAwnPublish s
/-- PUBLISH. -/
def execPublish (s : State) : Host.Outcome State Fault Refusal := wfRun .publish (engRun (List.range 6) opPublish) s

end Sys2Proof.Machine
end

