-- ==== Sys2Proof/Machine/Handover.lean ====
section
/-! DEFINITION. SELFTEST, hand-over and orderly shut-down (03 R93, R94; 18 R387; 20): the comparator test, the judgement of
the verdict, the release of the triads, and the steps of a shut-down. -/

namespace Sys2Proof.Machine

/-! ## The comparator test (R93, R94) -/

/-- CMPTEST_START (R93): a write of 1 to TRD_CMPTEST_CTRL.START in SELFTEST. -/
def opCmptestStart (_init : Nat) (v : Word) (s : State) : State :=
  if s.mod.mode = .selftest ∧ bitOf v 0 then
    { s with trd := { s.trd with
        cmpRunning := true, cmpDone := false, cmpPass := false, sink := 0, voterFail := 0, pathFail := 0 } }
  else s

/-- The positions at which the sequencer injects in window `win` of a step: I1 at a signature generator in steps 2 and 6, I2 at
the voter's input in steps 3 to 5; step 6 runs the reserve in position A (R93). -/
def cmpInjected (step win : Nat) : List Nat :=
  match step with
  | 2 => [win / 64]
  | 3 => [win / 64]
  | 4 => (match win with
    | 0 => [0, 1]
    | 1 => [0, 2]
    | _ => [1, 2])
  | 5 => [0, 1, 2]
  | 6 => [0]
  | _ => []

/-- What each position's signature shows by the injection alone: 0 the routine's own, p + 1 another one of position p's; the bits
injected in one window differ. -/
def cmpShown (step win : Nat) : List Nat :=
  (List.range 3).map (fun p => if (cmpInjected step win).contains p then p + 1 else 0)

/-- A voter's outcome of three signatures (R87): released, with the position found differing; none: no majority. -/
def cmpVote (l : List Nat) : Option (Option Nat) :=
  let a := nth l 0 0
  let b := nth l 1 0
  let c := nth l 2 0
  if a = b then (if b = c then some none else some (some 2))
  else if a = c then some (some 1)
  else if b = c then some (some 0)
  else none

/-- What the voter of triad `t` makes of a window of the test. -/
def cmpOutcome (o : CmpObs) (t step win : Nat) : Option (Option Nat) :=
  if o.blind.contains t then some none
  else
    match o.seen.find? (fun e => decide (e.t = t ∧ e.step = step ∧ e.win = win)) with
    | some e => cmpVote e.shown
    | none => cmpVote (cmpShown step win)

/-- Windows of `step` with a result other than the expected one, for triad `t` (R93): with no fault at work a window gives it. -/
def cmpFailed (o : CmpObs) (t step : Nat) : List Nat :=
  if o.blind.contains t then (if step = 1 then [] else List.range (cmpWindows step))
  else ((o.seen.filter (fun e => decide (e.t = t ∧ e.step = step))).map (fun e => e.win)).filter
    (fun w => decide (cmpOutcome o t step w ≠ cmpVote (cmpShown step w)))

/-- Position `p` fails step 2 in triad `t`. -/
def cmpPosFails (o : CmpObs) (t p : Nat) : Bool := (cmpFailed o t 2).any (fun w => decide (w / 64 = p))

/-- Reserve `r` fails step 6 in triad `t`. -/
def cmpResFails (o : CmpObs) (t r : Nat) : Bool := (cmpFailed o t 6).any (fun w => decide (w / 64 = r))

/-- A free reserve that step 6 finds failing in every voter (R94). -/
def reserveFails (s : State) (o : CmpObs) (r : Nat) : Bool :=
  nth s.trd.resFree r false && (List.range 6).all (fun t => cmpResFails o t r)

/-- The first step that the voter of triad `t` fails for good, none where it passes (R94): one of 3 to 5, step 2 in every
position it tests, or step 6 with every reserve that is not failed itself. -/
def voterFails (s : State) (o : CmpObs) (t : Nat) : Option Nat :=
  let two := (s.tri t).filled
  let six := (List.range 2).filter (fun r => nth s.trd.resFree r false && !reserveFails s o r)
  if !two.isEmpty && two.all (cmpPosFails o t) then some 2
  else match [3, 4, 5].find? (fun k => !(cmpFailed o t k).isEmpty) with
  | some k => some k
  | none => if !six.isEmpty && six.all (cmpResFails o t) then some 6 else none

/-- Positions whose signature path failed (R94). -/
def pathFails (s : State) (o : CmpObs) (t : Nat) : List Nat :=
  if (voterFails s o t).isSome then [] else (s.tri t).filled.filter (cmpPosFails o t)

/-- Store records that reach the test sink from triad `t` (R93): 256 of each window that is released, of steps 1 to 5 and of
step 6 for each free reserve. -/
def cmpSink (s : State) (o : CmpObs) (t : Nat) : Nat :=
  let free := (s.trd.resFree.filter (fun b => b)).length
  let lost := (o.seen.filter (fun e => decide (e.t = t) && (cmpOutcome o t e.step e.win).isNone &&
    (cmpVote (cmpShown e.step e.win)).isSome)).length
  let more := (o.seen.filter (fun e => decide (e.t = t) && (cmpOutcome o t e.step e.win).isSome &&
    (cmpVote (cmpShown e.step e.win)).isNone)).length
  256 * (if o.blind.contains t then 389 + 64 * free else 385 + 64 * free + more - lost)

/-- A core found failed: FAILED_TEST, one 0x3004 record (R94). -/
def failCore (n pos t step : Nat) (s : State) : State :=
  event 0x3004 (trdDetail n pos t) (w32 step) 0
    { modCore n (fun (c : Core) => { c with role := 6 }) s with
      thr := { s.thr with failedTest := s.thr.failedTest ++ [n] } }

/-- A failed position takes a free reserve, or stays empty (R75, R94). -/
def refillPosition (t p : Nat) (s : State) : State :=
  match freeReserve s with
  | some r =>
    let n := resCore s r
    modCore n (fun (c : Core) => { c with role := if (s.tri t).split then 1 else 0, triad := t, pos := p })
      (modTri t (fun (x : Triad) => { x with cores := modAt x.cores p (fun _ => n) })
        { s with trd := { s.trd with resFree := modAt s.trd.resFree r (fun _ => false) } })
  | none => modTri t (fun (x : Triad) => { x with empty := modAt x.empty p (fun _ => true) }) s

/-- The first failure found, for TRD_ERR_INFO: reserves, then voters and cores by triad. -/
def cmpFirst (s : State) (o : CmpObs) : Option Word :=
  match (List.range 2).find? (reserveFails s o) with
  | some r => some (trdInfo 3 0 (resCore s r) 3 7)
  | none =>
    match (List.range 6).find? (fun t => (voterFails s o t).isSome || !(pathFails s o t).isEmpty) with
    | none => none
    | some t =>
      match pathFails s o t with
      | p :: _ => some (trdInfo 3 0 ((s.tri t).coreAt p) p t)
      | [] => some (trdInfo 3 0 0x1F 3 t)

/-- CMPTEST_DONE (R94): results, records, replacements; the reserves first. -/
def opCmptestDone (o : CmpObs) (s : State) : State :=
  if s.mod.mode = .selftest ∧ s.trd.cmpRunning then
    let sink := ((List.range 6).map (cmpSink s o)).foldl (· + ·) 0
    let res := (List.range 2).filter (reserveFails s o)
    let voters := (List.range 6).filterMap (fun t =>
      match voterFails s o t with
      | some k => some (t, k)
      | none => none)
    let paths := (List.range 6).flatMap (fun t => (pathFails s o t).map (fun p => (t, p)))
    let bad := res.map (resCore s) ++ paths.map (fun e => (s.tri e.1).coreAt e.2)
    let s := match cmpFirst s o with
      | some i => errTrd 3 i 0 s
      | none => s
    let s := forAll res (fun r s =>
      failCore (resCore s r) 3 15 6
        { s with trd := { s.trd with resFree := modAt s.trd.resFree r (fun _ => false) } }) s
    let s := forAll voters (fun e s => event 0x3004 (trdDetail 255 3 e.1) (w32 e.2) 0 s) s
    let s := forAll paths (fun e s => failCore ((s.tri e.1).coreAt e.2) e.2 e.1 2 s) s
    let s := forAll paths (fun e s => refillPosition e.1 e.2 s) s
    let bad' := voters.any (fun e => !(s.tri e.1).split || (s.tri e.1).handover)
    { s with
      trd := { s.trd with
        cmpRunning := false, cmpDone := true, cmpPass := voters.isEmpty && bad.isEmpty, sink := sink,
        voterFail := bitsIn 6 (voters.map (fun e => e.1)), pathFail := bitsIn 20 bad },
      mod := { s.mod with toSafe := s.mod.toSafe || bad' } }
  else s

/-! ## The judgement of the verdict (R387) -/

/-- A triad whose voter the module needs: TRIAD mode, or SPLIT mode with HANDOVER. -/
def votes (x : Triad) : Bool := !x.split || x.handover

/-- Positions left empty, of the triads that are split (`true`) or not: triad and position. -/
def emptyAt (s : State) (split : Bool) : List (Nat × Nat) :=
  (List.range 6).flatMap (fun t =>
    if (s.tri t).split = split then
      ((List.range 3).filter (fun p => nth (s.tri t).empty p false)).map (fun p => (t, p))
    else [])

/-- The first finding of the verdict that keeps the module in SAFE: 1 core, 2 voter or L2, 3 Awn; and its unit. -/
def holdFinding (s : State) : Option (Nat × Nat) :=
  let core := fun (e : Nat × Nat) => (s.tri e.1).coreAt e.2
  match (emptyAt s false).find? (fun e => s.thr.retired.contains (core e)) with
  | some e => some (1, core e)
  | none =>
    match (List.range 6).find? (fun t => (s.thr.voter.contains t || s.thr.l2.contains t) && votes (s.tri t)) with
    | some t => some (2, 20 + t)
    | none =>
      if s.img.awn.isNone then none
      else match s.thr.awn with
        | p :: _ => some (3, 26 + p)
        | [] => none

/-- A finding that does not concern safety stands. -/
def flagStands (s : State) : Bool :=
  (List.range 6).any (fun t => (s.thr.voter.contains t || s.thr.l2.contains t) && !votes (s.tri t)) ||
    (s.img.awn.isNone && !s.thr.awn.isEmpty) || decide (0 < s.thr.exhausted)

/-- The verdict's effects on the loaded image: SPLIT, FLAG and HOLDSAFE. -/
def judgeVerdict (s : State) : State :=
  let s := forAll (emptyAt s true) (fun e s =>
    raiseThr 6 0x2E07 (trdDetail 255 e.2 e.1) (thrInfo 6 0 0x3F 0) 0 0 s) s
  let s := { s with thr := { s.thr with flag := flagStands s } }
  match holdFinding s with
  | some f =>
    raiseThr 7 0x3E08 0 (thrInfo 7 0 f.2 0) (w32 f.1) (w32 f.2) { s with thr := { s.thr with holdSafe := true } }
  | none => s

/-! ## Hand-over (R407, R408) -/

/-- Every triad starts: in triad operation, or split (R407). -/
def startTriads (s : State) : State :=
  forAll (List.range 6) (fun t s =>
    let s := modTri t (fun (x : Triad) => { x with fwCore := x.cores }) s
    if (s.tri t).split then startSplit t s else startVoting t (s.tri t).filled s) s

/-- The running copy's one trial is spent (R66). -/
def spendTrial (s : State) : State :=
  match s.mod.chosen with
  | some c => if copyState s c = .trial then setMark c 0x14 s else s
  | none => s

/-- The blocks that work from hand-over on. -/
def startBlocks (s : State) : State :=
  culmStart (fioStart (canStart 1 (canStart 0 (glmStart (hubStart (pairStart (vyfStart s)))))))

/-- HAND_OVER (R407; no core starts in a quench, 07 R182): ATTEMPT_MARK, the triads released, entry to STOP, or to SAFE for a finding of R387 or R94. -/
def opHandOver (s : State) : State :=
  if s.mod.mode = .selftest ∧ s.sec.lock ∧ s.grn.ready ∧ (s.thr.quick ∨ s.mod.bistDone) ∧ s.trd.cmpDone ∧ s.sup.quenchSince.isNone then
    let s := judgeVerdict s
    let bad := s.mod.toSafe || !(emptyAt s false).isEmpty
    let s := startTriads (spendTrial s)
    let ms := Nat.min 65535 ((s.clk.now - s.mod.releasedAt + 500000) / 1000000)
    let s := { s with
      mod := { s.mod with mode := .stop, handedAt := some s.clk.now },
      sup := { s.sup with startTime := ms } }
    let s := startBlocks s
    if s.thr.holdSafe then enterSafe 0x3E08 s
    else if bad then enterSafe 0x3004 s
    else { s with culm := { s.culm with bprst := false, started := true } }
  else s

/-! ## Orderly shut-down (R414 to R416) -/

/-- A planned switchover is due before the shut-down: ACTIVE, with a partner that reports STANDBY and FIT (R415). -/
def handoffDue (s : State) : Bool :=
  decide (s.pair.role = 1) && s.pair.report.isSome && decide (repRole (lastReport s) = 2) && repBit (lastReport s) 2

/-- A shut-down is requested (R414; a quench that runs is not cut short, 07 R182): held before hand-over; in recovery a reset with CAUSE 4; no effect in SHUTDOWN but for
RESTART. -/
def shutRequest (restart pin : Bool) (s : State) : State :=
  if !s.mod.mode.released then s
  else
    let s := { s with mod := { s.mod with restart := s.mod.restart || restart, pinReq := s.mod.pinReq || pin } }
    if s.sup.quenchSince.isSome then s
    else if s.sec.recovery then dieReset 4 false (shutHold s) (lifeFlush s)
    else if s.mod.mode = .shutdown ∨ s.mod.shutPending then s
    else
      let hand := s.mod.mode.handed && decide (s.mod.mode ≠ .safe) && handoffDue s
      { s with mod := { s.mod with
          shutPending := true, shutStep := if hand then 1 else 0, handoff := if hand then some s.cyc.cycle else none } }

/-- SUP_SHUTDOWN_CTRL takes writes from the voter of a TRIAD-mode triad and the security engine. -/
def shutWriter (s : State) (init : Nat) : Bool := decide (init = secId) || isVoter s init

/-- SDREQ_ACTIVE (R414): 10 samples have found SDREQ active. -/
def opSdreqActive (s : State) : State :=
  if s.mod.mode = .powerOff then s
  else
    shutRequest false true { s with mod := { s.mod with sdreq := true, sdreqAt := some s.clk.now } }

/-- SHUTDOWN_GO (R414): GO, with RESTART where the word has it. -/
def opShutdownGo (init : Nat) (v : Word) (s : State) : State :=
  if shutWriter s init && bitOf v 0 then shutRequest (bitOf v 1) false s else s

/-- SHUTDOWN_RESTART (R414, R415): kept for the request that is held or the shut-down that runs. -/
def opShutdownRestart (init : Nat) (s : State) : State :=
  if shutWriter s init && (s.mod.shutPending || decide (s.mod.mode = .shutdown)) then
    { s with mod := { s.mod with restart := true } }
  else s

/-- A triad runs. -/
def Triad.runs (x : Triad) : Bool := decide (x.state ≠ 0 ∧ x.state ≠ 6)

/-- Step 4 (R415): cores and lanes halt; records, life lines and the operating-seconds copy are written. -/
def shutDrain (s : State) : State :=
  hoursCopy (lifeFlush (flushQueue false (haltAll
    { s with mod := { s.mod with shutStep := 4, graceSince := none } })))

/-- The grace ends when every running TRIAD-mode triad has written READY. -/
def graceOver (s : State) : Bool :=
  (List.range 6).all (fun t => (s.tri t).split || !(s.tri t).runs || s.mod.ready.testBit t)

/-- SHUTDOWN_READY (R415): from a triad's voter, in the grace. -/
def opShutdownReady (init : Nat) (s : State) : State :=
  if isVoter s init && decide (s.mod.mode = .shutdown) && decide (s.mod.shutStep = 3) then
    let s := { s with mod := { s.mod with ready := s.mod.ready ||| 2 ^ (init - 0x18) } }
    if graceOver s then shutDrain s else s
  else s

/-- Step 1 has ended: no hand-off runs, the module is no longer ACTIVE, its partner cannot take over, or 11 cycles have
passed (R415). -/
def handoffOver (s : State) : Bool :=
  decide (s.mod.mode = .safe) || !handoffDue s ||
    match s.mod.handoff with
    | none => true
    | some c => decide (c + 11 ≤ s.cyc.cycle)

/-- SHUTDOWN_ENTRY (R415): step 2; the grace begins, and ends at once where no triad runs (R416). -/
def opShutdownEntry (s : State) : State :=
  if s.mod.shutPending ∧ s.mod.mode.handed ∧ s.mod.mode ≠ .shutdown ∧ handoffOver s then
    let s := { s with
      mod := { s.mod with mode := .shutdown, shutStep := 3, ready := 0, graceSince := some s.clk.now, handoff := none },
      vyf := { s.vyf with chA := { s.vyf.chA with buf := none }, chB := { s.vyf.chB with buf := none } } }
    let s := hubHalt 1 (fioOff (braceEnd s))
    let s := event 0x2F03 0 0 0 { s with culm := { s.culm with bprst := true } }
    let s := irqAll irqShutdown s
    if (List.range 6).all (fun t => !(s.tri t).runs) then shutDrain s else s
  else s

/-- SHUTDOWN_GRACE_END (R415): the grace timer expires, at 95 ms at least. -/
def opShutdownGraceEnd (s : State) : State :=
  if s.mod.mode = .shutdown ∧ s.mod.shutStep = 3 ∧ due s.mod.graceSince 95000000 s.clk.now then shutDrain s else s

/-! ## Meanings that raise no interrupt of a triad -/

/-- CMPTEST_START. -/
def execCmptestStart (init : Nat) (v : Word) (s : State) : Host.Outcome State Fault Refusal :=
  wfRun (.cmptestStart init v) (opCmptestStart init v) s
/-- CMPTEST_DONE. -/
def execCmptestDone (o : CmpObs) (s : State) : Host.Outcome State Fault Refusal :=
  wfRun (.cmptestDone o) (opCmptestDone o) s
/-- HAND_OVER. -/
def execHandOver (s : State) : Host.Outcome State Fault Refusal := wfRun .handOver opHandOver s
/-- SDREQ_ACTIVE. -/
def execSdreqActive (s : State) : Host.Outcome State Fault Refusal := wfRun .sdreqActive opSdreqActive s
/-- SHUTDOWN_GO. -/
def execShutdownGo (init : Nat) (v : Word) (s : State) : Host.Outcome State Fault Refusal :=
  wfRun (.shutdownGo init v) (opShutdownGo init v) s
/-- SHUTDOWN_RESTART. -/
def execShutdownRestart (init : Nat) (s : State) : Host.Outcome State Fault Refusal :=
  wfRun (.shutdownRestart init) (opShutdownRestart init) s
/-- SHUTDOWN_READY. -/
def execShutdownReady (init : Nat) (s : State) : Host.Outcome State Fault Refusal :=
  wfRun (.shutdownReady init) (opShutdownReady init) s
/-- SHUTDOWN_GRACE_END. -/
def execShutdownGraceEnd (s : State) : Host.Outcome State Fault Refusal := wfRun .shutdownGraceEnd opShutdownGraceEnd s

end Sys2Proof.Machine
end

