-- ==== Sys2Proof/Machine/Check.lean ====
section
/-! DEFINITION. The end-to-end check bits of Rachis (01 R25 to R27): the code over a beat's data and address, what the
receiving end finds in a beat that arrives changed or in the wrong place, and what it hands on. -/

namespace Sys2Proof.Machine

/-- The number of ones of a byte. -/
def weight (n : Nat) : Nat := ((List.range 8).filter (fun k => n.testBit k)).length

/-- Columns of a Hsiao code beside the eight of its check bits: odd weight, 3 at least. -/
def dataColOk (c : Nat) : Bool := decide (c < 256) && decide (weight c % 2 = 1) && decide (3 ≤ weight c)

/-- Columns of address bits: even weight, not zero (R25). -/
def addrColOk (c : Nat) : Bool := decide (c < 256) && decide (weight c % 2 = 0) && decide (c ≠ 0)

/-- `n` columns, all different, each with `p`. -/
def colsOk (n : Nat) (p : Nat → Bool) (c : Nat → Nat) : Bool :=
  decide (((List.range n).map c).Nodup) && ((List.range n).map c).all p

/-- A Hsiao code's 64 data columns: they stand in where Config.dataCols makes none (log 177). -/
def stdData : List Nat :=
    [7, 11, 13, 14, 19, 21, 22, 25, 26, 28, 35, 37, 38, 41, 42, 44, 49, 50, 52, 56, 67, 69, 70, 73, 74, 76, 81, 82] ++
    [84, 88, 97, 98, 100, 104, 112, 131, 133, 134, 137, 138, 140, 145, 146, 148, 152, 161, 162, 164, 168, 176, 193, 194, 196, 200, 208, 224] ++
    [31, 47, 55, 59, 61, 62, 79, 87]

/-- 33 address columns: they stand in where Config.addrCols makes none (log 177). -/
def stdAddr : List Nat :=
    [3, 5, 6, 9, 10, 12, 17, 18, 20, 24, 33, 34, 36, 40, 48, 65, 66, 68, 72, 80, 96, 129, 130, 132, 136, 144, 160, 192] ++
    [15, 23, 27, 29, 30]

/-- Column of data bit `k` (0 to 63): any Hsiao code; which of them is the die's the spec does not say (R25, log 177). -/
def dataColumn (k : Nat) : Nat := if colsOk 64 dataColOk Config.dataCols then Config.dataCols k else nth stdData k 7

/-- Column of address bit `3 + k` (k from 0 to 32): any different even-weight columns, so that every single-bit and every
double-bit address difference shows (R25). -/
def addrColumn (k : Nat) : Nat := if colsOk 33 addrColOk Config.addrCols then Config.addrCols k else nth stdAddr k 3

/-- Column of bit `k` of a 72-bit beat: the data, then the check bits. -/
def beatColumn (k : Nat) : Nat := if k < 64 then dataColumn k else if k < 72 then 2 ^ (k - 64) else 0

/-- The address term of a beat at `addr`. -/
def addrTerm (addr : Nat) : Nat :=
  (List.range 33).foldl (fun x k => if addr.testBit (k + 3) then x ^^^ addrColumn k else x) 0

/-- The check bits of a beat (R25): the code over its data, with the address term. -/
def checkBits (addr : Nat) (data : Dword) : Nat :=
  (List.range 64).foldl (fun x k => if data.getLsbD k then x ^^^ dataColumn k else x) (addrTerm addr)

/-- The syndrome of a beat that arrives with the bits `flips` changed, at an address that differs in the bits `diff`: the
code is linear, so neither the data nor the address itself enters (Laws/Check.lean). -/
def syndrome (flips : List Nat) (diff : Nat) : Nat :=
  flips.foldl (fun x k => x ^^^ beatColumn k) (if diff = 0 then 0 else addrTerm diff)

/-- The bit of a beat that a syndrome points at. -/
def pointed (syn : Nat) : Option Nat := (List.range 72).find? (fun k => beatColumn k == syn)

/-- What the receiving end finds in a beat (R25, R27): no syndrome, a single bit to correct, or an uncorrectable error. -/
def beatFound (flips : List Nat) (diff : Nat) : Chk :=
  if flips = [] ∧ diff = 0 then .good
  else
    let y := syndrome flips diff
    if y = 0 then .good
    else if weight y % 2 = 0 then .uncorrectable
    else if (pointed y).isSome then .corrected else .uncorrectable

end Sys2Proof.Machine

namespace Sys2Proof

/-- The address bits [35:3] in which the place of delivery differs. -/
def Wire.offBy (w : Wire) : Nat := w.diff % 2 ^ 36 / 8 * 8

/-- The bits of beat `b` that arrive changed. -/
def Wire.of (w : Wire) (b : Nat) : List Nat := (w.flips.filter (fun e => e.1 = b)).map (fun e => e.2)

/-- The beats that an access of `size` bytes at `addr` takes. -/
def Txn.beats (t : Txn) : Nat := (t.addr % 8 + t.size + 7) / 8

/-- What the receiving end's checks find in a transaction (R25, R27): one failing beat fails it whole. -/
def Txn.chk (t : Txn) : Chk :=
  if t.wire.ctl then .parity
  else
    let l := (List.range t.beats).map (fun b => Machine.beatFound (t.wire.of b) t.wire.offBy)
    if l.any (fun c => c = .uncorrectable) then .uncorrectable
    else if l.any (fun c => c = .corrected) then .corrected
    else .good

/-- The bits of beat `b` that are still changed once the receiving end has taken the beat in: those that arrived changed,
and the bit it corrects. -/
def Wire.left (w : Wire) (b : Nat) : List Nat :=
  let y := Machine.syndrome (w.of b) w.offBy
  if w.of b = [] ∧ w.offBy = 0 then []
  else if y = 0 then w.of b
  else match Machine.pointed y with
    | some k => w.of b ++ [k]
    | none => w.of b

/-- Bytes `bs` of an access at `addr` as the receiving end hands them on. -/
def Wire.deliver (w : Wire) (addr : Nat) (bs : List Byte) : List Byte :=
  if w.flips = [] ∧ w.offBy = 0 then bs
  else
    (List.range bs.length).map (fun i =>
      let j := addr % 8 + i
      (w.left (j / 8)).foldl (fun (x : Byte) k =>
        if k / 8 = j % 8 ∧ k < 64 then x ^^^ BitVec.ofNat 8 (2 ^ (k % 8)) else x) (nth bs i 0))

/-- The address a transaction takes effect at: its own, but for a misdelivery that no check sees (three address bits or more
whose columns cancel). -/
def Txn.reached (t : Txn) : Nat := t.addr ^^^ t.wire.offBy

end Sys2Proof
end

