-- ==== Sys2Proof/Machine/Security.lean ====
section
/-! DEFINITION. The security engine and the maintenance port (17, 02 R67 to R69): sessions, tokens, attestation,
installation and confirmation, the KEYS actions, debug, random numbers, and the registers of the SEC window. READ_REG and
WRITE_REG are in MaintReg.lean. -/

namespace Sys2Proof.Machine

/-! ## Replies and sessions (R370) -/

/-- Session `ses`. -/
def sessionAt (s : State) (ses : Nat) : Option Session := s.sec.sessions.find? (fun x => decide (x.id = ses))

/-- Session `ses` changed. -/
def modSession (ses : Nat) (f : Session → Session) (s : State) : State :=
  { s with sec := { s.sec with sessions := s.sec.sessions.map (fun x => if x.id = ses then f x else x) } }

/-- STATUS codes of R370. -/
def stOk : Nat := 0
/-- REFUSED_PRIV. -/
def stPriv : Nat := 1
/-- REFUSED_STATE. -/
def stState : Nat := 2
/-- REFUSED_FORMAT. -/
def stFormat : Nat := 3
/-- BUSY. -/
def stBusy : Nat := 4
/-- ABORTED. -/
def stAborted : Nat := 5

/-- A response message (R370): OP + 0x8000, LEN, the request's TAG, then STATUS and the data. -/
def replyMsg (op tag status : Nat) (data : List Byte) : List Byte :=
  le 2 (op + 0x8000) ++ le 2 (1 + data.length) ++ le 4 tag ++ le 1 status ++ data

/-- The response to request `r` of operation `op`; that of a relayed session enters its stream (11 R262). -/
def reply (r : Req) (op status : Nat) (data : List Byte) (s : State) : State :=
  let m := replyMsg op r.tag status data
  let s := emit (.reply r.ses m) s
  match sessionAt s r.ses with
  | some x =>
    match x.stream with
    | some (gw, num) => streamPush gw num (Config.tlsRecord r.ses m) s
    | none => s
  | none => s

/-- A session ends; a relayed one ends its stream with CLOSE NORMAL (11 R264). -/
def closeSession (ses : Nat) (s : State) : State :=
  match sessionAt s ses with
  | none => s
  | some x =>
    match x.stream with
    | none => dropSession ses s
    | some (gw, num) =>
      match s.fab.streams.find? (fun y => decide (!y.gateway ∧ y.gw = gw ∧ y.num = num)) with
      | some y => pushClose y 0 (dropStream y 0 false (dropSession ses s))
      | none => dropSession ses s

/-- Every session but `keep` ends. -/
def closeOthers (keep : Option Nat) (s : State) : State :=
  forAll (s.sec.sessions.map (fun x => x.id)) (fun n s => if keep = some n then s else closeSession n s) s

/-- Every local session ends (01 R33). -/
def closeLocal (s : State) : State :=
  forAll ((s.sec.sessions.filter (fun x => !x.relayed)).map (fun x => x.id)) closeSession s

/-- Validity periods are not checked (R369): SEC_STATUS.NOCLOCK. -/
def noClock (s : State) : Bool := !s.aon.kept && !s.sec.clockSet

/-- AUTH (R376). -/
def raiseAuth (s : State) : State := eventRate 0x3D30 0 0 0 (errSec 3 (secInfo 3 0 15) s)

/-- PRIV of operation `op` (R372, R376). -/
def raisePriv (op : Nat) (s : State) : State := eventRate 0x2D31 0 op 0 (errSec 4 (secInfo 4 0 15) s)

/-- The security engine serves sessions: it is ready, and the module is in recovery or past hand-over. -/
def engineServes (s : State) : Bool :=
  s.sec.ready && (s.mod.mode.handed || (decide (s.mod.mode = .boot) && s.sec.recovery))

/-- The maintenance port serves: the engine does, and the port is open. -/
def portServes (s : State) : Bool := engineServes s && !s.sec.portClosed

/-- Sessions of a kind are served: relayed ones do not use this module's port (01 R33). -/
def serves (relayed : Bool) (s : State) : Bool := if relayed then engineServes s else portServes s

/-- Public key of anchor `a`, where it is enabled (R363, R369). -/
def anchorKey (s : State) (a : Nat) : Option (List Byte) :=
  match a with
  | 0 => if s.fuse.a0Disable then none else some Config.anchorA0
  | 1 => if s.sec.keys then s.area.a1.value else none
  | 2 => if s.sec.keys then s.area.a2.value else none
  | _ => none

/-- The client's side of the handshake holds (R369). -/
def handshakeOk (s : State) (o : TlsOffer) : Bool :=
  s.sec.keys && o.optionsOk && decide (1 ≤ o.chain) && decide (o.chain ≤ 3) && o.sigOk &&
    (match o.anchor with
     | some a => (anchorKey s a).isSome
     | none => false) &&
    (noClock s || (decide (o.notBefore ≤ s.aon.rtc) && decide (s.aon.rtc ≤ o.notAfter)))

/-- A stream served here that carries no session yet. -/
def freshStream (s : State) : Option Stream :=
  s.fab.streams.find? (fun x => !x.gateway && !s.sec.sessions.any (fun y => decide (y.stream = some (x.gw, x.num))))

/-- What the module's proof of a handshake signs (TLS 1.3, by R369): its context, then the digest of the handshake. -/
def proofContent (transcript : List Byte) : List Byte :=
  List.replicate 64 0x20#8 ++ Config.serverContext ++ [0] ++ transcript

/-- The module authenticates itself (R369): the device certificate, and a proof by the identity key. -/
def serverAuth (o : TlsOffer) (s : State) : State :=
  emit (.serverAuth s.fuse.cert
    (slice (Config.identitySign s.fuse.helper (Config.sha384 (proofContent o.transcript)) ++ zeros 96) 0 96)) s

/-- A connection beyond the fourth is reset (R370): at the port, or at the gateway by way of its stream. -/
def refuseSession (o : TlsOffer) (s : State) : State :=
  if !o.relayed then emit (.tcp 443 0 true) s
  else match freshStream s with
    | some y => pushClose y 1 (dropStream y 3 true s)
    | none => s

/-- TLS_HANDSHAKE (R369, R370): the module proves itself, and a session opens, or AUTH is raised. A fifth connection is reset;
a module whose generator failed or whose debug is open takes none. -/
def opTlsHandshake (o : TlsOffer) (s : State) : State :=
  if !serves o.relayed s || s.sec.rngFailed || s.sec.debug || (o.relayed && (freshStream s).isNone) then s
  else if 4 ≤ s.sec.sessions.length then refuseSession o s
  else
    let s := if s.sec.keys && o.optionsOk then serverAuth o s else s
    if !handshakeOk s o then raiseAuth s
    else
      let n := ((List.range 4).find? (fun n => (sessionAt s n).isNone)).getD 0
      let stream := if o.relayed then (freshStream s).map (fun x => (x.gw, x.num)) else none
      let x : Session := ⟨n, o.relayed, stream, s.clk.now, none, 0, 0, 0⟩
      event 0x2D35 (if o.relayed then 1 else 0) o.subj0 o.subj1
        { s with sec := { s.sec with sessions := s.sec.sessions ++ [x] } }

/-- SESSION_IDLE_TIMEOUT (R370): 599 s at least. -/
def opSessionIdleTimeout (ses : Nat) (s : State) : State :=
  match sessionAt s ses with
  | some x => if due (some x.idle) 599000000000 s.clk.now then closeSession ses s else s
  | none => s

/-- SESSION_CLOSED (R371). -/
def opSessionClosed (ses : Nat) (s : State) : State := closeSession ses s

/-! ## Requests (R370 to R373) -/

/-- A request of an open session; OPs that recovery does not serve are refused there (R371). -/
def request (r : Req) (op : Nat) (inRecovery : Bool) (f : Session → State → State) (s : State) : State :=
  match sessionAt s r.ses with
  | none => s
  | some x =>
    let s := modSession r.ses (fun (y : Session) => { y with idle := s.clk.now }) s
    if !serves x.relayed s then s
    else if s.sec.recovery && !inRecovery then reply r op stState [] s
    else f x s

/-- Privilege bit `b` is granted to the session now (R372). -/
def privOf (s : State) (x : Session) (b : Nat) : Bool := x.priv.testBit b && (noClock s || decide (s.aon.rtc ≤ x.notAfter))

/-- Another privileged action runs: the install steps after IMAGE_END (R370). -/
def engineBusy (s : State) : Bool := match s.sec.install with
  | some i => i.ended
  | none => false

/-- A privileged request (R370, R372): the action answers a status and the state after; a performed one is recorded, with
its address. -/
def privileged (r : Req) (op bit addr : Nat) (inRecovery : Bool) (f : Session → State → Nat × State) (s : State) : State :=
  request r op inRecovery (fun x s =>
    if !privOf s x bit then reply r op stPriv [] (raisePriv op s)
    else if engineBusy s then reply r op stBusy [] s
    else
      let a := f x s
      if a.1 = stOk then reply r op stOk [] (event 0x2D36 op (w32 addr) x.authId a.2) else reply r op a.1 [] a.2) s

/-- A KEYS action also records 0x2D37 (R372). -/
def keysAction (r : Req) (op : Nat) (f : State → Nat × State) (s : State) : State :=
  privileged r op 9 0 false (fun x s =>
    let a := f s
    if a.1 = stOk then (stOk, event 0x2D37 op 0 x.authId a.2) else a) s

/-! ## ATTEST, CHALLENGE, TOKEN -/

/-- SEC_KEYSLOTS. -/
def keySlots (s : State) : Word :=
  let has := fun (n : Nat) => (imageKey s n).isSome
  placeB (has 1) 9 ||| placeB (has 0) 8 ||| place (maskOf s.fuse.revoked) 7 4 |||
    place (maskOf (s.fuse.slots.map Option.isSome)) 3 0

/-- The statement of R374 before its signature. -/
def attestHead (s : State) (nonce : List Byte) : List Byte :=
  let flags := (if s.sec.lock then 1 else 0) + (if s.sec.debug then 2 else 0) + (if s.sec.trial then 4 else 0) +
    (if s.sec.fallback then 8 else 0)
  le 4 0x54535441 ++ le 2 1 ++ le 1 (kernelState s + 16 * s.pair.role) ++ le 1 flags ++ le 8 s.fuse.serial ++
    slice nonce 0 16 ++ slice (s.img.imageId ++ zeros 16) 0 16 ++ le 4 s.sec.version.toNat ++ le 4 s.sec.seq.toNat ++
    le 2 s.img.secVersion ++ le 2 s.fuse.rollback ++ le 4 (keySlots s).toNat ++ slice (s.sec.digest ++ zeros 48) 0 48 ++
    le 8 s.aon.secs ++ slice (Config.identityKey s.fuse.helper ++ zeros 96) 0 96

/-- ATTEST (R374): refused once the identity key is cleared, and with a nonce that is not 16 bytes long (log 180). -/
def opAttest (r : Req) (nonce : List Byte) (s : State) : State :=
  request r 1 true (fun _ s =>
    if nonce.length ≠ 16 then reply r 1 stFormat [] s
    else if !s.sec.keys then reply r 1 stState [] s
    else
      let h := attestHead s nonce
      reply r 1 stOk (h ++ slice (Config.identitySign s.fuse.helper (Config.sha384 h) ++ zeros 96) 0 96) s) s

/-- CHALLENGE (R371): a fresh nonce. -/
def opChallenge (r : Req) (s : State) : State :=
  request r 2 true (fun _ s =>
    let n := freshBytes s 16
    let now := s.clk.now
    reply r 2 stOk n (modSession r.ses (fun (y : Session) => { y with nonce := some (n, now) }) (drawnN 4 s))) s

/-- Key of a token's AUTHORITY (R372). -/
def authorityKey (s : State) (a : Nat) : Option (List Byte) :=
  if a ≤ 2 then anchorKey s a
  else if 0x11 ≤ a ∧ a ≤ 0x13 then slotKey s (a - 0x10)
  else none

/-- The layout of a token holds (R372). -/
def tokenForm (b : List Byte) : Bool :=
  decide (b.length = 144) && decide (leAt b 0 4 = 0x4E4B4F54) && decide (leAt b 4 2 = 1) && decide (leAt b 6 2 < 2048) &&
    zeroAt b 0x29 3

/-- The token's nonce is the last one issued in the session, unused and within its lifetime; between the lifetime's bounds
of 59 s and 61 s it is a free value (R372, log 52). -/
def nonceOk (s : State) (x : Session) (b : List Byte) : Bool :=
  match x.nonce with
  | none => false
  | some (n, t) =>
    let age := s.clk.now - t
    decide (slice b 0x10 16 = n) && (decide (age < 59000000000) || (decide (age ≤ 61000000000) && decide (freshNat s % 2 = 1)))

/-- The token is accepted (R372). -/
def tokenOk (s : State) (x : Session) (b : List Byte) : Bool :=
  tokenForm b && decide (leAt b 8 8 = s.fuse.serial) && nonceOk s x b && (noClock s || decide (s.aon.rtc ≤ leAt b 0x20 8)) &&
    match authorityKey s (leAt b 0x28 1) with
    | none => false
    | some k => Config.ecdsaOk k (Config.sha384 (b.take 0x30)) (slice b 0x30 48) (slice b 0x60 48)

/-- TOKEN (R372): accepted, its privileges replace those held; refused, AUTH. The status of a refusal is a free value of 1
to 3 (log 53). -/
def opToken (r : Req) (b : List Byte) (s : State) : State :=
  request r 3 true (fun x s =>
    if tokenOk s x b then
      reply r 3 stOk [] (modSession r.ses (fun (y : Session) => { y with
          nonce := none, priv := leAt b 6 2, notAfter := leAt b 0x20 8, authId := w32 (leAt b 0x2C 4) }) (drawn s))
    else reply r 3 (1 + freshNat s % 3) [] (raiseAuth (drawn s))) s

/-! ## READ_MEM and CLEAR_RECORDS -/

/-- READ_MEM in transactions of the security engine (01 R19, R28), each within one aligned 64-byte block: the first response
that is not OKAY, and the bytes. -/
def readBlocks (fuel addr count : Nat) (s : State) : Nat × List Byte × State :=
  match fuel with
  | 0 => (0, [], s)
  | k + 1 =>
    if count = 0 then (0, [], s)
    else
      let n := Nat.min count (64 - addr % 64)
      let r := if !firewallOk s secId .read addr n then refuse 2 secId false addr n s
        else match placeOf addr with
        | .mram o => readMram o n s
        | .awn o => if fencedIn s addr then (6, zeros n, s) else (0, awnRead s o n, s)
        | _ => refuse 1 secId false addr n s
      if r.1 ≠ 0 then r
      else
        let t := readBlocks k (addr + n) (count - n) r.2.2
        (t.1, r.2.1 ++ t.2.1, t.2.2)

/-- READ_MEM (R371): the Granary and life-data area of MRAM, or the Awn window; ABORTED where a transaction fails (log 180). -/
def opReadMem (r : Req) (addr count : Nat) (s : State) : State :=
  request r 0x12 false (fun _ s =>
    if 1 ≤ count ∧ count ≤ 16375 ∧ ((0x4040000 ≤ addr ∧ addr + count ≤ 0x4280000) ∨
        (0x2000000 ≤ addr ∧ addr + count ≤ 0x2010000)) then
      let x := readBlocks (count / 64 + 2) addr count s
      if x.1 = 0 then reply r 0x12 stOk x.2.1 x.2.2 else reply r 0x12 stAborted [] x.2.2
    else reply r 0x12 stFormat [] s) s

/-- CLEAR_RECORDS (R371, 19 R402). -/
def opClearRecords (r : Req) (s : State) : State :=
  privileged r 0x20 7 0 false (fun x s => if s.grn.ready then (stOk, grnClear x.authId s) else (stState, s)) s

/-! ## Installation (02 R68) -/

/-- The copy that an installation writes. -/
def installTarget (s : State) : Bool :=
  if s.sec.recovery then decide (copySeq s true < copySeq s false) else !s.sec.copyB

/-- The new SEQUENCE: one more than the highest of the copies that are not EMPTY, else 1. -/
def installSeq (s : State) : Nat :=
  let of := fun (c : Bool) => if copyState s c = .empty then 0 else copySeq s c
  Nat.max (of false) (of true) + 1

/-- Erase bytes `a` to `b` less one of a copy. -/
def norErase (c : Bool) (a b : Nat) (s : State) : State :=
  if c then { s with mem := { s.mem with norB := clearRange a b s.mem.norB } }
  else { s with mem := { s.mem with norA := clearRange a b s.mem.norA } }

/-- Programming only clears bits (R44). -/
def norProgram (c : Bool) (o : Nat) (bs : List Byte) (s : State) : State :=
  norPut c o (List.zipWith (fun (a b : Byte) => a &&& b) (norGet s c o bs.length) bs) s

/-- IMAGE_BEGIN (R68, steps 1 to 3): refused during an installation, and while the running copy is not GOOD. -/
def opImageBegin (r : Req) (len : Nat) (s : State) : State :=
  privileged r 0x30 5 0 true (fun _ s =>
    if s.sec.install.isSome ∨ (!s.sec.recovery ∧ copyState s s.sec.copyB ≠ .good) then (stState, s)
    else if len < 0x600 ∨ 0x8000000 < len ∨ len % 64 ≠ 0 then (stFormat, s)
    else
      let c := installTarget s
      let i : Install := ⟨r.ses, c, len, installSeq s, 0, false, 0⟩
      (stOk, norErase c 0 0x8000000 (norErase c statusOff (statusOff + 0x10000)
        { s with sec := { s.sec with install := some i } }))) s

/-- IMAGE_DATA (R68, step 3). -/
def opImageData (r : Req) (offset : Nat) (bytes : List Byte) (s : State) : State :=
  privileged r 0x31 5 0 true (fun _ s =>
    match s.sec.install with
    | none => (stState, s)
    | some i =>
      if i.ses ≠ r.ses then (stState, s)
      else if bytes.isEmpty ∨ 16372 < bytes.length ∨ i.len < offset + bytes.length then (stFormat, s)
      else
        (stOk, norProgram i.copyB offset bytes
          { s with sec := { s.sec with install := some { i with got := i.got + bytes.length } } })) s

/-- IMAGE_END: the install steps start. -/
def opImageEnd (r : Req) (s : State) : State :=
  privileged r 0x32 5 0 true (fun _ s =>
    match s.sec.install with
    | none => (stState, s)
    | some i =>
      if i.ses ≠ r.ses then (stState, s)
      else (stOk, { s with sec := { s.sec with install := some { i with ended := true, tag := r.tag } } })) s

/-- INSTALLATION_COMPLETE (R68, steps 4 to 6; R67): verified and marked, and in recovery a reset; or aborted. -/
def opInstallationComplete (s : State) : State :=
  match s.sec.install with
  | none => s
  | some i =>
    if !i.ended then s
    else
      let k := (checkGenuine s i.copyB).1
      let s := { s with sec := { s.sec with install := none } }
      if k ≠ 0 then reply ⟨i.ses, i.tag⟩ 0x32 stAborted [] (rejectCopy i.copyB k s)
      else
        let s := setMark i.copyB 0x10 (norProgram i.copyB statusOff (le 4 i.seq) s)
        let v := imgSecVersion (imgHeader s i.copyB)
        let s := event 0x2D24 (copyNo i.copyB) (w32 i.seq) (w32 v) s
        if s.sec.recovery ∧ s.sup.quenchSince.isNone then dieReset 6 false none (lifeFlush (flushQueue false s)) else s

/-! ## Confirmation (02 R69) -/

/-- The running trial copy becomes GOOD, and the counter rises to its SECURITY_VERSION (R366). -/
def confirmCopy (s : State) : State :=
  if !s.sec.trial then s
  else
    let c := s.sec.copyB
    let v := s.img.secVersion
    let s := setMark c 0x18 { s with sec := { s.sec with trial := false } }
    event 0x2D23 (copyNo c) s.sec.seq (w32 v)
      { s with fuse := { s.fuse with rollback := Nat.max s.fuse.rollback (Nat.min 255 v) } }

/-- CONFIRM: refused when no trial copy runs. -/
def opConfirm (r : Req) (s : State) : State :=
  privileged r 0x33 5 0 false (fun _ s => if s.sec.trial then (stOk, confirmCopy s) else (stState, s)) s

/-- SEC_IMAGE_CONFIRM: a store to SEC_IMAGE_CTRL.CONFIRM. -/
def opSecImageConfirm (_init : Nat) (v : Word) (s : State) : State := if bitOf v 0 then confirmCopy s else s

/-- AUTO_CONFIRM: CONFIRM_CYCLES consecutive cycles in RUN or BRACE. -/
def opAutoConfirm (s : State) : State :=
  if s.img.confirmCycles ≠ 0 ∧ s.img.confirmCycles ≤ s.cyc.runCycles then confirmCopy s else s

/-- ACTIVATE (R371, 20 R414): an orderly shut-down with RESTART. -/
def opActivate (r : Req) (s : State) : State :=
  privileged r 0x34 5 0 false (fun _ s => (stOk, shutRequest true false s)) s

/-! ## KEYS actions -/

/-- IMAGE_KEY_INSTALL. -/
def opImageKeyInstall (r : Req) (slot : Nat) (wrapped : List Byte) (s : State) : State :=
  keysAction r 0x40 (fun s =>
    if 1 < slot then (stFormat, s)
    else if !s.sec.keys then (stState, s)
    else match Config.unwrapKey s.fuse.helper wrapped with
    | none => (stFormat, s)
    | some k =>
      (stOk, { s with area := s.area.set (2 + slot) ((s.area.record (2 + slot)).write k) })) s

/-- ANCHOR_INSTALL: A1 or A2. -/
def opAnchorInstall (r : Req) (slot : Nat) (key : List Byte) (s : State) : State :=
  keysAction r 0x41 (fun s =>
    if slot < 1 ∨ 2 < slot ∨ key.length ≠ 96 then (stFormat, s)
    else if !s.sec.keys then (stState, s)
    else (stOk, { s with area := s.area.set (slot - 1) ((s.area.record (slot - 1)).write key) })) s

/-- KEY_SLOT_PROGRAM: an empty slot from 1 to 3. -/
def opKeySlotProgram (r : Req) (slot : Nat) (key : List Byte) (s : State) : State :=
  keysAction r 0x42 (fun s =>
    if slot < 1 ∨ 3 < slot ∨ key.length ≠ 96 then (stFormat, s)
    else if (nth s.fuse.slots slot none).isSome then (stState, s)
    else (stOk, { s with fuse := { s.fuse with slots := modAt s.fuse.slots slot (fun _ => some key) } })) s

/-- Signing slots that are neither empty nor revoked. -/
def goodSlots (s : State) : List Nat := (List.range 4).filter (fun n => (slotKey s n).isSome)

/-- SLOT_REVOKE: never the last slot that is neither empty nor revoked. -/
def opSlotRevoke (r : Req) (slot : Nat) (s : State) : State :=
  keysAction r 0x43 (fun s =>
    if 3 < slot then (stFormat, s)
    else if goodSlots s = [slot] then (stState, s)
    else (stOk, { s with fuse := { s.fuse with revoked := modAt s.fuse.revoked slot (fun _ => true) } })) s

/-- ANCHOR_A0_DISABLE: not while neither A1 nor A2 is present. -/
def opAnchorA0Disable (r : Req) (s : State) : State :=
  keysAction r 0x44 (fun s =>
    if (anchorKey s 1).isNone ∧ (anchorKey s 2).isNone then (stState, s)
    else (stOk, { s with fuse := { s.fuse with a0Disable := true } })) s

/-! ## Debug and random numbers -/

/-- DEBUG_OPEN (R375). -/
def opDebugOpen (r : Req) (s : State) : State :=
  privileged r 0x50 8 0 false (fun x s =>
    let partner := decide (s.pair.role = 1) && s.pair.report.isSome
    if s.img.debugPolicy ≠ 1 ∨ (s.mod.mode ≠ .stop ∧ s.mod.mode ≠ .safe) ∨ partner then (stState, s)
    else
      let s := closeOthers (some r.ses) { s with sec := { s.sec with keys := false } }
      (stOk, event 0x2D38 0 0 x.authId { s with sec := { s.sec with debug := true } })) s

/-- A read of SEC_RNG: 32 fresh bits, 0 after a health test has failed (R367). -/
def rngValue (s : State) : Word := if s.sec.rngFailed || !s.sec.ready then 0 else Config.freeWord s.free

/-- The state after a read of SEC_RNG. -/
def rngTaken (s : State) : State := drawn { s with sec := { s.sec with rngLast := rngValue s } }

/-- RNG_READ. -/
def opRngRead (init : Nat) (s : State) : State :=
  if s.mod.mode.released then emit (.response init 0 (le 4 (rngValue s).toNat)) (rngTaken s) else s

/-- RNG_HEALTH_FAIL (R367): RNG, every session closes. -/
def opRngHealthFail (s : State) : State :=
  if s.sec.ready then
    closeOthers none (raiseSec 5 0x3D32 0 0 15 0 0 { s with sec := { s.sec with rngFailed := true } })
  else s

/-- 169.254.80.1 (R368). -/
def portAddr : Nat := 0xA9FE5001

/-- MAINTENANCE_FRAME_RECEIVE (R368): ARP and ICMP echo for the port's address are answered, TCP of a relay port feeds or ends
its stream (11 R263, R264), every other protocol is dropped. An answer is given out as its content (log 3). -/
def opMaintenanceFrameReceive (f : X5Frame) (s : State) : State :=
  if !portServes s then s
  else match f with
  | .arp t => if t = portAddr then emit (.frame 0x30 (be 4 portAddr)) s else s
  | .echo t b => if t = portAddr then emit (.frame 0x30 b) s else s
  | .tcp t port num b close =>
    if t ≠ portAddr then s
    else
      let s := if b.isEmpty then s else relayData port num b s
      if close then relayClose port num s else s
  | .other => s

/-! ## Registers -/

/-- Reads of the SEC window but for the quartet and SEC_RNG. -/
def secRead (s : State) (o : Nat) : Word :=
  match o with
  | 0x00 =>
    place s.sec.sessions.length 7 5 ||| placeB s.fuse.a0Disable 4 ||| placeB (noClock s) 3 ||| placeB s.sec.debug 2 |||
      placeB s.sec.recovery 1 ||| placeB (s.sec.ready && s.sec.keys) 0
  | 0x20 => w32 s.fuse.serial
  | 0x24 => w32 (s.fuse.serial / 2 ^ 32)
  | 0x28 => place s.fuse.rollback 7 0
  | 0x2C => keySlots s
  | 0x100 => placeB s.sec.lock 0
  | 0x104 => placeB s.sec.trial 2 ||| placeB s.sec.fallback 1 ||| placeB s.sec.copyB 0
  | 0x108 => s.sec.version
  | 0x10C => s.sec.seq
  | _ => 0

/-! ## Meanings -/

/-- TLS_HANDSHAKE. -/
def execTlsHandshake (o : TlsOffer) (s : State) : Host.Outcome State Fault Refusal :=
  wfRun (.tlsHandshake o) (opTlsHandshake o) s
/-- SESSION_IDLE_TIMEOUT. -/
def execSessionIdleTimeout (n : Nat) (s : State) : Host.Outcome State Fault Refusal :=
  wfRun (.sessionIdleTimeout n) (opSessionIdleTimeout n) s
/-- SESSION_CLOSED. -/
def execSessionClosed (n : Nat) (s : State) : Host.Outcome State Fault Refusal :=
  wfRun (.sessionClosed n) (opSessionClosed n) s
/-- ATTEST. -/
def execAttest (n : Req) (b : List Byte) (s : State) : Host.Outcome State Fault Refusal :=
  wfRun (.attest n b) (opAttest n b) s
/-- CHALLENGE. -/
def execChallenge (n : Req) (s : State) : Host.Outcome State Fault Refusal := wfRun (.challenge n) (opChallenge n) s
/-- TOKEN. -/
def execToken (n : Req) (b : List Byte) (s : State) : Host.Outcome State Fault Refusal := wfRun (.token n b) (opToken n b) s
/-- READ_MEM. -/
def execReadMem (n : Req) (a c : Nat) (s : State) : Host.Outcome State Fault Refusal := wfRun (.readMem n a c) (opReadMem n a c) s
/-- CLEAR_RECORDS. -/
def execClearRecords (n : Req) (s : State) : Host.Outcome State Fault Refusal := wfRun (.clearRecords n) (opClearRecords n) s
/-- IMAGE_BEGIN. -/
def execImageBegin (n : Req) (len : Nat) (s : State) : Host.Outcome State Fault Refusal :=
  wfRun (.imageBegin n len) (opImageBegin n len) s
/-- IMAGE_DATA. -/
def execImageData (n : Req) (o : Nat) (b : List Byte) (s : State) : Host.Outcome State Fault Refusal :=
  wfRun (.imageData n o b) (opImageData n o b) s
/-- IMAGE_END. -/
def execImageEnd (n : Req) (s : State) : Host.Outcome State Fault Refusal := wfRun (.imageEnd n) (opImageEnd n) s
/-- INSTALLATION_COMPLETE. -/
def execInstallationComplete (s : State) : Host.Outcome State Fault Refusal :=
  wfRun .installationComplete opInstallationComplete s
/-- CONFIRM. -/
def execConfirm (n : Req) (s : State) : Host.Outcome State Fault Refusal := wfRun (.confirm n) (opConfirm n) s
/-- SEC_IMAGE_CONFIRM. -/
def execSecImageConfirm (i : Nat) (v : Word) (s : State) : Host.Outcome State Fault Refusal :=
  wfRun (.secImageConfirm i v) (opSecImageConfirm i v) s
/-- AUTO_CONFIRM. -/
def execAutoConfirm (s : State) : Host.Outcome State Fault Refusal := wfRun .autoConfirm opAutoConfirm s
/-- ACTIVATE. -/
def execActivate (n : Req) (s : State) : Host.Outcome State Fault Refusal := wfRun (.activate n) (opActivate n) s
/-- IMAGE_KEY_INSTALL. -/
def execImageKeyInstall (n : Req) (k : Nat) (w : List Byte) (s : State) : Host.Outcome State Fault Refusal :=
  wfRun (.imageKeyInstall n k w) (opImageKeyInstall n k w) s
/-- ANCHOR_INSTALL. -/
def execAnchorInstall (n : Req) (k : Nat) (b : List Byte) (s : State) : Host.Outcome State Fault Refusal :=
  wfRun (.anchorInstall n k b) (opAnchorInstall n k b) s
/-- KEY_SLOT_PROGRAM. -/
def execKeySlotProgram (n : Req) (k : Nat) (b : List Byte) (s : State) : Host.Outcome State Fault Refusal :=
  wfRun (.keySlotProgram n k b) (opKeySlotProgram n k b) s
/-- SLOT_REVOKE. -/
def execSlotRevoke (n : Req) (k : Nat) (s : State) : Host.Outcome State Fault Refusal := wfRun (.slotRevoke n k) (opSlotRevoke n k) s
/-- ANCHOR_A0_DISABLE. -/
def execAnchorA0Disable (n : Req) (s : State) : Host.Outcome State Fault Refusal :=
  wfRun (.anchorA0Disable n) (opAnchorA0Disable n) s
/-- DEBUG_OPEN. -/
def execDebugOpen (n : Req) (s : State) : Host.Outcome State Fault Refusal := wfRun (.debugOpen n) (opDebugOpen n) s
/-- RNG_READ. -/
def execRngRead (i : Nat) (s : State) : Host.Outcome State Fault Refusal := wfRun (.rngRead i) (opRngRead i) s
/-- RNG_HEALTH_FAIL. -/
def execRngHealthFail (s : State) : Host.Outcome State Fault Refusal := wfRun .rngHealthFail opRngHealthFail s
/-- MAINTENANCE_FRAME_RECEIVE. -/
def execMaintenanceFrameReceive (f : X5Frame) (s : State) : Host.Outcome State Fault Refusal :=
  wfRun (.maintenanceFrameReceive f) (opMaintenanceFrameReceive f) s

end Sys2Proof.Machine
end

