-- ==== Sys2Proof/Machine/TrdCtl.lean ====
section
/-! DEFINITION. Triads: quiet points, reintegration, hand-over between triad and split operation, restarts, rung 4 and L1
errors (03 R73, R89 to R98, 01 R40, R41). No meaning of this file releases a window. -/

namespace Sys2Proof.Machine

/-! ## Halting -/

/-- A triad that must not go on: its cores halt, unreleased windows go, its released jobs are missed, and a Safety or
Control triad takes the module to SAFE (R89, R40). -/
def haltTriad (t cause : Nat) (s : State) : State :=
  let s := account t s
  let s := missHalted t s
  let s := haltCores t s
  let s := modTri t (fun (x : Triad) => { x.emptied with
      state := 6, haltedAt := some s.clk.now, returnSince := none, stoppedAt := none }) s
  if runsSafety s t then enterSafe cause s else s

/-- No majority in window `num` (R89): NOMAJ, and the triad halts. -/
def noMajority (t num cause : Nat) (s : State) : State :=
  haltTriad t 0x3002 (raiseTriad 1 0x3002 cause t num (w32 num) (w32 cause) s)

/-! ## The check window (R91, R96, R97) -/

/-- The signature after one write-back record: file, register number or CSR address, value (R78). -/
def foldWb (sig : Dword) (file n : Nat) (v : Dword) : Dword :=
  sigRecord sig (BitVec.ofNat 64 (2 * 2 ^ 60 + file * 2 ^ 58 + n)) v

/-- A write-back record for every entry of a register table. -/
def foldFile (file : Nat) (sig : Dword) (l : List (Nat × Dword)) : Dword :=
  match l with
  | [] => sig
  | (n, v) :: t => foldFile file (foldWb sig file n v) t

/-- Signature of a check window over a core's registers (R91, R96). -/
def checkWindowSig (c : Core) : Dword :=
  let xs := (List.range 31).map (fun k => (k + 1, FMap.look c.x 0 (k + 1)))
  let fs := (List.range 32).map (fun k => (k, FMap.look c.f 0 k))
  foldFile 2 (foldFile 1 (foldFile 0 sigInit xs) fs)
    (FMap.insert c.csr 0xB02 (BitVec.ofNat 64 c.minstret))

/-- The first live position. -/
def Triad.firstLive (x : Triad) : Nat := x.livePos.headD 0

/-! ## Quiet points and reintegration -/

/-- QUIET (R90, R91): with a claimed reserve, the live cores pause after the store; rung 4, the window timer and
preemption are held. -/
def opQuiet (t : Nat) (s : State) : State :=
  let x := s.tri t
  if x.state = 2 && x.reintPending && !x.paused then
    let s := account t s
    modTri t (fun (x : Triad) => { x with
        state := 3, paused := true, pausedAt := s.clk.now, openedAt := none }) s
  else s

/-- The live cores resume: rung 4 goes on from where it was held, and the scheduler chooses again (R92). -/
def resume (t : Nat) (s : State) : State :=
  let held := s.clk.now - (s.tri t).pausedAt
  let s := account t s
  let s := modTri t (fun (x : Triad) => { x with paused := false }) s
  let s := modSchTri t (fun (x : SchTriad) => { x with
      disp := x.disp.map (fun (d : Disp) => { d with
        since := (match d.since with
          | some n => some (n + held)
          | none => none) }) }) s
  resched t s

/-- The commit buffer of `t` is empty: every closed window is resolved and none is open (R91). -/
def Triad.drained (x : Triad) : Bool := x.lanes.all (fun l => l.wins.isEmpty)

/-- A core's registers as another core takes them over: its own place, empty caches (R91, R97). -/
def Core.copied (c : Core) (t p : Nat) : Core :=
  { c with role := 0, triad := t, pos := p, running := true, clearing := false, l1i := [], l1d := [], resv := none }

/-- The reserve takes the empty position with the state of the first live core (R91). -/
def reintegrate (t : Nat) (s : State) : State :=
  let x := s.tri t
  let p := x.gap
  let n := resCore s x.reserveSel
  let src := s.core (x.coreAt x.firstLive)
  let num := (nth x.lanes x.firstLive {}).nextNum
  let old := x.excludedCore
  let s := joinCore t p n (modCore n (fun (_ : Core) => src.copied t p) s)
  let s := modTri t (fun (y : Triad) => { y with
      live := modAt y.live p (fun _ => true), state := 1,
      lanes := modAt y.lanes p (fun _ => { nextNum := num }) }) s
  resume t (event 0x2020 (trdDetail n p t) (w32 old) 0 s)

/-- The reserve differs in its check window: FAILED_TEST, REINT, and the other reserve is claimed (R91). -/
def reintFailed (t : Nat) (s : State) : State :=
  let x := s.tri t
  let p := x.gap
  let n := resCore s x.reserveSel
  let s := modCore n (fun (c : Core) => { c with role := 6, running := false, clearing := false }) s
  let s := { s with thr := { s.thr with failedTest := s.thr.failedTest ++ [n] } }
  let s := raiseCore 4 0x3005 0 n p t 0 (w32 x.excludedCore) 0 s
  resume t (claimReserve t (modTri t (fun (y : Triad) => { y with state := 2 }) s))

/-- Check signature of the core in position `p` of triad `t`; `d` is what a fault of that core adds to it. -/
def trdCheckSig (s : State) (t p : Nat) (d : Dword) : Dword := checkWindowSig (s.core ((s.tri t).coreAt p)) ^^^ d

/-- The second live position. -/
def Triad.secondLive (x : Triad) : Nat := nth x.livePos 1 0

/-- REINTEGRATION (R91): once the commit buffer is empty and the clearing is done, the state of the first live core is copied
and one check window runs in both live cores and in the reserve, whose three signatures are voted. `da`, `db` and `dr` are
what faults of the three cores add to their signatures. The number of the check window, which a no majority captures, the
spec does not state: a free value (log 64). -/
def opReintegration (t : Nat) (da db dr : Dword) (s : State) : State :=
  let x := s.tri t
  if x.state = 3 && x.paused && x.reintPending && x.drained && !(s.core (resCore s x.reserveSel)).clearing then
    let a := trdCheckSig s t x.firstLive da
    if a ≠ trdCheckSig s t x.secondLive db then noMajority t (freshNat s) 0 (drawn s)
    else if a = trdCheckSig s t x.firstLive dr then reintegrate t s
    else reintFailed t s
  else s

/-- RESERVE_L1_CLEAR_DONE (R91). -/
def opReserveL1ClearDone (r : Nat) (s : State) : State :=
  modCore (resCore s r) (fun (c : Core) => { c with clearing := false }) s

/-! ## Hand-over (R96, R97) -/

/-- A hand-over request is refused. -/
def refuseSplit (t res : Nat) (s : State) : State := modTri t (fun (x : Triad) => { x with hoResult := res }) s

/-- TO_SPLIT (R96): refused, or the hand-over begins. -/
def opToSplit (t : Nat) (s : State) : State :=
  let x := s.tri t
  if !(decide (1 ≤ x.state) && decide (x.state ≤ 3)) then s
  else if !x.handover then refuseSplit t 2 s
  else if x.state ≠ 1 ∨ x.reintPending then refuseSplit t 3 s
  else if runsSafety s t then refuseSplit t 4 s
  else
    let s := account t s
    modTri t (fun (x : Triad) => { x with state := 5, openedAt := none }) s

/-- SPLIT_START (R96): the commit buffer is empty; the voted state is saved with its check signature, caches are
invalidated, and each core starts at the ENTRY of its split image with a0 holding HO_COUNT, this move counted (log 65).
HO_RESULT reads DONE from here on. -/
def opSplitStart (t : Nat) (s : State) : State :=
  let x := s.tri t
  if x.state = 5 && x.stoppedAt.isNone && x.drained then
    let src := s.core (x.coreAt x.firstLive)
    let count := (x.hoCount + 1) % 65536
    let s := modTri t (fun (x : Triad) => { x with
        state := 4, live := [false, false, false], hoCount := count, hoResult := 1, saved := some src,
        savedSig := checkWindowSig src,
        lanes := x.lanes.map (fun (l : Lane) => { l with stopped := false, req := none }),
        held := [], irqs := [], closeAt := [], stamps := [], returnSince := none, stoppedAt := none }) s
    let s := forAll (s.tri t).filled (fun p s => startSplitCore t count p s) s
    let s := forAll x.irqs (fun i s => irqTriad t (s.tri t).filled i s) s
    resched t (event 0x2021 (trdDetail 255 3 t) (w32 count) 0 (modSchTri t (fun (y : SchTriad) => { y with
        disp := y.disp.map (fun (d : Disp) => { d with mark := s.clk.now }) }) s))
  else s

/-- Position `p` of a split triad stops at its TO_TRIAD store or at the return timer. -/
def stopSplit (t p : Nat) (s : State) : State :=
  modTri t (fun (x : Triad) => { x with lanes := modAt x.lanes p (fun (l : Lane) => { l with stopped := true }) })
    (modCore ((s.tri t).coreAt p) (fun (c : Core) => { c with running := false }) s)

/-- Positions whose split core still runs. -/
def splitRunning (s : State) (t : Nat) : List Nat :=
  (s.tri t).filled.filter (fun p => (s.core ((s.tri t).coreAt p)).running)

/-- The last split core has stopped: the state is to be restored. -/
def beginReturn (t : Nat) (s : State) : State :=
  modTri t (fun (x : Triad) => { x with state := 5, returnSince := none, stoppedAt := some s.clk.now }) (account t s)

/-- TO_TRIAD (R97): a split core of a triad with HANDOVER stops at its store; the first one starts the return timer (log
66). -/
def opToTriad (core : Nat) (s : State) : State :=
  let c := s.core core
  let t := c.triad
  let x := s.tri t
  if c.role = 1 && c.running && decide (x.state = 4) && x.handover then
    let s := stopSplit t c.pos s
    let s := modTri t (fun (x : Triad) => { x with
        returnSince := (match x.returnSince with
          | some n => some n
          | none => some s.clk.now) }) s
    if (splitRunning s t).isEmpty then beginReturn t s else s
  else s

/-- Work that core `n`, stopped in position `p`, had in flight is aborted: transactions at their targets' ports, and items that
the bridge holds without having answered them (R97, R36, log 179). -/
def abortFlights (t p : Nat) (s : State) : State :=
  let n := (s.tri t).coreAt p
  let mine := s.rch.flight.filter (fun f => decide (f.txn.init = n))
  let items := s.culm.out.filter (fun o => !o.posted && decide (o.item.init = n))
  let s := modTri t (fun (x : Triad) => { x with
      held := x.held.filter (fun h => decide (h.only ≠ some p)),
      lanes := modAt x.lanes p (fun (l : Lane) => { l with req := none }) }) s
  let s := { s with
    rch := { s.rch with flight := s.rch.flight.filter (fun f => decide (f.txn.init ≠ n)) },
    culm := { s.culm with out := s.culm.out.filter (fun o => o.posted || decide (o.item.init ≠ n)) } }
  let s := forAll mine (fun f s => emit (.response f.txn.init 6 (if f.txn.kind = .write then [] else zeros f.txn.size)) s) s
  forAll items (abortOut 6 2) s

/-- HANDOVER_TIMEOUT (R97): the return timer has run 9 ms at least; every split core still running is stopped. -/
def opHandoverTimeout (t : Nat) (s : State) : State :=
  if (s.tri t).state = 4 && due (s.tri t).returnSince 9000000 s.clk.now then
    let left := splitRunning s t
    let s := forAll left (fun p s => abortFlights t p (stopSplit t p s)) s
    beginReturn t (raiseTriad 5 0x3006 0 t 0 (w32 (left.foldl (fun a p => a + 2 ^ p) 0)) 0 s)
  else s

/-- The saved state goes back into the cores of the positions `ps`, and voting resumes (R97). -/
def restoreSaved (t : Nat) (c : Core) (ps : List Nat) (s : State) : State :=
  let s := forAll ps (fun p s => modCore ((s.tri t).coreAt p) (fun (_ : Core) => c.copied t p) s) s
  let num := ((s.tri t).lanes.map (fun (l : Lane) => l.nextNum)).foldl Nat.max 0
  modTri t (fun (x : Triad) => { x with
      state := if ps.length = 3 then 1 else 2,
      live := (List.range 3).map (fun p => ps.contains p),
      lanes := [{ nextNum := num }, { nextNum := num }, { nextNum := num }],
      saved := none, stoppedAt := none }) s

/-- The vote of check signatures: two equal ones, the first found (R87). -/
def sigMajority (l : List Dword) : Option Dword :=
  match l with
  | [] => none
  | a :: t => if t.contains a then some a else sigMajority t

/-- The saved state is trusted: it is there, and the check window that the filled positions run over it, with what faults `ds`
of their cores add, is voted equal to the stored signature (R97). -/
def savedGood (x : Triad) (ds : List Dword) : Bool :=
  match x.saved with
  | none => false
  | some c => decide (sigMajority (x.filled.map (fun p => checkWindowSig c ^^^ nth ds p 0)) = some x.savedSig)

/-- TRIAD_RESTORE (R97): the saved state is restored and checked; else RESTORE, and the triad restarts at ENTRY. `ds` is
what faults of the three cores add to their check signatures. A triad that has never moved to split has no saved state to
trust (log 66). -/
def opTriadRestore (t : Nat) (ds : List Dword) (s : State) : State :=
  let x := s.tri t
  if x.state = 5 && x.stoppedAt.isSome then
    let s := modSchTri t (fun (y : SchTriad) => { y with
        disp := y.disp.map (fun (d : Disp) => { d with mark := s.clk.now }) }) s
    if savedGood x ds then
      let s := restoreSaved t (x.saved.getD {}) x.filled s
      resched t (event 0x2022 (trdDetail 255 3 t) (w32 x.hoCount) 0 s)
    else
      let s := modTri t (fun (x : Triad) => { x with saved := none, stoppedAt := none }) s
      resched t (startVoting t x.filled (raiseTriad 6 0x3007 0 t 0 (w32 x.hoCount) 0 s))
  else s

/-- A store to TRD_TRIAD_CTRL: from the triad's voter in triad operation, or from its own split cores; the lowest-numbered
field that has an effect acts. -/
def opTriadCtrl (init t : Nat) (v : Word) (s : State) : State :=
  let x := s.tri t
  if x.state = 4 then
    if bitOf v 2 && decide (init < 20) && decide ((s.core init).triad = t) then opToTriad init s else s
  else if init ≠ voterId t then s
  else if bitOf v 0 && x.reintPending then opQuiet t s
  else if bitOf v 1 then opToSplit t s
  else s

/-! ## Restart (R89), rung 4 (R40, R41), L1 errors (R73) -/

/-- A claimed reserve takes the empty position at a restart (R89). -/
def joinReserve (t : Nat) (s : State) : State :=
  let x := s.tri t
  if x.reintPending then joinCore t x.gap (resCore s x.reserveSel) s else s

/-- TRIAD_RESTART (R89): a halted triad without Safety and Control tasks restarts at ENTRY once a claimed reserve's clearing
is done. -/
def opTriadRestart (t : Nat) (s : State) : State :=
  let x := s.tri t
  if x.state = 6 && x.haltedAt.isSome && !runsSafety s t &&
      !(x.reintPending && (s.core (resCore s x.reserveSel)).clearing) then
    let s := joinReserve t s
    resched t (startVoting t (s.tri t).filled (modTri t (fun (y : Triad) => { y with haltedAt := none }) s))
  else s

/-- The first position whose dispatch request has waited for rung 4's minimum of 200 µs; a paused triad's does not run. -/
def rung4 (s : State) (t : Nat) : Option Nat :=
  if (s.tri t).paused then none
  else (dispPos s t).find? (fun p => (dispAt s t p).pending && due (dispAt s t p).since 200000 s.clk.now)

/-- Split cores restart at the ENTRY of their own images (R41). -/
def restartSplit (t : Nat) (s : State) : State :=
  let s := modTri t (fun (x : Triad) => { x.emptied with state := 4, haltedAt := none, returnSince := none }) s
  resched t (forAll (s.tri t).filled (fun p s => startSplitCore t (s.tri t).hoCount p s) s)

/-- TRD_WATCHDOG: rung 4 expires: the triad halts, its jobs are missed, and it goes to SAFE or restarts (R40, R41). -/
def opTrdWatchdog (t : Nat) (s : State) : State :=
  match rung4 s t with
  | none => s
  | some p =>
    let splitOp := decide ((s.tri t).state = 4)
    let s := raiseTriad 8 0x3010 0 t 0 (w32 (dispAt s t p).next) (cycleWord s) s
    let s := haltTriad t 0x3010 s
    if splitOp && !runsSafety s t then restartSplit t s else s

/-- A line invalidated and fetched again: what the cache held of it is what memory holds, so nothing else shows (R73). -/
def refetched (l : List Nat) (n : Nat) : List Nat := if l.contains n then fillL1 (l.erase n) n else l

/-- L1_ERROR (R73): an uncorrectable error in a line of the data or the instruction cache: the line is invalidated
and refetched; L1, with one record a second. -/
def opL1Error (l : L1Line) (s : State) : State :=
  let c := s.core l.core
  if !c.running then s
  else
    let s := modCore l.core (fun (c : Core) =>
      if l.data then { c with l1d := refetched c.l1d (l.addr / 64) } else { c with l1i := refetched c.l1i (l.addr / 64) }) s
    eventRate 0x2008 0 (trdDetail l.core c.pos c.triad) 0
      (errTrd 7 (trdInfo 7 0 l.core c.pos c.triad) 0 s)

/-! ## Meanings -/

/-- RESERVE_L1_CLEAR_DONE. -/
def execReserveL1ClearDone (r : Nat) (s : State) : Host.Outcome State Fault Refusal :=
  wfRun (.reserveL1ClearDone r) (opReserveL1ClearDone r) s
/-- L1_ERROR. -/
def execL1Error (l : L1Line) (s : State) : Host.Outcome State Fault Refusal := wfRun (.l1Error l) (opL1Error l) s

end Sys2Proof.Machine
end

