-- ==== Sys2Proof/Machine/Regs.lean ====
section
/-! DEFINITION. The register map (21): what a read of any register gives, and what a write of any register by any initiator
does. A register that a command of its own writes does here what that command does. -/

namespace Sys2Proof.Machine

/-! ## Error sets (R424) -/

/-- The error set of a block window; empty for the windows that have none at these offsets. -/
def blockErr (s : State) (w : Nat) : ErrBlk :=
  match w with
  | 0 => s.trd.err
  | 1 => s.awn.err
  | 2 => s.cyc.err
  | 3 => s.sch.err
  | 5 => s.vyf.err
  | 6 => s.hub.err
  | 7 => s.pair.err
  | 8 => s.glm.err
  | 9 => s.fio.err
  | 10 => s.can0.err
  | 11 => s.can1.err
  | 12 => s.culm.err
  | 13 => s.sup.err
  | 14 => s.sec.err
  | 15 => s.thr.err
  | 16 => s.grn.err
  | _ => {}

/-- Change it. -/
def modErr (w : Nat) (f : ErrBlk → ErrBlk) (s : State) : State :=
  match w with
  | 0 => { s with trd := { s.trd with err := f s.trd.err } }
  | 1 => { s with awn := { s.awn with err := f s.awn.err } }
  | 2 => { s with cyc := { s.cyc with err := f s.cyc.err } }
  | 3 => { s with sch := { s.sch with err := f s.sch.err } }
  | 5 => { s with vyf := { s.vyf with err := f s.vyf.err } }
  | 6 => { s with hub := { s.hub with err := f s.hub.err } }
  | 7 => { s with pair := { s.pair with err := f s.pair.err } }
  | 8 => { s with glm := { s.glm with err := f s.glm.err } }
  | 9 => { s with fio := { s.fio with err := f s.fio.err } }
  | 10 => { s with can0 := { s.can0 with err := f s.can0.err } }
  | 11 => { s with can1 := { s.can1 with err := f s.can1.err } }
  | 12 => { s with culm := { s.culm with err := f s.culm.err } }
  | 13 => { s with sup := { s.sup with err := f s.sup.err } }
  | 14 => { s with sec := { s.sec with err := f s.sec.err } }
  | 15 => { s with thr := { s.thr with err := f s.thr.err } }
  | 16 => { s with grn := { s.grn with err := f s.grn.err } }
  | _ => s

/-- The number of errors, and so of interrupt enables, of a block window. -/
def errCount (w : Nat) : Nat :=
  match w with
  | 0 => 9 | 1 => 7 | 2 => 8 | 3 => 4 | 5 => 7 | 6 => 7 | 7 => 8 | 8 => 7 | 9 => 10 | 10 => 7 | 11 => 7
  | 12 => 8 | 13 => 9 | 14 => 9 | 15 => 9 | 16 => 3 | _ => 0

/-- Reads of the quartet at 0x10 of a block window. -/
def quartetRead (e : ErrBlk) (o : Nat) : Word :=
  match o with
  | 0x10 => e.status
  | 0x14 => e.irqEn
  | 0x18 => e.info
  | 0x1C => e.aux
  | _ => 0

/-- A write of the quartet: W1C, RW, W1C flags (R11, R32). -/
def quartetWrite (n o : Nat) (v : Word) (e : ErrBlk) : ErrBlk :=
  match o with
  | 0x10 => e.clearStatus v
  | 0x14 => e.setIrq n v
  | 0x18 => e.clearInfo v
  | _ => e

/-! ## LK fields (R421) -/

/-- The bits of a register that are LK fields; 0 where it has none. -/
def lkMask (w o : Nat) : Nat :=
  match w with
  | 2 =>
    if o = 0x20 then 0x3FFFF else if o = 0x24 then 0xFFFF else if o = 0x28 then 0x80001FFF
    else if o = 0x30 ∨ o = 0x34 then 0xFFFFFF
    else if 0x1000 ≤ o ∧ o < 0x1800 then
      (match o % 16 with
        | 0 => 0x81FF00FF
        | 4 => 0xFF7F7F00
        | 8 => 0xFF7F7F00
        | _ => 0)
    else if 0x8000 ≤ o then 0xFFFFFFFF else 0
  | 3 =>
    if o = 0x30 then 0x0FFFFFFF else if o = 0x34 then 0xFFFFFFFF
    else if 0x1000 ≤ o ∧ o < 0x2000 ∧ o % 16 = 0 then 0x80001FF7 else 0
  | 4 =>
    if 0x1000 ≤ o ∧ o < 0x5000 then
      (match o % 16 with
        | 0 => 0xFFFFFF
        | 4 => 0xFFFFFF
        | 8 => 0xF
        | _ => 0)
    else 0
  | 5 => if o = 0x3C then 0xFFFFFFFF else if o = 0x40 then 0x71FF3 else 0
  | 6 => if o = 0x20 then 0x3FFFFFF else if o = 0x24 then 0x1FFFF else 0
  | 7 => if o = 0x44 then 0xFFFFFF else if o = 0x48 then 0x1F else 0
  | 8 => if o = 0x20 then 0x3FF00FF else if o = 0x24 then 0xFFFFFF else 0
  | 9 =>
    if o = 0x20 then 0x33FFF
    else if 0x200 ≤ o ∧ o < 0x2A0 then 0x3FF07
    else if 0x400 ≤ o ∧ o < 0x480 then (if o % 8 = 0 then 0x83FFF1FF else 0xFFFF03FF)
    else 0
  | 10 => canMask o
  | 11 => canMask o
  | 12 =>
    if 0x1000 ≤ o ∧ o < 0x1200 then
      (match o % 0x20 with
        | 0x4 => 0x1FFF0000
        | 0x8 => 0x3FFF0000
        | 0xC => 0xFFFF0000
        | 0x10 => 0x1F
        | _ => 0)
    else if 0x1400 ≤ o ∧ o < 0x1480 then
      (match o % 0x20 with
        | 0x4 => 0xFFFF0000
        | 0x8 => 0x3FFF0000
        | 0xC => 0xFFFFFF
        | 0x10 => 0x7
        | _ => 0)
    else 0
  | _ => 0
where
  /-- LK bits of a CAN window. -/
  canMask (o : Nat) : Nat :=
    if 0x1000 ≤ o ∧ o < 0x1800 then
      (match o % 16 with
        | 4 => 0x1FFFFFFF
        | 8 => 0x1FFFFFFF
        | 12 => 0xF3F
        | _ => 0)
    else
      match o with
      | 0x24 => 0x7FFFFFFF
      | 0x28 => 0x3F3F1F1F
      | 0x2C => 0x1007F
      | 0x30 => 0xFF1F
      | 0x34 => 0x7FFFF03
      | 0x38 => 0xFFFFFFFF
      | 0x48 => 0xFF
      | _ => 0

/-! ## Reads -/

/-- Store records that a lane holds (R84). -/
def Lane.level (l : Lane) : Nat := (l.wins.map (fun w => w.stores.length)).foldl (· + ·) 0

/-- Reads of a triad's block of the TRD window (03 registers). -/
def trdTriRead (x : Triad) (o : Nat) : Word :=
  match o with
  | 0x00 =>
    placeB x.handover 25 ||| placeB x.split 24 ||| place (x.coreAt 2) 20 16 ||| place (x.coreAt 1) 12 8 |||
      place (x.coreAt 0) 4 0
  | 0x04 =>
    place x.hoCount 31 16 ||| place x.hoResult 14 12 ||| place x.reserveSel 9 9 ||| placeB x.reintPending 8 |||
      place x.state 6 4 ||| place (maskOf x.live) 2 0
  | 0x08 => w32 x.window
  | 0x0C => w32 (x.window / 2 ^ 32)
  | 0x10 => w32 x.sig.toNat
  | 0x14 => w32 (x.sig.toNat / 2 ^ 32)
  | 0x18 => place x.highWater 26 16 ||| place ((x.lanes.map Lane.level).foldl Nat.max 0) 10 0
  | _ => 0

/-- TRD_CORE_STATE (03 registers). -/
def coreState (c : Core) : Word :=
  let shown := decide (c.role = 0 ∨ c.role = 1 ∨ c.role = 3)
  place (if shown then c.pos else 3) 9 8 ||| place (if shown then c.triad else 7) 6 4 ||| place c.role 2 0

/-- Reads of the TRD window but for the quartet. -/
def trdRead (s : State) (o : Nat) : Word :=
  let d := s.trd
  if o = 0x20 then
    placeB (nth d.resFree 1 false) 13 ||| place (nth d.reserves 1 0) 12 8 ||| placeB (nth d.resFree 0 false) 5 |||
      place (nth d.reserves 0 0) 4 0
  else if o = 0x34 then place d.voterFail 13 8 ||| placeB d.cmpPass 1 ||| placeB d.cmpDone 0
  else if o = 0x38 then place d.pathFail 19 0
  else if 0x80 ≤ o ∧ o < 0xD0 then coreState (s.core ((o - 0x80) / 4))
  else if 0x100 ≤ o ∧ o < 0x280 then trdTriRead (s.tri ((o - 0x100) / 0x40)) ((o - 0x100) % 0x40)
  else 0

/-- Reads of the RCH window but for the LK registers (01, 07). -/
def rchRead (s : State) (o : Nat) : Word :=
  let r := s.rch
  match o with
  | 0x10 => r.err.status
  | 0x14 => r.err.irqEn
  | 0x18 => r.err.aux
  | 0x1C => r.err.aux2
  | 0x20 => r.err.info
  | 0x100 => r.mem.status
  | 0x104 => r.mem.irqEn
  | 0x108 => r.mem.aux
  | 0x10C => r.mem.aux2
  | 0x110 => r.mem.info
  | 0x118 => place r.dramPasses 31 16 ||| place r.mramPasses 15 0
  | 0x120 => r.lastQuench
  | 0x124 => r.lastQuenchEv
  | _ => 0

/-- The fabric's own quartet at 0x90 of the VYF window (R424). -/
def fabQuartet (s : State) (o : Nat) : Word := if 0x90 ≤ o ∧ o < 0xA0 then quartetRead s.fab.err (o - 0x80) else 0

/-- The fields of a block that are its own. -/
def blockRead (s : State) (w o : Nat) : Word :=
  match w with
  | 0 => trdRead s o
  | 1 => awnReg s o
  | 2 => cycRead s o
  | 3 => schRead s o
  | 4 => rchRead s o
  | 5 => vyfRead s o ||| fabRead s o ||| fabQuartet s o
  | 6 => hubRead s o
  | 7 => pairRead s o
  | 8 => glmRead s o
  | 9 => fioRead s o
  | 10 => canRead s 0 o
  | 11 => canRead s 1 o
  | 12 => culmRead s o
  | 13 => supRead s o
  | 14 => if o = 0x40 then rngValue s else secRead s o
  | 15 => thrRead s o
  | 16 => grnRead s o
  | 17 => lifeWindow s o
  | 18 => aonRead s o
  | _ => 0

/-- The value of the register at offset `o` of window `w`; an offset that names none reads 0 (R418). -/
def regRead (s : State) (w o : Nat) : Word :=
  blockRead s w o ||| (if w = 4 then 0 else quartetRead (blockErr s w) o) ||| (lkAt s w o &&& w32 (lkMask w o))

/-- What a read of a register changes: CANn_OBJ_STAT clears NEW (R330), SEC_RNG draws (R367), a damaged life counter raises
MUE (07 R173). -/
def regReadEffect (w o : Nat) (s : State) : State :=
  if (w = 10 ∨ w = 11) ∧ 0x3000 ≤ o ∧ o < 0x3800 ∧ o % 16 = 0 then objStatTake (w - 10) ((o - 0x3000) / 16) s
  else if w = 14 ∧ o = 0x40 then rngTaken s
  else if w = 17 then
    match lifeOffset o with
    | some off => if touchesBad s.mem.mramBad off 8 then mramProbe off 8 s else s
    | none => s
  else s

/-! ## Writes -/

/-- CYC_MODE_REQ (R145). -/
def modeReqWrite (init : Nat) (v : Word) (s : State) : State :=
  match fieldOf v 2 0 with
  | 1 => opModeReqRun init s
  | 2 => opModeReqStop init s
  | 3 => opModeReqHold init s
  | _ => s

/-- Writes of the CYC window. -/
def cycRegWrite (init o : Nat) (v : Word) (s : State) : State :=
  if o = 0 then modeReqWrite init v s
  else if o = 0x40 then opExchStart init v s
  else if o = 0x100 then opOlcCommit init v s
  else if 0x200 ≤ o ∧ o < 0x300 ∧ o % 16 ≠ 12 then olcWrite init o v s
  else if 0x400 ≤ o ∧ o < 0x500 then opForceEntryWrite init ((o - 0x400) / 4) v s
  else s

/-- Writes of the SCH window: SCH_RUNNING and SCH_DONE. -/
def schWrite (init o : Nat) (v : Word) (s : State) : State :=
  if 0x100 ≤ o ∧ o < 0x280 then
    let t := (o - 0x100) / 0x40
    let r := (o - 0x100) % 0x40
    if 0x10 ≤ r ∧ r < 0x1C then opDispatchTake init t ((r - 0x10) / 4) v s
    else if 0x20 ≤ r ∧ r < 0x2C then opJobDone init t ((r - 0x20) / 4) v s
    else s
  else s

/-- Writes of the RCH window (01, 07). -/
def rchWrite (o : Nat) (v : Word) (s : State) : State :=
  let r := s.rch
  match o with
  | 0x10 => { s with rch := { r with err := r.err.clearStatus v } }
  | 0x14 => { s with rch := { r with err := r.err.setIrq 7 v } }
  | 0x20 => { s with rch := { r with err := r.err.clearInfo v } }
  | 0x100 => { s with rch := { r with mem := r.mem.clearStatus v } }
  | 0x104 => { s with rch := { r with mem := r.mem.setIrq 4 v } }
  | 0x110 => { s with rch := { r with mem := r.mem.clearInfo v } }
  | _ => s

/-- Writes of a CAN window: CTRL, OBJ_CTRL and the object data. -/
def canWrite (init n o : Nat) (v : Word) (s : State) : State :=
  if o = 0 then
    let s := opCanEnableWrite n v s
    if bitOf v 2 then opRecover n s else s
  else if 0x1000 ≤ o ∧ o < 0x1800 ∧ o % 16 = 0 then
    let k := (o - 0x1000) / 16
    let s := opCanObjectEnableWrite n k v s
    if bitOf v 2 then opTxReq init n k s else s
  else if 0x4000 ≤ o ∧ o < 0x6000 then canDataWrite init n ((o - 0x4000) / 64) (o % 64) (le 4 v.toNat) s
  else s

/-- Writes of the CULM window: the windows' enables. -/
def culmWrite (init o : Nat) (v : Word) (s : State) : State :=
  if 0x1000 ≤ o ∧ o < 0x1200 ∧ o % 0x20 = 0 then opCulmWindowEnableWrite init false ((o - 0x1000) / 0x20) v s
  else if 0x1400 ≤ o ∧ o < 0x1480 ∧ o % 0x20 = 0 then opCulmWindowEnableWrite init true ((o - 0x1400) / 0x20) v s
  else s

/-- SUP_SHUTDOWN_CTRL (R414, R415). -/
def shutdownWrite (init : Nat) (v : Word) (s : State) : State :=
  let s := if bitOf v 0 then opShutdownGo init v s else if bitOf v 1 then opShutdownRestart init s else s
  if bitOf v 2 then opShutdownReady init s else s

/-- Writes of the AON window: the set registers take the security engine's writes only. -/
def aonWrite (init o : Nat) (v : Word) (s : State) : State :=
  if o = 0 then opAonSnap init v s
  else if o = 0x28 then opAonRtcSet init v s
  else if init ≠ secId then s
  else if o = 0x20 then { s with aon := { s.aon with setLo := v } }
  else if o = 0x24 then { s with aon := { s.aon with setHi := v } }
  else s

/-- The registers that are not RW, W1C or LK data: what their write does. -/
def blockWrite (init w o : Nat) (v : Word) (s : State) : State :=
  match w with
  | 0 =>
    if o = 0x30 then opCmptestStart init v s
    else if 0x100 ≤ o ∧ o < 0x280 ∧ (o - 0x100) % 0x40 = 0x1C then opTriadCtrl init ((o - 0x100) / 0x40) v s
    else s
  | 1 => if o = 0 then opAwnEnableWrite init v s else s
  | 2 => cycRegWrite init o v s
  | 3 => schWrite init o v s
  | 4 => rchWrite o v s
  | 5 =>
    if o = 0x44 then opVyfModeReq init v s
    else if 0x90 ≤ o ∧ o < 0xA0 then
      { s with fab := { s.fab with err := quartetWrite 5 (o - 0x80) v s.fab.err } }
    else s
  | 6 => if 0x100 ≤ o ∧ o < 0x200 ∧ o % 0x20 = 0 then opHubPortEnableWrite init ((o - 0x100) / 0x20) v s else s
  | 7 => if o = 0x30 then opPairSwitch init v s else s
  | 8 => if 0x1000 ≤ o ∧ o < 0x3000 ∧ o % 16 = 0 then opGlmConnEnableWrite init ((o - 0x1000) / 16) v s else s
  | 9 =>
    if o = 0x30 then opFaultReset init (bitOf v 31) (fieldOf v 17 16) (fieldOf v 15 0) s
    else if o = 0x34 then opOvlReset init (fieldOf v 17 16) (fieldOf v 15 0) s
    else s
  | 10 => canWrite init 0 o v s
  | 11 => canWrite init 1 o v s
  | 12 => culmWrite init o v s
  | 13 => if o = 0x44 then shutdownWrite init v s else s
  | 14 =>
    if o = 0x100 then opProtLock init v s else if o = 0x110 then opSecImageConfirm init v s else s
  | 18 => aonWrite init o v s
  | _ => s

/-- A write of the register at offset `o` of window `w` (R11, R418, R420, R421). -/
def regWrite (init w o : Nat) (v : Word) (s : State) : State :=
  if !s.mod.mode.released then s
  else
    let s := if lkMask w o ≠ 0 ∧ lkWritable s init then lkPut w o (v &&& w32 (lkMask w o)) s else s
    let s := if 0x10 ≤ o ∧ o < 0x20 then modErr w (quartetWrite (errCount w) o v) s else s
    blockWrite init w o v s

end Sys2Proof.Machine
end

