-- ==== Sys2Proof/Machine/Scrub.lean ====
section
/-! DEFINITION. The memory scrubbers (07 R171, R173, R185): each reads one 64-byte line and goes on to the next. -/

namespace Sys2Proof.Machine

/-- What a scrubber finds in a line: a line that the model holds as damaged is uncorrectable whatever is observed. -/
def scrubFinds (bad : List Nat) (o : Nat) (r : Scrub) : Scrub := if touchesBad bad o 64 then .uncorrectable else r

/-- The beats of a line marked damaged. -/
def markLine (bad : List Nat) (o : Nat) : List Nat :=
  bad.filter (fun b => !(decide (o / 8 ≤ b) && decide (b < o / 8 + 8))) ++ (List.range 8).map (fun k => o / 8 + k)

/-- The DRAM scrubber goes on; a full pass is counted, saturating (R171, RCH_SCRUB). -/
def dramScrubNext (s : State) : State :=
  let n := s.rch.dramScrub + 1
  if n < 0x4000000 then { s with rch := { s.rch with dramScrub := n } }
  else { s with rch := { s.rch with dramScrub := 0, dramPasses := satInc 0xFFFF s.rch.dramPasses } }

/-- The MRAM scrubber goes on (R173). -/
def mramScrubNext (s : State) : State :=
  let n := s.rch.mramScrub + 1
  if n < 0x40000 then { s with rch := { s.rch with mramScrub := n } }
  else { s with rch := { s.rch with mramScrub := 0, mramPasses := satInc 0xFFFF s.rch.mramPasses } }

/-- DRAM_SCRUB (R171): a correctable error is corrected and counted under CE of R30; an uncorrectable one stays and raises
SUE, and the next read of the line ends with ERR_DATA. The scrubber has no initiator ID: the captured one is free
(log 62). Which of the line's beats are damaged the step does not say: all
eight count as damaged (log 60). The scrubber runs once the DRAM has been cleared (R170). -/
def opDramScrub (r : Scrub) (s : State) : State :=
  if !s.mod.mode.released || !s.mod.dramDone then s
  else
    let o := 64 * s.rch.dramScrub
    match scrubFinds s.mem.dramBad o r with
    | .clean => dramScrubNext s
    | .correctable => dramScrubNext (raiseRchCe (freshNat s % 64) false (dramBase + o) (drawn s))
    | .uncorrectable =>
      let s := { s with mem := { s.mem with dramBad := markLine s.mem.dramBad o } }
      dramScrubNext (raiseMem 2 0x340A 0 (dramBase + o) s)

/-- The slot of the security area that a damaged line at MRAM offset `o` holds: which of the eight it is the spec does not
lay out, and whether it is one at all (log 61). A record that is left without a good slot is absent from then on and raises
AREA (17 R363). -/
def areaHit (o : Nat) (s : State) : State :=
  if 0x10000 ≤ o ∧ o < 0x40000 then
    let k := freshNat s % 9
    let s := drawn s
    let was := (s.area.record (k / 2)).spoilt
    let s := if k < 8 then { s with area := s.area.set (k / 2) ((s.area.record (k / 2)).spoil (k % 2)) } else s
    if k < 8 ∧ !was ∧ (s.area.record (k / 2)).spoilt ∧ s.sec.ready then raiseSec 6 0x3D33 (k / 2) 0 15 0 0 s else s
  else s

/-- MRAM_SCRUB (R173): a correctable error is written back corrected and raises MCE; an uncorrectable one leaves the word
and raises MUE. -/
def opMramScrub (r : Scrub) (s : State) : State :=
  if !s.mod.mode.released then s
  else
    let o := 64 * s.rch.mramScrub
    match scrubFinds s.mem.mramBad o r with
    | .clean => mramScrubNext s
    | .correctable => mramScrubNext (raiseMce 2 (mramBase + o) s)
    | .uncorrectable =>
      let s := { s with mem := { s.mem with mramBad := markLine s.mem.mramBad o } }
      mramScrubNext (raiseMem 1 0x3409 2 (mramBase + o) (areaHit o s))

/-- DRAM_SCRUB. -/
def execDramScrub (r : Scrub) (s : State) : Host.Outcome State Fault Refusal := wfRun (.dramScrub r) (opDramScrub r) s

/-- MRAM_SCRUB. -/
def execMramScrub (r : Scrub) (s : State) : Host.Outcome State Fault Refusal := wfRun (.mramScrub r) (opMramScrub r) s

end Sys2Proof.Machine
end

