-- ==== Sys2Proof/Machine/Rachis.lean ====
section
/-! DEFINITION. Rachis (01): a transaction from its firewall to its response, the rungs that end one without an answer, the
protocol engines' rung, the clock monitors, and the fall of the active fields. -/

namespace Sys2Proof.Machine

/-! ## The target's effect -/

/-- An access of `n` bytes has a size and alignment that Rachis allows: those of R22, and 4 bytes only in the register space,
whether or not a register lies there (R9, R22). -/
def rachisSizeOk (addr n : Nat) : Bool :=
  sizeOk addr n && (!(decide (regBase ≤ addr) && decide (addr < regBase + 0x1000000)) || decide (n = 4))

/-- Why no target can take a transaction, or none: the response of R21, R22, R28 that it ends with. The firewall stands at the
port, before the crossbar; size and alignment are judged before the address (log 74). -/
def mapRefusal (s : State) (init : Nat) (kind : RKind) (addr n : Nat) : Option Nat :=
  let write := decide (kind = .write)
  if !firewallOk s init kind addr n then some 2
  else if !rachisSizeOk addr n then some 5
  else
    match placeOf addr with
    | .unmapped => some 1
    | .rom _ => if write then some 1 else none
    | .nor _ _ => if write then some 1 else none
    | .reg _ _ => none
    | .awn o =>
      if (List.range n).all (fun k => if write then awnStageable (o + k) else awnMapped (o + k)) then none else some 1
    | .mram _ => none
    | .dram _ => none
    | .culm => none

/-- A transaction that cannot reach its target: refused by the map, or ended with ERR_ABORT at the fence of an isolated test
unit (18 R380). -/
def rachisRefusal (s : State) (init : Nat) (kind : RKind) (addr n : Nat) : Option Nat :=
  match mapRefusal s init kind addr n with
  | some r => some r
  | none => if fencedIn s addr then some 6 else none

/-- Write into DRAM. -/
def dramWrite (o : Nat) (bs : List Byte) (s : State) : State := { s with mem := s.mem.dramPut o bs }

/-- The response code that the bridge gave at once; 0 while it has not answered or answered OKAY. -/
def culmCode (before : Nat) (init : Nat) (s : State) : Nat :=
  match s.out.getLast? with
  | some (.response i c _) => if before < s.out.length ∧ i = init then c else 0
  | _ => 0

/-- The effect of a write that reaches its target, and its response. The Culm bridge answers for itself. -/
def writeTarget (init addr : Nat) (bs : List Byte) (en : Nat) (s : State) : Nat × State :=
  match placeOf addr with
  | .dram o => (0, putEnabled dramWrite o bs en s)
  | .mram o => (0, putEnabled mramWrite o bs en s)
  | .awn o => (0, putEnabled awnStage o bs en s)
  | .reg w o => (0, regWrite init w o (w32 (leNat bs)) s)
  | .culm =>
    let s' := culmAccept ⟨init, true, addr, bs.length, bs⟩ s
    (culmCode s.out.length init s', s')
  | .rom _ => (1, s)
  | .nor _ _ => (1, s)
  | .unmapped => (1, s)

/-- The effect of a read that reaches its target: response, data. -/
def readTarget (init addr n : Nat) (s : State) : Nat × List Byte × State :=
  match placeOf addr with
  | .dram o => readDram init o n s
  | .mram o => readMram o n s
  | .awn o => (0, awnRead s o n, s)
  | .reg w o => (0, le 4 (regRead s w o).toNat, regReadEffect w o s)
  | .rom o => (0, (List.range n).map (fun k => Config.romByte (o + k)), s)
  | .nor b o => (0, norGet s b o n, s)
  | .culm => (0, zeros n, s)
  | .unmapped => (1, zeros n, s)

/-- A write by `init`: checked, then its effect; the response code (R22 to R28). -/
def busWrite (init addr : Nat) (bs : List Byte) (en : Nat) (s : State) : Nat × State :=
  match rachisRefusal s init .write addr bs.length with
  | some r => (r, (refuse r init true addr 0 s).2.2)
  | none => writeTarget init addr bs en s

/-- A read by `init` (R22 to R28); a read of the Culm aperture is answered by the bridge. -/
def busRead (init addr n : Nat) (s : State) : Nat × List Byte × State :=
  match rachisRefusal s init .read addr n with
  | some r => refuse r init false addr n s
  | none =>
    if toCulm addr then (0, zeros n, culmAccept ⟨init, false, addr, n, []⟩ s) else readTarget init addr n s

/-! ## RACHIS_TRANSACTION -/

/-- A correctable error found at the receiving end of a transaction (R27). -/
def correctedAt (t : Txn) (s : State) : State := raiseRchCe t.init (decide (t.kind = .write)) t.addr s

/-- What the memory's own code finds in the words that a read takes out: MRAM corrects and raises MCE (R173); a correctable
DRAM error shows at the initiator's port, which corrects it (R26, R27). Boot ROM and NOR correct in silence (log 177); the
other targets are not judged here. -/
def cellCorrected (t : Txn) (s : State) : State :=
  match placeOf t.addr with
  | .mram _ => raiseMce 1 t.addr s
  | .dram _ => raiseRchCe t.init false t.addr s
  | _ => s

/-- An uncorrectable error in the words that a read takes out: MRAM raises MUE and leaves the word (R173); the others show as
a failing check (R26, R27). DRAM and MRAM keep the damage. -/
def cellBad (t : Txn) (s : State) : State :=
  let beats := fun (o : Nat) => (List.range ((o % 8 + t.size + 7) / 8)).map (fun k => o / 8 + k)
  let add := fun (l : List Nat) (o : Nat) => l ++ (beats o).filter (fun b => !l.contains b)
  match placeOf t.addr with
  | .mram o => raiseMem 1 0x3409 1 t.addr { s with mem := { s.mem with mramBad := add s.mem.mramBad o } }
  | .dram o => (refuse 3 t.init false t.addr t.size { s with mem := { s.mem with dramBad := add s.mem.dramBad o } }).2.2
  | _ => (refuse 3 t.init false t.addr t.size s).2.2

/-- The target has cells that a read's finding speaks of. -/
def hasCells (addr : Nat) : Bool :=
  match placeOf addr with
  | .mram _ => true
  | .dram _ => true
  | .rom _ => true
  | .nor _ _ => true
  | _ => false

/-- A read at a target that answers (R25 to R27): what the memory finds, then what the initiator's port finds. -/
def readEffect (t : Txn) (s : State) : State :=
  if toCulm t.reached then
    let s := culmAccept ⟨t.init, false, t.reached, t.size, []⟩ s
    if t.chk = .corrected then correctedAt t s else s
  else if hasCells t.reached && decide (t.cell = .uncorrectable) then respond t.init 3 (zeros t.size) (cellBad t s)
  else
    let r := readTarget t.init t.reached t.size s
    let s := if hasCells t.reached && decide (t.cell = .correctable) then cellCorrected t r.2.2 else r.2.2
    if r.1 ≠ 0 then respond t.init r.1 r.2.1 s
    else
      match t.chk with
      | .good => respond t.init 0 (t.wire.deliver t.addr r.2.1) s
      | .corrected => respond t.init 0 (t.wire.deliver t.addr r.2.1) (correctedAt t s)
      | .uncorrectable => respond t.init 3 (zeros t.size) (refuse 3 t.init false t.addr t.size s).2.2
      | .parity => respond t.init 3 (zeros t.size) (refuse 3 t.init false t.addr t.size s).2.2

/-- A write at a target that answers (R25 to R27): a corrected error counts after the write's own effect, so that a write of 1
to CE which meets one ends with CE set (R12). -/
def writeEffect (t : Txn) (s : State) : State :=
  let r := writeTarget t.init t.reached (t.wire.deliver t.addr t.data) (2 ^ t.size - 1) s
  let s := if t.chk = .corrected then correctedAt t r.2 else r.2
  if toCulm t.reached then s else respond t.init r.1 [] s

/-- The transaction's effect at a target that answers (R25, R27): a failing control field, or a failing beat of a write, ends
it with ERR_DATA and no effect. A read of the Culm aperture that fails at its initiator's port has not been handed to the
bridge (log 177). -/
def rachisEffect (t : Txn) (s : State) : State :=
  let write := decide (t.kind = .write)
  if t.chk = .parity ∨ (t.chk = .uncorrectable ∧ (write = true ∨ toCulm t.addr = true)) then
    respond t.init 3 (if write then [] else zeros t.size) (refuse 3 t.init write t.addr t.size s).2.2
  else if write then writeEffect t s
  else readEffect t s

/-- An earlier transaction of the same initiator waits at the same target: issue order is kept (R23). -/
def waitsBehind (t : Txn) (s : State) : Bool :=
  s.rch.flight.any (fun f => decide (f.txn.init = t.init) && decide (targetOf f.txn.addr = targetOf t.addr))

/-- RACHIS_TRANSACTION (R22 to R28): the firewall, then size, then decode, then the target. It waits at the target's port
where the target does not answer, or behind an earlier one of its initiator (R23, R40). None leaves an isolated unit (R380). -/
def opRachisTransaction (t : Txn) (s : State) : State :=
  if !s.mod.mode.released || fencedOut s t.init then s
  else
    match rachisRefusal s t.init t.kind t.addr t.size with
    | some r =>
      let x := refuse r t.init (decide (t.kind = .write)) t.addr t.size s
      respond t.init r x.2.1 x.2.2
    | none =>
      if t.answers && !waitsBehind t s then rachisEffect t s
      else { s with rch := { s.rch with flight := s.rch.flight ++ [⟨t, s.clk.now⟩] } }

/-- REGISTER_WRITE: a write that has reached the register at `addr` (R11, R420). -/
def opRegisterWrite (init addr : Nat) (v : Word) (s : State) : State :=
  match placeOf addr with
  | .reg w o => if o % 4 = 0 then regWrite init w o v s else s
  | _ => s

/-! ## Rungs 1 and 2 (R40, R41) -/

/-- The response that ends a waiting transaction. -/
def endFlight (code : Nat) (f : Flight) (s : State) : State :=
  respond f.txn.init code (if f.txn.kind = .write then [] else zeros f.txn.size) s

/-- TMO for a transaction (R40). -/
def raiseTmo (init : Nat) (write : Bool) (addr : Nat) (s : State) : State := raiseRch 4 0x3405 0 init write 4 addr s

/-- BUS_TIMEOUT (R40, R41): rung 1 of the oldest transaction at a port, 4 µs at least after its issue: ERR_TIMEOUT, and the
others queued there end with ERR_ABORT. -/
def opBusTimeout (tg : Target) (s : State) : State :=
  let at' := fun (f : Flight) => decide (targetOf f.txn.addr = some tg)
  if tg = .culm then s
  else
    match s.rch.flight.filter at' with
    | [] => s
    | f :: rest =>
      if due (some f.since) 4000 s.clk.now then
        let s := { s with rch := { s.rch with flight := s.rch.flight.filter (fun g => !at' g) } }
        let s := endFlight 4 f (raiseTmo f.txn.init (decide (f.txn.kind = .write)) f.txn.addr s)
        forAll rest (endFlight 6) s
      else s

/-- The oldest transaction that the bridge has not answered: one waiting at its port, or a non-posted item it holds. -/
def bridgeOldest (s : State) : Option (Nat × Txn) :=
  let port := (s.rch.flight.filter (fun f => toCulm f.txn.addr)).map (fun f => (f.since, f.txn))
  let held := (s.culm.out.filter (fun o => !o.posted)).map (fun o =>
    (o.since, (⟨o.item.init, if o.item.write then .write else .read, o.item.addr, o.item.size, o.item.data, {}, .clean, true⟩ : Txn)))
  (held ++ port).foldl (fun best x =>
    match best with
    | none => some x
    | some b => if x.1 < b.1 then some x else some b) none

/-- BRIDGE_BACKSTOP_TIMEOUT (R40, R41): 100 µs at least: ERR_TIMEOUT, the bridge is reset, and every item it held is aborted
with ABORTED_TIMEOUT. -/
def opBridgeBackstopTimeout (s : State) : State :=
  match bridgeOldest s with
  | none => s
  | some (since, t) =>
    if due (some since) 100000 s.clk.now then
      let s := raiseTmo t.init (decide (t.kind = .write)) t.addr s
      let port := s.rch.flight.filter (fun f => toCulm f.txn.addr)
      let s := { s with
        rch := { s.rch with flight := s.rch.flight.filter (fun f => !toCulm f.txn.addr) },
        culm := { s.culm with out := s.culm.out.filter (fun o =>
          o.posted || !(decide (o.since = since) && decide (o.item.init = t.init) && decide (o.item.addr = t.addr))) } }
      let s := answerItem t.init t.addr 4 (if t.kind = .write then [] else zeros t.size) s
      let s := forAll (port.filter (fun f => !(decide (f.since = since) && decide (f.txn = t)))) (endFlight 6) s
      culmAbortAll 6 2 s
    else s

/-! ## Rung 3 and the clock monitors -/

/-- ENG or CLK: SOURCE is the engine or domain. No transaction is concerned: the captured initiator, direction, response and
address are free (log 62). -/
def raiseSource (bit code source : Nat) (s : State) : State :=
  let f := fun k => Config.freeNat (s.free + k)
  raiseRch bit code source (f 0 % 64) (f 1 % 2 == 1) (f 2 % 7) (f 3 % 2 ^ 36) (drawnN 4 s)

/-- A channel of Vyfabin changed. -/
def modChan (ch : Nat) (f : VyfCh → VyfCh) (s : State) : State :=
  if ch = 0 then { s with vyf := { s.vyf with chA := f s.vyf.chA } } else { s with vyf := { s.vyf with chB := f s.vyf.chB } }

/-- A filled aperiodic slot waits on channel `ch`. -/
def slotsHeld (s : State) (ch : Nat) : Bool :=
  s.fab.slotBuf.any (fun e => !(if ch = 0 then e.2.2.1 else e.2.2.2).isEmpty)

/-- The engine of backbone channel `ch` is halted: the frame in passage, the kernel, the filled aperiodic slots and the
messages waiting for one are aborted on this channel. -/
def chanHalt (ch : Nat) (s : State) : State :=
  let held := (vch s ch).buf.isSome || slotsHeld s ch || s.fab.outbox.any (fun m => !m.1.testBit ch)
  let s := modChan ch (fun (c : VyfCh) => { c with wrote := none, buf := none }) s
  let s := { s with fab := { s.fab with
      slotBuf := s.fab.slotBuf.map (fun e => (e.1, e.2.1, if ch = 0 then ([], e.2.2.2) else (e.2.2.1, []))),
      outbox := (s.fab.outbox.map (fun m => (m.1 ||| 2 ^ ch, m.2))).filter (fun m => m.1 ≠ 3) } }
  if held then emit (.outcome 5 ch 2) s else s

/-- Protocol engine `e` is halted, every item it held is aborted with ABORTED_TIMEOUT, and it restarts (R41): what a channel
holds, the hub's buffers, the shadow being received, the CAN items, the Glume messages not yet judged (log 67). -/
def engineRestart (e : Nat) (s : State) : State :=
  match e with
  | 0 => chanHalt 0 s
  | 1 => chanHalt 1 s
  | 2 => hubHalt 2 s
  | 3 => { s with pair := { s.pair with fill := [], shadowNow := false } }
  | 4 => canRejoin 1 (canRejoin 0 (canLeave 1 2 (canLeave 0 2 s)))
  | _ => { s with glm := { s.glm with inbox := [] } }

/-- Protocol engine `e` has work pending (R40, log 67). -/
def engineHolds (e : Nat) (s : State) : Bool :=
  let chan := fun (ch : Nat) => (vch s ch).wrote.isSome || (vch s ch).buf.isSome || slotsHeld s ch ||
    s.fab.outbox.any (fun m => !m.1.testBit ch)
  let can := fun (n : Nat) => !(canPending s n).isEmpty || (s.can n).ref.isSome
  match e with
  | 0 => chan 0
  | 1 => chan 1
  | 2 => !s.hub.tx.isEmpty || !s.hub.rx.isEmpty
  | 3 => !s.pair.fill.isEmpty
  | 4 => can 0 || can 1
  | _ => !s.glm.inbox.isEmpty

/-- ENGINE_WATCHDOG (R40, R15): rung 3 of engine `e`, with work pending and no progress for 140 µs at least. -/
def opEngineWatchdog (e : Nat) (s : State) : State :=
  if s.mod.mode.released && engineHolds e s && due s.eng[e]? 140000 s.clk.now then
    let s := engineRestart e (raiseSource 5 0x3406 e s)
    { s with eng := modAt s.eng e (fun _ => s.clk.now) }
  else s

/-- CLOCK_FAULT (R33): domain `d`. -/
def opClockFault (d : Nat) (s : State) : State :=
  if !s.mod.mode.released then s
  else
    let s := raiseSource 6 0x3407 d { s with rch := { s.rch with
      clkFault := if s.rch.clkFault.contains d then s.rch.clkFault else s.rch.clkFault ++ [d] } }
    match d with
    | 4 => modChan 0 (fun (c : VyfCh) => { c with failed := true, ok := false }) s
    | 5 => modChan 1 (fun (c : VyfCh) => { c with failed := true, ok := false }) s
    | 7 => culmAbortAll 6 3 s
    | 8 => canLeave 1 3 (canLeave 0 3 s)
    | 10 => closeLocal { s with sec := { s.sec with portClosed := true } }
    | 11 => s
    | 13 => closeOthers none s
    | _ => enterSafe 0x3407 s

/-! ## FUNCTION_DRAIN_DONE (R38) -/

/-- Connection `c` may still hold an unresolved message (13 R297): one committed for this cycle, or the item of its CAN object. -/
def connHolds (s : State) (c : Nat) : Bool :=
  let e := connEnt s c
  match e.transport with
  | 1 => [s.vyf.chA.buf, s.vyf.chB.buf].any (fun b => b.any (fun x => decide (x.1 = s.cyc.cycle) && !x.2.isEmpty))
  | 2 => s.hub.tx.any (fun x => decide ((nth s.img.hubBufs x.1 (0, 0)).2 = e.peer))
  | _ => (s.canObj (peerCan e.peer).1 (peerTx e.peer)).pending

/-- The last item of a disabled function has resolved: its active field falls. -/
def opFunctionDrainDone (f : Fn) (s : State) : State :=
  match f with
  | .awn => if awnDrained s then { s with awn := { s.awn with active := false } } else s
  | .hubPort p =>
    if (s.hubPort p).en then s else modPort p (fun (x : HubPort) => { x with active := false }) s
  | .glmConn c => if (connAt s c).en || connHolds s c then s else modConn c (fun (x : Conn) => { x with active := false }) s
  | .can n => canDrainDone n s
  | .canObj n k => objDrainDone n k s
  | .owin w =>
    if oDrained s w then { s with culm := { s.culm with oAct := modAt s.culm.oAct w (fun _ => false) } } else s
  | .iwin v =>
    if iDrained s v then { s with culm := { s.culm with iAct := modAt s.culm.iAct v (fun _ => false) } } else s

/-! ## Meanings that raise no interrupt of a triad -/

/-- BUS_TIMEOUT. -/
def execBusTimeout (t : Target) (s : State) : Host.Outcome State Fault Refusal := wfRun (.busTimeout t) (opBusTimeout t) s
/-- BRIDGE_BACKSTOP_TIMEOUT. -/
def execBridgeBackstopTimeout (s : State) : Host.Outcome State Fault Refusal :=
  wfRun .bridgeBackstopTimeout opBridgeBackstopTimeout s
/-- ENGINE_WATCHDOG. -/
def execEngineWatchdog (e : Nat) (s : State) : Host.Outcome State Fault Refusal :=
  wfRun (.engineWatchdog e) (opEngineWatchdog e) s
/-- CLOCK_FAULT. -/
def execClockFault (d : Nat) (s : State) : Host.Outcome State Fault Refusal := wfRun (.clockFault d) (opClockFault d) s
/-- FUNCTION_DRAIN_DONE. -/
def execFunctionDrainDone (f : Fn) (s : State) : Host.Outcome State Fault Refusal :=
  wfRun (.functionDrainDone f) (opFunctionDrainDone f) s

end Sys2Proof.Machine
end

