-- ==== Sys2Proof/Machine/Triad.lean ====
section
/-! DEFINITION. Triads at work (03 R78 to R89): what a core commits, the signature, the windows and the commit buffer, the
vote and what it releases, single-issue reads, interrupts. -/

namespace Sys2Proof.Machine

/-! ## Windows of a lane -/

/-- The lane's newest window is open. -/
def Lane.open' (l : Lane) : Bool :=
  match l.wins.getLast? with
  | some w => decide (w.cause = 0)
  | none => false

/-- Number of the window that the core's next commit falls in. -/
def Lane.current (l : Lane) : Nat := if l.open' then l.nextNum - 1 else l.nextNum

/-- The last window of a list changed. -/
def modLast (f : Win → Win) (l : List Win) : List Win :=
  match l with
  | [] => []
  | [w] => [f w]
  | w :: t => w :: modLast f t

/-- Lane `p` changed. -/
def modLane (t p : Nat) (f : Lane → Lane) (s : State) : State :=
  modTri t (fun (x : Triad) => { x with lanes := modAt x.lanes p f }) s

/-- The core of position `p` opens a window where none is open; the first live core's opening takes the window timestamp and
starts the window timer (R80, R81). -/
def openWin (t p : Nat) (s : State) : State :=
  let x := s.tri t
  let l := x.lane p
  if l.open' then s
  else
    let n := l.nextNum
    let s := modLane t p (fun (l : Lane) => { l with wins := l.wins ++ [⟨n, sigInit, [], 0⟩], nextNum := n + 1 }) s
    if n < x.stampWin then s
    else modTri t (fun (x : Triad) => { x with
        stamps := FMap.store x.stamps 0 n (BitVec.ofNat 64 s.clk.tb), stampWin := n + 1, openedAt := some s.clk.now }) s

/-- The window timestamp that a core of lane `l` reads: that of its open window, or of the window that its next instruction
opens (R74, R80). -/
def winStamp (x : Triad) (l : Lane) (now : Nat) : Dword :=
  if l.current < x.stampWin then FMap.look x.stamps 0 l.current else BitVec.ofNat 64 now

/-- The close record's first word (R78). -/
def closeWord (cause count : Nat) : Dword := BitVec.ofNat 64 (0xF * 2 ^ 60 + cause * 2 ^ 40 + count)

/-- The core of position `p` closes its open window with `cause` and delivers its signature; its entries go where the window
has been released already (R80, R85, R87). -/
def closeWin (t p cause : Nat) (s : State) : State :=
  let x := s.tri t
  let l := x.lane p
  if !l.open' then s
  else
    let n := l.nextNum - 1
    let s := modLane t p (fun (l : Lane) => { l with
        wins := modLast (fun (w : Win) => { w with
          sig := sigRecord w.sig (closeWord cause w.stores.length) (BitVec.ofNat 64 n), cause := cause,
          stores := if n < x.relNum then [] else w.stores }) l.wins }) s
    modTri t (fun (x : Triad) => { x with
        lags := if x.lags.any (fun g => decide (g.1 = n)) then x.lags else x.lags ++ [(n, s.clk.now, cause)] }) s

/-! ## Release (R85, R86) -/

/-- The page of an address is private to triad `t` (R79): its partition's owners are the cores that its positions held at
hand-over and its voter. -/
def privateTo (s : State) (t addr : Nat) : Bool :=
  s.img.parts.any (fun x =>
    !x.shared && decide (x.page ≤ addr / 4096) && decide (addr / 4096 < x.page + x.count) &&
      (List.range 64).all (fun i => !x.owners.testBit i || (s.tri t).fwCore.contains i || decide (i = voterId t)))

/-- The L2 cache of triad `t` takes the line of a private page: read from memory, or released to it (R73). -/
def noteL2 (t addr : Nat) (s : State) : State :=
  if privateTo s t addr then modTri t (fun (x : Triad) => { x with l2 := fillL2 x.l2 (addr / 64) }) s else s

/-- A released entry goes out under the voter's ID; an error response raises the store-error interrupt (R85, R86). -/
def issueStore (t : Nat) (st : StoreRec) (s : State) : State :=
  if !s.mod.mode.handed then s
  else
    let r := busWrite (voterId t) st.addr (storeBytes st) st.be.toNat s
    if r.1 = 0 then noteL2 t st.addr r.2 else irqTriad t [0, 1, 2] irqStoreError r.2

/-- The entries of closed window `n` leave the lanes. -/
def dropStores (n : Nat) (l : Lane) : Lane :=
  { l with wins := l.wins.map (fun (w : Win) => if w.num = n ∧ w.cause ≠ 0 then { w with stores := [] } else w) }

/-- Window `w` is released: TRD_TRIAD_WINDOW and TRD_TRIAD_SIG take its values, and its entries are issued in commit order
(R85, R87). -/
def releaseWin (t : Nat) (w : Win) (s : State) : State :=
  let s := modTri t (fun (x : Triad) => { x with
      relNum := w.num + 1, window := w.num, sig := w.sig, lanes := x.lanes.map (dropStores w.num) }) s
  forAll w.stores (issueStore t) s

/-! ## Vote and exclusion (R87 to R89) -/

/-- Window `n` is resolved. -/
def dropWin (t n : Nat) (s : State) : State :=
  modTri t (fun (x : Triad) => { x with
      lanes := x.lanes.map (fun (l : Lane) => { l with wins := l.wins.filter (fun w => decide (w.num ≠ n)) }),
      voteNum := n + 1, lags := x.lags.filter (fun g => decide (g.1 ≠ n)),
      stamps := x.stamps.filter (fun e => decide (n < e.1)) }) s

/-- The core of position `p` is excluded in window `n` (R88): halted and held in reset, its lane discarded, the triad
2oo2, a reserve claimed. -/
def excludeCore (t p bit code n cause : Nat) (s : State) : State :=
  let core := (s.tri t).coreAt p
  let s := modCore core (fun (c : Core) => { c with role := 4, running := false }) s
  let s := modTri t (fun (x : Triad) => { x with
      lanes := modAt x.lanes p (fun _ => {}), live := modAt x.live p (fun _ => false),
      empty := modAt x.empty p (fun _ => true),
      held := x.held.filter (fun h => x.livePos.any (fun q => decide (q ≠ p) && !h.given.contains q)),
      state := if x.state = 1 then 2 else x.state, excludedCore := core }) s
  let s := { s with thr := { s.thr with excluded := s.thr.excluded ++ [core] } }
  claimReserve t (raiseCore bit code cause core p t n (w32 n) (w32 cause) s)

/-- Close cause of the first signature of window `n`. -/
def Triad.firstCause (x : Triad) (n : Nat) : Nat :=
  match x.lags.find? (fun g => decide (g.1 = n)) with
  | some g => g.2.2
  | none => 0

/-- The outcome of window `n` (R87), from the signatures that have arrived. -/
def voteOutcome (t n : Nat) (s : State) : State :=
  let x := s.tri t
  match x.agreed n with
  | none => noMajority t n (x.firstCause n) s
  | some (_, w) =>
    let differ := x.livePos.filter (fun p => (match (x.lane p).closed n with
      | some v => decide (v.sig ≠ w.sig)
      | none => false))
    let late := x.livePos.filter (fun p => ((x.lane p).closed n).isNone)
    let s := dropWin t n s
    match differ, late with
    | p :: _, _ => excludeCore t p 0 0x3001 n w.cause s
    | [], p :: _ => excludeCore t p 2 0x3003 n w.cause s
    | [], [] => s

/-- The voter works: voting, or draining before a reintegration or a hand-over. -/
def Triad.votes (x : Triad) : Bool :=
  decide (x.state = 1 ∨ x.state = 2 ∨ x.state = 3) || (decide (x.state = 5) && x.stoppedAt.isNone)

/-- Every live core has delivered window `n`. -/
def Triad.complete (x : Triad) (n : Nat) : Bool := x.livePos.all (fun p => ((x.lane p).closed n).isSome)

/-- Release what is agreed and resolve what is complete, oldest window first. -/
def advance (t fuel : Nat) (s : State) : State :=
  match fuel with
  | 0 => s
  | k + 1 =>
    let x := s.tri t
    if !x.votes || x.livePos.isEmpty then s
    else
      match x.agreed x.relNum with
      | some (_, w) => advance t k (releaseWin t w s)
      | none => if x.complete x.voteNum then advance t k (voteOutcome t x.voteNum s) else s

/-! ## What a core commits (R78) -/

/-- Store data with the bytes that are not enabled set to zero (R78). -/
def maskedData (st : StoreRec) : Dword :=
  BitVec.ofNat 64 (leNat ((List.range 8).map (fun k =>
    if st.be.getLsbD k then BitVec.ofNat 8 (st.data.toNat >>> (8 * k)) else 0)))

/-- First word of a store record (R78). -/
def storeWord0 (st : StoreRec) : Dword :=
  BitVec.ofNat 64 (2 ^ 60 + st.size * 2 ^ 56 + st.be.toNat * 2 ^ 48 + st.addr)

/-- First word of a trap record (R78). -/
def trapWord0 (k : TrapRec) : Dword :=
  BitVec.ofNat 64 (3 * 2 ^ 60 + (if k.machine then 3 else 1) * 2 ^ 58 + (if k.irq then 2 ^ 57 else 0) + k.code % 64)

/-- The signature after an instruction's records (R78). -/
def foldCommit (k : Core) (c : Commit) (sig : Dword) : Dword :=
  match c.trap with
  | some r => sigRecord sig (trapWord0 r) c.pc
  | none =>
    let sig := match c.store with
      | some st => sigRecord sig (storeWord0 st) (maskedData st)
      | none => sig
    let sig := match c.xw with
      | some (n, v) => if n = 0 then sig else foldWb sig 0 n v
      | none => sig
    let sig := match c.fw with
      | some (n, v) => foldWb sig 1 n v
      | none => sig
    foldFile 2 sig (csrWrites k c)

/-- The lane has no room for a store: its window would be a fifth that is not released, or the 1,024 entries are full
(R84). -/
def Lane.stalls (l : Lane) (rel : Nat) : Bool :=
  let held := (l.wins.filter (fun w => decide (rel ≤ w.num))).length
  decide (4 < if l.open' then held else held + 1) || decide (1024 ≤ l.level)

/-- A store to a TRD_TRIAD_CTRL register (R80). -/
def storeToCtrl (st : StoreRec) : Bool :=
  match placeOf st.addr with
  | .reg w o => decide (w = 0 ∧ 0x100 ≤ o ∧ o < 0x280 ∧ (o - 0x100) % 0x40 = 0x1C)
  | _ => false

/-- An instruction that stores to TRD_TRIAD_CTRL. -/
def toCtrl (c : Commit) : Bool :=
  match c.store with
  | none => false
  | some st => storeToCtrl st

/-- The core waits at a store to TRD_TRIAD_CTRL until its window is released (R90, R96, log 71): its last window is closed, by
whatever cause, and ends with such a store. -/
def Lane.atControl (l : Lane) (rel : Nat) : Bool :=
  match l.wins.getLast? with
  | some w => decide (w.cause ≠ 0) && decide (rel ≤ w.num) &&
      (match w.stores.getLast? with
       | some st => storeToCtrl st
       | none => false)
  | none => false

/-- The core of a member may go on: it runs, is live, waits for no read and at no control store; while the triad hands
over, only up to the window of the TO_SPLIT store. -/
def mayCommit (s : State) (n : Nat) : Bool :=
  let k := s.core n
  let x := s.tri k.triad
  let l := x.lane k.pos
  decide (k.role = 0) && k.running && nth x.live k.pos false && l.req.isNone && !l.atControl x.relNum &&
    (x.voting || (x.votes && decide (x.state = 5) && decide (l.current < x.relNum)))

/-- A split core runs (R95). -/
def splitRuns (s : State) (n : Nat) : Bool :=
  let k := s.core n
  decide (k.role = 1) && k.running && decide ((s.tri k.triad).state = 4) && ((s.tri k.triad).lane k.pos).req.isNone

/-- The highest LEVEL is kept (TRD_TRIAD_CBUF). -/
def noteLevel (t : Nat) (s : State) : State :=
  modTri t (fun (x : Triad) => { x with highWater := (x.lanes.map Lane.level).foldl Nat.max x.highWater }) s

/-- A member's instruction is folded into its open window, its store enters the lane, and its registers change (R78, R84). -/
def foldMember (n : Nat) (c : Commit) (s : State) : State :=
  let k := s.core n
  let s := openWin k.triad k.pos s
  let s := modLane k.triad k.pos (fun (l : Lane) => { l with
      wins := modLast (fun (w : Win) => { w with
        sig := foldCommit k c w.sig,
        stores := (match c.store with
          | some st => w.stores ++ [st]
          | none => w.stores) }) l.wins }) s
  noteLevel k.triad (modCore n (commitRegs c) s)

/-! ## Traps that the machine brings about (R72, R82, R83) -/

/-- Core `n` takes a trap before its next instruction: a member folds the trap record (R78). -/
def trapCore (n : Nat) (irq : Bool) (code : Nat) (tval : Dword) (s : State) : State :=
  let k := s.core n
  let c := trapCommit k k.pc irq code tval
  if k.role = 1 then modCore n (commitRegs c) s else foldMember n c s

/-- Core `n` takes the interrupts it has been given and would take now. -/
def takeIrqs (fuel n : Nat) (s : State) : State :=
  match fuel with
  | 0 => s
  | f + 1 =>
    match (s.core n).takes with
    | none => s
    | some i =>
      takeIrqs f n (trapCore n true (Config.irqCode i % 64) 0
        (modCore n (fun (c : Core) => { c with intr := c.intr.erase i }) s))

/-- The same, each source once. -/
def takeAll (n : Nat) (s : State) : State := takeIrqs (s.core n).intr.length n s

/-! ## Instruction C (R81, R82) -/

/-- The core of position `p` stands at instruction C: it closes the window there, unless another cause has, and takes the
interrupts (R81, R82). -/
def reachC (t p : Nat) (e : ClosePt) (s : State) : State :=
  let x := s.tri t
  let n := x.coreAt p
  let s := if (x.lane p).open' ∧ (x.lane p).current = e.win then closeWin t p e.cause s else s
  takeAll n (forAll e.irqs (giveIrq n) s)

/-- Live positions whose core stands at `c`. -/
def standAt (s : State) (t c : Nat) : List Nat :=
  (s.tri t).livePos.filter (fun p => decide ((s.core ((s.tri t).coreAt p)).minstret = c))

/-- The leading live cores have the newest window open and wait for no read, so that it can be closed at C (log 207). -/
def leadOpen (s : State) (t : Nat) : Bool :=
  (standAt s t (highest s t)).all (fun p =>
    ((s.tri t).lane p).open' && decide (((s.tri t).lane p).current = newest s t) && ((s.tri t).lane p).req.isNone)

/-- The voter sets C to the highest minstret of the live cores; those that stand there are at it at once (R81, R82). -/
def setC (t cause : Nat) (irqs : List Nat) (s : State) : State :=
  let e : ClosePt := ⟨highest s t, cause, newest s t, irqs⟩
  forAll (standAt s t e.c) (fun p s => reachC t p e s)
    (modTri t (fun (x : Triad) => { x with closeAt := x.closeAt ++ [e] }) s)

/-- Sources that become pending while C is set for this window, the leading cores still standing there, are delivered at the
same C (R82). -/
def joinC (t : Nat) (irqs : List Nat) (s : State) : State :=
  let c := highest s t
  forAll (standAt s t c) (fun p s => let n := (s.tri t).coreAt p; takeAll n (forAll irqs (giveIrq n) s))
    (modTri t (fun (x : Triad) => { x with
      closeAt := x.closeAt.map (fun (e : ClosePt) => if e.c = c then { e with irqs := e.irqs ++ irqs } else e) }) s)

/-- Sources that wait get their C (R82). -/
def rearm (t : Nat) (s : State) : State :=
  let x := s.tri t
  if !x.voting || x.irqs.isEmpty || x.livePos.isEmpty then s
  else
    let s' := modTri t (fun (x : Triad) => { x with irqs := [] }) s
    if x.closeAt.any (fun e => decide (e.c = highest s t)) then joinC t x.irqs s'
    else if leadOpen s t then setC t 3 x.irqs s'
    else s

/-- A C that every live core has retired is done with. -/
def pruneC (t : Nat) (s : State) : State :=
  modTri t (fun (x : Triad) => { x with closeAt := x.closeAt.filter (fun e =>
    x.livePos.any (fun p => decide ((s.core (x.coreAt p)).minstret < e.c)) || decide (e.c = highest s t)) }) s

/-! ## Commits -/

/-- The value that core `n` reads from CSR `a` (R72, R74): in triad operation every core of a triad reads the same. -/
def csrSeen (s : State) (n a : Nat) : Dword :=
  let k := s.core n
  let x := s.tri k.triad
  if k.role = 1 then
    if a = 0xF14 then BitVec.ofNat 64 (16 + 4 * k.triad + k.pos)
    else if a = 0xC00 ∨ a = 0xB00 then BitVec.ofNat 64 s.clk.now + k.cycBase
    else if a = 0xC01 then BitVec.ofNat 64 s.clk.tb
    else csrNow k a
  else
    if a = 0xF14 then BitVec.ofNat 64 k.triad
    else if a = 0xC00 ∨ a = 0xB00 ∨ a = 0xC01 then winStamp x (x.lane k.pos) s.clk.tb
    else csrNow k a

/-- What an instruction of core `n` really makes visible: the exception that R72 raises in its place, or its effect with the
value of the CSR it reads. -/
def committed (s : State) (n : Nat) (c : Commit) : Commit :=
  match limitTrap (s.core n) c with
  | some (code, v) => trapCommit (s.core n) c.pc false code v
  | none =>
    match c.csrRead, c.xw with
    | some a, some (r, _) => { c with xw := some (r, csrSeen s n a) }
    | _, _ => c

/-- After an instruction that took minstret from `m0`: the window closes with STORES, or at a C that has been reached, or with
CONTROL (R80, log 72); then the core takes what interrupts it would. -/
def closeAfter (t p m0 : Nat) (c : Commit) (s : State) : State :=
  let x := s.tri t
  let n := x.coreAt p
  let full := match (x.lane p).wins.getLast? with
    | some w => decide (256 ≤ w.stores.length)
    | none => false
  let hit := x.closeAt.filter (fun e => decide (m0 < e.c) && decide (e.c ≤ (s.core n).minstret))
  let s := if full then closeWin t p 1 s
    else if hit.isEmpty && toCtrl c then closeWin t p 5 s
    else s
  takeAll n (forAll hit (reachC t p) s)

/-- A member of a voting triad commits an instruction. -/
def commitMember (n : Nat) (c : Commit) (s : State) : State :=
  let k := s.core n
  let x := s.tri k.triad
  if !mayCommit s n || (c.store.isSome && (x.lane k.pos).stalls x.relNum) then s
  else closeAfter k.triad k.pos k.minstret c (foldMember n c s)

/-- A write-through of core `n` invalidates the line in the other split cores' data caches, and ends their reservation of it
(R95, log 178). -/
def writeThrough (n addr : Nat) (s : State) : State :=
  let t := (s.core n).triad
  forAll ((s.tri t).cores.filter (fun m => decide (m ≠ n))) (fun m s => modCore m (fun (c : Core) =>
    if c.role = 1 ∧ c.triad = t then
      { c with l1d := c.l1d.erase (addr / 64), resv := if c.resv = some (addr / 64) then none else c.resv }
    else c) s) s

/-- A split core commits an instruction: its store goes out at once under its own ID (R95). -/
def commitSplit (n : Nat) (c : Commit) (s : State) : State :=
  if splitRuns s n then
    let s := modCore n (commitRegs c) s
    let s := match c.store with
      | none => s
      | some st =>
        let r := busWrite n st.addr (storeBytes st) st.be.toNat s
        writeThrough n st.addr (if r.1 = 0 then noteL2 (s.core n).triad st.addr r.2 else r.2)
    takeAll n s
  else s

/-- An instruction of core `n`, in the operation that its triad is in. -/
def commitCore (n : Nat) (c : Commit) (s : State) : State :=
  if (s.core n).role = 1 then commitSplit n (committed s n c) s else commitMember n (committed s n c) s

/-- Core `n` may take its next step. -/
def mayGo (s : State) (n : Nat) : Bool := if (s.core n).role = 1 then splitRuns s n else mayCommit s n

/-! ## Loads (R83, R84) -/

/-- Byte `a` as the store records of a lane make it, over `b` (R84). -/
def laneByte (l : Lane) (a : Nat) (b : Byte) : Byte :=
  (l.wins.flatMap (fun w => w.stores)).foldl (fun b st =>
    if st.addr ≤ a ∧ a < st.addr + 2 ^ st.size ∧ st.be.getLsbD (a - st.addr) then
      BitVec.ofNat 8 (st.data.toNat >>> (8 * (a - st.addr)))
    else b) b

/-- What core `n` loads from a private page: what memory holds, under its own stores that are not yet released; the line comes
into its data cache and the L2 (R73, R84). A read that fails is a load access fault. -/
def loadPrivate (n addr size : Nat) (s : State) : Nat × List Byte × State :=
  let k := s.core n
  let r := busRead n addr size s
  if r.1 ≠ 0 then r
  else
    let l := (s.tri k.triad).lane k.pos
    (0, (List.range size).map (fun i => laneByte l (addr + i) (nth r.2.1 i 0)),
      noteL2 k.triad addr (modCore n (fun (c : Core) => { c with l1d := fillL1 c.l1d (addr / 64) }) r.2.2))

/-- The read that lane `p` waits for has its response: the entry. -/
def heldFor (x : Triad) (p : Nat) : Option HeldRead :=
  match (x.lane p).req with
  | none => none
  | some r => x.held.find? (fun h =>
      decide (h.win = (x.lane p).nextNum - 1) && decide (h.addr = r.1) && decide (h.size = r.2) && h.asker.isNone &&
        !h.given.contains p && decide (h.only = none ∨ h.only = some p))

/-- A core that waits for a read whose response is there takes it; an error response is a load access fault (R83). The entry
goes once every live core has had it. -/
def serveHeld (t p : Nat) (s : State) : State :=
  let x := s.tri t
  match heldFor x p with
  | none => s
  | some h =>
    let given := p :: h.given
    let rest := h.only.isNone && x.livePos.any (fun q => !given.contains q)
    let n := x.coreAt p
    let s := emit (.response n h.code h.data) (modTri t (fun (x : Triad) => { x with
        held := x.held.erase h ++ (if rest then [{ h with given := given }] else []),
        lanes := modAt x.lanes p (fun (l : Lane) => { l with req := none }) }) s)
    if h.code = 0 then s else trapCore n false 5 (BitVec.ofNat 64 h.addr) s

/-- A single-issue read goes out under core `n`'s ID; the bridge may answer it later (R83). -/
def issueRead (t n win addr size : Nat) (only : Option Nat) (s : State) : State :=
  let s := modTri t (fun (x : Triad) => { x with held := x.held ++ [⟨win, addr, size, some n, only, 0, [], []⟩] }) s
  let r := busRead n addr size s
  if toCulm addr ∧ r.1 = 0 then r.2.2
  else modTri t (fun (x : Triad) => { x with held := fillHeld n addr r.1 r.2.1 x.held }) r.2.2

/-- A core that may go on requests a load (R83, R84, R95): a misaligned one, or one that the PMP refuses, traps (R72); one from a
private page is answered at once; one from any other page closes a member's window with DEVICE_READ and waits for the voter,
and goes out at once from a split core. -/
def coreRequest (n addr size : Nat) (s : State) : State :=
  let k := s.core n
  let t := k.triad
  if !mayGo s n then s
  else if addr % size ≠ 0 then trapCore n false 4 (BitVec.ofNat 64 addr) s
  else if pmpDenies k 0 addr size then trapCore n false 5 (BitVec.ofNat 64 addr) s
  else if privateTo s t addr then
    let r := loadPrivate n addr size s
    if r.1 = 0 then emit (.response n 0 r.2.1) r.2.2 else trapCore n false 5 (BitVec.ofNat 64 addr) r.2.2
  else
    let s := modLane t k.pos (fun (l : Lane) => { l with req := some (addr, size) })
      (if k.role = 1 then s else closeWin t k.pos 4 s)
    if k.role = 1 then
      serveHeld t k.pos (issueRead t n (((s.tri t).lane k.pos).nextNum - 1) addr size (some k.pos) s)
    else serveHeld t k.pos s

/-- Every window of the lane has been voted and released. -/
def Lane.released (l : Lane) (rel : Nat) : Bool := l.wins.all (fun w => decide (w.num < rel) && decide (w.cause ≠ 0))

/-- The first live position whose request another live core has made too, in the same window, and that has not been issued:
position, window, address, size. -/
def readReady (x : Triad) : Option (Nat × Nat × Nat × Nat) :=
  let l := x.livePos.filterMap (fun p => (match (x.lane p).req with
    | some r => if (x.lane p).released x.relNum then some (p, (x.lane p).nextNum - 1, r) else none
    | none => none))
  let issued := fun (q : Nat × Nat × Nat) => x.held.any (fun h =>
    decide (h.win = q.1) && decide (h.addr = q.2.1) && decide (h.size = q.2.2))
  match l.find? (fun a => decide (2 ≤ (l.filter (fun b => decide (b.2 = a.2))).length) && !issued a.2) with
  | some (p, w, r) => some (p, w, r.1, r.2)
  | none => none

/-- Every store of the triad that has been released has its response. -/
def storesAnswered (s : State) (t : Nat) : Bool :=
  s.rch.flight.all (fun f => decide (f.txn.init ≠ voterId t)) &&
    s.culm.out.all (fun o => o.posted || decide (o.item.init ≠ voterId t))

/-- Every live core that waits for a response which is there takes it. -/
def serveAll (t : Nat) (s : State) : State :=
  let x := s.tri t
  if x.held.isEmpty then s else forAll (if x.state = 4 then x.filled else x.livePos) (serveHeld t) s

/-- SINGLE_ISSUE_READ (R83): the voter issues the read that two live cores have requested, once, under the first one's ID, and
hands the response to every live core; for one that has not requested it yet the response is held. -/
def opSingleIssueRead (t : Nat) (s : State) : State :=
  let s := serveAll t s
  let x := s.tri t
  if !x.voting || !storesAnswered s t || decide (64 ≤ x.held.length) then s
  else
    match readReady x with
    | none => s
    | some (p, w, addr, size) => serveAll t (issueRead t (x.coreAt p) w addr size none s)

/-! ## Atomic instructions (R72, R95) -/

/-- Eight bytes of a value. -/
def storeOf (a : Amo) (v : Dword) : StoreRec :=
  ⟨a.addr, if a.size = 4 then 2 else 3, if a.size = 4 then 0x0F else 0xFF, if a.size = 4 then v &&& 0xFFFFFFFF else v⟩

/-- An atomic instruction on a private page, its operand there: LR reserves the line; SC stores where the reservation holds and
writes 0, else writes 1; an AMO stores the new value and writes the old one (R72; log 178). -/
def amoCommit (n : Nat) (a : Amo) (old : Dword) (s : State) : State :=
  let line := a.addr / 64
  let won := decide ((s.core n).resv = some line)
  let c : Commit := ⟨a.pc, a.next, none, none, none, none, [], none, none, false⟩
  match a.op with
  | .lr =>
    commitCore n { c with xw := some (a.rd, old) } (modCore n (fun (c : Core) => { c with resv := some line }) s)
  | .sc =>
    let s := modCore n (fun (c : Core) => { c with resv := none }) s
    if won then commitCore n { c with store := some (storeOf a (amoNew .sc a.size old a.v)), xw := some (a.rd, 0) } s
    else commitCore n { c with xw := some (a.rd, 1) } s
  | _ => commitCore n { c with store := some (storeOf a (amoNew a.op a.size old a.v)), xw := some (a.rd, old) } s

/-- An atomic instruction (R72, R84, R95): a misaligned one traps, one outside the private pages is a store/AMO access fault
with no access made; an instruction whose store would stall waits. In split operation it is one step at the L2, and so atomic
across the three cores. -/
def coreAmo (n : Nat) (a : Amo) (s : State) : State :=
  let k := s.core n
  let x := s.tri k.triad
  let va := BitVec.ofNat 64 a.addr
  if !mayGo s n || (decide (k.role ≠ 1) && decide (a.op ≠ .lr) && (x.lane k.pos).stalls x.relNum) then s
  else if a.addr % a.size ≠ 0 then trapCore n false (if a.op = .lr then 4 else 6) va s
  else if !privateTo s k.triad a.addr ∨ pmpDenies k (if a.op = .lr then 0 else 1) a.addr a.size then trapCore n false 7 va s
  else
    let r := loadPrivate n a.addr a.size s
    if r.1 = 0 then amoCommit n a (regOf a.size (leNat r.2.1)) r.2.2 else trapCore n false 7 va r.2.2

/-! ## The voters at work -/

/-- One triad's voter: responses that are there, sources that wait for their C, releases, votes; a split triad's cores take
what they wait for and have been given. -/
def settleTriad (t : Nat) (s : State) : State :=
  let s := serveAll t s
  if (s.tri t).state = 4 then forAll (s.tri t).filled (fun p s => takeAll ((s.tri t).coreAt p) s) s
  else
    let s := rearm t s
    let n := ((s.tri t).lanes.map (fun (l : Lane) => l.wins.length)).foldl (· + ·) 0
    pruneC t (advance t (2 * n + 2) s)

/-- A triad has nothing to settle: no read, interrupt, C or window waits, and in split operation no core has been given an
interrupt. -/
def settled (s : State) (t : Nat) : Bool :=
  let x := s.tri t
  x.held.isEmpty && x.irqs.isEmpty && x.closeAt.isEmpty &&
    (decide (x.state ≠ 4) || x.filled.all (fun p => (s.core (x.coreAt p)).intr.isEmpty)) &&
    (!x.votes || x.lanes.all (fun l => l.wins.isEmpty))

/-- All voters until nothing is left to do: one round may set C for another triad, and each further round needs a window
that was open, of which there are at most 18. -/
def settleN (n : Nat) (s : State) : State :=
  match n with
  | 0 => s
  | k + 1 =>
    if (List.range 6).all (settled s) then s
    else settleN k (forAll (List.range 6) settleTriad s)

/-- The voters act on what a command has changed. -/
def settle (s : State) : State := settleN 20 s

/-! ## The commands -/

/-- CORE_INSTRUCTION (R72, R78, R83, R84, R95). -/
def opCoreInstruction (n : Nat) (a : CoreAct) (s : State) : State :=
  match a with
  | .commit c => commitCore n c s
  | .request addr size => coreRequest n addr size s
  | .amo a => coreAmo n a s

/-- WINDOW_TIMER (R81): 10 µs after the first live core opened the newest window; C is set for that window, unless its leading
cores have closed it or C is set for it already. -/
def opWindowTimer (t : Nat) (s : State) : State :=
  let x := s.tri t
  if x.voting && due x.openedAt 10000 s.clk.now then
    let s := modTri t (fun (x : Triad) => { x with openedAt := none }) s
    if leadOpen s t ∧ x.closeAt.all (fun e => decide (e.win ≠ newest s t)) ∧ !x.livePos.isEmpty then setC t 2 [] s else s
  else s

/-- Block window `w` interrupts: an enabled error of it is set (R13). -/
def blockLine (s : State) (w : Nat) : Bool :=
  if w = 4 then s.rch.err.line || s.rch.mem.line
  else if w = 5 then s.vyf.err.line || s.fab.err.line
  else (blockErr s w).line

/-- TRIAD_INTERRUPT (R82, R95): a source becomes pending for triad `t`, in split operation for the core of position `p`. A
block's error interrupt is pending only while an enabled error of the block is set (R13, log 88). -/
def opTriadInterrupt (t p src : Nat) (s : State) : State :=
  if 16 ≤ src ∧ src < 35 ∧ !blockLine s (src - 16) then s else irqTriad t [p] src s

/-- LAG_TIMEOUT (R87): the lag timer of the oldest unresolved window has run 45 µs at least. -/
def opLagTimeout (t : Nat) (s : State) : State :=
  let x := s.tri t
  match x.lags.find? (fun g => decide (g.1 = x.voteNum)) with
  | some g => if x.votes && due (some g.2.1) 45000 s.clk.now then voteOutcome t x.voteNum s else s
  | none => s

/-- RELEASED_STORE_ERROR (R86): the error response of a released store that comes later than its release. -/
def opReleasedStoreError (t addr resp : Nat) (s : State) : State :=
  if !s.mod.mode.handed then s
  else
    let s := if resp = 4 then raiseTmo (voterId t) true addr s
      else if resp = 6 then s
      else (refuse resp (voterId t) true addr 0 s).2.2
    irqTriad t [0, 1, 2] irqStoreError s

end Sys2Proof.Machine
end

