-- ==== Sys2Proof/Machine/Cmds.lean ====
section
/-! DEFINITION. The meanings after which the triads' voters act: an interrupt may have become pending, a window may have
closed, a restarted or resumed triad may have work to do (03 R81, R82, R85, R87). -/

namespace Sys2Proof.Machine

/-- REGISTER_WRITE. -/
def execRegisterWrite (init addr : Nat) (v : Word) (s : State) : Host.Outcome State Fault Refusal :=
  wfRun (.registerWrite init addr v) (fun s => settle (opRegisterWrite init addr v s)) s
/-- RACHIS_TRANSACTION. -/
def execRachisTransaction (t : Txn) (s : State) : Host.Outcome State Fault Refusal :=
  wfRun (.rachisTransaction t) (fun s => settle (opRachisTransaction t s)) s
/-- TRD_WATCHDOG. -/
def execTrdWatchdog (t : Nat) (s : State) : Host.Outcome State Fault Refusal :=
  wfRun (.trdWatchdog t) (fun s => settle (opTrdWatchdog t s)) s
/-- SUPPLY_SAMPLE. -/
def execSupplySample (vin vbus lplus : Nat) (rails : List (Nat × Nat)) (s : State) : Host.Outcome State Fault Refusal :=
  wfRun (.supplySample vin vbus lplus rails) (fun s => settle (opSupplySample vin vbus lplus rails s)) s
/-- CORE_INSTRUCTION. -/
def execCoreInstruction (core : Nat) (a : CoreAct) (s : State) : Host.Outcome State Fault Refusal :=
  wfRun (.coreInstruction core a) (fun s => settle (opCoreInstruction core a s)) s
/-- WINDOW_TIMER. -/
def execWindowTimer (t : Nat) (s : State) : Host.Outcome State Fault Refusal :=
  wfRun (.windowTimer t) (fun s => settle (opWindowTimer t s)) s
/-- TRIAD_INTERRUPT. -/
def execTriadInterrupt (t : Nat) (src : IrqSource) (s : State) : Host.Outcome State Fault Refusal :=
  wfRun (.triadInterrupt t src) (fun s => settle (opTriadInterrupt t src.pos src.num s)) s
/-- SINGLE_ISSUE_READ. -/
def execSingleIssueRead (t : Nat) (s : State) : Host.Outcome State Fault Refusal :=
  wfRun (.singleIssueRead t) (fun s => settle (opSingleIssueRead t s)) s
/-- LAG_TIMEOUT. -/
def execLagTimeout (t : Nat) (s : State) : Host.Outcome State Fault Refusal :=
  wfRun (.lagTimeout t) (fun s => settle (opLagTimeout t s)) s
/-- TRIAD_RESTART. -/
def execTriadRestart (t : Nat) (s : State) : Host.Outcome State Fault Refusal :=
  wfRun (.triadRestart t) (fun s => settle (opTriadRestart t s)) s
/-- RELEASED_STORE_ERROR. -/
def execReleasedStoreError (t addr resp : Nat) (s : State) : Host.Outcome State Fault Refusal :=
  wfRun (.releasedStoreError t addr resp) (fun s => settle (opReleasedStoreError t addr resp s)) s
/-- QUIET. -/
def execQuiet (t : Nat) (s : State) : Host.Outcome State Fault Refusal :=
  wfRun (.quiet t) (fun s => settle (opQuiet t s)) s
/-- REINTEGRATION. -/
def execReintegration (t : Nat) (live : Dword × Dword) (res : Dword) (s : State) : Host.Outcome State Fault Refusal :=
  wfRun (.reintegration t live res) (fun s => settle (opReintegration t live.1 live.2 res s)) s
/-- TO_SPLIT. -/
def execToSplit (t : Nat) (s : State) : Host.Outcome State Fault Refusal :=
  wfRun (.toSplit t) (fun s => settle (opToSplit t s)) s
/-- SPLIT_START. -/
def execSplitStart (t : Nat) (s : State) : Host.Outcome State Fault Refusal :=
  wfRun (.splitStart t) (fun s => settle (opSplitStart t s)) s
/-- TO_TRIAD. -/
def execToTriad (core : Nat) (s : State) : Host.Outcome State Fault Refusal :=
  wfRun (.toTriad core) (fun s => settle (opToTriad core s)) s
/-- HANDOVER_TIMEOUT. -/
def execHandoverTimeout (t : Nat) (s : State) : Host.Outcome State Fault Refusal :=
  wfRun (.handoverTimeout t) (fun s => settle (opHandoverTimeout t s)) s
/-- TRIAD_RESTORE. -/
def execTriadRestore (t : Nat) (ds : List Dword) (s : State) : Host.Outcome State Fault Refusal :=
  wfRun (.triadRestore t ds) (fun s => settle (opTriadRestore t ds s)) s
/-- TASK_RELEASE. -/
def execTaskRelease (i : Nat) (s : State) : Host.Outcome State Fault Refusal :=
  wfRun (.taskRelease i) (fun s => settle (opTaskRelease i s)) s
/-- DISPATCH_TAKE. -/
def execDispatchTake (init t p : Nat) (v : Word) (s : State) : Host.Outcome State Fault Refusal :=
  wfRun (.dispatchTake init t p v) (fun s => settle (opDispatchTake init t p v s)) s
/-- JOB_DONE. -/
def execJobDone (init t p : Nat) (v : Word) (s : State) : Host.Outcome State Fault Refusal :=
  wfRun (.jobDone init t p v) (fun s => settle (opJobDone init t p v s)) s
/-- DEADLINE_MISS. -/
def execDeadlineMiss (i : Nat) (s : State) : Host.Outcome State Fault Refusal :=
  wfRun (.deadlineMiss i) (fun s => settle (opDeadlineMiss i s)) s
/-- BUDGET_OVERRUN. -/
def execBudgetOverrun (i : Nat) (s : State) : Host.Outcome State Fault Refusal :=
  wfRun (.budgetOverrun i) (fun s => settle (opBudgetOverrun i s)) s
/-- SENSOR_SAMPLE. -/
def execSensorSample (q : List Int) (s : State) : Host.Outcome State Fault Refusal :=
  wfRun (.sensorSample q) (fun s => settle (opSensorSample q s)) s
/-- SHED_END. -/
def execShedEnd (cause : Nat) (s : State) : Host.Outcome State Fault Refusal :=
  wfRun (.shedEnd cause) (fun s => settle (opShedEnd cause s)) s
/-- SHUTDOWN_ENTRY. -/
def execShutdownEntry (s : State) : Host.Outcome State Fault Refusal :=
  wfRun .shutdownEntry (fun s => settle (opShutdownEntry s)) s

end Sys2Proof.Machine
end

