-- ==== Sys2Proof/Machine/MaintReg.lean ====
section
/-! DEFINITION. Maintenance access to registers (17 R371, R373): READ_REG and WRITE_REG. -/

namespace Sys2Proof.Machine

/-- Window and offset of a register at `addr`. -/
def regAt (addr : Nat) : Option (Nat × Nat) :=
  match placeOf addr with
  | .reg w o => if o % 4 = 0 then some (w, o) else none
  | _ => none

/-- Read `n` registers from `addr` on in transactions of the security engine (01 R19, R28), first one first, with what a read
of each changes: whether every one passed its firewall, and the bytes. -/
def readRegs (n addr : Nat) (acc : List Byte) (s : State) : Bool × List Byte × State :=
  match n with
  | 0 => (true, acc, s)
  | k + 1 =>
    if !firewallOk s secId .read addr 4 then (false, acc, (refuse 2 secId false addr 4 s).2.2)
    else if fencedIn s addr then (false, acc, s)
    else match regAt addr with
    | some (w, o) => readRegs k (addr + 4) (acc ++ le 4 (regRead s w o).toNat) (regReadEffect w o s)
    | none => readRegs k (addr + 4) (acc ++ zeros 4) s

/-- READ_REG (R371): 1 to 256 registers at consecutive addresses; any other request is REFUSED_FORMAT, and one that the
engine's firewall or the fence of an isolated test unit (18 R380) refuses is ABORTED (log 180). -/
def opReadReg (r : Req) (addr count : Nat) (s : State) : State :=
  request r 0x10 false (fun _ s =>
    if 1 ≤ count ∧ count ≤ 256 ∧ (regAt addr).isSome ∧ (regAt (addr + 4 * (count - 1))).isSome then
      let x := readRegs count addr [] s
      if x.1 then reply r 0x10 stOk x.2.1 x.2.2 else reply r 0x10 stAborted [] x.2.2
    else reply r 0x10 stFormat [] s) s

/-- The privilege bit that WRITE_REG needs for a register (R373); none where the security engine may not write it. -/
def writePriv (w o : Nat) : Option Nat :=
  match w with
  | 2 =>
    if o = 0 then some 0
    else if o = 0x40 then some 3
    else if o = 0x100 ∨ (0x200 ≤ o ∧ o < 0x300 ∧ o % 16 ≠ 12) then some 2
    else if 0x400 ≤ o ∧ o < 0x500 then some 1
    else none
  | 5 => if o = 0x44 then some 0 else none
  | 6 => if 0x100 ≤ o ∧ o < 0x200 ∧ o % 0x20 = 0 then some 10 else none
  | 7 => if o = 0x30 then some 3 else none
  | 8 => if 0x1000 ≤ o ∧ o < 0x3000 ∧ o % 16 = 0 then some 10 else none
  | 9 => if o = 0x30 ∨ o = 0x34 then some 4 else none
  | 12 => if (0x1000 ≤ o ∧ o < 0x1200 ∨ 0x1400 ≤ o ∧ o < 0x1480) ∧ o % 0x20 = 0 then some 10 else none
  | 18 => if o = 0x20 ∨ o = 0x24 ∨ o = 0x28 then some 6 else none
  | _ => none

/-- WRITE_REG (R373): the write under the security engine's ID and through its firewall (01 R19, R28); the register's own
rules apply. -/
def opWriteReg (r : Req) (addr : Nat) (v : Word) (s : State) : State :=
  match regAt addr with
  | none => request r 0x11 false (fun _ s => reply r 0x11 stFormat [] s) s
  | some (w, o) =>
    match writePriv w o with
    | none => request r 0x11 false (fun _ s => reply r 0x11 stFormat [] s) s
    | some b => privileged r 0x11 b addr false (fun _ s =>
        if !firewallOk s secId .write addr 4 then (stAborted, (refuse 2 secId true addr 0 s).2.2)
        else if fencedIn s addr then (stAborted, s)
        else (stOk, regWrite secId w o v s)) s

/-- READ_REG. -/
def execReadReg (r : Req) (addr count : Nat) (s : State) : Host.Outcome State Fault Refusal :=
  wfRun (.readReg r addr count) (opReadReg r addr count) s
/-- WRITE_REG. -/
def execWriteReg (r : Req) (addr : Nat) (v : Word) (s : State) : Host.Outcome State Fault Refusal :=
  wfRun (.writeReg r addr v) (opWriteReg r addr v) s

end Sys2Proof.Machine
end

