-- ==== Sys2Proof/Machine/Dispatch.lean ====
section
/-! DEFINITION. One arm for each command: its meaning, applied to the command's operands and the state without the
queue's front (Machine/Step.lean). -/

namespace Sys2Proof.Machine

def exec (i : Instr) (s : State) : Host.Outcome State Fault Refusal :=
  match i with
  | .registerWrite init addr v => Sys2Proof.Machine.execRegisterWrite init addr v s
  | .rachisTransaction t => Sys2Proof.Machine.execRachisTransaction t s
  | .busTimeout t => Sys2Proof.Machine.execBusTimeout t s
  | .engineWatchdog e => Sys2Proof.Machine.execEngineWatchdog e s
  | .trdWatchdog t => Sys2Proof.Machine.execTrdWatchdog t s
  | .clockFault d => Sys2Proof.Machine.execClockFault d s
  | .functionDrainDone f => Sys2Proof.Machine.execFunctionDrainDone f s
  | .powerOn coding => Sys2Proof.Machine.execPowerOn coding s
  | .supplySample vin vbus lplus rails => Sys2Proof.Machine.execSupplySample vin vbus lplus rails s
  | .capacitanceMeasurement ua us => Sys2Proof.Machine.execCapacitanceMeasurement ua us s
  | .supervisorRelease oscOk => Sys2Proof.Machine.execSupervisorRelease oscOk s
  | .quenchDone us => Sys2Proof.Machine.execQuenchDone us s
  | .cellMeasurement mv => Sys2Proof.Machine.execCellMeasurement mv s
  | .errorEpisodeEnd e => Sys2Proof.Machine.execErrorEpisodeEnd e s
  | .aonSnap init v => Sys2Proof.Machine.execAonSnap init v s
  | .aonRtcSet init v => Sys2Proof.Machine.execAonRtcSet init v s
  | .bootSecuritySelftest fail => Sys2Proof.Machine.execBootSecuritySelftest fail s
  | .imageCheck copyB => Sys2Proof.Machine.execImageCheck copyB s
  | .protLock init v => Sys2Proof.Machine.execProtLock init v s
  | .startupBist o => Sys2Proof.Machine.execStartupBist o s
  | .cmptestStart init v => Sys2Proof.Machine.execCmptestStart init v s
  | .cmptestDone o => Sys2Proof.Machine.execCmptestDone o s
  | .coreInstruction core a => Sys2Proof.Machine.execCoreInstruction core a s
  | .windowTimer t => Sys2Proof.Machine.execWindowTimer t s
  | .triadInterrupt t src => Sys2Proof.Machine.execTriadInterrupt t src s
  | .singleIssueRead t => Sys2Proof.Machine.execSingleIssueRead t s
  | .lagTimeout t => Sys2Proof.Machine.execLagTimeout t s
  | .triadRestart t => Sys2Proof.Machine.execTriadRestart t s
  | .releasedStoreError t addr resp => Sys2Proof.Machine.execReleasedStoreError t addr resp s
  | .reserveL1ClearDone r => Sys2Proof.Machine.execReserveL1ClearDone r s
  | .quiet t => Sys2Proof.Machine.execQuiet t s
  | .reintegration t live res => Sys2Proof.Machine.execReintegration t live res s
  | .toSplit t => Sys2Proof.Machine.execToSplit t s
  | .splitStart t => Sys2Proof.Machine.execSplitStart t s
  | .toTriad core => Sys2Proof.Machine.execToTriad core s
  | .handoverTimeout t => Sys2Proof.Machine.execHandoverTimeout t s
  | .triadRestore t ds => Sys2Proof.Machine.execTriadRestore t ds s
  | .l1Error line => Sys2Proof.Machine.execL1Error line s
  | .awnLd lane x => Sys2Proof.Machine.execAwnLd lane x s
  | .awnAnd lane x => Sys2Proof.Machine.execAwnAnd lane x s
  | .awnOr lane x => Sys2Proof.Machine.execAwnOr lane x s
  | .awnXor lane x => Sys2Proof.Machine.execAwnXor lane x s
  | .awnSt lane x => Sys2Proof.Machine.execAwnSt lane x s
  | .awnSet lane x => Sys2Proof.Machine.execAwnSet lane x s
  | .awnRst lane x => Sys2Proof.Machine.execAwnRst lane x s
  | .awnNot lane => Sys2Proof.Machine.execAwnNot lane s
  | .awnPsh lane => Sys2Proof.Machine.execAwnPsh lane s
  | .awnPop lane => Sys2Proof.Machine.execAwnPop lane s
  | .awnRds lane => Sys2Proof.Machine.execAwnRds lane s
  | .awnPopa lane => Sys2Proof.Machine.execAwnPopa lane s
  | .awnPopo lane => Sys2Proof.Machine.execAwnPopo lane s
  | .awnPopx lane => Sys2Proof.Machine.execAwnPopx lane s
  | .awnTim lane n => Sys2Proof.Machine.execAwnTim lane n s
  | .awnTrs lane n => Sys2Proof.Machine.execAwnTrs lane n s
  | .awnCtu lane n => Sys2Proof.Machine.execAwnCtu lane n s
  | .awnCtd lane n => Sys2Proof.Machine.execAwnCtd lane n s
  | .awnCrs lane n => Sys2Proof.Machine.execAwnCrs lane n s
  | .awnCld lane n => Sys2Proof.Machine.execAwnCld lane n s
  | .awnEdg lane n => Sys2Proof.Machine.execAwnEdg lane n s
  | .awnLw lane x => Sys2Proof.Machine.execAwnLw lane x s
  | .awnSw lane x => Sys2Proof.Machine.execAwnSw lane x s
  | .awnAdd lane x => Sys2Proof.Machine.execAwnAdd lane x s
  | .awnSub lane x => Sys2Proof.Machine.execAwnSub lane x s
  | .awnMul lane x => Sys2Proof.Machine.execAwnMul lane x s
  | .awnAndw lane x => Sys2Proof.Machine.execAwnAndw lane x s
  | .awnOrw lane x => Sys2Proof.Machine.execAwnOrw lane x s
  | .awnXorw lane x => Sys2Proof.Machine.execAwnXorw lane x s
  | .awnMin lane x => Sys2Proof.Machine.execAwnMin lane x s
  | .awnMax lane x => Sys2Proof.Machine.execAwnMax lane x s
  | .awnSel lane x => Sys2Proof.Machine.execAwnSel lane x s
  | .awnCeq lane x => Sys2Proof.Machine.execAwnCeq lane x s
  | .awnCne lane x => Sys2Proof.Machine.execAwnCne lane x s
  | .awnClt lane x => Sys2Proof.Machine.execAwnClt lane x s
  | .awnCle lane x => Sys2Proof.Machine.execAwnCle lane x s
  | .awnCgt lane x => Sys2Proof.Machine.execAwnCgt lane x s
  | .awnCge lane x => Sys2Proof.Machine.execAwnCge lane x s
  | .awnShl lane sh => Sys2Proof.Machine.execAwnShl lane sh s
  | .awnShr lane sh => Sys2Proof.Machine.execAwnShr lane sh s
  | .awnAsr lane sh => Sys2Proof.Machine.execAwnAsr lane sh s
  | .awnNegw lane => Sys2Proof.Machine.execAwnNegw lane s
  | .awnAbs lane => Sys2Proof.Machine.execAwnAbs lane s
  | .awnLdl lane lit => Sys2Proof.Machine.execAwnLdl lane lit s
  | .awnJmp lane target => Sys2Proof.Machine.execAwnJmp lane target s
  | .awnJc lane target => Sys2Proof.Machine.execAwnJc lane target s
  | .awnJnc lane target => Sys2Proof.Machine.execAwnJnc lane target s
  | .awnNop lane => Sys2Proof.Machine.execAwnNop lane s
  | .awnEnd lane => Sys2Proof.Machine.execAwnEnd lane s
  | .awnIllegalStep lane ecc => Sys2Proof.Machine.execAwnIllegalStep lane ecc s
  | .awnEnableWrite init v => Sys2Proof.Machine.execAwnEnableWrite init v s
  | .modeReqRun init => Sys2Proof.Machine.execModeReqRun init s
  | .modeReqStop init => Sys2Proof.Machine.execModeReqStop init s
  | .modeReqHold init => Sys2Proof.Machine.execModeReqHold init s
  | .forceEntryWrite init k v => Sys2Proof.Machine.execForceEntryWrite init k v s
  | .olcCommit init v => Sys2Proof.Machine.execOlcCommit init v s
  | .exchStart init v => Sys2Proof.Machine.execExchStart init v s
  | .taskRelease k => Sys2Proof.Machine.execTaskRelease k s
  | .dispatchTake init t p v => Sys2Proof.Machine.execDispatchTake init t p v s
  | .jobDone init t p v => Sys2Proof.Machine.execJobDone init t p v s
  | .deadlineMiss k => Sys2Proof.Machine.execDeadlineMiss k s
  | .budgetOverrun k => Sys2Proof.Machine.execBudgetOverrun k s
  | .sensorSample q => Sys2Proof.Machine.execSensorSample q s
  | .shedEnd cause => Sys2Proof.Machine.execShedEnd cause s
  | .dramScrub r => Sys2Proof.Machine.execDramScrub r s
  | .mramScrub r => Sys2Proof.Machine.execMramScrub r s
  | .earFrameForward port bytes fcsOk => Sys2Proof.Machine.execEarFrameForward port bytes fcsOk s
  | .earFrameReceive port rx endPass bytes => Sys2Proof.Machine.execEarFrameReceive port rx endPass bytes s
  | .vyfModeReq init v => Sys2Proof.Machine.execVyfModeReq init v s
  | .backboneLinkChange port up => Sys2Proof.Machine.execBackboneLinkChange port up s
  | .hubTxSlot desc => Sys2Proof.Machine.execHubTxSlot desc s
  | .hubFrameReceive port f => Sys2Proof.Machine.execHubFrameReceive port f s
  | .hubRxWindowClose desc => Sys2Proof.Machine.execHubRxWindowClose desc s
  | .portReopen port => Sys2Proof.Machine.execPortReopen port s
  | .hubPortEnableWrite init port v => Sys2Proof.Machine.execHubPortEnableWrite init port v s
  | .hubLinkChange port up => Sys2Proof.Machine.execHubLinkChange port up s
  | .openMsg src dst stream => Sys2Proof.Machine.execOpenMsg src dst stream s
  | .dataMsg src dst stream offset ack bytes => Sys2Proof.Machine.execDataMsg src dst stream offset ack bytes s
  | .closeMsg src dst stream reason => Sys2Proof.Machine.execCloseMsg src dst stream reason s
  | .relayConnect tcpPort => Sys2Proof.Machine.execRelayConnect tcpPort s
  | .streamResend peer stream => Sys2Proof.Machine.execStreamResend peer stream s
  | .streamAckTimeout peer stream => Sys2Proof.Machine.execStreamAckTimeout peer stream s
  | .streamIdleTimeout peer stream => Sys2Proof.Machine.execStreamIdleTimeout peer stream s
  | .pairTxSlot buffer => Sys2Proof.Machine.execPairTxSlot buffer s
  | .pairReportReceive inWindow bytes => Sys2Proof.Machine.execPairReportReceive inWindow bytes s
  | .shadowFrameReceive inWindow bytes => Sys2Proof.Machine.execShadowFrameReceive inWindow bytes s
  | .pilInChange level => Sys2Proof.Machine.execPilInChange level s
  | .pairSwitch init v => Sys2Proof.Machine.execPairSwitch init v s
  | .glumeMessageReceive transport index bytes => Sys2Proof.Machine.execGlumeMessageReceive transport index bytes s
  | .connectionTimeout c => Sys2Proof.Machine.execConnectionTimeout c s
  | .glmConnEnableWrite init c v => Sys2Proof.Machine.execGlmConnEnableWrite init c v s
  | .inputSample di fb => Sys2Proof.Machine.execInputSample di fb s
  | .fbPullInTimeout n => Sys2Proof.Machine.execFbPullInTimeout n s
  | .fbDropOutTimeout n => Sys2Proof.Machine.execFbDropOutTimeout n s
  | .readbackSample dq loadMa groupMa => Sys2Proof.Machine.execReadbackSample dq loadMa groupMa s
  | .offPulse n => Sys2Proof.Machine.execOffPulse n s
  | .offPulseEnd n => Sys2Proof.Machine.execOffPulseEnd n s
  | .groupSwitchTest g showsOpen => Sys2Proof.Machine.execGroupSwitchTest g showsOpen s
  | .outputOverload n ma => Sys2Proof.Machine.execOutputOverload n ma s
  | .groupOvercurrent g ma => Sys2Proof.Machine.execGroupOvercurrent g ma s
  | .returnCrossFault g => Sys2Proof.Machine.execReturnCrossFault g s
  | .openLoad n => Sys2Proof.Machine.execOpenLoad n s
  | .faultResetInputs init => Sys2Proof.Machine.execFaultResetInputs init s
  | .faultResetGroups init mask => Sys2Proof.Machine.execFaultResetGroups init mask s
  | .faultResetChannels init mask => Sys2Proof.Machine.execFaultResetChannels init mask s
  | .ovlResetGroups init mask => Sys2Proof.Machine.execOvlResetGroups init mask s
  | .ovlResetChannels init mask => Sys2Proof.Machine.execOvlResetChannels init mask s
  | .canFrameReceive n f => Sys2Proof.Machine.execCanFrameReceive n f s
  | .txReq init n k => Sys2Proof.Machine.execTxReq init n k s
  | .canTxAttemptEnd n e => Sys2Proof.Machine.execCanTxAttemptEnd n e s
  | .canSendDeadline n => Sys2Proof.Machine.execCanSendDeadline n s
  | .busOffHoldEnd n => Sys2Proof.Machine.execBusOffHoldEnd n s
  | .recover init n => Sys2Proof.Machine.execRecover init n s
  | .canRecoveryDone n => Sys2Proof.Machine.execCanRecoveryDone n s
  | .canEnableWrite init n v => Sys2Proof.Machine.execCanEnableWrite init n v s
  | .canObjectEnableWrite init n k v => Sys2Proof.Machine.execCanObjectEnableWrite init n k v s
  | .objStatRead init n k => Sys2Proof.Machine.execObjStatRead init n k s
  | .referenceSend n => Sys2Proof.Machine.execReferenceSend n s
  | .referenceLost n => Sys2Proof.Machine.execReferenceLost n s
  | .culmOutboundAccept q => Sys2Proof.Machine.execCulmOutboundAccept q s
  | .culmOutboundEnd e => Sys2Proof.Machine.execCulmOutboundEnd e s
  | .culmInboundAddressPhase p => Sys2Proof.Machine.execCulmInboundAddressPhase p s
  | .delayedReadData slot => Sys2Proof.Machine.execDelayedReadData slot s
  | .delayedReadDiscard slot => Sys2Proof.Machine.execDelayedReadDiscard slot s
  | .prefetchExpiry buf => Sys2Proof.Machine.execPrefetchExpiry buf s
  | .culmWindowEnableWrite init inbound w v => Sys2Proof.Machine.execCulmWindowEnableWrite init inbound w v s
  | .tlsHandshake o => Sys2Proof.Machine.execTlsHandshake o s
  | .sessionIdleTimeout ses => Sys2Proof.Machine.execSessionIdleTimeout ses s
  | .attest ses nonce => Sys2Proof.Machine.execAttest ses nonce s
  | .challenge ses => Sys2Proof.Machine.execChallenge ses s
  | .token ses bytes => Sys2Proof.Machine.execToken ses bytes s
  | .readReg ses addr count => Sys2Proof.Machine.execReadReg ses addr count s
  | .writeReg ses addr v => Sys2Proof.Machine.execWriteReg ses addr v s
  | .readMem ses addr count => Sys2Proof.Machine.execReadMem ses addr count s
  | .clearRecords ses => Sys2Proof.Machine.execClearRecords ses s
  | .imageBegin ses len => Sys2Proof.Machine.execImageBegin ses len s
  | .imageData ses offset bytes => Sys2Proof.Machine.execImageData ses offset bytes s
  | .imageEnd ses => Sys2Proof.Machine.execImageEnd ses s
  | .confirm ses => Sys2Proof.Machine.execConfirm ses s
  | .secImageConfirm init v => Sys2Proof.Machine.execSecImageConfirm init v s
  | .activate ses => Sys2Proof.Machine.execActivate ses s
  | .imageKeyInstall ses slot wrapped => Sys2Proof.Machine.execImageKeyInstall ses slot wrapped s
  | .anchorInstall ses slot key => Sys2Proof.Machine.execAnchorInstall ses slot key s
  | .keySlotProgram ses slot key => Sys2Proof.Machine.execKeySlotProgram ses slot key s
  | .slotRevoke ses slot => Sys2Proof.Machine.execSlotRevoke ses slot s
  | .anchorA0Disable ses => Sys2Proof.Machine.execAnchorA0Disable ses s
  | .debugOpen ses => Sys2Proof.Machine.execDebugOpen ses s
  | .rngRead init => Sys2Proof.Machine.execRngRead init s
  | .shutdownGo init v => Sys2Proof.Machine.execShutdownGo init v s
  | .shutdownRestart init => Sys2Proof.Machine.execShutdownRestart init s
  | .shutdownReady init => Sys2Proof.Machine.execShutdownReady init s
  | .threshRun o => Sys2Proof.Machine.execThreshRun o s
  | .eventRaise code detail d0 d1 => Sys2Proof.Machine.execEventRaise code detail d0 d1 s
  | .rateIntervalEnd code idx => Sys2Proof.Machine.execRateIntervalEnd code idx s
  | .sessionClosed ses => Sys2Proof.Machine.execSessionClosed ses s
  | .openLoadCleared n => Sys2Proof.Machine.execOpenLoadCleared n s
  | .canBusIntegrated n => Sys2Proof.Machine.execCanBusIntegrated n s
  | .maintenanceFrameReceive f => Sys2Proof.Machine.execMaintenanceFrameReceive f s
  | .bridgeBackstopTimeout => Sys2Proof.Machine.execBridgeBackstopTimeout s
  | .fluctuationTimeout => Sys2Proof.Machine.execFluctuationTimeout s
  | .surgeTimeout => Sys2Proof.Machine.execSurgeTimeout s
  | .inputReconnect => Sys2Proof.Machine.execInputReconnect s
  | .braceDwellEnd => Sys2Proof.Machine.execBraceDwellEnd s
  | .quenchGuardExpiry => Sys2Proof.Machine.execQuenchGuardExpiry s
  | .railFaultTimeout => Sys2Proof.Machine.execRailFaultTimeout s
  | .aonSnapDone => Sys2Proof.Machine.execAonSnapDone s
  | .dramClear => Sys2Proof.Machine.execDramClear s
  | .verdictApply => Sys2Proof.Machine.execVerdictApply s
  | .imageSelect => Sys2Proof.Machine.execImageSelect s
  | .counterRaise => Sys2Proof.Machine.execCounterRaise s
  | .loadAndLock => Sys2Proof.Machine.execLoadAndLock s
  | .granaryStart => Sys2Proof.Machine.execGranaryStart s
  | .handOver => Sys2Proof.Machine.execHandOver s
  | .awnScanTrigger => Sys2Proof.Machine.execAwnScanTrigger s
  | .laneTimeout => Sys2Proof.Machine.execLaneTimeout s
  | .awnPublish => Sys2Proof.Machine.execAwnPublish s
  | .cycleBoundary => Sys2Proof.Machine.execCycleBoundary s
  | .releasePhase => Sys2Proof.Machine.execReleasePhase s
  | .publish => Sys2Proof.Machine.execPublish s
  | .hoursCopy => Sys2Proof.Machine.execHoursCopy s
  | .earFrameSend => Sys2Proof.Machine.execEarFrameSend s
  | .modeRequestTimeout => Sys2Proof.Machine.execModeRequestTimeout s
  | .listenTimeout => Sys2Proof.Machine.execListenTimeout s
  | .originTakeover => Sys2Proof.Machine.execOriginTakeover s
  | .syncLost => Sys2Proof.Machine.execSyncLost s
  | .beaconSend => Sys2Proof.Machine.execBeaconSend s
  | .guardianGraceEnd => Sys2Proof.Machine.execGuardianGraceEnd s
  | .originYield => Sys2Proof.Machine.execOriginYield s
  | .candidateTimeout => Sys2Proof.Machine.execCandidateTimeout s
  | .candidateDrawEnd => Sys2Proof.Machine.execCandidateDrawEnd s
  | .checkScan => Sys2Proof.Machine.execCheckScan s
  | .pairLinkLost => Sys2Proof.Machine.execPairLinkLost s
  | .outputImageArrival => Sys2Proof.Machine.execOutputImageArrival s
  | .testRound => Sys2Proof.Machine.execTestRound s
  | .testRoundEnd => Sys2Proof.Machine.execTestRoundEnd s
  | .lplusRestored => Sys2Proof.Machine.execLplusRestored s
  | .culmTransactionTimeout => Sys2Proof.Machine.execCulmTransactionTimeout s
  | .inboundWriteIssue => Sys2Proof.Machine.execInboundWriteIssue s
  | .installationComplete => Sys2Proof.Machine.execInstallationComplete s
  | .autoConfirm => Sys2Proof.Machine.execAutoConfirm s
  | .rngHealthFail => Sys2Proof.Machine.execRngHealthFail s
  | .sdreqActive => Sys2Proof.Machine.execSdreqActive s
  | .shutdownEntry => Sys2Proof.Machine.execShutdownEntry s
  | .shutdownGraceEnd => Sys2Proof.Machine.execShutdownGraceEnd s
  | .threshRunDone => Sys2Proof.Machine.execThreshRunDone s
  | .recordWritten => Sys2Proof.Machine.execRecordWritten s
  | .lifeWriteTick => Sys2Proof.Machine.execLifeWriteTick s
  | .operatingSecond => Sys2Proof.Machine.execOperatingSecond s
  | .logicSupplyLost => Sys2Proof.Machine.execLogicSupplyLost s
  | .lampTestEnd => Sys2Proof.Machine.execLampTestEnd s

end Sys2Proof.Machine
end

