-- ==== Sys2Proof/Machine/Tick.lean ====
section
/-! DEFINITION. Time: what 8 ns bring about while no command waits (log 1). The model's clock, the train time base with its
slew and RATE (09 R217, R221, R222), the real-time clock and the operating seconds (08 R200). -/

namespace Sys2Proof.Machine

/-- The length of a tick, ns: the resolution of the train time base (01 R35). -/
def tickNs : Nat := 8

/-- What is slewed of a correction `c` by `at'` ns after T0: its share of the first half of the period `p` (R221). -/
def slewBy (c : Int) (p at' : Nat) : Int := Int.tdiv (c * (Nat.min at' (p / 2) : Nat)) (p / 2 : Nat)

/-- The share of the correction that falls into this tick (R221): at most 1 ns, so that the time base never steps or runs
backwards (R222). -/
def slewNow (s : State) : Int :=
  let p := modePeriod s (netNow s).2.2
  let t := s.clk.now - s.cyc.t0
  slewBy s.clk.slewRun p (t + tickNs) - slewBy s.clk.slewRun p t

/-- The train time base after a tick: it runs from the release on, unsteered until it is set (R217). -/
def tickTrain (s : State) : State :=
  if !s.mod.mode.released then s
  else
    let f := s.clk.frac + tickNs * s.vyf.rate
    let n := Int.tdiv f 1000000000
    { s with clk := { s.clk with
        tb := (s.clk.tb + (tickNs + slewNow s + n).toNat) % 2 ^ 64, frac := f - n * 1000000000 } }

/-- The real-time clock after a tick: it runs while the logic supply or the cell feeds the domain (R199, R200). -/
def tickRtc (s : State) : State :=
  if s.mod.mode = .powerOff ∧ !s.aon.alive then s
  else
    let f := s.aon.rtcFrac + tickNs * 32768
    if f < 1000000000 then { s with aon := { s.aon with rtcFrac := f } }
    else if s.aon.rtcSub < 32767 then
      { s with aon := { s.aon with rtcFrac := f - 1000000000, rtcSub := s.aon.rtcSub + 1 } }
    else { s with aon := { s.aon with
        rtcFrac := f - 1000000000, rtcSub := 0, rtc := (s.aon.rtc + 1) % 2 ^ 64 } }

/-- The operating-seconds count after a tick: it advances while the logic supply is present (07 R180). -/
def tickSecs (s : State) : State :=
  if s.mod.mode = .powerOff then s
  else
    let n := s.aon.secNs + tickNs
    if n < 1000000000 then { s with aon := { s.aon with secNs := n } }
    else { s with aon := { s.aon with secNs := n - 1000000000, secs := (s.aon.secs + 1) % 2 ^ 64 } }

/-- 8 ns pass. -/
def tick (s : State) : State :=
  let s := tickSecs (tickRtc (tickTrain s))
  { s with clk := { s.clk with now := s.clk.now + tickNs }, out := [] }

end Sys2Proof.Machine
end

