-- ==== Sys2Proof/Machine/Panel.lean ====
section
/-! DEFINITION. The front panel (22 R440): what each of the six indicators shows, as a view of the state. -/

namespace Sys2Proof.Machine

/-- What an indicator shows. -/
inductive Light where
  | dark | steady | slow | fast | green | greenSlow | red | amber | amberFast
  deriving DecidableEq, Repr

/-- The panel is dark in POWER-OFF and SUPERVISED; every indicator lights during the lamp test. -/
def lamp (s : State) (l : Light) : Light :=
  if !s.mod.mode.released then .dark else if s.mod.lamp then .steady else l

/-- RUN, green: 1 Hz in HOLD, 4 Hz in STOP. -/
def lampRun (s : State) : Light :=
  lamp s (match s.mod.mode with
    | .run => .steady
    | .brace => .steady
    | .hold => .slow
    | .stop => .fast
    | _ => .dark)

/-- SAFE, red: 4 Hz in BOOT and SELFTEST, 1 Hz in recovery. -/
def lampSafe (s : State) : Light :=
  lamp s (if s.sec.recovery then .slow
    else match s.mod.mode with
      | .safe => .steady
      | .boot => .fast
      | .selftest => .fast
      | _ => .dark)

/-- FORCE, amber. -/
def lampForce (s : State) : Light := lamp s (if anyForced s then .steady else .dark)

/-- NET, green or red. -/
def lampNet (s : State) : Light :=
  lamp s (match s.vyf.state with
    | 0 => .dark
    | 4 => if s.vyf.chA.ok && s.vyf.chB.ok then .green else .greenSlow
    | 5 => .greenSlow
    | _ => .red)

/-- PAIR, green or amber. -/
def lampPair (s : State) : Light :=
  lamp s (match s.pair.role with
    | 1 => .green
    | 2 => .amber
    | 3 => .amberFast
    | _ => .dark)

/-- MAINT, amber. -/
def lampMaint (s : State) : Light :=
  lamp s (if s.sec.debug then .fast else if s.sec.sessions.isEmpty then .dark else .steady)

end Sys2Proof.Machine
end

