-- ==== Sys2Proof/Safety.lean ====
section
/-! DEFINITION. What claims are made of: the parts of the state and what leaves them alone, a command that completes, the
moves between module states that R4 allows, the fuses' order, the canonical form of the tables, triads at rest. -/

namespace Sys2Proof.Machine

/-! ## Parts of the state -/

/-- The parts of the state that the spec gives the module: State's fields but for the model's own `out` and `free`. -/
inductive StatePart where
  | pending | clk | mod | mem | lk | img | rch | trd | awn | cyc | sch | vyf | fab | hub | pair | glm | fio | can0 | can1
  | culm | sup | aon | sec | area | fuse | thr | grn | eng
  deriving DecidableEq, Repr

/-- The part is the same in both states. -/
def StatePart.same (p : StatePart) (s t : State) : Prop :=
  match p with
  | .pending => t.pending = s.pending
  | .clk => t.clk = s.clk
  | .mod => t.mod = s.mod
  | .mem => t.mem = s.mem
  | .lk => t.lk = s.lk
  | .img => t.img = s.img
  | .rch => t.rch = s.rch
  | .trd => t.trd = s.trd
  | .awn => t.awn = s.awn
  | .cyc => t.cyc = s.cyc
  | .sch => t.sch = s.sch
  | .vyf => t.vyf = s.vyf
  | .fab => t.fab = s.fab
  | .hub => t.hub = s.hub
  | .pair => t.pair = s.pair
  | .glm => t.glm = s.glm
  | .fio => t.fio = s.fio
  | .can0 => t.can0 = s.can0
  | .can1 => t.can1 = s.can1
  | .culm => t.culm = s.culm
  | .sup => t.sup = s.sup
  | .aon => t.aon = s.aon
  | .sec => t.sec = s.sec
  | .area => t.area = s.area
  | .fuse => t.fuse = s.fuse
  | .thr => t.thr = s.thr
  | .grn => t.grn = s.grn
  | .eng => t.eng = s.eng

/-- From s to t nothing changes but the parts listed: the frame of a command. -/
def Only (ps : List StatePart) (s t : State) : Prop := ∀ p, p ∉ ps → p.same s t

/-- The command completes: from s it answers a next state, and P holds of that state. -/
def Gives (c : Instr) (s : State) (P : State → Prop) : Prop := ∃ t, exec c s = .next t ∧ P t

/-- As Gives, with the frame: nothing changes but the parts listed. -/
def GivesOnly (ps : List StatePart) (c : Instr) (s : State) (P : State → Prop) : Prop :=
  ∃ t, exec c s = .next t ∧ P t ∧ Only ps s t

/-- The command's own effect gives u, of which P holds and which differs from s in the parts listed only; the voters then act
on what waits at them (R79 to R85), and what they leave is the command's next state. -/
def GivesSettled (ps : List StatePart) (c : Instr) (s : State) (P : State → Prop) : Prop :=
  ∃ u, exec c s = .next { settle u with pending := s.pending } ∧ P u ∧ Only ps s u

/-! ## Module states -/

/-- The moves between module states that a command may make (R4, R146, R192, R196, R198, R386, R407, R412, R415), and staying.
From every state the supply may fail to POWER-OFF or the die be reset to SUPERVISED. -/
def Mode.goes (a b : Mode) : Bool :=
  decide (a = b) || decide (b = .powerOff) || decide (b = .supervised) ||
    (match a, b with
     | .supervised, .boot => true
     | .boot, .selftest => true
     | .boot, .safe => true
     | .selftest, .stop => true
     | .selftest, .safe => true
     | .stop, .run => true
     | .stop, .hold => true
     | .stop, .safe => true
     | .stop, .shutdown => true
     | .run, .stop => true
     | .run, .hold => true
     | .run, .brace => true
     | .run, .safe => true
     | .run, .shutdown => true
     | .hold, .stop => true
     | .hold, .run => true
     | .hold, .safe => true
     | .hold, .shutdown => true
     | .brace, .stop => true
     | .brace, .run => true
     | .brace, .hold => true
     | .brace, .safe => true
     | .brace, .shutdown => true
     | .safe, .shutdown => true
     | _, _ => false)

/-! ## What every step keeps -/

/-- No fuse of a is restored in b: the factory's items are the same, a programmed signing slot keeps its key, a blown revoke
bit or A0_DISABLE stays blown, and the rollback counter has not fallen (R361, R366). -/
def Fuse.onlyBlown (a b : Fuse) : Prop :=
  b.serial = a.serial ∧ b.helper = a.helper ∧ b.cert = a.cert ∧ b.repairs = a.repairs ∧ b.slots.length = a.slots.length ∧
    b.revoked.length = a.revoked.length ∧
    (∀ n k, nth a.slots n none = some k → nth b.slots n none = some k) ∧
    (∀ n, nth a.revoked n false = true → nth b.revoked n false = true) ∧
    (a.a0Disable = true → b.a0Disable = true) ∧ a.rollback ≤ b.rollback

/-- Outputs act only where R4, R5 and R313 let them: a high side that is on, or a group switch that is closed, stands in STOP,
RUN, HOLD or BRACE, and in a module that is ACTIVE or has no partner. -/
def OutputsWhereAllowed (s : State) : Prop :=
  (∀ n, n < 16 → (s.dq n).cmd = true → stateActs s = true ∧ roleActs s = true) ∧
    (∀ g, g < 2 → (s.grp g).closed = true → stateActs s = true ∧ roleActs s = true)

/-- The sparse tables stand in their canonical form: the four memories, the LK store, the held life increments, and the timers of
both Awn banks and of every lane. -/
def State.canonical (s : State) : Prop :=
  s.mem.wf = true ∧ FMap.wf 0 s.lk = true ∧ FMap.wf 0 s.grn.incr = true ∧ FMap.wf {} s.awn.bank.timers = true ∧
    FMap.wf {} s.awn.otherBank.timers = true ∧ (∀ l ∈ s.awn.lanes, FMap.wf {} l.d.timers = true)

/-- Every fixed set of units has its number: 20 cores, 6 triads of 3 positions, 3 Awn lanes, 40 inputs, 16 feedback inputs,
16 outputs in 2 groups, 16 outbound and 4 inbound Culm windows, 8 junction sensors, 6 schedulers of 3 dispatch units, 8 hub
ports, 4 signing slots. -/
def State.shaped (s : State) : Prop :=
  s.trd.cores.length = 20 ∧ s.trd.triads.length = 6 ∧
    (∀ x ∈ s.trd.triads, x.cores.length = 3 ∧ x.fwCore.length = 3 ∧ x.empty.length = 3 ∧ x.live.length = 3 ∧ x.lanes.length = 3) ∧
    s.trd.reserves.length = 2 ∧ s.trd.resFree.length = 2 ∧
    s.awn.live.length = 3 ∧ s.awn.lanes.length = 3 ∧
    s.fio.di.length = 40 ∧ s.fio.fb.length = 16 ∧ s.fio.dq.length = 16 ∧ s.fio.groups.length = 2 ∧
    s.culm.oEn.length = 16 ∧ s.culm.oAct.length = 16 ∧ s.culm.oItems.length = 16 ∧
    s.culm.iEn.length = 4 ∧ s.culm.iAct.length = 4 ∧ s.culm.iItems.length = 4 ∧
    s.sch.faulted.length = 8 ∧ s.sch.triads.length = 6 ∧ (∀ x ∈ s.sch.triads, x.disp.length = 3) ∧
    s.hub.ports.length = 8 ∧ s.fuse.slots.length = 4 ∧ s.fuse.revoked.length = 4

/-! ## The Awn engine -/

/-- Lane `lane` executes: a scan runs, the lane is live and has not closed (R99, R122). -/
abbrev AwnRuns (s : State) (lane : Nat) : Prop :=
  lane < 3 ∧ lane < s.awn.lanes.length ∧ s.awn.state = 2 ∧ laneLive s lane = true ∧ (awnLane s lane).cause = none

/-- s with lane `lane` replaced by `l` and nothing given out: what a step that closes no lane answers. -/
def laneTo (s : State) (lane : Nat) (l : AwnLane) : State := putLane lane l s.begin

/-! ## Triads at rest -/

/-- No voter has work: no read, interrupt, close point or window of a voting triad waits, and no split core has been given an
interrupt. What a command does is then the command's own effect. -/
abbrev TriadsAtRest (s : State) : Prop := (List.range 6).all (settled s) = true

/-- No triad votes. -/
abbrev VotersIdle (s : State) : Prop := ∀ x ∈ s.trd.triads, x.votes = false ∧ x.voting = false

end Sys2Proof.Machine
end

