-- ==== Sys2Proof/Certificates/Slice0/Obligations.lean ====
section
/-! DEFINITION. The statements for the provers: what the numbered rules of spec/ say of the commands and of the whole
module. Each is about every state that meets its premises. -/

open Sys2Proof Sys2Proof.Machine

/-! ## BOOT, SELFTEST and hand-over (02, 03, 07, 17, 18, 20) -/

/-- R71, R170, R362, R363, R385, R407: the security self-test regenerates the root, or KAT is raised and the start
stops; a bad record raises AREA; the DRAM clear fills DRAM with zeros; a write of 1 by the boot core or the security
engine locks the set-up; the stored verdict is applied and the boot core is the lowest-numbered core that it does not
retire, and without a verdict STALE is raised. Commands it shows to complete: bootSecuritySelftest, protLock, dramClear,
verdictApply, granaryStart. Clauses that rest on a reading or choice of the model: log 142, 148. -/
def Obligations.BootPreparations : Prop := ∀ (s : State), s.mod.mode = .boot → s.sup.quenchSince = none →
  (s.sec.ready = false → s.sec.failed = false →
    ((∀ r, r < 4 → (s.area.record r).spoilt = false) →
      exec (.bootSecuritySelftest none) s = .next { s.begin with sec := { s.sec with ready := true, keys := true } }) ∧
    (∀ r, r < 4 → (s.area.record r).spoilt = true → GivesOnly [.sec, .grn] (.bootSecuritySelftest none) s (fun t =>
      t.sec.ready = true ∧ t.sec.keys = true ∧ bitOf t.sec.err.status 6 = true)) ∧
    (∀ k, k < 6 → GivesOnly [.sec, .grn] (.bootSecuritySelftest (some k)) s (fun t =>
      t.sec.failed = true ∧ t.sec.ready = false ∧ t.sec.keys = s.sec.keys ∧ bitOf t.sec.err.status 8 = true))) ∧
  (s.mod.dramDone = false → exec .dramClear s = .next { s.begin with
    mem := { s.mem with dram := [], dramBad := [] }, mod := { s.mod with dramDone := true } }) ∧
  (∀ init v, init < 64 → bitOf v 0 = true →
    (s.sec.lock = false → init = s.mod.bootCore ∨ init = 0x2B →
      exec (.protLock init v) s = .next { s.begin with sec := { s.sec with lock := true } }) ∧
    (init ≠ s.mod.bootCore → init ≠ 0x2B → exec (.protLock init v) s = .next s.begin)) ∧
  (s.sec.ready = true → s.thr.applied = false →
    (slotBest (verdictSeq s 0) (verdictSeq s 1) = none → GivesOnly [.thr, .mod, .grn] .verdictApply s (fun t =>
      t.thr = { s.thr with applied := true, err := t.thr.err } ∧ bitOf t.thr.err.status 5 = true ∧
      t.mod = { s.mod with bootCore := t.mod.bootCore })) ∧
    (∀ k, slotBest (verdictSeq s 0) (verdictSeq s 1) = some k →
      let b := s.mem.mramGet (verdictOff k) 0x4000
      GivesOnly [.thr, .mod, .grn] .verdictApply s (fun t =>
        t.thr.applied = true ∧ t.thr.quick = decide (staleCause s (some b) = 0) ∧
        t.thr.retired = bitList 20 (leAt b 0x18 4) ∧ t.thr.voter = bitList 6 (leAt b 0x20 1) ∧
        t.thr.l2 = bitList 6 (leAt b 0x21 1) ∧ t.thr.awn = bitList 3 (leAt b 0x22 1) ∧ t.thr.repairs = verdictRepairs b ∧
        t.mod = { s.mod with bootCore := t.mod.bootCore } ∧
        (∀ n, n < 20 → t.thr.retired.contains n = false → t.mod.bootCore ≤ n ∧
          t.thr.retired.contains t.mod.bootCore = false)))) ∧
  (s.img.loaded = true → s.grn.ready = false → s.sec.recovery = false →
    GivesOnly [.mem, .grn, .mod] .granaryStart s (fun t => t.grn.ready = true ∧ t.mod = { s.mod with mode := .selftest } ∧
      (∀ b, bestSlot s 0x200 = some b → t.grn.power = (leAt b 0 8 + 1) % 2 ^ 64) ∧
      (bestSlot s 0x200 = none → bitOf t.grn.err.status 2 = true)))

/-- R64, R65, R66, R67, R366: a copy left in FAILED_TRIAL is marked BAD; the candidates are the copies in TRIAL or GOOD,
the highest SEQUENCE first; the first that passes the checks is chosen, with FALLBACK where it is not the first in
order; one that fails is recorded, and marked BAD where it was on trial; with none left the module is in recovery; the
counter raise that a GOOD copy asks for blows the fuses. Commands it shows to complete: imageCheck, imageSelect,
counterRaise. -/
def Obligations.CopyChosenAndChecked : Prop := ∀ (s : State), s.mod.mode = .boot → s.sup.quenchSince = none →
  (s.sec.ready = true → s.thr.applied = true → s.mod.candidates = none → s.sec.recovery = false →
    (copyState s false ≠ .failedTrial → copyState s true ≠ .failedTrial →
      let l := candidatesOf s
      (l ≠ [] → exec .imageSelect s = .next { s.begin with mod := { s.mod with candidates := some l, first := l.head? } }) ∧
      (l = [] → GivesOnly [.mod, .sec, .grn] .imageSelect s (fun t =>
        t.mod = { s.mod with candidates := some [], first := none } ∧ t.sec.recovery = true ∧
        bitOf t.sec.err.status 2 = true))) ∧
    (∀ c, copyState s c = .failedTrial → GivesOnly [.mod, .sec, .grn, .mem] .imageSelect s (fun t =>
      copyState t c = .bad ∧ bitOf t.sec.err.status 0 = true ∧ t.mem.mram = s.mem.mram ∧ t.mem.dram = s.mem.dram ∧
      (∀ l, t.mod.candidates = some l → c ∉ l)))) ∧
  (∀ c rest, s.mod.candidates = some (c :: rest) → s.mod.chosen = none → s.sec.recovery = false →
    GivesOnly [.mod, .sec, .grn, .mem] (.imageCheck c) s (fun t => t.mem.mram = s.mem.mram ∧
      if checkImage s c = 0 then
        t.mem = s.mem ∧ t.mod = { s.mod with chosen := some c } ∧ t.sec.recovery = false ∧
          (s.mod.first ≠ some c → t.sec.fallback = true ∧ bitOf t.sec.err.status 1 = true) ∧
          (s.mod.first = some c → t.sec = s.sec)
      else
        t.mod = { s.mod with candidates := some rest } ∧ bitOf t.sec.err.status 0 = true ∧
          t.sec.recovery = rest.isEmpty ∧ (copyState s c = .trial → copyState t c = .bad) ∧
          (copyState s c ≠ .trial → t.mem = s.mem))) ∧
  (∀ c, s.mod.chosen = some c → copyState s c = .good → s.fuse.rollback < counterOf s c →
    GivesOnly [.fuse, .sec, .grn] .counterRaise s (fun t =>
      t.fuse = { s.fuse with rollback := counterOf s c } ∧ bitOf t.sec.err.status 7 = true))

/-- R53, R54, R56, R66, R70, R71, R75: the load of the chosen copy. The set-up is locked, the image's contents and the
registers that show the running copy are set, each triad's positions hold the cores of STRUCTURE but for retired ones,
each core image stands at its LOAD_ADDR, and DRAM outside the load ranges and the partitions to be cleared is as before.
Commands it shows to complete: loadAndLock. Clauses that rest on a reading or choice of the model: log 148. -/
def Obligations.LoadAndLock : Prop := ∀ (s : State) (c : Bool), s.mod.mode = .boot → s.mod.chosen = some c →
  s.mod.dramDone = true → s.img.loaded = false → s.sec.lock = false → raisePending s c = false →
  s.sup.quenchSince = none →
  GivesOnly [.mem, .lk, .img, .sec, .trd, .awn, .aon, .rch, .grn] .loadAndLock s (fun t =>
    match copyPays s c with
    | none => t = s.begin
    | some p =>
      t.img = parseImg (imgHeader s c) p ∧ t.mem.norA = s.mem.norA ∧ t.mem.norB = s.mem.norB ∧
      t.sec = { s.sec with
        lock := true, copyB := c, trial := decide (copyState s c = .trial),
        version := w32 (leAt (imgHeader s c) 0x14 4), seq := w32 (copySeq s c),
        digest := Config.sha384 (imgBytes s c 0 (imgLength (imgHeader s c) - 0x200)) } ∧
      t.trd.triads.length = 6 ∧ t.trd.cores.length = 20 ∧ t.trd.reserves = [leAt (pay p 1 0) 0x30 1, leAt (pay p 1 0) 0x31 1] ∧
      (∀ k q, k < 6 → q < 3 → s.thr.retired.contains (strCore (pay p 1 0) k q) = false →
        (t.tri k).coreAt q = strCore (pay p 1 0) k q ∧ nth (t.tri k).empty q false = false) ∧
      (∀ k, k < 6 → (t.tri k).split = strSplit (pay p 1 0) k ∧ (t.tri k).handover = strHandover (pay p 1 0) k) ∧
      (∀ a, a < 2 ^ 32 →
        (∀ x ∈ parseParts (pay p 2 0), x.clear = true → x.mram = false → a < x.first - dramBase ∨ x.stop - dramBase ≤ a) →
        (∀ i b, i < 24 → payOf p 6 i = some b →
          a < leAt b 0 8 - dramBase ∨ leAt b 0 8 - dramBase + leAt b 0x10 4 ≤ a) →
        FMap.look t.mem.dram 0 a = FMap.look s.mem.dram 0 a) ∧
      (∀ i b, i < 24 → payOf p 6 i = some b → (∀ j d, j < 24 → i < j → payOf p 6 j = some d →
          leAt b 0 8 - dramBase + leAt b 0x10 4 ≤ leAt d 0 8 - dramBase ∨
            leAt d 0 8 - dramBase + leAt d 0x10 4 ≤ leAt b 0 8 - dramBase) →
        let d := slice b 0x20 (leAt b 0x10 4)
        t.mem.dramGet (leAt b 0 8 - dramBase) d.length = d))

/-- R93, R94, R380, R386: in SELFTEST, START begins the comparator test; its end sets DONE, PASS, VOTER_FAIL and
PATH_FAIL; a test in which nothing failed changes nothing else; a core whose injected signature is taken for equal is
FAILED_TEST and a free reserve takes its position; a voter that releases every window fails, and needs SAFE where its
triad votes. The start-up BIST joins its findings to the verdict and writes it; anything new resets the die with CAUSE
5, and else the start goes on with the keys gone, the tested units' memories zero, and the units that failed isolated.
R66, R75, R95, R387, R407, R408: hand-over. The copy's one trial is spent; every TRIAD-mode triad with its three
positions filled votes with all three cores running, every SPLIT-mode triad starts split; the module enters STOP and
takes BPRST back, or SAFE where the verdict or the comparator test has a finding. Commands it shows to complete:
startupBist, cmptestStart, cmptestDone, handOver. Clauses that rest on a reading or choice of the model: log 141, 145,
146, 147, 201. -/
def Obligations.SelfTestsAndHandOver : Prop :=
  (∀ (s : State), s.mod.mode = .selftest → s.sup.quenchSince = none →
   (∀ init v, init < 64 → bitOf v 0 = true → exec (.cmptestStart init v) s = .next { s.begin with trd := { s.trd with
     cmpRunning := true, cmpDone := false, cmpPass := false, sink := 0, voterFail := 0, pathFail := 0 } }) ∧
   (s.trd.cmpRunning = true →
     exec (.cmptestDone ⟨[], []⟩) s = .next { s.begin with trd := { s.trd with
       cmpRunning := false, cmpDone := true, cmpPass := true, voterFail := 0, pathFail := 0,
       sink := 6 * (256 * (385 + 64 * (s.trd.resFree.filter (fun b => b)).length)) } } ∧
     (∀ k q w r, k < 6 → q < 3 → w < 64 → (s.tri k).empty = [false, false, false] → s.trd.cores.length = 20 →
       s.trd.triads.length = 6 → (s.tri k).cores.length = 3 → (s.tri k).coreAt q < 20 → freeReserve s = some r →
       resCore s r < 20 → resCore s r ≠ (s.tri k).coreAt q →
       GivesOnly [.trd, .thr, .mod, .grn] (.cmptestDone ⟨[⟨k, 2, 64 * q + w, [0, 0, 0]⟩], []⟩) s (fun t =>
         t.trd.cmpDone = true ∧ t.trd.cmpPass = false ∧ t.trd.voterFail = 0 ∧
         t.trd.pathFail = 2 ^ ((s.tri k).coreAt q) ∧ bitOf t.trd.err.status 3 = true ∧ t.mod = s.mod ∧
         (t.core ((s.tri k).coreAt q)).role = 6 ∧ (t.tri k).coreAt q = resCore s r ∧
         nth t.trd.resFree r true = false ∧ t.thr.failedTest = s.thr.failedTest ++ [(s.tri k).coreAt q])) ∧
     (∀ k, k < 6 → GivesOnly [.trd, .thr, .mod, .grn] (.cmptestDone ⟨[], [k]⟩) s (fun t =>
       t.trd.cmpDone = true ∧ t.trd.cmpPass = false ∧ t.trd.voterFail = 2 ^ k ∧ t.trd.pathFail = 0 ∧
       t.mod.toSafe = (s.mod.toSafe || votes (s.tri k))))) ∧
   (∀ o, o.wf = true → s.grn.ready = true → s.thr.quick = false → s.mod.bistDone = false →
     let u := (thrJoin (threshFind s o) o true s).thr
     let z := forAll (testedUnits s) (zeroUnit true) s
     (thrNews s.thr u = false → GivesOnly [.mem, .grn, .thr, .sec, .mod, .trd, .awn, .vyf, .fab, .hub, .pair, .glm, .culm]
         (.startupBist o) s (fun t =>
       t.mod = { s.mod with bistDone := true } ∧ t.sec = { s.sec with keys := false } ∧
       t.thr = { u with state := 6, err := t.thr.err } ∧ u.isolated = (threshFind s o).failed ∧
       t.mem = { s.mem with mram := t.mem.mram, mramBad := t.mem.mramBad } ∧
       t.trd = z.trd ∧ t.awn = { s.awn with live := t.awn.live } ∧ t.vyf = z.vyf ∧ t.fab = z.fab ∧ t.hub = z.hub ∧
       t.pair = z.pair ∧ t.glm = z.glm ∧ t.culm = z.culm)) ∧
     (thrNews s.thr u = true → Gives (.startupBist o) s (fun t =>
       t.mod.mode = .supervised ∧ t.sup.cause = 5 ∧ t.fuse = s.fuse)))) ∧
  (∀ (s : State), s.mod.mode = .selftest → s.sec.lock = true → s.grn.ready = true →
   s.thr.quick = true ∨ s.mod.bistDone = true → s.trd.cmpDone = true → s.sup.quenchSince = none →
   s.trd.triads.length = 6 → s.trd.cores.length = 20 →
   (holdFinding s = none → s.mod.toSafe = false → emptyAt s false = [] → Gives .handOver s (fun t =>
     t.mod.mode = .stop ∧ t.mod.handedAt = some s.clk.now ∧ t.culm.bprst = false ∧ t.thr.flag = flagStands s ∧
     (∀ c, s.mod.chosen = some c → copyState s c = .trial → copyState t c = .failedTrial) ∧
     (∀ k, k < 6 → (s.tri k).split = true → (t.tri k).state = 4) ∧
     (∀ k, k < 6 → (s.tri k).split = false → (s.tri k).empty = [false, false, false] → isolated s (20 + k) = false →
       (t.tri k).state = 1 ∧ (t.tri k).live = [true, true, true] ∧
       ∀ q, q < 3 → (s.tri k).coreAt q < 20 → (t.core ((s.tri k).coreAt q)).running = true))) ∧
   (∀ f, holdFinding s = some f → Gives .handOver s (fun t => t.mod.mode = .safe ∧ t.thr.holdSafe = true ∧
     bitOf t.thr.err.status 7 = true ∧ t.culm.bprst = true)) ∧
   (s.mod.toSafe = true → Gives .handOver s (fun t => t.mod.mode = .safe ∧ t.mod.handedAt = some s.clk.now)))

/-! ## Rachis (01) and the register map (21) -/

/-- R11, R12, R32, R424: the error registers of every block window that has a quartet, of the memory controllers and of
the train fabric. Writing ones clears exactly those status bits; the enables that the block has take the write; ones in
VALID and OVF clear them; the second capture register takes nothing. Nothing else changes. R11, R29, R421: a firewall
register takes a write of the boot core or of the security engine before the set-up is locked, reserved bits reading 0;
once it is locked, and from any other initiator, a write changes nothing. R38: the last item of a disabled function has
resolved: its active field falls, and nothing else changes. Commands it shows to complete: registerWrite,
functionDrainDone. Clauses that rest on a reading or choice of the model: log 22, 75, 176. -/
def Obligations.RegisterWritesTakeEffect : Prop :=
  (∀ (s : State) (init : Nat) (v : Word), init < 64 →
   s.mod.mode.released = true → TriadsAtRest s →
   (∀ w ∈ [0, 1, 2, 3, 5, 6, 7, 8, 9, 10, 11, 12, 13, 14, 15, 16],
     let a := 0xF0000000 + 0x10000 * w
     exec (.registerWrite init (a + 0x10) v) s =
       .next (modErr w (fun e => { e with status := e.status &&& ~~~v }) s.begin) ∧
     exec (.registerWrite init (a + 0x14) v) s =
       .next (modErr w (fun e => { e with irqEn := v &&& BitVec.ofNat 32 (2 ^ errCount w - 1) }) s.begin) ∧
     exec (.registerWrite init (a + 0x18) v) s =
       .next (modErr w (fun e => { e with info := e.info &&& ~~~(v &&& 3) }) s.begin) ∧
     exec (.registerWrite init (a + 0x1C) v) s = .next s.begin) ∧
   exec (.registerWrite init 0xF0040010 v) s =
     .next { s.begin with rch := { s.rch with err := { s.rch.err with status := s.rch.err.status &&& ~~~v } } } ∧
   exec (.registerWrite init 0xF0040100 v) s =
     .next { s.begin with rch := { s.rch with mem := { s.rch.mem with status := s.rch.mem.status &&& ~~~v } } } ∧
   exec (.registerWrite init 0xF0050090 v) s =
     .next { s.begin with fab := { s.fab with err := { s.fab.err with status := s.fab.err.status &&& ~~~v } } }) ∧
  (∀ (s : State) (init n r k : Nat) (v : Word), init < 64 →
   n < 64 → r < 16 → k < 3 → s.mod.mode.released = true → TriadsAtRest s →
   let o := 0x1000 + 0x100 * n + 0x10 * r + 4 * k
   let m : Word := if k = 2 then 0xF else 0xFFFFFF
   ((s.sec.lock = false ∧ (init = s.mod.bootCore ∨ init = 0x2B)) →
     Gives (.registerWrite init (0xF0040000 + o) v) s (fun t =>
       t = { s.begin with lk := t.lk } ∧ lkAt t 4 o = v &&& m ∧ (∀ w o', (w, o') ≠ (4, o) → o' < 0x10000 → lkAt t w o' = lkAt s w o') ∧
       (FMap.wf 0 s.lk = true → FMap.wf 0 t.lk = true))) ∧
   ((s.sec.lock = true ∨ (init ≠ s.mod.bootCore ∧ init ≠ 0x2B)) →
     exec (.registerWrite init (0xF0040000 + o) v) s = .next s.begin)) ∧
  (∀ (s : State),
   (s.awn.en = false → s.awn.active = true → s.awn.state = 1 →
     exec (.functionDrainDone .awn) s = .next { s.begin with awn := { s.awn with active := false } }) ∧
   (∀ p, p < 8 → (s.hubPort p).en = false → GivesOnly [.hub] (.functionDrainDone (.hubPort p)) s (fun t =>
     (p < s.hub.ports.length → (t.hubPort p) = { s.hubPort p with active := false }) ∧
     ∀ q, q ≠ p → t.hubPort q = s.hubPort q)) ∧
   (∀ c, c < 512 → (connAt s c).en = false → connHolds s c = false → GivesOnly [.glm] (.functionDrainDone (.glmConn c)) s (fun t =>
     connAt t c = { connAt s c with active := false } ∧ ∀ d, d ≠ c → connAt t d = connAt s d)) ∧
   (∀ w, w < 16 → oDrained s w = true → exec (.functionDrainDone (.owin w)) s =
     .next { s.begin with culm := { s.culm with oAct := modAt s.culm.oAct w (fun _ => false) } }) ∧
   (∀ v, v < 4 → iDrained s v = true → exec (.functionDrainDone (.iwin v)) s =
     .next { s.begin with culm := { s.culm with iAct := modAt s.culm.iAct v (fun _ => false) } }))

/-- R21, R22, R24, R28, R30, R380: a transaction that no enabled region grants ends with ERR_FIREWALL; one of another
size or alignment with ERR_SIZE; one to an unmapped address, and a write to ROM or NOR, with ERR_DECODE. Each has no
effect but the response, zero data on a read, the sticky error and its record. One to a unit that Thresh has isolated
ends with ERR_ABORT, and one of an isolated unit does not leave it. R20, R22, R23, R25, R27: a transaction to DRAM or
MRAM that no firewall refuses. A read answers OKAY with the bytes held and changes nothing; a write answers OKAY, its
bytes read back, and every byte outside it, and every other part of the state, is as before. A beat of a read that
arrives with one of its 72 bits changed is corrected, with CE; with two, or from a place that differs in one or two
address bits, it ends with ERR_DATA and zero data; a write with a failing beat ends with ERR_DATA and writes nothing. A
target that does not answer, or an earlier transaction of the initiator that waits there, leaves the transaction waiting
(R23, R40). Commands it shows to complete: rachisTransaction. Clauses that rest on a reading or choice of the model: log
74, 79, 177, 201. -/
def Obligations.RachisTransactionsEnd : Prop :=
  (∀ (s : State) (x : Txn), x.wf = true → s.mod.mode.released = true →
   TriadsAtRest s → s.sup.quenchSince = none →
   (fencedOut s x.init = true → exec (.rachisTransaction x) s = .next s.begin) ∧
   (fencedOut s x.init = false →
   let ends := fun (code bit : Nat) => GivesOnly [.rch, .grn] (.rachisTransaction x) s (fun t =>
     t.out = [.response x.init code (if x.kind = .write then [] else zeros x.size)] ∧
     bitOf t.rch.err.status bit = true ∧ t.rch.flight = s.rch.flight ∧
     (bitOf s.rch.err.info 0 = false → t.rch.err.aux = BitVec.ofNat 32 x.addr ∧
       t.rch.err.aux2 = BitVec.ofNat 32 (x.addr / 2 ^ 32) ∧ fieldOf t.rch.err.info 13 8 = x.init ∧
       fieldOf t.rch.err.info 4 2 = code ∧ bitOf t.rch.err.info 5 = decide (x.kind = .write)))
   (firewallOk s x.init x.kind x.addr x.size = false → ends 2 2) ∧
   (firewallOk s x.init x.kind x.addr x.size = true →
     (sizeOk x.addr x.size = false → ends 5 3) ∧
     (sizeOk x.addr x.size = true →
       ((0x20000 ≤ x.addr ∧ x.addr < 0x2000000) ∨ (0x2010000 ≤ x.addr ∧ x.addr < 0x4000000) ∨
         (0x5000000 ≤ x.addr ∧ x.addr < 0x10000000) ∨ (0x30000000 ≤ x.addr ∧ x.addr < 0xC0000000) ∨
         (0xE0000000 ≤ x.addr ∧ x.addr < 0xF0000000) ∨ (x.size = 4 ∧ 0xF0130000 ≤ x.addr ∧ x.addr < 0xF1000000) ∨
         (0xF1000000 ≤ x.addr ∧ x.addr < 0x100000000) ∨ 0x200000000 ≤ x.addr → ends 1 3) ∧
       (x.kind = .write → x.addr < 0x20000 → ends 1 3) ∧
       (x.kind = .write → 0x10000000 ≤ x.addr → x.addr < 0x30000000 → ends 1 3) ∧
       (x.size ≠ 4 → 0xF0000000 ≤ x.addr → x.addr < 0xF1000000 → ends 5 3) ∧
       (x.kind ≠ .write → 0x2000000 ≤ x.addr → x.addr < 0x2000400 → (∃ p, p < 3 ∧ isolated s (26 + p) = true) →
         exec (.rachisTransaction x) s = .next { s with out := [.response x.init 6 (zeros x.size)] }))))) ∧
  (∀ (s : State) (x : Txn), x.wf = true → s.mod.mode.released = true →
   TriadsAtRest s → firewallOk s x.init x.kind x.addr x.size = true → sizeOk x.addr x.size = true →
   fencedOut s x.init = false → s.sup.quenchSince = none →
   (∀ o, placeOf x.addr = .dram o → x.answers = true → waitsBehind x s = false → x.cell = .clean →
     (x.kind = .read → x.size = 8 → touchesBad s.mem.dramBad o 8 = false →
       (∀ k, k < 72 → x.wire = { flips := [(0, k)] } → GivesOnly [.rch, .grn] (.rachisTransaction x) s (fun t =>
         t.out = [.response x.init 0 (s.mem.dramGet o 8)] ∧ bitOf t.rch.err.status 0 = true)) ∧
       (∀ j k, j < 72 → k < 72 → j ≠ k → x.wire = { flips := [(0, j), (0, k)] } →
         GivesOnly [.rch, .grn] (.rachisTransaction x) s (fun t =>
           t.out = [.response x.init 3 (zeros 8)] ∧ bitOf t.rch.err.status 1 = true)) ∧
       (∀ j k, j < 29 → k < 29 → x.wire = { diff := 2 ^ (j + 3) ||| 2 ^ (k + 3) } →
         touchesBad s.mem.dramBad (o ^^^ (2 ^ (j + 3) ||| 2 ^ (k + 3))) 8 = false →
         GivesOnly [.rch, .grn] (.rachisTransaction x) s (fun t =>
           t.out = [.response x.init 3 (zeros 8)] ∧ bitOf t.rch.err.status 1 = true))) ∧
     (x.kind ≠ .write → x.wire = {} → touchesBad s.mem.dramBad o x.size = false →
       exec (.rachisTransaction x) s = .next { s with out := [.response x.init 0 (s.mem.dramGet o x.size)] }) ∧
     (x.kind = .write → x.wire = {} → GivesOnly [.mem] (.rachisTransaction x) s (fun t =>
       t.out = [.response x.init 0 []] ∧ t.mem = { s.mem with dram := t.mem.dram, dramBad := t.mem.dramBad } ∧
       t.mem.dramGet o x.size = x.data ∧
       (∀ a, (a < o ∨ o + x.size ≤ a) → FMap.look t.mem.dram 0 a = FMap.look s.mem.dram 0 a) ∧
       (FMap.wf 0 s.mem.dram = true → FMap.wf 0 t.mem.dram = true)))) ∧
   (∀ o, placeOf x.addr = .mram o → x.answers = true → waitsBehind x s = false → x.cell = .clean → x.wire = {} →
     (x.kind ≠ .write → touchesBad s.mem.mramBad o x.size = false →
       exec (.rachisTransaction x) s = .next { s with out := [.response x.init 0 (s.mem.mramGet o x.size)] }) ∧
     (x.kind = .write → GivesOnly [.mem] (.rachisTransaction x) s (fun t =>
       t.out = [.response x.init 0 []] ∧ t.mem = { s.mem with mram := t.mem.mram, mramBad := t.mem.mramBad } ∧
       t.mem.mramGet o x.size = x.data ∧
       (∀ a, (a < o ∨ o + x.size ≤ a) → FMap.look t.mem.mram 0 a = FMap.look s.mem.mram 0 a) ∧
       (FMap.wf 0 s.mem.mram = true → FMap.wf 0 t.mem.mram = true)))) ∧
   (x.answers = true → waitsBehind x s = false → x.kind = .write → x.chk = .uncorrectable → 0x100000000 ≤ x.addr →
     x.addr < 0x200000000 → GivesOnly [.rch, .grn] (.rachisTransaction x) s (fun t =>
       t.out = [.response x.init 3 []] ∧ bitOf t.rch.err.status 1 = true)) ∧
   ((x.answers = false ∨ waitsBehind x s = true) → rachisRefusal s x.init x.kind x.addr x.size = none →
     exec (.rachisTransaction x) s =
       .next { s.begin with rch := { s.rch with flight := s.rch.flight ++ [⟨x, s.clk.now⟩] } }))

/-- R33, R40, R41: rung 1 ends the oldest transaction that waits at a port with ERR_TIMEOUT and the others queued there
with ERR_ABORT; the bridge's backstop does so after 100 µs; rung 3, not before 140 µs without progress, halts an engine
that has work pending and leaves it none; rung 3 and a clock monitor's fault set their sticky errors, and the domains
that the table sends to SAFE do so. R170, R171, R173, R185: a scrubber reads one line and goes on to the next, and a
full pass is counted; a clean line changes nothing else; a correctable error raises CE (DRAM) or MCE (MRAM); an
uncorrectable one raises SUE or MUE, and a later read of the line ends with ERR_DATA. Commands it shows to complete:
busTimeout, engineWatchdog, clockFault, dramScrub, mramScrub, bridgeBackstopTimeout. Clauses that rest on a reading or
choice of the model: log 60, 61, 62, 67, 78, 79, 80. -/
def Obligations.RungsMonitorsAndScrubbers : Prop :=
  (∀ (s : State), s.mod.mode.released = true → s.sup.quenchSince = none →
   (∀ (tg : Target) (f : Flight) (rest : List Flight), tg.wf = true → tg ≠ .culm →
     (s.rch.flight.filter (fun g => decide (targetOf g.txn.addr = some tg))) = f :: rest → f.since + 4000 ≤ s.clk.now →
     GivesOnly [.rch, .grn] (.busTimeout tg) s (fun t =>
       let ends := fun (code : Nat) (g : Flight) =>
         Out.response g.txn.init code (if g.txn.kind = .write then [] else zeros g.txn.size)
       t.out = ends 4 f :: rest.map (ends 6) ∧
       t.rch.flight = s.rch.flight.filter (fun g => decide (targetOf g.txn.addr ≠ some tg)) ∧
       bitOf t.rch.err.status 4 = true)) ∧
   (∀ f : Flight, s.rch.flight = [f] → toCulm f.txn.addr = true → s.culm.out = [] →
     f.since + 100000 ≤ s.clk.now → Gives .bridgeBackstopTimeout s (fun t =>
       t.rch.flight = [] ∧ bitOf t.rch.err.status 4 = true)) ∧
   (∀ e t0, e < 6 → s.eng[e]? = some t0 → engineHolds e s = true →
     (t0 + 140000 ≤ s.clk.now → Gives (.engineWatchdog e) s (fun t => bitOf t.rch.err.status 5 = true ∧ t.mod = s.mod ∧
       t.eng[e]? = some s.clk.now ∧ (e ≠ 4 → engineHolds e t = false) ∧
       (bitOf s.rch.err.info 0 = false → fieldOf t.rch.err.info 19 16 = e))) ∧
     (s.clk.now < t0 + 140000 → exec (.engineWatchdog e) s = .next s.begin)) ∧
   (∀ d ∈ [1, 2, 3, 6, 9, 12, 14], s.mod.mode = .run → Gives (.clockFault d) s (fun t =>
     t.mod.mode = .safe ∧ bitOf t.rch.err.status 6 = true ∧ d ∈ t.rch.clkFault)) ∧
   (∀ d ∈ [4, 5, 7, 8, 10, 11, 13], Gives (.clockFault d) s (fun t =>
     t.mod.mode = s.mod.mode ∧ bitOf t.rch.err.status 6 = true ∧ d ∈ t.rch.clkFault ∧
     (d = 4 → t.vyf.chA.ok = false) ∧ (d = 5 → t.vyf.chB.ok = false) ∧ (d = 10 → t.sec.portClosed = true)))) ∧
  (∀ (s : State), s.mod.mode.released = true → s.sup.quenchSince = none →
   let next := fun (n size pass : Nat) => if n + 1 < size then (n + 1, pass) else (0, if pass < 65535 then pass + 1 else pass)
   (s.mod.dramDone = true → touchesBad s.mem.dramBad (64 * s.rch.dramScrub) 64 = false →
     let d := next s.rch.dramScrub 0x4000000 s.rch.dramPasses
     exec (.dramScrub .clean) s = .next { s.begin with rch := { s.rch with dramScrub := d.1, dramPasses := d.2 } } ∧
     GivesOnly [.rch, .grn] (.dramScrub .correctable) s (fun t => t.rch.dramScrub = d.1 ∧ t.rch.dramPasses = d.2 ∧
       bitOf t.rch.err.status 0 = true ∧ t.rch.mem = s.rch.mem) ∧
     GivesOnly [.rch, .grn, .mem] (.dramScrub .uncorrectable) s (fun t => t.rch.dramScrub = d.1 ∧
       t.rch.err = s.rch.err ∧ bitOf t.rch.mem.status 2 = true ∧ t.mem = { s.mem with dramBad := t.mem.dramBad } ∧
       (∀ a, 64 * s.rch.dramScrub ≤ a → a < 64 * s.rch.dramScrub + 64 → touchesBad t.mem.dramBad a 1 = true))) ∧
   (touchesBad s.mem.mramBad (64 * s.rch.mramScrub) 64 = false →
     let d := next s.rch.mramScrub 0x40000 s.rch.mramPasses
     exec (.mramScrub .clean) s = .next { s.begin with rch := { s.rch with mramScrub := d.1, mramPasses := d.2 } } ∧
     GivesOnly [.rch, .grn] (.mramScrub .correctable) s (fun t => t.rch.mramScrub = d.1 ∧ t.rch.mramPasses = d.2 ∧
       bitOf t.rch.mem.status 0 = true ∧ t.rch.err = s.rch.err) ∧
     GivesOnly [.rch, .grn, .mem, .area, .sec] (.mramScrub .uncorrectable) s (fun t => t.rch.mramScrub = d.1 ∧
       (64 * s.rch.mramScrub < 0x10000 ∨ 0x40000 ≤ 64 * s.rch.mramScrub → t.area = s.area ∧ t.sec = s.sec) ∧
       bitOf t.rch.mem.status 1 = true ∧ t.mem = { s.mem with mramBad := t.mem.mramBad } ∧
       (∀ a, 64 * s.rch.mramScrub ≤ a → a < 64 * s.rch.mramScrub + 64 → touchesBad t.mem.mramBad a 1 = true))))

/-! ## Supply, hold-up and the always-on domain (08), resets (20) -/

/-- R186, R187: a sample below 14.0 V or above 170 V disconnects the input at once; one at or above 14.0 V and below
16.8 V, or above 154 V and at or below 170 V, starts a timer, and the input is disconnected when the fluctuation or
surge time has passed; it is reconnected after the reconnect time of its cause. DISC is raised at each disconnection.
R193, R196, R198: in RUN a fall of the bus below the warning level (and not to the reset level) takes the module to
BRACE, raises WARN and sets SCH_ENERGY.BRACE; BRACE_DWELL_END after the dwell takes it back to RUN, clears both flags
and keeps the duration. The levels are those of R193 at the edge of their tolerance. Commands it shows to complete:
supplySample, fluctuationTimeout, surgeTimeout, inputReconnect, braceDwellEnd. Clauses that rest on a reading or choice
of the model: log 9, 92, 93, 94. -/
def Obligations.DisconnectionsAndBrace : Prop :=
  (∀ (s : State), s.mod.mode.released = true →
   s.sup.quenchSince = none →
   (s.sup.disc = false → VotersIdle s → ∀ vin vbus lplus, vin < 65536 → 3650 ≤ vbus → vbus < 65536 → lplus < 65536 →
     (vin < 1400 ∨ 17000 < vin → Gives (.supplySample vin vbus lplus []) s (fun t =>
       t.sup.disc = true ∧ t.sup.discHigh = decide (17000 < vin) ∧ bitOf t.sup.err.status 3 = true ∧ t.sup.vin = vin ∧
       t.sup.vbus = vbus ∧ t.mod.mode = s.mod.mode)) ∧
     (1400 ≤ vin → vin ≤ 17000 → Gives (.supplySample vin vbus lplus []) s (fun t =>
       t.sup.disc = false ∧ (1680 ≤ vin → vin ≤ 15400 → t.sup.fluctSince = none ∧ t.sup.surgeSince = none) ∧
       (vin < 1680 → t.sup.fluctSince = some (s.sup.fluctSince.getD s.clk.now)) ∧
       (15400 < vin → t.sup.surgeSince = some (s.sup.surgeSince.getD s.clk.now))))) ∧
   (∀ t0, s.sup.disc = false → s.sup.fluctSince = some t0 → t0 + 100000000 ≤ s.clk.now →
     GivesOnly [.sup, .mod, .grn] .fluctuationTimeout s (fun t => t.sup.disc = true ∧ t.sup.discHigh = false ∧
       t.mod.mode = s.mod.mode ∧ bitOf t.sup.err.status 3 = true)) ∧
   (∀ t0, s.sup.disc = false → s.sup.surgeSince = some t0 → t0 + 1000000000 ≤ s.clk.now →
     GivesOnly [.sup, .mod, .grn] .surgeTimeout s (fun t => t.sup.disc = true ∧ t.sup.discHigh = true ∧
       t.mod.mode = s.mod.mode ∧ bitOf t.sup.err.status 3 = true)) ∧
   (∀ t0, s.sup.disc = true → s.sup.reconnSince = some t0 → t0 + (if s.sup.discHigh then 9000000 else 200000) ≤ s.clk.now →
     exec .inputReconnect s = .next { s.begin with sup := { s.sup with disc := false, reconnSince := none } })) ∧
  (∀ (s : State), s.sup.quenchSince = none → VotersIdle s →
   (s.mod.mode = .run → 3650 ≤ s.sup.vbus → ∀ vbus, 2840 ≤ vbus → vbus < 3550 →
     Gives (.supplySample 2400 vbus 2400 []) s (fun t => t.mod.mode = .brace ∧ t.sup.brace = true ∧ t.sch.brace = true ∧
       t.sup.dips = 0 ∧ t.sup.vbus = vbus ∧ bitOf t.sup.err.status 0 = true)) ∧
   (∀ t0 b, s.mod.mode = .brace → s.sup.brace = true → s.sup.braceSince = some b → s.sup.dwellSince = some t0 →
     t0 + 450000000 ≤ s.clk.now → GivesOnly [.mod, .sup, .sch, .grn] .braceDwellEnd s (fun t =>
       t.mod = { s.mod with mode := .run } ∧ t.sch = { s.sch with brace := false } ∧
       t.sup = { s.sup with
         brace := false, braceSince := none, dwellSince := none, lastMs := min 0xFFFFFF ((s.clk.now - b) / 1000000) })))

/-- R182, R192, R193, R195, R201, R412, R413: what resets the die. The reset level starts the quench, whose end resets
the die with CAUSE 1 and QUENCHED; the guard resets it with CAUSE 3, the rail floor at once with CAUSE 2, a rail fault
that persists with CAUSE 2; the logic supply's loss leads to POWER-OFF and its return to SUPERVISED with CAUSE 0. The
queue of commands, MRAM, NOR, fuses and the clock survive; every register of the die is at its reset value. Commands it
shows to complete: powerOn, supplySample, quenchDone, quenchGuardExpiry, railFaultTimeout, logicSupplyLost. Clauses that
rest on a reading or choice of the model: log 7, 36, 91, 191. -/
def Obligations.SupplyResets : Prop := ∀ (s : State),
  let down := fun (cause : Word) (t : State) => t.mod.mode = .supervised ∧ t.sup.cause = cause ∧ t.fuse = s.fuse ∧
    t.mem.norA = s.mem.norA ∧ t.mem.norB = s.mem.norB ∧ t.mem.dram = [] ∧ t.lk = [] ∧ t.img = {} ∧ t.trd = {} ∧ t.awn = {} ∧
    t.cyc = {} ∧ t.sch = {} ∧ t.vyf = {} ∧ t.fab = {} ∧ t.hub = {} ∧ t.pair = {} ∧ t.glm = {} ∧ t.fio = {} ∧ t.can0 = {} ∧
    t.can1 = {} ∧ t.culm = {} ∧ t.sec = {} ∧ t.thr = {} ∧ t.grn = {} ∧ t.rch = {} ∧ t.area = s.area ∧
    t.aon.secs = s.aon.secs ∧ t.aon.rtc = s.aon.rtc ∧ t.clk.now = s.clk.now ∧ t.sup.cap = s.sup.cap
  (s.mod.mode.released = true → s.sup.quenchSince = none → VotersIdle s → 2840 ≤ s.sup.vbus → ∀ vbus, 2250 ≤ vbus →
    vbus < 2760 → Gives (.supplySample 2400 vbus 2400 []) s (fun t =>
      t.sup.quenchSince = some s.clk.now ∧ bitOf t.sup.err.status 1 = true ∧ t.mod.mode = s.mod.mode ∧
      (∀ c ∈ t.trd.cores, c.running = false))) ∧
  (s.mod.mode.released = true → 2250 ≤ s.sup.vbus → ∀ vbus, vbus < 2150 →
    Gives (.supplySample 2400 vbus 2400 []) s (fun t => down 2 t ∧ t.mem.mram = s.mem.mram)) ∧
  (∀ t0 us, s.sup.quenchSince = some t0 → Gives (.quenchDone us) s (fun t => down 0x101 t ∧
    slice (t.mem.mramGet 0x80 64) 8 2 = le 2 us)) ∧
  (∀ t0, s.sup.quenchSince = some t0 → t0 + 900000 ≤ s.clk.now → Gives .quenchGuardExpiry s (down 3)) ∧
  (∀ r t0, s.mod.mode.released = true → s.sup.quenchSince = none → (r, t0) ∈ s.sup.railSince → t0 + 9900000 ≤ s.clk.now →
    Gives .railFaultTimeout s (fun t => down 2 t ∧ t.mem.mram = s.mem.mram)) ∧
  Gives .logicSupplyLost s (fun t => t.mod = { mode := .powerOff } ∧ t.fuse = s.fuse ∧ t.mem.mram = s.mem.mram ∧
    t.sup = {} ∧ t.trd = {} ∧ t.mem.dram = [] ∧
    (s.aon.alive = true → t.aon.secs = s.aon.secs ∧ t.aon.rtc = s.aon.rtc)) ∧
  (s.mod.mode = .powerOff → ∀ coding, coding < 8 → Gives (.powerOn coding) s (fun t =>
    t.mod.mode = .supervised ∧ t.sup.cause = 0 ∧ t.sup.un = (if coding ≤ 5 then coding else 7) ∧
    bitOf t.sup.err.status 7 = decide (5 < coding) ∧ t.fuse = s.fuse ∧ t.mem.mram = s.mem.mram ∧
    t.aon.kept = s.aon.alive))

/-- R191, R192, R203, R440: in SUPERVISED the store is measured as current times time over 20 V, and STORE is raised
below 800 µF; the die is released into BOOT when the input is connected, the bus is at 54 V or above, SUP_CAP at 300 µF
or above, every rail in tolerance and the oscillator passes, and not otherwise; the bypass relays open and the lamp test
runs until LAMP_TEST_END. Commands it shows to complete: capacitanceMeasurement, supervisorRelease, lampTestEnd. Clauses
that rest on a reading or choice of the model: log 9, 95, 192, 193. -/
def Obligations.StoreMeasuredAndDieReleased : Prop := ∀ (s : State), s.sup.quenchSince = none →
  (s.mod.mode = .supervised → ∀ ua us, 0 < us → let c := min 65535 (ua * us / 20000000)
    GivesOnly [.sup, .grn] (.capacitanceMeasurement ua us) s (fun t => t.sup.cap = c ∧
      (c < 800 → bitOf t.sup.err.status 4 = true) ∧ (800 ≤ c → t.sup = { s.sup with cap := c } ∧ t.grn = s.grn))) ∧
  (∀ osc, s.mod.mode = .supervised →
    (s.sup.disc = false → 5400 ≤ s.sup.vbus → 300 ≤ s.sup.cap → s.sup.railBad = [] → osc = true → s.mod.hold = none →
      s.sup.coded = true →
      GivesOnly [.mod, .grn, .vyf] (.supervisorRelease osc) s (fun t => t.mod.mode = .boot ∧ t.mod.lamp = true ∧
        t.mod.releasedAt = s.clk.now ∧ t.vyf.chA.relay = false ∧ t.vyf.chB.relay = false ∧ t.grn.held = [])) ∧
    ((s.sup.disc = true ∨ s.sup.vbus < 5400 ∨ s.sup.cap < 300 ∨ s.sup.railBad ≠ [] ∨ osc = false ∨
        s.mod.hold = some false ∧ s.mod.pinReq = false) →
      exec (.supervisorRelease osc) s = .next s.begin)) ∧
  (s.mod.lamp = true → s.mod.releasedAt + 500000000 ≤ s.clk.now →
    exec .lampTestEnd s = .next { s.begin with mod := { s.mod with lamp := false } })

/-- R35, R200, R201: the always-on domain. A snapshot is asked for by AON_SNAP.REQ and holds the values of one instant
once its crossing has passed; only the security engine sets the clock, and 0x2C20 records old and new; the cell's
measurement sets AON_STATUS and raises CELL below 2.50 V (at the edge of its tolerance); an episode ends 10 s after its
condition. Commands it shows to complete: cellMeasurement, errorEpisodeEnd, aonSnap, aonRtcSet, aonSnapDone. Clauses
that rest on a reading or choice of the model: log 9, 91, 194. -/
def Obligations.AlwaysOnDomain : Prop := ∀ (s : State), s.sup.quenchSince = none →
  (∀ init, init < 64 → exec (.aonSnap init 1) s =
    .next { s.begin with aon := { s.aon with done := false, snapSince := some s.clk.now } }) ∧
  (∀ t0, s.aon.snapSince = some t0 → t0 + 30518 ≤ s.clk.now → exec .aonSnapDone s = .next { s.begin with
    aon := { s.aon with done := true, snapSince := none, snapSecs := s.aon.secs, snapRtc := s.aon.rtc, snapSub := s.aon.rtcSub } }) ∧
  (GivesOnly [.aon, .sec, .grn] (.aonRtcSet 0x2B 1) s (fun t =>
    t.aon = { s.aon with rtc := s.aon.setHi.toNat * 2 ^ 32 + s.aon.setLo.toNat, rtcSub := 0, rtcFrac := 0 } ∧
    t.sec = { s.sec with clockSet := true } ∧
    t.grn = (event 0x2C20 0 (w32 s.aon.rtc) (w32 (s.aon.setHi.toNat * 2 ^ 32 + s.aon.setLo.toNat)) s).grn)) ∧
  (∀ init v, init < 64 → init ≠ 0x2B → exec (.aonRtcSet init v) s = .next s.begin) ∧
  (s.mod.mode ≠ .powerOff → ∀ mv, mv < 4096 → GivesOnly [.aon, .sup, .grn] (.cellMeasurement mv) s (fun t =>
    t.aon.cellMv = mv ∧ (mv < 2450 → t.aon.cellLow = true ∧ bitOf t.sup.err.status 6 = true) ∧
    (2550 ≤ mv → t.aon.cellLow = false ∧ t.sup.err = s.sup.err) ∧ t.aon.cellMissing = decide (mv < 1800) ∧
    t.aon.secs = s.aon.secs ∧ t.aon.rtc = s.aon.rtc)) ∧
  (∀ last, s.sup.episodes = [(0x2C06, last)] →
    (last + 10000000000 ≤ s.clk.now → exec (.errorEpisodeEnd ⟨0x2C06, 0⟩) s =
      .next { s.begin with sup := { s.sup with episodes := [] } }) ∧
    (s.clk.now < last + 10000000000 → exec (.errorEpisodeEnd ⟨0x2C06, 0⟩) s = .next s.begin))

/-! ## Triads (03) -/

/-- R72, R78, R80, R84, R95: what a committed instruction does, the exception of R72 in its place where it is
misaligned, refused by the PMP or not the core's. A member that may commit writes its registers and folds its records
into the signature of its open window, whose commit buffer takes its store; a 256th store closes the window with STORES,
a store to TRD_TRIAD_CTRL with CONTROL; nothing else changes. A trap in machine mode saves pc, cause and value and goes
on at the handler without retiring (RISC-V privileged architecture; log 178). A split core writes its registers, and its
store goes out at once under its own ID and invalidates the line in the other cores' data caches. A core that may not
commit does nothing. Commands it shows to complete: coreInstruction. Clauses that rest on a reading or choice of the
model: log 69, 70, 71, 72, 81, 82, 178. -/
def Obligations.CoreCommitsInstruction : Prop := ∀ (s : State) (n : Nat) (c : Commit), c.wf = true → n < 20 →
  n < s.trd.cores.length →
  let k := s.core n
  let x := s.tri k.triad
  let l := x.lane k.pos
  let d := committed s n c
  let stores := match d.store with
    | some r => [r]
    | none => []
  k.intr = [] →
  (limitTrap k c = none → c.csrRead = none → d = c) ∧
  (mayCommit s n = true → (d.store = none ∨ l.stalls x.relNum = false) → x.closeAt = [] →
    k.triad < s.trd.triads.length → k.pos < x.lanes.length →
    GivesSettled [.trd] (.coreInstruction n (.commit c)) s (fun u =>
      let l' := (u.tri k.triad).lane k.pos
      u.core n = commitRegs d k ∧ (∀ m, m ≠ n → u.core m = s.core m) ∧ (∀ t, t ≠ k.triad → u.tri t = s.tri t) ∧
      (∀ p, p ≠ k.pos → (u.tri k.triad).lane p = x.lane p) ∧ l'.req = none ∧
      (∀ code v, limitTrap k c = some (code, v) → k.priv = 3 →
        (u.core n).minstret = k.minstret ∧ (u.core n).csrAt 0x341 = c.pc ∧ (u.core n).csrAt 0x342 = BitVec.ofNat 64 code ∧
        (u.core n).csrAt 0x343 = v ∧ (u.core n).pc = k.csrAt 0x305 &&& ~~~3#64 ∧ (u.core n).priv = 3 ∧
        (u.core n).x = k.x ∧ (u.core n).f = k.f) ∧
      (∀ ws w, l.wins = ws ++ [w] → w.cause = 0 →
        (w.stores.length + stores.length < 256 → toCtrl d = false →
          l'.wins = ws ++ [{ w with sig := foldCommit k d w.sig, stores := w.stores ++ stores }] ∧ l'.nextNum = l.nextNum) ∧
        (w.stores.length = 255 → stores ≠ [] → w.num = l.nextNum - 1 → x.relNum ≤ w.num →
          ∃ sig, l'.wins = ws ++ [⟨w.num, sig, w.stores ++ stores, 1⟩]) ∧
        (w.stores.length < 255 → toCtrl d = true → ∃ v, l'.wins = ws ++ [v] ∧ v.cause = 5 ∧ v.num = w.num)) ∧
      (l.open' = false → toCtrl d = false →
        l'.wins = l.wins ++ [⟨l.nextNum, foldCommit k d sigInit, stores, 0⟩] ∧ l'.nextNum = l.nextNum + 1 ∧
        (x.stampWin ≤ l.nextNum → (u.tri k.triad).openedAt = some s.clk.now ∧
          FMap.look (u.tri k.triad).stamps 0 l.nextNum = BitVec.ofNat 64 s.clk.tb)))) ∧
  (k.role ≠ 1 → mayCommit s n = false →
    exec (.coreInstruction n (.commit c)) s = .next { settle s.begin with pending := s.pending }) ∧
  (splitRuns s n = true →
    (d.store = none → GivesSettled [.trd] (.coreInstruction n (.commit c)) s (fun u =>
      u = modCore n (commitRegs d) s.begin)) ∧
    (∀ r, d.store = some r →
      let w := busWrite n r.addr (storeBytes r) r.be.toNat (modCore n (commitRegs d) s.begin)
      exec (.coreInstruction n (.commit c)) s = .next { settle (takeAll n (writeThrough n r.addr
        (if w.1 = 0 then noteL2 (w.2.core n).triad r.addr w.2 else w.2))) with pending := s.pending }))

/-- R83, R84, R85, R72: a member's load from a non-private page closes its window with DEVICE_READ and waits; once two
live cores have requested the same read in the same window and their windows and stores are done, the voter issues it
once under the first core's ID, and every live core that has asked gets the data. A load from a private page is answered
at once: what DRAM holds, under the core's own stores that are not yet released. A misaligned load traps. R79, R84, R85:
what one core of a triad commits leaves the triad only by the vote. While no other core of its triad has a window and
every other triad is at rest, an instruction of a member, whatever it stores or writes, changes nothing outside the
triads and nothing leaves but the answer to the core's own load from a private page of DRAM. Commands it shows to
complete: coreInstruction, singleIssueRead. Clauses that rest on a reading or choice of the model: log 83, 85. -/
def Obligations.SingleIssueReadsAgree : Prop :=
  (∀ (s : State),
   (∀ n a size, n < 20 → a < 2 ^ 36 → size ∈ [1, 2, 4, 8] →
     let k := s.core n
     let x := s.tri k.triad
     (mayCommit s n = true → a % size = 0 → pmpDenies k 0 a size = false → privateTo s k.triad a = false → x.held = [] →
       k.triad < s.trd.triads.length → k.pos < x.lanes.length →
       GivesSettled [.trd] (.coreInstruction n (.request a size)) s (fun u =>
         ((u.tri k.triad).lane k.pos).req = some (a, size) ∧ ((u.tri k.triad).lane k.pos).open' = false ∧
         u.core n = k ∧ (∀ ws w, (x.lane k.pos).wins = ws ++ [w] → w.cause = 0 →
           ∃ v, ((u.tri k.triad).lane k.pos).wins = ws ++ [v] ∧ v.cause = 4 ∧ v.num = w.num))) ∧
     (mayGo s n = true → a % size ≠ 0 → exec (.coreInstruction n (.request a size)) s =
       .next { settle (trapCore n false 4 (BitVec.ofNat 64 a) s.begin) with pending := s.pending }) ∧
     (∀ o, mayGo s n = true → a % size = 0 → pmpDenies k 0 a size = false → privateTo s k.triad a = true →
       placeOf a = .dram o → rachisRefusal s n .read a size = none → touchesBad s.mem.dramBad o size = false →
       GivesSettled [.trd] (.coreInstruction n (.request a size)) s (fun u =>
         u.out = [.response n 0 ((List.range size).map (fun i =>
           laneByte (x.lane k.pos) (a + i) (nth (s.mem.dramGet o size) i 0)))])) ∧
     (mayGo s n = false →
       exec (.coreInstruction n (.request a size)) s = .next { settle s.begin with pending := s.pending })) ∧
   (∀ t p w a size o, t < 6 → t < s.trd.triads.length → (s.tri t).voting = true → (s.tri t).held = [] →
     storesAnswered s t = true → readReady (s.tri t) = some (p, w, a, size) →
     (∀ q ∈ (s.tri t).livePos, ((s.tri t).lane q).req = some (a, size) ∧ ((s.tri t).lane q).nextNum - 1 = w) →
     (s.tri t).lanes.length = 3 → placeOf a = .dram o → rachisRefusal s ((s.tri t).coreAt p) .read a size = none →
     touchesBad s.mem.dramBad o size = false →
     GivesSettled [.trd] (.singleIssueRead t) s (fun u =>
       u.out = (s.tri t).livePos.map (fun q => .response ((s.tri t).coreAt q) 0 (s.mem.dramGet o size)) ∧
       (∀ q ∈ (s.tri t).livePos, ((u.tri t).lane q).req = none) ∧ (u.tri t).held = []))) ∧
  (∀ (s : State) (n : Nat) (a : CoreAct), n < 20 → a.wf = true →
   let k := s.core n
   let x := s.tri k.triad
   let reads := fun (addr size : Nat) => privateTo s k.triad addr = true → ∃ o, placeOf addr = .dram o ∧
     rachisRefusal s n .read addr size = none ∧ touchesBad s.mem.dramBad o size = false
   (match a with
     | .commit _ => True
     | .request addr size => reads addr size
     | .amo m => reads m.addr m.size) →
   k.role ≠ 1 → (∀ t, t < 6 → t ≠ k.triad → settled s t = true) → x.closeAt = [] → x.irqs = [] → x.held = [] →
   (∀ p, p ≠ k.pos → (x.lane p).wins = []) → 2 ≤ x.livePos.length →
   GivesOnly [.trd] (.coreInstruction n a) s (fun t => ∀ e ∈ t.out, ∃ bs, e = .response n 0 bs))

/-- R81, R82, R86, R95: 10 µs after the newest window was opened, with its leading cores still in it, C is set to the
highest minstret for the TIMER, and the cores that stand there close it; an interrupt source becomes pending at a voting
triad, a paused one or one that hands over, and a split triad's core takes it directly; a block's error interrupt is
pending only while an enabled error of the block is set; an error response that comes after the release raises its error
and the store-error interrupt. Commands it shows to complete: windowTimer, triadInterrupt, releasedStoreError. Clauses
that rest on a reading or choice of the model: log 68, 84, 88, 207. -/
def Obligations.TimersAndInterruptsSetC : Prop := ∀ (s : State) (t : Nat), t < 6 → t < s.trd.triads.length →
  let x := s.tri t
  (∀ t0, x.voting = true → x.openedAt = some t0 → t0 + 10000 ≤ s.clk.now → x.closeAt = [] →
    (∀ p ∈ x.livePos, (s.core (x.coreAt p)).intr = []) →
    (leadOpen s t = true → x.livePos ≠ [] → GivesSettled [.trd] (.windowTimer t) s (fun u =>
      (u.tri t).closeAt = [⟨highest s t, 2, newest s t, []⟩] ∧ (u.tri t).openedAt = none ∧
      (∀ k, k ≠ t → u.tri k = s.tri k) ∧ u.trd.cores = s.trd.cores ∧
      (∀ p ∈ x.livePos, (s.core (x.coreAt p)).minstret < highest s t → (u.tri t).lane p = x.lane p) ∧
      (∀ p ∈ x.livePos, (s.core (x.coreAt p)).minstret = highest s t → ∀ ws w, (x.lane p).wins = ws ++ [w] →
        ∃ v, ((u.tri t).lane p).wins = ws ++ [v] ∧ v.cause = 2 ∧ v.num = w.num))) ∧
    (leadOpen s t = false → GivesSettled [.trd] (.windowTimer t) s (fun u =>
      u.tri t = { x with openedAt := none } ∧ (∀ k, k ≠ t → u.tri k = s.tri k) ∧ u.trd.cores = s.trd.cores))) ∧
  (∀ src pos, src < 64 → pos < 3 →
    ((src < 16 ∨ 35 ≤ src ∨ blockLine s (src - 16) = true) →
      (1 ≤ x.state → x.state ≤ 5 → x.state ≠ 4 → GivesSettled [.trd] (.triadInterrupt t ⟨src, pos⟩) s (fun u =>
        u.tri t = { x with irqs := x.irqs ++ [src] } ∧ (∀ k, k ≠ t → u.tri k = s.tri k) ∧ u.trd.cores = s.trd.cores)) ∧
      (x.state = 4 → x.coreAt pos < s.trd.cores.length → GivesSettled [.trd] (.triadInterrupt t ⟨src, pos⟩) s (fun u =>
        u.out = [.irq (x.coreAt pos) src] ∧
        u.core (x.coreAt pos) = { s.core (x.coreAt pos) with intr := (s.core (x.coreAt pos)).intr ++ [src] } ∧
        (∀ m, m ≠ x.coreAt pos → u.core m = s.core m) ∧ u.trd.triads = s.trd.triads))) ∧
    (16 ≤ src → src < 35 → blockLine s (src - 16) = false →
      exec (.triadInterrupt t ⟨src, pos⟩) s = .next { settle s.begin with pending := s.pending }) ∧
    (x.state = 0 ∨ x.state = 6 →
      exec (.triadInterrupt t ⟨src, pos⟩) s = .next { settle s.begin with pending := s.pending })) ∧
  (∀ a resp, a < 2 ^ 36 → 1 ≤ resp → resp ≤ 6 → s.mod.mode.handed = true → s.sup.quenchSince = none → x.voting = true →
    GivesSettled [.trd, .rch, .grn] (.releasedStoreError t a resp) s (fun u =>
      (u.tri t).irqs = x.irqs ++ [irqStoreError] ∧ (resp = 2 → bitOf u.rch.err.status 2 = true) ∧
      (resp = 3 → bitOf u.rch.err.status 1 = true) ∧ (resp = 1 ∨ resp = 5 → bitOf u.rch.err.status 3 = true) ∧
      (resp = 4 → bitOf u.rch.err.status 4 = true)))

/-- R85, R87, R88, R89: the vote. A window is released only on two equal signatures of live cores. When the lag timer of
the oldest window ends, a core that has not delivered is excluded with LAG and one that differs with MISMATCH: it is
held in reset, the triad is 2oo2 and claims a free reserve; with no two equal signatures the triad halts with NOMAJ, and
a triad that runs Safety or Control tasks takes the module to SAFE. Commands it shows to complete: lagTimeout. Clauses
that rest on a reading or choice of the model: log 83. -/
def Obligations.LagTimerVote : Prop := ∀ (s : State) (t t0 cause : Nat), t < 6 → t < s.trd.triads.length →
  s.sup.quenchSince = none →
  let x := s.tri t
  (∀ n p w, x.agreed n = some (p, w) → (x.lane p).closed n = some w ∧ p ∈ x.livePos ∧
    ∃ q v, q ≠ p ∧ q ∈ x.livePos ∧ (x.lane q).closed n = some v ∧ v.sig = w.sig) ∧
  (x.votes = true → x.lags.find? (fun g => decide (g.1 = x.voteNum)) = some (x.voteNum, t0, cause) → t0 + 45000 ≤ s.clk.now →
    (∀ p w, x.agreed x.voteNum = some (p, w) →
      (∀ q, q < 3 → x.livePos.filter (fun q => (match (x.lane q).closed x.voteNum with
          | some v => decide (v.sig ≠ w.sig)
          | none => true)) = [q] → x.coreAt q < s.trd.cores.length → x.state = 1 → x.lanes.length = 3 →
          x.empty = [false, false, false] → x.live.length = 3 →
        GivesSettled [.trd, .thr, .grn] (.lagTimeout t) s (fun u =>
          (u.core (x.coreAt q)).running = false ∧ (u.tri t).state = 2 ∧ nth (u.tri t).live q true = false ∧
          (u.tri t).voteNum = x.voteNum + 1 ∧ u.thr = { s.thr with excluded := s.thr.excluded ++ [x.coreAt q] } ∧
          (u.tri t).reintPending = (freeReserve s).isSome ∧
          (((x.lane q).closed x.voteNum).isNone = true → bitOf u.trd.err.status 2 = true) ∧
          (((x.lane q).closed x.voteNum).isSome = true → bitOf u.trd.err.status 0 = true)))) ∧
    (x.agreed x.voteNum = none → ∃ u, exec (.lagTimeout t) s = .next { settle u with pending := s.pending } ∧
      (u.tri t).state = 6 ∧ bitOf u.trd.err.status 1 = true ∧ (s.img.tasks = [] → u.mod = s.mod) ∧
      (runsSafety s t = true → s.mod.mode = .run → u.mod.mode = .safe))) ∧
  (x.lags.find? (fun g => decide (g.1 = x.voteNum)) = some (x.voteNum, t0, cause) → s.clk.now < t0 + 45000 →
    exec (.lagTimeout t) s = .next { settle s.begin with pending := s.pending })

/-- R90, R91, R92, R73: a claimed reserve's L1 clearing ends; QUIET pauses a 2oo2 triad whose reserve is claimed; the
reintegration joins the reserve with the state of the first live core and the triad is 3oo3 again, or the reserve is
FAILED and another claimed, or the triad halts on a disagreement of the live cores, as the vote of their check windows
says; an L1 error of a running core is L1, the line invalidated and fetched again. R40, R41, R89: a halted triad without
Safety and Control tasks restarts at ENTRY with every filled position live; rung 4 raises TWD and halts the triad, to
SAFE where it runs Safety or Control tasks; a split triad's cores restart. Commands it shows to complete: trdWatchdog,
triadRestart, reserveL1ClearDone, quiet, reintegration, l1Error. Clauses that rest on a reading or choice of the model:
log 64, 87, 89. -/
def Obligations.ReintegrationAndRestart : Prop :=
  (∀ (s : State), s.sup.quenchSince = none →
   (∀ r, r < 2 → GivesOnly [.trd] (.reserveL1ClearDone r) s (fun t => t.trd = { s.trd with cores := t.trd.cores } ∧
     (resCore s r < s.trd.cores.length → t.core (resCore s r) = { s.core (resCore s r) with clearing := false }) ∧
     ∀ n, n ≠ resCore s r → t.core n = s.core n)) ∧
   (∀ t, t < 6 → t < s.trd.triads.length → (s.tri t).state = 2 → (s.tri t).reintPending = true → (s.tri t).paused = false →
     GivesSettled [.trd, .sch] (.quiet t) s (fun u => u.tri t = { s.tri t with
       state := 3, paused := true, pausedAt := s.clk.now, openedAt := none } ∧ (∀ k, k ≠ t → u.tri k = s.tri k) ∧
       u.trd.cores = s.trd.cores)) ∧
   (∀ t, t < 6 → t < s.trd.triads.length → (s.tri t).state = 3 → (s.tri t).paused = true → (s.tri t).reintPending = true →
     (s.tri t).drained = true → (s.core (resCore s (s.tri t).reserveSel)).clearing = false →
     resCore s (s.tri t).reserveSel < s.trd.cores.length → (s.tri t).gap < (s.tri t).cores.length →
     (s.tri t).gap < (s.tri t).live.length →
     (∀ r, freeReserve s = some r → resCore s r ≠ resCore s (s.tri t).reserveSel) →
     let x := s.tri t
     let n := resCore s x.reserveSel
     ∀ da db dr,
     (trdCheckSig s t x.firstLive da = trdCheckSig s t x.secondLive db →
       trdCheckSig s t x.firstLive da = trdCheckSig s t x.firstLive dr →
       GivesSettled [.trd, .sch, .grn] (.reintegration t (da, db) dr) s (fun u =>
         (u.tri t).state = 1 ∧ (u.tri t).paused = false ∧ (u.tri t).reintPending = false ∧ (u.tri t).coreAt x.gap = n ∧
         nth (u.tri t).live x.gap false = true ∧ u.core n = (s.core (x.coreAt x.firstLive)).copied t x.gap)) ∧
     (trdCheckSig s t x.firstLive da = trdCheckSig s t x.secondLive db →
       trdCheckSig s t x.firstLive da ≠ trdCheckSig s t x.firstLive dr →
       GivesSettled [.trd, .sch, .thr, .grn] (.reintegration t (da, db) dr) s (fun u =>
         (u.tri t).state = 2 ∧ (u.tri t).paused = false ∧ (u.core n).role = 6 ∧ (u.core n).running = false ∧
         bitOf u.trd.err.status 4 = true ∧ (u.tri t).reintPending = (freeReserve s).isSome ∧
         u.thr = { s.thr with failedTest := s.thr.failedTest ++ [n] })) ∧
     (trdCheckSig s t x.firstLive da ≠ trdCheckSig s t x.secondLive db →
       ∃ u, exec (.reintegration t (da, db) dr) s = .next { settle u with pending := s.pending } ∧
         (u.tri t).state = 6 ∧ bitOf u.trd.err.status 1 = true ∧
         (runsSafety s t = true → s.mod.mode = .run → u.mod.mode = .safe))) ∧
   (∀ n data a, n < 20 → a < 2 ^ 36 → ((s.core n).running = true →
       GivesOnly [.trd, .grn] (.l1Error ⟨n, data, a⟩) s (fun t =>
         t.trd = { s.trd with err := t.trd.err, cores := t.trd.cores } ∧ bitOf t.trd.err.status 7 = true ∧
         (∀ m, m ≠ n → t.core m = s.core m) ∧
         (n < s.trd.cores.length → t.core n = { s.core n with
           l1d := if data then refetched (s.core n).l1d (a / 64) else (s.core n).l1d,
           l1i := if data then (s.core n).l1i else refetched (s.core n).l1i (a / 64) }))) ∧
     ((s.core n).running = false → exec (.l1Error ⟨n, data, a⟩) s = .next s.begin))) ∧
  (∀ (s : State) (t : Nat), t < 6 → t < s.trd.triads.length →
   s.sup.quenchSince = none →
   let x := s.tri t
   (∀ t0, x.state = 6 → x.haltedAt = some t0 → isolated s (20 + t) = false → runsSafety s t = false → x.reintPending = false →
     x.empty = [false, false, false] → s.trd.cores.length = 20 → (∀ p, p < 3 → x.coreAt p < 20) →
     x.coreAt 0 ≠ x.coreAt 1 → x.coreAt 0 ≠ x.coreAt 2 → x.coreAt 1 ≠ x.coreAt 2 →
     GivesSettled [.trd, .sch] (.triadRestart t) s (fun u => (u.tri t).state = 1 ∧ (u.tri t).live = [true, true, true] ∧
       ∀ p, p < 3 → (u.core (x.coreAt p)).running = true ∧
         (u.core (x.coreAt p)).pc = BitVec.ofNat 64 (entryOf s (4 * t)))) ∧
   (∀ p, rung4 s t = some p →
     (runsSafety s t = true → s.mod.mode = .run → ∃ u, exec (.trdWatchdog t) s = .next { settle u with pending := s.pending } ∧
       u.mod.mode = .safe ∧ (u.tri t).state = 6 ∧ bitOf u.trd.err.status 8 = true) ∧
     (runsSafety s t = false → ∃ u, exec (.trdWatchdog t) s = .next { settle u with pending := s.pending } ∧
       bitOf u.trd.err.status 8 = true ∧ (s.img.tasks = [] → u.mod = s.mod ∧
         (u.tri t).state = (if x.state = 4 then 4 else 6)))) ∧
   (rung4 s t = none → exec (.trdWatchdog t) s = .next { settle s.begin with pending := s.pending }))

/-- R95, R96, R97: hand-over and return. TO_SPLIT is refused, with its result, to a triad without HANDOVER, not in 3oo3,
or that runs Safety or Control tasks, and else begins; SPLIT_START counts it and starts each core at the ENTRY of its
split image with HO_COUNT in a0; each core stops at its TO_TRIAD store, the first one starting the return timer, whose
end stops the others with HANDTO; the saved state is restored where the vote of the cores' check windows over it gives
the stored signature, and else the triad restarts with RESTORE. Commands it shows to complete: toSplit, splitStart,
toTriad, handoverTimeout, triadRestore. Clauses that rest on a reading or choice of the model: log 65, 66, 179. -/
def Obligations.SplitAndReturn : Prop := ∀ (s : State) (t : Nat), t < 6 → t < s.trd.triads.length →
  s.sup.quenchSince = none → s.trd.cores.length = 20 →
  let x := s.tri t
  (∀ p, p < 3 → x.coreAt p < 20) → x.coreAt 0 ≠ x.coreAt 1 → x.coreAt 0 ≠ x.coreAt 2 → x.coreAt 1 ≠ x.coreAt 2 →
  x.empty = [false, false, false] → x.lanes.length = 3 →
  (1 ≤ x.state → x.state ≤ 3 →
    (x.handover = false → GivesSettled [.trd] (.toSplit t) s (fun u => u.tri t = { x with hoResult := 2 })) ∧
    (x.handover = true → x.state ≠ 1 ∨ x.reintPending = true →
      GivesSettled [.trd] (.toSplit t) s (fun u => u.tri t = { x with hoResult := 3 })) ∧
    (x.handover = true → x.state = 1 → x.reintPending = false →
      (runsSafety s t = true → GivesSettled [.trd] (.toSplit t) s (fun u => u.tri t = { x with hoResult := 4 })) ∧
      (runsSafety s t = false → GivesSettled [.trd, .sch] (.toSplit t) s (fun u =>
        u.tri t = { x with state := 5, openedAt := none })))) ∧
  (x.state = 5 → x.stoppedAt = none → x.drained = true → GivesSettled [.trd, .sch, .grn] (.splitStart t) s (fun u =>
    (u.tri t).state = 4 ∧ (u.tri t).hoCount = (x.hoCount + 1) % 65536 ∧ (u.tri t).hoResult = 1 ∧
    (u.tri t).saved = some (s.core (x.coreAt x.firstLive)) ∧
    ∀ p, p < 3 → (u.core (x.coreAt p)).running = true ∧ (u.core (x.coreAt p)).role = 1 ∧
      (u.core (x.coreAt p)).pc = BitVec.ofNat 64 (entryOf s (4 * t + 1 + p)) ∧
      FMap.look (u.core (x.coreAt p)).x 0 10 = BitVec.ofNat 64 ((x.hoCount + 1) % 65536))) ∧
  (∀ n p, p < 3 → n = x.coreAt p → (s.core n).role = 1 → (s.core n).running = true → (s.core n).triad = t →
    (s.core n).pos = p → x.state = 4 → x.handover = true →
    (splitRunning s t ≠ [p] → GivesSettled [.trd] (.toTriad n) s (fun u => (u.core n).running = false ∧
      (u.tri t).state = 4 ∧ (u.tri t).returnSince = some (x.returnSince.getD s.clk.now))) ∧
    (splitRunning s t = [p] → GivesSettled [.trd, .sch] (.toTriad n) s (fun u => (u.core n).running = false ∧
      (u.tri t).state = 5 ∧ (u.tri t).stoppedAt = some s.clk.now))) ∧
  (∀ t0, x.state = 4 → x.returnSince = some t0 → t0 + 9000000 ≤ s.clk.now →
    GivesSettled [.trd, .sch, .rch, .grn, .culm] (.handoverTimeout t) s (fun u => (u.tri t).state = 5 ∧
      (u.tri t).stoppedAt = some s.clk.now ∧ bitOf u.trd.err.status 5 = true ∧
      ∀ p, p < 3 → (u.core (x.coreAt p)).running = false)) ∧
  (∀ t0 c ds, x.state = 5 → x.stoppedAt = some t0 → x.saved = some c → ds.length = 3 →
    ((∃ p q, p < q ∧ q < 3 ∧ nth ds p 0 = 0 ∧ nth ds q 0 = 0) → checkWindowSig c = x.savedSig →
      GivesSettled [.trd, .sch, .grn] (.triadRestore t ds) s (fun u =>
        (u.tri t).state = 1 ∧ (u.tri t).live = [true, true, true] ∧ (u.tri t).saved = none ∧
        ∀ p, p < 3 → u.core (x.coreAt p) = c.copied t p)) ∧
    ((∀ p, p < 3 → checkWindowSig c ^^^ nth ds p 0 ≠ x.savedSig) ∨
        (∀ p q, p < q → q < 3 → nth ds p 0 ≠ nth ds q 0) → isolated s (20 + t) = false →
      GivesSettled [.trd, .sch, .grn] (.triadRestore t ds) s (fun u => (u.tri t).state = 1 ∧
        bitOf u.trd.err.status 6 = true ∧ (u.tri t).saved = none ∧ ∀ p, p < 3 →
          (u.core (x.coreAt p)).running = true ∧ (u.core (x.coreAt p)).pc = BitVec.ofNat 64 (entryOf s (4 * t)))))

/-! ## The Awn engine (04) -/

/-- R107, R109: what a bit operand reads, and that every other space or index is not allowed. R107, R108: a stored bit
or word reads back, and every other bit of its space, and every other space, reads as before. -/
def Obligations.AwnOperandForms : Prop :=
  (∀ (e : AwnEnv) (l : AwnLane) (i : Nat),
   (i < 8192 → readBit e l 0 i = some (areaBit l.d.i i) ∧ readBit e l 1 i = some (areaBit l.d.q i) ∧
     readBit e l 2 i = some (areaBit l.d.m i)) ∧
   (i < 131072 → readBit e l 3 i = some ((FMap.look l.d.w 0 (i / 32)).getLsbD (i % 32))) ∧
   (i < 2048 → readBit e l 4 i = some (FMap.look l.d.timers {} i).q) ∧
   (i < 1024 → readBit e l 5 i = some (decide ((FMap.look l.d.k 0 (awnObj e.prog.counters i).preset).toInt ≤
     (FMap.look l.d.counters {} i).cv.toInt))) ∧
   readBit e l 6 0 = some true ∧ readBit e l 6 1 = some false ∧ readBit e l 6 2 = some e.first ∧
   readBit e l 6 3 = some l.ov ∧ readBit e l 6 4 = some e.degraded ∧
   (5 ≤ i → i ≤ 7 → readBit e l 6 i = some false) ∧
   readBit e l 6 8 = some (decide (l.d.scanTime.toNat / 50000000 % 2 = 1)) ∧
   readBit e l 6 9 = some (decide (l.d.scanTime.toNat / 250000000 % 2 = 1)) ∧
   readBit e l 6 10 = some (decide (l.d.scanTime.toNat / 500000000 % 2 = 1)) ∧
   readBit e l 6 11 = some (decide (l.d.scanTime.toNat / 1000000000 % 2 = 1)) ∧
   (8192 ≤ i → readBit e l 0 i = none ∧ readBit e l 1 i = none ∧ readBit e l 2 i = none) ∧
   (131072 ≤ i → readBit e l 3 i = none) ∧ (2048 ≤ i → readBit e l 4 i = none) ∧ (1024 ≤ i → readBit e l 5 i = none) ∧
   (12 ≤ i → readBit e l 6 i = none) ∧ readBit e l 7 i = none) ∧
  (∀ (e : AwnEnv) (l : AwnLane),
   (∀ sp i b, bitStorable sp i = true →
     readBit e { l with d := storeBit l.d sp i b } sp i = some b ∧
     (∀ sp' j, sp' ≤ 3 → (sp', j) ≠ (sp, i) → readBit e { l with d := storeBit l.d sp i b } sp' j = readBit e l sp' j)) ∧
   (∀ x v, wordStorable x = true →
     readWord e { l with d := storeWord l.d x v } x = some v ∧
     (∀ y : WOp, y.sp ≤ 3 → y ≠ x → readWord e { l with d := storeWord l.d x v } y = readWord e l y)))

/-- R111: LD, AND, OR, XOR and NOT complete on every operand that R107 allows: BA takes the result, the lane goes on by
one step, and nothing else of the module changes. An operand that it does not allow closes the lane with ILLEGAL (log
21). R111, R121: ST, SET and RST complete on every operand that may be stored to: the bit is stored (SET and RST: only
when BA is 1), the store record is folded, and nothing else changes. R111, R113: PSH pushes BA where the stack holds
fewer than 16 bits; POP, POPA, POPO and POPX pop, and RDS reads, a stack that is not empty; a full or an empty stack
closes the lane with STACK. Commands it shows to complete: awnLd, awnAnd, awnOr, awnXor, awnSt, awnSet, awnRst, awnNot,
awnPsh, awnPop, awnRds, awnPopa, awnPopo, awnPopx. -/
def Obligations.AwnBitSteps : Prop :=
  (∀ (s : State) (lane : Nat), AwnRuns s lane →
   (∀ x b, x.wf = true → bitOperand (awnEnv s) (awnLane s lane) x = some b →
     exec (.awnLd lane x) s = .next (laneTo s lane (laneNext 1 { awnLane s lane with ba := b })) ∧
     exec (.awnAnd lane x) s = .next (laneTo s lane (laneNext 1 { awnLane s lane with ba := (awnLane s lane).ba && b })) ∧
     exec (.awnOr lane x) s = .next (laneTo s lane (laneNext 1 { awnLane s lane with ba := (awnLane s lane).ba || b })) ∧
     exec (.awnXor lane x) s = .next (laneTo s lane (laneNext 1 { awnLane s lane with ba := (awnLane s lane).ba ^^ b }))) ∧
   exec (.awnNot lane) s = .next (laneTo s lane (laneNext 1 { awnLane s lane with ba := !(awnLane s lane).ba })) ∧
   (∀ x, x.wf = true → readBit (awnEnv s) (awnLane s lane) x.sp x.idx = none →
     (∀ c ∈ [Instr.awnLd lane x, .awnAnd lane x, .awnOr lane x, .awnXor lane x],
       Gives c s (fun t => (awnLane t lane).cause = some 4 ∧ (awnLane t lane).ba = (awnLane s lane).ba ∧
         (awnLane t lane).d = (awnLane s lane).d)))) ∧
  (∀ (s : State) (lane : Nat) (x : BOp), AwnRuns s lane → x.wf = true →
   bitStorable x.sp x.idx = true →
   let l := awnLane s lane
   let w0 : Dword := BitVec.ofNat 64 (4 * 2 ^ 60 + x.sp * 2 ^ 57 + x.idx)
   exec (.awnSt lane x) s = .next (laneTo s lane (laneNext 1 { l with
     d := storeBit l.d x.sp x.idx (l.ba ^^ x.neg), sig := sigRecord l.sig w0 (if l.ba ^^ x.neg then 1 else 0) })) ∧
   (x.neg = false → l.ba = true →
     exec (.awnSet lane x) s = .next (laneTo s lane (laneNext 1 { l with
       d := storeBit l.d x.sp x.idx true, sig := sigRecord l.sig w0 1 })) ∧
     exec (.awnRst lane x) s = .next (laneTo s lane (laneNext 1 { l with
       d := storeBit l.d x.sp x.idx false, sig := sigRecord l.sig w0 0 }))) ∧
   (x.neg = false → l.ba = false →
     exec (.awnSet lane x) s = .next (laneTo s lane (laneNext 1 { l with sig := sigRecord l.sig w0 0 })) ∧
     exec (.awnRst lane x) s = .next (laneTo s lane (laneNext 1 { l with sig := sigRecord l.sig w0 0 })))) ∧
  (∀ (s : State) (lane : Nat), AwnRuns s lane →
   let l := awnLane s lane
   (l.stack.length < 16 → exec (.awnPsh lane) s = .next (laneTo s lane (laneNext 1 { l with stack := l.ba :: l.stack }))) ∧
   (∀ b r, l.stack = b :: r →
     exec (.awnPop lane) s = .next (laneTo s lane (laneNext 1 { l with ba := b, stack := r })) ∧
     exec (.awnRds lane) s = .next (laneTo s lane (laneNext 1 { l with ba := b })) ∧
     exec (.awnPopa lane) s = .next (laneTo s lane (laneNext 1 { l with ba := l.ba && b, stack := r })) ∧
     exec (.awnPopo lane) s = .next (laneTo s lane (laneNext 1 { l with ba := l.ba || b, stack := r })) ∧
     exec (.awnPopx lane) s = .next (laneTo s lane (laneNext 1 { l with ba := l.ba ^^ b, stack := r }))) ∧
   (16 ≤ l.stack.length → Gives (.awnPsh lane) s (fun t => (awnLane t lane).cause = some 2)) ∧
   (l.stack = [] → ∀ c ∈ [Instr.awnPop lane, .awnRds lane, .awnPopa lane, .awnPopo lane, .awnPopx lane],
     Gives c s (fun t => (awnLane t lane).cause = some 2)))

/-- R116, R121: TIM evaluates the timer with input BA and leaves its Q in BA; TRS clears RUN and Q when BA is 1 and
leaves IN; both fold the timer's record. R116, R118: an idle TON whose input rises starts at this scan's time and
switches in the first scan whose SCAN_TIME reaches START + LIMIT, not before; with a preset of 0 it switches at once. A
TOF likewise on the fall of its input. A TP runs for LIMIT on a rising input, and with a preset of 0 never sets Q.
Commands it shows to complete: awnTim, awnTrs. -/
def Obligations.AwnTimerStepsAndLimits : Prop :=
  (∀ (s : State) (lane n : Nat), AwnRuns s lane → n < 2048 →
   let l := awnLane s lane
   let o := awnObj (awnProg s).timers n
   let old := FMap.look l.d.timers {} n
   let limit := timerPreset l.d o * timerBase o
   let rec0 : Dword := BitVec.ofNat 64 (6 * 2 ^ 60 + n)
   let put := fun (t : AwnTimer) (ba : Bool) => laneTo s lane (laneNext 1 { l with
     ba := ba, d := { l.d with timers := FMap.store l.d.timers {} n t },
     sig := sigRecord l.sig rec0 (BitVec.ofNat 64 (t.q.toNat + 2 * t.run.toNat + 4 * t.inp.toNat)) })
   (o.kind = 1 → exec (.awnTim lane n) s =
     (let t := { evalTon l.d.scanTime limit l.ba old with inp := l.ba }; .next (put t t.q))) ∧
   (o.kind = 2 → exec (.awnTim lane n) s =
     (let t := { evalTof l.d.scanTime limit l.ba old with inp := l.ba }; .next (put t t.q))) ∧
   (o.kind = 3 → exec (.awnTim lane n) s =
     (let t := { evalTp l.d.scanTime limit l.ba old with inp := l.ba }; .next (put t t.q))) ∧
   (l.ba = true → exec (.awnTrs lane n) s = .next (put { old with run := false, q := false } true)) ∧
   (l.ba = false → exec (.awnTrs lane n) s = .next (put old false))) ∧
  (∀ (now later : Dword) (limit : Nat) (t : AwnTimer),
   (t.run = false → t.q = false → 0 < limit →
     let a := evalTon now limit true t
     a.run = true ∧ a.q = false ∧ a.start = now ∧
     ((evalTon later limit true a).q = true ↔ limit ≤ (later - now).toNat)) ∧
   (t.run = false → t.q = false → (evalTon now 0 true t).q = true) ∧
   ((evalTon now limit false t).q = false ∧ (evalTon now limit false t).run = false) ∧
   ((evalTof now limit true t).q = true ∧ (evalTof now limit true t).run = false) ∧
   (t.run = false → t.q = true → 0 < limit →
     let a := evalTof now limit false t
     a.run = true ∧ a.q = true ∧ a.start = now ∧
     ((evalTof later limit false a).q = false ↔ limit ≤ (later - now).toNat)) ∧
   (t.q = true → t.run = false → (evalTof now 0 false t).q = false) ∧
   (t.run = false → t.q = false → t.inp = false → 0 < limit → ∀ i,
     let a := evalTp now limit true t
     a.run = true ∧ a.q = true ∧ a.start = now ∧
     ((evalTp later limit i { a with inp := true }).q = false ↔ limit ≤ (later - now).toNat)) ∧
   (t.q = t.run → ∀ i, (evalTp now 0 i t).q = false))

/-- R119, R120, R121: CTU and CTD count at a rise of BA, saturate, and leave the output bit in BA; CRS and CLD write
INIT and WA when BA is 1; EDG leaves the edge of its kind in BA and keeps the given BA in PREV; each folds its object's
record, and nothing else changes. Commands it shows to complete: awnCtu, awnCtd, awnCrs, awnCld, awnEdg. -/
def Obligations.AwnCounterEdgeSteps : Prop := ∀ (s : State) (lane n : Nat), AwnRuns s lane →
  let l := awnLane s lane
  let c := FMap.look l.d.counters {} n
  let k := FMap.look l.d.k 0 (awnObj (awnProg s).counters n).preset
  let put := fun (c : AwnCounter) (ba : Bool) => laneTo s lane (laneNext 1 { l with
    ba := ba, d := { l.d with counters := FMap.store l.d.counters {} n c },
    sig := sigRecord l.sig (BitVec.ofNat 64 (6 * 2 ^ 60 + 2 ^ 58 + n)) (BitVec.ofNat 64 c.cv.toNat) })
  let edge := fun (out : Bool) => laneTo s lane (laneNext 1 { l with
    ba := out, d := { l.d with edges := FMap.store l.d.edges false n l.ba },
    sig := sigRecord l.sig (BitVec.ofNat 64 (6 * 2 ^ 60 + 2 * 2 ^ 58 + n)) (if l.ba then 1 else 0) })
  let prev := FMap.look l.d.edges false n
  (n < 1024 →
    exec (.awnCtu lane n) s =
      (let v := if l.ba && !c.inU then (if c.cv = 0x7FFFFFFF#32 then c.cv else c.cv + 1) else c.cv
       .next (put { c with cv := v, inU := l.ba } (decide (k.toInt ≤ v.toInt)))) ∧
    exec (.awnCtd lane n) s =
      (let v := if l.ba && !c.inD then (if c.cv = 0x80000000#32 then c.cv else c.cv - 1) else c.cv
       .next (put { c with cv := v, inD := l.ba } (decide (k.toInt ≤ v.toInt)))) ∧
    (l.ba = true → exec (.awnCrs lane n) s = .next (put { c with cv := (awnObj (awnProg s).counters n).init } true)) ∧
    (l.ba = false → exec (.awnCrs lane n) s = .next (put c false)) ∧
    (l.ba = true → exec (.awnCld lane n) s = .next (put { c with cv := l.wa } true)) ∧
    (l.ba = false → exec (.awnCld lane n) s = .next (put c false))) ∧
  (n < 4096 →
    ((awnObj (awnProg s).edges n).kind = 1 → exec (.awnEdg lane n) s = .next (edge (l.ba && !prev))) ∧
    ((awnObj (awnProg s).edges n).kind = 2 → exec (.awnEdg lane n) s = .next (edge (prev && !l.ba))))

/-- R111, R112: LW, SW, ADD, SUB, MUL, NEGW and ABS: the result wraps modulo 2^32, OV tells whether the true signed
result lies outside the range, and nothing else changes. Commands it shows to complete: awnLw, awnSw, awnAdd, awnSub,
awnMul, awnNegw, awnAbs. -/
def Obligations.AwnWordArithmeticSteps : Prop := ∀ (s : State) (lane : Nat), AwnRuns s lane →
  let l := awnLane s lane
  let put := fun (r : Int) => laneTo s lane (laneNext 1 { l with
    wa := BitVec.ofInt 32 r, ov := decide (r < -(2 ^ 31) ∨ 2 ^ 31 - 1 < r) })
  (∀ x v, x.wf = true → readWord (awnEnv s) l x = some v →
    exec (.awnLw lane x) s = .next (laneTo s lane (laneNext 1 { l with wa := v })) ∧
    exec (.awnAdd lane x) s = .next (put (l.wa.toInt + v.toInt)) ∧
    exec (.awnSub lane x) s = .next (put (l.wa.toInt - v.toInt)) ∧
    exec (.awnMul lane x) s = .next (put (l.wa.toInt * v.toInt))) ∧
  (∀ x, x.wf = true → wordStorable x = true →
    exec (.awnSw lane x) s = .next (laneTo s lane (laneNext 1 { l with
      d := storeWord l.d x l.wa,
      sig := sigRecord l.sig (BitVec.ofNat 64 (5 * 2 ^ 60 + x.sp * 2 ^ 57 + x.idx)) (BitVec.ofNat 64 l.wa.toNat) }))) ∧
  exec (.awnNegw lane) s = .next (put (-l.wa.toInt)) ∧
  exec (.awnAbs lane) s = .next (put (Int.natAbs l.wa.toInt))

/-- R111: ANDW, ORW, XORW, MIN, MAX, SEL, the shifts and LDL write WA, the lane goes on by one step (LDL by two), and
nothing else changes. R111: CEQ, CNE, CLT, CLE, CGT and CGE compare WA with the operand as signed and write BA only.
R111, R114, R121: a jump taken folds its record and continues at its target; one not taken and NOP go on by one step.
Commands it shows to complete: awnAndw, awnOrw, awnXorw, awnMin, awnMax, awnSel, awnCeq, awnCne, awnClt, awnCle, awnCgt,
awnCge, awnShl, awnShr, awnAsr, awnLdl, awnJmp, awnJc, awnJnc, awnNop. -/
def Obligations.AwnWordLogicCompareJumpSteps : Prop :=
  (∀ (s : State) (lane : Nat), AwnRuns s lane →
   let l := awnLane s lane
   let put := fun (v : Word) => laneTo s lane (laneNext 1 { l with wa := v })
   (∀ x v, x.wf = true → readWord (awnEnv s) l x = some v →
     exec (.awnAndw lane x) s = .next (put (l.wa &&& v)) ∧
     exec (.awnOrw lane x) s = .next (put (l.wa ||| v)) ∧
     exec (.awnXorw lane x) s = .next (put (l.wa ^^^ v)) ∧
     exec (.awnMin lane x) s = .next (put (BitVec.ofInt 32 (min l.wa.toInt v.toInt))) ∧
     exec (.awnMax lane x) s = .next (put (BitVec.ofInt 32 (max l.wa.toInt v.toInt))) ∧
     (l.ba = false → exec (.awnSel lane x) s = .next (put v)) ∧
     (l.ba = true → exec (.awnSel lane x) s = .next (put l.wa))) ∧
   (∀ n, n < 32 →
     exec (.awnShl lane n) s = .next (put (BitVec.ofNat 32 (l.wa.toNat * 2 ^ n))) ∧
     exec (.awnShr lane n) s = .next (put (BitVec.ofNat 32 (l.wa.toNat / 2 ^ n))) ∧
     exec (.awnAsr lane n) s = .next (put (BitVec.ofInt 32 (l.wa.toInt / 2 ^ n)))) ∧
   (∀ v, exec (.awnLdl lane v) s = .next (laneTo s lane (laneNext 2 { l with wa := v })))) ∧
  (∀ (s : State) (lane : Nat) (x : WOp) (v : Word), AwnRuns s lane → x.wf = true →
   readWord (awnEnv s) (awnLane s lane) x = some v →
   let l := awnLane s lane
   let put := fun (b : Bool) => laneTo s lane (laneNext 1 { l with ba := b })
   exec (.awnCeq lane x) s = .next (put (decide (l.wa = v))) ∧
   exec (.awnCne lane x) s = .next (put (decide (l.wa ≠ v))) ∧
   exec (.awnClt lane x) s = .next (put (l.wa.slt v)) ∧
   exec (.awnCle lane x) s = .next (put (l.wa.sle v)) ∧
   exec (.awnCgt lane x) s = .next (put (v.slt l.wa)) ∧
   exec (.awnCge lane x) s = .next (put (v.sle l.wa))) ∧
  (∀ (s : State) (lane target : Nat), AwnRuns s lane → target < 65536 →
   let l := awnLane s lane
   let jump := laneTo s lane { l with
     pc := target, steps := l.steps + 1,
     sig := sigRecord l.sig (BitVec.ofNat 64 (7 * 2 ^ 60 + target)) (BitVec.ofNat 64 l.pc) }
   exec (.awnJmp lane target) s = .next jump ∧
   (l.ba = true → exec (.awnJc lane target) s = .next jump ∧
     exec (.awnJnc lane target) s = .next (laneTo s lane (laneNext 1 l))) ∧
   (l.ba = false → exec (.awnJc lane target) s = .next (laneTo s lane (laneNext 1 l)) ∧
     exec (.awnJnc lane target) s = .next jump) ∧
   exec (.awnNop lane) s = .next (laneTo s lane (laneNext 1 l)))

/-- R121, R122, R123, R131: END closes the lane with cause 1 and folds the close record; an undefined step closes it
with ILLEGAL and an uncorrectable word with ECC, each with its sticky error and record. While another live lane executes
no vote is taken; the lane timer starts when one live lane is left. R123, R124: the vote. It is taken when the lane
timer has run, or when the last live lane closes. Two closed lanes that agree are published and a third live lane that
differs or is missing is excluded; with no agreement, or with two live lanes of which one differs or is missing, nothing
is published, the engine halts and the module enters SAFE. Commands it shows to complete: awnEnd, awnIllegalStep,
laneTimeout. Clauses that rest on a reading or choice of the model: log 24, 26, 181. -/
def Obligations.AwnLanesCloseAndVote : Prop :=
  (∀ (s : State) (lane a : Nat), AwnRuns s lane → AwnRuns s a → a ≠ lane →
   let l := awnLane s lane
   let shut := fun (cause steps : Nat) => { l with
     cause := some cause, steps := steps,
     sig := sigRecord l.sig (BitVec.ofNat 64 (0xF * 2 ^ 60 + cause * 2 ^ 40 + steps % 2 ^ 17)) (BitVec.ofNat 64 s.awn.scan) }
   let timer := fun (t : State) => t.awn.laneSince =
     (if s.awn.laneSince = none ∧ [0, 1, 2].all (fun b =>
         b == a || b == lane || !laneLive s b || (awnLane s b).cause.isSome) = true
      then some s.clk.now else s.awn.laneSince)
   GivesOnly [.awn] (.awnEnd lane) s (fun t =>
     t.awn = { s.awn with lanes := t.awn.lanes, laneSince := t.awn.laneSince } ∧ awnLane t lane = shut 1 (l.steps + 1) ∧
     (∀ b, b ≠ lane → awnLane t b = awnLane s b) ∧ timer t) ∧
   (∀ ecc, GivesOnly [.awn, .grn, .sup] (.awnIllegalStep lane ecc) s (fun t =>
     awnLane t lane = shut (if ecc then 3 else 4) l.steps ∧ (∀ b, b ≠ lane → awnLane t b = awnLane s b) ∧ timer t ∧
     t.awn.state = 2 ∧ t.awn.live = s.awn.live ∧ bitOf t.awn.err.status (if ecc then 5 else 4) = true ∧
     t.grn = (event (if ecc then 0x3106 else 0x3105) lane (w32 s.awn.scan) (w32 l.pc) s).grn))) ∧
  (∀ (s : State), s.awn.state = 2 → (∃ t0, s.awn.laneSince = some t0 ∧ t0 + 400 ≤ s.clk.now) →
   s.awn.live.length = 3 → s.awn.lanes.length = 3 → s.mod.mode = .run → s.sup.quenchSince = none →
   (∀ a b, a < b → b < 3 → laneLive s a = true → laneLive s b = true →
     (awnLane s a).cause ≠ none → (awnLane s b).cause ≠ none → (awnLane s a).sig = (awnLane s b).sig →
     (∀ c, c < 3 → c ≠ a → c ≠ b → laneLive s c = true →
       ((awnLane s c).cause = none ∨ (awnLane s c).sig ≠ (awnLane s a).sig) →
       Gives .laneTimeout s (fun t => t.awn.state = 4 ∧ t.awn.winner = some a ∧ laneLive t c = false ∧
         laneLive t a = true ∧ laneLive t b = true ∧ t.awn.degraded = true ∧ t.mod.mode = .run ∧
         bitOf t.awn.err.status (if (awnLane s c).cause = none then 2 else 0) = true)) ∧
     ((∀ c, c < 3 → c ≠ a → c ≠ b → laneLive s c = false) →
       GivesOnly [.awn, .pair] .laneTimeout s (fun t => t.awn.state = 4 ∧ t.awn.winner = some a ∧ t.awn.live = s.awn.live))) ∧
   ((∀ a b, a < b → b < 3 → laneLive s a = true → laneLive s b = true →
       (awnLane s a).cause = none ∨ (awnLane s b).cause = none ∨ (awnLane s a).sig ≠ (awnLane s b).sig) →
     Gives .laneTimeout s (fun t => t.awn.state = 5 ∧ (s.awn.en = true → t.awn.bank = s.awn.bank) ∧ t.awn.scan = s.awn.scan ∧
       t.mod.mode = .safe ∧ bitOf t.awn.err.status 1 = true)))

/-- R100 to R104, R106, R109, R125: a scan's life. The trigger, in RUN at the release instant, takes SCAN_TIME and the
staged writes into every live lane, clears accumulators and stack, and empties the staged set. Publishing copies the
voted lane's data into the inactive bank, swaps the banks and raises AWN_SCAN. The cycle controller's write of AWN_CTRL
sets EN; a fall with no scan under way aborts the timers in both banks and counts them; any other initiator's write has
no effect. Commands it shows to complete: awnEnableWrite, awnScanTrigger, awnPublish. Clauses that rest on a reading or
choice of the model: log 22, 23, 25, 183. -/
def Obligations.AwnScanCycle : Prop :=
  (∀ s : State, afterT0 s (releaseAt s) = true → s.cyc.triggered = false → s.mod.mode = .run → s.pair.role ≤ 1 →
    s.awn.en = true → s.awn.loaded = true → s.awn.state = 1 → s.sup.quenchSince = none →
    GivesOnly [.awn, .pair, .cyc] .awnScanTrigger s (fun t => t.awn.state = 2 ∧ t.awn.staged = [] ∧
      t.cyc = { s.cyc with triggered := true } ∧ t.awn.bank = s.awn.bank ∧ t.awn.scan = s.awn.scan ∧
      t.awn.first = s.awn.firstNext ∧ t.awn.firstNext = false ∧
      (∀ l, l < s.awn.lanes.length → laneLive s l = true →
        awnLane t l = { prog := (awnLane s l).prog, d := { stageInto s.awn.staged (awnLane s l).d with scanTime := BitVec.ofNat 64 s.clk.tb } }))) ∧
  (∀ (s : State) (w : Nat), s.awn.winner = some w → s.awn.en = true → s.cyc.olcResult ≠ 2 →
    GivesOnly [.awn, .cyc] .awnPublish s (fun t =>
      t.awn = { s.awn with
        bank := (awnLane s w).d, otherBank := s.awn.bank, scan := (s.awn.scan + 1) % 2 ^ 64, state := 1, winner := none,
        lastSteps := (awnLane s w).steps, hwSteps := max s.awn.hwSteps (awnLane s w).steps })) ∧
  (∀ (s : State) (init : Nat) (v : Word), init < 64 →
    (init ≠ 0x27 → exec (.awnEnableWrite init v) s = .next s.begin) ∧
    (s.awn.en = false → s.awn.active = false →
      exec (.awnEnableWrite 0x27 1) s = .next { s.begin with awn := { s.awn with en := true, active := true, firstNext := true } }) ∧
    (s.awn.en = true → s.awn.state = 1 → GivesOnly [.awn] (.awnEnableWrite 0x27 0) s (fun t =>
      t.awn.en = false ∧ t.awn.active = s.awn.active ∧ t.awn.scan = s.awn.scan ∧
      t.awn.aborted = (s.awn.bank.timers.filter (fun e => e.2.run || e.2.q)).length ∧
      (FMap.wf {} s.awn.bank.timers = true → ∀ n, let o := FMap.look s.awn.bank.timers {} n
        FMap.look t.awn.bank.timers {} n = { o with run := false, q := false }))))

/-! ## The control cycle (05) -/

/-- R132, R133, R135, R145, R146: a boundary that has come begins the next cycle. In a module without a network schedule
and without a partner, a mode request at least 5 µs old is taken there (RUN raises Awn's enable, STOP clears it), one
that is younger waits; a cycle whose publish has not ended raises CYCOVR and takes the module to SAFE. A boundary that
has not come changes nothing. Commands it shows to complete: cycleBoundary. Clauses that rest on a reading or choice of
the model: log 101, 109, 186, 187. -/
def Obligations.CycleBoundaryBegins : Prop := ∀ (s : State) (n : Nat), s.mod.mode.handed = true → s.cyc.nextT0 = some n →
  s.sup.quenchSince = none →
  (n ≤ s.clk.tb → Gives .cycleBoundary s (fun t => t.cyc.begun = true ∧ t.cyc.t0 = s.clk.now ∧ t.cyc.freezeTime = n ∧
    t.cyc.phase = 1 ∧ t.cyc.triggered = false ∧ t.cyc.scanDone = false ∧ t.fuse = s.fuse ∧ t.clk.now = s.clk.now)) ∧
  (s.clk.tb < n → exec .cycleBoundary s = .next s.begin) ∧
  (n ≤ s.clk.tb → vyfRuns s = false → s.img.modes = [] → s.pair.role = 0 →
    Gives .cycleBoundary s (fun t => t.cyc.cycle = s.cyc.nextNum ∧ t.cyc.nextNum = (s.cyc.nextNum + 1) % 2 ^ 64 ∧
      t.cyc.nextT0 = some (n + fieldOf (lkAt s 2 0x20) 15 0 * 1000)) ∧
    (s.cyc.begun = true → s.cyc.phase ≠ 3 → s.mod.mode = .run → Gives .cycleBoundary s (fun t =>
      t.mod.mode = .safe ∧ bitOf t.cyc.err.status 1 = true)) ∧
    (s.cyc.begun = false ∨ s.cyc.phase = 3 → s.cyc.forceStop = false → cycCfg s 16 = false →
      (s.cyc.req = none → Gives .cycleBoundary s (fun t => t.mod.mode = s.mod.mode ∧ t.cyc.mode = s.cyc.mode)) ∧
      (∀ r t0, s.cyc.req = some (r, t0) → s.clk.now < t0 + 5000 → Gives .cycleBoundary s (fun t =>
        t.mod.mode = s.mod.mode ∧ t.cyc.req = s.cyc.req)) ∧
      (∀ t0, s.cyc.req = some (1, t0) → t0 + 5000 ≤ s.clk.now → s.mod.mode = .stop → s.cyc.mode = 0 → s.awn.active = false →
        Gives .cycleBoundary s (fun t => t.mod.mode = .run ∧ t.cyc.mode = 1 ∧ t.cyc.req = none ∧
          (s.awn.loaded = true → t.awn.en = true))) ∧
      (∀ t0, s.cyc.req = some (2, t0) → t0 + 5000 ≤ s.clk.now → s.mod.mode = .run → s.cyc.mode = 1 →
        Gives .cycleBoundary s (fun t => t.mod.mode = .stop ∧ t.cyc.mode = 0 ∧ t.cyc.req = none ∧
          (s.awn.loaded = true → t.awn.en = false))) ∧
      (∀ t0, s.cyc.req = some (3, t0) → t0 + 5000 ≤ s.clk.now → s.mod.mode = .run → s.cyc.mode = 1 →
        Gives .cycleBoundary s (fun t => t.mod.mode = .hold ∧ t.cyc.mode = 2 ∧ t.cyc.req = none ∧
          (s.awn.en = true → t.awn.en = true)))))

/-- R138, R139, R141: the freeze at a boundary. A station whose connection is in DATA takes a message accepted since the
last freeze: its words stand, VALID and FRESH are set and AGE is 0; without one AGE rises, the words hold up to
AGE_LIMIT, and beyond it the safe words stand and VALID is 0. R133, R135, R142, R144, R148, R268: the release, 10 µs
after T0, triggers the scan in RUN; publish at T0 + O hands the output image on: STOP_VALUE in STOP, the published Q
area in RUN, the last image in HOLD, under the forces that are enabled, and inverts the pilot output of an unpaired
module; in RUN a program whose scan has not been published raises SCANOVR and takes the module to SAFE. Commands it
shows to complete: cycleBoundary, releasePhase, publish. Clauses that rest on a reading or choice of the model: log 103,
104, 106, 108, 184, 189. -/
def Obligations.FreezeReleaseAndPublish : Prop :=
  (∀ (s : State) (n k : Nat), s.mod.mode.handed = true →
   s.cyc.nextT0 = some n → n ≤ s.clk.tb → vyfRuns s = false → s.img.modes = [] → s.pair.role = 0 → k < 128 →
   s.cyc.begun = false ∨ s.cyc.phase = 3 → stnUsed s k = true →
   let c := stnConn s k
   c < s.img.conns.length → (connEnt s c).recv = true → (connAt s c).state = 3 →
   s.cyc.nextNum ≤ (connAt s c).accCycle + (connEnt s c).timeout →
   (∀ j, j < 128 → stnUsed s j = true → stnConn s j = c → j = k) →
   ((connAt s c).fresh = true → Gives .cycleBoundary s (fun t =>
     (stnAt t k).words = (connAt s c).words ∧ (stnAt t k).valid = true ∧ (stnAt t k).lost = false ∧
     (stnAt t k).fresh = true ∧ (stnAt t k).age = 0 ∧ (stnAt t k).startUp = false ∧ (connAt t c).fresh = false)) ∧
   ((connAt s c).fresh = false → (stnAt s k).startUp = false → Gives .cycleBoundary s (fun t =>
     (stnAt t k).age = min 255 ((stnAt s k).age + 1) ∧ (stnAt t k).fresh = false ∧
     ((stnAt t k).age ≤ ageLimit s k → (stnAt t k).words = (stnAt s k).words ∧ (stnAt t k).valid = (stnAt s k).valid) ∧
     (ageLimit s k < (stnAt t k).age → (stnAt t k).words = safeWords s k ∧ (stnAt t k).valid = false)))) ∧
  (∀ (s : State), s.sup.quenchSince = none →
   (s.cyc.begun = true → s.cyc.t0 + 10000 ≤ s.clk.now → s.pair.takeLate = false → s.cyc.phase = 1 →
     GivesOnly [.cyc, .awn, .pair, .mod, .sch, .fio, .culm, .grn, .sup] .releasePhase s (fun t => t.cyc.phase = 2 ∧
       (s.mod.mode = .run → s.pair.role ≤ 1 → s.awn.en = true → s.awn.loaded = true → s.awn.state = 1 →
         t.awn.state = 2 ∧ t.awn.staged = [] ∧ t.mod = s.mod) ∧
       (s.mod.mode = .stop ∨ s.mod.mode = .hold → t = { s.begin with cyc := { s.cyc with phase := 2 } }))) ∧
   (s.cyc.begun = true → s.cyc.t0 + outOffset s ≤ s.clk.now → s.cyc.phase ≠ 3 → s.mod.mode.handed = true →
     s.pair.role = 0 → s.img.conns = [] → s.cyc.exchFirst = false →
     (∀ q : FMap Byte, (s.mod.mode = .stop ∧ s.cyc.mode = 0 ∧ q = FMap.storeList [] 0 0 (le 2 (maskOf ((List.range 16).map (stopValue s)))) ∨
         s.mod.mode = .run ∧ s.cyc.mode = 1 ∧ (s.awn.loaded = false ∨ s.cyc.scanDone = true) ∧ q = s.awn.bank.q ∨
         s.mod.mode = .hold ∧ s.cyc.mode = 2 ∧ q = s.cyc.qOut) →
       GivesOnly [.cyc, .fio, .vyf, .hub, .pair, .eng] .publish s (fun t => t.cyc = { s.cyc with phase := 3, qOut := q } ∧
         t.pair = { s.pair with pilOut := !s.pair.pilOut, pubNow := true } ∧
         (∀ f, t.fio.image = some f → f.2 = s.clk.now ∧ f.1.length = 16 ∧
           ∀ k, k < 16 → ((∀ e ∈ forcesOf s true, e.1 ≠ k) ∨ s.mod.mode = .stop →
             f.1[k]? = some ((FMap.look q 0 (k / 8)).getLsbD (k % 8)))) ∧
         (∀ k v, k < 16 → forcesOf s true = [(k, v)] → s.mod.mode ≠ .stop →
           ∃ f, t.fio.image = some f ∧ f.1[k]? = some v) ∧ t.fio.image ≠ none)) ∧
     (s.mod.mode = .run → s.cyc.mode = 1 → s.awn.loaded = true → s.cyc.scanDone = false → Gives .publish s (fun t =>
       t.mod.mode = .safe ∧ bitOf t.cyc.err.status 0 = true ∧ t.cyc.qOut = s.cyc.qOut)) ∧
     (s.mod.mode = .safe → GivesOnly [.cyc, .eng] .publish s (fun t => t.cyc = { s.cyc with phase := 3 } ∧ t.out = []))))

/-- R145, R147, R148, R149: a mode request of a TRIAD-mode triad's voter or the security engine is accepted in STOP,
RUN, HOLD and BRACE, HOLD only with the permission bit; of any other initiator, or in SAFE, none is. A force entry takes
the write of the security engine where FORCE_PERMIT allows it, reserved bits reading 0. Commands it shows to complete:
modeReqRun, modeReqStop, modeReqHold, forceEntryWrite. Clauses that rest on a reading or choice of the model: log 138,
188. -/
def Obligations.ModeRequestsAndForces : Prop := ∀ (s : State) (init : Nat), init < 64 →
  let take : Nat → Host.Outcome State Fault Refusal := fun m => .next
    { s.begin with cyc := { s.cyc with req := some (m, s.clk.now) } }
  (reqSource s init = true → (s.mod.mode = .stop ∨ s.mod.mode = .run ∨ s.mod.mode = .hold ∨ s.mod.mode = .brace) →
    s.pair.role ≠ 2 →
    exec (.modeReqStop init) s = take 2 ∧
    (s.sec.debug = false → exec (.modeReqRun init) s = take 1 ∧
      (bitOf (lkAt s 2 0x28) 31 = true → s.cyc.permit = true → exec (.modeReqHold init) s = take 3)) ∧
    (bitOf (lkAt s 2 0x28) 31 = false ∨ s.cyc.permit = false → exec (.modeReqHold init) s = .next s.begin) ∧
    (s.sec.debug = true → exec (.modeReqRun init) s = .next s.begin)) ∧
  (reqSource s init = false ∨ s.mod.mode = .safe ∨ s.pair.role = 2 →
    exec (.modeReqRun init) s = .next s.begin ∧ exec (.modeReqStop init) s = .next s.begin ∧
    exec (.modeReqHold init) s = .next s.begin) ∧
  (∀ k v, k < 64 →
    (init = 0x2B → cycCfg s 17 = true → s.sup.quenchSince = none →
      GivesOnly [.cyc, .grn] (.forceEntryWrite init k v) s (fun t =>
        t.cyc = { s.cyc with force := t.cyc.force } ∧ FMap.look t.cyc.force 0 k = v &&& 0xE0001FFF ∧
        (∀ j, j ≠ k → FMap.look t.cyc.force 0 j = FMap.look s.cyc.force 0 j) ∧
        (FMap.look s.cyc.force 0 k = v &&& 0xE0001FFF → t.grn = s.grn))) ∧
    (init ≠ 0x2B ∨ cycCfg s 17 = false → exec (.forceEntryWrite init k v) s = .next s.begin))

/-- R150, R151, R152, R275: COMMIT of an online change of 1 to 16 entries waits for the next merge, and is refused with
its RESULT during an exchange, of no entry or more than 16; START of an exchange is refused by a module that is not the
STANDBY of an ACTIVE, and else begins a planned switchover; a check scan counts as passed or failed. Commands it shows
to complete: olcCommit, exchStart, checkScan. Clauses that rest on a reading or choice of the model: log 46, 107, 185.
-/
def Obligations.OnlineChangeAndExchange : Prop := ∀ (s : State), s.sup.quenchSince = none →
  (∀ init v, init < 64 → reqSource s init = true → s.cyc.olcResult ≠ 1 → s.cyc.olcResult ≠ 2 → bitOf v 31 = true →
    let n := fieldOf v 4 0
    (s.cyc.exch = false → 1 ≤ n → n ≤ 16 → (∀ k, k < n → (olcAddr s k).1 = 0 ∨ (olcAddr s k).2 < 1024) →
      exec (.olcCommit init v) s =
        .next { s.begin with cyc := { s.cyc with olcCount := n, olcResult := 1, olcFail := 0 } }) ∧
    (s.cyc.exch = true → GivesOnly [.cyc, .grn] (.olcCommit init v) s (fun t =>
      t.cyc.olcResult = 6 ∧ bitOf t.cyc.err.status 5 = true)) ∧
    (s.cyc.exch = false → n = 0 ∨ 16 < n → GivesOnly [.cyc, .grn] (.olcCommit init v) s (fun t =>
      t.cyc.olcResult = 5 ∧ bitOf t.cyc.err.status 5 = true))) ∧
  (∀ init v, init < 64 → reqSource s init = false → exec (.olcCommit init v) s = .next s.begin) ∧
  (∀ v, bitOf v 0 = true → s.cyc.exch = false →
    (s.pair.role = 2 → s.pair.report.isSome = true → repRole (lastReport s) = 1 → s.pair.linkLost = false →
      s.pair.wants = false → exec (.exchStart 0x2B v) s = .next { s.begin with
        cyc := { s.cyc with exch := true, deferred := 0, exchResult := 0 },
        pair := { s.pair with wants := true, forExch := true, deferred := 0, intent := none } }) ∧
    (s.pair.role ≠ 2 → GivesOnly [.cyc, .grn] (.exchStart 0x2B v) s (fun t =>
      t.cyc.exch = false ∧ t.cyc.exchResult = 2 ∧ bitOf t.cyc.err.status 6 = true))) ∧
  (∀ a b, s.pair.shadowPrev = some a → s.pair.shadow = some b → s.pair.role = 2 → s.pair.checked = false →
    s.pair.shadowOk = true → s.awn.loaded = true → repProg b.report = ownProgram s → repCycle a.report + 2 = s.cyc.cycle →
    repCycle b.report + 1 = s.cyc.cycle → repBit b.report 5 = false → repBit b.report 6 = false →
    GivesOnly [.pair, .awn, .grn] .checkScan s (fun t => t.pair.checked = true ∧ t.pair.checks = min 65535 (s.pair.checks + 1) ∧
      t.awn = { s.awn with firstNext := false } ∧
      (if checkSig s a b = BitVec.ofNat 64 (repSig b.report) then t.pair.runFails = 0 ∧ t.pair.fails = s.pair.fails
       else t.pair.runFails = s.pair.runFails + 1 ∧ t.pair.fails = min 65535 (s.pair.fails + 1) ∧
         (3 ≤ s.pair.runFails + 1 → t.pair.diverging = true))))

/-! ## Budget scheduler (06) -/

/-- R155, R159, R161, R166: a task whose cycle and instant have come, and whose class is released, gets a job with its
deadline, where its instance runs and no job of it is unfinished; a release that is skipped counts in SKIPS, and one for
an unfinished job is a miss besides; the store of the number that SCH_NEXT names to SCH_RUNNING takes the request and
starts the job; the store of the running job's number to SCH_DONE completes it, on time up to the instant of its
deadline, with a miss after it. R165, R166, R167, R168: a deadline that passes counts one miss, raises MISS, and with
ACTION 1 takes the module to SAFE at MISS_LIMIT misses in a row; a job that has run past its WCET raises BUDGET once and
its triad's G is 0. Commands it shows to complete: taskRelease, dispatchTake, jobDone, deadlineMiss, budgetOverrun.
Clauses that rest on a reading or choice of the model: log 97, 98, 100. -/
def Obligations.JobsMissesAndBudgets : Prop :=
  (∀ (s : State) (k : Nat) (x : Task), k < 256 → taskAt s k = some x →
   s.sup.quenchSince = none →
   let t := x.inst / 4
   (s.cyc.begun = true → s.cyc.cycle % x.every = x.phase → classReleased s.mod.mode s.pair.role x.cls = true →
     s.pair.takeLate = false → s.cyc.t0 + x.offset * 1000 ≤ s.clk.now → (taskSt s k).relCycle ≠ s.cyc.cycle + 1 →
     (s.sch.level = 0 → instRuns s x.inst = true → (taskSt s k).job = none →
       (∀ p ∈ dispPos s t, (dispAt s t p).running ≠ k) →
       GivesSettled [.sch, .trd] (.taskRelease k) s (fun u =>
         (taskSt u k).job = some {
           release := s.cyc.t0 + x.offset * 1000,
           deadline := if x.cls = 3 then none else some (s.cyc.t0 + x.offset * 1000 + x.deadline * 1000),
           started := false, ran := 0, missed := false, overrun := false } ∧ (taskSt u k).relCycle = s.cyc.cycle + 1)) ∧
     (∀ j, instRuns s x.inst = true → (taskSt s k).job = some j → t < s.sch.triads.length →
       (x.cls = 3 → GivesSettled [.sch] (.taskRelease k) s (fun u => (taskSt u k).job = some j ∧
         (taskSt u k).misses = (taskSt s k).misses ∧ (schTri u t).skips = min 65535 ((schTri s t).skips + 1))) ∧
       (x.cls ≠ 3 → GivesSettled [.sch, .grn, .mod, .sup, .fio, .culm] (.taskRelease k) s (fun u => (taskSt u k).job = some j ∧
         (taskSt u k).misses = min 65535 ((taskSt s k).misses + 1) ∧
         (schTri u t).skips = min 65535 ((schTri s t).skips + 1)))) ∧
     (instRuns s x.inst = false → GivesSettled [.sch] (.taskRelease k) s (fun u =>
       (taskSt u k).job = (taskSt s k).job ∧ (t < s.sch.triads.length →
         (schTri u t).skips = min 65535 ((schTri s t).skips + 1))))) ∧
   (∀ p init j, p < 3 → init < 64 → dispWriter s init t p = true → (dispAt s t p).pending = true → (dispAt s t p).next = k →
     t < 6 → t < s.sch.triads.length → p < (schTri s t).disp.length → (taskSt s k).job = some j →
     GivesSettled [.sch] (.dispatchTake init t p (BitVec.ofNat 32 k)) s (fun u =>
       (dispAt u t p).running = k ∧ (dispAt u t p).pending = false ∧ (dispAt u t p).since = none ∧
       (∃ j', (taskSt u k).job = some j' ∧ j'.started = true ∧ j'.deadline = j.deadline))) ∧
   (∀ p init j, p < 3 → init < 64 → dispWriter s init t p = true → t < 6 → (dispAt s t p).running = k →
     (taskSt s k).job = some j →
     (∀ d, j.deadline = some d → j.missed = false → s.clk.now ≤ d →
       GivesSettled [.sch, .trd, .grn] (.jobDone init t p (BitVec.ofNat 32 k)) s (fun u => (taskSt u k).job = none ∧
         (taskSt u k).consec = 0 ∧ (taskSt u k).misses = (taskSt s k).misses ∧
         (taskSt u k).minSlack = min (taskSt s k).minSlack ((d - s.clk.now) / 1000))) ∧
     (∀ d, j.deadline = some d → j.missed = false → d < s.clk.now →
       GivesSettled [.sch, .trd, .grn, .mod, .sup, .fio, .culm] (.jobDone init t p (BitVec.ofNat 32 k)) s (fun u =>
         (taskSt u k).job = none ∧ (taskSt u k).misses = min 65535 ((taskSt s k).misses + 1))) ∧
     (j.deadline = none ∨ j.missed = true → GivesSettled [.sch, .trd] (.jobDone init t p (BitVec.ofNat 32 k)) s (fun u =>
       (taskSt u k).job = none ∧ (taskSt u k).misses = (taskSt s k).misses)) ∧
     (∀ m, m < 512 → m ≠ k → exec (.jobDone init t p (BitVec.ofNat 32 m)) s =
       .next { settle s.begin with pending := s.pending }))) ∧
  (∀ (s : State) (k : Nat) (x : Task) (j : Job), k < 256 → taskAt s k = some x →
   (taskSt s k).job = some j → s.sup.quenchSince = none →
   (∀ d, j.deadline = some d → j.missed = false → d < s.clk.now →
     GivesSettled [.sch, .grn, .mod, .sup, .fio, .culm] (.deadlineMiss k) s (fun u =>
       (taskSt u k).misses = min 65535 ((taskSt s k).misses + 1) ∧ (taskSt u k).consec = min 15 ((taskSt s k).consec + 1) ∧
       (taskSt u k).job = some { j with missed := true } ∧ bitOf u.sch.err.status 0 = true ∧
       (x.action = 1 → x.missLimit ≤ min 15 ((taskSt s k).consec + 1) → s.mod.mode.released = true →
         s.mod.mode ≠ .shutdown → u.mod.mode = .safe) ∧
       (x.action ≠ 1 → u.mod = s.mod))) ∧
   (∀ d, j.deadline = some d → s.clk.now ≤ d ∨ j.missed = true →
     exec (.deadlineMiss k) s = .next { settle s.begin with pending := s.pending }) ∧
   (pastWcet x j = true → j.overrun = false → x.inst / 4 < s.sch.triads.length →
     GivesSettled [.sch, .grn] (.budgetOverrun k) s (fun u => bitOf u.sch.err.status 1 = true ∧
       (schTri u (x.inst / 4)).gate = 0 ∧ ∃ j', (taskSt u k).job = some j' ∧ j'.overrun = true)))

/-- R163, R164: a sensor sample: TMAX is the highest reading; a reading outside −55 °C to 150 °C faults its sensor, and
the headroom is then 0; two samples in a row at 127 °C or above trip the module to SAFE, and none does below 123 °C; the
shed conditions are entered at their thresholds; a dwell that has passed ends its condition. Commands it shows to
complete: sensorSample, shedEnd. Clauses that rest on a reading or choice of the model: log 99. -/
def Obligations.SheddingAndTrip : Prop := ∀ (s : State), s.mod.mode.released = true → s.sup.quenchSince = none →
  s.sch.faulted.length = 8 →
  (∀ v : Int, -220 ≤ v → v < 492 → s.sch.faulted = List.replicate 8 false →
    let q := List.replicate 8 v
    GivesSettled [.sch, .trd, .grn] (.sensorSample q) s (fun u => u.sch.temp = q ∧ u.sch.tmax = v ∧
      u.sch.headroom = (440 - v).toNat / 4 ∧ u.sch.hot = false ∧ u.sch.err = s.sch.err ∧
      (440 - v < 4 * (thermCfg s 0 : Int) → u.sch.thermBg.on = true) ∧
      (440 - v < 4 * (thermCfg s 1 : Int) → u.sch.thermSvc.on = true ∧ u.sch.level = 2))) ∧
  (∀ v : Int, 508 ≤ v → v ≤ 600 → s.mod.mode = .run → s.sch.hot = true → s.sch.tripped = false →
    nth s.sch.faulted 0 true = false →
    GivesSettled [.sch, .trd, .grn, .mod, .sup, .fio, .culm] (.sensorSample (List.replicate 8 v)) s (fun u =>
      u.mod.mode = .safe ∧ bitOf u.sch.err.status 2 = true)) ∧
  (∀ k, k < 8 → nth s.sch.faulted k true = false →
    GivesSettled [.sch, .trd, .grn] (.sensorSample ((List.replicate 8 (200 : Int)).set k (-221))) s (fun u =>
      u.sch.faulted = s.sch.faulted.set k true ∧ u.sch.tmax = 440 ∧ u.sch.headroom = 0 ∧ bitOf u.sch.err.status 3 = true ∧
      u.mod = s.mod)) ∧
  (∀ t0, s.sch.thermBg = { on := true, clearSince := some t0 } → t0 + 99900000 ≤ s.clk.now → s.sch.thermSvc.on = false →
    s.sch.braceHold = false → s.sch.energySvc.on = false → s.sch.energyBg.on = false →
    GivesSettled [.sch, .trd, .grn] (.shedEnd 1) s (fun u => u.sch.thermBg = {} ∧ u.sch.level = 0)) ∧
  (∀ t0, s.sch.energySvc = { on := true, clearSince := some t0 } → t0 + 9900000 ≤ s.clk.now → s.sch.energyBg.on = false →
    s.sch.braceHold = false → s.sch.thermSvc.on = false → s.sch.thermBg.on = false →
    GivesSettled [.sch, .trd, .grn] (.shedEnd 2) s (fun u => u.sch.energySvc = {} ∧ u.sch.level = 0)) ∧
  (s.sch.braceHold = true → s.sch.brace = false → s.sch.thermSvc.on = false → s.sch.thermBg.on = false →
    s.sch.energySvc.on = false → s.sch.energyBg.on = false →
    GivesSettled [.sch, .trd, .grn] (.shedEnd 3) s (fun u => u.sch.braceHold = false ∧ u.sch.level = 0))

/-! ## Vyfabin (09), the hub and its guardian (10) -/

/-- R205, R206, R207, R227, R231: once a cycle an origin sends an ear frame, with the header of its cycle, mode and
instant, from each linked port; a middle module passes an ear frame on through its other port and a far end turns it
back, after 800 ns, an origin drops it; a frame with a bad FCS leaves with its FCS inverted and is counted, one that is
no ear frame is counted and dropped. A module that is not SYNCED writes no slot. R211, R226 to R229, R231: a header that
is not sound, or comes on a port without link or a channel declared failed, changes nothing; a LISTENING module takes a
sound header of its own schedule and is INTEGRATING with that origin, and one of another schedule raises SCHED once; a
starter gives way to a lower origin and not to a higher one; a SYNCED origin gives way to a lower one. Commands it shows
to complete: earFrameForward, earFrameReceive, earFrameSend. Clauses that rest on a reading or choice of the model: log
119, 120, 124. -/
def Obligations.EarFramesSentForwardedReceived : Prop :=
  (∀ (s : State), s.sup.quenchSince = none →
   (s.vyf.origin = true → s.vyf.state = 2 ∨ s.vyf.state = 4 → s.vyf.pend = none → s.vyf.sentMark ≠ s.cyc.cycle + 1 →
     afterT0 s (modeNow s).earOffset = true → s.cyc.cycle < 2 ^ 64 → s.vyf.mode < 4 →
     GivesOnly [.vyf, .fab, .grn, .eng] .earFrameSend s (fun t => t.vyf.sentMark = s.cyc.cycle + 1 ∧ t.vyf.ann = none ∧
       t.vyf.next = s.vyf.ann.getD s.vyf.mode ∧ t.vyf.switch = s.vyf.ann.isSome ∧
       (∀ port, port < 4 → ((∃ b, Out.frame port b ∈ t.out) ↔ (vch s (port / 2)).link (port % 2) = true)) ∧
       (∀ port b, Out.frame port b ∈ t.out → isEar (port / 2) b = true ∧ (earHdr b).sound = true ∧
         (earHdr b).cycle = s.cyc.cycle ∧ (earHdr b).mode = s.vyf.mode ∧ (earHdr b).kind = (if s.vyf.normal then 1 else 2)))) ∧
   (∀ port b ok, port < 4 → s.mod.mode.released = true →
     let ch := port / 2
     let p := port % 2
     let c := vch s ch
     let fcs := if ok then etherFcs b else (etherFcs b).map (fun x => ~~~x)
     let bad := fun (t : State) => (vch t ch).fcs = (if ok then c.fcs else min 4095 (c.fcs + 1))
     c.relay = false → c.link p = true →
     (isEar ch b = false → GivesOnly [.vyf, .eng] (.earFrameForward port b ok) s (fun t => t.out = [] ∧
       (vch t ch).foreign = min 255 (c.foreign + 1) ∧ vch t (1 - ch) = vch s (1 - ch))) ∧
     (isEar ch b = true → s.vyf.origin = true → GivesOnly [.vyf, .eng] (.earFrameForward port b ok) s (fun t =>
       t.out = [] ∧ bad t)) ∧
     (isEar ch b = true → s.vyf.origin = false → mayWrite s (beAt b 15 1) = false →
       (c.both = true → c.fwd ≠ some (beAt b 38 2, beAt b 18 8) ∨ c.up = some p → GivesOnly [.vyf, .eng] (.earFrameForward port b ok) s (fun t =>
         t.out = [.frame (2 * ch + (1 - p)) (b ++ fcs)] ∧ bad t ∧ (vch t ch).up = some p ∧
         (vch t ch).wrote = some (s.clk.tb + 800))) ∧
       (c.both = true → c.fwd = some (beAt b 38 2, beAt b 18 8) → c.up ≠ some p →
         GivesOnly [.vyf, .eng] (.earFrameForward port b ok) s (fun t =>
           t.out = [.frame (2 * ch + (1 - p)) (b ++ fcs)] ∧ bad t ∧ (vch t ch).wrote = c.wrote)) ∧
       (c.both = false → GivesOnly [.vyf, .eng] (.earFrameForward port b ok) s (fun t =>
         t.out = [.frame port (b ++ fcs)] ∧ bad t ∧ (vch t ch).up = some p))) ∧
     (isEar ch b = true → s.vyf.origin = false → mayWrite s (beAt b 15 1) = true →
       GivesOnly [.vyf, .fab, .grn, .eng] (.earFrameForward port b ok) s (fun t => ∃ b', t.out =
         [.frame (2 * ch + (if c.both then 1 - p else p)) (b' ++ if ok then etherFcs b' else (etherFcs b').map (fun x => ~~~x))] ∧
         bad t))) ∧
   (∀ port b ok, port < 4 → ((vch s (port / 2)).relay = true ∨ (vch s (port / 2)).link (port % 2) = false) →
     exec (.earFrameForward port b ok) s = .next s.begin)) ∧
  (∀ (s : State) (port rx : Nat) (b : List Byte), port < 4 →
   let ch := port / 2
   let h := earHdr b
   let same := h.sched = (lkAt s 5 0x3C).toNat
   let joined := fun (t : State) => t.vyf.state = 3 ∧ t.vyf.step = 0 ∧ t.vyf.origin = false ∧ t.vyf.normal = false ∧
     t.vyf.originId = h.id ∧ t.vyf.hdrCycle = h.cycle ∧ t.vyf.hdrAt = s.clk.now ∧ t.vyf.listenSince = none ∧
     t.vyf.pend = none ∧ t.vyf.reqOn = false ∧ (vch t ch).hdrNow = true
   let joins := Gives (.earFrameReceive port rx false b) s joined ∧ (s.fab.map = [] → s.pair.role = 0 →
     GivesOnly [.vyf, .fab, .grn, .glm, .eng] (.earFrameReceive port rx false b) s joined)
   (vyfRuns s = false ∨ (vch s ch).link (port % 2) = false ∨ isEar ch b = false ∨ h.sound = false ∨
       (vch s ch).failed = true →
     exec (.earFrameReceive port rx false b) s = .next s.begin) ∧
   (vyfRuns s = true → (vch s ch).link (port % 2) = true → isEar ch b = true → h.sound = true → (vch s ch).failed = false →
     (s.vyf.state = 1 → same → joins) ∧
     (s.vyf.state = 1 → ¬ same → s.vyf.schedRaised = false → s.sup.quenchSince = none →
       GivesOnly [.vyf, .grn, .eng] (.earFrameReceive port rx false b) s (fun t =>
         bitOf t.vyf.err.status 2 = true ∧ t.vyf.state = 1 ∧ t.vyf.schedRaised = true)) ∧
     (¬ same → s.vyf.state ≠ 1 ∨ s.vyf.schedRaised = true → exec (.earFrameReceive port rx false b) s = .next s.begin) ∧
     (s.vyf.state = 2 → same → h.id < ownHubId s → joins) ∧
     (s.vyf.state = 2 → same → ownHubId s < h.id → exec (.earFrameReceive port rx false b) s = .next s.begin) ∧
     (s.vyf.state = 3 → same → h.id < s.vyf.originId → joins) ∧
     (s.vyf.state = 4 → same → s.vyf.origin = true → ownHubId s < h.id →
       exec (.earFrameReceive port rx false b) s = .next s.begin) ∧
     (s.vyf.state = 4 → same → s.vyf.origin = true → h.id < ownHubId s → Gives (.earFrameReceive port rx false b) s (fun t =>
       t.vyf.origin = false ∧ t.vyf.originId = h.id ∧ t.vyf.state = if hdrExpected s ch rx h = true then 4 else 3)) ∧
     (s.vyf.state = 4 → same → s.vyf.origin = false → hdrExpected s ch rx h = true →
       s.vyf.chA.hdrNow = false → s.vyf.chB.hdrNow = false → Gives (.earFrameReceive port rx false b) s (fun t =>
         t.vyf.state = 4 ∧ t.vyf.originId = h.id ∧ t.vyf.hdrCycle = h.cycle ∧ (vch t ch).hdrNow = true ∧
         t.vyf.next = h.next ∧ t.vyf.switch = h.switch))))

/-- R204, R217, R226, R227, R231, R232, R234: the listen time ends in a cold start, the module the origin at the
always-on time, where it may cold-start, and in a new listen time elsewhere; a SYNCED end that has lost its up port and
a whole cycle of headers takes over as origin; two cycles without a header are rung 5, LOST, and the module listens; a
link change of a port is taken up, and a loss raises LINK. R218, R220: a request for a mode of the image that is
permitted and not in force is taken by a SYNCED module, and any other is refused with RESULT 7; sixteen cycles without a
SWITCH refuse it with RESULT 6. R221: the fault-tolerant midpoint. With four values or more, no single one of them,
whatever it is, takes the correction outside the range of the others. Commands it shows to complete: vyfModeReq,
backboneLinkChange, modeRequestTimeout, listenTimeout, originTakeover, syncLost. Clauses that rest on a reading or
choice of the model: log 43, 44, 122, 123. -/
def Obligations.VyfStatesModesAndClock : Prop :=
  (∀ (s : State), s.sup.quenchSince = none →
   (∀ t0, s.vyf.state = 1 → s.vyf.listenSince = some t0 → t0 + 2 * periodMax s + 1100000 + s.vyf.listenExtra ≤ s.clk.now →
     (coldEnable s = true → (s.vyf.chA.both && s.vyf.chB.both) = false → s.mod.mode ≠ .shutdown →
       GivesOnly [.vyf, .clk, .cyc, .awn, .hub, .fab] .listenTimeout s (fun t => t.vyf.state = 2 ∧ t.vyf.origin = true ∧
         t.vyf.normal = false ∧ t.vyf.originId = ownHubId s ∧ t.clk.tb = rtcTime s ∧ t.clk.tbSet = true ∧
         (s.cyc.begun = false → t.vyf.mode = initialMode s))) ∧
     (coldEnable s = false ∨ (s.vyf.chA.both && s.vyf.chB.both) = true → GivesOnly [.vyf, .fab] .listenTimeout s (fun t =>
       t.vyf.state = 1 ∧ t.vyf.listenSince = some s.clk.now ∧ t.vyf.origin = false))) ∧
   (s.vyf.state = 4 → s.vyf.origin = false → coldEnable s = true → lostUp s = true → 1 ≤ s.vyf.missed →
     s.mod.mode ≠ .shutdown → GivesOnly [.vyf, .fab, .grn] .originTakeover s (fun t => t.vyf.origin = true ∧
       t.vyf.normal = true ∧ t.vyf.originId = ownHubId s ∧ t.vyf.state = 4 ∧ t.fab.map = s.fab.map)) ∧
   (s.vyf.state = 4 → 2 ≤ s.vyf.missed → GivesOnly [.vyf, .grn, .glm, .cyc, .fab] .syncLost s (fun t => t.vyf.state = 1 ∧
     t.vyf.listenSince = some s.clk.now ∧ t.vyf.origin = false ∧ bitOf t.vyf.err.status 0 = true ∧
     (∀ c, c < s.img.conns.length → (connEnt s c).transport = 1 → (connAt t c).state ≠ 3))) ∧
   (s.vyf.state = 4 → s.vyf.missed < 2 → exec .syncLost s = .next s.begin) ∧
   (∀ port up, port < 4 → s.mod.mode.released = true → (vch s (port / 2)).relay = false →
     (vch s (port / 2)).link (port % 2) ≠ up → GivesOnly [.vyf, .fab, .grn] (.backboneLinkChange port up) s (fun t =>
       (vch t (port / 2)).link (port % 2) = up ∧ (vch t (port / 2)).link (1 - port % 2) = (vch s (port / 2)).link (1 - port % 2) ∧
       t.fab = { s.fab with changed := true } ∧ (up = false → bitOf t.vyf.err.status 5 = true)))) ∧
  (∀ (s : State), s.sup.quenchSince = none →
   (∀ init v, init < 64 → bitOf v 31 = true → init = 0x2B ∨ isVoter s init = true →
     let m := fieldOf v 1 0
     (s.vyf.state = 4 → m < s.img.modes.length → modePermitted s m = true → m ≠ s.vyf.mode →
       exec (.vyfModeReq init v) s = .next { s.begin with vyf := { s.vyf with
         reqMode := m, reqOn := false, reqCycles := 0, reqResult := 1, reqSince := some s.clk.now } }) ∧
     (s.vyf.state ≠ 4 ∨ s.img.modes.length ≤ m ∨ modePermitted s m = false ∨ m = s.vyf.mode →
       GivesOnly [.vyf, .grn] (.vyfModeReq init v) s (fun t => t.vyf.reqResult = 7 ∧ t.vyf.reqOn = false ∧
         t.vyf.reqSince = none ∧ bitOf t.vyf.err.status 6 = true ∧ t.vyf.mode = s.vyf.mode))) ∧
   (∀ init v, init < 64 → (bitOf v 31 = false ∨ (init ≠ 0x2B ∧ isVoter s init = false)) →
     exec (.vyfModeReq init v) s = .next s.begin) ∧
   (s.vyf.reqOn = true → s.vyf.reqResult = 1 → 16 ≤ s.vyf.reqCycles →
     GivesOnly [.vyf, .grn] .modeRequestTimeout s (fun t => t.vyf.reqResult = 6 ∧ t.vyf.reqOn = false ∧
       bitOf t.vyf.err.status 6 = true ∧ t.vyf.mode = s.vyf.mode))) ∧
  (∀ (s : State) (i : Nat) (lo hi : Int),
   let v := (0 : Int) :: s.vyf.taken.filterMap (clockDelta s)
   4 ≤ v.length → (∀ j x, v[j]? = some x → j ≠ i → lo ≤ x ∧ x ≤ hi) → lo ≤ -(clockCorr s).1 ∧ -(clockCorr s).1 ≤ hi)

/-- R235, R236, R242, R247: a beacon leaves each port in service once a cycle; a TX slot sends the body committed to its
buffer 2 µs before it at the latest; the enable of a port of HUB_PORTS is written by a voter or the security engine, and
a fall drops what the port holds; a lost link raises LINK; the accepted frame of a window that has closed is handed to
the offload. R238 to R241: the guardian. A frame whole inside its window is counted and kept for the offload; one that
starts outside every window is EARLY or BABBLE; a violation counts in CONSEC once a cycle, and the third in a row blocks
the port; grace ends; a blocked port reopens after eight clean cycles. Commands it shows to complete: hubTxSlot,
hubFrameReceive, hubRxWindowClose, portReopen, hubPortEnableWrite, hubLinkChange, beaconSend, guardianGraceEnd. Clauses
that rest on a reading or choice of the model: log 128, 129. -/
def Obligations.HubSendsAndGuardianJudges : Prop :=
  (∀ (s : State), s.sup.quenchSince = none →
   (afterT0 s (fieldOf (lkAt s 6 0x20) 25 0) = true → s.hub.did.contains 4096 = false → s.img.hubBufs ≠ [] →
     s.mod.mode ≠ .shutdown → GivesOnly [.hub, .eng] .beaconSend s (fun t =>
       t.hub = { s.hub with did := s.hub.did ++ [4096] } ∧
       t.out = ((List.range 8).filter (inService s)).map (fun p =>
         Out.frame (0x10 + p) (etherFrame s 0x035946520020 (beaconBody s p))))) ∧
   (∀ d x, d < 4096 → slotDesc s d = some x → x.kind = 2 → afterT0 s x.offset = true → s.hub.did.contains d = false →
     GivesOnly [.hub, .eng] (.hubTxSlot d) s (fun t => t.hub = { s.hub with did := s.hub.did ++ [d] } ∧
       (∀ b, inService s x.port = true → txBody s x.buffer (s.cyc.t0 + x.offset - 2000) = some b →
         t.out = [.frame (0x10 + x.port) (etherFrame s 0x035946520041 b), .outcome 6 x.port 0]) ∧
       (inService s x.port = false ∨ txBody s x.buffer (s.cyc.t0 + x.offset - 2000) = none → t.out = []))) ∧
   (∀ d x, d < 4096 → slotDesc s d = some x → afterT0 s (x.offset + x.length + 1000) = true →
     GivesOnly [.hub, .glm, .eng] (.hubRxWindowClose d) s (fun t =>
       t.hub = { s.hub with rx := s.hub.rx.filter (fun e => e.1 ≠ d) } ∧ t.glm = { s.glm with inbox := t.glm.inbox } ∧
       (∀ e, s.hub.rx.filter (fun e => e.1 = d) = [e] → t.out = [.outcome 6 x.port 0] ∧
         t.glm.inbox = s.glm.inbox ++ (hubMessages e.2).map (fun m => (2, x.port, m))) ∧
       (s.hub.rx.filter (fun e => e.1 = d) = [] → t.out = [] ∧ t.glm = s.glm))) ∧
   (∀ init p, init < 64 → p < 8 → p < s.hub.ports.length → hubUsed s p = true → init = 0x2B ∨ isVoter s init = true →
     ((s.hubPort p).en = false → (s.hubPort p).active = false → GivesOnly [.hub, .eng] (.hubPortEnableWrite init p 1) s (fun t =>
       t.hubPort p = { s.hubPort p with en := true, active := true } ∧ ∀ q, q ≠ p → t.hubPort q = s.hubPort q)) ∧
     ((s.hubPort p).en = true → GivesOnly [.hub, .glm, .cyc, .grn, .eng] (.hubPortEnableWrite init p 0) s (fun t =>
       (t.hubPort p).en = false ∧ (t.hubPort p).active = (s.hubPort p).active ∧ (∀ q, q ≠ p → t.hubPort q = s.hubPort q) ∧
       (∀ e ∈ t.hub.tx, (nth s.img.hubBufs e.1 (0, 0)).2 ≠ p)))) ∧
   (∀ init p v, init < 64 → p < 8 → hubUsed s p = false ∨ (init ≠ 0x2B ∧ isVoter s init = false) →
     exec (.hubPortEnableWrite init p v) s = .next s.begin) ∧
   (∀ p up, p < 8 → p < s.hub.ports.length → s.mod.mode.released = true →
     GivesOnly [.hub, .glm, .cyc, .grn] (.hubLinkChange p up) s (fun t => t.hubPort p = { s.hubPort p with link := up } ∧
       (∀ q, q ≠ p → t.hubPort q = s.hubPort q) ∧
       ((s.hubPort p).link = true → up = false → bitOf t.hub.err.status 6 = true)))) ∧
  (∀ (s : State) (p : Nat), p < 8 → p < s.hub.ports.length → s.sup.quenchSince = none →
   inService s p = true → s.cyc.begun = true →
   let x := s.hubPort p
   (∀ f d w, f.wf = true → (rxWindows s p).find? (fun e => decide (e.2.opens ≤ f.start ∧ f.start < e.2.closes)) = some (d, w) →
     f.stop ≤ w.closes → f.len ≤ w.bytes → f.overAt = none → f.fcsOk = true → s.hub.used.any (fun e => decide (e.1 = d)) = false →
     x.blocked = false → GivesOnly [.hub, .eng] (.hubFrameReceive p f) s (fun t => t.hub.rx = s.hub.rx ++ [(d, f.body)] ∧
       t.hubPort p = { x with frames := (x.frames + 1) % 2 ^ 32, lastRx := f.start - (w.offset : Int) } ∧
       t.hub.err = s.hub.err)) ∧
   (∀ f, f.wf = true → (rxWindows s p).all (fun e => decide (f.stop < e.2.opens ∨ e.2.closes ≤ f.start)) = true →
     (∀ e ∈ rxWindows s p, e.2.opens < e.2.closes) →
     GivesOnly [.hub, .glm, .cyc, .grn, .eng] (.hubFrameReceive p f) s (fun t => bitOf t.hub.err.status 2 = true ∧
       (t.hubPort p).babble = min 65535 (x.babble + 1) ∧ t.hub.rx = s.hub.rx ∧ (t.hubPort p).violNow = true ∧
       (x.violNow = false → x.blocked = false → hubGraced s = false → (t.hubPort p).consec = x.consec + 1 ∧
         (t.hubPort p).blocked = decide (3 ≤ x.consec + 1) ∧ (3 ≤ x.consec + 1 → bitOf t.hub.err.status 4 = true)) ∧
       (x.violNow = true ∨ hubGraced s = true → (t.hubPort p).consec = x.consec ∧ (t.hubPort p).blocked = x.blocked))) ∧
   (s.hub.graceDue = true → exec .guardianGraceEnd s =
     .next { s.begin with hub := { s.hub with grace := 0, graceDue := false } }) ∧
   (x.blocked = true → x.clean = 8 → GivesOnly [.hub, .grn] (.portReopen p) s (fun t =>
     t.hubPort p = { x with blocked := false, consec := 0, clean := 0 } ∧ ∀ q, q ≠ p → t.hubPort q = s.hubPort q)) ∧
   (x.blocked = true → x.clean < 8 → exec (.portReopen p) s = .next s.begin))

/-! ## The train fabric (11) -/

/-- R259, R261, R263, R264: an origin with link on both ports of a channel for 4 cycles yields. An OPEN that an
aperiodic slot has brought is answered with CLOSE by a module that is no target, or whose four sessions are taken, and
else opens a stream; a CLOSE ends it, its session with it, and the TCP connection at the gateway, which is reset unless
the reason is NORMAL; a message for another module, or one that no slot has brought, opens and closes nothing. A
connection to a train port of the gateway opens a stream and sends OPEN; a fifth stream and an unknown address are
refused with a reset. R262, R264: data at the expected offset is taken, data already held is trimmed, data beyond is
dropped, and a gateway gives the new bytes out; ACK frees what was sent; four owned slots without an advance send again
from the start; data outstanding for 10 s without progress closes the stream with STREAM, and 600 s without data closes
it. Commands it shows to complete: openMsg, dataMsg, closeMsg, relayConnect, streamResend, streamAckTimeout,
streamIdleTimeout, originYield. Clauses that rest on a reading or choice of the model: log 73, 127, 129, 206. -/
def Obligations.TrainStreamsOpenCarryClose : Prop :=
  (∀ (s : State),
   let taken := fun (m : List Byte) => ({ s.begin with fab := { s.fab with inbox := s.fab.inbox.erase m } } : State)
   (s.vyf.state = 4 → s.vyf.origin = true → 4 ≤ s.fab.twoPorts → s.fab.yieldLeft = 0 →
     exec .originYield s = .next { s.begin with fab := { s.fab with yieldLeft := 3, commitNext := false } }) ∧
   (∀ src dst n, src < 256 → dst < 256 → n < 65536 →
     (∀ m, s.fab.inbox.find? (fun m => aperIs m dst src 1 0 n) = some m →
       let opens := fun (u : State) => GivesOnly [.fab, .eng] (.openMsg src dst n) s (fun t => t.fab = u.fab ∧ t.out = [])
       (msgForMe s src dst = true → servedHere s src n = false →
         (s.img.target = false → opens (pushMsg (aperMsg src dst 3 4 n 0 0 []) (taken m))) ∧
         (s.img.target = true → 4 ≤ streamCount s false → opens (pushMsg (aperMsg src dst 3 1 n 0 0 []) (taken m))) ∧
         (s.img.target = true → streamCount s false < 4 → opens { taken m with
           fab := { (taken m).fab with streams := s.fab.streams ++ [newStream false src dst n 0 s.clk.now] } })) ∧
       (msgForMe s src dst = false ∨ servedHere s src n = true → opens (taken m))) ∧
     (∀ m x r, r < 256 → s.fab.inbox.find? (fun m => aperIs m dst src 3 r n) = some m → msgForMe s src dst = true →
       streamWith s src n = some x → GivesOnly [.fab, .sec, .eng] (.closeMsg src dst n r) s (fun t =>
         t.fab = { (taken m).fab with streams := s.fab.streams.filter (fun y => !y.same x) } ∧
         t.out = [.outcome 5 n (if r = 0 then 0 else if r = 2 then 2 else 1)] ++
           (if x.gateway then [.tcp x.tcp n (decide (r ≠ 0))] else []) ∧
         (∀ y ∈ t.sec.sessions, x.gateway = false →
           s.sec.sessions.find? (fun z => decide (z.stream = some (x.gw, x.num))) ≠ some y))) ∧
     (∀ m r, r < 256 → s.fab.inbox.find? (fun m => aperIs m dst src 3 r n) = some m →
       msgForMe s src dst = false ∨ streamWith s src n = none →
       GivesOnly [.fab, .eng] (.closeMsg src dst n r) s (fun t => t.fab = (taken m).fab ∧ t.out = [])) ∧
     (s.fab.inbox.find? (fun m => aperIs m dst src 1 0 n) = none → exec (.openMsg src dst n) s = .next s.begin) ∧
     (∀ r, r < 256 → s.fab.inbox.find? (fun m => aperIs m dst src 3 r n) = none →
       exec (.closeMsg src dst n r) s = .next s.begin)) ∧
   (∀ port, 5000 ≤ port → port ≤ 5063 → s.img.gateway = true → s.sec.portClosed = false →
     (port - 5000 ≠ s.fab.addr → port - 5000 < s.fab.map.length → s.fab.addr ≠ 255 →
       (streamCount s true < 4 →
         let n := freeStream s s.fab.nextStream 8
         GivesOnly [.fab, .eng] (.relayConnect port) s (fun t => t.out = [] ∧
           t.fab = (pushMsg (aperMsg (port - 5000) s.fab.addr 1 0 n 0 0 []) { s.begin with
             fab := { s.fab with
               nextStream := (n + 1) % 65536,
               streams := s.fab.streams ++ [newStream true s.fab.addr (port - 5000) n port s.clk.now] } }).fab) ∧
         s.fab.streams.any (fun x => x.gateway && decide (x.num = n)) = false) ∧
       (4 ≤ streamCount s true → GivesOnly [.eng] (.relayConnect port) s (fun t => t.out = [.tcp port 0 true]))) ∧
     (s.fab.addr = 255 ∨ s.fab.map.length ≤ port - 5000 →
       GivesOnly [.eng] (.relayConnect port) s (fun t => t.out = [.tcp port 0 true])) ∧
     (port - 5000 = s.fab.addr → s.fab.addr < s.fab.map.length → s.fab.addr ≠ 255 →
       exec (.relayConnect port) s = .next s.begin)) ∧
   (∀ port, port < 65536 → s.img.gateway = false ∨ port < 5000 ∨ 5063 < port →
     exec (.relayConnect port) s = .next s.begin)) ∧
  (∀ (s : State) (peer n : Nat) (x : Stream), peer < 256 → n < 65536 →
   streamWith s peer n = some x → s.fab.streams = [x] →
   (∀ dst off ack bytes m, dst < 256 → bytes.length < 65536 → msgForMe s peer dst = true →
     s.fab.inbox.find? (fun m => aperIs m dst peer 2 0 n && decide (beAt m 8 4 = off) && decide (beAt m 12 4 = ack) &&
       decide (slice m 16 (beAt m 6 2) = bytes)) = some m →
     bytes.length + 48 ≤ (modeNow s).rlen → x.rxNext < 2 ^ 32 → off < 2 ^ 32 → ack < 2 ^ 32 →
     GivesOnly [.fab, .eng] (.dataMsg peer dst n off ack bytes) s (fun t => t.fab.inbox = s.fab.inbox.erase m ∧ ∃ y,
       streamWith t peer n = some y ∧
       (off = x.rxNext → y.rxNext = (x.rxNext + bytes.length) % 2 ^ 32 ∧
         t.out = (if x.gateway && !bytes.isEmpty then [.frame 0x30 bytes] else [])) ∧
       (off ≤ x.rxNext → x.rxNext < off + bytes.length → y.rxNext = (off + bytes.length) % 2 ^ 32 ∧
         t.out = (if x.gateway then [.frame 0x30 (bytes.drop (x.rxNext - off))] else [])) ∧
       (x.rxNext < off → off < x.rxNext + 2 ^ 31 → y.rxNext = x.rxNext ∧ t.out = []) ∧
       (∀ k, 0 < k → k ≤ x.out → ack = (x.txBase + k) % 2 ^ 32 → x.out < 2 ^ 31 →
         y.txBase = x.txBase + k ∧ y.sent = x.sent - k ∧ y.out = x.out - k ∧ y.slots = 0 ∧
         y.unacked ++ y.queued = x.unacked.drop k ++ x.queued ∧ (x.unacked.length ≤ 4096 → y.unacked.length ≤ 4096)) ∧
       (ack = x.txBase % 2 ^ 32 → y.unacked = x.unacked ∧ y.sent = x.sent ∧ y.out = x.out))) ∧
   (4 ≤ x.slots → 0 < x.out → GivesOnly [.fab, .eng] (.streamResend peer n) s (fun t =>
     t.fab = { s.fab with streams := [{ x with sent := 0, slots := 0 }] } ∧ t.out = [])) ∧
   (x.slots < 4 ∨ x.out = 0 → exec (.streamResend peer n) s = .next s.begin) ∧
   (0 < x.out → x.ackSince + 10000000000 ≤ s.clk.now → s.sup.quenchSince = none →
     GivesOnly [.fab, .sec, .grn, .eng] (.streamAckTimeout peer n) s (fun t => t.fab.streams = [] ∧
       bitOf t.fab.err.status 4 = true ∧ t.fab.outbox = s.fab.outbox ++
         [(0, aperMsg peer s.fab.addr 3 2 n ((x.txBase + x.sent) % 2 ^ 32) (x.rxNext % 2 ^ 32) [])])) ∧
   (x.out = 0 → exec (.streamAckTimeout peer n) s = .next s.begin) ∧
   (x.dataSince + 600000000000 ≤ s.clk.now → GivesOnly [.fab, .sec, .eng] (.streamIdleTimeout peer n) s (fun t =>
     t.fab.streams = [] ∧ t.fab.outbox = s.fab.outbox ++
       [(0, aperMsg peer s.fab.addr 3 0 n ((x.txBase + x.sent) % 2 ^ 32) (x.rxNext % 2 ^ 32) [])])) ∧
   (s.clk.now < x.dataSince + 599000000000 → exec (.streamIdleTimeout peer n) s = .next s.begin))

/-! ## The pair (12) -/

/-- R269, R270, R272, R281: a report leaves once a cycle at its slot, with the module's role, FIT, state, reign and
cycle and a CRC over it; a STANDBY that wants a switchover names in it the cycle after next; an ACTIVE answers the
INTENT for the next cycle with RELEASE; a shadow block leaves at its own slot, from an ACTIVE that is not in SAFE or
SHUTDOWN. R271, R273, R277, R279, R280, R282: what a valid report does. It is kept, and ends rung 6; the first one names
the partner; a STANDBY or CANDIDATE takes a higher reign as its own and writes it into the pair record; a CANDIDATE
settles by the partner's role, then the reigns, then the hub IDs; a STANDBY takes over from a partner in SAFE; an ACTIVE
is fenced by an ACTIVE of a higher reign, or of its own and a lower hub ID, and raises its reign past that of a STANDBY.
A report that is not valid, or comes outside its window (from 1000 ns before a PAIR_RX slot to 1000 ns after it), is not
taken. Commands it shows to complete: pairTxSlot, pairReportReceive. Clauses that rest on a reading or choice of the
model: log 131, 132, 136, 137, 180. -/
def Obligations.PairReportsExchanged : Prop :=
  (∀ (s : State) (buf : Nat) (x : Slot), buf < 256 → pairTxSlot s buf = some x →
   s.pair.reign < 2 ^ 32 → s.cyc.cycle < 2 ^ 64 → s.pair.role < 4 → s.pair.role ≠ 0 → s.cyc.begun = true →
   (s.cyc.t0 + x.offset ≤ s.clk.now → s.pair.txDid.contains buf = false →
     (buf = 0 → GivesOnly [.pair, .eng] (.pairTxSlot buf) s (fun t => ∃ b,
       t.out = [.frame 0x20 (etherFrame s 0x035946520030 b)] ∧ b.length = 64 ∧ beAt b 0 1 = 1 ∧ beAt b 1 1 = 0x20 ∧
       beAt b 60 4 = crc32c (b.take 60) ∧ repRole b = s.pair.role ∧ repBit b 2 = pairFit s ∧
       repState b = kernelState s ∧ repReign b = s.pair.reign ∧ repCycle b = s.cyc.cycle ∧ repBit b 3 = s.pair.wants ∧
       (s.pair.wants = true → s.pair.intent = none →
         t.pair.intent = some (s.cyc.cycle + 2) ∧ repTake b = (s.cyc.cycle + 2) % 2 ^ 32) ∧
       (s.pair.role = 1 → s.pair.wants = false → s.mod.mode = .run ∨ s.mod.mode = .hold →
         s.pair.release = some ((s.cyc.cycle + 1) % 2 ^ 32) →
         repBit b 4 = true ∧ repTake b = (s.cyc.cycle + 1) % 2 ^ 32 ∧ t.pair.relSent = true) ∧
       (s.pair.role ≠ 1 ∨ (s.mod.mode ≠ .run ∧ s.mod.mode ≠ .hold) → repBit b 4 = false) ∧
       (repBlocks b = 0 ∨ repBlocks b = (pairBlocks s).length))) ∧
     (buf ≠ 0 → s.pair.role = 1 → s.mod.mode ≠ .safe → s.mod.mode ≠ .shutdown → (pairBlocks s).contains (buf - 1) = true →
       GivesOnly (if buf - 1 < 128 then [.pair, .eng] else [.pair, .eng, .rch, .grn]) (.pairTxSlot buf) s (fun t =>
         t.pair = { s.pair with txDid := s.pair.txDid ++ [buf] } ∧
         t.out = [.frame 0x20 (etherFrame s 0x035946520030 (shadowBody s (buf - 1)))])) ∧
     (buf ≠ 0 → (s.pair.role = 1 ∧ (s.mod.mode = .safe ∨ s.mod.mode = .shutdown)) ∨ s.pair.role = 2 →
       s.pair.released = false → GivesOnly [.pair, .eng] (.pairTxSlot buf) s (fun t =>
         t.pair = { s.pair with txDid := s.pair.txDid ++ [buf] } ∧ t.out = []))) ∧
   (s.clk.now < s.cyc.t0 + x.offset ∨ s.pair.txDid.contains buf = true → exec (.pairTxSlot buf) s = .next s.begin)) ∧
  (∀ (s : State) (b : List Byte) (x : Slot) (rx ry : PairRx),
   s.sup.quenchSince = none → s.cyc.begun = true → s.pair.role ≠ 0 → s.pair.role < 4 → b.length = 64 →
   x ∈ (modeNow s).slots → x.kind = 4 → (x.offset : Int) - 1000 ≤ rx.start → rx.start ≤ rx.stop →
   rx.stop ≤ (x.offset : Int) + x.length + 1000 → ry.start ≤ ry.stop →
   (∀ y ∈ (modeNow s).slots, y.kind = 4 →
     ry.start < (y.offset : Int) - 1000 ∨ (y.offset : Int) + y.length + 1000 < ry.stop) →
   let c : Instr := .pairReportReceive rx b
   let ok := beAt b 60 4 = crc32c (b.take 60) ∧ beAt b 0 1 = 1 ∧ beAt b 1 1 = 0x20 ∧ repCycle b = s.cyc.cycle
   (¬ ok → GivesOnly [.pair, .eng] c s (fun t => t.pair = { s.pair with phy := true })) ∧
   GivesOnly [.pair, .eng] (.pairReportReceive ry b) s (fun t =>
     t.pair = { s.pair with phy := true, dropped := min 65535 (s.pair.dropped + 1) }) ∧
   (ok → repVehicle b ≠ s.img.vehicleId → GivesOnly [.pair, .grn, .eng] c s (fun t => bitOf t.pair.err.status 6 = true ∧
     t.pair.report = s.pair.report ∧ t.pair.role = s.pair.role ∧ t.pair.reign = s.pair.reign)) ∧
   (ok → repVehicle b = s.img.vehicleId → GivesOnly [.pair, .mem, .fio, .grn, .eng] c s (fun t =>
     t.pair.report = some b ∧ t.pair.heard = true ∧ t.pair.silent = 0 ∧ t.pair.linkLost = false ∧
     t.pair.partner = (if s.pair.report.isNone then repHub b else s.pair.partner) ∧
     t.pair.partnerReign = max s.pair.partnerReign (repReign b) ∧
     (s.pair.role ≠ 1 → t.pair.role = s.pair.role ∧ t.pair.reign = max s.pair.reign (repReign b) ∧
       (repReign b ≤ s.pair.reign → t.mem = s.mem) ∧
       (s.pair.reign < repReign b → touchesBad s.mem.mramBad 0x100 128 = false →
         (∀ q, slot64 s 0x100 4 = some q → q < 2 ^ 32 - 1) → (∀ q, slot64 s 0x140 4 = some q → q < 2 ^ 32 - 1) →
         pairRecord t = some (repReign b))) ∧
     (s.pair.role = 2 → s.mod.mode ≠ .safe → repState b = 3 ∨ repState b = 4 → t.pair.takeover = some 2) ∧
     (s.pair.role = 2 → repBit b 4 = true → t.pair.release = some (repTake b)) ∧
     (s.pair.role = 3 → repRole b = 1 → t.pair.nextRole = some 2) ∧
     (s.pair.role = 3 → repRole b ≠ 1 → repReign b ≠ s.pair.reign →
       t.pair.nextRole = some (if repReign b < s.pair.reign then 1 else 2)) ∧
     (s.pair.role = 3 → repRole b ≠ 1 → repReign b = s.pair.reign → repHub b ≠ ownHubId s →
       t.pair.nextRole = some (if ownHubId s < repHub b then 1 else 2)) ∧
     (s.pair.role = 3 → repRole b ≠ 1 → repReign b = s.pair.reign → repHub b = ownHubId s → s.pair.draw = none →
       s.pair.nextRole = none → ∃ k, t.pair.draw = some k ∧ k < 64 ∧ t.pair.nextRole = none) ∧
     (s.pair.role = 1 → repRole b = 1 → s.pair.reign < repReign b ∨ (repReign b = s.pair.reign ∧ repHub b < ownHubId s) →
       t.pair.role = 2 ∧ bitOf t.pair.err.status 2 = true ∧ t.pair.pilOut = s.pair.pilOut) ∧
     (s.pair.role = 1 → repRole b = 1 → repReign b = s.pair.reign → repHub b = ownHubId s →
       t.pair.role = 3 ∧ bitOf t.pair.err.status 2 = true) ∧
     (s.pair.role = 1 → repRole b = 1 → repReign b < s.pair.reign ∨ (repReign b = s.pair.reign ∧ ownHubId s < repHub b) →
       t.pair.role = 1 ∧ t.pair.reign = s.pair.reign) ∧
     (s.pair.role = 1 → repRole b ≠ 1 → t.pair.role = 1 ∧ t.pair.reign = s.pair.reign ∧
       (s.pair.reign < repReign b → t.pair.takeover = some 4) ∧
       (repBit b 3 = true → t.pair.release = some (repTake b))))))

/-- R268, R271, R272, R273, R275, R277, R285: a shadow block of this cycle is kept, one whose CRC fails is not; the last
block that completes the shadow swaps it in; a change of PIL_IN counts as the partner acting; rung 6, three cycles
without a report, raises LINK, and PATH too where the partner acts; a candidate time that ends with no report draws, or
settles STANDBY where the partner acts; the draw's end makes the module ACTIVE at the next boundary, or STANDBY. R268,
R277 to R281, R283: PAIR_SWITCH of a FIT STANDBY of an ACTIVE begins a planned switchover, of a STANDBY that is not fit,
or of no STANDBY, raises SWREF, and another initiator's store is ignored. At a boundary a STANDBY with RELEASE for it
and the last shadow, one whose partner is in SAFE, and one whose partner is silent on every path take over: ACTIVE, a
reign past both and written, the shadow partition theirs; one whose partner still acts does not. Both modules having
published raises DUAL. Commands it shows to complete: shadowFrameReceive, pilInChange, pairSwitch, cycleBoundary,
candidateTimeout, candidateDrawEnd, pairLinkLost. Clauses that rest on a reading or choice of the model: log 41, 133,
134, 135, 136. -/
def Obligations.PairRolesAndTakeover : Prop :=
  (∀ (s : State), s.sup.quenchSince = none →
   (∀ b (x : Slot) (rx ry : PairRx), s.pair.role ≠ 0 → s.cyc.begun = true → b.length = 1060 →
     x ∈ (modeNow s).slots → x.kind = 4 → (x.offset : Int) - 1000 ≤ rx.start → rx.start ≤ rx.stop →
     rx.stop ≤ (x.offset : Int) + x.length + 1000 → ry.start ≤ ry.stop →
     (∀ y ∈ (modeNow s).slots, y.kind = 4 →
       ry.start < (y.offset : Int) - 1000 ∨ (y.offset : Int) + y.length + 1000 < ry.stop) →
     let ok := beAt b 1056 4 = crc32c (b.take 1056) ∧ beAt b 0 1 = 1 ∧ beAt b 1 1 = 0x21 ∧ beAt b 8 8 = s.cyc.cycle ∧
       beAt b 2 2 < 192
     (¬ ok → GivesOnly [.pair, .eng] (.shadowFrameReceive rx b) s (fun t => t.pair = { s.pair with phy := true })) ∧
     GivesOnly [.pair, .eng] (.shadowFrameReceive ry b) s (fun t =>
       t.pair = { s.pair with phy := true, dropped := min 65535 (s.pair.dropped + 1) }) ∧
     (ok → s.pair.heard = false → GivesOnly [.pair, .eng] (.shadowFrameReceive rx b) s (fun t =>
       (beAt b 2 2, beAt b 4 4, slice b 32 1024) ∈ t.pair.fill ∧ t.pair.shadow = s.pair.shadow ∧
       t.pair.role = s.pair.role ∧ t.pair.shadowNow = s.pair.shadowNow)) ∧
     (∀ r, ok → s.pair.heard = true → s.pair.report = some r → s.pair.shadowNow = false → s.pair.fill = [] →
       repBlocks r = 1 → beAt b 4 4 = repReign r →
       GivesOnly [.pair, .eng] (.shadowFrameReceive rx b) s (fun t =>
         if crc32c (slice b 32 1024) = repCheck r then t.pair.shadowNow = true ∧ t.pair.shadowPrev = s.pair.shadow ∧
           t.pair.shadow = some ⟨r, [(beAt b 2 2, slice b 32 1024)]⟩
         else t.pair.shadowNow = false ∧ t.pair.shadow = s.pair.shadow))) ∧
   (∀ l, (l ≠ s.pair.pilIn → GivesOnly [.pair] (.pilInChange l) s (fun t =>
       t.pair.pilIn = l ∧ t.pair.role = s.pair.role ∧ t.pair.pilOut = s.pair.pilOut ∧
       (s.pair.role ≠ 0 → t.pair.pilNow = true) ∧ (s.pair.role = 0 → t.pair.pilNow = s.pair.pilNow))) ∧
     (l = s.pair.pilIn → exec (.pilInChange l) s = .next s.begin)) ∧
   (s.pair.role ≠ 0 → s.pair.linkLost = false → 3 ≤ s.pair.silent → GivesOnly [.pair, .grn] .pairLinkLost s (fun t =>
     bitOf t.pair.err.status 0 = true ∧ t.pair.linkLost = true ∧ t.pair.role = s.pair.role ∧
     (s.pair.role = 2 → s.pair.pilAct = true ∨ s.pair.pilAct2 = true ∨ s.pair.pilNow = true → s.pair.pathRaised = false → bitOf t.pair.err.status 1 = true) ∧
     (s.pair.pilAct = false → s.pair.pilAct2 = false → s.pair.pilNow = false →
       bitOf t.pair.err.status 1 = bitOf s.pair.err.status 1))) ∧
   (s.pair.silent < 3 → exec .pairLinkLost s = .next s.begin) ∧
   (∀ t0, s.pair.role = 3 → s.pair.candSince = some t0 → s.pair.report = none →
     (t0 + 2100000000 ≤ s.clk.now → s.pair.pilAct = true → GivesOnly [.pair, .grn] .candidateTimeout s (fun t =>
       t.pair.role = 2 ∧ t.pair.candSince = none)) ∧
     (t0 + 2100000000 ≤ s.clk.now → s.pair.pilAct = false → s.pair.pilNow = false →
       GivesOnly [.pair] .candidateTimeout s (fun t => t.pair.role = 3 ∧ (∃ k, t.pair.draw = some k ∧ k < 64) ∧
         t.pair.candSince = none)) ∧
     (s.clk.now < t0 + 1900000000 → exec .candidateTimeout s = .next s.begin)) ∧
   (s.pair.role = 3 → s.pair.draw = some 0 → s.pair.nextRole = none →
     (s.pair.drawLost = false → exec .candidateDrawEnd s = .next { s.begin with
       pair := { s.pair with nextRole := some 1 } }) ∧
     (s.pair.drawLost = true → GivesOnly [.pair, .grn] .candidateDrawEnd s (fun t => t.pair.role = 2 ∧ t.pair.draw = none)))) ∧
  (∀ (s : State), s.sup.quenchSince = none →
   (∀ init v, init < 64 → bitOf v 0 = true → s.pair.wants = false →
     (init = 0x2B ∨ isVoter s init = true →
       (s.pair.role = 2 → s.pair.report.isSome = true → repRole (lastReport s) = 1 → pairFit s = true →
         exec (.pairSwitch init v) s = .next { s.begin with pair := { s.pair with
           wants := true, forExch := false, deferred := 0, switchRes := 1, intent := none } }) ∧
       (s.pair.role = 2 → s.pair.report.isSome = true → repRole (lastReport s) = 1 → pairFit s = false →
         GivesOnly [.pair, .grn] (.pairSwitch init v) s (fun t => t.pair.switchRes = 3 ∧ t.pair.wants = false ∧
           bitOf t.pair.err.status 7 = true ∧ t.pair.role = 2)) ∧
       (s.pair.role ≠ 2 ∨ repRole (lastReport s) ≠ 1 → GivesOnly [.pair, .grn] (.pairSwitch init v) s (fun t =>
         t.pair.switchRes = 4 ∧ t.pair.wants = false ∧ bitOf t.pair.err.status 7 = true ∧ t.pair.role = s.pair.role))) ∧
     (init ≠ 0x2B → isVoter s init = false → exec (.pairSwitch init v) s = .next s.begin)) ∧
   (∀ n, s.mod.mode.handed = true → s.cyc.nextT0 = some n → n ≤ s.clk.tb → s.img.modes = [] → vyfRuns s = false →
     s.cyc.begun = true → s.cyc.phase = 3 → s.mod.mode = .run → s.cyc.forceStop = false → s.pair.role = 2 →
     s.pair.released = false → s.img.awn = none → s.pair.reign < 2 ^ 32 - 1 → s.pair.partnerReign < 2 ^ 32 - 1 →
     ∀ x, s.pair.shadow = some x → x.blocks = [] →
     (s.pair.takeover = some 2 ∨
         (s.pair.takeover = none ∧ s.pair.wants = true ∧ s.pair.intent = some s.cyc.nextNum ∧ s.pair.shadowNow = true ∧
           s.pair.release = some (s.cyc.nextNum % 2 ^ 32)) ∨
         (s.pair.takeover = none ∧ s.pair.linkLost = true ∧ s.pair.pilNow = false ∧
           s.pair.pilAct = false) →
       Gives .cycleBoundary s (fun t => t.pair.role = 1 ∧ t.pair.reign = max s.pair.reign s.pair.partnerReign + 1 ∧
         t.pair.count = min 65535 (s.pair.count + 1) ∧ t.pair.takeLate = true ∧ t.pair.wants = false)) ∧
     (s.pair.takeover = none → s.pair.wants = false → s.pair.linkLost = false ∨ s.pair.pilNow = true ∨ s.pair.pilAct = true →
       Gives .cycleBoundary s (fun t => t.pair.role = 2 ∧ t.pair.reign = s.pair.reign))) ∧
   (∀ n, s.mod.mode.handed = true → s.cyc.nextT0 = some n → n ≤ s.clk.tb → s.img.modes = [] → vyfRuns s = false →
     s.cyc.begun = true → s.cyc.phase = 3 → s.mod.mode = .run → s.pair.role = 1 → s.pair.pubNow = true →
     s.pair.pilNow = true → Gives .cycleBoundary s (fun t => bitOf t.pair.err.status 3 = true ∧
       (s.pair.heard = false → t.pair.role = 3))))

/-! ## Glume (13) -/

/-- R288, R292, R293, R294, R295: a message that no carrier has handed over changes nothing; of one handed over, which
leaves the carrier, one that matches no connection is counted; one of a disabled connection is discarded; then format,
check value, reign, age and sequence are judged in this order, and the first that fails raises its error and sends a
connection in CONFIRM back to WAIT, but a repeat, which is counted; the third check failure in a row takes DATA to WAIT
with LOST. What passes is accepted: L is its sequence number, G does not fall, and with its count at CONFIRM the
connection is in DATA and the words stand ready for the freeze. R294, R295, R297: a connection in CONFIRM or DATA times
out when its last acceptance lies below C − TIMEOUT: WAIT, and LOST out of DATA; before, the command changes nothing.
The enable, written by a voter of a TRIAD-mode triad or the security engine, takes a used connection from CLOSED to
WAIT, and from any state to CLOSED, G kept; no other store changes it. Commands it shows to complete:
glumeMessageReceive, connectionTimeout, glmConnEnableWrite. Clauses that rest on a reading or choice of the model: log
129, 171. -/
def Obligations.GlumeConnectionsRun : Prop :=
  (∀ (s : State) (tr ix : Nat) (b : List Byte), s.sup.quenchSince = none →
   1 ≤ tr → tr ≤ 3 →
   let m : Instr := .glumeMessageReceive tr ix b
   let left := s.glm.inbox.erase (tr, ix, b)
   (s.glm.inbox.contains (tr, ix, b) = false → exec m s = .next s.begin) ∧
   (s.glm.inbox.contains (tr, ix, b) = true → glumeMatch s tr ix (beAt b 2 2 % 512) = none →
     GivesOnly [.glm, .eng] m s (fun t =>
       t.glm = { s.glm with inbox := left, unknown := min 0xFFFFFFFF (s.glm.unknown + 1) } ∧ t.out = [])) ∧
   (∀ c, s.glm.inbox.contains (tr, ix, b) = true → glumeMatch s tr ix (beAt b 2 2 % 512) = some c →
     let e := connEnt s c
     let x := connAt s c
     let n := 12 + 4 * e.rxWords
     let d := (s.cyc.cycle % 65536 + 65536 - beAt b 4 2) % 65536
     let q := (s.cyc.cycle + 2 ^ 32 - d) % 2 ^ 32
     let r := beAt b 8 4
     let good := beAt b n 4 = crcGlume (e.key.reverse ++ le 1 (1 - e.endNo) ++ [0] ++ be 2 (q / 65536) ++ b.take n)
     let late := ∃ l, x.last = some l ∧ (q < l ∨ e.seqGap < q - l)
     let twice := x.last = some q ∧ r = x.reign
     let fails := fun (bit : Nat) => GivesOnly [.glm, .grn, .eng] m s (fun t => bitOf t.glm.err.status bit = true ∧
       t.glm.inbox = left ∧
       (connAt t c).state = (if x.state = 2 then 1 else x.state) ∧ (connAt t c).reign = x.reign ∧
       (connAt t c).words = x.words ∧ ∀ k, k ≠ c → connAt t k = connAt s k)
     (x.en = false → GivesOnly [.glm, .eng] m s (fun t => t.glm = { s.glm with inbox := left } ∧ t.out = [.outcome 8 c 4])) ∧
     (x.en = true → glumeFormat e b = false → fails 1) ∧
     (x.en = true → glumeFormat e b = true →
       (¬ good → x.state ≠ 3 ∨ x.runCheck < 2 → fails 0) ∧
       (¬ good → x.state = 3 → 2 ≤ x.runCheck → GivesOnly [.glm, .grn, .cyc, .eng] m s (fun t =>
         bitOf t.glm.err.status 0 = true ∧ bitOf t.glm.err.status 5 = true ∧ (connAt t c).state = 1 ∧
         (connAt t c).last = none ∧ (connAt t c).reign = x.reign)) ∧
       (good → r < x.reign → fails 4) ∧
       (good → x.reign ≤ r → e.ageMax < d → fails 3) ∧
       (good → x.reign ≤ r → d ≤ e.ageMax → late → fails 2) ∧
       (good → x.reign ≤ r → d ≤ e.ageMax → ¬ late → twice → GivesOnly [.glm, .eng] m s (fun t => t.glm = { s.glm with
         inbox := left, conns := FMap.upd s.glm.conns {} c (fun y => { y with nRepeat := min 255 (y.nRepeat + 1) }) })) ∧
       (good → x.reign ≤ r → d ≤ e.ageMax → ¬ late → ¬ twice → GivesOnly [.glm, .grn, .eng] m s (fun t =>
         let y := connAt t c
         y.last = some q ∧ y.reign = r ∧ y.runCheck = 0 ∧ y.accCycle = s.cyc.cycle ∧
         y.peerReady = decide (beAt b 0 1 / 32 % 2 = 1) ∧ t.glm.err = s.glm.err ∧
         (∀ k, k ≠ c → connAt t k = connAt s k) ∧
         (let count := if x.state = 1 then 1 else x.confirmed + 1
          if x.state = 3 ∨ e.confirm ≤ count then
            y.state = 3 ∧ y.fresh = true ∧ y.words = (List.range e.rxWords).map (fun w => w32 (beAt b (12 + 4 * w) 4))
          else y.state = 2 ∧ y.confirmed = count ∧ y.words = x.words)))))) ∧
  (∀ (s : State) (c : Nat), c < 512 → s.sup.quenchSince = none →
   let x := connAt s c
   (2 ≤ x.state → x.accCycle + (connEnt s c).timeout < s.cyc.cycle → GivesOnly [.glm, .grn, .cyc] (.connectionTimeout c) s
     (fun t => (connAt t c).state = 1 ∧ (connAt t c).last = none ∧ (connAt t c).reign = x.reign ∧
       (∀ k, k ≠ c → connAt t k = connAt s k) ∧ (x.state = 3 → bitOf t.glm.err.status 5 = true) ∧
       (x.state = 2 → t.glm.err = s.glm.err))) ∧
   (x.state < 2 ∨ s.cyc.cycle ≤ x.accCycle + (connEnt s c).timeout →
     exec (.connectionTimeout c) s = .next s.begin) ∧
   (∀ init, init < 64 → (connEnt s c).used = true → init = 0x2B ∨ isVoter s init = true →
     (x.en = false → x.active = false → GivesOnly [.glm] (.glmConnEnableWrite init c 1) s (fun t =>
       connAt t c = { x with en := true, active := true, state := 1, last := none } ∧ ∀ k, k ≠ c → connAt t k = connAt s k)) ∧
     (x.en = true → GivesOnly [.glm, .grn, .cyc] (.glmConnEnableWrite init c 0) s (fun t =>
       (connAt t c).en = false ∧ (connAt t c).active = x.active ∧ (connAt t c).state = 0 ∧ (connAt t c).reign = x.reign ∧
       (connAt t c).last = x.last ∧
       (∀ k, k ≠ c → connAt t k = connAt s k) ∧ (x.state = 3 → bitOf t.glm.err.status 5 = true)))) ∧
   (∀ init v, init < 64 → (connEnt s c).used = false ∨ (init ≠ 0x2B ∧ isVoter s init = false) →
     exec (.glmConnEnableWrite init c v) s = .next s.begin))

/-! ## Safe field I/O (14) -/

/-- R304 to R308, R310, R319: a 100 µs sample. Each path is classified against its set, or by zone with WB; the lower
class counts; HIGH raises the value filter and LOW lowers it, UNDEF and BREAK raise the fault count; the value is 1 at
THRESH and 0 at 0; WBREAK at a full fault count, OVERV at the second sample above 36 V on a 24 V set, PATH, latched and
written, at the tenth that differs; the start-up test ends after THRESH LOW samples. An unused input changes nothing.
R319: a channel with feedback whose FBn has not shown the state its switch took latches FBK once FB_ON_MAX or FB_OFF_MAX
has passed (PULL_IN or WELDED), the switch off and the fault written; one whose FBn shows it does not; before, and
without feedback, the command changes nothing. Commands it shows to complete: inputSample, fbPullInTimeout,
fbDropOutTimeout. Clauses that rest on a reading or choice of the model: log 9, 30. -/
def Obligations.InputsAndFeedbackClassified : Prop :=
  (∀ (s : State) (i : Nat) (a b : Int), i < 40 → s.fio.on = true →
   s.fio.di.length = 40 → s.sup.quenchSince = none → s.img.fio = true → s.sup.lplusOk = true →
   (∀ j, j < 40 → j ≠ i → fieldOf (diCfg s j) 2 0 = 0) → (∀ n, n < 16 → fbOn s n = false) →
   let c : Instr := .inputSample ((List.replicate 40 ((0 : Int), (0 : Int))).set i (a, b)) (List.replicate 16 (0, 0))
   let d := s.din i
   let set := fieldOf (diCfg s i) 2 0
   let th := fieldOf (diCfg s i) 15 8
   let wb := bitOf (diCfg s i) 16
   let on : Nat → Int := fun k => match k with | 1 => 12500 | 4 => 47000 | 5 => 70000 | _ => 10500
   let onMin : Nat → Int := fun k => match k with | 1 => 11500 | 4 => 43000 | 5 => 64000 | _ => 9500
   let off : Nat → Int := fun k => match k with | 1 => 9500 | 4 => 28000 | 5 => 41000 | _ => 7500
   let offMax : Nat → Int := fun k => match k with | 1 => 10500 | 4 => 32000 | 5 => 47000 | _ => 8500
   let is : Int → Nat → Nat → Prop := fun v prev k =>
     (wb = false ∧ ((on set ≤ v ∧ k = 1) ∨ (v ≤ off set ∧ k = 0) ∨ (offMax set < v ∧ v < onMin set ∧ k = prev))) ∨
     (wb = true ∧ ((v < 2750 ∧ k = 3) ∨ (3250 ≤ v ∧ v < 4750 ∧ k = 2) ∨ (5250 ≤ v ∧ v < 10250 ∧ k = 0) ∨
       (10750 ≤ v ∧ v < 13750 ∧ k = 2) ∨ (14250 ≤ v ∧ k = 1)))
   (set = 0 → exec c s = .next s.begin) ∧
   (1 ≤ set → set ≤ 5 → 1 ≤ th → d.count ≤ th → d.fault ≤ th → d.high36 ≤ 2 → d.differ ≤ 10 → d.clsA < 4 → d.clsB < 4 →
     (∀ k, is a d.clsA k → is b d.clsB k → d.path = false →
       GivesOnly [.fio, .grn] c s (fun t => let e := t.din i
         e.cls = k ∧ e.differ = 0 ∧ e.path = false ∧
         e.count = (if k = 1 then min th (d.count + 1) else if k = 2 then d.count else d.count - 1) ∧
         e.fault = (if k = 2 ∨ k = 3 then min th (d.fault + 1) else d.fault - 1) ∧
         (e.count = th → e.value = true) ∧ (e.count = 0 → e.value = false) ∧
         (0 < e.count → e.count < th → e.value = d.value) ∧
         (e.fault = th → e.broken = true ∧ (d.broken = false → bitOf t.fio.err.status 5 = true)) ∧ (e.fault = 0 → e.broken = false) ∧
         (0 < e.fault → e.fault < th → e.broken = d.broken) ∧
         (set ≤ 3 → 36000 < a → 1 ≤ d.high36 → e.overv = true ∧ (d.overv = false → bitOf t.fio.err.status 7 = true)) ∧
         (d.overv = false → a ≤ 36000 → b ≤ 36000 → e.overv = false) ∧
         (k = 0 → d.pending = true → e.pending = decide (d.lows + 1 < th)) ∧
         (k ≠ 0 → e.pending = d.pending) ∧ t.fio.dq = s.fio.dq ∧ t.fio.groups = s.fio.groups)) ∧
     (∀ k, k = 0 ∨ k = 1 → is a d.clsA k → is b d.clsB (1 - k) → d.path = false →
       GivesOnly [.fio, .grn, .mem] c s (fun t => let e := t.din i
         e.cls = 0 ∧ e.differ = min 10 (d.differ + 1) ∧ e.count = d.count - 1 ∧
         (9 ≤ d.differ → e.path = true ∧ bitOf t.fio.err.status 6 = true) ∧ (d.differ < 9 → e.path = false ∧ t.mem = s.mem))))) ∧
  (∀ (s : State) (n : Nat), n < 16 → s.fio.dq.length = 16 → s.sup.quenchSince = none →
   let d := s.dq n
   let onMax := fieldOf (dqFbCfg s n) 9 0 * 1000000
   let offMax := fieldOf (dqFbCfg s n) 25 16 * 1000000
   (∀ t0, s.fio.usable = true → fbOn s n = true → d.fbSince = some t0 → d.fbSeen = false →
     (d.cmd = true → t0 + onMax ≤ s.clk.now →
       (fbEnergised s n = false → GivesOnly [.fio, .mem, .grn] (.fbPullInTimeout n) s (fun t =>
         (t.dq n).fbk = true ∧ (t.dq n).cmd = false ∧ (t.dq n).fbCause = 5 ∧ (d.cause = 0 → (t.dq n).cause = 5) ∧
         bitOf t.fio.err.status 4 = true ∧ t.fio.groups = s.fio.groups ∧ ∀ m, m ≠ n → t.dq m = s.dq m)) ∧
       (fbEnergised s n = true → GivesOnly [.fio] (.fbPullInTimeout n) s (fun t =>
         t.dq n = { d with fbSince := none }))) ∧
     (d.cmd = true → s.clk.now < t0 + onMax → exec (.fbPullInTimeout n) s = .next s.begin) ∧
     (d.cmd = false → t0 + offMax ≤ s.clk.now →
       (fbEnergised s n = true → GivesOnly [.fio, .mem, .grn] (.fbDropOutTimeout n) s (fun t =>
         (t.dq n).fbk = true ∧ (t.dq n).cmd = false ∧ (t.dq n).fbCause = 4 ∧ (d.cause = 0 → (t.dq n).cause = 4) ∧
         bitOf t.fio.err.status 4 = true ∧ t.fio.groups = s.fio.groups ∧ ∀ m, m ≠ n → t.dq m = s.dq m)) ∧
       (fbEnergised s n = false → GivesOnly [.fio] (.fbDropOutTimeout n) s (fun t =>
         t.dq n = { d with fbSince := none }))) ∧
     (d.cmd = false → s.clk.now < t0 + offMax → exec (.fbDropOutTimeout n) s = .next s.begin)) ∧
   (fbOn s n = false ∨ s.fio.usable = false →
     exec (.fbPullInTimeout n) s = .next s.begin ∧ exec (.fbDropOutTimeout n) s = .next s.begin))

/-- R312, R313, R315, R306, R321: outputs follow an arriving image while their group may drive: a used channel without a
latch takes its command, no other channel switches; a group switch stays closed, and closes again when the 100 µs of its
slot test are over, only in STOP, RUN, HOLD or BRACE with the role and L+ for it and no latch in the group; where it is
open, but for its slot test or a fault latched in its group, its outputs stay off. The twentieth HIGH readback of a
channel off beyond SETTLE latches a cross-fault: its group's switch opens, CROSS is raised, and the fault record in MRAM
names the channel. R313 to R316: the test rounds begin at whole PULSE_PERIODs from hand-over; in its slot of 1 ms, while
no other test runs, an output on by command beyond SETTLE and without a latch is pulsed off; a pulse whose last readback
is HIGH latches a cross-fault, one that is LOW passes; a closed group switch opens in its slot for its test, an open one
that may close is checked first and then closes, and a switch that does not show open latches GSW; the round's end makes
the causes final that were latched before it. Commands it shows to complete: readbackSample, offPulse, offPulseEnd,
groupSwitchTest, outputImageArrival, testRound, testRoundEnd. Clauses that rest on a reading or choice of the model: log
9, 114, 204. -/
def Obligations.OutputsFollowAndAreTested : Prop :=
  (∀ (s : State), s.fio.dq.length = 16 → s.fio.groups.length = 2 →
   s.sup.quenchSince = none → s.fio.on = true →
   (∀ cmds at0, s.fio.image = some (cmds, at0) → (∀ n, n < 16 → (s.dq n).pulse = none ∧ fbOn s n = false) →
     GivesOnly [.fio] .outputImageArrival s (fun t => t.fio.image = none ∧
       (∀ n, n < 16 → (t.dq n).cmd = (nth cmds n false && dqUsed s n && stateActs s && roleActs s && s.fio.usable &&
         groupUsed s (n / 8) && !(s.grp (n / 8)).gsw && !(s.grp (n / 8)).gover && !(s.grp (n / 8)).ret &&
         ((s.grp (n / 8)).closed || (s.grp (n / 8)).test.isSome || groupCrossed s (n / 8)) && !(s.dq n).ovl &&
         !(s.dq n).fbk && !(s.dq n).path && !((s.dq n).cross && (s.dq n).final)) ∧
         (t.dq n).cross = (s.dq n).cross ∧ (t.dq n).cause = (s.dq n).cause) ∧
       (∀ g, g < 2 → (t.grp g).closed = (groupUsed s g && stateActs s && roleActs s && s.fio.usable && !(s.grp g).gsw &&
         !(s.grp g).gover && !(s.grp g).ret &&
         ((s.grp g).closed || (match (s.grp g).test with | some t1 => decide (t1 + 100000 ≤ s.clk.now) | none => false)) &&
         (List.range 8).all (fun k => !(s.dq (8 * g + k)).cross && !(s.dq (8 * g + k)).path))))) ∧
   (∀ n, n < 16 → dqUsed s n = true → (∀ m, m < 16 → m ≠ n → dqUsed s m = false) → s.fio.usable = true →
     (s.dq n).cmd = false → (s.dq n).cross = false → (s.dq n).differ = 0 → (s.dq n).path = false →
     (∀ t0, (s.dq n).changed = some t0 → t0 + settleNs s n ≤ s.clk.now) → s.fio.lastPulse = none →
     (∀ m, m < 16 → (s.dq m).pulse = none) →
     (∀ v : Int, 9250 ≤ v →
       let c : Instr := .readbackSample ((List.replicate 16 ((0 : Int), (0 : Int))).set n (v, v)) (List.replicate 16 0) [0, 0]
       ((s.dq n).highs = 19 → GivesOnly [.fio, .mem, .grn] c s (fun t => (t.dq n).cross = true ∧ (t.dq n).cause = 1 ∧
         (t.dq n).final = false ∧ (t.dq n).rb = true ∧ (t.grp (n / 8)).closed = false ∧ bitOf t.fio.err.status 0 = true ∧
         (touchesBad s.mem.mramBad 0x180 128 = false → (∀ q, slot64 s 0x180 0x14 = some q → q < 2 ^ 32 - 1) →
           (∀ q, slot64 s 0x1C0 0x14 = some q → q < 2 ^ 32 - 1) →
           ∃ k, slotBest (slot64 t 0x180 0x14) (slot64 t 0x1C0 0x14) = some k ∧
             (leAt (t.mem.mramGet (0x180 + 0x40 * k) 64) 0 2).testBit n = true))) ∧
       ((s.dq n).highs < 19 → GivesOnly [.fio] c s (fun t => (t.dq n).cross = false ∧ (t.dq n).rb = true ∧
         (t.dq n).highs = (s.dq n).highs + 1))) ∧
     (∀ v : Int, v ≤ 3750 →
       GivesOnly [.fio] (.readbackSample ((List.replicate 16 ((0 : Int), (0 : Int))).set n (v, v)) (List.replicate 16 0) [0, 0]) s
         (fun t => (t.dq n).cross = false ∧ (t.dq n).rb = false ∧ (t.dq n).highs = 0)))) ∧
  (∀ (s : State), s.fio.dq.length = 16 → s.fio.groups.length = 2 →
   s.sup.quenchSince = none → s.fio.on = true → s.fio.usable = true →
   let period := fieldOf (lkAt s 9 0x20) 13 0 * 1000000
   let quiet := (∀ m, m < 16 → (s.dq m).pulse = none) ∧ ∀ g, g < 2 → (s.grp g).test = none
   (s.img.fio = true → s.fio.round = none →
     (s.fio.roundAt + period ≤ s.clk.now → GivesOnly [.fio] .testRound s (fun t =>
       (∃ k, t.fio.round = some (s.fio.roundAt + k * period) ∧ s.fio.roundAt + k * period ≤ s.clk.now ∧
         (0 < period → s.clk.now < s.fio.roundAt + (k + 1) * period)) ∧ t.fio.round = some t.fio.roundAt ∧ t.fio.slot = 0 ∧
       (∀ n, n < 16 → t.dq n = { s.dq n with inRound := (s.dq n).cross && !(s.dq n).final }))) ∧
     (s.clk.now < s.fio.roundAt + period → exec .testRound s = .next s.begin)) ∧
   (∀ n, n < 16 →
     (∀ t0, s.fio.round = some t0 → s.fio.slot ≤ n → t0 + n * 1000000 ≤ s.clk.now → s.clk.now < t0 + (n + 1) * 1000000 →
       quiet → dqUsed s n = true → (s.dq n).cmd = true → (s.dq n).fault = false →
       (∀ t1, (s.dq n).changed = some t1 → t1 + settleNs s n ≤ s.clk.now) → GivesOnly [.fio] (.offPulse n) s (fun t =>
         (t.dq n).pulse = some s.clk.now ∧ t.fio.slot = n + 1 ∧ (t.dq n).cmd = true ∧
         ∀ m, m < 16 → m ≠ n → (t.dq m).pulse = (s.dq m).pulse)) ∧
     (s.fio.round = none ∨ n < s.fio.slot ∨ dqUsed s n = false ∨ (s.dq n).cmd = false ∨ (s.dq n).fault = true ∨
         (∃ t0, s.fio.round = some t0 ∧ (s.clk.now < t0 + n * 1000000 ∨ t0 + (n + 1) * 1000000 ≤ s.clk.now)) ∨
         (∃ m, m < 16 ∧ (s.dq m).pulse ≠ none) →
       exec (.offPulse n) s = .next s.begin) ∧
     (∀ t0, (s.dq n).pulse = some t0 → t0 + pulseNs s n ≤ s.clk.now → fbOn s n = false →
       ((s.dq n).rb = true → (s.dq n).path = false → GivesOnly [.fio, .mem, .grn] (.offPulseEnd n) s (fun t =>
         (t.dq n).cross = true ∧ (t.dq n).cause = 1 ∧ (t.dq n).pulse = none ∧ bitOf t.fio.err.status 0 = true ∧
         (t.grp (n / 8)).closed = false)) ∧
       ((s.dq n).rb = false → GivesOnly [.fio] (.offPulseEnd n) s (fun t => (t.dq n).pulse = none ∧
         (t.dq n).cross = (s.dq n).cross ∧ t.fio.err = s.fio.err ∧ t.fio.groups = s.fio.groups))) ∧
     (∀ t0, (s.dq n).pulse = some t0 → s.clk.now < t0 + pulseNs s n → exec (.offPulseEnd n) s = .next s.begin)) ∧
   (∀ g, g < 2 → groupUsed s g = true → (s.grp g).gsw = false →
     let inSlot := ∃ t0, s.fio.round = some t0 ∧ s.fio.slot ≤ 16 + g ∧ t0 + (16 + g) * 1000000 ≤ s.clk.now ∧
       s.clk.now < t0 + (17 + g) * 1000000 ∧ quiet
     let closes := (s.grp g).closed = false ∧ (s.grp g).test = none ∧ groupMayClose s g = true
     (inSlot ∨ closes →
       GivesOnly [.fio, .mem, .grn] (.groupSwitchTest g false) s (fun t => (t.grp g).gsw = true ∧ (t.grp g).closed = false ∧
         bitOf t.fio.err.status 3 = true ∧ ∀ k, k < 8 → (t.dq (8 * g + k)).cmd = false)) ∧
     (inSlot → (s.grp g).closed = true → GivesOnly [.fio] (.groupSwitchTest g true) s (fun t => (t.grp g).closed = false ∧
       (t.grp g).test = some s.clk.now ∧ t.fio.dq = s.fio.dq ∧ t.fio.slot = 17 + g)) ∧
     (closes → GivesOnly [.fio] (.groupSwitchTest g true) s (fun t => (t.grp g).closed = true ∧ t.fio.dq = s.fio.dq)) ∧
     (∀ shows, ¬ inSlot → ¬ closes → exec (.groupSwitchTest g shows) s = .next s.begin)) ∧
   (∀ t0, s.fio.round = some t0 → t0 + 18000000 ≤ s.clk.now → s.fio.roundBad = false →
     ((∃ n, n < 16 ∧ (s.dq n).inRound = true ∧ (s.dq n).cross = true ∧ (s.dq n).final = false) →
       GivesOnly [.fio, .mem] .testRoundEnd s (fun t => t.fio.round = none ∧
         ∀ n, n < 16 → (s.dq n).cross = true → (t.dq n).final = true ∧ (t.dq n).cmd = false)) ∧
     ((∀ n, n < 16 → (s.dq n).inRound = false) → exec .testRoundEnd s =
       .next { s.begin with fio := { s.fio with round := none } })) ∧
   (∀ t0, s.fio.round = some t0 → s.clk.now < t0 + 18000000 → exec .testRoundEnd s = .next s.begin))

/-- R317, R318, R321: an output in overload goes off, latched, written; a group above its trip goes off whole; a group
whose return carries current with every output off latches RETURN, written; an open load is raised where the check is
enabled, the output going on, and clears. R320, R322: FIO_FAULT_RESET, of the security engine only, clears the CROSS,
FBK and PATH latches it selects and the GSW and RETURN latches of its groups, but one whose condition shows;
FIO_OVL_RESET, of a voter or the security engine, clears OVERLOAD and GOVER; L+ is usable again after 100 ms within its
range, every check starting afresh. Commands it shows to complete: outputOverload, groupOvercurrent, returnCrossFault,
openLoad, faultResetInputs, faultResetGroups, faultResetChannels, ovlResetGroups, ovlResetChannels, openLoadCleared,
lplusRestored. Clauses that rest on a reading or choice of the model: log 110, 111, 113, 198, 200. -/
def Obligations.OutputLatchesSetAndReset : Prop :=
  (∀ (s : State), s.fio.dq.length = 16 → s.fio.groups.length = 2 →
   s.sup.quenchSince = none → s.fio.on = true →
   (∀ n ma, n < 16 → ma < 65536 → dqUsed s n = true → (s.dq n).cmd = true → (s.dq n).ovl = false →
     GivesOnly [.fio, .mem, .grn] (.outputOverload n ma) s (fun t => (t.dq n).ovl = true ∧ (t.dq n).cmd = false ∧
       ((s.dq n).cause = 0 → (t.dq n).cause = 3) ∧
       bitOf t.fio.err.status 1 = true ∧ t.fio.groups = s.fio.groups ∧ ∀ m, m ≠ n → t.dq m = s.dq m)) ∧
   (∀ n ma, n < 16 → ma < 65536 → (s.dq n).cmd = false → exec (.outputOverload n ma) s = .next s.begin) ∧
   (∀ g ma, g < 2 → ma < 65536 → groupUsed s g = true → (s.grp g).closed = true →
     GivesOnly [.fio, .mem, .grn] (.groupOvercurrent g ma) s (fun t => (t.grp g).gover = true ∧ (t.grp g).closed = false ∧
       bitOf t.fio.err.status 2 = true ∧ ∀ k, k < 8 → (t.dq (8 * g + k)).cmd = false)) ∧
   (∀ g, g < 2 → groupUsed s g = true → s.fio.usable = true → (s.grp g).ret = false →
     ((∀ k, k < 8 → (s.dq (8 * g + k)).cmd = false) → (∀ n, n < 16 → (s.dq n).pulse = none) →
       GivesOnly [.fio, .mem, .grn] (.returnCrossFault g) s (fun t => (t.grp g).ret = true ∧ (t.grp g).closed = false ∧
         bitOf t.fio.err.status 0 = true)) ∧
     ((∃ k, k < 8 ∧ (s.dq (8 * g + k)).cmd = true) → exec (.returnCrossFault g) s = .next s.begin)) ∧
   (∀ n, n < 16 → dqUsed s n = true → (s.dq n).cmd = true →
     (bitOf (dqCfg s n) 15 = true → (s.dq n).openLoad = false → GivesOnly [.fio, .grn] (.openLoad n) s (fun t =>
       (t.dq n).openLoad = true ∧ (t.dq n).cmd = true ∧ bitOf t.fio.err.status 8 = true ∧ ∀ m, m ≠ n → t.dq m = s.dq m)) ∧
     (bitOf (dqCfg s n) 15 = false → exec (.openLoad n) s = .next s.begin) ∧
     ((s.dq n).openLoad = true → GivesOnly [.fio] (.openLoadCleared n) s (fun t => (t.dq n).openLoad = false ∧
       (t.dq n).cmd = true ∧ t.fio.err = s.fio.err)))) ∧
  (∀ (s : State), s.fio.dq.length = 16 → s.fio.groups.length = 2 →
   s.sup.quenchSince = none → s.fio.on = true →
   (∀ init, init < 64 → init ≠ 0x2B → exec (.faultResetInputs init) s = .next s.begin ∧
     (∀ mask, mask < 65536 → exec (.faultResetChannels init mask) s = .next s.begin) ∧
     (∀ mask, mask < 4 → exec (.faultResetGroups init mask) s = .next s.begin)) ∧
   (∀ mask n, mask < 65536 → n < 16 → GivesOnly [.fio, .mem, .grn] (.faultResetChannels 0x2B mask) s (fun t =>
     (mask.testBit n = true →
       (t.dq n).cross = ((s.dq n).cross && decide ((s.dq n).highs = 20) &&
         !((s.dq n).final || (s.dq n).fbk || (s.dq n).path || (s.dq n).ovl)) ∧
       (t.dq n).fbk = ((s.dq n).fbk && s.fio.usable && (s.dq n).fbSince.isNone && fbOn s n &&
         decide (fbEnergised s n ≠ (s.dq n).cmd)) ∧
       (t.dq n).path = ((s.dq n).path && decide ((s.dq n).differ = 10)) ∧ (t.dq n).ovl = (s.dq n).ovl ∧
       ((s.dq n).cross = true ∨ (s.dq n).fbk = true ∨ (s.dq n).path = true →
         (t.dq n).cross = false → (t.dq n).fbk = false → (t.dq n).path = false →
         (t.dq n).cause = if (s.dq n).ovl then 3 else 0)) ∧
     (mask.testBit n = false → (t.dq n).cross = (s.dq n).cross ∧ (t.dq n).fbk = (s.dq n).fbk ∧
       (t.dq n).path = (s.dq n).path ∧ (t.dq n).cause = (s.dq n).cause))) ∧
   (∀ mask g, mask < 4 → g < 2 → GivesOnly [.fio, .mem, .grn] (.faultResetGroups 0x2B mask) s (fun t =>
     (mask.testBit g = true → (t.grp g).gsw = false ∧
       ((s.grp g).current ≤ 50 ∨ groupAllOff s g = false → (t.grp g).ret = false) ∧
       (50 < (s.grp g).current → groupAllOff s g = true → (t.grp g).ret = (s.grp g).ret)) ∧
     (mask.testBit g = false → (t.grp g).gsw = (s.grp g).gsw ∧ (t.grp g).ret = (s.grp g).ret) ∧
     (t.grp g).gover = (s.grp g).gover)) ∧
   (GivesOnly [.fio, .mem, .grn] (.faultResetInputs 0x2B) s (fun t => ∀ i, i < s.fio.di.length →
     (t.din i).path = ((s.din i).path && decide ((s.din i).differ = 10)) ∧ (t.din i).value = (s.din i).value)) ∧
   (∀ init, init < 64 → init = 0x2B ∨ isVoter s init = true →
     (∀ mask n, mask < 65536 → n < 16 → GivesOnly [.fio, .mem, .grn] (.ovlResetChannels init mask) s (fun t =>
       (t.dq n).ovl = ((s.dq n).ovl && !mask.testBit n) ∧ (t.dq n).cross = (s.dq n).cross ∧ (t.dq n).fbk = (s.dq n).fbk)) ∧
     (∀ mask g, mask < 4 → g < 2 → GivesOnly [.fio, .mem, .grn] (.ovlResetGroups init mask) s (fun t =>
       (t.grp g).gover = ((s.grp g).gover && !mask.testBit g) ∧ (t.grp g).gsw = (s.grp g).gsw))) ∧
   (∀ init, init < 64 → init ≠ 0x2B → isVoter s init = false →
     (∀ mask, mask < 65536 → exec (.ovlResetChannels init mask) s = .next s.begin) ∧
     (∀ mask, mask < 4 → exec (.ovlResetGroups init mask) s = .next s.begin)) ∧
   (∀ t0, s.fio.lost = true → s.fio.goodSince = some t0 →
     (t0 + 100000000 ≤ s.clk.now → GivesOnly [.fio] .lplusRestored s (fun t => t.fio.usable = true ∧ t.fio.lost = false ∧
       ∀ n, n < 16 → (t.dq n).highs = 0 ∧ (t.dq n).differ = 0 ∧ (t.dq n).changed = some s.clk.now ∧
         (fbOn s n = true → (t.dq n).fbSince = some s.clk.now ∧ (t.dq n).fbSeen = false))) ∧
     (s.clk.now < t0 + 100000000 → exec .lplusRestored s = .next s.begin)))

/-! ## The CAN FD controllers (15) -/

/-- R325, R329, R330, R336: a data frame on the bus is taken by the lowest object that matches it: its data, identifier,
DLC and SOF stamp stand there, SEQ is one more, NEW is set and OVR tells whether an unread frame was replaced, which
raises OVR; that of an owned object goes to the offload; a frame no object takes, and every remote frame, is counted; a
RECEIVER keeps a reference's cycle and stamp. A frame in error is discarded and raises PROTO, with EPASS at a counter of
128. Off the bus, or disabled, nothing is received but the frame then in reception. Reading CANn_OBJ_STAT answers it and
clears NEW. REF_LOSS cycles without a reference raise REFLOST. R325, R333, R334: the enable of a controller whose
section is present joins the bus; a fall aborts what has not begun and loses its connections, and objects alike; at
bus-off every item is aborted and BOFF raised; with AUTO_RECOVER the hold, and without it RECOVER, begins the recovery,
and the 128th sequence rejoins with both counters 0. Commands it shows to complete: canFrameReceive, canTxAttemptEnd,
busOffHoldEnd, recover, canRecoveryDone, canEnableWrite, canObjectEnableWrite, objStatRead, referenceLost,
canBusIntegrated. Clauses that rest on a reading or choice of the model: log 115, 116, 117. -/
def Obligations.CanReceivesAndChangesState : Prop :=
  (∀ (s : State) (n : Nat), n < 2 → s.sup.quenchSince = none →
   let here := if n = 0 then StatePart.can0 else StatePart.can1
   let c := s.can n
   (∀ r : CanRx, canOnBus s n = false → exec (.canFrameReceive n r) s = .next s.begin) ∧
   (∀ kind rec, 1 ≤ kind → kind ≤ 5 → rec < 256 → canOnBus s n = true → c.tec < 256 →
     GivesOnly [here, .grn, .eng] (.canFrameReceive n (.error kind rec)) s (fun t => bitOf (t.can n).err.status 2 = true ∧
       (t.can n).recErr = rec ∧ (t.can n).tec = min 255 c.tec ∧ (t.can n).unmatched = c.unmatched ∧
       (∀ k, t.canObj n k = s.canObj n k) ∧
       (128 ≤ rec → (t.can n).state = 3 ∧ (c.state = 2 → bitOf (t.can n).err.status 1 = true)))) ∧
   (∀ f : CanFrame, c.en = false → c.active = false ∨ c.fell = none ∨ (∃ x, c.fell = some x ∧ 2 ^ 31 ≤ (x - f.sof).toNat) →
     exec (.canFrameReceive n (.frame f)) s = .next s.begin) ∧
   (∀ f : CanFrame, (Instr.canFrameReceive n (.frame f)).wf = true → canOnBus s n = true → c.recErr < 128 →
     c.en = true ∨ (c.active = true ∧ ∃ x, c.fell = some x ∧ (x - f.sof).toNat < 2 ^ 31) →
     let m : Instr := .canFrameReceive n (.frame f)
     let ref := canRole s n = 2 ∧ f.remote = false ∧ f.ide = false ∧ f.id = canRefId s n ∧ 4 ≤ f.data.length
     (∀ k, k < 128 → f.remote = false → objTakes s n f k = true → (∀ j, j < k → objTakes s n f j = false) →
       GivesOnly [here, .grn, .glm, .eng] m s (fun t =>
         let o := t.canObj n k
         o.rxId = f.id ∧ o.dlc = f.dlc ∧ o.time = f.sof ∧ o.seq = ((s.canObj n k).seq + 1) % 65536 ∧
         FMap.lookList o.data 0 0 f.data.length = f.data ∧ o.ovr = (s.canObj n k).new ∧ o.new = !objOwner s n k ∧
         t.glm = (if objOwner s n k then { s.glm with inbox := s.glm.inbox ++ [(3, 128 * n + k, f.data)] } else s.glm) ∧
         o.pending = (s.canObj n k).pending ∧ (∀ j, j ≠ k → t.canObj n j = s.canObj n j) ∧
         (t.can n).unmatched = c.unmatched ∧ (t.can n).recErr = c.recErr - 1 ∧
         ((s.canObj n k).new = true → bitOf (t.can n).err.status 3 = true) ∧
         ((s.canObj n k).new = false → (t.can n).err = c.err ∧ t.grn = s.grn) ∧
         (ref → (t.can n).refCycle = w32 (beAt f.data 0 4) ∧ (t.can n).refSof = f.sof ∧ (t.can n).refSilent = 0) ∧
         (¬ ref → (t.can n).refCycle = c.refCycle ∧ (t.can n).refSof = c.refSof))) ∧
     (f.remote = true ∨ (∀ k, k < 128 → objTakes s n f k = false) → GivesOnly [here, .eng] m s (fun t =>
       (t.can n).unmatched = min 65535 (c.unmatched + 1) ∧ (∀ k, t.canObj n k = s.canObj n k) ∧ (t.can n).err = c.err))) ∧
   (∀ init k, init < 64 → k < 128 → GivesOnly [here] (.objStatRead init n k) s (fun t =>
     t.out = [.response init 0 (le 4 (objStat (s.canObj n k)).toNat)] ∧
     t.canObj n k = { s.canObj n k with new := false } ∧ ∀ j, j ≠ k → t.canObj n j = s.canObj n j)) ∧
   (canRole s n = 2 → c.en = true → 1 ≤ c.refSilent → fieldOf (canReg s n 0x48) 7 0 ≤ c.refSilent →
     GivesOnly [here, .grn] (.referenceLost n) s (fun t => bitOf (t.can n).err.status 5 = true ∧
       (t.can n).refMissed = min 65535 (c.refMissed + 1) ∧ (t.can n).refEpi = true)) ∧
   (canRole s n ≠ 2 ∨ c.refSilent < fieldOf (canReg s n 0x48) 7 0 → exec (.referenceLost n) s = .next s.begin)) ∧
  (∀ (s : State) (n : Nat), n < 2 → s.sup.quenchSince = none →
   let here := if n = 0 then StatePart.can0 else StatePart.can1
   let c := s.can n
   (∀ init, init < 64 → c.en = false → c.active = false → nth s.img.can n false = true → s.rch.clkFault.contains 8 = false →
     GivesOnly [here] (.canEnableWrite init n 1) s (fun t => t.can n = { c with
       en := true, active := true, state := 1, tec := 0, recErr := 0 })) ∧
   (∀ init, init < 64 → c.en = true → (∀ k, c.onBus ≠ some k) → canOnBus s n = false → c.ref = none →
     GivesOnly [here, .glm, .cyc, .grn] (.canEnableWrite init n 0) s (fun t => (t.can n).en = false ∧
       (∀ k, (s.canObj n k).pending = true → (t.canObj n k).pending = false ∧ (t.canObj n k).outcome = 1) ∧
       (∀ k, k < s.img.conns.length → (connEnt s k).transport = 3 → (peerCan (connEnt s k).peer).1 = n →
         (connAt t k).state ≠ 3))) ∧
   (∀ init k, init < 64 → k < 128 →
     ((s.canObj n k).en = false → (s.canObj n k).active = false → GivesOnly [here] (.canObjectEnableWrite init n k 1) s
       (fun t => t.canObj n k = { s.canObj n k with en := true, active := true } ∧ ∀ j, j ≠ k → t.canObj n j = s.canObj n j)) ∧
     ((s.canObj n k).en = true → objDir s n k = 1 → (s.canObj n k).pending = true → canOnBus s n = false → c.onBus = none →
       GivesOnly [here] (.canObjectEnableWrite init n k 0) s (fun t => (t.canObj n k).en = false ∧
         (t.canObj n k).pending = false ∧ (t.canObj n k).outcome = 1 ∧ ∀ j, j ≠ k → t.canObj n j = s.canObj n j))) ∧
   (c.state = 1 → c.en = true → GivesOnly [here, .eng] (.canBusIntegrated n) s (fun t =>
     t.can n = { c with state := 2 })) ∧
   (c.state ≠ 1 → exec (.canBusIntegrated n) s = .next s.begin) ∧
   (∀ kind rec loop k, (Instr.canTxAttemptEnd n (.error kind 256 rec loop)).wf = true → c.onBus = some k → k < 128 → canOnBus s n = true →
     GivesOnly [here, .grn, .glm, .cyc, .eng] (.canTxAttemptEnd n (.error kind 256 rec loop)) s (fun t => (t.can n).state = 4 ∧
       (t.can n).boffSince = some s.clk.now ∧ bitOf (t.can n).err.status 0 = true ∧
       (∀ j, (s.canObj n j).pending = true → (t.canObj n j).pending = false) ∧
       (∀ j, j < s.img.conns.length → (connEnt s j).transport = 3 → (peerCan (connEnt s j).peer).1 = n →
         (connAt t j).state ≠ 3))) ∧
   (∀ t0, c.state = 4 → c.boffSince = some t0 → canFlag s n 4 = true →
     let hold := fieldOf (canReg s n 0x30) 15 8 * 10000000
     (t0 + hold + 100000 ≤ s.clk.now → exec (.busOffHoldEnd n) s =
       .next (s.begin.setCan n { c with state := 5, boffSince := none })) ∧
     (s.clk.now < t0 + hold → exec (.busOffHoldEnd n) s = .next s.begin) ∧
     (∀ init, init < 64 → exec (.recover init n) s = .next s.begin)) ∧
   (∀ init, init < 64 → (c.state = 4 → canFlag s n 4 = false → exec (.recover init n) s =
       .next (s.begin.setCan n { c with state := 5, boffSince := none })) ∧
     (c.state ≠ 4 → exec (.recover init n) s = .next s.begin)) ∧
   (c.state = 5 → GivesOnly [here, .eng] (.canRecoveryDone n) s (fun t =>
     t.can n = { c with state := 2, tec := 0, recErr := 0 })) ∧
   (c.state ≠ 5 → exec (.canRecoveryDone n) s = .next s.begin))

/-- R327, R328, R331, R332, R335, R339: TX_REQ of the object's owner makes its item pending, or ends it as
REJECTED_DISABLED in a STANDBY or CANDIDATE or while disabled, and does nothing while one is pending. The end of an
attempt completes the item on the bus, or leaves it contending, or aborts it where its deadline or a disable has passed;
the loop delay of a frame with a bit rate switch is kept, and raises TDCSAT beyond 127. At the deadline an item whose
frame has not begun is aborted with TXLATE, one on the bus finishes its attempt. A MASTER's reference becomes pending at
its instant, once a cycle, and is not retried after an error. Commands it shows to complete: txReq, canTxAttemptEnd,
canSendDeadline, referenceSend. Clauses that rest on a reading or choice of the model: log 37, 115, 117. -/
def Obligations.CanSends : Prop := ∀ (s : State) (n : Nat), n < 2 → s.sup.quenchSince = none →
  let here := if n = 0 then StatePart.can0 else StatePart.can1
  let c := s.can n
  (∀ init k, init < 64 → k < 128 → objDir s n k = 1 →
    (objWriter s init n k = false ∨ (s.canObj n k).pending = true → exec (.txReq init n k) s = .next s.begin) ∧
    (objWriter s init n k = true → (s.canObj n k).pending = false →
      (s.pair.role ≤ 1 → (s.canObj n k).en = true → c.en = true → GivesOnly [here, .eng] (.txReq init n k) s (fun t =>
        t.canObj n k = { s.canObj n k with pending := true, since := cycleMark s, last := false, disabled := false } ∧
        ∀ j, j ≠ k → t.canObj n j = s.canObj n j)) ∧
      (s.pair.role = 2 ∨ s.pair.role = 3 ∨ (s.canObj n k).en = false ∨ c.en = false →
        GivesOnly [here, .eng] (.txReq init n k) s (fun t =>
          t.canObj n k = { s.canObj n k with outcome := 4 } ∧ ∀ j, j ≠ k → t.canObj n j = s.canObj n j)))) ∧
  (∀ k, c.onBus = some k → k < 128 → canOnBus s n = true → (s.canObj n k).pending = true →
    (∀ sof, GivesOnly [here, .eng] (.canTxAttemptEnd n (.success sof none)) s (fun t =>
      (t.canObj n k).pending = false ∧ (t.canObj n k).outcome = 0 ∧ (t.canObj n k).time = sof ∧ (t.can n).onBus = none ∧
      (t.can n).tec = c.tec - 1 ∧ t.out = [.can n (objFrame s n k sof)])) ∧
    (∀ sof d, canFlag s n 1 = true → bitOf (objCfg s n k) 4 = true →
      (Instr.canTxAttemptEnd n (.success sof (some d))).wf = true →
      GivesOnly [here, .grn, .eng] (.canTxAttemptEnd n (.success sof (some d))) s (fun t => (t.can n).tdcv = min 127 d ∧
        (t.canObj n k).pending = false ∧
        (127 < d + fieldOf (canReg s n 0x2C) 6 0 → bitOf (t.can n).err.status 6 = true) ∧
        (d + fieldOf (canReg s n 0x2C) 6 0 ≤ 127 → (t.can n).err = c.err))) ∧
    ((s.canObj n k).last = false → (s.canObj n k).disabled = false →
      GivesOnly [here, .eng] (.canTxAttemptEnd n .arbitrationLost) s (fun t => t.canObj n k = s.canObj n k ∧
        (t.can n).onBus = none)) ∧
    ((s.canObj n k).last = true ∨ (s.canObj n k).disabled = true →
      GivesOnly [here, .eng] (.canTxAttemptEnd n .arbitrationLost) s (fun t => (t.canObj n k).pending = false ∧
        (t.canObj n k).outcome = (if (s.canObj n k).disabled then 1 else 2))) ∧
    (∀ kind tec rec loop, (Instr.canTxAttemptEnd n (.error kind tec rec loop)).wf = true → tec < 128 → rec < 128 →
      (s.canObj n k).last = false → (s.canObj n k).disabled = false →
      GivesOnly [here, .grn, .eng] (.canTxAttemptEnd n (.error kind tec rec loop)) s (fun t => (t.canObj n k).pending = true ∧
        (t.can n).tec = tec ∧ (t.can n).state = 2 ∧ bitOf (t.can n).err.status 2 = true))) ∧
  (∀ k o, c.ref = none → c.objs = [(k, o)] → o.pending = true → o.since ≠ cycleMark s →
    (c.onBus = some k → GivesOnly [here] (.canSendDeadline n) s (fun t => t.canObj n k = { o with last := true })) ∧
    (∀ j, c.onBus = some j → j ≠ k → GivesOnly [here, .grn] (.canSendDeadline n) s (fun t =>
      (t.canObj n k).pending = false ∧ (t.canObj n k).outcome = 2 ∧ bitOf (t.can n).err.status 4 = true))) ∧
  (c.objs = [] → c.ref = none → exec (.canSendDeadline n) s = .next s.begin) ∧
  (let due := s.cyc.t0 + (canReg s n 0x38).toNat
   canRole s n = 1 → c.en = true → s.mod.mode.handed = true → s.pair.role ≤ 1 → s.cyc.begun = true →
    s.mod.mode ≠ .shutdown → s.cyc.cycle % fieldOf (canReg s n 0x34) 15 8 = 0 → c.refSince ≠ cycleMark s → c.ref = none →
    (due ≤ s.clk.now → GivesOnly [here, .eng] (.referenceSend n) s (fun t => ∃ d, (t.can n).ref = some d ∧ d.length = 8 ∧
      beAt d 0 4 = s.cyc.cycle % 2 ^ 32 ∧ beAt d 4 3 = c.lastDelay % 2 ^ 24 ∧ (t.can n).refSince = cycleMark s)) ∧
    (s.clk.now < due → exec (.referenceSend n) s = .next s.begin)) ∧
  (∀ d, c.ref = some d → c.onBus = some 128 → canOnBus s n = true →
    (∀ sof, GivesOnly [here, .eng] (.canTxAttemptEnd n (.success sof none)) s (fun t => (t.can n).ref = none ∧
      (t.can n).refCycle = w32 (beAt d 0 4) ∧ (t.can n).refSof = sof ∧ (t.can n).refEpi = false)) ∧
    (∀ kind tec rec loop, (Instr.canTxAttemptEnd n (.error kind tec rec loop)).wf = true → tec < 128 → rec < 128 →
      GivesOnly [here, .grn, .eng] (.canTxAttemptEnd n (.error kind tec rec loop)) s (fun t => (t.can n).ref = none ∧
        (t.can n).lastDelay = 0xFFFFFF ∧ bitOf (t.can n).err.status 5 = true)))

/-! ## The Culm bridge (16) -/

/-- R23, R343, R347, R350, R352, R353, R354, R359: what an access to the aperture does. Behind one of the same initiator
that waits at the bridge's port it waits too. In no enabled window it ends with ERR_DECODE, in a disabled one with
ERR_ABORT; wider than a word without BURST with ERR_SIZE; a write to an OUTPUT window from a STANDBY or outside STOP,
RUN, HOLD and BRACE with ERR_ABORT, counted; nothing then reaches Culm. A posted write is answered at once and goes to
the end of the queue, one that finds 16 waits; every other goes to the end and is answered when it ends; a read that a
prefetch buffer holds unread is answered from it, and its words count as read. R349, R351, R354, R357, R40: how the
first outbound item ends. The transaction driven names its Culm address, a VALUE window reversing each halfword and
word; completed, it leaves the queue and a read is answered with the card's bytes, and a pass begins where it was the
last of a retry set and a card requests the bus; a retry leaves it, with the words it moved; unclaimed or target-aborted
it is answered ERR_DECODE with OBERR, or, posted, raises PWERR and is logged; parity on read data gives ERR_DATA with
PAR; rung 2, 40 µs at least after acceptance, gives ERR_TIMEOUT with TMO and a log entry. While a pass has a card to
serve, or with nothing queued, nothing goes out; a buffer expires after 9.5 to 10.5 µs, with PFD if a word is unread.
Commands it shows to complete: culmOutboundAccept, culmOutboundEnd, prefetchExpiry, culmTransactionTimeout. Clauses that
rest on a reading or choice of the model: log 31, 118, 202. -/
def Obligations.CulmOutboundWork : Prop :=
  (∀ (s : State) (i : CulmItem), i.wf = true → s.sup.quenchSince = none →
   20 ≤ i.init → s.mod.mode.handed = true →
   let zero := if i.write then [] else zeros i.size
   let c : Instr := .culmOutboundAccept i
   let push := fun (posted prefetch : Bool) (w : Nat) => (⟨i, w, posted, prefetch, s.clk.now, false, 0, []⟩ : CulmOut)
   ((∃ f ∈ s.rch.flight, f.txn.init = i.init ∧ placeOf f.txn.addr = .culm) → GivesOnly [.rch] c s (fun t =>
     t.out = [] ∧ t.rch.flight.length = s.rch.flight.length + 1)) ∧
   ((∀ f ∈ s.rch.flight, f.txn.init = i.init → placeOf f.txn.addr ≠ .culm) →
   (oWindow s i.addr = none → GivesOnly [.rch, .grn] c s (fun t => t.out = [.response i.init 1 zero] ∧ t.culm = s.culm)) ∧
   (∀ w, oWindow s i.addr = some w → 
     let a := oAttr s w
     (nth s.culm.oEn w false = false → exec c s = .next { s with out := [.response i.init 6 zero] }) ∧
     (nth s.culm.oEn w false = true →
       (4 < i.size → bitOf a 2 = false → GivesOnly [.culm, .grn] c s (fun t => t.out = [.response i.init 5 zero] ∧
         t.culm.out = s.culm.out ∧ bitOf t.culm.err.status 3 = true)) ∧
       (i.size ≤ 4 ∨ bitOf a 2 = true →
         (i.write = true → bitOf a 4 = true → s.pair.role = 2 ∨ s.pair.role = 3 ∨ s.mod.mode = .safe ∨ s.mod.mode = .shutdown →
           exec c s = .next { s with
             culm := { s.culm with outref := min 65535 (s.culm.outref + 1) }, out := [.response i.init 6 []] }) ∧
         (i.write = true → bitOf a 4 = false ∨ (s.pair.role ≤ 1 ∧
             (s.mod.mode = .stop ∨ s.mod.mode = .run ∨ s.mod.mode = .hold ∨ s.mod.mode = .brace)) → s.culm.bufs = [] →
           (bitOf a 0 = true → postedCount s < 16 → exec c s = .next { s with
             culm := { s.culm with out := s.culm.out ++ [push true false w] }, out := [.response i.init 0 []] }) ∧
           (bitOf a 0 = true → 16 ≤ postedCount s → GivesOnly [.rch] c s (fun t => t.out = [] ∧
             t.rch.flight.length = s.rch.flight.length + 1)) ∧
           (bitOf a 0 = false → exec c s = .next { s.begin with
             culm := { s.culm with out := s.culm.out ++ [push false false w] } })) ∧
         (i.write = false → bitOf a 1 = false → exec c s = .next { s.begin with
           culm := { s.culm with out := s.culm.out ++ [push false false w] } }) ∧
         (i.write = false → bitOf a 1 = true →
           (s.culm.bufs = [] → exec c s = .next { s.begin with
             culm := { s.culm with out := s.culm.out ++ [push false true w] } }) ∧
           (∀ b, s.culm.bufs = [b] → b.win = w → b.block = i.addr - i.addr % 64 → b.unread = 0xFFFF → i.size ≤ 4 →
             GivesOnly [.culm] c s (fun t => t.out = [.response i.init 0 (culmLanes (bitOf a 3) (slice b.data (i.addr % 64) i.size))] ∧
               t.culm.out = s.culm.out ∧ ∃ b', t.culm.bufs = [b'] ∧ b'.data = b.data ∧
                 ∀ k, k < 16 → b'.unread.testBit k = decide (k ≠ i.addr % 64 / 4))))))))) ∧
  (∀ (s : State) (reqs : List Nat), s.sup.quenchSince = none → s.rch.flight = [] →
   (∀ m ∈ reqs, 1 ≤ m ∧ m ≤ 7) →
   (∀ e, s.culm.out = [] ∨ (s.culm.pass = true ∧ ∃ m ∈ reqs, m ∉ s.culm.served) →
     GivesOnly [.culm] (.culmOutboundEnd ⟨e, reqs⟩) s (fun t => t.out = [] ∧ t.culm.out = s.culm.out ∧ t.culm.waiting = reqs)) ∧
   (∀ o rest, s.culm.out = o :: rest → 20 ≤ o.item.init → (∀ x ∈ rest, x.inSet = false) →
     s.culm.oItems.length = 16 → o.win < 16 →
     let i := o.item
     let a := o.culm s
     let zero := if i.write then [] else zeros i.size
     let value := bitOf (oAttr s o.win) 3
     let drive : Out := .culm i.write a i.size (culmLanes value i.data)
     let logged := fun (t : State) (k : Nat) => t.culm.logTotal = min 0xFFFFFF (s.culm.logTotal + 1) ∧
       ∃ info, FMap.look t.culm.log (0, 0) s.culm.logNext = (w32 a, info) ∧ fieldOf info 3 0 = k
     let ends := fun (e : CulmEnd) (P : State → Prop) => GivesOnly [.culm] (.culmOutboundEnd ⟨e, reqs⟩) s P
     let fails := fun (e : CulmEnd) (P : State → Prop) => GivesOnly [.culm, .grn] (.culmOutboundEnd ⟨e, reqs⟩) s P
     (s.culm.pass = false → o.prefetch = false → o.doneWords = 0 → o.got = [] →
       (∀ bs, i.write = false → ends (.completed bs) (fun t =>
         t.out = [drive, .response i.init 0 (culmLanes value (slice bs 0 i.size))] ∧ t.culm.out = rest ∧
         t.culm.pass = (o.inSet && !reqs.isEmpty) ∧
         nth t.culm.oItems o.win 0 = (nth s.culm.oItems o.win 0 + 1) % 2 ^ 32)) ∧
       (i.write = true → ends (.completed []) (fun t => t.culm.out = rest ∧ t.culm.pass = (o.inSet && !reqs.isEmpty) ∧
         t.out = (if o.posted then [drive] else [drive, .response i.init 0 []]))) ∧
       (∀ n bs, ends (.retry n bs) (fun t => t.out = [drive] ∧
         t.culm.out = { o with doneWords := n, got := bs } :: rest)) ∧
       (∀ e, e = .unclaimed ∨ e = .targetAbort → fails e (fun t =>
         t.culm.out = rest ∧
         (o.posted = false → t.out = [drive, .response i.init 1 zero] ∧ bitOf t.culm.err.status 1 = true ∧
           t.culm.logTotal = s.culm.logTotal) ∧
         (o.posted = true → t.out = [drive] ∧ bitOf t.culm.err.status 0 = true ∧ logged t 1))) ∧
       (i.write = false → o.posted = false → fails .parity (fun t =>
         t.out = [drive, .response i.init 3 zero] ∧ bitOf t.culm.err.status 4 = true ∧ t.culm.out = rest))) ∧
     (o.since + 60000 ≤ s.clk.now → GivesOnly [.culm, .grn] .culmTransactionTimeout s (fun t => t.culm.out = rest ∧
       t.out = (if o.posted then [] else [.response i.init 4 zero]) ∧ bitOf t.culm.err.status 2 = true ∧ logged t 2)) ∧
     (s.clk.now < o.since + 40000 → exec .culmTransactionTimeout s = .next s.begin)) ∧
   (∀ b, s.culm.bufs = [b] →
     (b.since + 10500 ≤ s.clk.now → b.unread ≠ 0 → GivesOnly [.culm, .grn] (.prefetchExpiry 0) s (fun t =>
       t.culm.bufs = [] ∧ bitOf t.culm.err.status 7 = true ∧ t.culm.logTotal = min 0xFFFFFF (s.culm.logTotal + 1))) ∧
     (s.clk.now < b.since + 9500 → exec (.prefetchExpiry 0) s = .next s.begin)))

/-- R340, R344, R348, R355, R356, R357: an inbound address phase. The arbiter grants the cards that request the bus
round-robin, in a pass each of them once, and a pass with none left ends; the phase of another card is not on the bus.
Outside the enabled windows a phase is not claimed; with outbound work waiting and no pass it is retried, and the items
waiting form the retry set; with none waiting a write is taken at once while fewer than 8 are queued, and retried when 8
are; a read is latched and retried, and delivered when repeated after its data have come; enables that mark no aligned
1, 2 or 4 bytes, and a direction the window does not allow, end in target abort with SIZE, and a parity failure raises
PAR. R33, R344, R349, R355, R356, R359: a queued word write goes to Rachis at its window's address with its bytes in the
lanes' order, and the bytes stand there; a delayed read is issued when no earlier write is left, and holds its data;
data unclaimed for 63.5 to 64.5 µs are discarded with UNCL, logged; a window's EN, written by a voter or the security
engine, falls with its buffers and delayed reads. Commands it shows to complete: culmInboundAddressPhase,
delayedReadData, delayedReadDiscard, culmWindowEnableWrite, inboundWriteIssue. Clauses that rest on a reading or choice
of the model: log 32, 197, 202. -/
def Obligations.CulmInboundWork : Prop :=
  (∀ (s : State) (p : CulmPhase), p.wf = true → s.sup.quenchSince = none →
   let c : Instr := .culmInboundAddressPhase p
   let after := fun (m : Nat) => (m + 6 - s.culm.grant % 7) % 7
   let first := fun (l : List Nat) => ∀ m ∈ l, after p.master ≤ after m
   let u : Culm := { s.culm with grant := p.master, waiting := p.reqs.filter (fun m => m ≠ p.master) }
   let ans := fun (k : Nat) (bs : List Byte) (u : Culm) => exec c s = .next { s with culm := u, out := [.culmAnswer k bs] }
   (s.culm.pass = false → first p.reqs →
   (iWindow s p.addr = none → ans 3 [] u) ∧
   (∀ v, iWindow s p.addr = some v →
     (s.culm.out ≠ [] → (∀ o ∈ s.culm.out, o.inSet = false) → GivesOnly [.culm] c s (fun t =>
       t.out = [.culmAnswer 1 []] ∧ (∀ o ∈ t.culm.out, o.inSet = true) ∧ t.culm.out.length = s.culm.out.length ∧
       p.master ∈ t.culm.waiting ∧ t.culm.inq = s.culm.inq ∧ t.culm.reads = s.culm.reads)) ∧
     (s.culm.out = [] →
       let fine := (p.words = 1 ∧ p.be ∈ [8, 4, 2, 1, 12, 3, 15]) ∨ (p.words ≠ 1 ∧ p.be = 15)
       let may := bitOf (iAttr s v) (if p.write then 2 else 1) = true
       (p.parityOk = false → GivesOnly [.culm, .grn] c s (fun t => t.out = [.culmAnswer 2 []] ∧
         bitOf t.culm.err.status 4 = true ∧ t.culm.inq = s.culm.inq ∧ t.culm.reads = s.culm.reads)) ∧
       (p.parityOk = true → ¬ fine ∨ ¬ may → GivesOnly [.culm, .grn] c s (fun t => t.out = [.culmAnswer 2 []] ∧
         bitOf t.culm.err.status 3 = true ∧ t.culm.inq = s.culm.inq ∧ t.culm.reads = s.culm.reads)) ∧
       (p.parityOk = true → fine → may → p.write = true →
         (s.culm.inq.length < 8 → GivesOnly [.culm] c s (fun t => t.out = [.culmAnswer 0 []] ∧
           t.culm = { u with inq := t.culm.inq } ∧ t.culm.inq.length = s.culm.inq.length + 1)) ∧
         (8 ≤ s.culm.inq.length → ans 1 [] u)) ∧
       (p.parityOk = true → fine → may → p.write = false →
         (s.culm.reads.find? (sameRead p) = none → s.culm.reads.length < 4 → ans 1 [] { u with
           reads := s.culm.reads ++ [⟨p.master, p.addr, p.be, burstWords p, v, none, 0, s.culm.inq.length⟩] }) ∧
         (s.culm.reads.find? (sameRead p) = none → 4 ≤ s.culm.reads.length → ans 1 [] u) ∧
         (∀ r, s.culm.reads = [r] → sameRead p r = true →
           (r.data = none → ans 1 [] u) ∧
           (r.data = some none → ans 2 [] { u with reads := [] }) ∧
           (∀ bs, r.data = some (some bs) → GivesOnly [.culm] c s (fun t => t.out = [.culmAnswer 0 bs] ∧
             t.culm.reads = []))))))) ∧
   (s.culm.pass = true → p.master ∉ s.culm.served → first (p.reqs.filter (fun m => !s.culm.served.contains m)) →
     ∀ v, iWindow s p.addr = some v → p.parityOk = true → p.words = 1 → p.be = 15 → p.write = true →
     bitOf (iAttr s v) 2 = true → s.culm.inq.length < 8 → GivesOnly [.culm] c s (fun t => t.out = [.culmAnswer 0 []] ∧
       t.culm.inq.length = s.culm.inq.length + 1 ∧ t.culm.out = s.culm.out ∧
       ((∀ m ∈ p.reqs, m = p.master ∨ m ∈ s.culm.served) → t.culm.pass = false) ∧
       ((∃ m ∈ p.reqs, m ≠ p.master ∧ m ∉ s.culm.served) → t.culm.pass = true ∧
         t.culm.served = s.culm.served ++ [p.master]))) ∧
   ((s.culm.pass = false ∧ ¬ first p.reqs) ∨ (s.culm.pass = true ∧ p.master ∈ s.culm.served ∧ ∃ m ∈ p.reqs, m ∉ s.culm.served) →
     GivesOnly [.culm] c s (fun t => t.out = [] ∧ t.culm.inq = s.culm.inq ∧ t.culm.reads = s.culm.reads ∧
       t.culm.out = s.culm.out ∧ t.culm.grant = s.culm.grant ∧ t.culm.waiting = p.reqs))) ∧
  (∀ (s : State), s.sup.quenchSince = none →
   (s.culm.inq = [] → exec .inboundWriteIssue s = .next s.begin) ∧
   (∀ v m a words bs rest, s.culm.inq = (v, m, a + 4294967296 * 15, words, bs) :: rest → words = 1 → a % 4 = 0 → a < 2 ^ 32 →
     v < 4 → iBase s v ≤ a → bs.length = 4 → s.culm.iItems.length = 4 →
     ∀ o, inPhys s v a = dramBase + o → o + 4 ≤ 0x100000000 → firewallOk s 0x29 .write (dramBase + o) 4 = true →
       GivesOnly [.culm, .mem] .inboundWriteIssue s (fun t => t.culm.inq = rest ∧
         t.mem.dramGet o 4 = (if bitOf (iAttr s v) 0 then bs.reverse else bs) ∧
         (∀ k, k < o ∨ o + 4 ≤ k → FMap.look t.mem.dram 0 k = FMap.look s.mem.dram 0 k))) ∧
   (∀ r, s.culm.reads = [r] → r.data = none →
     (r.ahead = 0 → Gives (.delayedReadData 0) s (fun t => ∃ d, t.culm.reads = [{ r with data := some d, since := s.clk.now }])) ∧
     (r.ahead ≠ 0 → exec (.delayedReadData 0) s = .next s.begin) ∧
     (exec (.delayedReadDiscard 0) s = .next s.begin)) ∧
   (∀ r d, s.culm.reads = [r] → r.data = some d →
     (r.since + 64500 ≤ s.clk.now → GivesOnly [.culm, .grn] (.delayedReadDiscard 0) s (fun t => t.culm.reads = [] ∧
       bitOf t.culm.err.status 6 = true ∧ t.culm.logTotal = min 0xFFFFFF (s.culm.logTotal + 1))) ∧
     (s.clk.now < r.since + 63500 → exec (.delayedReadDiscard 0) s = .next s.begin)) ∧
   (∀ init inb w, init < 64 → w < (if inb then 4 else 16) → s.culm.oEn.length = 16 → s.culm.oAct.length = 16 →
     s.culm.iEn.length = 4 → s.culm.iAct.length = 4 →
     (init ≠ 0x2B → isVoter s init = false → ∀ v, exec (.culmWindowEnableWrite init inb w v) s = .next s.begin) ∧
     (init = 0x2B ∨ isVoter s init = true → inb = true →
       GivesOnly [.culm] (.culmWindowEnableWrite init inb w 0) s (fun t => nth t.culm.iEn w true = false ∧
         (∀ r ∈ t.culm.reads, r.win ≠ w) ∧ t.culm.inq = s.culm.inq ∧ ∀ x, x ≠ w → nth t.culm.iEn x false = nth s.culm.iEn x false) ∧
       (nth s.culm.iAct w false = false → GivesOnly [.culm] (.culmWindowEnableWrite init inb w 1) s (fun t =>
         nth t.culm.iEn w false = true ∧ nth t.culm.iAct w false = true ∧ t.culm.reads = s.culm.reads))) ∧
     (init = 0x2B ∨ isVoter s init = true → inb = false →
       GivesOnly [.culm, .grn] (.culmWindowEnableWrite init inb w 0) s (fun t => nth t.culm.oEn w true = false ∧
         (∀ b ∈ t.culm.bufs, b.win ≠ w) ∧ t.culm.out = s.culm.out ∧ ∀ x, x ≠ w → nth t.culm.oEn x false = nth s.culm.oEn x false) ∧
       (nth s.culm.oAct w false = false → GivesOnly [.culm] (.culmWindowEnableWrite init inb w 1) s (fun t =>
         nth t.culm.oEn w false = true ∧ nth t.culm.oAct w false = true ∧ t.culm.out = s.culm.out)))))

/-! ## The security engine and the maintenance port (17, 02 R68 and R69) -/

/-- R367 to R370: a handshake within the options of R369, whose chain ends at an enabled anchor and whose signatures and
validity hold, opens a session without privileges and leaves every other; one that fails any of these raises AUTH; where
its options hold the module answers with its certificate and a proof by the identity key; a fifth connection is reset,
and one after the generator failed is turned away. A session idle for 599 to 601 s closes, one that has been used does
not. A failed health test raises RNG and closes every session, and SEC_RNG reads 0 from then on; else it reads a fresh
word. The port answers ARP and echo for its address only. R370 to R372, R374: requests that need no privilege. CHALLENGE
returns 16 bytes and keeps them as the session's nonce; ATTEST returns the statement for the host's nonce, signed; a
token of R372's form for this module, with the unused nonce of less than 59 s ago, a validity that has not passed and a
signature of an enabled authority, grants its PRIV and uses the nonce up; any other token raises AUTH and grants
nothing; READ_REG answers the register's value; READ_MEM answers the bytes of the recorder's area, and REFUSED_FORMAT
outside. Commands it shows to complete: tlsHandshake, sessionIdleTimeout, attest, challenge, token, readReg, readMem,
rngRead, sessionClosed, maintenanceFrameReceive, rngHealthFail. Clauses that rest on a reading or choice of the model:
log 52, 53, 127, 152, 153, 158, 180, 203. -/
def Obligations.SessionsAndRequestsAnswered : Prop :=
  (∀ (s : State), s.sup.quenchSince = none →
   (∀ o : TlsOffer, o.relayed = false → portServes s = true →
     let key := (o.anchor = some 0 ∧ s.fuse.a0Disable = false) ∨
       (∃ k, o.anchor = some 1 ∧ s.area.a1.value = some k) ∨
       (∃ k, o.anchor = some 2 ∧ s.area.a2.value = some k)
     let fine := s.sec.keys = true ∧ o.optionsOk = true ∧ 1 ≤ o.chain ∧ o.chain ≤ 3 ∧ o.sigOk = true ∧ key ∧
       ((s.aon.kept = false ∧ s.sec.clockSet = false) ∨ (o.notBefore ≤ s.aon.rtc ∧ s.aon.rtc ≤ o.notAfter))
     let proof := Config.identitySign s.fuse.helper
       (Config.sha384 (List.replicate 64 0x20 ++ Config.serverContext ++ [0] ++ o.transcript))
     let auth : Out := .serverAuth s.fuse.cert (slice (proof ++ zeros 96) 0 96)
     (s.sec.rngFailed = true ∨ s.sec.debug = true → exec (.tlsHandshake o) s = .next s.begin) ∧
     (s.sec.rngFailed = false → s.sec.debug = false → 4 ≤ s.sec.sessions.length →
       exec (.tlsHandshake o) s = .next { s with out := [.tcp 443 0 true] }) ∧
     (s.sec.rngFailed = false → s.sec.debug = false → s.sec.sessions.length < 4 →
       (fine → GivesOnly [.sec, .grn] (.tlsHandshake o) s (fun t => ∃ y, t.sec.sessions = s.sec.sessions ++ [y] ∧
         t.out = [auth] ∧ y.id < 4 ∧ (∀ x ∈ s.sec.sessions, x.id ≠ y.id) ∧ y.priv = 0 ∧ y.nonce = none ∧ y.idle = s.clk.now ∧
         t.sec = { s.sec with sessions := t.sec.sessions })) ∧
       (¬ fine → GivesOnly [.sec, .grn] (.tlsHandshake o) s (fun t => bitOf t.sec.err.status 3 = true ∧
         t.sec.sessions = s.sec.sessions ∧ t.out = if s.sec.keys && o.optionsOk then [auth] else [])))) ∧
   (∀ ses x, ses < 4 → sessionAt s ses = some x → x.stream = none →
     (x.idle + 601000000000 ≤ s.clk.now → GivesOnly [.sec] (.sessionIdleTimeout ses) s (fun t =>
       t.sec.sessions = s.sec.sessions.filter (fun y => y.id ≠ ses))) ∧
     (s.clk.now < x.idle + 599000000000 → exec (.sessionIdleTimeout ses) s = .next s.begin) ∧
     (GivesOnly [.sec] (.sessionClosed ses) s (fun t => t.sec.sessions = s.sec.sessions.filter (fun y => y.id ≠ ses) ∧
       (∀ i, s.sec.install = some i → i.ses = ses → i.ended = false → t.sec.install = none) ∧
       (∀ i, s.sec.install = some i → i.ended = true → t.sec.install = some i)))) ∧
   (s.sec.ready = true → GivesOnly [.sec, .fab, .grn] .rngHealthFail s (fun t => t.sec.sessions = [] ∧
     t.sec.rngFailed = true ∧ bitOf t.sec.err.status 5 = true)) ∧
   (∀ init, init < 64 → s.mod.mode.released = true → s.sec.ready = true → GivesOnly [.sec] (.rngRead init) s (fun t =>
     ∃ v, t.out = [.response init 0 (le 4 v)] ∧ t.sec = { s.sec with rngLast := BitVec.ofNat 32 v } ∧
       (s.sec.rngFailed = true → v = 0))) ∧
   (∀ addr body, portServes s = true →
     exec (.maintenanceFrameReceive (.arp addr)) s =
       .next { s with out := if addr = 0xA9FE5001 then [.frame 0x30 (be 4 0xA9FE5001)] else [] } ∧
     exec (.maintenanceFrameReceive (.echo addr body)) s =
       .next { s with out := if addr = 0xA9FE5001 then [.frame 0x30 body] else [] } ∧
     exec (.maintenanceFrameReceive .other) s = .next s.begin ∧
     (∀ port num close, addr ≠ 0xA9FE5001 →
       exec (.maintenanceFrameReceive (.tcp addr port num body close)) s = .next s.begin))) ∧
  (∀ (s : State) (r : Req) (x : Session), s.sup.quenchSince = none → r.ses < 4 →
   r.tag < 2 ^ 32 → sessionAt s r.ses = some x → portServes s = true → s.sec.recovery = false →
   let msg := fun (op status : Nat) (d : List Byte) =>
     Out.reply r.ses (le 2 (op + 0x8000) ++ le 2 (1 + d.length) ++ le 4 r.tag ++ le 1 status ++ d)
   GivesOnly [.sec, .fab] (.challenge r) s (fun t => ∃ n, n.length = 16 ∧ t.out = [msg 2 0 n] ∧
     ∃ y, sessionAt t r.ses = some y ∧ y.nonce = some (n, s.clk.now) ∧ y.priv = x.priv) ∧
   (∀ nonce, nonce.length = 16 → s.sec.keys = true → GivesOnly [.sec, .fab] (.attest r nonce) s (fun t =>
     ∃ b, t.out = [msg 1 0 b] ∧ b.length = 312 ∧ leAt b 0 4 = 0x54535441 ∧ leAt b 4 2 = 1 ∧
       slice b 0x10 16 = nonce ∧ leAt b 8 8 = s.fuse.serial % 2 ^ 64 ∧ leAt b 0x3A 2 = s.fuse.rollback % 65536 ∧
       slice b 0xD8 96 = slice (Config.identitySign s.fuse.helper (Config.sha384 (b.take 0xD8)) ++ zeros 96) 0 96)) ∧
   (∀ b n t0, x.nonce = some (n, t0) →
     let form := b.length = 144 ∧ leAt b 0 4 = 0x4E4B4F54 ∧ leAt b 4 2 = 1 ∧ leAt b 6 2 < 2048 ∧ slice b 0x29 3 = zeros 3
     let signed := ∃ k, authorityKey s (leAt b 0x28 1) = some k ∧
       Config.ecdsaOk k (Config.sha384 (b.take 0x30)) (slice b 0x30 48) (slice b 0x60 48) = true
     let inTime := (s.aon.kept = false ∧ s.sec.clockSet = false) ∨ s.aon.rtc ≤ leAt b 0x20 8
     (form → leAt b 8 8 = s.fuse.serial → slice b 0x10 16 = n → s.clk.now - t0 < 59000000000 → inTime → signed →
       GivesOnly [.sec, .fab] (.token r b) s (fun t => t.out = [msg 3 0 []] ∧ ∃ y, sessionAt t r.ses = some y ∧
         y.priv = leAt b 6 2 ∧ y.notAfter = leAt b 0x20 8 ∧ y.authId = w32 (leAt b 0x2C 4) ∧ y.nonce = none)) ∧
     (¬ form ∨ leAt b 8 8 ≠ s.fuse.serial ∨ slice b 0x10 16 ≠ n ∨ 61000000000 < s.clk.now - t0 ∨ ¬ inTime ∨ ¬ signed →
       GivesOnly [.sec, .fab, .grn] (.token r b) s (fun t => bitOf t.sec.err.status 3 = true ∧
         (∃ k, 1 ≤ k ∧ k ≤ 3 ∧ t.out = [msg 3 k []]) ∧ ∃ y, sessionAt t r.ses = some y ∧ y.priv = x.priv))) ∧
   (∀ b, x.nonce = none → GivesOnly [.sec, .fab, .grn] (.token r b) s (fun t => bitOf t.sec.err.status 3 = true ∧
     ∃ y, sessionAt t r.ses = some y ∧ y.priv = x.priv)) ∧
   (∀ w o, w < 19 → o < 0x10000 → o % 4 = 0 → (w ≠ 14 ∨ o ≠ 0x40) → (w ≠ 10 ∧ w ≠ 11 ∨ o < 0x3000) →
     w ≠ 17 ∨ s.mem.mramBad = [] → firewallOk s 0x2B .read (0xF0000000 + 0x10000 * w + o) 4 = true →
     fencedIn s (0xF0000000 + 0x10000 * w + o) = false →
     GivesOnly [.sec, .fab] (.readReg r (0xF0000000 + 0x10000 * w + o) 1) s (fun t =>
       t.out = [msg 0x10 0 (le 4 (regRead s w o).toNat)])) ∧
   (∀ a n, n < 2 ^ 32 → a < 2 ^ 36 →
     (1 ≤ n → n ≤ 16375 → 0x4040000 ≤ a → a + n ≤ 0x4280000 → touchesBad s.mem.mramBad (a - 0x4000000) n = false →
       (∀ p k, a ≤ p → 1 ≤ k → k ≤ 64 → p + k ≤ a + n → firewallOk s 0x2B .read p k = true) →
       GivesOnly [.sec, .fab] (.readMem r a n) s (fun t => t.out = [msg 0x12 0 (s.mem.mramGet (a - 0x4000000) n)])) ∧
     (n = 0 ∨ 16375 < n ∨ a + n ≤ 0x2000000 ∨ (0x2010000 ≤ a ∧ a < 0x4040000) ∨ 0x4280000 < a + n →
       GivesOnly [.sec, .fab] (.readMem r a n) s (fun t => t.out = [msg 0x12 3 []]))))

/-- R370 to R373: a privileged request without its privilege is answered REFUSED_PRIV and raises PRIV, while the install
steps run BUSY; neither does anything else. In recovery only the operations R371 lists are served. WRITE_REG reaches
only R373's registers, as the security engine's own write: with FAULT_RESET it clears a latched output. R361, R371,
R372, R375, R402: the KEYS actions, DEBUG_OPEN and CLEAR_RECORDS with their privilege. A signing slot from 1 to 3 that
is empty takes a key, one that is programmed does not; SLOT_REVOKE sets the slot's bit, but not of the last usable slot;
A0 is disabled once A1 or A2 is present; an anchor and an unwrapped image key are stored; DEBUG_OPEN, under policy TOKEN
and in STOP or SAFE without an active pair, clears every key and closes every other session. Commands it shows to
complete: readReg, writeReg, readMem, clearRecords, imageBegin, imageData, imageEnd, confirm, activate, imageKeyInstall,
anchorInstall, keySlotProgram, slotRevoke, anchorA0Disable, debugOpen. Clauses that rest on a reading or choice of the
model: log 75, 141, 155, 157, 180. -/
def Obligations.PrivilegedRequests : Prop :=
  (∀ (s : State) (r : Req) (x : Session), s.sup.quenchSince = none → r.ses < 4 →
   r.tag < 2 ^ 32 → sessionAt s r.ses = some x → portServes s = true →
   let msg := fun (op status : Nat) (d : List Byte) =>
     Out.reply r.ses (le 2 (op + 0x8000) ++ le 2 (1 + d.length) ++ le 4 r.tag ++ le 1 status ++ d)
   let may := fun (b : Nat) => x.priv.testBit b = true ∧
     ((s.aon.kept = false ∧ s.sec.clockSet = false) ∨ s.aon.rtc ≤ x.notAfter)
   (∀ c b op slot len off bs, slot < 256 → len < 2 ^ 32 → off < 2 ^ 32 → c.wf = true → s.sec.recovery = false →
     ((c, b, op) ∈ [((.clearRecords r : Instr), 7, 0x20), (.imageBegin r len, 5, 0x30), (.imageData r off bs, 5, 0x31),
       (.imageEnd r, 5, 0x32), (.confirm r, 5, 0x33), (.activate r, 5, 0x34), (.imageKeyInstall r slot bs, 9, 0x40),
       (.anchorInstall r slot bs, 9, 0x41), (.keySlotProgram r slot bs, 9, 0x42), (.slotRevoke r slot, 9, 0x43),
       (.anchorA0Disable r, 9, 0x44), (.debugOpen r, 8, 0x50), (.writeReg r 0xF0090030 0, 4, 0x11)]) →
     (¬ may b → GivesOnly [.sec, .fab, .grn] c s (fun t => t.out = [msg op 1 []] ∧ bitOf t.sec.err.status 4 = true ∧
       t.sec.keys = s.sec.keys ∧ t.sec.debug = s.sec.debug ∧ t.sec.trial = s.sec.trial ∧ t.sec.install = s.sec.install)) ∧
     (∀ i, may b → s.sec.install = some i → i.ended = true → GivesOnly [.sec, .fab] c s (fun t => t.out = [msg op 4 []] ∧
       t.sec.keys = s.sec.keys ∧ t.sec.debug = s.sec.debug ∧ t.sec.trial = s.sec.trial ∧ t.sec.install = s.sec.install))) ∧
   (∀ c op, s.sec.recovery = true → (c, op) ∈ [((.clearRecords r : Instr), 0x20), (.confirm r, 0x33), (.activate r, 0x34),
       (.slotRevoke r 0, 0x43), (.anchorA0Disable r, 0x44), (.debugOpen r, 0x50), (.readReg r 0xF0000000 1, 0x10),
       (.readMem r 0x4040000 1, 0x12)] →
     GivesOnly [.sec, .fab] c s (fun t => t.out = [msg op 2 []])) ∧
   (∀ a v, a < 2 ^ 36 → s.sec.recovery = false → (∀ w o, regAt a = some (w, o) → writePriv w o = none) →
     GivesOnly [.sec, .fab] (.writeReg r a v) s (fun t => t.out = [msg 0x11 3 []])) ∧
   (∀ n, n < 16 → s.sec.recovery = false → may 4 → engineBusy s = false → s.fio.on = true → s.fio.dq.length = 16 →
     (s.dq n).highs < 20 → firewallOk s 0x2B .write 0xF0090030 4 = true →
     GivesOnly [.sec, .fab, .grn, .fio, .mem] (.writeReg r 0xF0090030 (w32 (2 ^ n))) s (fun t =>
       t.out = [msg 0x11 0 []] ∧ (t.dq n).cross = false))) ∧
  (∀ (s : State) (r : Req) (x : Session), s.sup.quenchSince = none → r.ses < 4 →
   r.tag < 2 ^ 32 → sessionAt s r.ses = some x → portServes s = true → s.sec.recovery = false → engineBusy s = false →
   let msg := fun (op status : Nat) => Out.reply r.ses (le 2 (op + 0x8000) ++ le 2 1 ++ le 4 r.tag ++ le 1 status)
   (privOf s x 9 = true →
     (∀ slot key, slot < 256 → (Instr.keySlotProgram r slot key).wf = true → s.fuse.slots.length = 4 →
       (1 ≤ slot → slot ≤ 3 → key.length = 96 → nth s.fuse.slots slot none = none →
         GivesOnly [.sec, .fab, .fuse, .grn] (.keySlotProgram r slot key) s (fun t => t.out = [msg 0x42 0] ∧
           t.fuse = { s.fuse with slots := s.fuse.slots.set slot (some key) })) ∧
       (1 ≤ slot → slot ≤ 3 → key.length = 96 → nth s.fuse.slots slot none ≠ none →
         GivesOnly [.sec, .fab] (.keySlotProgram r slot key) s (fun t => t.out = [msg 0x42 2]))) ∧
     (∀ slot, slot < 4 → s.fuse.revoked.length = 4 →
       ((∃ n, n < 4 ∧ n ≠ slot ∧ nth s.fuse.revoked n false = false ∧ nth s.fuse.slots n none ≠ none) →
         GivesOnly [.sec, .fab, .fuse, .grn] (.slotRevoke r slot) s (fun t => t.out = [msg 0x43 0] ∧
           t.fuse = { s.fuse with revoked := s.fuse.revoked.set slot true })) ∧
       ((∀ n, n < 4 → n ≠ slot → nth s.fuse.revoked n false = true ∨ nth s.fuse.slots n none = none) →
         nth s.fuse.revoked slot false = false → nth s.fuse.slots slot none ≠ none →
         GivesOnly [.sec, .fab] (.slotRevoke r slot) s (fun t => t.out = [msg 0x43 2]))) ∧
     (anchorKey s 1 ≠ none ∨ anchorKey s 2 ≠ none → GivesOnly [.sec, .fab, .fuse, .grn] (.anchorA0Disable r) s (fun t =>
       t.out = [msg 0x44 0] ∧ t.fuse = { s.fuse with a0Disable := true })) ∧
     (anchorKey s 1 = none → anchorKey s 2 = none → GivesOnly [.sec, .fab] (.anchorA0Disable r) s (fun t =>
       t.out = [msg 0x44 2])) ∧
     (∀ slot key, s.sec.keys = true → slot = 1 ∨ slot = 2 → key.length = 96 → (Instr.anchorInstall r slot key).wf = true →
       GivesOnly [.sec, .fab, .area, .grn] (.anchorInstall r slot key) s (fun t => t.out = [msg 0x41 0] ∧
         anchorKey t slot = some key ∧ anchorKey t (3 - slot) = anchorKey s (3 - slot))) ∧
     (∀ slot w, s.sec.keys = true → slot < 2 → (Instr.imageKeyInstall r slot w).wf = true →
       (∀ k, Config.unwrapKey s.fuse.helper w = some k → GivesOnly [.sec, .fab, .area, .grn] (.imageKeyInstall r slot w) s
         (fun t => t.out = [msg 0x40 0] ∧ imageKey t slot = some k ∧ imageKey t (1 - slot) = imageKey s (1 - slot))) ∧
       (Config.unwrapKey s.fuse.helper w = none → GivesOnly [.sec, .fab] (.imageKeyInstall r slot w) s (fun t =>
         t.out = [msg 0x40 3])))) ∧
   (privOf s x 8 = true →
     (s.img.debugPolicy = 1 → s.mod.mode = .stop ∨ s.mod.mode = .safe → s.pair.role ≠ 1 ∨ s.pair.report = none →
       GivesOnly [.sec, .fab, .grn] (.debugOpen r) s (fun t => t.sec.debug = true ∧ t.sec.keys = false ∧
         (∀ y ∈ t.sec.sessions, y.id = r.ses) ∧ t.out = [msg 0x50 0])) ∧
     (s.img.debugPolicy ≠ 1 ∨ (s.mod.mode ≠ .stop ∧ s.mod.mode ≠ .safe) → GivesOnly [.sec, .fab] (.debugOpen r) s (fun t =>
       t.sec.debug = s.sec.debug ∧ t.sec.keys = s.sec.keys ∧ t.out = [msg 0x50 2]))) ∧
   (privOf s x 7 = true → s.grn.ready = true → s.grn.queue = [] → s.grn.clears < 2 ^ 32 - 1 →
     GivesOnly [.sec, .fab, .mem, .grn] (.clearRecords r) s (fun t => t.out = [msg 0x20 0] ∧
       t.grn.clears = s.grn.clears + 1 ∧ t.grn.base = s.grn.next ∧ t.grn.next = s.grn.next ∧ t.grn.full = false ∧ t.grn.lost = 0)))

/-- R44, R68, R69, R366, R370: an installation. IMAGE_BEGIN erases the copy that does not run and leaves the one that
runs; IMAGE_DATA programs its bytes there, which only clears bits; IMAGE_END lets the steps run; their end marks a copy
that passes with its SEQUENCE, and one that fails is not marked. Confirmation of a trial copy ends the trial, marks it
GOOD and raises the counter to its SECURITY_VERSION, never lowering it, by CONFIRM, by a store to SEC_IMAGE_CTRL or
after CONFIRM_CYCLES. Commands it shows to complete: imageBegin, imageData, imageEnd, confirm, secImageConfirm,
activate, installationComplete, autoConfirm. Clauses that rest on a reading or choice of the model: log 156. -/
def Obligations.InstallAndConfirm : Prop := ∀ (s : State), s.sup.quenchSince = none →
  let other := fun (t : State) (c : Bool) => if c then t.mem.norA = s.mem.norA else t.mem.norB = s.mem.norB
  let confirmed := fun (t : State) => t.sec.trial = false ∧ markSet t s.sec.copyB 0x18 = true ∧
    t.fuse = { s.fuse with rollback := max s.fuse.rollback (min 255 s.img.secVersion) } ∧ other t s.sec.copyB
  (∀ (r : Req) x, r.ses < 4 → r.tag < 2 ^ 32 → sessionAt s r.ses = some x → portServes s = true → s.sec.recovery = false → privOf s x 5 = true →
    engineBusy s = false →
    let msg := fun (op status : Nat) => Out.reply r.ses (le 2 (op + 0x8000) ++ le 2 1 ++ le 4 r.tag ++ le 1 status)
    (∀ len, len < 2 ^ 32 → s.sec.install = none → copyState s s.sec.copyB = .good →
      (0x600 ≤ len → len ≤ 0x8000000 → len % 64 = 0 → GivesOnly [.sec, .fab, .mem, .grn] (.imageBegin r len) s (fun t =>
        t.out = [msg 0x30 0] ∧ other t (!s.sec.copyB) ∧ copyState t (!s.sec.copyB) = .empty ∧
        (∀ o, o < 0x8000000 → norGet t (!s.sec.copyB) o 1 = [0xFF]) ∧
        ∃ i, t.sec.install = some i ∧ i.ses = r.ses ∧ i.copyB = !s.sec.copyB ∧ i.len = len ∧ i.ended = false)) ∧
      (len < 0x600 ∨ 0x8000000 < len ∨ len % 64 ≠ 0 → GivesOnly [.sec, .fab] (.imageBegin r len) s (fun t =>
        t.out = [msg 0x30 3] ∧ t.sec.install = none))) ∧
    (∀ i, s.sec.install = some i → i.ses = r.ses →
      (∀ off bs, (Instr.imageData r off bs).wf = true → bs ≠ [] → bs.length ≤ 16372 → off + bs.length ≤ i.len →
        GivesOnly [.sec, .fab, .mem, .grn] (.imageData r off bs) s (fun t => t.out = [msg 0x31 0] ∧ other t i.copyB ∧
          norGet t i.copyB off bs.length = List.zipWith (fun (a b : Byte) => a &&& b) (norGet s i.copyB off bs.length) bs)) ∧
      (∀ off bs, (Instr.imageData r off bs).wf = true → bs = [] ∨ i.len < off + bs.length →
        GivesOnly [.sec, .fab] (.imageData r off bs) s (fun t => t.out = [msg 0x31 3])) ∧
      (GivesOnly [.sec, .fab, .grn] (.imageEnd r) s (fun t => t.out = [msg 0x32 0] ∧
        t.sec.install = some { i with ended := true, tag := r.tag }))) ∧
    (s.sec.install = none → GivesOnly [.sec, .fab] (.imageEnd r) s (fun t => t.out = [msg 0x32 2])) ∧
    (s.sec.trial = true → GivesOnly [.sec, .fab, .mem, .fuse, .grn] (.confirm r) s (fun t => t.out = [msg 0x33 0] ∧
      confirmed t)) ∧
    (s.sec.trial = false → GivesOnly [.sec, .fab] (.confirm r) s (fun t => t.out = [msg 0x33 2])) ∧
    (s.mod.mode.released = true → s.mod.mode ≠ .shutdown → s.mod.shutPending = false →
      GivesOnly [.sec, .fab, .mod, .grn] (.activate r) s (fun t => t.out = [msg 0x34 0] ∧ t.mod.restart = true ∧
        t.mod.shutPending = true))) ∧
  (∀ i, s.sec.install = some i → i.ended = true → s.sec.recovery = false →
    ((checkGenuine s i.copyB).1 = 0 → norGet s i.copyB 0x8000000 4 = [0xFF, 0xFF, 0xFF, 0xFF] → i.seq < 2 ^ 32 →
      GivesOnly [.sec, .mem, .grn] .installationComplete s (fun t => t.sec.install = none ∧ copySeq t i.copyB = i.seq ∧
        markSet t i.copyB 0x10 = true ∧ other t i.copyB)) ∧
    ((checkGenuine s i.copyB).1 ≠ 0 → GivesOnly [.sec, .fab, .grn] .installationComplete s (fun t => t.sec.install = none ∧
      t.out = [.reply i.ses (le 2 0x8032 ++ le 2 1 ++ le 4 i.tag ++ le 1 5)] ∧ bitOf t.sec.err.status 0 = true))) ∧
  (∀ i, s.sec.install = some i → i.ended = false → exec .installationComplete s = .next s.begin) ∧
  (∀ init, init < 64 → (s.sec.trial = true → GivesOnly [.sec, .mem, .fuse, .grn] (.secImageConfirm init 1) s confirmed) ∧
    (s.sec.trial = false → exec (.secImageConfirm init 1) s = .next s.begin)) ∧
  (s.sec.trial = true → s.img.confirmCycles ≠ 0 → s.img.confirmCycles ≤ s.cyc.runCycles →
    GivesOnly [.sec, .mem, .fuse, .grn] .autoConfirm s confirmed) ∧
  (s.cyc.runCycles < s.img.confirmCycles ∨ s.img.confirmCycles = 0 → exec .autoConfirm s = .next s.begin)

/-! ## Orderly shut-down (20) and the run of Thresh (18) -/

/-- R414, R415: a request by SDREQ or by GO is held and RESTART kept; step 1 begins with the hand-off where the module
is ACTIVE beside a partner that is STANDBY and FIT; a request in recovery resets the die with CAUSE 4; a RESTART written
while a request is held is kept; a writer that may not write SUP_SHUTDOWN_CTRL changes nothing. R342, R415, R416: a due
shut-down enters SHUTDOWN, opens the grace and asserts BPRST, and goes straight on to the drain where no triad runs; the
last READY of the running TRIAD-mode triads, or the grace timer at 95 ms at least, ends the grace: cores and lanes halt
and, where no word of MRAM is damaged, Granary's queue and counts are written; Thresh runs, the units it tests isolated;
its end resets the die with CAUSE 4, held in SUPERVISED unless RESTART was set. Commands it shows to complete:
shutdownGo, shutdownRestart, shutdownReady, threshRun, sdreqActive, shutdownEntry, shutdownGraceEnd, threshRunDone.
Clauses that rest on a reading or choice of the model: log 95, 149, 150, 201. -/
def Obligations.OrderlyShutdown : Prop :=
  (∀ (s : State), s.mod.mode.released = true → s.mod.mode ≠ .shutdown →
   (s.sec.recovery = false → s.mod.shutPending = false →
     let hand := s.mod.mode.handed && decide (s.mod.mode ≠ .safe) && handoffDue s
     let after := fun (m : Mod) => { s.begin with mod := { m with
       shutPending := true, shutStep := if hand then 1 else 0, handoff := if hand then some s.cyc.cycle else none } }
     exec .sdreqActive s = .next (after { s.mod with sdreq := true, sdreqAt := some s.clk.now, pinReq := true }) ∧
     (∀ init v, shutWriter s init = true → init < 64 → bitOf v 0 = true →
       exec (.shutdownGo init v) s = .next (after { s.mod with restart := s.mod.restart || bitOf v 1 }))) ∧
   (s.sec.recovery = true → ∀ v, bitOf v 0 = true → Gives (.shutdownGo 0x2B v) s (fun t =>
     t.mod.mode = .supervised ∧ t.sup.cause = 4 ∧ t.fuse = s.fuse ∧ t.mem.norA = s.mem.norA ∧
     t.mod.hold = (if s.mod.restart || bitOf v 1 then none else some false))) ∧
   (∀ init, init < 64 → s.mod.shutPending = true → shutWriter s init = true →
     exec (.shutdownRestart init) s = .next { s.begin with mod := { s.mod with restart := true } }) ∧
   (∀ init v, init < 64 → shutWriter s init = false →
     exec (.shutdownGo init v) s = .next s.begin ∧ exec (.shutdownRestart init) s = .next s.begin)) ∧
  (∀ (s : State), s.sup.quenchSince = none → s.mem.mramBad = [] →
   let drained := fun (t : State) => t.mod.shutStep = 4 ∧ (∀ c ∈ t.trd.cores, c.running = false) ∧
     (∀ x ∈ t.trd.triads, x.state = 0 ∨ x.state = 6) ∧ t.grn.incr = [] ∧ (s.grn.ready = true → t.grn.queue = [])
   (s.mod.shutPending = true → s.mod.mode.handed = true → s.mod.mode ≠ .shutdown → handoffOver s = true →
     GivesSettled [.mod, .vyf, .sup, .sch, .hub, .fio, .can0, .can1, .culm, .trd, .awn, .mem, .grn] .shutdownEntry s (fun u =>
       u.mod.mode = .shutdown ∧ u.culm.bprst = true ∧ u.mod.handoff = none ∧
       ((List.range 6).all (fun k => !(s.tri k).runs) = true → drained u) ∧
       ((List.range 6).any (fun k => (s.tri k).runs) = true →
         u.mod.shutStep = 3 ∧ u.mod.graceSince = some s.clk.now ∧ u.mod.ready = 0))) ∧
   (s.mod.shutPending = true → handoffOver s = false → exec .shutdownEntry s = .next { settle s.begin with pending := s.pending }) ∧
   (s.mod.mode = .shutdown → s.mod.shutStep = 3 →
     (∀ init, isVoter s init = true → (∀ k, k < 6 → (s.tri k).runs = true → (s.tri k).split = false → k ≠ init - 0x18 →
         s.mod.ready.testBit k = true) →
       GivesOnly [.mod, .trd, .awn, .mem, .grn] (.shutdownReady init) s (fun t => drained t ∧
         t.mod.ready = s.mod.ready ||| 2 ^ (init - 0x18))) ∧
     (∀ init k, isVoter s init = true → k < 6 → (s.tri k).runs = true → (s.tri k).split = false → k ≠ init - 0x18 →
       s.mod.ready.testBit k = false → exec (.shutdownReady init) s =
         .next { s.begin with mod := { s.mod with ready := s.mod.ready ||| 2 ^ (init - 0x18) } }) ∧
     (∀ t0, s.mod.graceSince = some t0 → t0 + 95000000 ≤ s.clk.now →
       GivesOnly [.mod, .trd, .awn, .mem, .grn] .shutdownGraceEnd s (fun t => drained t ∧ t.mod.ready = s.mod.ready))) ∧
   (s.mod.mode = .shutdown → s.mod.shutStep = 4 → ∀ o, o.wf = true →
     GivesOnly [.mod, .thr, .sec, .mem, .grn] (.threshRun o) s (fun t => t.mod = { s.mod with shutStep := 5 } ∧
       t.sec = { s.sec with keys := false } ∧ t.thr = { s.thr with
         run := some o, source := false, state := 5,
         isolated := (List.range 30).filter (fun u => !(decide (u < 20) && s.thr.retired.contains u)) })) ∧
   (∀ o, s.mod.mode = .shutdown → s.thr.run = some o → Gives .threshRunDone s (fun t =>
     t.mod.mode = .supervised ∧ t.sup.cause = 4 ∧ t.fuse = s.fuse ∧ t.mod.hold = (if s.mod.restart then none else some false))))

/-- R378, R380, R381, R383, R384: what a run of Thresh finds. A repair takes a spare of its own bank that neither a
fuse, an earlier repair nor a failure of the spare itself has taken, and none that is lower and free; a bank is
exhausted only where all its spares are taken; what was retired stays retired, the units that failed are isolated, and a
core is retired for the first of its reasons. Clauses that rest on a reading or choice of the model: log 50, 139, 140,
201. -/
def Obligations.ThreshFindings : Prop := ∀ (s : State) (o : ThreshObs), o.wf = true →
  let f := threshFind s o
  (∀ b k row, (b, k, row) ∈ f.reps → k < 4 ∧ (b, row) ∈ o.rows ∧ unitTested s (b / 32) = true ∧
    (b, k) ∉ o.badSpares ∧ (∀ e ∈ s.fuse.repairs, ¬(e.1 = b ∧ e.2.1 = k)) ∧
    (∀ e ∈ s.thr.repairs, ¬(e.1 = b ∧ e.2.1 = k)) ∧
    (∀ e ∈ f.reps, e.1 = b → (e.2.1 = k ↔ e.2.2 = row))) ∧
  (∀ b ∈ f.exh, ∀ k, k < 4 → spareUsed s o f.reps b k = true) ∧
  (∀ b row, (b, row) ∈ o.rows → unitTested s (b / 32) = true → b ∉ f.exh → ∃ k, (b, k, row) ∈ f.reps) ∧
  (∀ u ∈ f.failed, u < 29 ∧ unitTested s u = true ∧ u ∈ o.lbist) ∧
  (∀ b, Only [.thr] s (thrJoin f o b s) ∧ (thrJoin f o b s).thr.isolated = f.failed) ∧
  (∀ n b, n < 20 → s.thr.retired.contains n = true → (thrJoin f o b s).thr.retired.contains n = true) ∧
  (∀ n r, (n, r) ∈ f.retire → n < 20 ∧ s.thr.retired.contains n = false ∧
    (r = 1 ↔ f.failed.contains n = true) ∧
    (r = 2 → f.failed.contains n = false ∧ ∃ b ∈ f.exh, b / 32 = n))

/-! ## Granary and life data (19) -/

/-- R390, R391, R393, R395, R396, R397, R398: an event of a listed code raises its life counter and queues one record,
stamped with the state it is raised in; a stopped recorder counts it as lost and a full queue as dropped, with DROP; in
SUPERVISED one record of each code is kept; a rate-limited code opens an interval with its first occurrence and counts
the others, whose count its end records; no other code has an effect. The oldest record goes to its slot in order, with
the next sequence number; the record that meets the last slot is given up for 0x3F11, with FULL. Commands it shows to
complete: eventRaise, rateIntervalEnd, recordWritten. Clauses that rest on a reading or choice of the model: log 166,
167, 168, 169. -/
def Obligations.GranaryRecordsEvents : Prop := ∀ (s : State), s.sup.quenchSince = none →
  (∀ c detail d0 d1, codeListed c = true → c ≠ 0x2107 → detail < 65536 → s.mod.mode ≠ .powerOff →
    GivesOnly [.grn] (.eventRaise c detail d0 d1) s (fun t =>
      (rateLimited c = false →
        (s.mod.mode ≠ .supervised → s.grn.full = false → s.grn.queue.length < 16 →
          t.grn = { s.grn with
            queue := s.grn.queue ++ [stamped s c detail 0 d0 d1], incr := FMap.upd s.grn.incr 0 (lifeOff c) (· + 1) }) ∧
        (s.mod.mode ≠ .supervised → s.grn.full = false → 16 ≤ s.grn.queue.length → s.grn.dropped < 0xFFFFFFFF →
          t.grn.queue = s.grn.queue ∧ t.grn.dropped = s.grn.dropped + 1 ∧ t.grn.overflow = s.grn.overflow + 1 ∧
          bitOf t.grn.err.status 1 = true ∧
          FMap.look t.grn.incr 0 (lifeOff 0x2F13) =
            FMap.look s.grn.incr 0 (lifeOff 0x2F13) + (if c = 0x2F13 then 2 else 1)) ∧
        (s.mod.mode ≠ .supervised → s.grn.full = true → s.grn.lost < 0xFFFFFFFF →
          t.grn = { s.grn with
            lost := s.grn.lost + 1, incr := FMap.upd s.grn.incr 0 (lifeOff c) (· + 1) }) ∧
        (s.mod.mode = .supervised → t.grn.queue = s.grn.queue ∧ t.grn.held =
          if s.grn.held.any (fun r => decide (r.code = c)) then s.grn.held
          else s.grn.held ++ [stamped s c detail 0 d0 d1])) ∧
      (rateLimited c = true → rateOpen s c (rateIndex c detail) = true → t.grn.queue = s.grn.queue ∧
        (∀ x ∈ s.grn.rates, x.code = c → x.idx = rateIndex c detail →
          { x with count := x.count + 1, detail := detail, d1 := d1 } ∈ t.grn.rates)) ∧
      (rateLimited c = true → rateOpen s c (rateIndex c detail) = false →
        (∃ x ∈ t.grn.rates, x.code = c ∧ x.idx = rateIndex c detail ∧ x.count = 0 ∧ x.since = s.clk.now) ∧
        (s.mod.mode ≠ .supervised → s.grn.full = false → s.grn.queue.length < 16 →
          ∃ d0', t.grn.queue = s.grn.queue ++ [stamped s c detail 0 d0' d1])) ∧
      (c ≠ 0x2F13 ∨ s.grn.queue.length < 16 → FMap.look t.grn.incr 0 (lifeOff c) = FMap.look s.grn.incr 0 (lifeOff c) + 1))) ∧
  (∀ detail d0 d1, detail < 65536 → s.mod.mode ≠ .powerOff → GivesOnly [.grn, .awn] (.eventRaise 0x2107 detail d0 d1) s (fun t =>
    bitOf t.awn.err.status 6 = true ∧
    FMap.look t.grn.incr 0 (lifeOff 0x2107) = FMap.look s.grn.incr 0 (lifeOff 0x2107) + 1)) ∧
  (∀ c detail d0 d1, c < 65536 → detail < 65536 → codeListed c = false →
    exec (.eventRaise c detail d0 d1) s = .next s.begin) ∧
  (∀ x, s.grn.rates = [x] → x.code < 65536 → x.idx < 65536 → s.mod.mode ≠ .powerOff → s.mod.mode ≠ .supervised →
    (x.since + 1000000000 ≤ s.clk.now → x.count = 0 → exec (.rateIntervalEnd x.code x.idx) s =
      .next { s.begin with grn := { s.grn with rates := [] } }) ∧
    (x.since + 1000000000 ≤ s.clk.now → 0 < x.count → s.grn.full = false → s.grn.queue.length < 16 →
      exec (.rateIntervalEnd x.code x.idx) s = .next { s.begin with
        grn := { s.grn with
          rates := [{ x with since := s.clk.now, count := 0 }],
          queue := s.grn.queue ++ [stamped s x.code x.detail 1 (w32 x.count) x.d1] } })) ∧
  (∀ r q, s.grn.ready = true → s.grn.queue = r :: q → s.grn.full = false →
    (ringHeld s < 65535 → s.grn.overflow = 0 → exec .recordWritten s = .next { s.begin with
      mem := s.mem.mramPut (slotOff (ringHeld s)) (recBytes r s.grn.next),
      grn := { s.grn with queue := q, next := (s.grn.next + 1) % 2 ^ 32 } }) ∧
    (ringHeld s < 65535 → 0 < s.grn.overflow → GivesOnly [.mem, .grn] .recordWritten s (fun t =>
      t.mem = s.mem.mramPut (slotOff (ringHeld s)) (recBytes r s.grn.next) ∧ t.grn.overflow = 0 ∧
      t.grn.queue = q ++ [stamped s 0x2F13 0 0 (w32 s.grn.overflow) 0])) ∧
    (ringHeld s = 65535 → GivesOnly [.mem, .grn] .recordWritten s (fun t =>
      t.mem = s.mem.mramPut (slotOff 65535)
        (recBytes { r with code := 0x3F11, flags := 0, detail := 0, d0 := 0, d1 := 0 } s.grn.next) ∧
      t.grn.full = true ∧ t.grn.lost = 1 ∧ bitOf t.grn.err.status 0 = true)))

/-- R180, R403, R404: at the write tick every 64-bit count that has gained increments is written to its place in MRAM,
and nothing else of MRAM changes, so that no read of a count changes; each operating second raises one bin of the
temperature and one of the input voltage; the operating-seconds count, once it is the module's (R181, log 92), is copied
to the older of its two slots. A count whose word is damaged is no part of this. Commands it shows to complete:
hoursCopy, recordWritten, lifeWriteTick, operatingSecond. Clauses that rest on a reading or choice of the model: log
190. -/
def Obligations.LifeDataKept : Prop := ∀ (s : State),
  (s.grn.ready = true → FMap.wf 0 s.grn.incr = true → (∀ e ∈ s.grn.incr, touchesBad s.mem.mramBad e.1 8 = false) → (∀ e ∈ s.grn.incr, e.1 % 8 = 0) →
    GivesOnly [.mem, .grn] .lifeWriteTick s (fun t => t.grn = { s.grn with incr := [] } ∧
      (∀ off, off % 8 = 0 → lifeRead t off = lifeRead s off) ∧
      (∀ off n, off % 8 = 0 → (off, n) ∈ s.grn.incr → leNat (t.mem.mramGet off 8) = lifeRead s off) ∧
      (∀ a, (∀ e ∈ s.grn.incr, a < e.1 ∨ e.1 + 8 ≤ a) → t.mem.mramGet a 1 = s.mem.mramGet a 1) ∧
      t.mem.dram = s.mem.dram ∧ t.mem.norA = s.mem.norA ∧ t.mem.norB = s.mem.norB)) ∧
  (s.grn.ready = false → exec .lifeWriteTick s = .next s.begin ∧ exec .recordWritten s = .next s.begin) ∧
  (s.mod.mode.released = true → GivesOnly [.grn] .operatingSecond s (fun t =>
    (∀ off, off ≠ 0x241180 + 8 * tempBin s.sch.tmax → off ≠ 0x241200 + 8 * vinBin s.sup.vin →
      FMap.look t.grn.incr 0 off = FMap.look s.grn.incr 0 off) ∧
    (∀ k : Nat, 1 ≤ k → k ≤ 14 → 4 * (-40 + 10 * (k : Int)) ≤ s.sch.tmax → s.sch.tmax < 4 * (-30 + 10 * (k : Int)) →
      FMap.look t.grn.incr 0 (0x241180 + 8 * k) = FMap.look s.grn.incr 0 (0x241180 + 8 * k) + 1) ∧
    (s.sch.tmax < -120 → FMap.look t.grn.incr 0 0x241180 = FMap.look s.grn.incr 0 0x241180 + 1) ∧
    (440 ≤ s.sch.tmax → FMap.look t.grn.incr 0 0x2411F8 = FMap.look s.grn.incr 0 0x2411F8 + 1) ∧
    (∀ k, 1 ≤ k → k ≤ 14 → 100 * (10 * k + 10) ≤ s.sup.vin → s.sup.vin < 100 * (10 * k + 20) →
      FMap.look t.grn.incr 0 (0x241200 + 8 * k) = FMap.look s.grn.incr 0 (0x241200 + 8 * k) + 1) ∧
    (s.sup.vin < 2000 → FMap.look t.grn.incr 0 0x241200 = FMap.look s.grn.incr 0 0x241200 + 1) ∧
    (16000 ≤ s.sup.vin → FMap.look t.grn.incr 0 0x241278 = FMap.look s.grn.incr 0 0x241278 + 1))) ∧
  (s.mod.mode.released = true → s.aon.whole = true →
    (∀ a b, slot64 s 0 8 = some a → slot64 s 0x40 8 = some b → exec .hoursCopy s = .next { s.begin with
      mem := s.mem.mramPut (0x40 * ((Nat.max a b + 1) % 2))
        (sealed64 (le 8 s.aon.secs ++ le 4 (Nat.max a b + 1) ++ zeros 48)) }) ∧
    (∀ a, slot64 s 0 8 = some a ∧ slot64 s 0x40 8 = none ∨ slot64 s 0 8 = none ∧ slot64 s 0x40 8 = some a →
      exec .hoursCopy s = .next { s.begin with
        mem := s.mem.mramPut (0x40 * ((a + 1) % 2)) (sealed64 (le 8 s.aon.secs ++ le 4 (a + 1) ++ zeros 48)) }))

/-! ## The whole module -/

/-- The model's own queue and time (the row's cut, log 1): a step takes the command at the front and answers its meaning
on the state with the queue's rest; with none waiting, 8 ns pass and only the clock and the always-on domain change.
Clauses that rest on a reading or choice of the model: log 1. -/
def Obligations.StepRunsFrontCommand : Prop := ∀ (s : State),
  (∀ c r, s.pending = c :: r → step s = exec c { s with pending := r }) ∧
  (∀ c, step (s.withFront c) = exec c s) ∧
  (s.pending = [] → ∃ t, step s = .next t ∧ t.clk.now = s.clk.now + 8 ∧ Only [.clk, .aon] s t)

/-- The model's own closing clause (log 6): every command answers a next state in every state, with the waiting commands
as they were, and one whose operands name what the part does not have changes nothing. Clauses that rest on a reading or
choice of the model: log 6. -/
def Obligations.EveryCommandCompletes : Prop := ∀ (c : Instr) (s : State),
  (∃ t, exec c s = .next t ∧ t.pending = s.pending) ∧ (c.wf = false → exec c s = .next s.begin)

/-- R195, R412, R413, R4: the machine right after a power-on reset is SUPERVISED with CAUSE 0 and without a role,
nothing is loaded, locked, latched or pending, every output is off, no triad runs, and the invariants of this model
hold. Clauses that rest on a reading or choice of the model: log 2, 7. -/
def Obligations.ResetState : Prop :=
  let s := State.reset
  s.mod.mode = .supervised ∧ s.pending = [] ∧ s.pair.role = 0 ∧ s.sup.cause = 0 ∧ s.img.loaded = false ∧ s.sec.lock = false ∧
    s.grn.queue = [] ∧ s.grn.ready = false ∧ s.grn.full = false ∧ s.fio.on = false ∧ s.awn.state = 0 ∧ s.awn.en = false ∧
    (∀ c ∈ s.trd.cores, c.running = false) ∧ (∀ x ∈ s.trd.triads, x.state = 0 ∧ x.voting = false) ∧
    s.sch.level = 0 ∧ s.sup.brace = false ∧ s.fab.map = [] ∧ s.sec.sessions = [] ∧ s.culm.out = [] ∧
    (∀ w o, lkAt s w o = 0) ∧ s.canonical ∧ s.shaped ∧ OutputsWhereAllowed s

/-- R361, R366: once a fuse is blown, nothing restores it, and the anti-rollback counter only rises, whatever command
runs. -/
def Obligations.FusesOnlyBlown : Prop := ∀ (s t : State), step s = .next t → s.fuse.onlyBlown t.fuse

/-- R4, R412: every step moves the module between states by one of the moves there are; SAFE is left only for SHUTDOWN,
or by a reset or a loss of supply, and only POWER-OFF and SUPERVISED lead to the start. -/
def Obligations.ModuleStateMoves : Prop := ∀ (s t : State), step s = .next t →
  s.mod.mode.goes t.mod.mode = true ∧
  (s.mod.mode = .safe → t.mod.mode = .safe ∨ t.mod.mode = .shutdown ∨ t.mod.mode = .supervised ∨ t.mod.mode = .powerOff) ∧
  (t.mod.mode = .boot → s.mod.mode = .boot ∨ s.mod.mode = .supervised) ∧
  (t.mod.mode = .run → s.mod.mode = .run ∨ s.mod.mode = .stop ∨ s.mod.mode = .hold ∨ s.mod.mode = .brace)

/-- R4, R5, R313: no step leaves a field output on, or a group switch closed, outside STOP, RUN, HOLD and BRACE, or in a
module that is CANDIDATE or STANDBY. -/
def Obligations.OutputsActOnlyWhereAllowed : Prop := ∀ (s t : State), step s = .next t →
  OutputsWhereAllowed s → OutputsWhereAllowed t

/-- The canonical form of the memories, of the LK store, of the held life increments and of the Awn timers is kept by
every step. -/
def Obligations.TablesStayCanonical : Prop := ∀ (s t : State), step s = .next t → s.canonical → t.canonical

/-- The number of units of each kind is kept by every step. -/
def Obligations.UnitsStayInNumber : Prop := ∀ (s t : State), step s = .next t → s.shaped → t.shaped
end

