-- ==== Sys2Proof/Laws/Check.lean ====
section
/-! SUPPORT. The check code of Rachis (01 R25): whatever the die's columns are, the code is a Hsiao code, its address term
shows every single and every double address difference, and a syndrome is what the changed bits make it. -/

namespace Sys2Proof.Laws

open Sys2Proof.Machine

/-- The columns that stand in are a Hsiao code's. -/
theorem stdData_ok : colsOk 64 dataColOk (fun k => nth stdData k 7) = true := by decide +kernel

/-- The address columns that stand in are even and different. -/
theorem stdAddr_ok : colsOk 33 addrColOk (fun k => nth stdAddr k 3) = true := by decide +kernel

/-- The data columns make a Hsiao code. -/
theorem dataColumn_ok : colsOk 64 dataColOk dataColumn = true := by
  by_cases h : colsOk 64 dataColOk Config.dataCols = true
  · have e : dataColumn = Config.dataCols := by funext k; simp [dataColumn, h]
    rw [e, h]
  · have e : dataColumn = fun k => nth stdData k 7 := by funext k; simp [dataColumn, h]
    rw [e]; exact stdData_ok

/-- The address columns are even, not zero and all different. -/
theorem addrColumn_ok : colsOk 33 addrColOk addrColumn = true := by
  by_cases h : colsOk 33 addrColOk Config.addrCols = true
  · have e : addrColumn = Config.addrCols := by funext k; simp [addrColumn, h]
    rw [e, h]
  · have e : addrColumn = fun k => nth stdAddr k 3 := by funext k; simp [addrColumn, h]
    rw [e]; exact stdAddr_ok

/-- Each column of a good set has its property. -/
theorem colsOk_at {n : Nat} {p : Nat → Bool} {c : Nat → Nat} (h : colsOk n p c = true) {k : Nat} (hk : k < n) :
    p (c k) = true := by
  have h2 := (Bool.and_eq_true _ _ ▸ h : _ ∧ _).2
  simp only [List.all_map, List.all_eq_true, List.mem_range] at h2
  exact h2 k hk

/-- Two columns of a good set differ. -/
theorem colsOk_ne {n : Nat} {p : Nat → Bool} {c : Nat → Nat} (h : colsOk n p c = true) {i j : Nat} (hi : i < n) (hj : j < n)
    (hne : i ≠ j) : c i ≠ c j := by
  have h1 := of_decide_eq_true (Bool.and_eq_true _ _ ▸ h : _ ∧ _).1
  intro e
  exact hne ((List.nodup_map_iff_inj_on List.nodup_range).1 h1 i (List.mem_range.2 hi) j (List.mem_range.2 hj) e)

/-- The number of entries where exactly one of two tests holds is even or odd as the sum of both numbers is. -/
theorem filter_xor_length {α : Type} (l : List α) (p q : α → Bool) :
    (l.filter (fun x => p x ^^ q x)).length % 2 = ((l.filter p).length + (l.filter q).length) % 2 := by
  induction l with
  | nil => rfl
  | cons x t ih => cases hp : p x <;> cases hq : q x <;> simp [hp, hq] <;> omega

/-- The weight of a sum of two bytes is even or odd as the weights' sum is. -/
theorem weight_xor (a b : Nat) : weight (a ^^^ b) % 2 = (weight a + weight b) % 2 := by
  simp only [weight, Nat.testBit_xor]
  exact filter_xor_length _ _ _

/-- A sum of two numbers is 0 only where they are equal. -/
theorem xor_ne_zero {a b : Nat} (h : a ≠ b) : a ^^^ b ≠ 0 := by
  intro e
  apply h
  have : a ^^^ b ^^^ b = b := by rw [e]; simp
  simpa [Nat.xor_assoc] using this

/-- A beat with nothing changed and rightly delivered is good. -/
theorem beatFound_clean : beatFound [] 0 = .good := by simp [beatFound]

/-- Two data bits changed are uncorrectable. -/
theorem beatFound_two {i j : Nat} (hi : i < 64) (hj : j < 64) (h : i ≠ j) : beatFound [i, j] 0 = .uncorrectable := by
  have ci := colsOk_at dataColumn_ok hi
  have cj := colsOk_at dataColumn_ok hj
  have ne := xor_ne_zero (colsOk_ne dataColumn_ok hi hj h)
  have w := weight_xor (dataColumn i) (dataColumn j)
  simp only [dataColOk, Bool.and_eq_true, decide_eq_true_eq] at ci cj
  simp [beatFound, syndrome, beatColumn, hi, hj, ne]
  omega

/-- A sum of columns, `c k` for every `k` of the list with `p k`. -/
theorem fold_from (c : Nat → Nat) (p : Nat → Bool) (l : List Nat) (a : Nat) :
    l.foldl (fun x k => if p k then x ^^^ c k else x) a = a ^^^ l.foldl (fun x k => if p k then x ^^^ c k else x) 0 := by
  induction l generalizing a with
  | nil => simp
  | cons k t ih =>
    simp only [List.foldl_cons]
    cases hp : p k
    · simpa using ih a
    · simp only [if_true, Nat.zero_xor]
      rw [ih (a ^^^ c k), ih (c k), Nat.xor_assoc]

/-- The sums over two tests add up to the sum over their difference. -/
theorem fold_xor (c : Nat → Nat) (p q : Nat → Bool) (l : List Nat) :
    l.foldl (fun x k => if (p k ^^ q k) then x ^^^ c k else x) 0 =
      l.foldl (fun x k => if p k then x ^^^ c k else x) 0 ^^^ l.foldl (fun x k => if q k then x ^^^ c k else x) 0 := by
  induction l with
  | nil => simp
  | cons k t ih =>
    simp only [List.foldl_cons]
    cases hp : p k <;> cases hq : q k <;> simp only [Bool.xor_false, Bool.xor_true, Bool.not_true, Bool.not_false,
      Bool.false_eq_true, if_true, if_false, Nat.zero_xor]
    · exact ih
    · rw [fold_from, ih, fold_from c q t (c k)]; ac_rfl
    · rw [fold_from, ih, fold_from c p t (c k)]; ac_rfl
    · rw [ih, fold_from c p t (c k), fold_from c q t (c k)]
      generalize List.foldl (fun x k => if p k = true then x ^^^ c k else x) 0 t = u
      generalize List.foldl (fun x k => if q k = true then x ^^^ c k else x) 0 t = v
      have : c k ^^^ u ^^^ (c k ^^^ v) = (c k ^^^ c k) ^^^ (u ^^^ v) := by ac_rfl
      rw [this]; simp

/-- The sum over the one entry `k` of a list without repeats. -/
theorem fold_one (c : Nat → Nat) (k : Nat) (l : List Nat) (hn : l.Nodup) (hk : k ∈ l) :
    l.foldl (fun x j => if decide (k = j) then x ^^^ c j else x) 0 = c k := by
  induction l with
  | nil => cases hk
  | cons j t ih =>
    have hn2 := List.nodup_cons.1 hn
    by_cases e : k = j
    · subst e
      simp only [List.foldl_cons, decide_true, if_true, Nat.zero_xor]
      rw [fold_from]
      have z : ∀ u : List Nat, k ∉ u → u.foldl (fun x j => if decide (k = j) then x ^^^ c j else x) 0 = 0 := by
        intro u hu
        induction u with
        | nil => rfl
        | cons a b ihb =>
          have hu2 := not_or.1 (fun h => hu (List.mem_cons.2 h))
          simp only [List.foldl_cons, hu2.1, decide_false, Bool.false_eq_true, if_false]
          exact ihb hu2.2
      rw [z t hn2.1]; simp
    · have hkt : k ∈ t := by
        rcases List.mem_cons.1 hk with h | h
        · exact absurd h e
        · exact h
      simp only [List.foldl_cons, e, decide_false, Bool.false_eq_true, if_false]
      exact ih hn2.2 hkt

/-- The address term is linear. -/
theorem addrTerm_xor (a b : Nat) : addrTerm (a ^^^ b) = addrTerm a ^^^ addrTerm b := by
  simp only [addrTerm, Nat.testBit_xor]
  exact fold_xor _ _ _ _

/-- The address term of one address bit is its column. -/
theorem addrTerm_one {k : Nat} (hk : k < 33) : addrTerm (2 ^ (k + 3)) = addrColumn k := by
  have e : ∀ j, (2 ^ (k + 3)).testBit (j + 3) = decide (k = j) := by
    intro j; rw [Nat.testBit_two_pow]; simp
  simp only [addrTerm, e]
  exact fold_one addrColumn k _ List.nodup_range (List.mem_range.2 hk)

/-- The check bits are linear in data and address: what a receiving end recomputes over a beat with data bits `d` changed, at
an address off by `e`, differs from what travelled with it by the code of `d` and `e` alone (R25). -/
theorem checkBits_xor (a e : Nat) (x d : Dword) :
    checkBits (a ^^^ e) (x ^^^ d) = checkBits a x ^^^ checkBits e d := by
  simp only [checkBits, BitVec.getLsbD_xor]
  rw [fold_from, fold_xor, addrTerm_xor, fold_from dataColumn (fun k => x.getLsbD k) _ (addrTerm a),
    fold_from dataColumn (fun k => d.getLsbD k) _ (addrTerm e)]
  ac_rfl

/-- A beat whole but delivered to an address that differs in one bit of [35:3] is uncorrectable. -/
theorem beatFound_addr_one {k : Nat} (hk : k < 33) : beatFound [] (2 ^ (k + 3)) = .uncorrectable := by
  have c := colsOk_at addrColumn_ok hk
  simp only [addrColOk, Bool.and_eq_true, decide_eq_true_eq] at c
  simp [beatFound, syndrome, addrTerm_one hk, c.1.2, c.2]

/-- … and so is one delivered to an address that differs in two. -/
theorem beatFound_addr_two {i j : Nat} (hi : i < 33) (hj : j < 33) (h : i ≠ j) :
    beatFound [] (2 ^ (i + 3) ^^^ 2 ^ (j + 3)) = .uncorrectable := by
  have ci := colsOk_at addrColumn_ok hi
  have cj := colsOk_at addrColumn_ok hj
  simp only [addrColOk, Bool.and_eq_true, decide_eq_true_eq] at ci cj
  have ne := xor_ne_zero (colsOk_ne addrColumn_ok hi hj h)
  have w := weight_xor (addrColumn i) (addrColumn j)
  have p : (2 : Nat) ^ (i + 3) ^^^ 2 ^ (j + 3) ≠ 0 := by
    apply xor_ne_zero
    intro e
    have := Nat.pow_right_injective (Nat.le_refl 2) e
    omega
  simp only [beatFound, syndrome, addrTerm_xor, addrTerm_one hi, addrTerm_one hj, p, if_neg ne, List.foldl_nil, if_false, and_false]
  rw [if_pos (by omega)]

end Sys2Proof.Laws
end

