-- ==== Sys2Proof/Laws/Map.lean ====
section
/-! SUPPORT. The laws of sparse data: a read after a write to the same number gives the value written, a write leaves every
other number alone, and every operation keeps the canonical form. -/

namespace Sys2Proof

open Sys2Proof.Machine

variable {α : Type}

@[simp] theorem FMap.look_nil (d : α) (k : Nat) : FMap.look [] d k = d := rfl

theorem FMap.look_cons (m : FMap α) (d w : α) (j k : Nat) :
    FMap.look ((j, w) :: m) d k = if j = k then w else FMap.look m d k := rfl

theorem FMap.look_drop (m : FMap α) (d : α) (k j : Nat) :
    FMap.look (FMap.drop m k) d j = if j = k then d else FMap.look m d j := by
  induction m with
  | nil => simp [FMap.drop, FMap.look]
  | cons e t ih =>
    obtain ⟨i, w⟩ := e
    by_cases hik : i = k
    · subst hik
      simp only [FMap.drop, if_pos, FMap.look_cons, ih]
      by_cases hj : j = i <;> simp [hj, eq_comm]
    · simp only [FMap.drop, if_neg hik, FMap.look_cons, ih]
      by_cases hij : i = j
      · subst hij; simp [hik]
      · simp [hij]

theorem FMap.look_insert (m : FMap α) (d v : α) (k j : Nat) :
    FMap.look (FMap.insert m k v) d j = if j = k then v else FMap.look m d j := by
  induction m with
  | nil =>
    by_cases h : j = k
    · simp [FMap.insert, FMap.look, h]
    · simp [FMap.insert, FMap.look, h, Ne.symm h]
  | cons e t ih =>
    obtain ⟨i, w⟩ := e
    simp only [FMap.insert]
    by_cases h1 : k < i
    · simp only [if_pos h1, FMap.look_cons]
      by_cases hj : j = k
      · simp [hj]
      · simp [hj, Ne.symm hj]
    · by_cases h2 : i = k
      · subst h2
        simp only [if_neg h1, if_true, FMap.look_cons]
        by_cases hj : j = i <;> simp [hj, eq_comm]
      · simp only [if_neg h1, if_neg h2, FMap.look_cons, ih]
        by_cases hij : i = j
        · subst hij; simp [h2]
        · simp [hij]

/-- A read after a write. -/
@[simp] theorem FMap.look_store [DecidableEq α] (m : FMap α) (d v : α) (k j : Nat) :
    FMap.look (FMap.store m d k v) d j = if j = k then v else FMap.look m d j := by
  unfold FMap.store
  split
  · next h => subst h; exact FMap.look_drop ..
  · exact FMap.look_insert ..

@[simp] theorem FMap.look_upd [DecidableEq α] (m : FMap α) (d : α) (k j : Nat) (f : α → α) :
    FMap.look (FMap.upd m d k f) d j = if j = k then f (FMap.look m d k) else FMap.look m d j := by
  simp [FMap.upd]

/-- A read after a write of several values: inside it the value written, outside it what was there. -/
theorem FMap.look_storeList [DecidableEq α] (vs : List α) (m : FMap α) (d : α) (k j : Nat) :
    FMap.look (FMap.storeList m d k vs) d j =
      if k ≤ j ∧ j < k + vs.length then vs.getD (j - k) d else FMap.look m d j := by
  induction vs generalizing m k with
  | nil =>
    have h : ¬ (k ≤ j ∧ j < k + ([] : List α).length) := by simp
    rw [if_neg h]; rfl
  | cons v t ih =>
    simp only [FMap.storeList, ih, FMap.look_store, List.length_cons]
    by_cases h1 : j = k
    · subst h1; simp
    · by_cases h2 : k + 1 ≤ j ∧ j < k + 1 + t.length
      · have h3 : k ≤ j ∧ j < k + (t.length + 1) := by omega
        rw [if_pos h2, if_pos h3]
        obtain ⟨n, hn⟩ : ∃ n, j - k = n + 1 := ⟨j - k - 1, by omega⟩
        have hm : j - (k + 1) = n := by omega
        simp [hn, hm]
      · have h3 : ¬ (k ≤ j ∧ j < k + (t.length + 1)) := by omega
        rw [if_neg h2, if_neg h3, if_neg h1]

theorem FMap.lookList_storeList [DecidableEq α] (vs : List α) (m : FMap α) (d : α) (k : Nat) :
    FMap.lookList (FMap.storeList m d k vs) d k vs.length = vs := by
  apply List.ext_getElem
  · simp [FMap.lookList]
  · intro i h1 h2
    simp [FMap.lookList, FMap.look_storeList, h2]

/-! ## The canonical form -/

/-- The canonical form with every number above `b`. -/
theorem FMap.wfFrom_mono [DecidableEq α] {d : α} {b c : Option Nat} {m : FMap α}
    (hbc : match b, c with | none, _ => True | some x, some y => x ≤ y | some _, none => False)
    (h : FMap.wfFrom d c m = true) : FMap.wfFrom d b m = true := by
  cases m with
  | nil => rfl
  | cons e t =>
    obtain ⟨j, w⟩ := e
    simp only [FMap.wfFrom, Bool.and_eq_true] at h ⊢
    refine ⟨⟨?_, h.1.2⟩, h.2⟩
    cases b with
    | none => rfl
    | some x =>
      cases c with
      | none => exact absurd hbc id
      | some y =>
        have hxy : x ≤ y := hbc
        have := h.1.1
        simp at this ⊢; omega

theorem FMap.drop_wfFrom [DecidableEq α] {d : α} {b : Option Nat} {m : FMap α} (k : Nat)
    (h : FMap.wfFrom d b m = true) : FMap.wfFrom d b (FMap.drop m k) = true := by
  induction m generalizing b with
  | nil => rfl
  | cons e t ih =>
    obtain ⟨j, w⟩ := e
    simp only [FMap.wfFrom, Bool.and_eq_true] at h
    simp only [FMap.drop]
    split
    · exact ih (FMap.wfFrom_mono (by cases b <;> simp_all; omega) h.2)
    · simp only [FMap.wfFrom, Bool.and_eq_true]; exact ⟨h.1, ih h.2⟩

theorem FMap.insert_wfFrom [DecidableEq α] {d v : α} {b : Option Nat} {m : FMap α} {k : Nat} (hv : v ≠ d)
    (hb : match b with | none => True | some x => x < k) (h : FMap.wfFrom d b m = true) :
    FMap.wfFrom d b (FMap.insert m k v) = true := by
  induction m generalizing b with
  | nil => cases b <;> simp_all [FMap.insert, FMap.wfFrom]
  | cons e t ih =>
    obtain ⟨j, w⟩ := e
    simp only [FMap.wfFrom, Bool.and_eq_true] at h
    simp only [FMap.insert]
    split
    · next hk =>
      simp only [FMap.wfFrom, Bool.and_eq_true]
      exact ⟨⟨by cases b <;> simp_all, by simpa using hv⟩, ⟨by simpa using hk, h.1.2⟩, h.2⟩
    · next hk =>
      split
      · next hj =>
        subst hj
        simp only [FMap.wfFrom, Bool.and_eq_true]
        exact ⟨⟨by cases b <;> simp_all, by simpa using hv⟩, h.2⟩
      · next hj =>
        simp only [FMap.wfFrom, Bool.and_eq_true]
        exact ⟨h.1, ih (by simp; omega) h.2⟩

/-- A write keeps the canonical form. -/
theorem FMap.store_wf [DecidableEq α] {d : α} {m : FMap α} (k : Nat) (v : α) (h : FMap.wf d m = true) :
    FMap.wf d (FMap.store m d k v) = true := by
  unfold FMap.store FMap.wf
  split
  · exact FMap.drop_wfFrom k h
  · next hv => exact FMap.insert_wfFrom hv trivial h

/-- A change of one value keeps it. -/
theorem FMap.upd_wf [DecidableEq α] {d : α} {m : FMap α} (k : Nat) (f : α → α) (h : FMap.wf d m = true) :
    FMap.wf d (FMap.upd m d k f) = true := FMap.store_wf k _ h

/-- A write of several values keeps it. -/
theorem FMap.storeList_wf [DecidableEq α] {d : α} {m : FMap α} (k : Nat) (vs : List α) (h : FMap.wf d m = true) :
    FMap.wf d (FMap.storeList m d k vs) = true := by
  induction vs generalizing m k with
  | nil => exact h
  | cons v t ih => exact ih (k + 1) (FMap.store_wf k v h)

/-- Clearing a range of entries keeps the canonical form. -/
theorem FMap.filter_wf [DecidableEq α] {d : α} {m : FMap α} (p : Nat × α → Bool) (h : FMap.wf d m = true) :
    FMap.wf d (m.filter p) = true := by
  have key : ∀ (m : FMap α) (b : Option Nat), FMap.wfFrom d b m = true → FMap.wfFrom d b (m.filter p) = true := by
    intro m
    induction m with
    | nil => intro b _; rfl
    | cons e t ih =>
      intro b h
      obtain ⟨j, w⟩ := e
      simp only [FMap.wfFrom, Bool.and_eq_true] at h
      simp only [List.filter_cons]
      split
      · simp only [FMap.wfFrom, Bool.and_eq_true]; exact ⟨h.1, ih _ h.2⟩
      · exact ih _ (FMap.wfFrom_mono (by cases b <;> simp_all; omega) h.2)
  exact key m none h

/-- Changing every listed value keeps the canonical form. -/
theorem FMap.mapv_wf [DecidableEq α] {d : α} {m : FMap α} (f : α → α) (h : FMap.wf d m = true) :
    FMap.wf d (FMap.mapv m d f) = true := by
  have key : ∀ (m : FMap α) (b : Option Nat), FMap.wfFrom d b m = true → FMap.wfFrom d b (FMap.mapv m d f) = true := by
    intro m
    induction m with
    | nil => intro b _; rfl
    | cons e t ih =>
      intro b h
      obtain ⟨j, w⟩ := e
      simp only [FMap.wfFrom, Bool.and_eq_true] at h
      simp only [FMap.mapv]
      split
      · exact ih _ (FMap.wfFrom_mono (by cases b <;> simp_all; omega) h.2)
      · next hw => simp only [FMap.wfFrom, Bool.and_eq_true]; exact ⟨⟨h.1.1, by simpa using hw⟩, ih _ h.2⟩
  exact key m none h

/-- The first entries of a canonical table are one. -/
theorem FMap.take_wf [DecidableEq α] {d : α} {m : FMap α} (n : Nat) (h : FMap.wf d m = true) :
    FMap.wf d (m.take n) = true := by
  have key : ∀ (n : Nat) (m : FMap α) (b : Option Nat), FMap.wfFrom d b m = true → FMap.wfFrom d b (m.take n) = true := by
    intro n
    induction n with
    | zero => intro m b _; rfl
    | succ n ih =>
      intro m b h
      cases m with
      | nil => rfl
      | cons e t =>
        obtain ⟨j, w⟩ := e
        simp only [FMap.wfFrom, Bool.and_eq_true] at h
        simp only [List.take_succ_cons, FMap.wfFrom, Bool.and_eq_true]
        exact ⟨h.1, ih _ _ h.2⟩
  exact key n m none h

/-- Changing an entry keeps the length. -/
@[simp] theorem length_modAt (l : List α) (i : Nat) (f : α → α) : (modAt l i f).length = l.length := by
  induction l generalizing i with
  | nil => rfl
  | cons a t ih => cases i <;> simp [modAt, ih]

namespace Machine


/-- Writes of MRAM and DRAM keep the memories canonical. -/
theorem Mem.mramPut_wf {m : Mem} (o : Nat) (bs : List Byte) (h : m.wf = true) : (m.mramPut o bs).wf = true := by
  simp only [Mem.wf, Bool.and_eq_true] at h ⊢
  exact ⟨⟨⟨FMap.storeList_wf o bs h.1.1.1, h.1.1.2⟩, h.1.2⟩, h.2⟩

theorem Mem.dramPut_wf {m : Mem} (o : Nat) (bs : List Byte) (h : m.wf = true) : (m.dramPut o bs).wf = true := by
  simp only [Mem.wf, Bool.and_eq_true] at h ⊢
  exact ⟨⟨⟨h.1.1.1, FMap.storeList_wf o bs h.1.1.2⟩, h.1.2⟩, h.2⟩

/-- A write of a boot NOR copy keeps the memories canonical. -/
theorem norPut_wf {s : State} (copyB : Bool) (o : Nat) (bs : List Byte) (h : s.mem.wf = true) :
    (norPut copyB o bs s).mem.wf = true := by
  simp only [Mem.wf, Bool.and_eq_true] at h
  unfold norPut
  split <;> simp only [Mem.wf, Bool.and_eq_true]
  · exact ⟨h.1, FMap.storeList_wf o bs h.2⟩
  · exact ⟨⟨h.1.1, FMap.storeList_wf o bs h.1.2⟩, h.2⟩

/-- A write of an LK word keeps the table canonical. -/
theorem lkPut_wf {s : State} (w o : Nat) (v : Word) (h : FMap.wf 0 s.lk = true) : FMap.wf 0 (lkPut w o v s).lk = true :=
  FMap.store_wf _ _ h

/-- What a write of an LK word does: the word reads back, and every other word reads as before. -/
theorem lkPut_reads (w o : Nat) (v : Word) (s : State) (w' o' : Nat) :
    lkAt (lkPut w o v s) w' o' = if 0x10000 * w' + o' = 0x10000 * w + o then v else lkAt s w' o' := by
  simp [lkAt, lkPut]

/-- What a write of MRAM does: the bytes read back. -/
theorem Mem.mramPut_reads (m : Mem) (o : Nat) (bs : List Byte) : (m.mramPut o bs).mramGet o bs.length = bs :=
  FMap.lookList_storeList bs m.mram 0 o

/-- Every byte outside a write of MRAM reads as before. -/
theorem Mem.mramPut_frame (m : Mem) (o a : Nat) (bs : List Byte) (h : a < o ∨ o + bs.length ≤ a) :
    FMap.look (m.mramPut o bs).mram 0 a = FMap.look m.mram 0 a := by
  rw [Mem.mramPut, FMap.look_storeList, if_neg (by omega)]

/-- What a write of DRAM does: the bytes read back. -/
theorem Mem.dramPut_reads (m : Mem) (o : Nat) (bs : List Byte) : (m.dramPut o bs).dramGet o bs.length = bs :=
  FMap.lookList_storeList bs m.dram 0 o

/-- Every byte outside a write of DRAM reads as before. -/
theorem Mem.dramPut_frame (m : Mem) (o a : Nat) (bs : List Byte) (h : a < o ∨ o + bs.length ≤ a) :
    FMap.look (m.dramPut o bs).dram 0 a = FMap.look m.dram 0 a := by
  rw [Mem.dramPut, FMap.look_storeList, if_neg (by omega)]

end Machine

end Sys2Proof
end

