-- ==== Sys2Proof/Laws/Crc.lean ====
section
/-! SUPPORT. The laws of byte fields and check words: a field written reads back, a CRC-32 fits its field, and a sealed slot
or verdict holds its check. -/

namespace Sys2Proof.Machine

@[simp] theorem length_le (n v : Nat) : (le n v).length = n := by
  induction n generalizing v with
  | zero => rfl
  | succ n ih => simp [le, ih]

/-- A little-endian field reads as what was written, modulo its width. -/
theorem leNat_le (n v : Nat) : leNat (le n v) = v % 256 ^ n := by
  induction n generalizing v with
  | zero => simp [le, leNat, Nat.mod_one]
  | succ n ih =>
    have h : v % 256 ^ (n + 1) = v % 256 + 256 * (v / 256 % 256 ^ n) := by rw [pow_succ', Nat.mod_mul]
    simp only [le, leNat, ih, BitVec.toNat_ofNat, h]

@[simp] theorem length_zeros (n : Nat) : (zeros n).length = n := by simp [zeros]

/-- A slice that lies inside the list is that part of it. -/
theorem slice_inside (bs : List Byte) (o n : Nat) (h : o + n ≤ bs.length) : slice bs o n = (bs.drop o).take n := by
  have : ((bs.drop o).take n).length = n := by simp; omega
  simp [slice, this]

/-- The bytes that follow a prefix. -/
theorem slice_append (a b : List Byte) (o n : Nat) (ho : o = a.length) (hn : n = b.length) : slice (a ++ b) o n = b := by
  subst ho hn
  rw [slice_inside _ _ _ (by simp)]
  simp

theorem crcBit_lt (poly c : Nat) (hp : poly < 2 ^ 32) (hc : c < 2 ^ 32) : crcBit poly c < 2 ^ 32 := by
  have h : c >>> 1 < 2 ^ 32 := by rw [Nat.shiftRight_eq_div_pow]; omega
  unfold crcBit
  split
  · exact Nat.xor_lt_two_pow h hp
  · exact h

theorem crcBits_lt (poly n c : Nat) (hp : poly < 2 ^ 32) (hc : c < 2 ^ 32) : crcBits poly n c < 2 ^ 32 := by
  induction n generalizing c with
  | zero => exact hc
  | succ n ih => exact ih _ (crcBit_lt poly c hp hc)

theorem crcFold_lt (poly : Nat) (bs : List Byte) (c : Nat) (hp : poly < 2 ^ 32) (hc : c < 2 ^ 32) :
    crcFold poly bs c < 2 ^ 32 := by
  induction bs generalizing c with
  | nil => exact hc
  | cons b t ih =>
    exact ih _ (crcBits_lt poly 8 _ hp (Nat.xor_lt_two_pow hc (by have := b.isLt; omega)))

/-- A CRC-32 fits 32 bits. -/
theorem crc32_lt (bs : List Byte) : crc32 bs < 2 ^ 32 :=
  Nat.xor_lt_two_pow (crcFold_lt _ bs _ (by decide) (by decide)) (by decide)

/-- Data with their CRC-32 behind them hold their check. -/
theorem crc32_sealed (d : List Byte) (o : Nat) (h : d.length = o) : leAt (d ++ le 4 (crc32 d)) o 4 = crc32 d := by
  rw [leAt, slice_append _ _ _ _ h.symm (by simp), leNat_le]
  exact Nat.mod_eq_of_lt (crc32_lt d)

/-- The same for a CRC-32C behind a frame body, most significant byte first. -/
theorem crc32c_sealed (d : List Byte) (o : Nat) (h : d.length = o) : beAt (d ++ be 4 (crc32c d)) o 4 = crc32c d := by
  rw [beAt, slice_append _ _ _ _ h.symm (by simp [be]), beNat, be, List.reverse_reverse, leNat_le]
  exact Nat.mod_eq_of_lt (Nat.xor_lt_two_pow (crcFold_lt _ d _ (by decide) (by decide)) (by decide))

/-- A field read inside a prefix is read from the prefix. -/
theorem beAt_prefix (a b : List Byte) (o n : Nat) (h : o + n ≤ a.length) : beAt (a ++ b) o n = beAt a o n := by
  rw [beAt, beAt, slice_inside _ _ _ (by simp; omega), slice_inside _ _ _ h, List.drop_append_of_le_length (by omega),
    List.take_append_of_le_length (by simp; omega)]

/-- A verdict slot that was written whole, with its check, is valid and has the sequence written into it. -/
theorem verdictSeq_written (s : State) (i : Nat) (d : List Byte) (h : d.length = 0x3FFC)
    (hm : s.mem.mramGet (verdictOff i) 0x4000 = d ++ le 4 (crc32 d))
    (hb : touchesBad s.mem.mramBad (verdictOff i) 0x4000 = false) :
    verdictSeq s i = some (leAt (d ++ le 4 (crc32 d)) 0x3FF8 4) := by
  unfold verdictSeq
  have ht : (d ++ le 4 (crc32 d)).take 0x3FFC = d := by rw [← h]; simp
  simp only [hm, crc32_sealed d _ h, ht, hb]
  simp

end Sys2Proof.Machine
end

