-- ==== Sys2Proof/Laws/State.lean ====
section
/-! SUPPORT. The fields of the state under each named update: one lemma per field that the update leaves alone, true by
rfl, so that no later proof unfolds a record update. -/

namespace Sys2Proof.Machine

@[simp] theorem State.begin_pending (s : State) : (s.begin).pending = s.pending := rfl
@[simp] theorem State.begin_clk (s : State) : (s.begin).clk = s.clk := rfl
@[simp] theorem State.begin_mod (s : State) : (s.begin).mod = s.mod := rfl
@[simp] theorem State.begin_mem (s : State) : (s.begin).mem = s.mem := rfl
@[simp] theorem State.begin_lk (s : State) : (s.begin).lk = s.lk := rfl
@[simp] theorem State.begin_img (s : State) : (s.begin).img = s.img := rfl
@[simp] theorem State.begin_rch (s : State) : (s.begin).rch = s.rch := rfl
@[simp] theorem State.begin_trd (s : State) : (s.begin).trd = s.trd := rfl
@[simp] theorem State.begin_awn (s : State) : (s.begin).awn = s.awn := rfl
@[simp] theorem State.begin_cyc (s : State) : (s.begin).cyc = s.cyc := rfl
@[simp] theorem State.begin_sch (s : State) : (s.begin).sch = s.sch := rfl
@[simp] theorem State.begin_vyf (s : State) : (s.begin).vyf = s.vyf := rfl
@[simp] theorem State.begin_fab (s : State) : (s.begin).fab = s.fab := rfl
@[simp] theorem State.begin_hub (s : State) : (s.begin).hub = s.hub := rfl
@[simp] theorem State.begin_pair (s : State) : (s.begin).pair = s.pair := rfl
@[simp] theorem State.begin_glm (s : State) : (s.begin).glm = s.glm := rfl
@[simp] theorem State.begin_fio (s : State) : (s.begin).fio = s.fio := rfl
@[simp] theorem State.begin_can0 (s : State) : (s.begin).can0 = s.can0 := rfl
@[simp] theorem State.begin_can1 (s : State) : (s.begin).can1 = s.can1 := rfl
@[simp] theorem State.begin_culm (s : State) : (s.begin).culm = s.culm := rfl
@[simp] theorem State.begin_sup (s : State) : (s.begin).sup = s.sup := rfl
@[simp] theorem State.begin_aon (s : State) : (s.begin).aon = s.aon := rfl
@[simp] theorem State.begin_sec (s : State) : (s.begin).sec = s.sec := rfl
@[simp] theorem State.begin_area (s : State) : (s.begin).area = s.area := rfl
@[simp] theorem State.begin_fuse (s : State) : (s.begin).fuse = s.fuse := rfl
@[simp] theorem State.begin_thr (s : State) : (s.begin).thr = s.thr := rfl
@[simp] theorem State.begin_grn (s : State) : (s.begin).grn = s.grn := rfl
@[simp] theorem State.begin_eng (s : State) : (s.begin).eng = s.eng := rfl
@[simp] theorem State.begin_free (s : State) : (s.begin).free = s.free := rfl

@[simp] theorem emit_pending (o : Out) (s : State) : (emit o s).pending = s.pending := rfl
@[simp] theorem emit_clk (o : Out) (s : State) : (emit o s).clk = s.clk := rfl
@[simp] theorem emit_mod (o : Out) (s : State) : (emit o s).mod = s.mod := rfl
@[simp] theorem emit_mem (o : Out) (s : State) : (emit o s).mem = s.mem := rfl
@[simp] theorem emit_lk (o : Out) (s : State) : (emit o s).lk = s.lk := rfl
@[simp] theorem emit_img (o : Out) (s : State) : (emit o s).img = s.img := rfl
@[simp] theorem emit_rch (o : Out) (s : State) : (emit o s).rch = s.rch := rfl
@[simp] theorem emit_trd (o : Out) (s : State) : (emit o s).trd = s.trd := rfl
@[simp] theorem emit_awn (o : Out) (s : State) : (emit o s).awn = s.awn := rfl
@[simp] theorem emit_cyc (o : Out) (s : State) : (emit o s).cyc = s.cyc := rfl
@[simp] theorem emit_sch (o : Out) (s : State) : (emit o s).sch = s.sch := rfl
@[simp] theorem emit_vyf (o : Out) (s : State) : (emit o s).vyf = s.vyf := rfl
@[simp] theorem emit_fab (o : Out) (s : State) : (emit o s).fab = s.fab := rfl
@[simp] theorem emit_hub (o : Out) (s : State) : (emit o s).hub = s.hub := rfl
@[simp] theorem emit_pair (o : Out) (s : State) : (emit o s).pair = s.pair := rfl
@[simp] theorem emit_glm (o : Out) (s : State) : (emit o s).glm = s.glm := rfl
@[simp] theorem emit_fio (o : Out) (s : State) : (emit o s).fio = s.fio := rfl
@[simp] theorem emit_can0 (o : Out) (s : State) : (emit o s).can0 = s.can0 := rfl
@[simp] theorem emit_can1 (o : Out) (s : State) : (emit o s).can1 = s.can1 := rfl
@[simp] theorem emit_culm (o : Out) (s : State) : (emit o s).culm = s.culm := rfl
@[simp] theorem emit_sup (o : Out) (s : State) : (emit o s).sup = s.sup := rfl
@[simp] theorem emit_aon (o : Out) (s : State) : (emit o s).aon = s.aon := rfl
@[simp] theorem emit_sec (o : Out) (s : State) : (emit o s).sec = s.sec := rfl
@[simp] theorem emit_area (o : Out) (s : State) : (emit o s).area = s.area := rfl
@[simp] theorem emit_fuse (o : Out) (s : State) : (emit o s).fuse = s.fuse := rfl
@[simp] theorem emit_thr (o : Out) (s : State) : (emit o s).thr = s.thr := rfl
@[simp] theorem emit_grn (o : Out) (s : State) : (emit o s).grn = s.grn := rfl
@[simp] theorem emit_eng (o : Out) (s : State) : (emit o s).eng = s.eng := rfl
@[simp] theorem emit_free (o : Out) (s : State) : (emit o s).free = s.free := rfl

@[simp] theorem drawn_pending (s : State) : (drawn s).pending = s.pending := rfl
@[simp] theorem drawn_out (s : State) : (drawn s).out = s.out := rfl
@[simp] theorem drawn_clk (s : State) : (drawn s).clk = s.clk := rfl
@[simp] theorem drawn_mod (s : State) : (drawn s).mod = s.mod := rfl
@[simp] theorem drawn_mem (s : State) : (drawn s).mem = s.mem := rfl
@[simp] theorem drawn_lk (s : State) : (drawn s).lk = s.lk := rfl
@[simp] theorem drawn_img (s : State) : (drawn s).img = s.img := rfl
@[simp] theorem drawn_rch (s : State) : (drawn s).rch = s.rch := rfl
@[simp] theorem drawn_trd (s : State) : (drawn s).trd = s.trd := rfl
@[simp] theorem drawn_awn (s : State) : (drawn s).awn = s.awn := rfl
@[simp] theorem drawn_cyc (s : State) : (drawn s).cyc = s.cyc := rfl
@[simp] theorem drawn_sch (s : State) : (drawn s).sch = s.sch := rfl
@[simp] theorem drawn_vyf (s : State) : (drawn s).vyf = s.vyf := rfl
@[simp] theorem drawn_fab (s : State) : (drawn s).fab = s.fab := rfl
@[simp] theorem drawn_hub (s : State) : (drawn s).hub = s.hub := rfl
@[simp] theorem drawn_pair (s : State) : (drawn s).pair = s.pair := rfl
@[simp] theorem drawn_glm (s : State) : (drawn s).glm = s.glm := rfl
@[simp] theorem drawn_fio (s : State) : (drawn s).fio = s.fio := rfl
@[simp] theorem drawn_can0 (s : State) : (drawn s).can0 = s.can0 := rfl
@[simp] theorem drawn_can1 (s : State) : (drawn s).can1 = s.can1 := rfl
@[simp] theorem drawn_culm (s : State) : (drawn s).culm = s.culm := rfl
@[simp] theorem drawn_sup (s : State) : (drawn s).sup = s.sup := rfl
@[simp] theorem drawn_aon (s : State) : (drawn s).aon = s.aon := rfl
@[simp] theorem drawn_sec (s : State) : (drawn s).sec = s.sec := rfl
@[simp] theorem drawn_area (s : State) : (drawn s).area = s.area := rfl
@[simp] theorem drawn_fuse (s : State) : (drawn s).fuse = s.fuse := rfl
@[simp] theorem drawn_thr (s : State) : (drawn s).thr = s.thr := rfl
@[simp] theorem drawn_grn (s : State) : (drawn s).grn = s.grn := rfl
@[simp] theorem drawn_eng (s : State) : (drawn s).eng = s.eng := rfl

@[simp] theorem drawnN_pending (n : Nat) (s : State) : (drawnN n s).pending = s.pending := rfl
@[simp] theorem drawnN_out (n : Nat) (s : State) : (drawnN n s).out = s.out := rfl
@[simp] theorem drawnN_clk (n : Nat) (s : State) : (drawnN n s).clk = s.clk := rfl
@[simp] theorem drawnN_mod (n : Nat) (s : State) : (drawnN n s).mod = s.mod := rfl
@[simp] theorem drawnN_mem (n : Nat) (s : State) : (drawnN n s).mem = s.mem := rfl
@[simp] theorem drawnN_lk (n : Nat) (s : State) : (drawnN n s).lk = s.lk := rfl
@[simp] theorem drawnN_img (n : Nat) (s : State) : (drawnN n s).img = s.img := rfl
@[simp] theorem drawnN_rch (n : Nat) (s : State) : (drawnN n s).rch = s.rch := rfl
@[simp] theorem drawnN_trd (n : Nat) (s : State) : (drawnN n s).trd = s.trd := rfl
@[simp] theorem drawnN_awn (n : Nat) (s : State) : (drawnN n s).awn = s.awn := rfl
@[simp] theorem drawnN_cyc (n : Nat) (s : State) : (drawnN n s).cyc = s.cyc := rfl
@[simp] theorem drawnN_sch (n : Nat) (s : State) : (drawnN n s).sch = s.sch := rfl
@[simp] theorem drawnN_vyf (n : Nat) (s : State) : (drawnN n s).vyf = s.vyf := rfl
@[simp] theorem drawnN_fab (n : Nat) (s : State) : (drawnN n s).fab = s.fab := rfl
@[simp] theorem drawnN_hub (n : Nat) (s : State) : (drawnN n s).hub = s.hub := rfl
@[simp] theorem drawnN_pair (n : Nat) (s : State) : (drawnN n s).pair = s.pair := rfl
@[simp] theorem drawnN_glm (n : Nat) (s : State) : (drawnN n s).glm = s.glm := rfl
@[simp] theorem drawnN_fio (n : Nat) (s : State) : (drawnN n s).fio = s.fio := rfl
@[simp] theorem drawnN_can0 (n : Nat) (s : State) : (drawnN n s).can0 = s.can0 := rfl
@[simp] theorem drawnN_can1 (n : Nat) (s : State) : (drawnN n s).can1 = s.can1 := rfl
@[simp] theorem drawnN_culm (n : Nat) (s : State) : (drawnN n s).culm = s.culm := rfl
@[simp] theorem drawnN_sup (n : Nat) (s : State) : (drawnN n s).sup = s.sup := rfl
@[simp] theorem drawnN_aon (n : Nat) (s : State) : (drawnN n s).aon = s.aon := rfl
@[simp] theorem drawnN_sec (n : Nat) (s : State) : (drawnN n s).sec = s.sec := rfl
@[simp] theorem drawnN_area (n : Nat) (s : State) : (drawnN n s).area = s.area := rfl
@[simp] theorem drawnN_fuse (n : Nat) (s : State) : (drawnN n s).fuse = s.fuse := rfl
@[simp] theorem drawnN_thr (n : Nat) (s : State) : (drawnN n s).thr = s.thr := rfl
@[simp] theorem drawnN_grn (n : Nat) (s : State) : (drawnN n s).grn = s.grn := rfl
@[simp] theorem drawnN_eng (n : Nat) (s : State) : (drawnN n s).eng = s.eng := rfl

@[simp] theorem lifeAdd_pending (off n : Nat) (s : State) : (lifeAdd off n s).pending = s.pending := rfl
@[simp] theorem lifeAdd_out (off n : Nat) (s : State) : (lifeAdd off n s).out = s.out := rfl
@[simp] theorem lifeAdd_clk (off n : Nat) (s : State) : (lifeAdd off n s).clk = s.clk := rfl
@[simp] theorem lifeAdd_mod (off n : Nat) (s : State) : (lifeAdd off n s).mod = s.mod := rfl
@[simp] theorem lifeAdd_mem (off n : Nat) (s : State) : (lifeAdd off n s).mem = s.mem := rfl
@[simp] theorem lifeAdd_lk (off n : Nat) (s : State) : (lifeAdd off n s).lk = s.lk := rfl
@[simp] theorem lifeAdd_img (off n : Nat) (s : State) : (lifeAdd off n s).img = s.img := rfl
@[simp] theorem lifeAdd_rch (off n : Nat) (s : State) : (lifeAdd off n s).rch = s.rch := rfl
@[simp] theorem lifeAdd_trd (off n : Nat) (s : State) : (lifeAdd off n s).trd = s.trd := rfl
@[simp] theorem lifeAdd_awn (off n : Nat) (s : State) : (lifeAdd off n s).awn = s.awn := rfl
@[simp] theorem lifeAdd_cyc (off n : Nat) (s : State) : (lifeAdd off n s).cyc = s.cyc := rfl
@[simp] theorem lifeAdd_sch (off n : Nat) (s : State) : (lifeAdd off n s).sch = s.sch := rfl
@[simp] theorem lifeAdd_vyf (off n : Nat) (s : State) : (lifeAdd off n s).vyf = s.vyf := rfl
@[simp] theorem lifeAdd_fab (off n : Nat) (s : State) : (lifeAdd off n s).fab = s.fab := rfl
@[simp] theorem lifeAdd_hub (off n : Nat) (s : State) : (lifeAdd off n s).hub = s.hub := rfl
@[simp] theorem lifeAdd_pair (off n : Nat) (s : State) : (lifeAdd off n s).pair = s.pair := rfl
@[simp] theorem lifeAdd_glm (off n : Nat) (s : State) : (lifeAdd off n s).glm = s.glm := rfl
@[simp] theorem lifeAdd_fio (off n : Nat) (s : State) : (lifeAdd off n s).fio = s.fio := rfl
@[simp] theorem lifeAdd_can0 (off n : Nat) (s : State) : (lifeAdd off n s).can0 = s.can0 := rfl
@[simp] theorem lifeAdd_can1 (off n : Nat) (s : State) : (lifeAdd off n s).can1 = s.can1 := rfl
@[simp] theorem lifeAdd_culm (off n : Nat) (s : State) : (lifeAdd off n s).culm = s.culm := rfl
@[simp] theorem lifeAdd_sup (off n : Nat) (s : State) : (lifeAdd off n s).sup = s.sup := rfl
@[simp] theorem lifeAdd_aon (off n : Nat) (s : State) : (lifeAdd off n s).aon = s.aon := rfl
@[simp] theorem lifeAdd_sec (off n : Nat) (s : State) : (lifeAdd off n s).sec = s.sec := rfl
@[simp] theorem lifeAdd_area (off n : Nat) (s : State) : (lifeAdd off n s).area = s.area := rfl
@[simp] theorem lifeAdd_fuse (off n : Nat) (s : State) : (lifeAdd off n s).fuse = s.fuse := rfl
@[simp] theorem lifeAdd_thr (off n : Nat) (s : State) : (lifeAdd off n s).thr = s.thr := rfl
@[simp] theorem lifeAdd_eng (off n : Nat) (s : State) : (lifeAdd off n s).eng = s.eng := rfl
@[simp] theorem lifeAdd_free (off n : Nat) (s : State) : (lifeAdd off n s).free = s.free := rfl

@[simp] theorem countOnly_pending (code : Nat) (s : State) : (countOnly code s).pending = s.pending := rfl
@[simp] theorem countOnly_out (code : Nat) (s : State) : (countOnly code s).out = s.out := rfl
@[simp] theorem countOnly_clk (code : Nat) (s : State) : (countOnly code s).clk = s.clk := rfl
@[simp] theorem countOnly_mod (code : Nat) (s : State) : (countOnly code s).mod = s.mod := rfl
@[simp] theorem countOnly_mem (code : Nat) (s : State) : (countOnly code s).mem = s.mem := rfl
@[simp] theorem countOnly_lk (code : Nat) (s : State) : (countOnly code s).lk = s.lk := rfl
@[simp] theorem countOnly_img (code : Nat) (s : State) : (countOnly code s).img = s.img := rfl
@[simp] theorem countOnly_rch (code : Nat) (s : State) : (countOnly code s).rch = s.rch := rfl
@[simp] theorem countOnly_trd (code : Nat) (s : State) : (countOnly code s).trd = s.trd := rfl
@[simp] theorem countOnly_awn (code : Nat) (s : State) : (countOnly code s).awn = s.awn := rfl
@[simp] theorem countOnly_cyc (code : Nat) (s : State) : (countOnly code s).cyc = s.cyc := rfl
@[simp] theorem countOnly_sch (code : Nat) (s : State) : (countOnly code s).sch = s.sch := rfl
@[simp] theorem countOnly_vyf (code : Nat) (s : State) : (countOnly code s).vyf = s.vyf := rfl
@[simp] theorem countOnly_fab (code : Nat) (s : State) : (countOnly code s).fab = s.fab := rfl
@[simp] theorem countOnly_hub (code : Nat) (s : State) : (countOnly code s).hub = s.hub := rfl
@[simp] theorem countOnly_pair (code : Nat) (s : State) : (countOnly code s).pair = s.pair := rfl
@[simp] theorem countOnly_glm (code : Nat) (s : State) : (countOnly code s).glm = s.glm := rfl
@[simp] theorem countOnly_fio (code : Nat) (s : State) : (countOnly code s).fio = s.fio := rfl
@[simp] theorem countOnly_can0 (code : Nat) (s : State) : (countOnly code s).can0 = s.can0 := rfl
@[simp] theorem countOnly_can1 (code : Nat) (s : State) : (countOnly code s).can1 = s.can1 := rfl
@[simp] theorem countOnly_culm (code : Nat) (s : State) : (countOnly code s).culm = s.culm := rfl
@[simp] theorem countOnly_sup (code : Nat) (s : State) : (countOnly code s).sup = s.sup := rfl
@[simp] theorem countOnly_aon (code : Nat) (s : State) : (countOnly code s).aon = s.aon := rfl
@[simp] theorem countOnly_sec (code : Nat) (s : State) : (countOnly code s).sec = s.sec := rfl
@[simp] theorem countOnly_area (code : Nat) (s : State) : (countOnly code s).area = s.area := rfl
@[simp] theorem countOnly_fuse (code : Nat) (s : State) : (countOnly code s).fuse = s.fuse := rfl
@[simp] theorem countOnly_thr (code : Nat) (s : State) : (countOnly code s).thr = s.thr := rfl
@[simp] theorem countOnly_eng (code : Nat) (s : State) : (countOnly code s).eng = s.eng := rfl
@[simp] theorem countOnly_free (code : Nat) (s : State) : (countOnly code s).free = s.free := rfl

@[simp] theorem dropRecord_pending (s : State) : (dropRecord s).pending = s.pending := rfl
@[simp] theorem dropRecord_out (s : State) : (dropRecord s).out = s.out := rfl
@[simp] theorem dropRecord_clk (s : State) : (dropRecord s).clk = s.clk := rfl
@[simp] theorem dropRecord_mod (s : State) : (dropRecord s).mod = s.mod := rfl
@[simp] theorem dropRecord_mem (s : State) : (dropRecord s).mem = s.mem := rfl
@[simp] theorem dropRecord_lk (s : State) : (dropRecord s).lk = s.lk := rfl
@[simp] theorem dropRecord_img (s : State) : (dropRecord s).img = s.img := rfl
@[simp] theorem dropRecord_rch (s : State) : (dropRecord s).rch = s.rch := rfl
@[simp] theorem dropRecord_trd (s : State) : (dropRecord s).trd = s.trd := rfl
@[simp] theorem dropRecord_awn (s : State) : (dropRecord s).awn = s.awn := rfl
@[simp] theorem dropRecord_cyc (s : State) : (dropRecord s).cyc = s.cyc := rfl
@[simp] theorem dropRecord_sch (s : State) : (dropRecord s).sch = s.sch := rfl
@[simp] theorem dropRecord_vyf (s : State) : (dropRecord s).vyf = s.vyf := rfl
@[simp] theorem dropRecord_fab (s : State) : (dropRecord s).fab = s.fab := rfl
@[simp] theorem dropRecord_hub (s : State) : (dropRecord s).hub = s.hub := rfl
@[simp] theorem dropRecord_pair (s : State) : (dropRecord s).pair = s.pair := rfl
@[simp] theorem dropRecord_glm (s : State) : (dropRecord s).glm = s.glm := rfl
@[simp] theorem dropRecord_fio (s : State) : (dropRecord s).fio = s.fio := rfl
@[simp] theorem dropRecord_can0 (s : State) : (dropRecord s).can0 = s.can0 := rfl
@[simp] theorem dropRecord_can1 (s : State) : (dropRecord s).can1 = s.can1 := rfl
@[simp] theorem dropRecord_culm (s : State) : (dropRecord s).culm = s.culm := rfl
@[simp] theorem dropRecord_sup (s : State) : (dropRecord s).sup = s.sup := rfl
@[simp] theorem dropRecord_aon (s : State) : (dropRecord s).aon = s.aon := rfl
@[simp] theorem dropRecord_sec (s : State) : (dropRecord s).sec = s.sec := rfl
@[simp] theorem dropRecord_area (s : State) : (dropRecord s).area = s.area := rfl
@[simp] theorem dropRecord_fuse (s : State) : (dropRecord s).fuse = s.fuse := rfl
@[simp] theorem dropRecord_thr (s : State) : (dropRecord s).thr = s.thr := rfl
@[simp] theorem dropRecord_eng (s : State) : (dropRecord s).eng = s.eng := rfl
@[simp] theorem dropRecord_free (s : State) : (dropRecord s).free = s.free := rfl

@[simp] theorem errRch_pending (b so i : Nat) (w : Bool) (r a : Nat) (s : State) : (errRch b so i w r a s).pending = s.pending := rfl
@[simp] theorem errRch_out (b so i : Nat) (w : Bool) (r a : Nat) (s : State) : (errRch b so i w r a s).out = s.out := rfl
@[simp] theorem errRch_clk (b so i : Nat) (w : Bool) (r a : Nat) (s : State) : (errRch b so i w r a s).clk = s.clk := rfl
@[simp] theorem errRch_mod (b so i : Nat) (w : Bool) (r a : Nat) (s : State) : (errRch b so i w r a s).mod = s.mod := rfl
@[simp] theorem errRch_mem (b so i : Nat) (w : Bool) (r a : Nat) (s : State) : (errRch b so i w r a s).mem = s.mem := rfl
@[simp] theorem errRch_lk (b so i : Nat) (w : Bool) (r a : Nat) (s : State) : (errRch b so i w r a s).lk = s.lk := rfl
@[simp] theorem errRch_img (b so i : Nat) (w : Bool) (r a : Nat) (s : State) : (errRch b so i w r a s).img = s.img := rfl
@[simp] theorem errRch_trd (b so i : Nat) (w : Bool) (r a : Nat) (s : State) : (errRch b so i w r a s).trd = s.trd := rfl
@[simp] theorem errRch_awn (b so i : Nat) (w : Bool) (r a : Nat) (s : State) : (errRch b so i w r a s).awn = s.awn := rfl
@[simp] theorem errRch_cyc (b so i : Nat) (w : Bool) (r a : Nat) (s : State) : (errRch b so i w r a s).cyc = s.cyc := rfl
@[simp] theorem errRch_sch (b so i : Nat) (w : Bool) (r a : Nat) (s : State) : (errRch b so i w r a s).sch = s.sch := rfl
@[simp] theorem errRch_vyf (b so i : Nat) (w : Bool) (r a : Nat) (s : State) : (errRch b so i w r a s).vyf = s.vyf := rfl
@[simp] theorem errRch_fab (b so i : Nat) (w : Bool) (r a : Nat) (s : State) : (errRch b so i w r a s).fab = s.fab := rfl
@[simp] theorem errRch_hub (b so i : Nat) (w : Bool) (r a : Nat) (s : State) : (errRch b so i w r a s).hub = s.hub := rfl
@[simp] theorem errRch_pair (b so i : Nat) (w : Bool) (r a : Nat) (s : State) : (errRch b so i w r a s).pair = s.pair := rfl
@[simp] theorem errRch_glm (b so i : Nat) (w : Bool) (r a : Nat) (s : State) : (errRch b so i w r a s).glm = s.glm := rfl
@[simp] theorem errRch_fio (b so i : Nat) (w : Bool) (r a : Nat) (s : State) : (errRch b so i w r a s).fio = s.fio := rfl
@[simp] theorem errRch_can0 (b so i : Nat) (w : Bool) (r a : Nat) (s : State) : (errRch b so i w r a s).can0 = s.can0 := rfl
@[simp] theorem errRch_can1 (b so i : Nat) (w : Bool) (r a : Nat) (s : State) : (errRch b so i w r a s).can1 = s.can1 := rfl
@[simp] theorem errRch_culm (b so i : Nat) (w : Bool) (r a : Nat) (s : State) : (errRch b so i w r a s).culm = s.culm := rfl
@[simp] theorem errRch_sup (b so i : Nat) (w : Bool) (r a : Nat) (s : State) : (errRch b so i w r a s).sup = s.sup := rfl
@[simp] theorem errRch_aon (b so i : Nat) (w : Bool) (r a : Nat) (s : State) : (errRch b so i w r a s).aon = s.aon := rfl
@[simp] theorem errRch_sec (b so i : Nat) (w : Bool) (r a : Nat) (s : State) : (errRch b so i w r a s).sec = s.sec := rfl
@[simp] theorem errRch_area (b so i : Nat) (w : Bool) (r a : Nat) (s : State) : (errRch b so i w r a s).area = s.area := rfl
@[simp] theorem errRch_fuse (b so i : Nat) (w : Bool) (r a : Nat) (s : State) : (errRch b so i w r a s).fuse = s.fuse := rfl
@[simp] theorem errRch_thr (b so i : Nat) (w : Bool) (r a : Nat) (s : State) : (errRch b so i w r a s).thr = s.thr := rfl
@[simp] theorem errRch_grn (b so i : Nat) (w : Bool) (r a : Nat) (s : State) : (errRch b so i w r a s).grn = s.grn := rfl
@[simp] theorem errRch_eng (b so i : Nat) (w : Bool) (r a : Nat) (s : State) : (errRch b so i w r a s).eng = s.eng := rfl
@[simp] theorem errRch_free (b so i : Nat) (w : Bool) (r a : Nat) (s : State) : (errRch b so i w r a s).free = s.free := rfl

@[simp] theorem errMem_pending (b u a : Nat) (s : State) : (errMem b u a s).pending = s.pending := rfl
@[simp] theorem errMem_out (b u a : Nat) (s : State) : (errMem b u a s).out = s.out := rfl
@[simp] theorem errMem_clk (b u a : Nat) (s : State) : (errMem b u a s).clk = s.clk := rfl
@[simp] theorem errMem_mod (b u a : Nat) (s : State) : (errMem b u a s).mod = s.mod := rfl
@[simp] theorem errMem_mem (b u a : Nat) (s : State) : (errMem b u a s).mem = s.mem := rfl
@[simp] theorem errMem_lk (b u a : Nat) (s : State) : (errMem b u a s).lk = s.lk := rfl
@[simp] theorem errMem_img (b u a : Nat) (s : State) : (errMem b u a s).img = s.img := rfl
@[simp] theorem errMem_trd (b u a : Nat) (s : State) : (errMem b u a s).trd = s.trd := rfl
@[simp] theorem errMem_awn (b u a : Nat) (s : State) : (errMem b u a s).awn = s.awn := rfl
@[simp] theorem errMem_cyc (b u a : Nat) (s : State) : (errMem b u a s).cyc = s.cyc := rfl
@[simp] theorem errMem_sch (b u a : Nat) (s : State) : (errMem b u a s).sch = s.sch := rfl
@[simp] theorem errMem_vyf (b u a : Nat) (s : State) : (errMem b u a s).vyf = s.vyf := rfl
@[simp] theorem errMem_fab (b u a : Nat) (s : State) : (errMem b u a s).fab = s.fab := rfl
@[simp] theorem errMem_hub (b u a : Nat) (s : State) : (errMem b u a s).hub = s.hub := rfl
@[simp] theorem errMem_pair (b u a : Nat) (s : State) : (errMem b u a s).pair = s.pair := rfl
@[simp] theorem errMem_glm (b u a : Nat) (s : State) : (errMem b u a s).glm = s.glm := rfl
@[simp] theorem errMem_fio (b u a : Nat) (s : State) : (errMem b u a s).fio = s.fio := rfl
@[simp] theorem errMem_can0 (b u a : Nat) (s : State) : (errMem b u a s).can0 = s.can0 := rfl
@[simp] theorem errMem_can1 (b u a : Nat) (s : State) : (errMem b u a s).can1 = s.can1 := rfl
@[simp] theorem errMem_culm (b u a : Nat) (s : State) : (errMem b u a s).culm = s.culm := rfl
@[simp] theorem errMem_sup (b u a : Nat) (s : State) : (errMem b u a s).sup = s.sup := rfl
@[simp] theorem errMem_aon (b u a : Nat) (s : State) : (errMem b u a s).aon = s.aon := rfl
@[simp] theorem errMem_sec (b u a : Nat) (s : State) : (errMem b u a s).sec = s.sec := rfl
@[simp] theorem errMem_area (b u a : Nat) (s : State) : (errMem b u a s).area = s.area := rfl
@[simp] theorem errMem_fuse (b u a : Nat) (s : State) : (errMem b u a s).fuse = s.fuse := rfl
@[simp] theorem errMem_thr (b u a : Nat) (s : State) : (errMem b u a s).thr = s.thr := rfl
@[simp] theorem errMem_grn (b u a : Nat) (s : State) : (errMem b u a s).grn = s.grn := rfl
@[simp] theorem errMem_eng (b u a : Nat) (s : State) : (errMem b u a s).eng = s.eng := rfl
@[simp] theorem errMem_free (b u a : Nat) (s : State) : (errMem b u a s).free = s.free := rfl

@[simp] theorem errTrd_pending (b : Nat) (i : Word) (w : Nat) (s : State) : (errTrd b i w s).pending = s.pending := rfl
@[simp] theorem errTrd_out (b : Nat) (i : Word) (w : Nat) (s : State) : (errTrd b i w s).out = s.out := rfl
@[simp] theorem errTrd_clk (b : Nat) (i : Word) (w : Nat) (s : State) : (errTrd b i w s).clk = s.clk := rfl
@[simp] theorem errTrd_mod (b : Nat) (i : Word) (w : Nat) (s : State) : (errTrd b i w s).mod = s.mod := rfl
@[simp] theorem errTrd_mem (b : Nat) (i : Word) (w : Nat) (s : State) : (errTrd b i w s).mem = s.mem := rfl
@[simp] theorem errTrd_lk (b : Nat) (i : Word) (w : Nat) (s : State) : (errTrd b i w s).lk = s.lk := rfl
@[simp] theorem errTrd_img (b : Nat) (i : Word) (w : Nat) (s : State) : (errTrd b i w s).img = s.img := rfl
@[simp] theorem errTrd_rch (b : Nat) (i : Word) (w : Nat) (s : State) : (errTrd b i w s).rch = s.rch := rfl
@[simp] theorem errTrd_awn (b : Nat) (i : Word) (w : Nat) (s : State) : (errTrd b i w s).awn = s.awn := rfl
@[simp] theorem errTrd_cyc (b : Nat) (i : Word) (w : Nat) (s : State) : (errTrd b i w s).cyc = s.cyc := rfl
@[simp] theorem errTrd_sch (b : Nat) (i : Word) (w : Nat) (s : State) : (errTrd b i w s).sch = s.sch := rfl
@[simp] theorem errTrd_vyf (b : Nat) (i : Word) (w : Nat) (s : State) : (errTrd b i w s).vyf = s.vyf := rfl
@[simp] theorem errTrd_fab (b : Nat) (i : Word) (w : Nat) (s : State) : (errTrd b i w s).fab = s.fab := rfl
@[simp] theorem errTrd_hub (b : Nat) (i : Word) (w : Nat) (s : State) : (errTrd b i w s).hub = s.hub := rfl
@[simp] theorem errTrd_pair (b : Nat) (i : Word) (w : Nat) (s : State) : (errTrd b i w s).pair = s.pair := rfl
@[simp] theorem errTrd_glm (b : Nat) (i : Word) (w : Nat) (s : State) : (errTrd b i w s).glm = s.glm := rfl
@[simp] theorem errTrd_fio (b : Nat) (i : Word) (w : Nat) (s : State) : (errTrd b i w s).fio = s.fio := rfl
@[simp] theorem errTrd_can0 (b : Nat) (i : Word) (w : Nat) (s : State) : (errTrd b i w s).can0 = s.can0 := rfl
@[simp] theorem errTrd_can1 (b : Nat) (i : Word) (w : Nat) (s : State) : (errTrd b i w s).can1 = s.can1 := rfl
@[simp] theorem errTrd_culm (b : Nat) (i : Word) (w : Nat) (s : State) : (errTrd b i w s).culm = s.culm := rfl
@[simp] theorem errTrd_sup (b : Nat) (i : Word) (w : Nat) (s : State) : (errTrd b i w s).sup = s.sup := rfl
@[simp] theorem errTrd_aon (b : Nat) (i : Word) (w : Nat) (s : State) : (errTrd b i w s).aon = s.aon := rfl
@[simp] theorem errTrd_sec (b : Nat) (i : Word) (w : Nat) (s : State) : (errTrd b i w s).sec = s.sec := rfl
@[simp] theorem errTrd_area (b : Nat) (i : Word) (w : Nat) (s : State) : (errTrd b i w s).area = s.area := rfl
@[simp] theorem errTrd_fuse (b : Nat) (i : Word) (w : Nat) (s : State) : (errTrd b i w s).fuse = s.fuse := rfl
@[simp] theorem errTrd_thr (b : Nat) (i : Word) (w : Nat) (s : State) : (errTrd b i w s).thr = s.thr := rfl
@[simp] theorem errTrd_grn (b : Nat) (i : Word) (w : Nat) (s : State) : (errTrd b i w s).grn = s.grn := rfl
@[simp] theorem errTrd_eng (b : Nat) (i : Word) (w : Nat) (s : State) : (errTrd b i w s).eng = s.eng := rfl
@[simp] theorem errTrd_free (b : Nat) (i : Word) (w : Nat) (s : State) : (errTrd b i w s).free = s.free := rfl

@[simp] theorem mramWrite_pending (o : Nat) (bs : List Byte) (s : State) : (mramWrite o bs s).pending = s.pending := rfl
@[simp] theorem mramWrite_out (o : Nat) (bs : List Byte) (s : State) : (mramWrite o bs s).out = s.out := rfl
@[simp] theorem mramWrite_clk (o : Nat) (bs : List Byte) (s : State) : (mramWrite o bs s).clk = s.clk := rfl
@[simp] theorem mramWrite_mod (o : Nat) (bs : List Byte) (s : State) : (mramWrite o bs s).mod = s.mod := rfl
@[simp] theorem mramWrite_lk (o : Nat) (bs : List Byte) (s : State) : (mramWrite o bs s).lk = s.lk := rfl
@[simp] theorem mramWrite_img (o : Nat) (bs : List Byte) (s : State) : (mramWrite o bs s).img = s.img := rfl
@[simp] theorem mramWrite_rch (o : Nat) (bs : List Byte) (s : State) : (mramWrite o bs s).rch = s.rch := rfl
@[simp] theorem mramWrite_trd (o : Nat) (bs : List Byte) (s : State) : (mramWrite o bs s).trd = s.trd := rfl
@[simp] theorem mramWrite_awn (o : Nat) (bs : List Byte) (s : State) : (mramWrite o bs s).awn = s.awn := rfl
@[simp] theorem mramWrite_cyc (o : Nat) (bs : List Byte) (s : State) : (mramWrite o bs s).cyc = s.cyc := rfl
@[simp] theorem mramWrite_sch (o : Nat) (bs : List Byte) (s : State) : (mramWrite o bs s).sch = s.sch := rfl
@[simp] theorem mramWrite_vyf (o : Nat) (bs : List Byte) (s : State) : (mramWrite o bs s).vyf = s.vyf := rfl
@[simp] theorem mramWrite_fab (o : Nat) (bs : List Byte) (s : State) : (mramWrite o bs s).fab = s.fab := rfl
@[simp] theorem mramWrite_hub (o : Nat) (bs : List Byte) (s : State) : (mramWrite o bs s).hub = s.hub := rfl
@[simp] theorem mramWrite_pair (o : Nat) (bs : List Byte) (s : State) : (mramWrite o bs s).pair = s.pair := rfl
@[simp] theorem mramWrite_glm (o : Nat) (bs : List Byte) (s : State) : (mramWrite o bs s).glm = s.glm := rfl
@[simp] theorem mramWrite_fio (o : Nat) (bs : List Byte) (s : State) : (mramWrite o bs s).fio = s.fio := rfl
@[simp] theorem mramWrite_can0 (o : Nat) (bs : List Byte) (s : State) : (mramWrite o bs s).can0 = s.can0 := rfl
@[simp] theorem mramWrite_can1 (o : Nat) (bs : List Byte) (s : State) : (mramWrite o bs s).can1 = s.can1 := rfl
@[simp] theorem mramWrite_culm (o : Nat) (bs : List Byte) (s : State) : (mramWrite o bs s).culm = s.culm := rfl
@[simp] theorem mramWrite_sup (o : Nat) (bs : List Byte) (s : State) : (mramWrite o bs s).sup = s.sup := rfl
@[simp] theorem mramWrite_aon (o : Nat) (bs : List Byte) (s : State) : (mramWrite o bs s).aon = s.aon := rfl
@[simp] theorem mramWrite_sec (o : Nat) (bs : List Byte) (s : State) : (mramWrite o bs s).sec = s.sec := rfl
@[simp] theorem mramWrite_area (o : Nat) (bs : List Byte) (s : State) : (mramWrite o bs s).area = s.area := rfl
@[simp] theorem mramWrite_fuse (o : Nat) (bs : List Byte) (s : State) : (mramWrite o bs s).fuse = s.fuse := rfl
@[simp] theorem mramWrite_thr (o : Nat) (bs : List Byte) (s : State) : (mramWrite o bs s).thr = s.thr := rfl
@[simp] theorem mramWrite_grn (o : Nat) (bs : List Byte) (s : State) : (mramWrite o bs s).grn = s.grn := rfl
@[simp] theorem mramWrite_eng (o : Nat) (bs : List Byte) (s : State) : (mramWrite o bs s).eng = s.eng := rfl
@[simp] theorem mramWrite_free (o : Nat) (bs : List Byte) (s : State) : (mramWrite o bs s).free = s.free := rfl

@[simp] theorem lkPut_pending (w o : Nat) (v : Word) (s : State) : (lkPut w o v s).pending = s.pending := rfl
@[simp] theorem lkPut_out (w o : Nat) (v : Word) (s : State) : (lkPut w o v s).out = s.out := rfl
@[simp] theorem lkPut_clk (w o : Nat) (v : Word) (s : State) : (lkPut w o v s).clk = s.clk := rfl
@[simp] theorem lkPut_mod (w o : Nat) (v : Word) (s : State) : (lkPut w o v s).mod = s.mod := rfl
@[simp] theorem lkPut_mem (w o : Nat) (v : Word) (s : State) : (lkPut w o v s).mem = s.mem := rfl
@[simp] theorem lkPut_img (w o : Nat) (v : Word) (s : State) : (lkPut w o v s).img = s.img := rfl
@[simp] theorem lkPut_rch (w o : Nat) (v : Word) (s : State) : (lkPut w o v s).rch = s.rch := rfl
@[simp] theorem lkPut_trd (w o : Nat) (v : Word) (s : State) : (lkPut w o v s).trd = s.trd := rfl
@[simp] theorem lkPut_awn (w o : Nat) (v : Word) (s : State) : (lkPut w o v s).awn = s.awn := rfl
@[simp] theorem lkPut_cyc (w o : Nat) (v : Word) (s : State) : (lkPut w o v s).cyc = s.cyc := rfl
@[simp] theorem lkPut_sch (w o : Nat) (v : Word) (s : State) : (lkPut w o v s).sch = s.sch := rfl
@[simp] theorem lkPut_vyf (w o : Nat) (v : Word) (s : State) : (lkPut w o v s).vyf = s.vyf := rfl
@[simp] theorem lkPut_fab (w o : Nat) (v : Word) (s : State) : (lkPut w o v s).fab = s.fab := rfl
@[simp] theorem lkPut_hub (w o : Nat) (v : Word) (s : State) : (lkPut w o v s).hub = s.hub := rfl
@[simp] theorem lkPut_pair (w o : Nat) (v : Word) (s : State) : (lkPut w o v s).pair = s.pair := rfl
@[simp] theorem lkPut_glm (w o : Nat) (v : Word) (s : State) : (lkPut w o v s).glm = s.glm := rfl
@[simp] theorem lkPut_fio (w o : Nat) (v : Word) (s : State) : (lkPut w o v s).fio = s.fio := rfl
@[simp] theorem lkPut_can0 (w o : Nat) (v : Word) (s : State) : (lkPut w o v s).can0 = s.can0 := rfl
@[simp] theorem lkPut_can1 (w o : Nat) (v : Word) (s : State) : (lkPut w o v s).can1 = s.can1 := rfl
@[simp] theorem lkPut_culm (w o : Nat) (v : Word) (s : State) : (lkPut w o v s).culm = s.culm := rfl
@[simp] theorem lkPut_sup (w o : Nat) (v : Word) (s : State) : (lkPut w o v s).sup = s.sup := rfl
@[simp] theorem lkPut_aon (w o : Nat) (v : Word) (s : State) : (lkPut w o v s).aon = s.aon := rfl
@[simp] theorem lkPut_sec (w o : Nat) (v : Word) (s : State) : (lkPut w o v s).sec = s.sec := rfl
@[simp] theorem lkPut_area (w o : Nat) (v : Word) (s : State) : (lkPut w o v s).area = s.area := rfl
@[simp] theorem lkPut_fuse (w o : Nat) (v : Word) (s : State) : (lkPut w o v s).fuse = s.fuse := rfl
@[simp] theorem lkPut_thr (w o : Nat) (v : Word) (s : State) : (lkPut w o v s).thr = s.thr := rfl
@[simp] theorem lkPut_grn (w o : Nat) (v : Word) (s : State) : (lkPut w o v s).grn = s.grn := rfl
@[simp] theorem lkPut_eng (w o : Nat) (v : Word) (s : State) : (lkPut w o v s).eng = s.eng := rfl
@[simp] theorem lkPut_free (w o : Nat) (v : Word) (s : State) : (lkPut w o v s).free = s.free := rfl

@[simp] theorem modTri_pending (t : Nat) (f : Triad → Triad) (s : State) : (modTri t f s).pending = s.pending := rfl
@[simp] theorem modTri_out (t : Nat) (f : Triad → Triad) (s : State) : (modTri t f s).out = s.out := rfl
@[simp] theorem modTri_clk (t : Nat) (f : Triad → Triad) (s : State) : (modTri t f s).clk = s.clk := rfl
@[simp] theorem modTri_mod (t : Nat) (f : Triad → Triad) (s : State) : (modTri t f s).mod = s.mod := rfl
@[simp] theorem modTri_mem (t : Nat) (f : Triad → Triad) (s : State) : (modTri t f s).mem = s.mem := rfl
@[simp] theorem modTri_lk (t : Nat) (f : Triad → Triad) (s : State) : (modTri t f s).lk = s.lk := rfl
@[simp] theorem modTri_img (t : Nat) (f : Triad → Triad) (s : State) : (modTri t f s).img = s.img := rfl
@[simp] theorem modTri_rch (t : Nat) (f : Triad → Triad) (s : State) : (modTri t f s).rch = s.rch := rfl
@[simp] theorem modTri_awn (t : Nat) (f : Triad → Triad) (s : State) : (modTri t f s).awn = s.awn := rfl
@[simp] theorem modTri_cyc (t : Nat) (f : Triad → Triad) (s : State) : (modTri t f s).cyc = s.cyc := rfl
@[simp] theorem modTri_sch (t : Nat) (f : Triad → Triad) (s : State) : (modTri t f s).sch = s.sch := rfl
@[simp] theorem modTri_vyf (t : Nat) (f : Triad → Triad) (s : State) : (modTri t f s).vyf = s.vyf := rfl
@[simp] theorem modTri_fab (t : Nat) (f : Triad → Triad) (s : State) : (modTri t f s).fab = s.fab := rfl
@[simp] theorem modTri_hub (t : Nat) (f : Triad → Triad) (s : State) : (modTri t f s).hub = s.hub := rfl
@[simp] theorem modTri_pair (t : Nat) (f : Triad → Triad) (s : State) : (modTri t f s).pair = s.pair := rfl
@[simp] theorem modTri_glm (t : Nat) (f : Triad → Triad) (s : State) : (modTri t f s).glm = s.glm := rfl
@[simp] theorem modTri_fio (t : Nat) (f : Triad → Triad) (s : State) : (modTri t f s).fio = s.fio := rfl
@[simp] theorem modTri_can0 (t : Nat) (f : Triad → Triad) (s : State) : (modTri t f s).can0 = s.can0 := rfl
@[simp] theorem modTri_can1 (t : Nat) (f : Triad → Triad) (s : State) : (modTri t f s).can1 = s.can1 := rfl
@[simp] theorem modTri_culm (t : Nat) (f : Triad → Triad) (s : State) : (modTri t f s).culm = s.culm := rfl
@[simp] theorem modTri_sup (t : Nat) (f : Triad → Triad) (s : State) : (modTri t f s).sup = s.sup := rfl
@[simp] theorem modTri_aon (t : Nat) (f : Triad → Triad) (s : State) : (modTri t f s).aon = s.aon := rfl
@[simp] theorem modTri_sec (t : Nat) (f : Triad → Triad) (s : State) : (modTri t f s).sec = s.sec := rfl
@[simp] theorem modTri_area (t : Nat) (f : Triad → Triad) (s : State) : (modTri t f s).area = s.area := rfl
@[simp] theorem modTri_fuse (t : Nat) (f : Triad → Triad) (s : State) : (modTri t f s).fuse = s.fuse := rfl
@[simp] theorem modTri_thr (t : Nat) (f : Triad → Triad) (s : State) : (modTri t f s).thr = s.thr := rfl
@[simp] theorem modTri_grn (t : Nat) (f : Triad → Triad) (s : State) : (modTri t f s).grn = s.grn := rfl
@[simp] theorem modTri_eng (t : Nat) (f : Triad → Triad) (s : State) : (modTri t f s).eng = s.eng := rfl
@[simp] theorem modTri_free (t : Nat) (f : Triad → Triad) (s : State) : (modTri t f s).free = s.free := rfl

@[simp] theorem modCore_pending (n : Nat) (f : Core → Core) (s : State) : (modCore n f s).pending = s.pending := rfl
@[simp] theorem modCore_out (n : Nat) (f : Core → Core) (s : State) : (modCore n f s).out = s.out := rfl
@[simp] theorem modCore_clk (n : Nat) (f : Core → Core) (s : State) : (modCore n f s).clk = s.clk := rfl
@[simp] theorem modCore_mod (n : Nat) (f : Core → Core) (s : State) : (modCore n f s).mod = s.mod := rfl
@[simp] theorem modCore_mem (n : Nat) (f : Core → Core) (s : State) : (modCore n f s).mem = s.mem := rfl
@[simp] theorem modCore_lk (n : Nat) (f : Core → Core) (s : State) : (modCore n f s).lk = s.lk := rfl
@[simp] theorem modCore_img (n : Nat) (f : Core → Core) (s : State) : (modCore n f s).img = s.img := rfl
@[simp] theorem modCore_rch (n : Nat) (f : Core → Core) (s : State) : (modCore n f s).rch = s.rch := rfl
@[simp] theorem modCore_awn (n : Nat) (f : Core → Core) (s : State) : (modCore n f s).awn = s.awn := rfl
@[simp] theorem modCore_cyc (n : Nat) (f : Core → Core) (s : State) : (modCore n f s).cyc = s.cyc := rfl
@[simp] theorem modCore_sch (n : Nat) (f : Core → Core) (s : State) : (modCore n f s).sch = s.sch := rfl
@[simp] theorem modCore_vyf (n : Nat) (f : Core → Core) (s : State) : (modCore n f s).vyf = s.vyf := rfl
@[simp] theorem modCore_fab (n : Nat) (f : Core → Core) (s : State) : (modCore n f s).fab = s.fab := rfl
@[simp] theorem modCore_hub (n : Nat) (f : Core → Core) (s : State) : (modCore n f s).hub = s.hub := rfl
@[simp] theorem modCore_pair (n : Nat) (f : Core → Core) (s : State) : (modCore n f s).pair = s.pair := rfl
@[simp] theorem modCore_glm (n : Nat) (f : Core → Core) (s : State) : (modCore n f s).glm = s.glm := rfl
@[simp] theorem modCore_fio (n : Nat) (f : Core → Core) (s : State) : (modCore n f s).fio = s.fio := rfl
@[simp] theorem modCore_can0 (n : Nat) (f : Core → Core) (s : State) : (modCore n f s).can0 = s.can0 := rfl
@[simp] theorem modCore_can1 (n : Nat) (f : Core → Core) (s : State) : (modCore n f s).can1 = s.can1 := rfl
@[simp] theorem modCore_culm (n : Nat) (f : Core → Core) (s : State) : (modCore n f s).culm = s.culm := rfl
@[simp] theorem modCore_sup (n : Nat) (f : Core → Core) (s : State) : (modCore n f s).sup = s.sup := rfl
@[simp] theorem modCore_aon (n : Nat) (f : Core → Core) (s : State) : (modCore n f s).aon = s.aon := rfl
@[simp] theorem modCore_sec (n : Nat) (f : Core → Core) (s : State) : (modCore n f s).sec = s.sec := rfl
@[simp] theorem modCore_area (n : Nat) (f : Core → Core) (s : State) : (modCore n f s).area = s.area := rfl
@[simp] theorem modCore_fuse (n : Nat) (f : Core → Core) (s : State) : (modCore n f s).fuse = s.fuse := rfl
@[simp] theorem modCore_thr (n : Nat) (f : Core → Core) (s : State) : (modCore n f s).thr = s.thr := rfl
@[simp] theorem modCore_grn (n : Nat) (f : Core → Core) (s : State) : (modCore n f s).grn = s.grn := rfl
@[simp] theorem modCore_eng (n : Nat) (f : Core → Core) (s : State) : (modCore n f s).eng = s.eng := rfl
@[simp] theorem modCore_free (n : Nat) (f : Core → Core) (s : State) : (modCore n f s).free = s.free := rfl

@[simp] theorem errAwn_pending (b : Nat) (i : Word) (s : State) : (errAwn b i s).pending = s.pending := rfl
@[simp] theorem errAwn_out (b : Nat) (i : Word) (s : State) : (errAwn b i s).out = s.out := rfl
@[simp] theorem errAwn_clk (b : Nat) (i : Word) (s : State) : (errAwn b i s).clk = s.clk := rfl
@[simp] theorem errAwn_mod (b : Nat) (i : Word) (s : State) : (errAwn b i s).mod = s.mod := rfl
@[simp] theorem errAwn_mem (b : Nat) (i : Word) (s : State) : (errAwn b i s).mem = s.mem := rfl
@[simp] theorem errAwn_lk (b : Nat) (i : Word) (s : State) : (errAwn b i s).lk = s.lk := rfl
@[simp] theorem errAwn_img (b : Nat) (i : Word) (s : State) : (errAwn b i s).img = s.img := rfl
@[simp] theorem errAwn_rch (b : Nat) (i : Word) (s : State) : (errAwn b i s).rch = s.rch := rfl
@[simp] theorem errAwn_trd (b : Nat) (i : Word) (s : State) : (errAwn b i s).trd = s.trd := rfl
@[simp] theorem errAwn_cyc (b : Nat) (i : Word) (s : State) : (errAwn b i s).cyc = s.cyc := rfl
@[simp] theorem errAwn_sch (b : Nat) (i : Word) (s : State) : (errAwn b i s).sch = s.sch := rfl
@[simp] theorem errAwn_vyf (b : Nat) (i : Word) (s : State) : (errAwn b i s).vyf = s.vyf := rfl
@[simp] theorem errAwn_fab (b : Nat) (i : Word) (s : State) : (errAwn b i s).fab = s.fab := rfl
@[simp] theorem errAwn_hub (b : Nat) (i : Word) (s : State) : (errAwn b i s).hub = s.hub := rfl
@[simp] theorem errAwn_pair (b : Nat) (i : Word) (s : State) : (errAwn b i s).pair = s.pair := rfl
@[simp] theorem errAwn_glm (b : Nat) (i : Word) (s : State) : (errAwn b i s).glm = s.glm := rfl
@[simp] theorem errAwn_fio (b : Nat) (i : Word) (s : State) : (errAwn b i s).fio = s.fio := rfl
@[simp] theorem errAwn_can0 (b : Nat) (i : Word) (s : State) : (errAwn b i s).can0 = s.can0 := rfl
@[simp] theorem errAwn_can1 (b : Nat) (i : Word) (s : State) : (errAwn b i s).can1 = s.can1 := rfl
@[simp] theorem errAwn_culm (b : Nat) (i : Word) (s : State) : (errAwn b i s).culm = s.culm := rfl
@[simp] theorem errAwn_sup (b : Nat) (i : Word) (s : State) : (errAwn b i s).sup = s.sup := rfl
@[simp] theorem errAwn_aon (b : Nat) (i : Word) (s : State) : (errAwn b i s).aon = s.aon := rfl
@[simp] theorem errAwn_sec (b : Nat) (i : Word) (s : State) : (errAwn b i s).sec = s.sec := rfl
@[simp] theorem errAwn_area (b : Nat) (i : Word) (s : State) : (errAwn b i s).area = s.area := rfl
@[simp] theorem errAwn_fuse (b : Nat) (i : Word) (s : State) : (errAwn b i s).fuse = s.fuse := rfl
@[simp] theorem errAwn_thr (b : Nat) (i : Word) (s : State) : (errAwn b i s).thr = s.thr := rfl
@[simp] theorem errAwn_grn (b : Nat) (i : Word) (s : State) : (errAwn b i s).grn = s.grn := rfl
@[simp] theorem errAwn_eng (b : Nat) (i : Word) (s : State) : (errAwn b i s).eng = s.eng := rfl
@[simp] theorem errAwn_free (b : Nat) (i : Word) (s : State) : (errAwn b i s).free = s.free := rfl

@[simp] theorem errCyc_pending (b : Nat) (i : Word) (s : State) : (errCyc b i s).pending = s.pending := rfl
@[simp] theorem errCyc_out (b : Nat) (i : Word) (s : State) : (errCyc b i s).out = s.out := rfl
@[simp] theorem errCyc_clk (b : Nat) (i : Word) (s : State) : (errCyc b i s).clk = s.clk := rfl
@[simp] theorem errCyc_mod (b : Nat) (i : Word) (s : State) : (errCyc b i s).mod = s.mod := rfl
@[simp] theorem errCyc_mem (b : Nat) (i : Word) (s : State) : (errCyc b i s).mem = s.mem := rfl
@[simp] theorem errCyc_lk (b : Nat) (i : Word) (s : State) : (errCyc b i s).lk = s.lk := rfl
@[simp] theorem errCyc_img (b : Nat) (i : Word) (s : State) : (errCyc b i s).img = s.img := rfl
@[simp] theorem errCyc_rch (b : Nat) (i : Word) (s : State) : (errCyc b i s).rch = s.rch := rfl
@[simp] theorem errCyc_trd (b : Nat) (i : Word) (s : State) : (errCyc b i s).trd = s.trd := rfl
@[simp] theorem errCyc_awn (b : Nat) (i : Word) (s : State) : (errCyc b i s).awn = s.awn := rfl
@[simp] theorem errCyc_sch (b : Nat) (i : Word) (s : State) : (errCyc b i s).sch = s.sch := rfl
@[simp] theorem errCyc_vyf (b : Nat) (i : Word) (s : State) : (errCyc b i s).vyf = s.vyf := rfl
@[simp] theorem errCyc_fab (b : Nat) (i : Word) (s : State) : (errCyc b i s).fab = s.fab := rfl
@[simp] theorem errCyc_hub (b : Nat) (i : Word) (s : State) : (errCyc b i s).hub = s.hub := rfl
@[simp] theorem errCyc_pair (b : Nat) (i : Word) (s : State) : (errCyc b i s).pair = s.pair := rfl
@[simp] theorem errCyc_glm (b : Nat) (i : Word) (s : State) : (errCyc b i s).glm = s.glm := rfl
@[simp] theorem errCyc_fio (b : Nat) (i : Word) (s : State) : (errCyc b i s).fio = s.fio := rfl
@[simp] theorem errCyc_can0 (b : Nat) (i : Word) (s : State) : (errCyc b i s).can0 = s.can0 := rfl
@[simp] theorem errCyc_can1 (b : Nat) (i : Word) (s : State) : (errCyc b i s).can1 = s.can1 := rfl
@[simp] theorem errCyc_culm (b : Nat) (i : Word) (s : State) : (errCyc b i s).culm = s.culm := rfl
@[simp] theorem errCyc_sup (b : Nat) (i : Word) (s : State) : (errCyc b i s).sup = s.sup := rfl
@[simp] theorem errCyc_aon (b : Nat) (i : Word) (s : State) : (errCyc b i s).aon = s.aon := rfl
@[simp] theorem errCyc_sec (b : Nat) (i : Word) (s : State) : (errCyc b i s).sec = s.sec := rfl
@[simp] theorem errCyc_area (b : Nat) (i : Word) (s : State) : (errCyc b i s).area = s.area := rfl
@[simp] theorem errCyc_fuse (b : Nat) (i : Word) (s : State) : (errCyc b i s).fuse = s.fuse := rfl
@[simp] theorem errCyc_thr (b : Nat) (i : Word) (s : State) : (errCyc b i s).thr = s.thr := rfl
@[simp] theorem errCyc_grn (b : Nat) (i : Word) (s : State) : (errCyc b i s).grn = s.grn := rfl
@[simp] theorem errCyc_eng (b : Nat) (i : Word) (s : State) : (errCyc b i s).eng = s.eng := rfl
@[simp] theorem errCyc_free (b : Nat) (i : Word) (s : State) : (errCyc b i s).free = s.free := rfl

@[simp] theorem errSch_pending (b : Nat) (i : Word) (s : State) : (errSch b i s).pending = s.pending := rfl
@[simp] theorem errSch_out (b : Nat) (i : Word) (s : State) : (errSch b i s).out = s.out := rfl
@[simp] theorem errSch_clk (b : Nat) (i : Word) (s : State) : (errSch b i s).clk = s.clk := rfl
@[simp] theorem errSch_mod (b : Nat) (i : Word) (s : State) : (errSch b i s).mod = s.mod := rfl
@[simp] theorem errSch_mem (b : Nat) (i : Word) (s : State) : (errSch b i s).mem = s.mem := rfl
@[simp] theorem errSch_lk (b : Nat) (i : Word) (s : State) : (errSch b i s).lk = s.lk := rfl
@[simp] theorem errSch_img (b : Nat) (i : Word) (s : State) : (errSch b i s).img = s.img := rfl
@[simp] theorem errSch_rch (b : Nat) (i : Word) (s : State) : (errSch b i s).rch = s.rch := rfl
@[simp] theorem errSch_trd (b : Nat) (i : Word) (s : State) : (errSch b i s).trd = s.trd := rfl
@[simp] theorem errSch_awn (b : Nat) (i : Word) (s : State) : (errSch b i s).awn = s.awn := rfl
@[simp] theorem errSch_cyc (b : Nat) (i : Word) (s : State) : (errSch b i s).cyc = s.cyc := rfl
@[simp] theorem errSch_vyf (b : Nat) (i : Word) (s : State) : (errSch b i s).vyf = s.vyf := rfl
@[simp] theorem errSch_fab (b : Nat) (i : Word) (s : State) : (errSch b i s).fab = s.fab := rfl
@[simp] theorem errSch_hub (b : Nat) (i : Word) (s : State) : (errSch b i s).hub = s.hub := rfl
@[simp] theorem errSch_pair (b : Nat) (i : Word) (s : State) : (errSch b i s).pair = s.pair := rfl
@[simp] theorem errSch_glm (b : Nat) (i : Word) (s : State) : (errSch b i s).glm = s.glm := rfl
@[simp] theorem errSch_fio (b : Nat) (i : Word) (s : State) : (errSch b i s).fio = s.fio := rfl
@[simp] theorem errSch_can0 (b : Nat) (i : Word) (s : State) : (errSch b i s).can0 = s.can0 := rfl
@[simp] theorem errSch_can1 (b : Nat) (i : Word) (s : State) : (errSch b i s).can1 = s.can1 := rfl
@[simp] theorem errSch_culm (b : Nat) (i : Word) (s : State) : (errSch b i s).culm = s.culm := rfl
@[simp] theorem errSch_sup (b : Nat) (i : Word) (s : State) : (errSch b i s).sup = s.sup := rfl
@[simp] theorem errSch_aon (b : Nat) (i : Word) (s : State) : (errSch b i s).aon = s.aon := rfl
@[simp] theorem errSch_sec (b : Nat) (i : Word) (s : State) : (errSch b i s).sec = s.sec := rfl
@[simp] theorem errSch_area (b : Nat) (i : Word) (s : State) : (errSch b i s).area = s.area := rfl
@[simp] theorem errSch_fuse (b : Nat) (i : Word) (s : State) : (errSch b i s).fuse = s.fuse := rfl
@[simp] theorem errSch_thr (b : Nat) (i : Word) (s : State) : (errSch b i s).thr = s.thr := rfl
@[simp] theorem errSch_grn (b : Nat) (i : Word) (s : State) : (errSch b i s).grn = s.grn := rfl
@[simp] theorem errSch_eng (b : Nat) (i : Word) (s : State) : (errSch b i s).eng = s.eng := rfl
@[simp] theorem errSch_free (b : Nat) (i : Word) (s : State) : (errSch b i s).free = s.free := rfl

@[simp] theorem errVyf_pending (b : Nat) (i : Word) (s : State) : (errVyf b i s).pending = s.pending := rfl
@[simp] theorem errVyf_out (b : Nat) (i : Word) (s : State) : (errVyf b i s).out = s.out := rfl
@[simp] theorem errVyf_clk (b : Nat) (i : Word) (s : State) : (errVyf b i s).clk = s.clk := rfl
@[simp] theorem errVyf_mod (b : Nat) (i : Word) (s : State) : (errVyf b i s).mod = s.mod := rfl
@[simp] theorem errVyf_mem (b : Nat) (i : Word) (s : State) : (errVyf b i s).mem = s.mem := rfl
@[simp] theorem errVyf_lk (b : Nat) (i : Word) (s : State) : (errVyf b i s).lk = s.lk := rfl
@[simp] theorem errVyf_img (b : Nat) (i : Word) (s : State) : (errVyf b i s).img = s.img := rfl
@[simp] theorem errVyf_rch (b : Nat) (i : Word) (s : State) : (errVyf b i s).rch = s.rch := rfl
@[simp] theorem errVyf_trd (b : Nat) (i : Word) (s : State) : (errVyf b i s).trd = s.trd := rfl
@[simp] theorem errVyf_awn (b : Nat) (i : Word) (s : State) : (errVyf b i s).awn = s.awn := rfl
@[simp] theorem errVyf_cyc (b : Nat) (i : Word) (s : State) : (errVyf b i s).cyc = s.cyc := rfl
@[simp] theorem errVyf_sch (b : Nat) (i : Word) (s : State) : (errVyf b i s).sch = s.sch := rfl
@[simp] theorem errVyf_fab (b : Nat) (i : Word) (s : State) : (errVyf b i s).fab = s.fab := rfl
@[simp] theorem errVyf_hub (b : Nat) (i : Word) (s : State) : (errVyf b i s).hub = s.hub := rfl
@[simp] theorem errVyf_pair (b : Nat) (i : Word) (s : State) : (errVyf b i s).pair = s.pair := rfl
@[simp] theorem errVyf_glm (b : Nat) (i : Word) (s : State) : (errVyf b i s).glm = s.glm := rfl
@[simp] theorem errVyf_fio (b : Nat) (i : Word) (s : State) : (errVyf b i s).fio = s.fio := rfl
@[simp] theorem errVyf_can0 (b : Nat) (i : Word) (s : State) : (errVyf b i s).can0 = s.can0 := rfl
@[simp] theorem errVyf_can1 (b : Nat) (i : Word) (s : State) : (errVyf b i s).can1 = s.can1 := rfl
@[simp] theorem errVyf_culm (b : Nat) (i : Word) (s : State) : (errVyf b i s).culm = s.culm := rfl
@[simp] theorem errVyf_sup (b : Nat) (i : Word) (s : State) : (errVyf b i s).sup = s.sup := rfl
@[simp] theorem errVyf_aon (b : Nat) (i : Word) (s : State) : (errVyf b i s).aon = s.aon := rfl
@[simp] theorem errVyf_sec (b : Nat) (i : Word) (s : State) : (errVyf b i s).sec = s.sec := rfl
@[simp] theorem errVyf_area (b : Nat) (i : Word) (s : State) : (errVyf b i s).area = s.area := rfl
@[simp] theorem errVyf_fuse (b : Nat) (i : Word) (s : State) : (errVyf b i s).fuse = s.fuse := rfl
@[simp] theorem errVyf_thr (b : Nat) (i : Word) (s : State) : (errVyf b i s).thr = s.thr := rfl
@[simp] theorem errVyf_grn (b : Nat) (i : Word) (s : State) : (errVyf b i s).grn = s.grn := rfl
@[simp] theorem errVyf_eng (b : Nat) (i : Word) (s : State) : (errVyf b i s).eng = s.eng := rfl
@[simp] theorem errVyf_free (b : Nat) (i : Word) (s : State) : (errVyf b i s).free = s.free := rfl

@[simp] theorem errFab_pending (b : Nat) (i : Word) (s : State) : (errFab b i s).pending = s.pending := rfl
@[simp] theorem errFab_out (b : Nat) (i : Word) (s : State) : (errFab b i s).out = s.out := rfl
@[simp] theorem errFab_clk (b : Nat) (i : Word) (s : State) : (errFab b i s).clk = s.clk := rfl
@[simp] theorem errFab_mod (b : Nat) (i : Word) (s : State) : (errFab b i s).mod = s.mod := rfl
@[simp] theorem errFab_mem (b : Nat) (i : Word) (s : State) : (errFab b i s).mem = s.mem := rfl
@[simp] theorem errFab_lk (b : Nat) (i : Word) (s : State) : (errFab b i s).lk = s.lk := rfl
@[simp] theorem errFab_img (b : Nat) (i : Word) (s : State) : (errFab b i s).img = s.img := rfl
@[simp] theorem errFab_rch (b : Nat) (i : Word) (s : State) : (errFab b i s).rch = s.rch := rfl
@[simp] theorem errFab_trd (b : Nat) (i : Word) (s : State) : (errFab b i s).trd = s.trd := rfl
@[simp] theorem errFab_awn (b : Nat) (i : Word) (s : State) : (errFab b i s).awn = s.awn := rfl
@[simp] theorem errFab_cyc (b : Nat) (i : Word) (s : State) : (errFab b i s).cyc = s.cyc := rfl
@[simp] theorem errFab_sch (b : Nat) (i : Word) (s : State) : (errFab b i s).sch = s.sch := rfl
@[simp] theorem errFab_vyf (b : Nat) (i : Word) (s : State) : (errFab b i s).vyf = s.vyf := rfl
@[simp] theorem errFab_hub (b : Nat) (i : Word) (s : State) : (errFab b i s).hub = s.hub := rfl
@[simp] theorem errFab_pair (b : Nat) (i : Word) (s : State) : (errFab b i s).pair = s.pair := rfl
@[simp] theorem errFab_glm (b : Nat) (i : Word) (s : State) : (errFab b i s).glm = s.glm := rfl
@[simp] theorem errFab_fio (b : Nat) (i : Word) (s : State) : (errFab b i s).fio = s.fio := rfl
@[simp] theorem errFab_can0 (b : Nat) (i : Word) (s : State) : (errFab b i s).can0 = s.can0 := rfl
@[simp] theorem errFab_can1 (b : Nat) (i : Word) (s : State) : (errFab b i s).can1 = s.can1 := rfl
@[simp] theorem errFab_culm (b : Nat) (i : Word) (s : State) : (errFab b i s).culm = s.culm := rfl
@[simp] theorem errFab_sup (b : Nat) (i : Word) (s : State) : (errFab b i s).sup = s.sup := rfl
@[simp] theorem errFab_aon (b : Nat) (i : Word) (s : State) : (errFab b i s).aon = s.aon := rfl
@[simp] theorem errFab_sec (b : Nat) (i : Word) (s : State) : (errFab b i s).sec = s.sec := rfl
@[simp] theorem errFab_area (b : Nat) (i : Word) (s : State) : (errFab b i s).area = s.area := rfl
@[simp] theorem errFab_fuse (b : Nat) (i : Word) (s : State) : (errFab b i s).fuse = s.fuse := rfl
@[simp] theorem errFab_thr (b : Nat) (i : Word) (s : State) : (errFab b i s).thr = s.thr := rfl
@[simp] theorem errFab_grn (b : Nat) (i : Word) (s : State) : (errFab b i s).grn = s.grn := rfl
@[simp] theorem errFab_eng (b : Nat) (i : Word) (s : State) : (errFab b i s).eng = s.eng := rfl
@[simp] theorem errFab_free (b : Nat) (i : Word) (s : State) : (errFab b i s).free = s.free := rfl

@[simp] theorem errHub_pending (b : Nat) (i : Word) (s : State) : (errHub b i s).pending = s.pending := rfl
@[simp] theorem errHub_out (b : Nat) (i : Word) (s : State) : (errHub b i s).out = s.out := rfl
@[simp] theorem errHub_clk (b : Nat) (i : Word) (s : State) : (errHub b i s).clk = s.clk := rfl
@[simp] theorem errHub_mod (b : Nat) (i : Word) (s : State) : (errHub b i s).mod = s.mod := rfl
@[simp] theorem errHub_mem (b : Nat) (i : Word) (s : State) : (errHub b i s).mem = s.mem := rfl
@[simp] theorem errHub_lk (b : Nat) (i : Word) (s : State) : (errHub b i s).lk = s.lk := rfl
@[simp] theorem errHub_img (b : Nat) (i : Word) (s : State) : (errHub b i s).img = s.img := rfl
@[simp] theorem errHub_rch (b : Nat) (i : Word) (s : State) : (errHub b i s).rch = s.rch := rfl
@[simp] theorem errHub_trd (b : Nat) (i : Word) (s : State) : (errHub b i s).trd = s.trd := rfl
@[simp] theorem errHub_awn (b : Nat) (i : Word) (s : State) : (errHub b i s).awn = s.awn := rfl
@[simp] theorem errHub_cyc (b : Nat) (i : Word) (s : State) : (errHub b i s).cyc = s.cyc := rfl
@[simp] theorem errHub_sch (b : Nat) (i : Word) (s : State) : (errHub b i s).sch = s.sch := rfl
@[simp] theorem errHub_vyf (b : Nat) (i : Word) (s : State) : (errHub b i s).vyf = s.vyf := rfl
@[simp] theorem errHub_fab (b : Nat) (i : Word) (s : State) : (errHub b i s).fab = s.fab := rfl
@[simp] theorem errHub_pair (b : Nat) (i : Word) (s : State) : (errHub b i s).pair = s.pair := rfl
@[simp] theorem errHub_glm (b : Nat) (i : Word) (s : State) : (errHub b i s).glm = s.glm := rfl
@[simp] theorem errHub_fio (b : Nat) (i : Word) (s : State) : (errHub b i s).fio = s.fio := rfl
@[simp] theorem errHub_can0 (b : Nat) (i : Word) (s : State) : (errHub b i s).can0 = s.can0 := rfl
@[simp] theorem errHub_can1 (b : Nat) (i : Word) (s : State) : (errHub b i s).can1 = s.can1 := rfl
@[simp] theorem errHub_culm (b : Nat) (i : Word) (s : State) : (errHub b i s).culm = s.culm := rfl
@[simp] theorem errHub_sup (b : Nat) (i : Word) (s : State) : (errHub b i s).sup = s.sup := rfl
@[simp] theorem errHub_aon (b : Nat) (i : Word) (s : State) : (errHub b i s).aon = s.aon := rfl
@[simp] theorem errHub_sec (b : Nat) (i : Word) (s : State) : (errHub b i s).sec = s.sec := rfl
@[simp] theorem errHub_area (b : Nat) (i : Word) (s : State) : (errHub b i s).area = s.area := rfl
@[simp] theorem errHub_fuse (b : Nat) (i : Word) (s : State) : (errHub b i s).fuse = s.fuse := rfl
@[simp] theorem errHub_thr (b : Nat) (i : Word) (s : State) : (errHub b i s).thr = s.thr := rfl
@[simp] theorem errHub_grn (b : Nat) (i : Word) (s : State) : (errHub b i s).grn = s.grn := rfl
@[simp] theorem errHub_eng (b : Nat) (i : Word) (s : State) : (errHub b i s).eng = s.eng := rfl
@[simp] theorem errHub_free (b : Nat) (i : Word) (s : State) : (errHub b i s).free = s.free := rfl

@[simp] theorem errPair_pending (b : Nat) (i : Word) (s : State) : (errPair b i s).pending = s.pending := rfl
@[simp] theorem errPair_out (b : Nat) (i : Word) (s : State) : (errPair b i s).out = s.out := rfl
@[simp] theorem errPair_clk (b : Nat) (i : Word) (s : State) : (errPair b i s).clk = s.clk := rfl
@[simp] theorem errPair_mod (b : Nat) (i : Word) (s : State) : (errPair b i s).mod = s.mod := rfl
@[simp] theorem errPair_mem (b : Nat) (i : Word) (s : State) : (errPair b i s).mem = s.mem := rfl
@[simp] theorem errPair_lk (b : Nat) (i : Word) (s : State) : (errPair b i s).lk = s.lk := rfl
@[simp] theorem errPair_img (b : Nat) (i : Word) (s : State) : (errPair b i s).img = s.img := rfl
@[simp] theorem errPair_rch (b : Nat) (i : Word) (s : State) : (errPair b i s).rch = s.rch := rfl
@[simp] theorem errPair_trd (b : Nat) (i : Word) (s : State) : (errPair b i s).trd = s.trd := rfl
@[simp] theorem errPair_awn (b : Nat) (i : Word) (s : State) : (errPair b i s).awn = s.awn := rfl
@[simp] theorem errPair_cyc (b : Nat) (i : Word) (s : State) : (errPair b i s).cyc = s.cyc := rfl
@[simp] theorem errPair_sch (b : Nat) (i : Word) (s : State) : (errPair b i s).sch = s.sch := rfl
@[simp] theorem errPair_vyf (b : Nat) (i : Word) (s : State) : (errPair b i s).vyf = s.vyf := rfl
@[simp] theorem errPair_fab (b : Nat) (i : Word) (s : State) : (errPair b i s).fab = s.fab := rfl
@[simp] theorem errPair_hub (b : Nat) (i : Word) (s : State) : (errPair b i s).hub = s.hub := rfl
@[simp] theorem errPair_glm (b : Nat) (i : Word) (s : State) : (errPair b i s).glm = s.glm := rfl
@[simp] theorem errPair_fio (b : Nat) (i : Word) (s : State) : (errPair b i s).fio = s.fio := rfl
@[simp] theorem errPair_can0 (b : Nat) (i : Word) (s : State) : (errPair b i s).can0 = s.can0 := rfl
@[simp] theorem errPair_can1 (b : Nat) (i : Word) (s : State) : (errPair b i s).can1 = s.can1 := rfl
@[simp] theorem errPair_culm (b : Nat) (i : Word) (s : State) : (errPair b i s).culm = s.culm := rfl
@[simp] theorem errPair_sup (b : Nat) (i : Word) (s : State) : (errPair b i s).sup = s.sup := rfl
@[simp] theorem errPair_aon (b : Nat) (i : Word) (s : State) : (errPair b i s).aon = s.aon := rfl
@[simp] theorem errPair_sec (b : Nat) (i : Word) (s : State) : (errPair b i s).sec = s.sec := rfl
@[simp] theorem errPair_area (b : Nat) (i : Word) (s : State) : (errPair b i s).area = s.area := rfl
@[simp] theorem errPair_fuse (b : Nat) (i : Word) (s : State) : (errPair b i s).fuse = s.fuse := rfl
@[simp] theorem errPair_thr (b : Nat) (i : Word) (s : State) : (errPair b i s).thr = s.thr := rfl
@[simp] theorem errPair_grn (b : Nat) (i : Word) (s : State) : (errPair b i s).grn = s.grn := rfl
@[simp] theorem errPair_eng (b : Nat) (i : Word) (s : State) : (errPair b i s).eng = s.eng := rfl
@[simp] theorem errPair_free (b : Nat) (i : Word) (s : State) : (errPair b i s).free = s.free := rfl

@[simp] theorem errGlm_pending (b : Nat) (i : Word) (s : State) : (errGlm b i s).pending = s.pending := rfl
@[simp] theorem errGlm_out (b : Nat) (i : Word) (s : State) : (errGlm b i s).out = s.out := rfl
@[simp] theorem errGlm_clk (b : Nat) (i : Word) (s : State) : (errGlm b i s).clk = s.clk := rfl
@[simp] theorem errGlm_mod (b : Nat) (i : Word) (s : State) : (errGlm b i s).mod = s.mod := rfl
@[simp] theorem errGlm_mem (b : Nat) (i : Word) (s : State) : (errGlm b i s).mem = s.mem := rfl
@[simp] theorem errGlm_lk (b : Nat) (i : Word) (s : State) : (errGlm b i s).lk = s.lk := rfl
@[simp] theorem errGlm_img (b : Nat) (i : Word) (s : State) : (errGlm b i s).img = s.img := rfl
@[simp] theorem errGlm_rch (b : Nat) (i : Word) (s : State) : (errGlm b i s).rch = s.rch := rfl
@[simp] theorem errGlm_trd (b : Nat) (i : Word) (s : State) : (errGlm b i s).trd = s.trd := rfl
@[simp] theorem errGlm_awn (b : Nat) (i : Word) (s : State) : (errGlm b i s).awn = s.awn := rfl
@[simp] theorem errGlm_cyc (b : Nat) (i : Word) (s : State) : (errGlm b i s).cyc = s.cyc := rfl
@[simp] theorem errGlm_sch (b : Nat) (i : Word) (s : State) : (errGlm b i s).sch = s.sch := rfl
@[simp] theorem errGlm_vyf (b : Nat) (i : Word) (s : State) : (errGlm b i s).vyf = s.vyf := rfl
@[simp] theorem errGlm_fab (b : Nat) (i : Word) (s : State) : (errGlm b i s).fab = s.fab := rfl
@[simp] theorem errGlm_hub (b : Nat) (i : Word) (s : State) : (errGlm b i s).hub = s.hub := rfl
@[simp] theorem errGlm_pair (b : Nat) (i : Word) (s : State) : (errGlm b i s).pair = s.pair := rfl
@[simp] theorem errGlm_fio (b : Nat) (i : Word) (s : State) : (errGlm b i s).fio = s.fio := rfl
@[simp] theorem errGlm_can0 (b : Nat) (i : Word) (s : State) : (errGlm b i s).can0 = s.can0 := rfl
@[simp] theorem errGlm_can1 (b : Nat) (i : Word) (s : State) : (errGlm b i s).can1 = s.can1 := rfl
@[simp] theorem errGlm_culm (b : Nat) (i : Word) (s : State) : (errGlm b i s).culm = s.culm := rfl
@[simp] theorem errGlm_sup (b : Nat) (i : Word) (s : State) : (errGlm b i s).sup = s.sup := rfl
@[simp] theorem errGlm_aon (b : Nat) (i : Word) (s : State) : (errGlm b i s).aon = s.aon := rfl
@[simp] theorem errGlm_sec (b : Nat) (i : Word) (s : State) : (errGlm b i s).sec = s.sec := rfl
@[simp] theorem errGlm_area (b : Nat) (i : Word) (s : State) : (errGlm b i s).area = s.area := rfl
@[simp] theorem errGlm_fuse (b : Nat) (i : Word) (s : State) : (errGlm b i s).fuse = s.fuse := rfl
@[simp] theorem errGlm_thr (b : Nat) (i : Word) (s : State) : (errGlm b i s).thr = s.thr := rfl
@[simp] theorem errGlm_grn (b : Nat) (i : Word) (s : State) : (errGlm b i s).grn = s.grn := rfl
@[simp] theorem errGlm_eng (b : Nat) (i : Word) (s : State) : (errGlm b i s).eng = s.eng := rfl
@[simp] theorem errGlm_free (b : Nat) (i : Word) (s : State) : (errGlm b i s).free = s.free := rfl

@[simp] theorem errFio_pending (b : Nat) (i : Word) (s : State) : (errFio b i s).pending = s.pending := rfl
@[simp] theorem errFio_out (b : Nat) (i : Word) (s : State) : (errFio b i s).out = s.out := rfl
@[simp] theorem errFio_clk (b : Nat) (i : Word) (s : State) : (errFio b i s).clk = s.clk := rfl
@[simp] theorem errFio_mod (b : Nat) (i : Word) (s : State) : (errFio b i s).mod = s.mod := rfl
@[simp] theorem errFio_mem (b : Nat) (i : Word) (s : State) : (errFio b i s).mem = s.mem := rfl
@[simp] theorem errFio_lk (b : Nat) (i : Word) (s : State) : (errFio b i s).lk = s.lk := rfl
@[simp] theorem errFio_img (b : Nat) (i : Word) (s : State) : (errFio b i s).img = s.img := rfl
@[simp] theorem errFio_rch (b : Nat) (i : Word) (s : State) : (errFio b i s).rch = s.rch := rfl
@[simp] theorem errFio_trd (b : Nat) (i : Word) (s : State) : (errFio b i s).trd = s.trd := rfl
@[simp] theorem errFio_awn (b : Nat) (i : Word) (s : State) : (errFio b i s).awn = s.awn := rfl
@[simp] theorem errFio_cyc (b : Nat) (i : Word) (s : State) : (errFio b i s).cyc = s.cyc := rfl
@[simp] theorem errFio_sch (b : Nat) (i : Word) (s : State) : (errFio b i s).sch = s.sch := rfl
@[simp] theorem errFio_vyf (b : Nat) (i : Word) (s : State) : (errFio b i s).vyf = s.vyf := rfl
@[simp] theorem errFio_fab (b : Nat) (i : Word) (s : State) : (errFio b i s).fab = s.fab := rfl
@[simp] theorem errFio_hub (b : Nat) (i : Word) (s : State) : (errFio b i s).hub = s.hub := rfl
@[simp] theorem errFio_pair (b : Nat) (i : Word) (s : State) : (errFio b i s).pair = s.pair := rfl
@[simp] theorem errFio_glm (b : Nat) (i : Word) (s : State) : (errFio b i s).glm = s.glm := rfl
@[simp] theorem errFio_can0 (b : Nat) (i : Word) (s : State) : (errFio b i s).can0 = s.can0 := rfl
@[simp] theorem errFio_can1 (b : Nat) (i : Word) (s : State) : (errFio b i s).can1 = s.can1 := rfl
@[simp] theorem errFio_culm (b : Nat) (i : Word) (s : State) : (errFio b i s).culm = s.culm := rfl
@[simp] theorem errFio_sup (b : Nat) (i : Word) (s : State) : (errFio b i s).sup = s.sup := rfl
@[simp] theorem errFio_aon (b : Nat) (i : Word) (s : State) : (errFio b i s).aon = s.aon := rfl
@[simp] theorem errFio_sec (b : Nat) (i : Word) (s : State) : (errFio b i s).sec = s.sec := rfl
@[simp] theorem errFio_area (b : Nat) (i : Word) (s : State) : (errFio b i s).area = s.area := rfl
@[simp] theorem errFio_fuse (b : Nat) (i : Word) (s : State) : (errFio b i s).fuse = s.fuse := rfl
@[simp] theorem errFio_thr (b : Nat) (i : Word) (s : State) : (errFio b i s).thr = s.thr := rfl
@[simp] theorem errFio_grn (b : Nat) (i : Word) (s : State) : (errFio b i s).grn = s.grn := rfl
@[simp] theorem errFio_eng (b : Nat) (i : Word) (s : State) : (errFio b i s).eng = s.eng := rfl
@[simp] theorem errFio_free (b : Nat) (i : Word) (s : State) : (errFio b i s).free = s.free := rfl

@[simp] theorem errSup_pending (b : Nat) (i : Word) (s : State) : (errSup b i s).pending = s.pending := rfl
@[simp] theorem errSup_out (b : Nat) (i : Word) (s : State) : (errSup b i s).out = s.out := rfl
@[simp] theorem errSup_clk (b : Nat) (i : Word) (s : State) : (errSup b i s).clk = s.clk := rfl
@[simp] theorem errSup_mod (b : Nat) (i : Word) (s : State) : (errSup b i s).mod = s.mod := rfl
@[simp] theorem errSup_mem (b : Nat) (i : Word) (s : State) : (errSup b i s).mem = s.mem := rfl
@[simp] theorem errSup_lk (b : Nat) (i : Word) (s : State) : (errSup b i s).lk = s.lk := rfl
@[simp] theorem errSup_img (b : Nat) (i : Word) (s : State) : (errSup b i s).img = s.img := rfl
@[simp] theorem errSup_rch (b : Nat) (i : Word) (s : State) : (errSup b i s).rch = s.rch := rfl
@[simp] theorem errSup_trd (b : Nat) (i : Word) (s : State) : (errSup b i s).trd = s.trd := rfl
@[simp] theorem errSup_awn (b : Nat) (i : Word) (s : State) : (errSup b i s).awn = s.awn := rfl
@[simp] theorem errSup_cyc (b : Nat) (i : Word) (s : State) : (errSup b i s).cyc = s.cyc := rfl
@[simp] theorem errSup_sch (b : Nat) (i : Word) (s : State) : (errSup b i s).sch = s.sch := rfl
@[simp] theorem errSup_vyf (b : Nat) (i : Word) (s : State) : (errSup b i s).vyf = s.vyf := rfl
@[simp] theorem errSup_fab (b : Nat) (i : Word) (s : State) : (errSup b i s).fab = s.fab := rfl
@[simp] theorem errSup_hub (b : Nat) (i : Word) (s : State) : (errSup b i s).hub = s.hub := rfl
@[simp] theorem errSup_pair (b : Nat) (i : Word) (s : State) : (errSup b i s).pair = s.pair := rfl
@[simp] theorem errSup_glm (b : Nat) (i : Word) (s : State) : (errSup b i s).glm = s.glm := rfl
@[simp] theorem errSup_fio (b : Nat) (i : Word) (s : State) : (errSup b i s).fio = s.fio := rfl
@[simp] theorem errSup_can0 (b : Nat) (i : Word) (s : State) : (errSup b i s).can0 = s.can0 := rfl
@[simp] theorem errSup_can1 (b : Nat) (i : Word) (s : State) : (errSup b i s).can1 = s.can1 := rfl
@[simp] theorem errSup_culm (b : Nat) (i : Word) (s : State) : (errSup b i s).culm = s.culm := rfl
@[simp] theorem errSup_aon (b : Nat) (i : Word) (s : State) : (errSup b i s).aon = s.aon := rfl
@[simp] theorem errSup_sec (b : Nat) (i : Word) (s : State) : (errSup b i s).sec = s.sec := rfl
@[simp] theorem errSup_area (b : Nat) (i : Word) (s : State) : (errSup b i s).area = s.area := rfl
@[simp] theorem errSup_fuse (b : Nat) (i : Word) (s : State) : (errSup b i s).fuse = s.fuse := rfl
@[simp] theorem errSup_thr (b : Nat) (i : Word) (s : State) : (errSup b i s).thr = s.thr := rfl
@[simp] theorem errSup_grn (b : Nat) (i : Word) (s : State) : (errSup b i s).grn = s.grn := rfl
@[simp] theorem errSup_eng (b : Nat) (i : Word) (s : State) : (errSup b i s).eng = s.eng := rfl
@[simp] theorem errSup_free (b : Nat) (i : Word) (s : State) : (errSup b i s).free = s.free := rfl

@[simp] theorem errSec_pending (b : Nat) (i : Word) (s : State) : (errSec b i s).pending = s.pending := rfl
@[simp] theorem errSec_out (b : Nat) (i : Word) (s : State) : (errSec b i s).out = s.out := rfl
@[simp] theorem errSec_clk (b : Nat) (i : Word) (s : State) : (errSec b i s).clk = s.clk := rfl
@[simp] theorem errSec_mod (b : Nat) (i : Word) (s : State) : (errSec b i s).mod = s.mod := rfl
@[simp] theorem errSec_mem (b : Nat) (i : Word) (s : State) : (errSec b i s).mem = s.mem := rfl
@[simp] theorem errSec_lk (b : Nat) (i : Word) (s : State) : (errSec b i s).lk = s.lk := rfl
@[simp] theorem errSec_img (b : Nat) (i : Word) (s : State) : (errSec b i s).img = s.img := rfl
@[simp] theorem errSec_rch (b : Nat) (i : Word) (s : State) : (errSec b i s).rch = s.rch := rfl
@[simp] theorem errSec_trd (b : Nat) (i : Word) (s : State) : (errSec b i s).trd = s.trd := rfl
@[simp] theorem errSec_awn (b : Nat) (i : Word) (s : State) : (errSec b i s).awn = s.awn := rfl
@[simp] theorem errSec_cyc (b : Nat) (i : Word) (s : State) : (errSec b i s).cyc = s.cyc := rfl
@[simp] theorem errSec_sch (b : Nat) (i : Word) (s : State) : (errSec b i s).sch = s.sch := rfl
@[simp] theorem errSec_vyf (b : Nat) (i : Word) (s : State) : (errSec b i s).vyf = s.vyf := rfl
@[simp] theorem errSec_fab (b : Nat) (i : Word) (s : State) : (errSec b i s).fab = s.fab := rfl
@[simp] theorem errSec_hub (b : Nat) (i : Word) (s : State) : (errSec b i s).hub = s.hub := rfl
@[simp] theorem errSec_pair (b : Nat) (i : Word) (s : State) : (errSec b i s).pair = s.pair := rfl
@[simp] theorem errSec_glm (b : Nat) (i : Word) (s : State) : (errSec b i s).glm = s.glm := rfl
@[simp] theorem errSec_fio (b : Nat) (i : Word) (s : State) : (errSec b i s).fio = s.fio := rfl
@[simp] theorem errSec_can0 (b : Nat) (i : Word) (s : State) : (errSec b i s).can0 = s.can0 := rfl
@[simp] theorem errSec_can1 (b : Nat) (i : Word) (s : State) : (errSec b i s).can1 = s.can1 := rfl
@[simp] theorem errSec_culm (b : Nat) (i : Word) (s : State) : (errSec b i s).culm = s.culm := rfl
@[simp] theorem errSec_sup (b : Nat) (i : Word) (s : State) : (errSec b i s).sup = s.sup := rfl
@[simp] theorem errSec_aon (b : Nat) (i : Word) (s : State) : (errSec b i s).aon = s.aon := rfl
@[simp] theorem errSec_area (b : Nat) (i : Word) (s : State) : (errSec b i s).area = s.area := rfl
@[simp] theorem errSec_fuse (b : Nat) (i : Word) (s : State) : (errSec b i s).fuse = s.fuse := rfl
@[simp] theorem errSec_thr (b : Nat) (i : Word) (s : State) : (errSec b i s).thr = s.thr := rfl
@[simp] theorem errSec_grn (b : Nat) (i : Word) (s : State) : (errSec b i s).grn = s.grn := rfl
@[simp] theorem errSec_eng (b : Nat) (i : Word) (s : State) : (errSec b i s).eng = s.eng := rfl
@[simp] theorem errSec_free (b : Nat) (i : Word) (s : State) : (errSec b i s).free = s.free := rfl

@[simp] theorem errThr_pending (b : Nat) (i : Word) (s : State) : (errThr b i s).pending = s.pending := rfl
@[simp] theorem errThr_out (b : Nat) (i : Word) (s : State) : (errThr b i s).out = s.out := rfl
@[simp] theorem errThr_clk (b : Nat) (i : Word) (s : State) : (errThr b i s).clk = s.clk := rfl
@[simp] theorem errThr_mod (b : Nat) (i : Word) (s : State) : (errThr b i s).mod = s.mod := rfl
@[simp] theorem errThr_mem (b : Nat) (i : Word) (s : State) : (errThr b i s).mem = s.mem := rfl
@[simp] theorem errThr_lk (b : Nat) (i : Word) (s : State) : (errThr b i s).lk = s.lk := rfl
@[simp] theorem errThr_img (b : Nat) (i : Word) (s : State) : (errThr b i s).img = s.img := rfl
@[simp] theorem errThr_rch (b : Nat) (i : Word) (s : State) : (errThr b i s).rch = s.rch := rfl
@[simp] theorem errThr_trd (b : Nat) (i : Word) (s : State) : (errThr b i s).trd = s.trd := rfl
@[simp] theorem errThr_awn (b : Nat) (i : Word) (s : State) : (errThr b i s).awn = s.awn := rfl
@[simp] theorem errThr_cyc (b : Nat) (i : Word) (s : State) : (errThr b i s).cyc = s.cyc := rfl
@[simp] theorem errThr_sch (b : Nat) (i : Word) (s : State) : (errThr b i s).sch = s.sch := rfl
@[simp] theorem errThr_vyf (b : Nat) (i : Word) (s : State) : (errThr b i s).vyf = s.vyf := rfl
@[simp] theorem errThr_fab (b : Nat) (i : Word) (s : State) : (errThr b i s).fab = s.fab := rfl
@[simp] theorem errThr_hub (b : Nat) (i : Word) (s : State) : (errThr b i s).hub = s.hub := rfl
@[simp] theorem errThr_pair (b : Nat) (i : Word) (s : State) : (errThr b i s).pair = s.pair := rfl
@[simp] theorem errThr_glm (b : Nat) (i : Word) (s : State) : (errThr b i s).glm = s.glm := rfl
@[simp] theorem errThr_fio (b : Nat) (i : Word) (s : State) : (errThr b i s).fio = s.fio := rfl
@[simp] theorem errThr_can0 (b : Nat) (i : Word) (s : State) : (errThr b i s).can0 = s.can0 := rfl
@[simp] theorem errThr_can1 (b : Nat) (i : Word) (s : State) : (errThr b i s).can1 = s.can1 := rfl
@[simp] theorem errThr_culm (b : Nat) (i : Word) (s : State) : (errThr b i s).culm = s.culm := rfl
@[simp] theorem errThr_sup (b : Nat) (i : Word) (s : State) : (errThr b i s).sup = s.sup := rfl
@[simp] theorem errThr_aon (b : Nat) (i : Word) (s : State) : (errThr b i s).aon = s.aon := rfl
@[simp] theorem errThr_sec (b : Nat) (i : Word) (s : State) : (errThr b i s).sec = s.sec := rfl
@[simp] theorem errThr_area (b : Nat) (i : Word) (s : State) : (errThr b i s).area = s.area := rfl
@[simp] theorem errThr_fuse (b : Nat) (i : Word) (s : State) : (errThr b i s).fuse = s.fuse := rfl
@[simp] theorem errThr_grn (b : Nat) (i : Word) (s : State) : (errThr b i s).grn = s.grn := rfl
@[simp] theorem errThr_eng (b : Nat) (i : Word) (s : State) : (errThr b i s).eng = s.eng := rfl
@[simp] theorem errThr_free (b : Nat) (i : Word) (s : State) : (errThr b i s).free = s.free := rfl

@[simp] theorem errGrn_pending (b : Nat) (i : Word) (s : State) : (errGrn b i s).pending = s.pending := rfl
@[simp] theorem errGrn_out (b : Nat) (i : Word) (s : State) : (errGrn b i s).out = s.out := rfl
@[simp] theorem errGrn_clk (b : Nat) (i : Word) (s : State) : (errGrn b i s).clk = s.clk := rfl
@[simp] theorem errGrn_mod (b : Nat) (i : Word) (s : State) : (errGrn b i s).mod = s.mod := rfl
@[simp] theorem errGrn_mem (b : Nat) (i : Word) (s : State) : (errGrn b i s).mem = s.mem := rfl
@[simp] theorem errGrn_lk (b : Nat) (i : Word) (s : State) : (errGrn b i s).lk = s.lk := rfl
@[simp] theorem errGrn_img (b : Nat) (i : Word) (s : State) : (errGrn b i s).img = s.img := rfl
@[simp] theorem errGrn_rch (b : Nat) (i : Word) (s : State) : (errGrn b i s).rch = s.rch := rfl
@[simp] theorem errGrn_trd (b : Nat) (i : Word) (s : State) : (errGrn b i s).trd = s.trd := rfl
@[simp] theorem errGrn_awn (b : Nat) (i : Word) (s : State) : (errGrn b i s).awn = s.awn := rfl
@[simp] theorem errGrn_cyc (b : Nat) (i : Word) (s : State) : (errGrn b i s).cyc = s.cyc := rfl
@[simp] theorem errGrn_sch (b : Nat) (i : Word) (s : State) : (errGrn b i s).sch = s.sch := rfl
@[simp] theorem errGrn_vyf (b : Nat) (i : Word) (s : State) : (errGrn b i s).vyf = s.vyf := rfl
@[simp] theorem errGrn_fab (b : Nat) (i : Word) (s : State) : (errGrn b i s).fab = s.fab := rfl
@[simp] theorem errGrn_hub (b : Nat) (i : Word) (s : State) : (errGrn b i s).hub = s.hub := rfl
@[simp] theorem errGrn_pair (b : Nat) (i : Word) (s : State) : (errGrn b i s).pair = s.pair := rfl
@[simp] theorem errGrn_glm (b : Nat) (i : Word) (s : State) : (errGrn b i s).glm = s.glm := rfl
@[simp] theorem errGrn_fio (b : Nat) (i : Word) (s : State) : (errGrn b i s).fio = s.fio := rfl
@[simp] theorem errGrn_can0 (b : Nat) (i : Word) (s : State) : (errGrn b i s).can0 = s.can0 := rfl
@[simp] theorem errGrn_can1 (b : Nat) (i : Word) (s : State) : (errGrn b i s).can1 = s.can1 := rfl
@[simp] theorem errGrn_culm (b : Nat) (i : Word) (s : State) : (errGrn b i s).culm = s.culm := rfl
@[simp] theorem errGrn_sup (b : Nat) (i : Word) (s : State) : (errGrn b i s).sup = s.sup := rfl
@[simp] theorem errGrn_aon (b : Nat) (i : Word) (s : State) : (errGrn b i s).aon = s.aon := rfl
@[simp] theorem errGrn_sec (b : Nat) (i : Word) (s : State) : (errGrn b i s).sec = s.sec := rfl
@[simp] theorem errGrn_area (b : Nat) (i : Word) (s : State) : (errGrn b i s).area = s.area := rfl
@[simp] theorem errGrn_fuse (b : Nat) (i : Word) (s : State) : (errGrn b i s).fuse = s.fuse := rfl
@[simp] theorem errGrn_thr (b : Nat) (i : Word) (s : State) : (errGrn b i s).thr = s.thr := rfl
@[simp] theorem errGrn_eng (b : Nat) (i : Word) (s : State) : (errGrn b i s).eng = s.eng := rfl
@[simp] theorem errGrn_free (b : Nat) (i : Word) (s : State) : (errGrn b i s).free = s.free := rfl

@[simp] theorem errCulm_pending (b : Nat) (i a : Word) (s : State) : (errCulm b i a s).pending = s.pending := rfl
@[simp] theorem errCulm_out (b : Nat) (i a : Word) (s : State) : (errCulm b i a s).out = s.out := rfl
@[simp] theorem errCulm_clk (b : Nat) (i a : Word) (s : State) : (errCulm b i a s).clk = s.clk := rfl
@[simp] theorem errCulm_mod (b : Nat) (i a : Word) (s : State) : (errCulm b i a s).mod = s.mod := rfl
@[simp] theorem errCulm_mem (b : Nat) (i a : Word) (s : State) : (errCulm b i a s).mem = s.mem := rfl
@[simp] theorem errCulm_lk (b : Nat) (i a : Word) (s : State) : (errCulm b i a s).lk = s.lk := rfl
@[simp] theorem errCulm_img (b : Nat) (i a : Word) (s : State) : (errCulm b i a s).img = s.img := rfl
@[simp] theorem errCulm_rch (b : Nat) (i a : Word) (s : State) : (errCulm b i a s).rch = s.rch := rfl
@[simp] theorem errCulm_trd (b : Nat) (i a : Word) (s : State) : (errCulm b i a s).trd = s.trd := rfl
@[simp] theorem errCulm_awn (b : Nat) (i a : Word) (s : State) : (errCulm b i a s).awn = s.awn := rfl
@[simp] theorem errCulm_cyc (b : Nat) (i a : Word) (s : State) : (errCulm b i a s).cyc = s.cyc := rfl
@[simp] theorem errCulm_sch (b : Nat) (i a : Word) (s : State) : (errCulm b i a s).sch = s.sch := rfl
@[simp] theorem errCulm_vyf (b : Nat) (i a : Word) (s : State) : (errCulm b i a s).vyf = s.vyf := rfl
@[simp] theorem errCulm_fab (b : Nat) (i a : Word) (s : State) : (errCulm b i a s).fab = s.fab := rfl
@[simp] theorem errCulm_hub (b : Nat) (i a : Word) (s : State) : (errCulm b i a s).hub = s.hub := rfl
@[simp] theorem errCulm_pair (b : Nat) (i a : Word) (s : State) : (errCulm b i a s).pair = s.pair := rfl
@[simp] theorem errCulm_glm (b : Nat) (i a : Word) (s : State) : (errCulm b i a s).glm = s.glm := rfl
@[simp] theorem errCulm_fio (b : Nat) (i a : Word) (s : State) : (errCulm b i a s).fio = s.fio := rfl
@[simp] theorem errCulm_can0 (b : Nat) (i a : Word) (s : State) : (errCulm b i a s).can0 = s.can0 := rfl
@[simp] theorem errCulm_can1 (b : Nat) (i a : Word) (s : State) : (errCulm b i a s).can1 = s.can1 := rfl
@[simp] theorem errCulm_sup (b : Nat) (i a : Word) (s : State) : (errCulm b i a s).sup = s.sup := rfl
@[simp] theorem errCulm_aon (b : Nat) (i a : Word) (s : State) : (errCulm b i a s).aon = s.aon := rfl
@[simp] theorem errCulm_sec (b : Nat) (i a : Word) (s : State) : (errCulm b i a s).sec = s.sec := rfl
@[simp] theorem errCulm_area (b : Nat) (i a : Word) (s : State) : (errCulm b i a s).area = s.area := rfl
@[simp] theorem errCulm_fuse (b : Nat) (i a : Word) (s : State) : (errCulm b i a s).fuse = s.fuse := rfl
@[simp] theorem errCulm_thr (b : Nat) (i a : Word) (s : State) : (errCulm b i a s).thr = s.thr := rfl
@[simp] theorem errCulm_grn (b : Nat) (i a : Word) (s : State) : (errCulm b i a s).grn = s.grn := rfl
@[simp] theorem errCulm_eng (b : Nat) (i a : Word) (s : State) : (errCulm b i a s).eng = s.eng := rfl
@[simp] theorem errCulm_free (b : Nat) (i a : Word) (s : State) : (errCulm b i a s).free = s.free := rfl

@[simp] theorem State.setCan_pending (s : State) (n : Nat) (c : Can) : (s.setCan n c).pending = s.pending := by
  unfold State.setCan; split <;> rfl
@[simp] theorem State.setCan_out (s : State) (n : Nat) (c : Can) : (s.setCan n c).out = s.out := by
  unfold State.setCan; split <;> rfl
@[simp] theorem State.setCan_clk (s : State) (n : Nat) (c : Can) : (s.setCan n c).clk = s.clk := by
  unfold State.setCan; split <;> rfl
@[simp] theorem State.setCan_mod (s : State) (n : Nat) (c : Can) : (s.setCan n c).mod = s.mod := by
  unfold State.setCan; split <;> rfl
@[simp] theorem State.setCan_mem (s : State) (n : Nat) (c : Can) : (s.setCan n c).mem = s.mem := by
  unfold State.setCan; split <;> rfl
@[simp] theorem State.setCan_lk (s : State) (n : Nat) (c : Can) : (s.setCan n c).lk = s.lk := by
  unfold State.setCan; split <;> rfl
@[simp] theorem State.setCan_img (s : State) (n : Nat) (c : Can) : (s.setCan n c).img = s.img := by
  unfold State.setCan; split <;> rfl
@[simp] theorem State.setCan_rch (s : State) (n : Nat) (c : Can) : (s.setCan n c).rch = s.rch := by
  unfold State.setCan; split <;> rfl
@[simp] theorem State.setCan_trd (s : State) (n : Nat) (c : Can) : (s.setCan n c).trd = s.trd := by
  unfold State.setCan; split <;> rfl
@[simp] theorem State.setCan_awn (s : State) (n : Nat) (c : Can) : (s.setCan n c).awn = s.awn := by
  unfold State.setCan; split <;> rfl
@[simp] theorem State.setCan_cyc (s : State) (n : Nat) (c : Can) : (s.setCan n c).cyc = s.cyc := by
  unfold State.setCan; split <;> rfl
@[simp] theorem State.setCan_sch (s : State) (n : Nat) (c : Can) : (s.setCan n c).sch = s.sch := by
  unfold State.setCan; split <;> rfl
@[simp] theorem State.setCan_vyf (s : State) (n : Nat) (c : Can) : (s.setCan n c).vyf = s.vyf := by
  unfold State.setCan; split <;> rfl
@[simp] theorem State.setCan_fab (s : State) (n : Nat) (c : Can) : (s.setCan n c).fab = s.fab := by
  unfold State.setCan; split <;> rfl
@[simp] theorem State.setCan_hub (s : State) (n : Nat) (c : Can) : (s.setCan n c).hub = s.hub := by
  unfold State.setCan; split <;> rfl
@[simp] theorem State.setCan_pair (s : State) (n : Nat) (c : Can) : (s.setCan n c).pair = s.pair := by
  unfold State.setCan; split <;> rfl
@[simp] theorem State.setCan_glm (s : State) (n : Nat) (c : Can) : (s.setCan n c).glm = s.glm := by
  unfold State.setCan; split <;> rfl
@[simp] theorem State.setCan_fio (s : State) (n : Nat) (c : Can) : (s.setCan n c).fio = s.fio := by
  unfold State.setCan; split <;> rfl
@[simp] theorem State.setCan_culm (s : State) (n : Nat) (c : Can) : (s.setCan n c).culm = s.culm := by
  unfold State.setCan; split <;> rfl
@[simp] theorem State.setCan_sup (s : State) (n : Nat) (c : Can) : (s.setCan n c).sup = s.sup := by
  unfold State.setCan; split <;> rfl
@[simp] theorem State.setCan_aon (s : State) (n : Nat) (c : Can) : (s.setCan n c).aon = s.aon := by
  unfold State.setCan; split <;> rfl
@[simp] theorem State.setCan_sec (s : State) (n : Nat) (c : Can) : (s.setCan n c).sec = s.sec := by
  unfold State.setCan; split <;> rfl
@[simp] theorem State.setCan_area (s : State) (n : Nat) (c : Can) : (s.setCan n c).area = s.area := by
  unfold State.setCan; split <;> rfl
@[simp] theorem State.setCan_fuse (s : State) (n : Nat) (c : Can) : (s.setCan n c).fuse = s.fuse := by
  unfold State.setCan; split <;> rfl
@[simp] theorem State.setCan_thr (s : State) (n : Nat) (c : Can) : (s.setCan n c).thr = s.thr := by
  unfold State.setCan; split <;> rfl
@[simp] theorem State.setCan_grn (s : State) (n : Nat) (c : Can) : (s.setCan n c).grn = s.grn := by
  unfold State.setCan; split <;> rfl
@[simp] theorem State.setCan_eng (s : State) (n : Nat) (c : Can) : (s.setCan n c).eng = s.eng := by
  unfold State.setCan; split <;> rfl
@[simp] theorem State.setCan_free (s : State) (n : Nat) (c : Can) : (s.setCan n c).free = s.free := by
  unfold State.setCan; split <;> rfl

@[simp] theorem errCan_pending (n b : Nat) (i : Word) (s : State) : (errCan n b i s).pending = s.pending := by
  unfold errCan State.setCan; split <;> rfl
@[simp] theorem errCan_out (n b : Nat) (i : Word) (s : State) : (errCan n b i s).out = s.out := by
  unfold errCan State.setCan; split <;> rfl
@[simp] theorem errCan_clk (n b : Nat) (i : Word) (s : State) : (errCan n b i s).clk = s.clk := by
  unfold errCan State.setCan; split <;> rfl
@[simp] theorem errCan_mod (n b : Nat) (i : Word) (s : State) : (errCan n b i s).mod = s.mod := by
  unfold errCan State.setCan; split <;> rfl
@[simp] theorem errCan_mem (n b : Nat) (i : Word) (s : State) : (errCan n b i s).mem = s.mem := by
  unfold errCan State.setCan; split <;> rfl
@[simp] theorem errCan_lk (n b : Nat) (i : Word) (s : State) : (errCan n b i s).lk = s.lk := by
  unfold errCan State.setCan; split <;> rfl
@[simp] theorem errCan_img (n b : Nat) (i : Word) (s : State) : (errCan n b i s).img = s.img := by
  unfold errCan State.setCan; split <;> rfl
@[simp] theorem errCan_rch (n b : Nat) (i : Word) (s : State) : (errCan n b i s).rch = s.rch := by
  unfold errCan State.setCan; split <;> rfl
@[simp] theorem errCan_trd (n b : Nat) (i : Word) (s : State) : (errCan n b i s).trd = s.trd := by
  unfold errCan State.setCan; split <;> rfl
@[simp] theorem errCan_awn (n b : Nat) (i : Word) (s : State) : (errCan n b i s).awn = s.awn := by
  unfold errCan State.setCan; split <;> rfl
@[simp] theorem errCan_cyc (n b : Nat) (i : Word) (s : State) : (errCan n b i s).cyc = s.cyc := by
  unfold errCan State.setCan; split <;> rfl
@[simp] theorem errCan_sch (n b : Nat) (i : Word) (s : State) : (errCan n b i s).sch = s.sch := by
  unfold errCan State.setCan; split <;> rfl
@[simp] theorem errCan_vyf (n b : Nat) (i : Word) (s : State) : (errCan n b i s).vyf = s.vyf := by
  unfold errCan State.setCan; split <;> rfl
@[simp] theorem errCan_fab (n b : Nat) (i : Word) (s : State) : (errCan n b i s).fab = s.fab := by
  unfold errCan State.setCan; split <;> rfl
@[simp] theorem errCan_hub (n b : Nat) (i : Word) (s : State) : (errCan n b i s).hub = s.hub := by
  unfold errCan State.setCan; split <;> rfl
@[simp] theorem errCan_pair (n b : Nat) (i : Word) (s : State) : (errCan n b i s).pair = s.pair := by
  unfold errCan State.setCan; split <;> rfl
@[simp] theorem errCan_glm (n b : Nat) (i : Word) (s : State) : (errCan n b i s).glm = s.glm := by
  unfold errCan State.setCan; split <;> rfl
@[simp] theorem errCan_fio (n b : Nat) (i : Word) (s : State) : (errCan n b i s).fio = s.fio := by
  unfold errCan State.setCan; split <;> rfl
@[simp] theorem errCan_culm (n b : Nat) (i : Word) (s : State) : (errCan n b i s).culm = s.culm := by
  unfold errCan State.setCan; split <;> rfl
@[simp] theorem errCan_sup (n b : Nat) (i : Word) (s : State) : (errCan n b i s).sup = s.sup := by
  unfold errCan State.setCan; split <;> rfl
@[simp] theorem errCan_aon (n b : Nat) (i : Word) (s : State) : (errCan n b i s).aon = s.aon := by
  unfold errCan State.setCan; split <;> rfl
@[simp] theorem errCan_sec (n b : Nat) (i : Word) (s : State) : (errCan n b i s).sec = s.sec := by
  unfold errCan State.setCan; split <;> rfl
@[simp] theorem errCan_area (n b : Nat) (i : Word) (s : State) : (errCan n b i s).area = s.area := by
  unfold errCan State.setCan; split <;> rfl
@[simp] theorem errCan_fuse (n b : Nat) (i : Word) (s : State) : (errCan n b i s).fuse = s.fuse := by
  unfold errCan State.setCan; split <;> rfl
@[simp] theorem errCan_thr (n b : Nat) (i : Word) (s : State) : (errCan n b i s).thr = s.thr := by
  unfold errCan State.setCan; split <;> rfl
@[simp] theorem errCan_grn (n b : Nat) (i : Word) (s : State) : (errCan n b i s).grn = s.grn := by
  unfold errCan State.setCan; split <;> rfl
@[simp] theorem errCan_eng (n b : Nat) (i : Word) (s : State) : (errCan n b i s).eng = s.eng := by
  unfold errCan State.setCan; split <;> rfl
@[simp] theorem errCan_free (n b : Nat) (i : Word) (s : State) : (errCan n b i s).free = s.free := by
  unfold errCan State.setCan; split <;> rfl

@[simp] theorem norPut_pending (c : Bool) (o : Nat) (bs : List Byte) (s : State) : (norPut c o bs s).pending = s.pending := by
  unfold norPut; split <;> rfl
@[simp] theorem norPut_out (c : Bool) (o : Nat) (bs : List Byte) (s : State) : (norPut c o bs s).out = s.out := by
  unfold norPut; split <;> rfl
@[simp] theorem norPut_clk (c : Bool) (o : Nat) (bs : List Byte) (s : State) : (norPut c o bs s).clk = s.clk := by
  unfold norPut; split <;> rfl
@[simp] theorem norPut_mod (c : Bool) (o : Nat) (bs : List Byte) (s : State) : (norPut c o bs s).mod = s.mod := by
  unfold norPut; split <;> rfl
@[simp] theorem norPut_lk (c : Bool) (o : Nat) (bs : List Byte) (s : State) : (norPut c o bs s).lk = s.lk := by
  unfold norPut; split <;> rfl
@[simp] theorem norPut_img (c : Bool) (o : Nat) (bs : List Byte) (s : State) : (norPut c o bs s).img = s.img := by
  unfold norPut; split <;> rfl
@[simp] theorem norPut_rch (c : Bool) (o : Nat) (bs : List Byte) (s : State) : (norPut c o bs s).rch = s.rch := by
  unfold norPut; split <;> rfl
@[simp] theorem norPut_trd (c : Bool) (o : Nat) (bs : List Byte) (s : State) : (norPut c o bs s).trd = s.trd := by
  unfold norPut; split <;> rfl
@[simp] theorem norPut_awn (c : Bool) (o : Nat) (bs : List Byte) (s : State) : (norPut c o bs s).awn = s.awn := by
  unfold norPut; split <;> rfl
@[simp] theorem norPut_cyc (c : Bool) (o : Nat) (bs : List Byte) (s : State) : (norPut c o bs s).cyc = s.cyc := by
  unfold norPut; split <;> rfl
@[simp] theorem norPut_sch (c : Bool) (o : Nat) (bs : List Byte) (s : State) : (norPut c o bs s).sch = s.sch := by
  unfold norPut; split <;> rfl
@[simp] theorem norPut_vyf (c : Bool) (o : Nat) (bs : List Byte) (s : State) : (norPut c o bs s).vyf = s.vyf := by
  unfold norPut; split <;> rfl
@[simp] theorem norPut_fab (c : Bool) (o : Nat) (bs : List Byte) (s : State) : (norPut c o bs s).fab = s.fab := by
  unfold norPut; split <;> rfl
@[simp] theorem norPut_hub (c : Bool) (o : Nat) (bs : List Byte) (s : State) : (norPut c o bs s).hub = s.hub := by
  unfold norPut; split <;> rfl
@[simp] theorem norPut_pair (c : Bool) (o : Nat) (bs : List Byte) (s : State) : (norPut c o bs s).pair = s.pair := by
  unfold norPut; split <;> rfl
@[simp] theorem norPut_glm (c : Bool) (o : Nat) (bs : List Byte) (s : State) : (norPut c o bs s).glm = s.glm := by
  unfold norPut; split <;> rfl
@[simp] theorem norPut_fio (c : Bool) (o : Nat) (bs : List Byte) (s : State) : (norPut c o bs s).fio = s.fio := by
  unfold norPut; split <;> rfl
@[simp] theorem norPut_can0 (c : Bool) (o : Nat) (bs : List Byte) (s : State) : (norPut c o bs s).can0 = s.can0 := by
  unfold norPut; split <;> rfl
@[simp] theorem norPut_can1 (c : Bool) (o : Nat) (bs : List Byte) (s : State) : (norPut c o bs s).can1 = s.can1 := by
  unfold norPut; split <;> rfl
@[simp] theorem norPut_culm (c : Bool) (o : Nat) (bs : List Byte) (s : State) : (norPut c o bs s).culm = s.culm := by
  unfold norPut; split <;> rfl
@[simp] theorem norPut_sup (c : Bool) (o : Nat) (bs : List Byte) (s : State) : (norPut c o bs s).sup = s.sup := by
  unfold norPut; split <;> rfl
@[simp] theorem norPut_aon (c : Bool) (o : Nat) (bs : List Byte) (s : State) : (norPut c o bs s).aon = s.aon := by
  unfold norPut; split <;> rfl
@[simp] theorem norPut_sec (c : Bool) (o : Nat) (bs : List Byte) (s : State) : (norPut c o bs s).sec = s.sec := by
  unfold norPut; split <;> rfl
@[simp] theorem norPut_area (c : Bool) (o : Nat) (bs : List Byte) (s : State) : (norPut c o bs s).area = s.area := by
  unfold norPut; split <;> rfl
@[simp] theorem norPut_fuse (c : Bool) (o : Nat) (bs : List Byte) (s : State) : (norPut c o bs s).fuse = s.fuse := by
  unfold norPut; split <;> rfl
@[simp] theorem norPut_thr (c : Bool) (o : Nat) (bs : List Byte) (s : State) : (norPut c o bs s).thr = s.thr := by
  unfold norPut; split <;> rfl
@[simp] theorem norPut_grn (c : Bool) (o : Nat) (bs : List Byte) (s : State) : (norPut c o bs s).grn = s.grn := by
  unfold norPut; split <;> rfl
@[simp] theorem norPut_eng (c : Bool) (o : Nat) (bs : List Byte) (s : State) : (norPut c o bs s).eng = s.eng := by
  unfold norPut; split <;> rfl
@[simp] theorem norPut_free (c : Bool) (o : Nat) (bs : List Byte) (s : State) : (norPut c o bs s).free = s.free := by
  unfold norPut; split <;> rfl

@[simp] theorem engRun_pending (es : List Nat) (f : State → State) (s : State) : (engRun es f s).pending = (f s).pending := rfl
@[simp] theorem engRun_out (es : List Nat) (f : State → State) (s : State) : (engRun es f s).out = (f s).out := rfl
@[simp] theorem engRun_clk (es : List Nat) (f : State → State) (s : State) : (engRun es f s).clk = (f s).clk := rfl
@[simp] theorem engRun_mod (es : List Nat) (f : State → State) (s : State) : (engRun es f s).mod = (f s).mod := rfl
@[simp] theorem engRun_mem (es : List Nat) (f : State → State) (s : State) : (engRun es f s).mem = (f s).mem := rfl
@[simp] theorem engRun_lk (es : List Nat) (f : State → State) (s : State) : (engRun es f s).lk = (f s).lk := rfl
@[simp] theorem engRun_img (es : List Nat) (f : State → State) (s : State) : (engRun es f s).img = (f s).img := rfl
@[simp] theorem engRun_rch (es : List Nat) (f : State → State) (s : State) : (engRun es f s).rch = (f s).rch := rfl
@[simp] theorem engRun_trd (es : List Nat) (f : State → State) (s : State) : (engRun es f s).trd = (f s).trd := rfl
@[simp] theorem engRun_awn (es : List Nat) (f : State → State) (s : State) : (engRun es f s).awn = (f s).awn := rfl
@[simp] theorem engRun_cyc (es : List Nat) (f : State → State) (s : State) : (engRun es f s).cyc = (f s).cyc := rfl
@[simp] theorem engRun_sch (es : List Nat) (f : State → State) (s : State) : (engRun es f s).sch = (f s).sch := rfl
@[simp] theorem engRun_vyf (es : List Nat) (f : State → State) (s : State) : (engRun es f s).vyf = (f s).vyf := rfl
@[simp] theorem engRun_fab (es : List Nat) (f : State → State) (s : State) : (engRun es f s).fab = (f s).fab := rfl
@[simp] theorem engRun_hub (es : List Nat) (f : State → State) (s : State) : (engRun es f s).hub = (f s).hub := rfl
@[simp] theorem engRun_pair (es : List Nat) (f : State → State) (s : State) : (engRun es f s).pair = (f s).pair := rfl
@[simp] theorem engRun_glm (es : List Nat) (f : State → State) (s : State) : (engRun es f s).glm = (f s).glm := rfl
@[simp] theorem engRun_fio (es : List Nat) (f : State → State) (s : State) : (engRun es f s).fio = (f s).fio := rfl
@[simp] theorem engRun_can0 (es : List Nat) (f : State → State) (s : State) : (engRun es f s).can0 = (f s).can0 := rfl
@[simp] theorem engRun_can1 (es : List Nat) (f : State → State) (s : State) : (engRun es f s).can1 = (f s).can1 := rfl
@[simp] theorem engRun_culm (es : List Nat) (f : State → State) (s : State) : (engRun es f s).culm = (f s).culm := rfl
@[simp] theorem engRun_sup (es : List Nat) (f : State → State) (s : State) : (engRun es f s).sup = (f s).sup := rfl
@[simp] theorem engRun_aon (es : List Nat) (f : State → State) (s : State) : (engRun es f s).aon = (f s).aon := rfl
@[simp] theorem engRun_sec (es : List Nat) (f : State → State) (s : State) : (engRun es f s).sec = (f s).sec := rfl
@[simp] theorem engRun_area (es : List Nat) (f : State → State) (s : State) : (engRun es f s).area = (f s).area := rfl
@[simp] theorem engRun_fuse (es : List Nat) (f : State → State) (s : State) : (engRun es f s).fuse = (f s).fuse := rfl
@[simp] theorem engRun_thr (es : List Nat) (f : State → State) (s : State) : (engRun es f s).thr = (f s).thr := rfl
@[simp] theorem engRun_grn (es : List Nat) (f : State → State) (s : State) : (engRun es f s).grn = (f s).grn := rfl
@[simp] theorem engRun_free (es : List Nat) (f : State → State) (s : State) : (engRun es f s).free = (f s).free := rfl

end Sys2Proof.Machine
end

