-- ==== Sys2Proof/Laws/Run.lean ====
section
/-! SUPPORT. What running a command can do: the outcome of a meaning, of a step, and of the shared operations that give
records and fold over lists. -/

namespace Sys2Proof.Machine

/-- A meaning on well-formed operands answers its effect with the queue as it was. -/
theorem wfRun_next (i : Instr) (f : State → State) (s : State) (h : i.wf = true) :
    wfRun i f s = .next { f s.begin with pending := s.pending } := by simp [wfRun, h]

/-- A meaning on any other operands brings about nothing. -/
theorem wfRun_none (i : Instr) (f : State → State) (s : State) (h : i.wf = false) : wfRun i f s = .next s.begin := by
  simp [wfRun, h]

/-- Everything a meaning can answer. -/
theorem wfRun_cases (i : Instr) (f : State → State) (s : State) :
    (i.wf = true ∧ wfRun i f s = .next { f s.begin with pending := s.pending }) ∨
      (i.wf = false ∧ wfRun i f s = .next s.begin) := by
  cases h : i.wf
  · exact .inr ⟨rfl, wfRun_none i f s h⟩
  · exact .inl ⟨rfl, wfRun_next i f s h⟩

/-- A meaning always answers a next state that keeps the queue. -/
theorem wfRun_completes (i : Instr) (f : State → State) (s : State) :
    ∃ t, wfRun i f s = .next t ∧ t.pending = s.pending := by
  rcases wfRun_cases i f s with ⟨_, h⟩ | ⟨_, h⟩ <;> exact ⟨_, h, rfl⟩

/-- A step with a command waiting is the command's meaning on the queue's rest. -/
theorem step_front (s : State) (c : Instr) (r : List Instr) (h : s.pending = c :: r) :
    step s = exec c { s with pending := r } := by simp [step, h]

/-- A step with none waiting is 8 ns of time. -/
theorem step_idle (s : State) (h : s.pending = []) : step s = .next (tick s) := by simp [step, h]

/-- Folding an operation over a list keeps what every application keeps. -/
theorem forAll_keeps {α : Type} {P : State → Prop} (l : List α) (f : α → State → State) (s : State)
    (hf : ∀ a s, P s → P (f a s)) (h : P s) : P (forAll l f s) := by
  induction l generalizing s with
  | nil => exact h
  | cons a t ih => exact ih _ (hf a s h)

/-- Folding an operation that changes nothing. -/
theorem forAll_id {α : Type} (l : List α) (f : α → State → State) (s : State) (hf : ∀ a ∈ l, f a s = s) :
    forAll l f s = s := by
  induction l with
  | nil => rfl
  | cons a t ih =>
    have ha : f a s = s := hf a (List.mem_cons_self ..)
    simp only [forAll, ha]
    exact ih (fun b hb => hf b (List.mem_cons_of_mem _ hb))

/-- Everything that giving a record can do: only Granary changes, or the supervisor's count of events in a quench. -/
theorem enqueue_frame (r : Rec) (s : State) :
    enqueue r s = { s with grn := (enqueue r s).grn, sup := (enqueue r s).sup } := by
  unfold enqueue dropRecord lifeAdd
  repeat' split
  all_goals rfl

/-- With no quench running, only Granary changes. -/
theorem enqueue_grn (r : Rec) (s : State) (h : s.sup.quenchSince = none) :
    enqueue r s = { s with grn := (enqueue r s).grn } := by
  unfold enqueue dropRecord lifeAdd
  simp only [h]
  repeat' split
  all_goals first | rfl | simp_all

/-- An event: likewise. -/
theorem eventAt_frame (off code detail : Nat) (d0 d1 : Word) (s : State) :
    eventAt off code detail d0 d1 s =
      { s with grn := (eventAt off code detail d0 d1 s).grn, sup := (eventAt off code detail d0 d1 s).sup } := by
  unfold eventAt
  split
  · rfl
  · rw [enqueue_frame]; rfl

/-- An event with no quench running changes Granary alone. -/
theorem eventAt_grn (off code detail : Nat) (d0 d1 : Word) (s : State) (h : s.sup.quenchSince = none) :
    eventAt off code detail d0 d1 s = { s with grn := (eventAt off code detail d0 d1 s).grn } := by
  unfold eventAt
  split
  · rfl
  · rw [enqueue_grn _ _ (by simpa using h)]; rfl

theorem event_grn (code detail : Nat) (d0 d1 : Word) (s : State) (h : s.sup.quenchSince = none) :
    event code detail d0 d1 s = { s with grn := (event code detail d0 d1 s).grn } := eventAt_grn _ _ _ _ _ s h

/-- A rate-limited event with no quench running changes Granary alone. -/
theorem eventRateAt_grn (off code idx detail : Nat) (d1 : Word) (s : State) (h : s.sup.quenchSince = none) :
    eventRateAt off code idx detail d1 s = { s with grn := (eventRateAt off code idx detail d1 s).grn } := by
  unfold eventRateAt
  split
  · rfl
  · split
    · rfl
    · rw [enqueue_grn _ _ (by simpa using h)]; rfl

theorem eventRate_grn (code idx detail : Nat) (d1 : Word) (s : State) (h : s.sup.quenchSince = none) :
    eventRate code idx detail d1 s = { s with grn := (eventRate code idx detail d1 s).grn } := eventRateAt_grn _ _ _ _ _ s h

/-- Changing every entry by its index keeps the length. -/
@[simp] theorem length_mapIdxFrom {α : Type} (i : Nat) (f : Nat → α → α) (l : List α) :
    (mapIdxFrom i f l).length = l.length := by
  induction l generalizing i with
  | nil => rfl
  | cons a t ih => simp [mapIdxFrom, ih]

end Sys2Proof.Machine
end

