-- ==== Sys2Proof/Laws/Exec.lean ====
section
/-! SUPPORT. One lemma per command: its meaning is its operation, run where its operands are well-formed. With wfRun_next and
wfRun_none they replace the unfolding of exec. -/

namespace Sys2Proof.Machine

theorem exec_registerWrite (init addr : Nat) (v : Word) (s : State) : exec (.registerWrite init addr v) s =
    wfRun (.registerWrite init addr v) (fun s => settle (opRegisterWrite init addr v s)) s := rfl
theorem exec_rachisTransaction (t : Txn) (s : State) : exec (.rachisTransaction t) s =
    wfRun (.rachisTransaction t) (fun s => settle (opRachisTransaction t s)) s := rfl
theorem exec_busTimeout (t : Target) (s : State) : exec (.busTimeout t) s =
    wfRun (.busTimeout t) (opBusTimeout t) s := rfl
theorem exec_engineWatchdog (e : Nat) (s : State) : exec (.engineWatchdog e) s =
    wfRun (.engineWatchdog e) (opEngineWatchdog e) s := rfl
theorem exec_trdWatchdog (t : Nat) (s : State) : exec (.trdWatchdog t) s =
    wfRun (.trdWatchdog t) (fun s => settle (opTrdWatchdog t s)) s := rfl
theorem exec_clockFault (d : Nat) (s : State) : exec (.clockFault d) s =
    wfRun (.clockFault d) (opClockFault d) s := rfl
theorem exec_functionDrainDone (f : Fn) (s : State) : exec (.functionDrainDone f) s =
    wfRun (.functionDrainDone f) (opFunctionDrainDone f) s := rfl
theorem exec_powerOn (c : Nat) (s : State) : exec (.powerOn c) s =
    wfRun (.powerOn c) (opPowerOn c) s := rfl
theorem exec_supplySample (vin vbus lplus : Nat) (rails : List (Nat × Nat)) (s : State) :
    exec (.supplySample vin vbus lplus rails) s =
    wfRun (.supplySample vin vbus lplus rails) (fun s => settle (opSupplySample vin vbus lplus rails s)) s := rfl
theorem exec_capacitanceMeasurement (ua us : Nat) (s : State) : exec (.capacitanceMeasurement ua us) s =
    wfRun (.capacitanceMeasurement ua us) (opCapacitanceMeasurement ua us) s := rfl
theorem exec_supervisorRelease (b : Bool) (s : State) : exec (.supervisorRelease b) s =
    wfRun (.supervisorRelease b) (opSupervisorRelease b) s := rfl
theorem exec_quenchDone (us : Nat) (s : State) : exec (.quenchDone us) s =
    wfRun (.quenchDone us) (opQuenchDone us) s := rfl
theorem exec_cellMeasurement (mv : Nat) (s : State) : exec (.cellMeasurement mv) s =
    wfRun (.cellMeasurement mv) (opCellMeasurement mv) s := rfl
theorem exec_errorEpisodeEnd (e : Episode) (s : State) : exec (.errorEpisodeEnd e) s =
    wfRun (.errorEpisodeEnd e) (opErrorEpisodeEnd e) s := rfl
theorem exec_aonSnap (init : Nat) (v : Word) (s : State) : exec (.aonSnap init v) s =
    wfRun (.aonSnap init v) (opAonSnap init v) s := rfl
theorem exec_aonRtcSet (init : Nat) (v : Word) (s : State) : exec (.aonRtcSet init v) s =
    wfRun (.aonRtcSet init v) (opAonRtcSet init v) s := rfl
theorem exec_bootSecuritySelftest (fail : Option Nat) (s : State) : exec (.bootSecuritySelftest fail) s =
    wfRun (.bootSecuritySelftest fail) (opBootSecuritySelftest fail) s := rfl
theorem exec_imageCheck (c : Bool) (s : State) : exec (.imageCheck c) s =
    wfRun (.imageCheck c) (opImageCheck c) s := rfl
theorem exec_protLock (init : Nat) (v : Word) (s : State) : exec (.protLock init v) s =
    wfRun (.protLock init v) (opProtLock init v) s := rfl
theorem exec_startupBist (o : ThreshObs) (s : State) : exec (.startupBist o) s =
    wfRun (.startupBist o) (opStartupBist o) s := rfl
theorem exec_cmptestStart (init : Nat) (v : Word) (s : State) : exec (.cmptestStart init v) s =
    wfRun (.cmptestStart init v) (opCmptestStart init v) s := rfl
theorem exec_cmptestDone (o : CmpObs) (s : State) : exec (.cmptestDone o) s =
    wfRun (.cmptestDone o) (opCmptestDone o) s := rfl
theorem exec_coreInstruction (core : Nat) (a : CoreAct) (s : State) : exec (.coreInstruction core a) s =
    wfRun (.coreInstruction core a) (fun s => settle (opCoreInstruction core a s)) s := rfl
theorem exec_windowTimer (t : Nat) (s : State) : exec (.windowTimer t) s =
    wfRun (.windowTimer t) (fun s => settle (opWindowTimer t s)) s := rfl
theorem exec_triadInterrupt (t : Nat) (src : IrqSource) (s : State) : exec (.triadInterrupt t src) s =
    wfRun (.triadInterrupt t src) (fun s => settle (opTriadInterrupt t src.pos src.num s)) s := rfl
theorem exec_singleIssueRead (t : Nat) (s : State) : exec (.singleIssueRead t) s =
    wfRun (.singleIssueRead t) (fun s => settle (opSingleIssueRead t s)) s := rfl
theorem exec_lagTimeout (t : Nat) (s : State) : exec (.lagTimeout t) s =
    wfRun (.lagTimeout t) (fun s => settle (opLagTimeout t s)) s := rfl
theorem exec_triadRestart (t : Nat) (s : State) : exec (.triadRestart t) s =
    wfRun (.triadRestart t) (fun s => settle (opTriadRestart t s)) s := rfl
theorem exec_releasedStoreError (t addr resp : Nat) (s : State) : exec (.releasedStoreError t addr resp) s =
    wfRun (.releasedStoreError t addr resp) (fun s => settle (opReleasedStoreError t addr resp s)) s := rfl
theorem exec_reserveL1ClearDone (r : Nat) (s : State) : exec (.reserveL1ClearDone r) s =
    wfRun (.reserveL1ClearDone r) (opReserveL1ClearDone r) s := rfl
theorem exec_quiet (t : Nat) (s : State) : exec (.quiet t) s =
    wfRun (.quiet t) (fun s => settle (opQuiet t s)) s := rfl
theorem exec_reintegration (t : Nat) (live : Dword × Dword) (res : Dword) (s : State) :
    exec (.reintegration t live res) s =
    wfRun (.reintegration t live res) (fun s => settle (opReintegration t live.1 live.2 res s)) s := rfl
theorem exec_toSplit (t : Nat) (s : State) : exec (.toSplit t) s =
    wfRun (.toSplit t) (fun s => settle (opToSplit t s)) s := rfl
theorem exec_splitStart (t : Nat) (s : State) : exec (.splitStart t) s =
    wfRun (.splitStart t) (fun s => settle (opSplitStart t s)) s := rfl
theorem exec_toTriad (core : Nat) (s : State) : exec (.toTriad core) s =
    wfRun (.toTriad core) (fun s => settle (opToTriad core s)) s := rfl
theorem exec_handoverTimeout (t : Nat) (s : State) : exec (.handoverTimeout t) s =
    wfRun (.handoverTimeout t) (fun s => settle (opHandoverTimeout t s)) s := rfl
theorem exec_triadRestore (t : Nat) (ds : List Dword) (s : State) : exec (.triadRestore t ds) s =
    wfRun (.triadRestore t ds) (fun s => settle (opTriadRestore t ds s)) s := rfl
theorem exec_l1Error (l : L1Line) (s : State) : exec (.l1Error l) s =
    wfRun (.l1Error l) (opL1Error l) s := rfl
theorem exec_awnLd (lane : Nat) (x : BOp) (s : State) : exec (.awnLd lane x) s =
    wfRun (.awnLd lane x) (awnStep lane (fun e l => laneLd e x l)) s := rfl
theorem exec_awnAnd (lane : Nat) (x : BOp) (s : State) : exec (.awnAnd lane x) s =
    wfRun (.awnAnd lane x) (awnStep lane (fun e l => laneAnd e x l)) s := rfl
theorem exec_awnOr (lane : Nat) (x : BOp) (s : State) : exec (.awnOr lane x) s =
    wfRun (.awnOr lane x) (awnStep lane (fun e l => laneOr e x l)) s := rfl
theorem exec_awnXor (lane : Nat) (x : BOp) (s : State) : exec (.awnXor lane x) s =
    wfRun (.awnXor lane x) (awnStep lane (fun e l => laneXor e x l)) s := rfl
theorem exec_awnSt (lane : Nat) (x : BOp) (s : State) : exec (.awnSt lane x) s =
    wfRun (.awnSt lane x) (awnStep lane (fun e l => laneSt e x l)) s := rfl
theorem exec_awnSet (lane : Nat) (x : BOp) (s : State) : exec (.awnSet lane x) s =
    wfRun (.awnSet lane x) (awnStep lane (fun e l => laneSet e x l)) s := rfl
theorem exec_awnRst (lane : Nat) (x : BOp) (s : State) : exec (.awnRst lane x) s =
    wfRun (.awnRst lane x) (awnStep lane (fun e l => laneRst e x l)) s := rfl
theorem exec_awnNot (lane : Nat) (s : State) : exec (.awnNot lane) s =
    wfRun (.awnNot lane) (awnStep lane (fun _ l => laneNot l)) s := rfl
theorem exec_awnPsh (lane : Nat) (s : State) : exec (.awnPsh lane) s =
    wfRun (.awnPsh lane) (awnStep lane lanePsh) s := rfl
theorem exec_awnPop (lane : Nat) (s : State) : exec (.awnPop lane) s =
    wfRun (.awnPop lane) (awnStep lane lanePop) s := rfl
theorem exec_awnRds (lane : Nat) (s : State) : exec (.awnRds lane) s =
    wfRun (.awnRds lane) (awnStep lane laneRds) s := rfl
theorem exec_awnPopa (lane : Nat) (s : State) : exec (.awnPopa lane) s =
    wfRun (.awnPopa lane) (awnStep lane lanePopa) s := rfl
theorem exec_awnPopo (lane : Nat) (s : State) : exec (.awnPopo lane) s =
    wfRun (.awnPopo lane) (awnStep lane lanePopo) s := rfl
theorem exec_awnPopx (lane : Nat) (s : State) : exec (.awnPopx lane) s =
    wfRun (.awnPopx lane) (awnStep lane lanePopx) s := rfl
theorem exec_awnTim (lane : Nat) (n : Nat) (s : State) : exec (.awnTim lane n) s =
    wfRun (.awnTim lane n) (awnStep lane (fun e l => laneTim e n l)) s := rfl
theorem exec_awnTrs (lane : Nat) (n : Nat) (s : State) : exec (.awnTrs lane n) s =
    wfRun (.awnTrs lane n) (awnStep lane (fun _ l => laneTrs n l)) s := rfl
theorem exec_awnCtu (lane : Nat) (n : Nat) (s : State) : exec (.awnCtu lane n) s =
    wfRun (.awnCtu lane n) (awnStep lane (fun e l => laneCtu e n l)) s := rfl
theorem exec_awnCtd (lane : Nat) (n : Nat) (s : State) : exec (.awnCtd lane n) s =
    wfRun (.awnCtd lane n) (awnStep lane (fun e l => laneCtd e n l)) s := rfl
theorem exec_awnCrs (lane : Nat) (n : Nat) (s : State) : exec (.awnCrs lane n) s =
    wfRun (.awnCrs lane n) (awnStep lane (fun e l => laneCrs e n l)) s := rfl
theorem exec_awnCld (lane : Nat) (n : Nat) (s : State) : exec (.awnCld lane n) s =
    wfRun (.awnCld lane n) (awnStep lane (fun _ l => laneCld n l)) s := rfl
theorem exec_awnEdg (lane : Nat) (n : Nat) (s : State) : exec (.awnEdg lane n) s =
    wfRun (.awnEdg lane n) (awnStep lane (fun e l => laneEdg e n l)) s := rfl
theorem exec_awnLw (lane : Nat) (x : WOp) (s : State) : exec (.awnLw lane x) s =
    wfRun (.awnLw lane x) (awnStep lane (fun e l => laneLw e x l)) s := rfl
theorem exec_awnSw (lane : Nat) (x : WOp) (s : State) : exec (.awnSw lane x) s =
    wfRun (.awnSw lane x) (awnStep lane (fun e l => laneSw e x l)) s := rfl
theorem exec_awnAdd (lane : Nat) (x : WOp) (s : State) : exec (.awnAdd lane x) s =
    wfRun (.awnAdd lane x) (awnStep lane (fun e l => laneAdd e x l)) s := rfl
theorem exec_awnSub (lane : Nat) (x : WOp) (s : State) : exec (.awnSub lane x) s =
    wfRun (.awnSub lane x) (awnStep lane (fun e l => laneSub e x l)) s := rfl
theorem exec_awnMul (lane : Nat) (x : WOp) (s : State) : exec (.awnMul lane x) s =
    wfRun (.awnMul lane x) (awnStep lane (fun e l => laneMul e x l)) s := rfl
theorem exec_awnAndw (lane : Nat) (x : WOp) (s : State) : exec (.awnAndw lane x) s =
    wfRun (.awnAndw lane x) (awnStep lane (fun e l => laneAndw e x l)) s := rfl
theorem exec_awnOrw (lane : Nat) (x : WOp) (s : State) : exec (.awnOrw lane x) s =
    wfRun (.awnOrw lane x) (awnStep lane (fun e l => laneOrw e x l)) s := rfl
theorem exec_awnXorw (lane : Nat) (x : WOp) (s : State) : exec (.awnXorw lane x) s =
    wfRun (.awnXorw lane x) (awnStep lane (fun e l => laneXorw e x l)) s := rfl
theorem exec_awnMin (lane : Nat) (x : WOp) (s : State) : exec (.awnMin lane x) s =
    wfRun (.awnMin lane x) (awnStep lane (fun e l => laneMin e x l)) s := rfl
theorem exec_awnMax (lane : Nat) (x : WOp) (s : State) : exec (.awnMax lane x) s =
    wfRun (.awnMax lane x) (awnStep lane (fun e l => laneMax e x l)) s := rfl
theorem exec_awnSel (lane : Nat) (x : WOp) (s : State) : exec (.awnSel lane x) s =
    wfRun (.awnSel lane x) (awnStep lane (fun e l => laneSel e x l)) s := rfl
theorem exec_awnCeq (lane : Nat) (x : WOp) (s : State) : exec (.awnCeq lane x) s =
    wfRun (.awnCeq lane x) (awnStep lane (fun e l => laneCeq e x l)) s := rfl
theorem exec_awnCne (lane : Nat) (x : WOp) (s : State) : exec (.awnCne lane x) s =
    wfRun (.awnCne lane x) (awnStep lane (fun e l => laneCne e x l)) s := rfl
theorem exec_awnClt (lane : Nat) (x : WOp) (s : State) : exec (.awnClt lane x) s =
    wfRun (.awnClt lane x) (awnStep lane (fun e l => laneClt e x l)) s := rfl
theorem exec_awnCle (lane : Nat) (x : WOp) (s : State) : exec (.awnCle lane x) s =
    wfRun (.awnCle lane x) (awnStep lane (fun e l => laneCle e x l)) s := rfl
theorem exec_awnCgt (lane : Nat) (x : WOp) (s : State) : exec (.awnCgt lane x) s =
    wfRun (.awnCgt lane x) (awnStep lane (fun e l => laneCgt e x l)) s := rfl
theorem exec_awnCge (lane : Nat) (x : WOp) (s : State) : exec (.awnCge lane x) s =
    wfRun (.awnCge lane x) (awnStep lane (fun e l => laneCge e x l)) s := rfl
theorem exec_awnShl (lane : Nat) (sh : Nat) (s : State) : exec (.awnShl lane sh) s =
    wfRun (.awnShl lane sh) (awnStep lane (fun _ l => laneShl sh l)) s := rfl
theorem exec_awnShr (lane : Nat) (sh : Nat) (s : State) : exec (.awnShr lane sh) s =
    wfRun (.awnShr lane sh) (awnStep lane (fun _ l => laneShr sh l)) s := rfl
theorem exec_awnAsr (lane : Nat) (sh : Nat) (s : State) : exec (.awnAsr lane sh) s =
    wfRun (.awnAsr lane sh) (awnStep lane (fun _ l => laneAsr sh l)) s := rfl
theorem exec_awnNegw (lane : Nat) (s : State) : exec (.awnNegw lane) s =
    wfRun (.awnNegw lane) (awnStep lane (fun _ l => laneNegw l)) s := rfl
theorem exec_awnAbs (lane : Nat) (s : State) : exec (.awnAbs lane) s =
    wfRun (.awnAbs lane) (awnStep lane (fun _ l => laneAbs l)) s := rfl
theorem exec_awnLdl (lane : Nat) (lit : Word) (s : State) : exec (.awnLdl lane lit) s =
    wfRun (.awnLdl lane lit) (awnStep lane (fun _ l => laneLdl lit l)) s := rfl
theorem exec_awnJmp (lane : Nat) (target : Nat) (s : State) : exec (.awnJmp lane target) s =
    wfRun (.awnJmp lane target) (awnStep lane (fun _ l => laneJmp target l)) s := rfl
theorem exec_awnJc (lane : Nat) (target : Nat) (s : State) : exec (.awnJc lane target) s =
    wfRun (.awnJc lane target) (awnStep lane (fun _ l => laneJc target l)) s := rfl
theorem exec_awnJnc (lane : Nat) (target : Nat) (s : State) : exec (.awnJnc lane target) s =
    wfRun (.awnJnc lane target) (awnStep lane (fun _ l => laneJnc target l)) s := rfl
theorem exec_awnNop (lane : Nat) (s : State) : exec (.awnNop lane) s =
    wfRun (.awnNop lane) (awnStep lane (fun _ l => laneNop l)) s := rfl
theorem exec_awnEnd (lane : Nat) (s : State) : exec (.awnEnd lane) s =
    wfRun (.awnEnd lane) (awnStep lane laneEnd) s := rfl
theorem exec_awnIllegalStep (lane : Nat) (ecc : Bool) (s : State) : exec (.awnIllegalStep lane ecc) s =
    wfRun (.awnIllegalStep lane ecc) (opAwnIllegalStep lane ecc) s := rfl
theorem exec_awnEnableWrite (init : Nat) (v : Word) (s : State) : exec (.awnEnableWrite init v) s =
    wfRun (.awnEnableWrite init v) (opAwnEnableWrite init v) s := rfl
theorem exec_modeReqRun (init : Nat) (s : State) : exec (.modeReqRun init) s =
    wfRun (.modeReqRun init) (opModeReqRun init) s := rfl
theorem exec_modeReqStop (init : Nat) (s : State) : exec (.modeReqStop init) s =
    wfRun (.modeReqStop init) (opModeReqStop init) s := rfl
theorem exec_modeReqHold (init : Nat) (s : State) : exec (.modeReqHold init) s =
    wfRun (.modeReqHold init) (opModeReqHold init) s := rfl
theorem exec_forceEntryWrite (init i : Nat) (v : Word) (s : State) : exec (.forceEntryWrite init i v) s =
    wfRun (.forceEntryWrite init i v) (opForceEntryWrite init i v) s := rfl
theorem exec_olcCommit (init : Nat) (v : Word) (s : State) : exec (.olcCommit init v) s =
    wfRun (.olcCommit init v) (opOlcCommit init v) s := rfl
theorem exec_exchStart (init : Nat) (v : Word) (s : State) : exec (.exchStart init v) s =
    wfRun (.exchStart init v) (opExchStart init v) s := rfl
theorem exec_taskRelease (i : Nat) (s : State) : exec (.taskRelease i) s =
    wfRun (.taskRelease i) (fun s => settle (opTaskRelease i s)) s := rfl
theorem exec_dispatchTake (init t p : Nat) (v : Word) (s : State) : exec (.dispatchTake init t p v) s =
    wfRun (.dispatchTake init t p v) (fun s => settle (opDispatchTake init t p v s)) s := rfl
theorem exec_jobDone (init t p : Nat) (v : Word) (s : State) : exec (.jobDone init t p v) s =
    wfRun (.jobDone init t p v) (fun s => settle (opJobDone init t p v s)) s := rfl
theorem exec_deadlineMiss (i : Nat) (s : State) : exec (.deadlineMiss i) s =
    wfRun (.deadlineMiss i) (fun s => settle (opDeadlineMiss i s)) s := rfl
theorem exec_budgetOverrun (i : Nat) (s : State) : exec (.budgetOverrun i) s =
    wfRun (.budgetOverrun i) (fun s => settle (opBudgetOverrun i s)) s := rfl
theorem exec_sensorSample (q : List Int) (s : State) : exec (.sensorSample q) s =
    wfRun (.sensorSample q) (fun s => settle (opSensorSample q s)) s := rfl
theorem exec_shedEnd (cause : Nat) (s : State) : exec (.shedEnd cause) s =
    wfRun (.shedEnd cause) (fun s => settle (opShedEnd cause s)) s := rfl
theorem exec_dramScrub (r : Scrub) (s : State) : exec (.dramScrub r) s =
    wfRun (.dramScrub r) (opDramScrub r) s := rfl
theorem exec_mramScrub (r : Scrub) (s : State) : exec (.mramScrub r) s =
    wfRun (.mramScrub r) (opMramScrub r) s := rfl
theorem exec_earFrameForward (p : Nat) (b : List Byte) (f : Bool) (s : State) : exec (.earFrameForward p b f) s =
    wfRun (.earFrameForward p b f) (engRun [p / 2] (opEarFrameForward p b f)) s := rfl
theorem exec_earFrameReceive (p rx : Nat) (e : Bool) (b : List Byte) (s : State) :
    exec (.earFrameReceive p rx e b) s =
    wfRun (.earFrameReceive p rx e b) (engRun [p / 2] (opEarFrameReceive p rx e b)) s := rfl
theorem exec_vyfModeReq (init : Nat) (v : Word) (s : State) : exec (.vyfModeReq init v) s =
    wfRun (.vyfModeReq init v) (opVyfModeReq init v) s := rfl
theorem exec_backboneLinkChange (p : Nat) (u : Bool) (s : State) : exec (.backboneLinkChange p u) s =
    wfRun (.backboneLinkChange p u) (opBackboneLinkChange p u) s := rfl
theorem exec_hubTxSlot (d : Nat) (s : State) : exec (.hubTxSlot d) s =
    wfRun (.hubTxSlot d) (engRun [2] (opHubTxSlot d)) s := rfl
theorem exec_hubFrameReceive (p : Nat) (f : HubRx) (s : State) : exec (.hubFrameReceive p f) s =
    wfRun (.hubFrameReceive p f) (engRun [2] (opHubFrameReceive p f)) s := rfl
theorem exec_hubRxWindowClose (d : Nat) (s : State) : exec (.hubRxWindowClose d) s =
    wfRun (.hubRxWindowClose d) (engRun [2, 5] (opHubRxWindowClose d)) s := rfl
theorem exec_portReopen (p : Nat) (s : State) : exec (.portReopen p) s =
    wfRun (.portReopen p) (opPortReopen p) s := rfl
theorem exec_hubPortEnableWrite (init p : Nat) (v : Word) (s : State) : exec (.hubPortEnableWrite init p v) s =
    wfRun (.hubPortEnableWrite init p v) (engRun [2, 5] (opHubPortEnableWrite init p v)) s := rfl
theorem exec_hubLinkChange (p : Nat) (up : Bool) (s : State) : exec (.hubLinkChange p up) s =
    wfRun (.hubLinkChange p up) (opHubLinkChange p up) s := rfl
theorem exec_openMsg (src dst stream : Nat) (s : State) : exec (.openMsg src dst stream) s =
    wfRun (.openMsg src dst stream) (engRun [0, 1] (opOpenMsg src dst stream)) s := rfl
theorem exec_dataMsg (src dst stream offset ack : Nat) (bytes : List Byte) (s : State) :
    exec (.dataMsg src dst stream offset ack bytes) s =
    wfRun (.dataMsg src dst stream offset ack bytes) (engRun [0, 1] (opDataMsg src dst stream offset ack bytes)) s := rfl
theorem exec_closeMsg (src dst stream reason : Nat) (s : State) : exec (.closeMsg src dst stream reason) s =
    wfRun (.closeMsg src dst stream reason) (engRun [0, 1] (opCloseMsg src dst stream reason)) s := rfl
theorem exec_relayConnect (port : Nat) (s : State) : exec (.relayConnect port) s =
    wfRun (.relayConnect port) (engRun [0, 1] (opRelayConnect port)) s := rfl
theorem exec_streamResend (peer stream : Nat) (s : State) : exec (.streamResend peer stream) s =
    wfRun (.streamResend peer stream) (engRun [0, 1] (opStreamResend peer stream)) s := rfl
theorem exec_streamAckTimeout (peer stream : Nat) (s : State) : exec (.streamAckTimeout peer stream) s =
    wfRun (.streamAckTimeout peer stream) (engRun [0, 1] (opStreamAckTimeout peer stream)) s := rfl
theorem exec_streamIdleTimeout (peer stream : Nat) (s : State) : exec (.streamIdleTimeout peer stream) s =
    wfRun (.streamIdleTimeout peer stream) (engRun [0, 1] (opStreamIdleTimeout peer stream)) s := rfl
theorem exec_pairTxSlot (b : Nat) (s : State) : exec (.pairTxSlot b) s =
    wfRun (.pairTxSlot b) (engRun [3] (opPairTxSlot b)) s := rfl
theorem exec_pairReportReceive (w : PairRx) (b : List Byte) (s : State) : exec (.pairReportReceive w b) s =
    wfRun (.pairReportReceive w b) (engRun [3] (opPairReportReceive w b)) s := rfl
theorem exec_shadowFrameReceive (w : PairRx) (b : List Byte) (s : State) : exec (.shadowFrameReceive w b) s =
    wfRun (.shadowFrameReceive w b) (engRun [3] (opShadowFrameReceive w b)) s := rfl
theorem exec_pilInChange (l : Bool) (s : State) : exec (.pilInChange l) s =
    wfRun (.pilInChange l) (opPilInChange l) s := rfl
theorem exec_pairSwitch (init : Nat) (v : Word) (s : State) : exec (.pairSwitch init v) s =
    wfRun (.pairSwitch init v) (opPairSwitch init v) s := rfl
theorem exec_glumeMessageReceive (t i : Nat) (b : List Byte) (s : State) : exec (.glumeMessageReceive t i b) s =
    wfRun (.glumeMessageReceive t i b) (engRun [5] (opGlumeMessageReceive t i b)) s := rfl
theorem exec_connectionTimeout (c : Nat) (s : State) : exec (.connectionTimeout c) s =
    wfRun (.connectionTimeout c) (opConnectionTimeout c) s := rfl
theorem exec_glmConnEnableWrite (init c : Nat) (v : Word) (s : State) : exec (.glmConnEnableWrite init c v) s =
    wfRun (.glmConnEnableWrite init c v) (opGlmConnEnableWrite init c v) s := rfl
theorem exec_inputSample (di fb : List (Int × Int)) (s : State) : exec (.inputSample di fb) s =
    wfRun (.inputSample di fb) (opInputSample di fb) s := rfl
theorem exec_fbPullInTimeout (n : Nat) (s : State) : exec (.fbPullInTimeout n) s =
    wfRun (.fbPullInTimeout n) (opFbPullInTimeout n) s := rfl
theorem exec_fbDropOutTimeout (n : Nat) (s : State) : exec (.fbDropOutTimeout n) s =
    wfRun (.fbDropOutTimeout n) (opFbDropOutTimeout n) s := rfl
theorem exec_readbackSample (dq : List (Int × Int)) (l g : List Nat) (s : State) : exec (.readbackSample dq l g) s =
    wfRun (.readbackSample dq l g) (opReadbackSample dq l g) s := rfl
theorem exec_offPulse (n : Nat) (s : State) : exec (.offPulse n) s =
    wfRun (.offPulse n) (opOffPulse n) s := rfl
theorem exec_offPulseEnd (n : Nat) (s : State) : exec (.offPulseEnd n) s =
    wfRun (.offPulseEnd n) (opOffPulseEnd n) s := rfl
theorem exec_groupSwitchTest (g : Nat) (b : Bool) (s : State) : exec (.groupSwitchTest g b) s =
    wfRun (.groupSwitchTest g b) (opGroupSwitchTest g b) s := rfl
theorem exec_outputOverload (n ma : Nat) (s : State) : exec (.outputOverload n ma) s =
    wfRun (.outputOverload n ma) (opOutputOverload n ma) s := rfl
theorem exec_groupOvercurrent (g ma : Nat) (s : State) : exec (.groupOvercurrent g ma) s =
    wfRun (.groupOvercurrent g ma) (opGroupOvercurrent g ma) s := rfl
theorem exec_returnCrossFault (g : Nat) (s : State) : exec (.returnCrossFault g) s =
    wfRun (.returnCrossFault g) (opReturnCrossFault g) s := rfl
theorem exec_openLoad (n : Nat) (s : State) : exec (.openLoad n) s =
    wfRun (.openLoad n) (opOpenLoad n) s := rfl
theorem exec_faultResetInputs (init : Nat) (s : State) : exec (.faultResetInputs init) s =
    wfRun (.faultResetInputs init) (opFaultReset init true 0 0) s := rfl
theorem exec_faultResetGroups (init mask : Nat) (s : State) : exec (.faultResetGroups init mask) s =
    wfRun (.faultResetGroups init mask) (opFaultReset init false mask 0) s := rfl
theorem exec_faultResetChannels (init mask : Nat) (s : State) : exec (.faultResetChannels init mask) s =
    wfRun (.faultResetChannels init mask) (opFaultReset init false 0 mask) s := rfl
theorem exec_ovlResetGroups (init mask : Nat) (s : State) : exec (.ovlResetGroups init mask) s =
    wfRun (.ovlResetGroups init mask) (opOvlReset init mask 0) s := rfl
theorem exec_ovlResetChannels (init mask : Nat) (s : State) : exec (.ovlResetChannels init mask) s =
    wfRun (.ovlResetChannels init mask) (opOvlReset init 0 mask) s := rfl
theorem exec_canFrameReceive (n : Nat) (f : CanRx) (s : State) : exec (.canFrameReceive n f) s =
    wfRun (.canFrameReceive n f) (engRun [4, 5] (opCanFrameReceive n f)) s := rfl
theorem exec_txReq (init n k : Nat) (s : State) : exec (.txReq init n k) s =
    wfRun (.txReq init n k) (engRun [4] (opTxReq init n k)) s := rfl
theorem exec_canTxAttemptEnd (n : Nat) (e : CanTxEnd) (s : State) : exec (.canTxAttemptEnd n e) s =
    wfRun (.canTxAttemptEnd n e) (engRun [4] (opCanTxAttemptEnd n e)) s := rfl
theorem exec_canSendDeadline (n : Nat) (s : State) : exec (.canSendDeadline n) s =
    wfRun (.canSendDeadline n) (opCanSendDeadline n) s := rfl
theorem exec_busOffHoldEnd (n : Nat) (s : State) : exec (.busOffHoldEnd n) s =
    wfRun (.busOffHoldEnd n) (opBusOffHoldEnd n) s := rfl
theorem exec_recover (init n : Nat) (s : State) : exec (.recover init n) s =
    wfRun (.recover init n) (opRecover n) s := rfl
theorem exec_canRecoveryDone (n : Nat) (s : State) : exec (.canRecoveryDone n) s =
    wfRun (.canRecoveryDone n) (engRun [4] (opCanRecoveryDone n)) s := rfl
theorem exec_canEnableWrite (init n : Nat) (v : Word) (s : State) : exec (.canEnableWrite init n v) s =
    wfRun (.canEnableWrite init n v) (opCanEnableWrite n v) s := rfl
theorem exec_canObjectEnableWrite (init n k : Nat) (v : Word) (s : State) :
    exec (.canObjectEnableWrite init n k v) s =
    wfRun (.canObjectEnableWrite init n k v) (opCanObjectEnableWrite n k v) s := rfl
theorem exec_objStatRead (init n k : Nat) (s : State) : exec (.objStatRead init n k) s =
    wfRun (.objStatRead init n k) (opObjStatRead init n k) s := rfl
theorem exec_referenceSend (n : Nat) (s : State) : exec (.referenceSend n) s =
    wfRun (.referenceSend n) (engRun [4] (opReferenceSend n)) s := rfl
theorem exec_referenceLost (n : Nat) (s : State) : exec (.referenceLost n) s =
    wfRun (.referenceLost n) (opReferenceLost n) s := rfl
theorem exec_culmOutboundAccept (i : CulmItem) (s : State) : exec (.culmOutboundAccept i) s =
    wfRun (.culmOutboundAccept i) (opCulmOutboundAccept i) s := rfl
theorem exec_culmOutboundEnd (e : CulmGo) (s : State) : exec (.culmOutboundEnd e) s =
    wfRun (.culmOutboundEnd e) (opCulmOutboundEnd e) s := rfl
theorem exec_culmInboundAddressPhase (p : CulmPhase) (s : State) : exec (.culmInboundAddressPhase p) s =
    wfRun (.culmInboundAddressPhase p) (opCulmInboundAddressPhase p) s := rfl
theorem exec_delayedReadData (k : Nat) (s : State) : exec (.delayedReadData k) s =
    wfRun (.delayedReadData k) (opDelayedReadData k) s := rfl
theorem exec_delayedReadDiscard (k : Nat) (s : State) : exec (.delayedReadDiscard k) s =
    wfRun (.delayedReadDiscard k) (opDelayedReadDiscard k) s := rfl
theorem exec_prefetchExpiry (k : Nat) (s : State) : exec (.prefetchExpiry k) s =
    wfRun (.prefetchExpiry k) (opPrefetchExpiry k) s := rfl
theorem exec_culmWindowEnableWrite (init : Nat) (b : Bool) (w : Nat) (v : Word) (s : State) :
    exec (.culmWindowEnableWrite init b w v) s =
    wfRun (.culmWindowEnableWrite init b w v) (opCulmWindowEnableWrite init b w v) s := rfl
theorem exec_tlsHandshake (o : TlsOffer) (s : State) : exec (.tlsHandshake o) s =
    wfRun (.tlsHandshake o) (opTlsHandshake o) s := rfl
theorem exec_sessionIdleTimeout (n : Nat) (s : State) : exec (.sessionIdleTimeout n) s =
    wfRun (.sessionIdleTimeout n) (opSessionIdleTimeout n) s := rfl
theorem exec_attest (n : Req) (b : List Byte) (s : State) : exec (.attest n b) s =
    wfRun (.attest n b) (opAttest n b) s := rfl
theorem exec_challenge (n : Req) (s : State) : exec (.challenge n) s =
    wfRun (.challenge n) (opChallenge n) s := rfl
theorem exec_token (n : Req) (b : List Byte) (s : State) : exec (.token n b) s =
    wfRun (.token n b) (opToken n b) s := rfl
theorem exec_readReg (r : Req) (addr count : Nat) (s : State) : exec (.readReg r addr count) s =
    wfRun (.readReg r addr count) (opReadReg r addr count) s := rfl
theorem exec_writeReg (r : Req) (addr : Nat) (v : Word) (s : State) : exec (.writeReg r addr v) s =
    wfRun (.writeReg r addr v) (opWriteReg r addr v) s := rfl
theorem exec_readMem (n : Req) (a c : Nat) (s : State) : exec (.readMem n a c) s =
    wfRun (.readMem n a c) (opReadMem n a c) s := rfl
theorem exec_clearRecords (n : Req) (s : State) : exec (.clearRecords n) s =
    wfRun (.clearRecords n) (opClearRecords n) s := rfl
theorem exec_imageBegin (n : Req) (len : Nat) (s : State) : exec (.imageBegin n len) s =
    wfRun (.imageBegin n len) (opImageBegin n len) s := rfl
theorem exec_imageData (n : Req) (o : Nat) (b : List Byte) (s : State) : exec (.imageData n o b) s =
    wfRun (.imageData n o b) (opImageData n o b) s := rfl
theorem exec_imageEnd (n : Req) (s : State) : exec (.imageEnd n) s =
    wfRun (.imageEnd n) (opImageEnd n) s := rfl
theorem exec_confirm (n : Req) (s : State) : exec (.confirm n) s =
    wfRun (.confirm n) (opConfirm n) s := rfl
theorem exec_secImageConfirm (i : Nat) (v : Word) (s : State) : exec (.secImageConfirm i v) s =
    wfRun (.secImageConfirm i v) (opSecImageConfirm i v) s := rfl
theorem exec_activate (n : Req) (s : State) : exec (.activate n) s =
    wfRun (.activate n) (opActivate n) s := rfl
theorem exec_imageKeyInstall (n : Req) (k : Nat) (w : List Byte) (s : State) : exec (.imageKeyInstall n k w) s =
    wfRun (.imageKeyInstall n k w) (opImageKeyInstall n k w) s := rfl
theorem exec_anchorInstall (n : Req) (k : Nat) (b : List Byte) (s : State) : exec (.anchorInstall n k b) s =
    wfRun (.anchorInstall n k b) (opAnchorInstall n k b) s := rfl
theorem exec_keySlotProgram (n : Req) (k : Nat) (b : List Byte) (s : State) : exec (.keySlotProgram n k b) s =
    wfRun (.keySlotProgram n k b) (opKeySlotProgram n k b) s := rfl
theorem exec_slotRevoke (n : Req) (k : Nat) (s : State) : exec (.slotRevoke n k) s =
    wfRun (.slotRevoke n k) (opSlotRevoke n k) s := rfl
theorem exec_anchorA0Disable (n : Req) (s : State) : exec (.anchorA0Disable n) s =
    wfRun (.anchorA0Disable n) (opAnchorA0Disable n) s := rfl
theorem exec_debugOpen (n : Req) (s : State) : exec (.debugOpen n) s =
    wfRun (.debugOpen n) (opDebugOpen n) s := rfl
theorem exec_rngRead (i : Nat) (s : State) : exec (.rngRead i) s =
    wfRun (.rngRead i) (opRngRead i) s := rfl
theorem exec_shutdownGo (init : Nat) (v : Word) (s : State) : exec (.shutdownGo init v) s =
    wfRun (.shutdownGo init v) (opShutdownGo init v) s := rfl
theorem exec_shutdownRestart (init : Nat) (s : State) : exec (.shutdownRestart init) s =
    wfRun (.shutdownRestart init) (opShutdownRestart init) s := rfl
theorem exec_shutdownReady (init : Nat) (s : State) : exec (.shutdownReady init) s =
    wfRun (.shutdownReady init) (opShutdownReady init) s := rfl
theorem exec_threshRun (o : ThreshObs) (s : State) : exec (.threshRun o) s =
    wfRun (.threshRun o) (opThreshRun o) s := rfl
theorem exec_eventRaise (code detail : Nat) (d0 d1 : Word) (s : State) : exec (.eventRaise code detail d0 d1) s =
    wfRun (.eventRaise code detail d0 d1) (opEventRaise code detail d0 d1) s := rfl
theorem exec_rateIntervalEnd (code idx : Nat) (s : State) : exec (.rateIntervalEnd code idx) s =
    wfRun (.rateIntervalEnd code idx) (opRateIntervalEnd code idx) s := rfl
theorem exec_sessionClosed (n : Nat) (s : State) : exec (.sessionClosed n) s =
    wfRun (.sessionClosed n) (opSessionClosed n) s := rfl
theorem exec_openLoadCleared (n : Nat) (s : State) : exec (.openLoadCleared n) s =
    wfRun (.openLoadCleared n) (opOpenLoadCleared n) s := rfl
theorem exec_canBusIntegrated (n : Nat) (s : State) : exec (.canBusIntegrated n) s =
    wfRun (.canBusIntegrated n) (engRun [4] (opCanBusIntegrated n)) s := rfl
theorem exec_maintenanceFrameReceive (f : X5Frame) (s : State) : exec (.maintenanceFrameReceive f) s =
    wfRun (.maintenanceFrameReceive f) (opMaintenanceFrameReceive f) s := rfl
theorem exec_bridgeBackstopTimeout (s : State) : exec .bridgeBackstopTimeout s =
    wfRun .bridgeBackstopTimeout opBridgeBackstopTimeout s := rfl
theorem exec_fluctuationTimeout (s : State) : exec .fluctuationTimeout s =
    wfRun .fluctuationTimeout opFluctuationTimeout s := rfl
theorem exec_surgeTimeout (s : State) : exec .surgeTimeout s =
    wfRun .surgeTimeout opSurgeTimeout s := rfl
theorem exec_inputReconnect (s : State) : exec .inputReconnect s =
    wfRun .inputReconnect opInputReconnect s := rfl
theorem exec_braceDwellEnd (s : State) : exec .braceDwellEnd s =
    wfRun .braceDwellEnd opBraceDwellEnd s := rfl
theorem exec_quenchGuardExpiry (s : State) : exec .quenchGuardExpiry s =
    wfRun .quenchGuardExpiry opQuenchGuardExpiry s := rfl
theorem exec_railFaultTimeout (s : State) : exec .railFaultTimeout s =
    wfRun .railFaultTimeout opRailFaultTimeout s := rfl
theorem exec_aonSnapDone (s : State) : exec .aonSnapDone s =
    wfRun .aonSnapDone opAonSnapDone s := rfl
theorem exec_dramClear (s : State) : exec .dramClear s =
    wfRun .dramClear opDramClear s := rfl
theorem exec_verdictApply (s : State) : exec .verdictApply s =
    wfRun .verdictApply opVerdictApply s := rfl
theorem exec_imageSelect (s : State) : exec .imageSelect s =
    wfRun .imageSelect opImageSelect s := rfl
theorem exec_counterRaise (s : State) : exec .counterRaise s =
    wfRun .counterRaise opCounterRaise s := rfl
theorem exec_loadAndLock (s : State) : exec .loadAndLock s =
    wfRun .loadAndLock opLoadAndLock s := rfl
theorem exec_granaryStart (s : State) : exec .granaryStart s =
    wfRun .granaryStart opGranaryStart s := rfl
theorem exec_handOver (s : State) : exec .handOver s =
    wfRun .handOver opHandOver s := rfl
theorem exec_awnScanTrigger (s : State) : exec .awnScanTrigger s =
    wfRun .awnScanTrigger opAwnScanTrigger s := rfl
theorem exec_laneTimeout (s : State) : exec .laneTimeout s =
    wfRun .laneTimeout opLaneTimeout s := rfl
theorem exec_awnPublish (s : State) : exec .awnPublish s =
    wfRun .awnPublish opAwnPublish s := rfl
theorem exec_cycleBoundary (s : State) : exec .cycleBoundary s =
    wfRun .cycleBoundary (engRun (List.range 6) opCycleBoundary) s := rfl
theorem exec_releasePhase (s : State) : exec .releasePhase s =
    wfRun .releasePhase opReleasePhase s := rfl
theorem exec_publish (s : State) : exec .publish s =
    wfRun .publish (engRun (List.range 6) opPublish) s := rfl
theorem exec_hoursCopy (s : State) : exec .hoursCopy s =
    wfRun .hoursCopy opHoursCopy s := rfl
theorem exec_earFrameSend (s : State) : exec .earFrameSend s =
    wfRun .earFrameSend (engRun [0, 1] opEarFrameSend) s := rfl
theorem exec_modeRequestTimeout (s : State) : exec .modeRequestTimeout s =
    wfRun .modeRequestTimeout opModeRequestTimeout s := rfl
theorem exec_listenTimeout (s : State) : exec .listenTimeout s =
    wfRun .listenTimeout opListenTimeout s := rfl
theorem exec_originTakeover (s : State) : exec .originTakeover s =
    wfRun .originTakeover opOriginTakeover s := rfl
theorem exec_syncLost (s : State) : exec .syncLost s =
    wfRun .syncLost opSyncLost s := rfl
theorem exec_beaconSend (s : State) : exec .beaconSend s =
    wfRun .beaconSend (engRun [2] opBeaconSend) s := rfl
theorem exec_guardianGraceEnd (s : State) : exec .guardianGraceEnd s =
    wfRun .guardianGraceEnd opGuardianGraceEnd s := rfl
theorem exec_originYield (s : State) : exec .originYield s =
    wfRun .originYield opOriginYield s := rfl
theorem exec_candidateTimeout (s : State) : exec .candidateTimeout s =
    wfRun .candidateTimeout opCandidateTimeout s := rfl
theorem exec_candidateDrawEnd (s : State) : exec .candidateDrawEnd s =
    wfRun .candidateDrawEnd opCandidateDrawEnd s := rfl
theorem exec_checkScan (s : State) : exec .checkScan s =
    wfRun .checkScan opCheckScan s := rfl
theorem exec_pairLinkLost (s : State) : exec .pairLinkLost s =
    wfRun .pairLinkLost opPairLinkLost s := rfl
theorem exec_outputImageArrival (s : State) : exec .outputImageArrival s =
    wfRun .outputImageArrival opOutputImageArrival s := rfl
theorem exec_testRound (s : State) : exec .testRound s =
    wfRun .testRound opTestRound s := rfl
theorem exec_testRoundEnd (s : State) : exec .testRoundEnd s =
    wfRun .testRoundEnd opTestRoundEnd s := rfl
theorem exec_lplusRestored (s : State) : exec .lplusRestored s =
    wfRun .lplusRestored opLplusRestored s := rfl
theorem exec_culmTransactionTimeout (s : State) : exec .culmTransactionTimeout s =
    wfRun .culmTransactionTimeout opCulmTransactionTimeout s := rfl
theorem exec_inboundWriteIssue (s : State) : exec .inboundWriteIssue s =
    wfRun .inboundWriteIssue opInboundWriteIssue s := rfl
theorem exec_installationComplete (s : State) : exec .installationComplete s =
    wfRun .installationComplete opInstallationComplete s := rfl
theorem exec_autoConfirm (s : State) : exec .autoConfirm s =
    wfRun .autoConfirm opAutoConfirm s := rfl
theorem exec_rngHealthFail (s : State) : exec .rngHealthFail s =
    wfRun .rngHealthFail opRngHealthFail s := rfl
theorem exec_sdreqActive (s : State) : exec .sdreqActive s =
    wfRun .sdreqActive opSdreqActive s := rfl
theorem exec_shutdownEntry (s : State) : exec .shutdownEntry s =
    wfRun .shutdownEntry (fun s => settle (opShutdownEntry s)) s := rfl
theorem exec_shutdownGraceEnd (s : State) : exec .shutdownGraceEnd s =
    wfRun .shutdownGraceEnd opShutdownGraceEnd s := rfl
theorem exec_threshRunDone (s : State) : exec .threshRunDone s =
    wfRun .threshRunDone opThreshRunDone s := rfl
theorem exec_recordWritten (s : State) : exec .recordWritten s =
    wfRun .recordWritten opRecordWritten s := rfl
theorem exec_lifeWriteTick (s : State) : exec .lifeWriteTick s =
    wfRun .lifeWriteTick opLifeWriteTick s := rfl
theorem exec_operatingSecond (s : State) : exec .operatingSecond s =
    wfRun .operatingSecond opOperatingSecond s := rfl
theorem exec_logicSupplyLost (s : State) : exec .logicSupplyLost s =
    wfRun .logicSupplyLost opLogicSupplyLost s := rfl
theorem exec_lampTestEnd (s : State) : exec .lampTestEnd s =
    wfRun .lampTestEnd opLampTestEnd s := rfl

end Sys2Proof.Machine
end

