-- ==== Sys2Proof/Laws/Triad.lean ====
section
/-! SUPPORT. The voters: with nothing waiting at them they have nothing to do. -/

namespace Sys2Proof.Machine

/-- With the triads at rest the voters change nothing. -/
theorem settleN_rest (n : Nat) (s : State) (h : TriadsAtRest s) : settleN n s = s := by
  cases n with
  | zero => rfl
  | succ n => unfold settleN; rw [if_pos h]

/-- With the triads at rest the voters change nothing. -/
theorem settle_rest (s : State) (h : TriadsAtRest s) : settle s = s := settleN_rest 20 s h

/-- A meaning after which the voters act: where its effect leaves the triads at rest, it is that effect. -/
theorem wfRun_settle (i : Instr) (f : State → State) (s : State) (hw : i.wf = true) (h : TriadsAtRest (f s.begin)) :
    wfRun i (fun s => settle (f s)) s = .next { f s.begin with pending := s.pending } := by
  rw [wfRun_next _ _ _ hw, settle_rest _ h]

/-- The same where the effect leaves the triads as they were. -/
theorem wfRun_settle_trd (i : Instr) (f : State → State) (s : State) (hw : i.wf = true) (h : TriadsAtRest s)
    (ht : (f s.begin).trd = s.trd) : wfRun i (fun s => settle (f s)) s = .next { f s.begin with pending := s.pending } := by
  refine wfRun_settle i f s hw ?_
  have he : ∀ t, settled (f s.begin) t = settled s t := by
    intro t
    unfold settled State.tri State.core
    rw [ht]
  unfold TriadsAtRest at h ⊢
  have : settled (f s.begin) = settled s := funext he
  rw [this]
  exact h

end Sys2Proof.Machine
end

