-- ==== Sys2Proof/Tests/Slice0.lean ====
section
/-! SUPPORT. The model's own tests, all by the kernel's evaluation. First, that WellFormed refuses an ill-formed term for each
of its checks; then single commands against values worked out from the spec's text; then, for every statement of
Certificates/Slice0/Obligations.lean that has hypotheses, states and operands that meet them together. -/

set_option Elab.async false

namespace Sys2Proof.Tests

open Sys2Proof.Machine

/-! ## States the tests start from -/

/-- A module in RUN, 1 s after the start. -/
def inRun : State := { mod := { mode := .run }, clk := { now := 1000000000, tb := 5000, tbSet := true } }

/-- Six triads of three cores in the given state, cores running. -/
def sixTriads (st : Nat) : Trd where
  triads := (List.range 6).map (fun k => {
    cores := [3 * k, 3 * k + 1, 3 * k + 2], fwCore := [3 * k, 3 * k + 1, 3 * k + 2], state := st,
    live := if st = 4 then [false, false, false] else [true, true, true], handover := decide (k = 4) })
  cores := (List.range 20).map (fun n => {
    role := if n < 18 then (if st = 4 then 1 else 0) else 2, triad := n / 3, pos := n % 3, running := decide (n < 18),
    pc := 0x100000000, minstret := 10 })
  reserves := [18, 19]
  resFree := [true, true]

/-- A module in RUN with six triads in the given state, each core's image loaded. -/
def withTriads (st : Nat) : State :=
  { inRun with
    trd := sixTriads st, mod := { mode := .run, handedAt := some 5 },
    img := {
      loaded := true,
      cores := (List.range 24).map (fun i => (i, 0x100000000 + 0x10000 * i, 0x100000000 + 0x10000 * i + 4)) } }

/-- The same module in another module state. -/
def inMode (s : State) (m : Mode) : State := { s with mod := { s.mod with mode := m } }
/-! ## Well-formed operands: one ill-formed term for each check -/

theorem smoke_wf_accepts_1 : ([
    .registerWrite 0 0 0, .rachisTransaction ⟨0, .read, 0, 4, [], {}, .clean, true⟩, .busTimeout .dram,
    .engineWatchdog 0, .trdWatchdog 0, .clockFault 1, .functionDrainDone .awn, .powerOn 0, .supplySample 0 0 0 [],
    .capacitanceMeasurement 0 1, .cellMeasurement 0, .errorEpisodeEnd ⟨0, 0⟩, .aonSnap 0 0, .aonRtcSet 0 0,
    .bootSecuritySelftest none, .protLock 0 0, .startupBist ⟨[], [], [], [], 0⟩, .cmptestStart 0 0,
    .cmptestDone ⟨[], []⟩, .coreInstruction 0 (.request 0 1), .windowTimer 0, .triadInterrupt 0 ⟨0, 0⟩,
    .singleIssueRead 0, .lagTimeout 0, .triadRestart 0, .releasedStoreError 0 0 1, .reserveL1ClearDone 0, .quiet 0,
    .reintegration 0 (0, 0) 0, .toSplit 0, .splitStart 0, .toTriad 0, .handoverTimeout 0, .triadRestore 0 [0, 0, 0],
    .l1Error ⟨0, true, 0⟩, .awnLd 0 ⟨0, false, 0⟩, .awnAnd 0 ⟨0, false, 0⟩, .awnOr 0 ⟨0, false, 0⟩,
    .awnXor 0 ⟨0, false, 0⟩, .awnSt 0 ⟨0, false, 0⟩, .awnSet 0 ⟨0, false, 0⟩, .awnRst 0 ⟨0, false, 0⟩, .awnNot 0,
    .awnPsh 0, .awnPop 0, .awnRds 0, .awnPopa 0, .awnPopo 0, .awnPopx 0, .awnTim 0 0, .awnTrs 0 0, .awnCtu 0 0,
    .awnCtd 0 0, .awnCrs 0 0, .awnCld 0 0, .awnEdg 0 0, .awnLw 0 ⟨0, 0⟩, .awnSw 0 ⟨0, 0⟩, .awnAdd 0 ⟨0, 0⟩,
    .awnSub 0 ⟨0, 0⟩]
    : List Instr).all (fun i => i.wf == true) = true := by decide +kernel

theorem smoke_wf_accepts_2 : ([
    .awnMul 0 ⟨0, 0⟩, .awnAndw 0 ⟨0, 0⟩, .awnOrw 0 ⟨0, 0⟩, .awnXorw 0 ⟨0, 0⟩, .awnMin 0 ⟨0, 0⟩, .awnMax 0 ⟨0, 0⟩,
    .awnSel 0 ⟨0, 0⟩, .awnCeq 0 ⟨0, 0⟩, .awnCne 0 ⟨0, 0⟩, .awnClt 0 ⟨0, 0⟩, .awnCle 0 ⟨0, 0⟩, .awnCgt 0 ⟨0, 0⟩,
    .awnCge 0 ⟨0, 0⟩, .awnShl 0 0, .awnShr 0 0, .awnAsr 0 0, .awnNegw 0, .awnAbs 0, .awnLdl 0 0, .awnJmp 0 0,
    .awnJc 0 0, .awnJnc 0 0, .awnNop 0, .awnEnd 0, .awnIllegalStep 0 false, .awnEnableWrite 0 0, .modeReqRun 0,
    .modeReqStop 0, .modeReqHold 0, .forceEntryWrite 0 0 0, .olcCommit 0 0, .exchStart 0 0, .taskRelease 0,
    .dispatchTake 0 0 0 0, .jobDone 0 0 0 0, .deadlineMiss 0, .budgetOverrun 0, .sensorSample (List.replicate 8 0),
    .shedEnd 1, .earFrameForward 0 [] false, .earFrameReceive 0 0 false [], .vyfModeReq 0 0,
    .backboneLinkChange 0 false, .hubTxSlot 0, .hubFrameReceive 0 ⟨0, 0, 0, true, none, []⟩, .hubRxWindowClose 0,
    .portReopen 0, .hubPortEnableWrite 0 0 0, .hubLinkChange 0 false, .openMsg 0 0 0, .dataMsg 0 0 0 0 0 [],
    .closeMsg 0 0 0 0, .relayConnect 0, .streamResend 0 0, .streamAckTimeout 0 0, .streamIdleTimeout 0 0,
    .pairTxSlot 0, .pairSwitch 0 0, .glumeMessageReceive 1 0 [], .connectionTimeout 0]
    : List Instr).all (fun i => i.wf == true) = true := by decide +kernel

theorem smoke_wf_accepts_3 : ([
    .glmConnEnableWrite 0 0 0, .inputSample (List.replicate 40 (0, 0)) (List.replicate 16 (0, 0)),
    .fbPullInTimeout 0, .fbDropOutTimeout 0,
    .readbackSample (List.replicate 16 (0, 0)) (List.replicate 16 0) [0, 0], .offPulse 0, .offPulseEnd 0,
    .groupSwitchTest 0 false, .outputOverload 0 0, .groupOvercurrent 0 0, .returnCrossFault 0, .openLoad 0,
    .faultResetInputs 0, .faultResetGroups 0 0, .faultResetChannels 0 0, .ovlResetGroups 0 0, .ovlResetChannels 0 0,
    .canFrameReceive 0 (.error 1 0), .txReq 0 0 0, .canTxAttemptEnd 0 .arbitrationLost, .canSendDeadline 0,
    .busOffHoldEnd 0, .recover 0 0, .canRecoveryDone 0, .canEnableWrite 0 0 0, .canObjectEnableWrite 0 0 0 0,
    .objStatRead 0 0 0, .referenceSend 0, .referenceLost 0, .culmOutboundAccept ⟨0, false, 0xC0000000, 4, []⟩,
    .culmOutboundEnd ⟨.parity, []⟩, .culmInboundAddressPhase ⟨1, true, 0, 15, 1, [], true, [1]⟩, .delayedReadData 0,
    .delayedReadDiscard 0, .prefetchExpiry 0, .culmWindowEnableWrite 0 false 0 0, .sessionIdleTimeout 0,
    .attest ⟨0, 0⟩ [], .challenge ⟨0, 0⟩, .token ⟨0, 0⟩ [], .readReg ⟨0, 0⟩ 0 0, .writeReg ⟨0, 0⟩ 0 0,
    .readMem ⟨0, 0⟩ 0 0, .clearRecords ⟨0, 0⟩, .imageBegin ⟨0, 0⟩ 0, .imageData ⟨0, 0⟩ 0 [], .imageEnd ⟨0, 0⟩,
    .confirm ⟨0, 0⟩, .secImageConfirm 0 0, .activate ⟨0, 0⟩, .imageKeyInstall ⟨0, 0⟩ 0 [],
    .anchorInstall ⟨0, 0⟩ 0 [], .keySlotProgram ⟨0, 0⟩ 0 [], .slotRevoke ⟨0, 0⟩ 0, .anchorA0Disable ⟨0, 0⟩,
    .debugOpen ⟨0, 0⟩, .rngRead 0, .shutdownGo 0 0, .shutdownRestart 0, .shutdownReady 0]
    : List Instr).all (fun i => i.wf == true) = true := by decide +kernel

theorem smoke_wf_accepts_4 : ([
    .threshRun ⟨[], [], [], [], 0⟩, .eventRaise 0 0 0 0, .rateIntervalEnd 0 0, .sessionClosed 0, .openLoadCleared 0,
    .canBusIntegrated 0]
    : List Instr).all (fun i => i.wf == true) = true := by decide +kernel

theorem smoke_wf_refuses_1 : ([
    .registerWrite 64 0 0, .rachisTransaction ⟨64, .read, 0, 4, [], {}, .clean, true⟩,
    .rachisTransaction ⟨0, .read, 0x1000000000, 4, [], {}, .clean, true⟩,
    .rachisTransaction ⟨0, .read, 0, 4096, [], {}, .clean, true⟩,
    .rachisTransaction ⟨0, .write, 0, 4, [0, 0, 0], {}, .clean, true⟩, .busTimeout (.regs 19), .engineWatchdog 6,
    .trdWatchdog 6, .clockFault 0, .clockFault 15, .functionDrainDone (.hubPort 8),
    .functionDrainDone (.glmConn 512), .functionDrainDone (.can 2), .functionDrainDone (.canObj 2 0),
    .functionDrainDone (.canObj 0 128), .functionDrainDone (.owin 16), .functionDrainDone (.iwin 4), .powerOn 8,
    .supplySample 65536 0 0 [], .supplySample 0 65536 0 [], .supplySample 0 0 65536 [],
    .supplySample 0 0 0 [(65536, 0)], .supplySample 0 0 0 [(0, 65536)], .supplySample 0 0 0 [(1, 0), (1, 1)],
    .capacitanceMeasurement 0 0, .cellMeasurement 4096, .errorEpisodeEnd ⟨65536, 0⟩, .aonSnap 64 0, .aonRtcSet 64 0,
    .bootSecuritySelftest (some 6), .protLock 64 0, .startupBist ⟨[(960, 0)], [], [], [], 0⟩,
    .startupBist ⟨[(0, 512)], [], [], [], 0⟩, .startupBist ⟨[], [(960, 0)], [], [], 0⟩,
    .startupBist ⟨[], [(0, 4)], [], [], 0⟩, .startupBist ⟨[], [], [29], [], 0⟩, .startupBist ⟨[], [], [], [29], 0⟩,
    .startupBist ⟨[], [], [], [], 65536⟩, .cmptestStart 64 0, .cmptestDone ⟨[⟨6, 1, 0, [0, 0, 0]⟩], []⟩,
    .cmptestDone ⟨[⟨0, 0, 0, [0, 0, 0]⟩], []⟩, .cmptestDone ⟨[⟨0, 7, 0, [0, 0, 0]⟩], []⟩,
    .cmptestDone ⟨[⟨0, 2, 192, [0, 0, 0]⟩], []⟩, .cmptestDone ⟨[⟨0, 1, 0, [0, 0]⟩], []⟩, .cmptestDone ⟨[], [6]⟩,
    .coreInstruction 20 (.request 0 1), .coreInstruction 0 (.request 0x1000000000 1),
    .coreInstruction 0 (.request 0 3),
    .coreInstruction 0 (.commit ⟨0, 0, none, some ⟨0x1000000000, 0, 0, 0⟩, none, none, [], none, none, false⟩),
    .coreInstruction 0 (.commit ⟨0, 0, none, some ⟨0, 4, 0, 0⟩, none, none, [], none, none, false⟩),
    .coreInstruction 0 (.commit ⟨0, 0, none, none, some (0, 0), none, [], none, none, false⟩),
    .coreInstruction 0 (.commit ⟨0, 0, none, none, some (32, 0), none, [], none, none, false⟩),
    .coreInstruction 0 (.commit ⟨0, 0, none, none, none, some (32, 0), [], none, none, false⟩),
    .coreInstruction 0 (.commit ⟨0, 0, none, none, none, none, [(4096, 0)], none, none, false⟩),
    .coreInstruction 0 (.commit ⟨0, 0, none, none, none, none, [(5, 0), (5, 0)], none, none, false⟩),
    .coreInstruction 0 (.commit ⟨0, 0, none, none, none, none, [], some 4096, none, false⟩),
    .coreInstruction 0 (.commit ⟨0, 0, some ⟨true, false, 64, 0⟩, none, none, none, [], none, none, false⟩),
    .coreInstruction 0 (.commit ⟨0, 0, some ⟨true, false, 2, 0⟩, some ⟨0, 0, 0, 0⟩, none, none, [], none, none, false⟩),
    .coreInstruction 0 (.commit ⟨0, 0, some ⟨true, false, 2, 0⟩, none, some (1, 0), none, [], none, none, false⟩),
    .coreInstruction 0 (.commit ⟨0, 0, some ⟨true, false, 2, 0⟩, none, none, some (1, 0), [], none, none, false⟩)]
    : List Instr).all (fun i => i.wf == false) = true := by decide +kernel

theorem smoke_wf_refuses_2 : ([
    .coreInstruction 0 (.commit ⟨0, 0, some ⟨true, false, 2, 0⟩, none, none, none, [(1, 0)], none, none, false⟩),
    .coreInstruction 0 (.amo ⟨0, 0, .add, 0x1000000000, 4, 0, 0⟩),
    .coreInstruction 0 (.amo ⟨0, 0, .add, 0, 2, 0, 0⟩), .coreInstruction 0 (.amo ⟨0, 0, .add, 0, 8, 32, 0⟩),
    .windowTimer 6, .triadInterrupt 6 ⟨0, 0⟩, .triadInterrupt 0 ⟨64, 0⟩, .triadInterrupt 0 ⟨0, 3⟩,
    .singleIssueRead 6, .lagTimeout 6, .triadRestart 6, .releasedStoreError 6 0 1,
    .releasedStoreError 0 68719476736 1, .releasedStoreError 0 0 0, .releasedStoreError 0 0 7,
    .reserveL1ClearDone 2, .quiet 6, .reintegration 6 (0, 0) 0, .toSplit 6, .splitStart 6, .toTriad 20,
    .handoverTimeout 6, .triadRestore 6 [0, 0, 0], .triadRestore 0 [], .l1Error ⟨20, true, 0⟩,
    .l1Error ⟨0, true, 0x1000000000⟩, .awnLd 3 ⟨0, false, 0⟩, .awnLd 0 ⟨8, false, 0⟩, .awnLd 0 ⟨0, false, 131072⟩,
    .awnAnd 3 ⟨0, false, 0⟩, .awnAnd 0 ⟨8, false, 0⟩, .awnOr 3 ⟨0, false, 0⟩, .awnOr 0 ⟨8, false, 0⟩,
    .awnXor 3 ⟨0, false, 0⟩, .awnXor 0 ⟨8, false, 0⟩, .awnSt 3 ⟨0, false, 0⟩, .awnSt 0 ⟨8, false, 0⟩,
    .awnSet 3 ⟨0, false, 0⟩, .awnSet 0 ⟨8, false, 0⟩, .awnRst 3 ⟨0, false, 0⟩, .awnRst 0 ⟨8, false, 0⟩, .awnNot 3,
    .awnPsh 3, .awnPop 3, .awnRds 3, .awnPopa 3, .awnPopo 3, .awnPopx 3, .awnTim 3 0, .awnTim 0 2048, .awnTrs 3 0,
    .awnTrs 0 2048, .awnCtu 3 0, .awnCtu 0 1024, .awnCtd 3 0, .awnCtd 0 1024, .awnCrs 3 0, .awnCrs 0 1024,
    .awnCld 3 0, .awnCld 0 1024]
    : List Instr).all (fun i => i.wf == false) = true := by decide +kernel

theorem smoke_wf_refuses_3 : ([
    .awnEdg 3 0, .awnEdg 0 4096, .awnLw 3 ⟨0, 0⟩, .awnLw 0 ⟨8, 0⟩, .awnLw 0 ⟨0, 65536⟩, .awnSw 3 ⟨0, 0⟩,
    .awnSw 0 ⟨8, 0⟩, .awnAdd 3 ⟨0, 0⟩, .awnAdd 0 ⟨8, 0⟩, .awnSub 3 ⟨0, 0⟩, .awnSub 0 ⟨8, 0⟩, .awnMul 3 ⟨0, 0⟩,
    .awnMul 0 ⟨8, 0⟩, .awnAndw 3 ⟨0, 0⟩, .awnAndw 0 ⟨8, 0⟩, .awnOrw 3 ⟨0, 0⟩, .awnOrw 0 ⟨8, 0⟩, .awnXorw 3 ⟨0, 0⟩,
    .awnXorw 0 ⟨8, 0⟩, .awnMin 3 ⟨0, 0⟩, .awnMin 0 ⟨8, 0⟩, .awnMax 3 ⟨0, 0⟩, .awnMax 0 ⟨8, 0⟩, .awnSel 3 ⟨0, 0⟩,
    .awnSel 0 ⟨8, 0⟩, .awnCeq 3 ⟨0, 0⟩, .awnCeq 0 ⟨8, 0⟩, .awnCne 3 ⟨0, 0⟩, .awnCne 0 ⟨8, 0⟩, .awnClt 3 ⟨0, 0⟩,
    .awnClt 0 ⟨8, 0⟩, .awnCle 3 ⟨0, 0⟩, .awnCle 0 ⟨8, 0⟩, .awnCgt 3 ⟨0, 0⟩, .awnCgt 0 ⟨8, 0⟩, .awnCge 3 ⟨0, 0⟩,
    .awnCge 0 ⟨8, 0⟩, .awnShl 3 0, .awnShl 0 32, .awnShr 3 0, .awnShr 0 32, .awnAsr 3 0, .awnAsr 0 32, .awnNegw 3,
    .awnAbs 3, .awnLdl 3 0, .awnJmp 3 0, .awnJmp 0 65536, .awnJc 3 0, .awnJc 0 65536, .awnJnc 3 0, .awnJnc 0 65536,
    .awnNop 3, .awnEnd 3, .awnIllegalStep 3 false, .awnEnableWrite 64 0, .modeReqRun 64, .modeReqStop 64,
    .modeReqHold 64, .forceEntryWrite 64 0 0]
    : List Instr).all (fun i => i.wf == false) = true := by decide +kernel

theorem smoke_wf_refuses_4 : ([
    .forceEntryWrite 0 64 0, .olcCommit 64 0, .exchStart 64 0, .taskRelease 256, .dispatchTake 64 0 0 0,
    .dispatchTake 0 6 0 0, .dispatchTake 0 0 3 0, .jobDone 64 0 0 0, .jobDone 0 6 0 0, .jobDone 0 0 3 0,
    .deadlineMiss 256, .budgetOverrun 256, .sensorSample [], .shedEnd 0, .shedEnd 4, .earFrameForward 4 [] false,
    .earFrameReceive 4 0 false [], .vyfModeReq 64 0, .backboneLinkChange 4 false, .hubTxSlot 4096,
    .hubFrameReceive 8 ⟨0, 0, 0, true, none, []⟩, .hubFrameReceive 0 ⟨1, 0, 0, true, none, []⟩,
    .hubRxWindowClose 4096, .portReopen 8, .hubPortEnableWrite 64 0 0, .hubPortEnableWrite 0 8 0,
    .hubLinkChange 8 false, .openMsg 256 0 0, .openMsg 0 256 0, .openMsg 0 0 65536, .dataMsg 256 0 0 0 0 [],
    .dataMsg 0 256 0 0 0 [], .dataMsg 0 0 65536 0 0 [], .dataMsg 0 0 0 4294967296 0 [],
    .dataMsg 0 0 0 0 4294967296 [], .closeMsg 256 0 0 0, .closeMsg 0 256 0 0, .closeMsg 0 0 65536 0,
    .closeMsg 0 0 0 256, .relayConnect 65536, .streamResend 256 0, .streamResend 0 65536, .streamAckTimeout 256 0,
    .streamAckTimeout 0 65536, .streamIdleTimeout 256 0, .streamIdleTimeout 0 65536, .pairTxSlot 256,
    .pairSwitch 64 0, .glumeMessageReceive 0 0 [], .glumeMessageReceive 5 0 [], .connectionTimeout 512,
    .glmConnEnableWrite 64 0 0, .glmConnEnableWrite 0 512 0, .inputSample [] (List.replicate 16 (0, 0)),
    .inputSample (List.replicate 40 (0, 0)) [], .fbPullInTimeout 16, .fbDropOutTimeout 16,
    .readbackSample [] (List.replicate 16 0) [0, 0], .readbackSample (List.replicate 16 (0, 0)) [] [0, 0],
    .readbackSample (List.replicate 16 (0, 0)) (List.replicate 16 0) []]
    : List Instr).all (fun i => i.wf == false) = true := by decide +kernel

theorem smoke_wf_refuses_5 : ([
    .offPulse 16, .offPulseEnd 16, .groupSwitchTest 2 false, .outputOverload 16 0, .outputOverload 0 65536,
    .groupOvercurrent 2 0, .groupOvercurrent 0 65536, .returnCrossFault 2, .openLoad 16, .faultResetInputs 64,
    .faultResetGroups 64 0, .faultResetGroups 0 4, .faultResetChannels 64 0, .faultResetChannels 0 65536,
    .ovlResetGroups 64 0, .ovlResetGroups 0 4, .ovlResetChannels 64 0, .ovlResetChannels 0 65536,
    .canFrameReceive 2 (.error 1 0),
    .canFrameReceive 0 (.frame ⟨2048, false, false, false, false, false, 0, [], 0⟩),
    .canFrameReceive 0 (.frame ⟨536870912, true, false, false, false, false, 0, [], 0⟩),
    .canFrameReceive 0 (.frame ⟨0, false, false, false, false, false, 16, [], 0⟩),
    .canFrameReceive 0 (.frame ⟨0, false, false, false, false, false, 0, List.replicate 65 0, 0⟩),
    .canFrameReceive 0 (.error 0 0), .canFrameReceive 0 (.error 6 0), .canFrameReceive 0 (.error 1 256),
    .txReq 64 0 0, .txReq 0 2 0, .txReq 0 0 128, .canTxAttemptEnd 2 .arbitrationLost,
    .canTxAttemptEnd 0 (.success 0 (some 65536)), .canTxAttemptEnd 0 (.error 0 0 0 none),
    .canTxAttemptEnd 0 (.error 6 0 0 none), .canTxAttemptEnd 0 (.error 1 512 0 none),
    .canTxAttemptEnd 0 (.error 1 0 256 none), .canTxAttemptEnd 0 (.error 1 0 0 (some 65536)), .canSendDeadline 2,
    .busOffHoldEnd 2, .recover 64 0, .recover 0 2, .canRecoveryDone 2, .canEnableWrite 64 0 0,
    .canEnableWrite 0 2 0, .canObjectEnableWrite 64 0 0 0, .canObjectEnableWrite 0 2 0 0,
    .canObjectEnableWrite 0 0 128 0, .objStatRead 64 0 0, .objStatRead 0 2 0, .objStatRead 0 0 128,
    .referenceSend 2, .referenceLost 2, .culmOutboundAccept ⟨64, false, 0xC0000000, 4, []⟩,
    .culmOutboundAccept ⟨0, false, 0xBFFFFFFC, 4, []⟩, .culmOutboundAccept ⟨0, false, 0xE0000000, 4, []⟩,
    .culmOutboundAccept ⟨0, false, 0xC0000000, 3, []⟩, .culmOutboundAccept ⟨0, false, 0xC0000002, 4, []⟩,
    .culmOutboundAccept ⟨0, true, 0xC0000000, 4, []⟩, .culmOutboundEnd ⟨.parity, [0]⟩,
    .culmOutboundEnd ⟨.parity, [8]⟩, .culmInboundAddressPhase ⟨0, true, 0, 15, 1, [], true, [0]⟩]
    : List Instr).all (fun i => i.wf == false) = true := by decide +kernel

theorem smoke_wf_refuses_6 : ([
    .culmInboundAddressPhase ⟨8, true, 0, 15, 1, [], true, [8]⟩,
    .culmInboundAddressPhase ⟨1, true, 0x100000000, 15, 1, [], true, [1]⟩,
    .culmInboundAddressPhase ⟨1, true, 0, 16, 1, [], true, [1]⟩,
    .culmInboundAddressPhase ⟨1, true, 0, 15, 0, [], true, [1]⟩,
    .culmInboundAddressPhase ⟨1, true, 0, 15, 17, [], true, [1]⟩,
    .culmInboundAddressPhase ⟨1, true, 0, 15, 1, [], true, [2]⟩, .delayedReadData 4, .delayedReadDiscard 4,
    .prefetchExpiry 4, .culmWindowEnableWrite 64 false 0 0, .culmWindowEnableWrite 0 false 16 0,
    .culmWindowEnableWrite 0 true 4 0, .sessionIdleTimeout 4, .attest ⟨4, 0⟩ [], .attest ⟨0, 0x100000000⟩ [],
    .challenge ⟨4, 0⟩, .token ⟨4, 0⟩ [], .readReg ⟨4, 0⟩ 0 0, .readReg ⟨0, 0⟩ 68719476736 0,
    .readReg ⟨0, 0⟩ 0 4294967296, .writeReg ⟨4, 0⟩ 0 0, .writeReg ⟨0, 0⟩ 68719476736 0, .readMem ⟨4, 0⟩ 0 0,
    .readMem ⟨0, 0⟩ 68719476736 0, .readMem ⟨0, 0⟩ 0 4294967296, .clearRecords ⟨4, 0⟩, .imageBegin ⟨4, 0⟩ 0,
    .imageBegin ⟨0, 0⟩ 4294967296, .imageData ⟨4, 0⟩ 0 [], .imageData ⟨0, 0⟩ 4294967296 [], .imageEnd ⟨4, 0⟩,
    .confirm ⟨4, 0⟩, .secImageConfirm 64 0, .activate ⟨4, 0⟩, .imageKeyInstall ⟨4, 0⟩ 0 [],
    .imageKeyInstall ⟨0, 0⟩ 256 [], .anchorInstall ⟨4, 0⟩ 0 [], .anchorInstall ⟨0, 0⟩ 256 [],
    .keySlotProgram ⟨4, 0⟩ 0 [], .keySlotProgram ⟨0, 0⟩ 256 [], .slotRevoke ⟨4, 0⟩ 0, .slotRevoke ⟨0, 0⟩ 256,
    .anchorA0Disable ⟨4, 0⟩, .debugOpen ⟨4, 0⟩, .rngRead 64, .shutdownGo 64 0, .shutdownRestart 64,
    .shutdownReady 64, .threshRun ⟨[(960, 0)], [], [], [], 0⟩, .eventRaise 65536 0 0 0, .eventRaise 0 65536 0 0,
    .rateIntervalEnd 65536 0, .sessionClosed 4, .openLoadCleared 16, .canBusIntegrated 2]
    : List Instr).all (fun i => i.wf == false) = true := by decide +kernel

theorem smoke_wf_refuses_long : (.dataMsg 0 0 0 0 0 (List.replicate 65536 0) : Instr).wf = false := by
  simp only [Instr.wf, List.length_replicate]
  decide

/-! ## Single commands against the worked examples of the spec -/

/-- The nine characters "123456789". -/
def nine : List Byte := [0x31, 0x32, 0x33, 0x34, 0x35, 0x36, 0x37, 0x38, 0x39]

/-- R47 and R288 give the checks over the nine characters. -/
theorem test_crc_of_nine_digits : crc32 nine = 0xCBF43926 ∧ crcGlume nine = 0x1697D06A := by decide +kernel

/-- Chapter 21 places the LO register of LIFE_CAN1_BUS_OFF at 0x8000 + 0x5408 of Granary's window. -/
theorem test_life_counter_of_can1 : lifeOffCan1 0x3A01 = 0x248000 + 0x5408 := by decide +kernel

/-- The door-release rung of chapter 04. -/
def rung : AwnProg :=
  ⟨[0x0400000B, 0x60000005, 0x04000003, 0x08000004, 0x40000000, 0x40000000, 0x0400000A, 0x09400007, 0x40000000, 0x0400000B,
    0x0A000005, 0x50000000, 0x4C000000, 0x1480000C, 0x44000000, 0x08000014, 0x1480000D, 0xFC000000],
   [0, 0, 2000], List.replicate 6 ⟨5, 1, 1, 2, 0⟩, [], [], [], 0, 0⟩
/-- A scan of it at a SCAN_TIME in ns: I3, I4, I11 and I20 as given, timer 5 as given. -/
def scanRung (time : Nat) (i11 : Bool) (t : AwnTimer) : AwnLane :=
  laneRun 40 { prog := rung, first := false, degraded := false, scan := 1 } (laneStart rung.steps { ({} : AwnData) with
    i := [(0, 0x18), (1, if i11 then 8 else 0), (2, 0x10)], k := [(2, 2000)], timers := FMap.store [] {} 5 t
    scanTime := BitVec.ofNat 64 time })

/-- The rung's table: 18 steps to END, Q12 and Q13 with the timer done, Q13 alone before. -/
theorem test_awn_rung :
    ((scanRung 2010000000 true { run := true, start := 10000000, inp := true }).steps,
      (scanRung 2010000000 true { run := true, start := 10000000, inp := true }).cause,
      FMap.look (scanRung 2010000000 true { run := true, start := 10000000, inp := true }).d.q 0 1) = (18, some 1, 0x30) ∧
    FMap.look (scanRung 2008000000 true { run := true, start := 10000000, inp := true }).d.q 0 1 = 0x20 := by decide +kernel

/-- The table of timer 5: it starts at 10.000 ms, has not switched at 2,008 ms, has at 2,010 ms, and falls with its input. -/
theorem test_awn_on_delay_timer :
    FMap.look (scanRung 10000000 true {}).d.timers {} 5 = { run := true, start := 10000000, inp := true } ∧
    (FMap.look (scanRung 2008000000 true { run := true, start := 10000000, inp := true }).d.timers {} 5).q = false ∧
    (FMap.look (scanRung 2010000000 true { run := true, start := 10000000, inp := true }).d.timers {} 5).q = true ∧
    (FMap.look (scanRung 2012000000 false { q := true, start := 10000000, inp := true }).d.timers {} 5).q = false := by
  decide +kernel

/-- R165's example: two released jobs of triad 1, 300 and 350 µs of work, 800 and 1,190 µs left: G is 7 of a demand of 8. -/
theorem test_gate_of_the_example :
    (let s := withTriads 1
     let job := fun (d : Nat) => some
       ({ release := s.clk.now, deadline := some (s.clk.now + d), started := false, ran := 0, missed := false,
          overrun := false } : Job)
     let u : State := { s with
       img := { s.img with tasks := [⟨0, 4, 0, 0, 1, 0, 10, 800, 300⟩, ⟨1, 4, 0, 0, 1, 0, 10, 1190, 350⟩] }
       sch := { s.sch with demand := 8 } }
     (schTri (regate 1 (modTask 1 (fun x => { x with job := job 1190000 }) (modTask 0 (fun x => { x with job := job 800000 }) u)))
       1).gate) = 7 := by decide +kernel

/-- The count column of the door contact of chapter 14, THRESH 4 (class HIGH is 1, LOW 0). -/
theorem test_input_filter_count :
    ([0, 1, 0, 1, 1, 0, 1, 1, 1, 1, 0, 0, 1, 1].foldl
      (fun (a : List Nat) c => a ++ [countStep c 4 (a.getLast?.getD 0)]) []) =
      [0, 1, 0, 1, 2, 1, 2, 3, 4, 4, 3, 2, 3, 4] := by decide +kernel

/-- The word 0x12345678 at A to A + 3 of a card, read through a VALUE and through an ADDRESS window. -/
theorem test_culm_lanes :
    leNat (culmLanes false [0x12, 0x34, 0x56, 0x78]) = 0x78563412 ∧ leNat (culmLanes true [0x12, 0x34, 0x56, 0x78]) = 0x12345678 ∧
    leNat (culmLanes false [0x56, 0x78]) = 0x7856 ∧ leNat (culmLanes true [0x56, 0x78]) = 0x5678 ∧
    leNat (culmLanes true [0x34]) = 0x34 := by decide +kernel


/-! ## BOOT, SELFTEST and hand-over -/

/-- A module in BOOT. -/
def inBoot : State := inMode inRun .boot

theorem witness_BootPreparations_selftest : inBoot.mod.mode = .boot ∧ inBoot.sup.quenchSince = none ∧
    inBoot.sec.ready = false ∧ inBoot.sec.failed = false ∧ (∀ r, r < 4 → (inBoot.area.record r).spoilt = false) ∧
    (({ inBoot with area := { key1 := ⟨some ⟨1, [], false⟩, none⟩ } } : State).area.record 3).spoilt = true ∧
    inBoot.mod.dramDone = false := by decide +kernel

theorem witness_BootPreparations_lock : bitOf 1 0 = true ∧ inBoot.sec.lock = false ∧ 0 = inBoot.mod.bootCore ∧
    0x3F < 64 ∧ 0x3F ≠ inBoot.mod.bootCore ∧ 0x3F ≠ 0x2B := by decide +kernel

/-- BOOT with both verdict slots damaged. -/
def noVerdict : State := { inBoot with sec := { ready := true }, mem := { mramBad := [0x200, 0xA00] } }

theorem witness_BootPreparations_no_verdict : noVerdict.sec.ready = true ∧ noVerdict.thr.applied = false ∧
    slotBest (verdictSeq noVerdict 0) (verdictSeq noVerdict 1) = none := by
  have h : ∀ i, touchesBad noVerdict.mem.mramBad (verdictOff i) 0x4000 = true → verdictSeq noVerdict i = none := by
    intro i hb
    simp only [verdictSeq, hb]
    simp
  exact ⟨rfl, rfl, by rw [h 0 (by decide), h 1 (by decide)]; rfl⟩

/-- A verdict of no findings with sequence 7, before its CRC. -/
@[irreducible] def verdictData : List Byte := zeros 0x3FF8 ++ le 4 7
/-- BOOT with that verdict in slot 0, slot 1 damaged. -/
def oneVerdict : State :=
  { inBoot with
    sec := { ready := true },
    mem := { mram := FMap.storeList [] 0 0x1000 (verdictData ++ le 4 (crc32 verdictData)), mramBad := [0xA00] } }

theorem witness_BootPreparations_verdict : oneVerdict.sec.ready = true ∧ oneVerdict.thr.applied = false ∧
    slotBest (verdictSeq oneVerdict 0) (verdictSeq oneVerdict 1) = some 0 := by
  have hl : verdictData.length = 0x3FFC := by unfold verdictData; simp [length_le]
  have hm : oneVerdict.mem.mramGet (verdictOff 0) 0x4000 = verdictData ++ le 4 (crc32 verdictData) := by
    have h := FMap.lookList_storeList (verdictData ++ le 4 (crc32 verdictData)) [] 0 0x1000
    rw [List.length_append, hl, length_le] at h
    exact h
  have h0 := verdictSeq_written oneVerdict 0 verdictData hl hm (by decide)
  have h1 : verdictSeq oneVerdict 1 = none := by
    have hb : touchesBad oneVerdict.mem.mramBad (verdictOff 1) 0x4000 = true := by decide +kernel
    simp only [verdictSeq, hb]
    simp
  rw [h0, h1]
  exact ⟨rfl, rfl, rfl⟩

theorem witness_BootPreparations_start :
    ({ inBoot with img := { loaded := true } } : State).img.loaded = true ∧ inBoot.grn.ready = false ∧
    inBoot.sec.recovery = false ∧ bestSlot inBoot 0x200 = none ∧
    bestSlot (writeSlot 0x200 (le 8 41) inBoot) 0x200 ≠ none := by decide +kernel

/-- BOOT, ready to choose: both copies GOOD or on trial, sequence 5 in A and 6 in B. -/
def twoCopies : State :=
  norPut false statusOff (le 4 5) (norPut true statusOff (le 4 6) (setMark false 0x10 (setMark true 0x10 (setMark true 0x18
    { inBoot with sec := { ready := true }, thr := { applied := true } }))))

theorem witness_CopyChosenAndChecked_select : twoCopies.mod.candidates = none ∧ twoCopies.sec.recovery = false ∧
    copyState twoCopies false ≠ .failedTrial ∧ copyState twoCopies true ≠ .failedTrial ∧ candidatesOf twoCopies ≠ [] ∧
    candidatesOf inBoot = [] ∧ copyState inBoot false ≠ .failedTrial ∧ copyState inBoot true ≠ .failedTrial ∧
    copyState (setMark false 0x14 twoCopies) false = .failedTrial := by decide +kernel

theorem witness_CopyChosenAndChecked_check :
    ({ twoCopies with mod := { twoCopies.mod with candidates := some [true] } } : State).mod.candidates = some (true :: []) ∧
    twoCopies.mod.chosen = none ∧ twoCopies.sec.recovery = false := by decide +kernel

/-- Copy B chosen, asking for a counter of 9. -/
def asksNine : State := norPut true 0x18 (le 2 9) { twoCopies with mod := { twoCopies.mod with chosen := some true } }

theorem witness_CopyChosenAndChecked_counter : asksNine.mod.chosen = some true ∧ copyState asksNine true = .good ∧
    asksNine.fuse.rollback < counterOf asksNine true := by decide +kernel

/-- Copy A chosen for the load. -/
def toLoad : State :=
  { twoCopies with mod := { twoCopies.mod with chosen := some false, dramDone := true } }

theorem witness_LoadAndLock : toLoad.mod.mode = .boot ∧ toLoad.mod.chosen = some false ∧ toLoad.mod.dramDone = true ∧
    toLoad.img.loaded = false ∧ toLoad.sec.lock = false ∧ raisePending toLoad false = false ∧
    toLoad.sup.quenchSince = none := by decide +kernel

/-- A module in SELFTEST whose comparator test runs. -/
def inSelftest : State :=
  inMode { withTriads 0 with trd := { sixTriads 0 with cmpRunning := true } } .selftest

theorem witness_SelfTestsAndHandOver_compare : inSelftest.mod.mode = .selftest ∧ inSelftest.sup.quenchSince = none ∧
    bitOf 1 0 = true ∧ inSelftest.trd.cmpRunning = true ∧ (inSelftest.tri 5).empty = [false, false, false] ∧
    inSelftest.trd.cores.length = 20 ∧ inSelftest.trd.triads.length = 6 ∧ (inSelftest.tri 5).cores.length = 3 ∧
    (inSelftest.tri 5).coreAt 2 < 20 ∧ freeReserve inSelftest = some 0 ∧ resCore inSelftest 0 < 20 ∧
    resCore inSelftest 0 ≠ (inSelftest.tri 5).coreAt 2 := by decide +kernel

/-- SELFTEST with the records open. -/
def forBist : State := { inSelftest with grn := { ready := true } }

theorem witness_SelfTestsAndHandOver_bist :
    (⟨[(959, 511)], [], [28], [], 5⟩ : ThreshObs).wf = true ∧ forBist.grn.ready = true ∧ forBist.thr.quick = false ∧
    forBist.mod.bistDone = false ∧
    thrNews forBist.thr (thrJoin (threshFind forBist ⟨[], [], [], [], 5⟩) ⟨[], [], [], [], 5⟩ true forBist).thr = false ∧
    thrNews forBist.thr (thrJoin (threshFind forBist ⟨[(3, 4)], [], [], [], 5⟩) ⟨[(3, 4)], [], [], [], 5⟩ true forBist).thr =
      true := by decide +kernel

/-- SELFTEST at its end, with a stored verdict that needs no BIST. -/
def toHandOver : State :=
  norPut false statusOff (le 4 5) (setMark false 0x10 { forBist with
    sec := { lock := true }, thr := { quick := true },
    trd := { forBist.trd with
      cmpRunning := false, cmpDone := true, triads := modAt forBist.trd.triads 5 (fun x => { x with split := true }) },
    mod := { forBist.mod with chosen := some false } })

theorem witness_SelfTestsAndHandOver_handOver : toHandOver.mod.mode = .selftest ∧ toHandOver.sec.lock = true ∧
    toHandOver.grn.ready = true ∧ toHandOver.thr.quick = true ∧ toHandOver.trd.cmpDone = true ∧
    toHandOver.sup.quenchSince = none ∧ toHandOver.trd.triads.length = 6 ∧ toHandOver.trd.cores.length = 20 ∧
    holdFinding toHandOver = none ∧ toHandOver.mod.toSafe = false ∧ emptyAt toHandOver false = [] ∧
    copyState toHandOver false = .trial ∧ (toHandOver.tri 5).split = true ∧ (toHandOver.tri 0).split = false ∧
    (toHandOver.tri 0).empty = [false, false, false] ∧ (toHandOver.tri 0).coreAt 2 < 20 ∧ isolated toHandOver 20 = false ∧
    holdFinding { toHandOver with thr := { toHandOver.thr with l2 := [2] } } ≠ none ∧
    ({ toHandOver with mod := { toHandOver.mod with toSafe := true } } : State).mod.toSafe = true := by decide +kernel

/-! ## Rachis and the register map -/

theorem witness_RegisterWritesTakeEffect_errors :
    0x3F < 64 ∧ inRun.mod.mode.released = true ∧ TriadsAtRest inRun := by decide +kernel

theorem witness_RegisterWritesTakeEffect_locked :
    0x2B < 64 ∧ 63 < 64 ∧ 15 < 16 ∧ 2 < 3 ∧ inBoot.mod.mode.released = true ∧ TriadsAtRest inBoot ∧
    inBoot.sec.lock = false ∧ 0 = inBoot.mod.bootCore ∧ 3 ≠ inBoot.mod.bootCore ∧ 3 ≠ 0x2B ∧
    ({ inBoot with sec := { lock := true } } : State).sec.lock = true := by decide +kernel

/-- Awn disabled and idle, its active field still set; no Culm work. -/
def draining : State := { inRun with awn := { active := true, state := 1 } }

theorem witness_RegisterWritesTakeEffect_drain : draining.awn.en = false ∧ draining.awn.active = true ∧
    draining.awn.state = 1 ∧ (draining.hubPort 7).en = false ∧ 7 < draining.hub.ports.length ∧
    (connAt draining 511).en = false ∧ connHolds draining 511 = false ∧ oDrained draining 15 = true ∧ iDrained draining 3 = true := by decide +kernel

/-- RUN with region 0 of initiator 0x18 open over everything. -/
def grants : State := lkPut 4 0x2808 0xF (lkPut 4 0x2804 0xFFFFFF inRun)
/-- A doubleword read by initiator 0x18 from the start of DRAM. -/
def readEight : Txn := ⟨0x18, .read, 0x100000000, 8, [], {}, .clean, true⟩
/-- The same as a write of zeros. -/
def writeEight : Txn := { readEight with kind := .write, data := zeros 8 }
/-- The write with two data bits changed on the way. -/
def twoBits : Txn := { writeEight with wire := { flips := [(0, 0), (0, 63)] } }

theorem witness_RachisTransactionsEnd_refused : readEight.wf = true ∧ writeEight.wf = true ∧
    grants.mod.mode.released = true ∧ TriadsAtRest grants ∧ grants.sup.quenchSince = none ∧
    fencedOut ({ grants with thr := { isolated := [20] } } : State) 0x18 = true ∧ fencedOut grants 0x18 = false ∧
    isolated ({ grants with thr := { isolated := [27] } } : State) (26 + 1) = true ∧
    firewallOk inRun 0x18 .read 0x100000000 8 = false ∧
    firewallOk grants 0x18 .read 0x100000000 7 = true ∧ sizeOk 0x100000000 7 = false ∧
    [0x20000, 0x1FFFFF8, 0x2010000, 0x3FFFFF8, 0x5000000, 0xFFFFFF8, 0x30000000, 0xBFFFFFF8, 0xE0000000, 0xEFFFFFF8,
      0xF0130000, 0xFFFFFFF8, 0x200000000].all
      (fun a => firewallOk grants 0x18 .read a 8 && sizeOk a 8 && placeOf a == .unmapped) = true ∧
    firewallOk grants 0x18 .write 0x1FFF8 8 = true ∧ sizeOk 0x1FFF8 8 = true ∧
    firewallOk grants 0x18 .write 0x2FFFFFF8 8 = true ∧ sizeOk 0x2FFFFFF8 8 = true ∧
    firewallOk grants 0x18 .read 0xF012FFF8 8 = true ∧ sizeOk 0xF012FFF8 8 = true := by decide +kernel

theorem witness_RachisTransactionsEnd_memory : firewallOk grants 0x18 .write 0x100000000 8 = true ∧
    sizeOk 0x100000000 8 = true ∧ placeOf 0x100000000 = .dram 0 ∧ placeOf 0x1FFFFFFF8 = .dram 0xFFFFFFF8 ∧
    touchesBad grants.mem.dramBad 0 8 = false ∧ writeEight.answers = true ∧ writeEight.wire = {} ∧ writeEight.cell = .clean ∧
    waitsBehind writeEight grants = false ∧ fencedOut grants 0x18 = false ∧
    firewallOk grants 0x18 .read 0x4400008 8 = true ∧ placeOf 0x4400008 = .mram 0x400008 ∧
    touchesBad grants.mem.mramBad 0x400008 8 = false ∧
    ({ readEight with wire := { flips := [(0, 71)] } } : Txn).wf = true ∧
    ({ readEight with wire := { flips := [(0, 0), (0, 71)] } } : Txn).wf = true ∧
    ({ readEight with wire := { diff := 2 ^ 3 ||| 2 ^ 31 } } : Txn).wf = true ∧
    touchesBad grants.mem.dramBad (0 ^^^ (2 ^ 3 ||| 2 ^ 31)) 8 = false ∧
    twoBits.wf = true ∧ waitsBehind twoBits grants = false ∧
    waitsBehind readEight ({ grants with rch := { flight := [⟨writeEight, 0⟩] } } : State) = true ∧
    ({ readEight with answers := false } : Txn).wf = true ∧ placeOf 0x100000000 ≠ .unmapped ∧
    rachisRefusal grants 0x18 .read 0x100000000 8 = none := by decide +kernel

theorem witness_RachisTransactionsEnd_damaged : twoBits.chk = .uncorrectable := by
  have h : beatFound [0, 63] 0 = .uncorrectable :=
    Laws.beatFound_two (by decide) (by decide) (by decide)
  simp [Txn.chk, Txn.beats, Wire.of, Wire.offBy, twoBits, writeEight, readEight, h]

/-- A read that has waited at DRAM for 4 µs. -/
def waiting : Flight := ⟨readEight, 1000000000 - 4000⟩
/-- A read of the Culm aperture that has waited for 100 µs. -/
def waitingCulm : Flight := ⟨{ readEight with addr := 0xC0000000 }, 1000000000 - 100000⟩

theorem witness_RungsMonitorsAndScrubbers_rungs : inRun.mod.mode.released = true ∧ inRun.sup.quenchSince = none ∧
    Target.dram.wf = true ∧ Target.dram ≠ .culm ∧
    ([waiting].filter (fun g => decide (targetOf g.txn.addr = some .dram))) = [waiting] ∧
    waiting.since + 4000 ≤ inRun.clk.now ∧ toCulm waitingCulm.txn.addr = true ∧ inRun.culm.out = [] ∧
    waitingCulm.since + 100000 ≤ inRun.clk.now ∧ inRun.mod.mode = .run := by decide +kernel

/-- RUN with a shadow in the pair engine, which has made no progress for 140 µs. -/
def stuckPair : State := { inRun with pair := { fill := [(0, 0, [1])] }, eng := modAt inRun.eng 3 (fun _ => 1000000000 - 140000) }

theorem witness_RungsMonitorsAndScrubbers_engine : stuckPair.mod.mode.released = true ∧ stuckPair.sup.quenchSince = none ∧
    3 < 6 ∧ stuckPair.eng[3]? = some 999860000 ∧ engineHolds 3 stuckPair = true ∧ 999860000 + 140000 ≤ stuckPair.clk.now ∧
    ({ stuckPair with eng := modAt inRun.eng 3 (fun _ => 1000000000 - 139999) } : State).eng[3]? = some 999860001 ∧
    stuckPair.clk.now < 999860001 + 140000 ∧ bitOf stuckPair.rch.err.info 0 = false := by decide +kernel

/-- The scrubbers at their last lines, DRAM cleared. -/
def lastLines : State :=
  { inRun with mod := { mode := .run, dramDone := true }, rch := { dramScrub := 0x3FFFFFF, mramScrub := 0x3FFFF } }

theorem witness_RungsMonitorsAndScrubbers_scrub : lastLines.mod.dramDone = true ∧
    touchesBad lastLines.mem.dramBad (64 * lastLines.rch.dramScrub) 64 = false ∧
    touchesBad lastLines.mem.mramBad (64 * lastLines.rch.mramScrub) 64 = false := by decide +kernel

/-! ## Supply, resets and the always-on domain -/

/-- RUN at a bus of 60 V and an input of 24 V, no triad voting. -/
def powered : State := { inRun with sup := { vbus := 6000, vin := 2400, cap := 1100, un := 0, coded := true } }

theorem witness_DisconnectionsAndBrace_samples : powered.mod.mode.released = true ∧ powered.sup.quenchSince = none ∧
    powered.sup.disc = false ∧ VotersIdle powered ∧ 1399 < 1400 ∧ 17000 < 17001 ∧ 1400 ≤ 1679 ∧ 15401 ≤ 17000 ∧
    3650 ≤ powered.sup.vbus ∧ powered.mod.mode = .run ∧ 2840 ≤ 3549 := by decide +kernel

theorem witness_DisconnectionsAndBrace_timers :
    ({ powered with sup := { powered.sup with fluctSince := some 900000000 } } : State).sup.fluctSince = some 900000000 ∧
    900000000 + 100000000 ≤ powered.clk.now ∧
    ({ powered with sup := { powered.sup with surgeSince := some 0 } } : State).sup.surgeSince = some 0 ∧
    0 + 1000000000 ≤ powered.clk.now ∧
    ({ powered with sup := { powered.sup with disc := true, reconnSince := some 999800000 } } : State).sup.disc = true ∧
    999800000 + 200000 ≤ powered.clk.now ∧ 991000000 + 9000000 ≤ powered.clk.now := by decide +kernel

/-- BRACE whose dwell has passed. -/
def dwelt : State :=
  { inMode powered .brace with
    sup := { powered.sup with brace := true, braceSince := some 400000000, dwellSince := some 550000000 },
    sch := { powered.sch with brace := true } }

theorem witness_DisconnectionsAndBrace_dwell : dwelt.mod.mode = .brace ∧ dwelt.sup.brace = true ∧
    dwelt.sup.braceSince = some 400000000 ∧ dwelt.sup.dwellSince = some 550000000 ∧
    550000000 + 450000000 ≤ dwelt.clk.now ∧ dwelt.sup.quenchSince = none ∧ VotersIdle dwelt := by decide +kernel

theorem witness_SupplyResets : powered.mod.mode.released = true ∧ VotersIdle powered ∧ 2840 ≤ powered.sup.vbus ∧
    2250 ≤ 2759 ∧ 2149 < 2150 ∧
    ({ powered with sup := { powered.sup with quenchSince := some 10 } } : State).sup.quenchSince = some 10 ∧
    10 + 900000 ≤ powered.clk.now ∧
    ({ powered with sup := { powered.sup with railSince := [(3, 20), (6, 10)] } } : State).sup.railSince.contains (6, 10) ∧
    10 + 9900000 ≤ powered.clk.now ∧ (inMode inRun .powerOff).mod.mode = .powerOff ∧ 7 < 8 := by decide +kernel

/-- SUPERVISED with the store charged. -/
def charged : State := { inMode powered .supervised with sup := powered.sup }

theorem witness_StoreMeasuredAndDieReleased : charged.mod.mode = .supervised ∧ 0 < 44000 ∧
    min 65535 (500000 * 20000 / 20000000) < 800 ∧ 800 ≤ min 65535 (500000 * 44000 / 20000000) ∧
    charged.sup.disc = false ∧ 5400 ≤ charged.sup.vbus ∧ 300 ≤ charged.sup.cap ∧ charged.sup.railBad = [] ∧ charged.sup.coded = true ∧
    charged.mod.hold = none ∧ charged.sup.quenchSince = none ∧
    (let h : State := { charged with mod := { charged.mod with hold := some false } }
     h.mod.hold = some false ∧ h.mod.pinReq = false) ∧
    (let l : State := { powered with mod := { powered.mod with lamp := true, releasedAt := 500000000 } }
     l.mod.lamp = true ∧ l.mod.releasedAt + 500000000 ≤ l.clk.now) := by decide +kernel

theorem witness_AlwaysOnDomain : powered.sup.quenchSince = none ∧ powered.mod.mode ≠ .powerOff ∧ 2449 < 2450 ∧
    2550 ≤ 4095 ∧ 0x3F ≠ 0x2B ∧
    ({ powered with aon := { snapSince := some 5 } } : State).aon.snapSince = some 5 ∧ 5 + 30518 ≤ powered.clk.now ∧
    (let e : State := {
       powered with
       clk := { powered.clk with now := 20000000000 },
       sup := { powered.sup with episodes := [(0x2C06, 10000000000)] } }
     e.sup.episodes = [(0x2C06, 10000000000)] ∧ 10000000000 + 10000000000 ≤ e.clk.now ∧
       e.clk.now < 10000000001 + 10000000000) := by decide +kernel
/-! ## Triads -/

/-- A committed instruction that writes x5. -/
def writesX5 : Commit := ⟨0x100000000, 0x100000004, none, none, some (5, 77), none, [], none, none, false⟩
/-- A store of eight bytes to DRAM. -/
def toDram : StoreRec := ⟨0x100002000, 3, 0xFF, 0x1122334455667788⟩
/-- A store to TRD_TRIAD_CTRL[0]. -/
def toControl : StoreRec := ⟨0xF000011C, 2, 0xF, 2⟩
/-- Core 17 with an open window of k stores, number 1. -/
def openWindow (k : Nat) : State :=
  modLane 5 2 (fun l => { l with wins := [⟨1, sigInit, List.replicate k toDram, 0⟩], nextNum := 2 }) (withTriads 1)

theorem witness_CoreCommitsInstruction : ({ writesX5 with store := some toControl } : Commit).wf = true ∧ 17 < 20 ∧
    17 < (withTriads 1).trd.cores.length ∧ ((withTriads 1).core 17).role ≠ 1 ∧ mayCommit (withTriads 1) 17 = true ∧
    (((withTriads 1).tri 5).lane 2).stalls ((withTriads 1).tri 5).relNum = false ∧
    ((withTriads 1).tri 5).closeAt = [] ∧ ((withTriads 1).core 17).triad = 5 ∧
    5 < (withTriads 1).trd.triads.length ∧ ((withTriads 1).core 17).pos < ((withTriads 1).tri 5).lanes.length ∧
    (((withTriads 1).tri 5).lane 2).open' = false ∧ toCtrl writesX5 = false ∧
    ((withTriads 1).core 17).intr = [] ∧ limitTrap ((withTriads 1).core 17) writesX5 = none ∧ writesX5.csrRead = none ∧
    limitTrap ((withTriads 1).core 17) { writesX5 with store := some { toDram with addr := 0x100002001 } } =
      some (6, 0x100002001) ∧ ((withTriads 1).core 17).priv = 3 ∧
    ((withTriads 1).tri 5).stampWin ≤ (((withTriads 1).tri 5).lane 2).nextNum ∧
    mayCommit (withTriads 1) 18 = false ∧ ((withTriads 1).core 18).role ≠ 1 ∧
    splitRuns (withTriads 4) 4 = true ∧ (committed (withTriads 4) 4 writesX5).store = none ∧
    (committed (withTriads 4) 4 { writesX5 with store := some toDram }).store = some toDram := by decide +kernel

theorem witness_CoreCommitsInstruction_window : mayCommit (openWindow 255) 17 = true ∧
    ((openWindow 255).tri 5).closeAt = [] ∧ (((openWindow 255).tri 5).lane 2).stalls ((openWindow 255).tri 5).relNum = false ∧
    (((openWindow 255).tri 5).lane 2).wins.map (fun w => (w.num, w.stores.length, w.cause)) = [(1, 255, 0)] ∧ 1 = (((openWindow 255).tri 5).lane 2).nextNum - 1 ∧
    ((openWindow 255).tri 5).relNum ≤ 1 ∧
    mayCommit (openWindow 254) 17 = true ∧ ((openWindow 254).tri 5).closeAt = [] ∧
    (List.replicate 254 toDram).length + 1 < 256 ∧
    toCtrl (committed (openWindow 254) 17 { writesX5 with store := some toControl }) = true ∧
    toCtrl (committed (openWindow 254) 17 { writesX5 with store := some toDram }) = false ∧
    (committed (openWindow 255) 17 { writesX5 with store := some toDram }).store = some toDram := by decide +kernel

/-- All three cores of triad 0 wait for the doubleword at DRAM offset 8, their windows released. -/
def allAsk : State :=
  let l : Lane := { req := some (0x100000008, 8), nextNum := 1 }
  let s := withTriads 1
  lkPut 4 0x1000 0x100000 (lkPut 4 0x1004 0x1FFFFF (lkPut 4 0x1008 0xF { s with
    trd := { s.trd with triads := modAt s.trd.triads 0 (fun x => { x with lanes := [l, l, l], relNum := 1, voteNum := 1 }) },
    mem := { dram := [(8, 7)] } }))

theorem witness_SingleIssueReadsAgree_request : mayCommit (openWindow 3) 17 = true ∧ 17 < 20 ∧ 0xF0020000 < 2 ^ 36 ∧
    (4 ∈ [1, 2, 4, 8]) ∧ privateTo (openWindow 3) ((openWindow 3).core 17).triad 0xF0020000 = false ∧
    ((openWindow 3).tri 5).held = [] ∧ ((openWindow 3).core 17).triad < (openWindow 3).trd.triads.length ∧
    ((openWindow 3).core 17).pos < ((openWindow 3).tri 5).lanes.length ∧ ((openWindow 3).core 17).role ≠ 1 ∧
    0xF0020000 % 4 = 0 ∧ pmpDenies ((openWindow 3).core 17) 0 0xF0020000 4 = false := by decide +kernel

/-- Triad 5 with a store of core 17 not yet released and a page of its own, which the voter's region grants. -/
def ownPage : State :=
  lkPut 4 (0x1000 + 0x100 * 17) 0x100000 (lkPut 4 (0x1004 + 0x100 * 17) 0x1FFFFF (lkPut 4 (0x1008 + 0x100 * 17) 0xF
    { openWindow 1 with img := { (openWindow 1).img with parts := [⟨9, false, false, false, 0, 0x100002, 1⟩] } }))

theorem witness_SingleIssueReadsAgree_private : mayGo ownPage 17 = true ∧ 0x100002004 % 4 = 0 ∧ 0x100002005 % 4 ≠ 0 ∧
    pmpDenies (ownPage.core 17) 0 0x100002004 4 = false ∧ privateTo ownPage (ownPage.core 17).triad 0x100002004 = true ∧
    placeOf 0x100002004 = .dram 0x2004 ∧ rachisRefusal ownPage 17 .read 0x100002004 4 = none ∧
    touchesBad ownPage.mem.dramBad 0x2004 4 = false ∧ mayGo (withTriads 1) 18 = false := by decide +kernel

theorem witness_SingleIssueReadsAgree_read : (allAsk.tri 0).voting = true ∧ (allAsk.tri 0).held = [] ∧
    0 < allAsk.trd.triads.length ∧ storesAnswered allAsk 0 = true ∧
    readReady (allAsk.tri 0) = some (0, 0, 0x100000008, 8) ∧ (allAsk.tri 0).livePos = [0, 1, 2] ∧
    (∀ q ∈ (allAsk.tri 0).livePos, ((allAsk.tri 0).lane q).req = some (0x100000008, 8) ∧ ((allAsk.tri 0).lane q).nextNum - 1 = 0) ∧
    (allAsk.tri 0).lanes.length = 3 ∧ placeOf 0x100000008 = .dram 8 ∧
    rachisRefusal allAsk ((allAsk.tri 0).coreAt 0) .read 0x100000008 8 = none ∧
    touchesBad allAsk.mem.dramBad 8 8 = false := by decide +kernel

theorem witness_SingleIssueReadsAgree_alone : 17 < 20 ∧
    (CoreAct.commit { writesX5 with store := some toDram }).wf = true ∧
    ((openWindow 255).core 17).role ≠ 1 ∧
    (∀ k, k < 6 → k ≠ 5 → settled (openWindow 255) k = true) ∧ privateTo (openWindow 255) 5 0xF0020000 = false ∧
    (CoreAct.request 0xF0020000 4).wf = true ∧ (CoreAct.request 0x100002004 4).wf = true ∧
    privateTo ownPage 5 0x100002004 = true ∧ (∀ k, k < 6 → k ≠ 5 → settled ownPage k = true) ∧
    ((openWindow 255).tri 5).closeAt = [] ∧ ((openWindow 255).tri 5).irqs = [] ∧ ((openWindow 255).tri 5).held = [] ∧
    (((openWindow 255).tri 5).lane 0).wins = [] ∧ (((openWindow 255).tri 5).lane 1).wins = [] ∧
    2 ≤ ((openWindow 255).tri 5).livePos.length := by decide +kernel

/-- Triad 5 with its window opened 10 µs ago, core 17 furthest ahead. -/
def timedWindow : State :=
  let s := openWindow 3
  { s with trd := { s.trd with
    triads := modAt s.trd.triads 5 (fun x => { x with openedAt := some (s.clk.now - 10000) })
    cores := modAt s.trd.cores 17 (fun k => { k with minstret := 12 }) } }

theorem witness_TimersAndInterruptsSetC : 5 < timedWindow.trd.triads.length ∧ (timedWindow.tri 5).voting = true ∧
    (timedWindow.tri 5).openedAt = some 999990000 ∧ 999990000 + 10000 ≤ timedWindow.clk.now ∧
    (timedWindow.tri 5).closeAt = [] ∧ (2 ∈ (timedWindow.tri 5).livePos) ∧
    (timedWindow.core ((timedWindow.tri 5).coreAt 2)).minstret = highest timedWindow 5 ∧
    leadOpen timedWindow 5 = true ∧ (∀ p ∈ (timedWindow.tri 5).livePos, (timedWindow.core ((timedWindow.tri 5).coreAt p)).intr = []) ∧
    (let a : State := { withTriads 1 with trd := { (withTriads 1).trd with
       triads := modAt (withTriads 1).trd.triads 5 (fun x => { x with openedAt := some 5 }) } }
     leadOpen a 5 = false ∧ (a.tri 5).openedAt = some 5 ∧ (a.tri 5).voting = true) ∧
    blockLine ({ timedWindow with trd := { timedWindow.trd with err := { status := 1, irqEn := 1 } } } : State) 0 = true ∧
    16 ≤ 34 ∧ blockLine timedWindow 18 = false ∧
    63 < 64 ∧ ((withTriads 4).tri 0).state = 4 ∧ ((withTriads 6).tri 0).state = 6 ∧
    timedWindow.mod.mode.handed = true ∧ timedWindow.sup.quenchSince = none ∧
    ((withTriads 4).tri 0).coreAt 2 < (withTriads 4).trd.cores.length := by decide +kernel

/-- Triad 1 with the given lanes and the lag timer of window 0 started at 5 ns. -/
def lagging (a b c : Lane) : State :=
  let s := withTriads 1
  { s with trd := { s.trd with
    triads := modAt s.trd.triads 1 (fun x => { x with lanes := [a, b, c], lags := [(0, 5, 1)] }) } }
/-- A lane that has delivered window 0 with the given signature. -/
def delivered (sig : BitVec 64) : Lane := { wins := [⟨0, sig, [], 1⟩], nextNum := 1 }

theorem witness_LagTimerVote : 1 < (lagging (delivered 5) (delivered 5) {}).trd.triads.length ∧
    (lagging (delivered 5) (delivered 5) {}).sup.quenchSince = none ∧
    (∃ p w, ((lagging (delivered 5) (delivered 5) {}).tri 1).agreed 0 = some (p, w)) ∧
    ((lagging (delivered 5) (delivered 5) {}).tri 1).votes = true ∧
    ((lagging (delivered 5) (delivered 5) {}).tri 1).voteNum = 0 ∧
    ((lagging (delivered 5) (delivered 5) {}).tri 1).lags.find? (fun g => decide (g.1 = 0)) = some (0, 5, 1) ∧
    5 + 45000 ≤ (lagging (delivered 5) (delivered 5) {}).clk.now ∧
    ((lagging (delivered 5) (delivered 5) {}).tri 1).livePos.filter (fun q =>
      match (((lagging (delivered 5) (delivered 5) {}).tri 1).lane q).closed 0 with
      | some v => decide (v.sig ≠ 5)
      | none => true) = [2] ∧
    ((lagging (delivered 5) (delivered 5) {}).tri 1).coreAt 2 < (lagging (delivered 5) (delivered 5) {}).trd.cores.length ∧
    ((lagging (delivered 5) (delivered 5) {}).tri 1).state = 1 ∧
    ((lagging (delivered 5) (delivered 5) {}).tri 1).lanes.length = 3 ∧
    ((lagging (delivered 5) (delivered 5) {}).tri 1).empty = [false, false, false] ∧
    ((lagging (delivered 5) (delivered 5) {}).tri 1).live.length = 3 := by
  refine ⟨by decide, rfl, ⟨0, ⟨0, 5, [], 1⟩, ?_⟩, ?_⟩ <;> decide +kernel

theorem witness_LagTimerVote_differs :
    ((lagging (delivered 5) (delivered 5) (delivered 6)).tri 1).livePos.filter (fun q =>
      match (((lagging (delivered 5) (delivered 5) (delivered 6)).tri 1).lane q).closed 0 with
      | some v => decide (v.sig ≠ 5)
      | none => true) = [2] ∧
    (((lagging (delivered 5) (delivered 5) (delivered 6)).tri 1).agreed 0).map (fun g => g.2.sig) = some 5 ∧
    (lagging (delivered 5) (delivered 6) {}).img.tasks = [] ∧
    (((lagging (delivered 5) (delivered 6) {}).tri 1).agreed 0).isNone = true ∧
    ((lagging (delivered 5) (delivered 6) {}).tri 1).votes = true ∧
    (let s := lagging (delivered 5) (delivered 6) {}
     let r : State := { s with img := { s.img with tasks := [⟨0, 4, 0, 0, 1, 0, 0, 0, 0⟩] } }
     runsSafety r 1 = true ∧ r.mod.mode = .run) ∧
    ({ (withTriads 1) with clk := { (withTriads 1).clk with now := 45004 } } : State).clk.now < 5 + 45000 := by
  decide +kernel

/-- Triad 2 with position 1 vacated and reserve 0, core 18, claimed for it. -/
def claimed (st : Nat) : State :=
  let s := withTriads 1
  { s with trd := { s.trd with
    resFree := [false, true]
    triads := modAt s.trd.triads 2 (fun x => { x with
      state := st, reintPending := true, empty := [false, true, false], live := [true, false, true],
      reserveSel := 0, paused := decide (st = 3) }) } }

theorem witness_ReintegrationAndRestart_join : (claimed 2).sup.quenchSince = none ∧ 1 < 2 ∧
    resCore (claimed 2) 1 < (claimed 2).trd.cores.length ∧
    2 < (claimed 2).trd.triads.length ∧ ((claimed 2).tri 2).state = 2 ∧ ((claimed 2).tri 2).reintPending = true ∧
    ((claimed 2).tri 2).paused = false ∧ ((claimed 3).tri 2).state = 3 ∧ ((claimed 3).tri 2).paused = true ∧
    ((claimed 3).tri 2).reintPending = true ∧ ((claimed 3).tri 2).drained = true ∧
    ((claimed 3).core (resCore (claimed 3) 0)).clearing = false ∧ resCore (claimed 3) 0 = 18 ∧
    ((claimed 3).tri 2).reserveSel = 0 ∧ ((claimed 3).tri 2).gap < ((claimed 3).tri 2).cores.length ∧
    ((claimed 3).tri 2).gap < ((claimed 3).tri 2).live.length ∧ freeReserve (claimed 3) = some 1 ∧
    resCore (claimed 3) 1 ≠ resCore (claimed 3) 0 ∧ ((claimed 3).core 3).running = true ∧
    ((claimed 3).core 18).running = false := by decide +kernel

/-- The check windows of the two live cores and of the reserve agree while no fault adds to them, and differ with one. -/
theorem witness_ReintegrationAndRestart_vote :
    let sig := trdCheckSig (claimed 3) 2
    let a := ((claimed 3).tri 2).firstLive
    let b := ((claimed 3).tri 2).secondLive
    sig a 0 = sig b 0 ∧ sig a 0 ≠ sig a 1 ∧ sig a 0 ≠ sig b 1 := by
  have same : ∀ c d : Core, c.x = d.x → c.f = d.f → c.csr = d.csr → c.minstret = d.minstret →
      checkWindowSig c = checkWindowSig d := by
    intro c d hx hf hc hm; simp only [checkWindowSig, hx, hf, hc, hm]
  have e := same ((claimed 3).core (((claimed 3).tri 2).coreAt ((claimed 3).tri 2).firstLive))
    ((claimed 3).core (((claimed 3).tri 2).coreAt ((claimed 3).tri 2).secondLive)) (by decide +kernel) (by decide +kernel)
    (by decide +kernel) (by decide +kernel)
  have n : ∀ v : Dword, v ^^^ 0 ≠ v ^^^ 1 := fun v g => absurd ((BitVec.xor_right_inj v).1 g) (by decide)
  exact ⟨congrArg (· ^^^ 0) e, n _, by unfold trdCheckSig; rw [e]; exact n _⟩

/-- Triad 2 halted. -/
def halted : State :=
  let s := withTriads 1
  { s with trd := { s.trd with triads := modAt s.trd.triads 2 (fun x => { x with state := 6, haltedAt := some 7 }) } }
/-- Core 8's watchdog of triad 2 due for its fourth rung. -/
def atRungFour (st : Nat) : State :=
  modDisp 2 0 (fun d => { d with pending := true, since := some 0, next := 3 }) (withTriads st)

theorem witness_ReintegrationAndRestart_restart : (halted.tri 2).state = 6 ∧ (halted.tri 2).haltedAt = some 7 ∧
    runsSafety halted 2 = false ∧ (halted.tri 2).reintPending = false ∧ (halted.tri 2).empty = [false, false, false] ∧
    halted.trd.cores.length = 20 ∧ (halted.tri 2).coreAt 0 = 6 ∧ (halted.tri 2).coreAt 1 = 7 ∧
    (halted.tri 2).coreAt 2 = 8 ∧ isolated halted 22 = false ∧ rung4 (atRungFour 1) 2 = some 0 ∧ rung4 (atRungFour 4) 2 = some 0 ∧
    (atRungFour 1).img.tasks = [] ∧ runsSafety (atRungFour 1) 2 = false ∧ rung4 halted 2 = none ∧
    (let w : State := { atRungFour 1 with img := { (atRungFour 1).img with tasks := [⟨1, 8, 0, 0, 1, 0, 0, 0, 0⟩] } }
     rung4 w 2 = some 0 ∧ runsSafety w 2 = true ∧ w.mod.mode = .run) := by decide +kernel

/-- Triad 4 changed by f. -/
def triad4 (st : Nat) (f : Triad → Triad) : State :=
  let s := withTriads st
  { s with trd := { s.trd with triads := modAt s.trd.triads 4 f } }

theorem witness_SplitAndReturn_toSplit : ((withTriads 1).tri 4).handover = true ∧ ((withTriads 1).tri 4).state = 1 ∧
    ((withTriads 1).tri 4).reintPending = false ∧ runsSafety (withTriads 1) 4 = false ∧
    (withTriads 1).trd.cores.length = 20 ∧ ((withTriads 1).tri 4).coreAt 0 = 12 ∧ ((withTriads 1).tri 4).coreAt 1 = 13 ∧
    ((withTriads 1).tri 4).coreAt 2 = 14 ∧ ((withTriads 1).tri 4).empty = [false, false, false] ∧
    ((withTriads 1).tri 4).lanes.length = 3 ∧ ((withTriads 1).tri 3).handover = false ∧
    ((withTriads 1).tri 3).state ≤ 3 ∧
    ((triad4 1 (fun x => { x with state := 3 })).tri 4).state = 3 ∧
    ((triad4 1 (fun x => { x with state := 3 })).tri 4).handover = true ∧
    (let w : State := { withTriads 1 with img := { (withTriads 1).img with tasks := [⟨0, 16, 0, 0, 1, 0, 0, 0, 0⟩] } }
     runsSafety w 4 = true) := by decide +kernel

theorem witness_SplitAndReturn_split :
    (let s := triad4 1 (fun x => { x with state := 5 })
     (s.tri 4).state = 5 ∧ (s.tri 4).stoppedAt = none ∧ (s.tri 4).drained = true) ∧
    (let s := withTriads 4
     12 = (s.tri 4).coreAt 0 ∧ (s.core 12).role = 1 ∧ (s.core 12).running = true ∧ (s.core 12).triad = 4 ∧
     (s.core 12).pos = 0 ∧ (s.tri 4).state = 4 ∧ (s.tri 4).handover = true ∧ splitRunning s 4 ≠ [0]) ∧
    (let s0 := withTriads 4
     let s := modCore 13 (fun k => { k with running := false }) (modCore 12 (fun k => { k with running := false }) s0)
     splitRunning s 4 = [2] ∧ (s.core 14).running = true) ∧
    (let s := triad4 4 (fun x => { x with returnSince := some 991000000 })
     (s.tri 4).state = 4 ∧ (s.tri 4).returnSince = some 991000000 ∧ 991000000 + 9000000 ≤ s.clk.now) := by decide +kernel

/-- Triad 4 handing over back, the saved state that of the reset core. -/
def returning : State :=
  triad4 1 (fun x => { x with state := 5, stoppedAt := some 9, saved := some {}, savedSig := checkWindowSig {} })

theorem witness_SplitAndReturn_restore : (returning.tri 4).state = 5 ∧ (returning.tri 4).stoppedAt = some 9 ∧
    (returning.tri 4).saved = some {} ∧ checkWindowSig {} = (returning.tri 4).savedSig ∧
    [0, 0, 7].length = 3 ∧ 0 < 1 ∧ 1 < 3 ∧ nth [0, 0, 7] 0 9 = 0 ∧ nth [0, 0, 7] 1 9 = 0 ∧ isolated returning 24 = false ∧
    (∀ p, p < 3 → ∀ q, q < 3 → p < q → nth [1, 2, 3#64] p 0 ≠ nth [1, 2, 3#64] q 0) :=
  ⟨rfl, rfl, rfl, rfl, by decide +kernel⟩

/-! ## The Awn engine -/

/-- A lane that executes. -/
def openLane : AwnLane := { pc := 4, steps := 9 }
/-- Awn in the given state with these lanes, all live, and the lane timer started. -/
def awnAt (st : Nat) (ls : List AwnLane) (since : Option Nat) : State :=
  { inRun with awn := {
      state := st, live := [true, true, true], lanes := ls, laneSince := since, en := true, active := true, loaded := true,
      scan := 6 } }
/-- All three lanes executing. -/
def scanning : State := awnAt 2 [openLane, openLane, openLane] none
/-- The same with lane 2 as given. -/
def lane2 (l : AwnLane) : State := awnAt 2 [openLane, openLane, l] none

theorem witness_AwnOperandForms : 8191 < 8192 ∧ 131071 < 131072 ∧ 2047 < 2048 ∧ 1023 < 1024 ∧
    bitStorable 1 8191 = true ∧ bitStorable 2 8191 = true ∧ bitStorable 3 131071 = true ∧
    wordStorable ⟨1, 255⟩ = true ∧ wordStorable ⟨3, 4095⟩ = true := by decide +kernel

theorem witness_AwnBitSteps : AwnRuns scanning 2 ∧ (BOp.mk 1 true 8191).wf = true ∧
    bitOperand (awnEnv scanning) (awnLane scanning 2) ⟨1, true, 8191⟩ = some true ∧
    (BOp.mk 7 false 0).wf = true ∧ readBit (awnEnv scanning) (awnLane scanning 2) 7 0 = none ∧
    bitStorable 1 8191 = true ∧ (BOp.mk 1 false 8191).neg = false ∧ (awnLane scanning 2).ba = false ∧
    AwnRuns (lane2 { openLane with ba := true }) 2 ∧ (awnLane (lane2 { openLane with ba := true }) 2).ba = true := by
  decide +kernel

theorem witness_AwnBitSteps_stack : AwnRuns (lane2 { openLane with stack := List.replicate 15 true }) 2 ∧
    (awnLane (lane2 { openLane with stack := List.replicate 15 true }) 2).stack.length < 16 ∧
    (awnLane (lane2 { openLane with stack := [true] }) 2).stack = true :: [] ∧
    AwnRuns (lane2 { openLane with stack := List.replicate 16 true }) 2 ∧
    16 ≤ (awnLane (lane2 { openLane with stack := List.replicate 16 true }) 2).stack.length ∧
    (awnLane scanning 2).stack = [] := by decide +kernel

/-- The three kinds of timer and the two of edges. -/
def withObjects : State := { scanning with
  img := { scanning.img with
    awn := some ⟨[], [], [⟨0, 1, 0, 0, 0⟩, ⟨1, 2, 0, 0, 0⟩, ⟨2, 3, 0, 0, 0⟩], [], [⟨0, 1, 0, 0, 0⟩, ⟨1, 2, 0, 0, 0⟩],
      [], 0, 0⟩ } }

theorem witness_AwnTimerStepsAndLimits : AwnRuns withObjects 2 ∧ 2047 < 2048 ∧
    (awnObj (awnProg withObjects).timers 0).kind = 1 ∧ (awnObj (awnProg withObjects).timers 1).kind = 2 ∧
    (awnObj (awnProg withObjects).timers 2).kind = 3 ∧ (awnLane withObjects 2).ba = false ∧
    AwnRuns (lane2 { openLane with ba := true }) 2 ∧
    (({} : AwnTimer).run = false ∧ ({} : AwnTimer).q = false ∧ ({} : AwnTimer).inp = false ∧ 0 < 1) ∧
    (({ q := true } : AwnTimer).run = false ∧ ({ q := true } : AwnTimer).q = true) := by decide +kernel

theorem witness_AwnCounterEdgeSteps : AwnRuns withObjects 2 ∧ 1023 < 1024 ∧ 4095 < 4096 ∧
    (awnObj (awnProg withObjects).edges 0).kind = 1 ∧ (awnObj (awnProg withObjects).edges 1).kind = 2 ∧
    (awnLane withObjects 2).ba = false ∧ (awnLane (lane2 { openLane with ba := true }) 2).ba = true := by decide +kernel

theorem witness_AwnWordArithmeticSteps : AwnRuns (lane2 { openLane with wa := 0x80000000#32 }) 2 ∧ (WOp.mk 3 4095).wf = true ∧
    readWord (awnEnv (lane2 { openLane with wa := 0x80000000#32 })) (awnLane (lane2 { openLane with wa := 0x80000000#32 }) 2)
      ⟨3, 4095⟩ = some 0 ∧ wordStorable ⟨3, 4095⟩ = true := by decide +kernel

theorem witness_AwnWordLogicCompareJumpSteps : AwnRuns scanning 2 ∧ (WOp.mk 3 4095).wf = true ∧
    readWord (awnEnv scanning) (awnLane scanning 2) ⟨3, 4095⟩ = some 0 ∧ (awnLane scanning 2).ba = false ∧
    (awnLane (lane2 { openLane with ba := true }) 2).ba = true ∧ 31 < 32 ∧ 65535 < 65536 := by decide +kernel

theorem witness_AwnLanesCloseAndVote_close : AwnRuns scanning 2 ∧ AwnRuns scanning 0 ∧ 0 ≠ 2 ∧
    (let s := awnAt 2 [openLane, { openLane with cause := some 1 }, openLane] none
     AwnRuns s 2 ∧ AwnRuns s 0 ∧ [0, 1, 2].all (fun b => b == 0 || b == 2 || !laneLive s b || (awnLane s b).cause.isSome) = true) := by
  decide +kernel

/-- A lane closed by END with the given signature. -/
def ended (sig : BitVec 64) : AwnLane := { openLane with cause := some 1, sig := sig }

theorem witness_AwnLanesCloseAndVote_vote :
    (let s := awnAt 2 [ended 5, openLane, ended 5] (some (1000000000 - 400))
     s.awn.state = 2 ∧ s.awn.laneSince = some 999999600 ∧ 999999600 + 400 ≤ s.clk.now ∧ s.awn.live.length = 3 ∧
     s.awn.lanes.length = 3 ∧ s.mod.mode = .run ∧ s.sup.quenchSince = none ∧ laneLive s 0 = true ∧ laneLive s 2 = true ∧
     (awnLane s 0).cause ≠ none ∧ (awnLane s 2).cause ≠ none ∧ (awnLane s 0).sig = (awnLane s 2).sig ∧
     laneLive s 1 = true ∧ (awnLane s 1).cause = none) ∧
    (let s := awnAt 2 [ended 5, ended 6, ended 5] (some 0)
     laneLive s 1 = true ∧ (awnLane s 1).sig ≠ (awnLane s 0).sig) ∧
    (let s0 := awnAt 2 [ended 5, ended 5, ended 5] (some 0)
     let s : State := { s0 with awn := { s0.awn with live := [true, true, false] } }
     laneLive s 0 = true ∧ laneLive s 1 = true ∧ laneLive s 2 = false ∧ (awnLane s 0).sig = (awnLane s 1).sig) ∧
    (let s := awnAt 2 [ended 5, ended 6, openLane] (some 0)
     (∃ t0, s.awn.laneSince = some t0 ∧ t0 + 400 ≤ s.clk.now) ∧
     (∀ b, b < 3 → ∀ a, a < b → (awnLane s a).cause = none ∨ (awnLane s b).cause = none ∨
       (awnLane s a).sig ≠ (awnLane s b).sig)) := by
  refine ⟨by decide +kernel, by decide +kernel, by decide +kernel, ⟨0, rfl, by decide⟩, by decide +kernel⟩

theorem witness_AwnScanCycle :
    (let s0 := awnAt 1 [openLane, openLane, openLane] none
     let s : State := { s0 with cyc := { s0.cyc with begun := true, t0 := 0 } }
     afterT0 s (releaseAt s) = true ∧ s.cyc.triggered = false ∧ s.mod.mode = .run ∧ s.pair.role ≤ 1 ∧ s.awn.en = true ∧
     s.awn.loaded = true ∧ s.awn.state = 1 ∧ 2 < s.awn.lanes.length ∧ laneLive s 2 = true) ∧
    (let s0 := awnAt 4 [ended 5, ended 5, ended 5] none
     let s : State := { s0 with awn := { s0.awn with winner := some 1 } }
     s.awn.winner = some 1 ∧ s.awn.en = true ∧ s.cyc.olcResult ≠ 2 ∧ s.cyc.exchFirst = false) ∧
    63 < 64 ∧ 63 ≠ 0x27 ∧ inRun.awn.en = false ∧ inRun.awn.active = false ∧
    (let s0 := awnAt 1 [] none
     let s : State := { s0 with awn := { s0.awn with bank := { timers := [(2047, { run := true })] } } }
     s.awn.en = true ∧ s.awn.state = 1 ∧ FMap.wf {} s.awn.bank.timers = true) := by decide +kernel

/-! ## The control cycle -/

/-- A module in STOP at a cycle boundary, the last cycle published. -/
def atBoundary : State :=
  lkPut 2 0x20 500 (lkPut 2 0x24 300 { inRun with
    mod := { mode := .stop, handedAt := some 5 }, cyc := { nextT0 := some 5000, nextNum := 7, begun := true, phase := 3 } })
/-- The same in RUN. -/
def runBoundary : State := { inMode atBoundary .run with cyc := { atBoundary.cyc with mode := 1 } }

theorem witness_CycleBoundaryBegins : runBoundary.mod.mode.handed = true ∧ runBoundary.cyc.nextT0 = some 5000 ∧
    runBoundary.sup.quenchSince = none ∧ 5000 ≤ runBoundary.clk.tb ∧ runBoundary.clk.tb < 5001 ∧
    vyfRuns runBoundary = false ∧ runBoundary.img.modes = [] ∧ runBoundary.pair.role = 0 ∧
    ({ runBoundary with cyc := { runBoundary.cyc with phase := 2 } } : State).cyc.phase ≠ 3 ∧
    runBoundary.cyc.begun = true ∧ runBoundary.mod.mode = .run ∧ runBoundary.cyc.phase = 3 ∧
    runBoundary.cyc.forceStop = false ∧ cycCfg runBoundary 16 = false ∧ runBoundary.cyc.req = none ∧
    (let s : State := { atBoundary with cyc := { atBoundary.cyc with req := some (1, 999995001) } }
     s.cyc.req = some (1, 999995001) ∧ s.clk.now < 999995001 + 5000) ∧
    (let s : State := { atBoundary with cyc := { atBoundary.cyc with req := some (1, 999995000) } }
     s.cyc.req = some (1, 999995000) ∧ 999995000 + 5000 ≤ s.clk.now ∧ s.mod.mode = .stop ∧ s.cyc.mode = 0 ∧
     s.awn.active = false) ∧
    (let s : State := { runBoundary with cyc := { runBoundary.cyc with req := some (2, 999995000) } }
     s.cyc.req = some (2, 999995000) ∧ s.mod.mode = .run ∧ s.cyc.mode = 1) ∧
    (let s : State := { runBoundary with cyc := { runBoundary.cyc with req := some (3, 999995000) } }
     s.cyc.req = some (3, 999995000)) := by decide +kernel

/-- Station 0 on inbound connection 0, which is in DATA, with an age limit of 3. -/
def withStation (fresh : Bool) (age : Nat) : State :=
  lkPut 2 0x1000 0x80000003 (lkPut 2 0x1004 0x0200 (lkPut 2 0x8000 99 { atBoundary with
    img := { atBoundary.img with conns := [⟨true, 2, 0, true, true, [], 0, 0, 1, 2, 1, 1, 5, 1⟩] }
    glm := { atBoundary.glm with
      conns := [(0, { en := true, active := true, state := 3, accCycle := 5, words := [11, 12], fresh := fresh })] }
    cyc := { atBoundary.cyc with stn := [(0, { valid := true, age := age, startUp := false, words := [1, 2] })] } }))

theorem witness_FreezeReleaseAndPublish_freeze :
    (let s := withStation true 3
     s.mod.mode.handed = true ∧ s.cyc.nextT0 = some 5000 ∧ 5000 ≤ s.clk.tb ∧ vyfRuns s = false ∧ s.img.modes = [] ∧
     s.pair.role = 0 ∧ 0 < 128 ∧ s.cyc.phase = 3 ∧ stnUsed s 0 = true ∧ stnConn s 0 = 0 ∧ 0 < s.img.conns.length ∧
     (connEnt s 0).recv = true ∧ (connAt s 0).state = 3 ∧ s.cyc.nextNum ≤ (connAt s 0).accCycle + (connEnt s 0).timeout ∧
     (∀ j, j < 128 → stnUsed s j = true → stnConn s j = 0 → j = 0) ∧ (connAt s 0).fresh = true) ∧
    (let s := withStation false 3
     (connAt s 0).fresh = false ∧ (stnAt s 0).startUp = false ∧ ageLimit s 0 < min 255 ((stnAt s 0).age + 1)) ∧
    (let s := withStation false 2
     (connAt s 0).fresh = false ∧ min 255 ((stnAt s 0).age + 1) ≤ ageLimit s 0) := by decide +kernel

/-- RUN with a program, at the release instant of the cycle. -/
def toRelease : State :=
  { runBoundary with
    awn := { runBoundary.awn with loaded := true, en := true, active := true, state := 1, staged := [(3, some 4)] }
    img := { runBoundary.img with awn := some ⟨[], [], [], [], [], [], 0, 0⟩ }
    cyc := { runBoundary.cyc with phase := 1, t0 := 999990000 } }
/-- RUN at the publish instant, the scan published. -/
def toPublish : State :=
  { toRelease with
    awn := { toRelease.awn with bank := { toRelease.awn.bank with q := [(0, 0x81)] } }
    cyc := { toRelease.cyc with phase := 2, t0 := 999700000, scanDone := true, qOut := [(1, 5)] } }

theorem witness_FreezeReleaseAndPublish_release :
    toRelease.sup.quenchSince = none ∧ toRelease.cyc.begun = true ∧ toRelease.cyc.t0 + 10000 ≤ toRelease.clk.now ∧
    toRelease.pair.takeLate = false ∧ toRelease.cyc.phase = 1 ∧ toRelease.mod.mode = .run ∧ toRelease.pair.role ≤ 1 ∧
    toRelease.awn.en = true ∧ toRelease.awn.loaded = true ∧ toRelease.awn.state = 1 ∧
    (inMode toRelease .hold).mod.mode = .hold ∧ (inMode toRelease .hold).cyc.phase = 1 := by decide +kernel

theorem witness_FreezeReleaseAndPublish_publish :
    toPublish.cyc.begun = true ∧ toPublish.cyc.t0 + outOffset toPublish ≤ toPublish.clk.now ∧ toPublish.cyc.phase ≠ 3 ∧
    toPublish.mod.mode.handed = true ∧ toPublish.pair.role = 0 ∧ toPublish.img.conns = [] ∧ toPublish.cyc.exchFirst = false ∧ toPublish.mod.mode = .run ∧
    toPublish.cyc.mode = 1 ∧ toPublish.cyc.scanDone = true ∧ toPublish.awn.bank.q = [(0, 0x81)] ∧
    (∀ k, k < 16 → ∀ e ∈ forcesOf toPublish true, e.1 ≠ k) ∧
    (let s : State := { toPublish with cyc := { toPublish.cyc with force := [(0, 0xE0000003)] } }
     forcesOf s true = [(3, true)] ∧ s.mod.mode ≠ .stop) ∧
    (let s : State := { inMode toPublish .stop with cyc := { toPublish.cyc with mode := 0 } }
     s.mod.mode = .stop ∧ s.cyc.mode = 0) ∧
    (let s : State := { inMode toPublish .hold with cyc := { toPublish.cyc with mode := 2 } }
     s.mod.mode = .hold ∧ s.cyc.mode = 2 ∧ s.cyc.qOut = [(1, 5)]) ∧
    (let s : State := { toPublish with cyc := { toPublish.cyc with scanDone := false } }
     s.awn.loaded = true ∧ s.cyc.scanDone = false) ∧
    (inMode toPublish .safe).mod.mode = .safe ∧ (inMode toPublish .safe).mod.mode.handed = true := by decide +kernel

theorem witness_ModeRequestsAndForces : 0x2B < 64 ∧ reqSource runBoundary 0x2B = true ∧ runBoundary.mod.mode = .run ∧
    runBoundary.pair.role ≠ 2 ∧ runBoundary.sec.debug = false ∧
    (let s : State := lkPut 2 0x28 0x80000000 { runBoundary with cyc := { runBoundary.cyc with permit := true } }
     reqSource s 0x2B = true ∧ bitOf (lkAt s 2 0x28) 31 = true ∧ s.cyc.permit = true) ∧
    runBoundary.cyc.permit = false ∧ ({ runBoundary with sec := { debug := true } } : State).sec.debug = true ∧
    63 < 64 ∧ reqSource runBoundary 63 = false ∧ (inMode runBoundary .safe).mod.mode = .safe ∧
    (let s := lkPut 2 0x20 0x20000 runBoundary
     cycCfg s 17 = true ∧ s.sup.quenchSince = none) ∧ cycCfg runBoundary 17 = false := by decide +kernel

theorem witness_OnlineChangeAndExchange_commit : runBoundary.sup.quenchSince = none ∧ 0x2B < 64 ∧
    reqSource runBoundary 0x2B = true ∧ runBoundary.cyc.olcResult ≠ 1 ∧ runBoundary.cyc.olcResult ≠ 2 ∧
    bitOf 0x80000010 31 = true ∧ fieldOf (0x80000010 : Word) 4 0 = 16 ∧ fieldOf (0x80000001 : Word) 4 0 = 1 ∧
    fieldOf (0x80000011 : Word) 4 0 = 17 ∧ fieldOf (0x80000000 : Word) 4 0 = 0 ∧ runBoundary.cyc.exch = false ∧
    (∀ k, k < 16 → (olcAddr runBoundary k).1 = 0 ∨ (olcAddr runBoundary k).2 < 1024) ∧
    ({ runBoundary with cyc := { runBoundary.cyc with exch := true } } : State).cyc.exch = true ∧
    reqSource runBoundary 63 = false := by decide +kernel

/-- A 64-byte pair report with the given ROLE byte and CYCLE. -/
def reportOf (role : Byte) (cycle : Nat) : List Byte :=
  [0, 0, role, 0] ++ zeros 4 ++ (le 8 cycle).reverse ++ zeros 48
/-- A STANDBY of an ACTIVE with the shadows of two cycles. -/
def standby : State :=
  { runBoundary with
    cyc := { runBoundary.cyc with cycle := 9 }
    awn := { runBoundary.awn with loaded := true }
    pair := { runBoundary.pair with
      role := 2, report := some (reportOf 1 9), shadowPrev := some ⟨reportOf 1 7, []⟩, shadow := some ⟨reportOf 1 8, []⟩,
      shadowOk := true, linkLost := false } }

theorem witness_OnlineChangeAndExchange_exchange : bitOf (1 : Word) 0 = true ∧ standby.cyc.exch = false ∧
    standby.pair.role = 2 ∧ standby.pair.report.isSome = true ∧ repRole (lastReport standby) = 1 ∧
    standby.pair.linkLost = false ∧ standby.pair.wants = false ∧ runBoundary.pair.role ≠ 2 ∧
    standby.pair.shadowPrev = some ⟨reportOf 1 7, []⟩ ∧ standby.pair.shadow = some ⟨reportOf 1 8, []⟩ ∧
    standby.pair.checked = false ∧ standby.pair.shadowOk = true ∧ standby.awn.loaded = true ∧
    repProg (reportOf 1 8) = ownProgram standby ∧ repCycle (reportOf 1 7) + 2 = standby.cyc.cycle ∧
    repCycle (reportOf 1 8) + 1 = standby.cyc.cycle ∧ repBit (reportOf 1 8) 5 = false ∧
    repBit (reportOf 1 8) 6 = false := by decide +kernel

/-! ## Budget scheduler -/

/-- The task of triad 2 the tests use: Control, every second cycle, offset 10, deadline 500, WCET 100. -/
def aTask : Task := ⟨1, 8, 1, 2, 1, 0, 10, 500, 100⟩
/-- Task 255 due for its release in cycle 4. -/
def due : State :=
  let s := withTriads 1
  { s with img := { s.img with tasks := List.replicate 256 aTask },
           cyc := { s.cyc with begun := true, cycle := 4, t0 := s.clk.now - 10000 } }
/-- Its job released, waiting on the dispatch register; then running. -/
def withJob (d : Option Nat) (running : Bool) : State :=
  modDisp 2 0 (fun x => { x with running := if running then 255 else x.running, pending := !running, next := 255 })
    (modTask 255 (fun x => { x with
      job := some { release := due.cyc.t0, deadline := d, started := running, ran := 1600001, missed := false, overrun := false } })
      due)

theorem witness_JobsMissesAndBudgets_release : 255 < 256 ∧ taskAt due 255 = some aTask ∧ due.sup.quenchSince = none ∧
    due.cyc.begun = true ∧ due.cyc.cycle % aTask.every = aTask.phase ∧
    classReleased due.mod.mode due.pair.role aTask.cls = true ∧ due.pair.takeLate = false ∧
    due.cyc.t0 + aTask.offset * 1000 ≤ due.clk.now ∧ (taskSt due 255).relCycle ≠ due.cyc.cycle + 1 ∧ due.sch.level = 0 ∧
    instRuns due aTask.inst = true ∧ (taskSt due 255).job = none ∧
    (∀ p ∈ dispPos due 2, (dispAt due 2 p).running ≠ 255) ∧ aTask.cls ≠ 3 ∧
    (let s := withJob (some 7) false
     (taskSt s 255).job.isSome = true ∧ (taskSt s 255).relCycle ≠ s.cyc.cycle + 1 ∧ instRuns s aTask.inst = true ∧
     2 < s.sch.triads.length) ∧
    (let x : Task := { aTask with cls := 3 }
     let s0 := withJob none false
     let s : State := { s0 with img := { s0.img with tasks := List.replicate 256 x } }
     taskAt s 255 = some x ∧ classReleased s.mod.mode s.pair.role x.cls = true ∧ (taskSt s 255).job.isSome = true) ∧
    (let s : State := { due with trd := sixTriads 6 }
     instRuns s aTask.inst = false ∧ 2 < s.sch.triads.length) := by decide +kernel

theorem witness_JobsMissesAndBudgets_run : dispWriter (withJob (some 7) false) 0x1A 2 0 = true ∧ 0x1A < 64 ∧
    (dispAt (withJob (some 7) false) 2 0).pending = true ∧ (dispAt (withJob (some 7) false) 2 0).next = 255 ∧
    0 < (schTri (withJob (some 7) false) 2).disp.length ∧ (taskSt (withJob (some 7) false) 255).job.isSome = true ∧
    dispWriter (withJob (some 1000000000) true) 0x1A 2 0 = true ∧
    (dispAt (withJob (some 1000000000) true) 2 0).running = 255 ∧
    ((taskSt (withJob (some 1000000000) true) 255).job.map (fun j => (j.deadline, j.missed))) =
      some (some 1000000000, false) ∧
    (withJob (some 1000000000) true).clk.now ≤ 1000000000 ∧ 7 < (withJob (some 7) true).clk.now ∧
    ((taskSt (withJob (some 7) true) 255).job.map (fun j => (j.deadline, j.missed))) = some (some 7, false) ∧
    ((taskSt (withJob none true) 255).job.map (fun j => j.deadline)) = some none ∧ 511 < 512 ∧ 511 ≠ 255 := by decide +kernel

theorem witness_JobsMissesAndBudgets_miss :
    ((taskSt (withJob (some 999999999) true) 255).job.map (fun j => (j.deadline, j.missed, j.overrun, pastWcet aTask j))) =
      some (some 999999999, false, false, true) ∧
    999999999 < (withJob (some 999999999) true).clk.now ∧
    (withJob (some 1000000000) true).clk.now ≤ 1000000000 ∧ aTask.action = 1 ∧
    ({ aTask with action := 0 } : Task).action ≠ 1 ∧ aTask.inst / 4 < due.sch.triads.length ∧
    pastWcet aTask { release := 0, deadline := none, started := true, ran := 1600001, missed := false, overrun := false } = true ∧
    due.mod.mode.released = true ∧ due.mod.mode ≠ .shutdown := by decide +kernel

/-- Shed thresholds of 15, 10, 8 and 8. -/
def thresholds : State := lkPut 3 0x30 0x080A080F due

theorem witness_SheddingAndTrip : thresholds.mod.mode.released = true ∧ thresholds.sup.quenchSince = none ∧
    thresholds.sch.faulted.length = 8 ∧ thresholds.sch.faulted = List.replicate 8 false ∧
    (440 - (491 : Int) < 4 * (thermCfg thresholds 0 : Int)) ∧ (440 - (491 : Int) < 4 * (thermCfg thresholds 1 : Int)) ∧
    (let s : State := { thresholds with sch := { thresholds.sch with hot := true } }
     s.mod.mode = .run ∧ s.sch.hot = true ∧ s.sch.tripped = false ∧ nth s.sch.faulted 0 true = false) ∧
    nth thresholds.sch.faulted 7 true = false ∧
    (let s : State := { thresholds with sch := { thresholds.sch with level := 1, thermBg := ⟨true, some 900100000⟩ } }
     s.sch.thermBg = { on := true, clearSince := some 900100000 } ∧ 900100000 + 99900000 ≤ s.clk.now ∧
     s.sch.thermSvc.on = false ∧ s.sch.braceHold = false ∧ s.sch.energySvc.on = false ∧ s.sch.energyBg.on = false) ∧
    (let s : State := { thresholds with sch := { thresholds.sch with level := 2, energySvc := ⟨true, some 990100000⟩ } }
     s.sch.energySvc = { on := true, clearSince := some 990100000 } ∧ 990100000 + 9900000 ≤ s.clk.now ∧
     s.sch.energyBg.on = false ∧ s.sch.thermBg.on = false) ∧
    (let s : State := { thresholds with sch := { thresholds.sch with level := 2, braceHold := true } }
     s.sch.braceHold = true ∧ s.sch.brace = false ∧ s.sch.thermSvc.on = false) := by decide +kernel

/-! ## Vyfabin -/

/-- The header of cycle 9 in mode 0, from origin 0x2345 of schedule 0x1234, but for its CRC. -/
def hdr9 : List Byte :=
  [1, 1, 0, 0] ++ be 8 9 ++ be 8 0 ++ be 4 0 ++ be 2 0x2345 ++ [0, 0] ++ be 4 0x1234 ++ be 4 0 ++ [0] ++ zeros 7
/-- The ear frame on channel A that carries it and nothing else. -/
def ear9 : List Byte :=
  be 6 0x035946520000 ++ be 6 0x025946522345 ++ be 2 0x88B5 ++ hdr9 ++ be 4 (crc32c hdr9)

/-- A schedule mode with one HUB_TX and one HUB_RX window on port 1. -/
def aMode : SMode := ⟨500, 20000, 5000, 2, 1, 3, 4, [⟨100000, 20000, 2, 1, 100, 0⟩, ⟨150000, 20000, 1, 1, 100, 1⟩]⟩
/-- RUN, SYNCED in mode 0 at cycle 9, link on one port of each channel, hub ID 0x2345. -/
def synced : State :=
  lkPut 5 0x3C 0x1234 (lkPut 5 0x40 0x1270 (lkPut 6 0x24 2 { inRun with
    mod := { mode := .run, handedAt := some 5 }
    img := { loaded := true, modes := [aMode, { aMode with periodUs := 1000 }], backbone := true, hubBufs := [(1, 1), (0, 1)] }
    fuse := { serial := 0x345 }
    vyf := { state := 4, chA := { link1 := true, relay := false }, chB := { link1 := true, relay := false } }
    cyc := { begun := true, cycle := 9, t0 := 999830000, freezeTime := 0, nextT0 := some 600000 } }))
/-- The same with these ear-controller fields. -/
def synced' (f : Vyf → Vyf) : State := { synced with vyf := f synced.vyf }

theorem ear9_is_sound : isEar 0 ear9 = true ∧ (earHdr ear9).sound = true ∧ (earHdr ear9).id = 0x2345 ∧
    (earHdr ear9).cycle = 9 ∧ (earHdr ear9).sched = 0x1234 := by decide +kernel

theorem witness_EarFramesSentForwardedReceived_send :
    (let s := synced' (fun v => { v with origin := true, normal := true })
     s.sup.quenchSince = none ∧ s.vyf.origin = true ∧ s.vyf.state = 4 ∧ s.vyf.pend = none ∧
     s.vyf.sentMark ≠ s.cyc.cycle + 1 ∧ afterT0 s (modeNow s).earOffset = true ∧ s.cyc.cycle < 2 ^ 64 ∧ s.vyf.mode < 4) ∧
    (let s := synced' (fun v => { v with origin := true, state := 2 })
     s.vyf.state = 2 ∧ s.vyf.origin = true) := by decide +kernel

/-- SYNCED with both ports of channel A linked, not writing (a first start of the origin). -/
def middle : State :=
  synced' (fun v => { v with state := 1, chA := { link1 := true, link2 := true, relay := false } })

theorem witness_EarFramesSentForwardedReceived_forward : 3 < 4 ∧ synced.mod.mode.released = true ∧
    (vch middle 0).relay = false ∧ (vch middle 0).link 0 = true ∧ (vch middle 0).link 1 = true ∧
    isEar 0 (ear9.take 61) = false ∧ isEar 0 ear9 = true ∧
    (synced' (fun v => { v with origin := true })).vyf.origin = true ∧ middle.vyf.origin = false ∧
    mayWrite middle (beAt ear9 15 1) = false ∧ (vch middle 0).both = true ∧
    (vch middle 0).fwd ≠ some (beAt ear9 38 2, beAt ear9 18 8) ∧
    (let s := synced' (fun v => { v with state := 1, chA := {
       link1 := true, link2 := true, relay := false, fwd := some (beAt ear9 38 2, beAt ear9 18 8), up := some 1 } })
     (vch s 0).both = true ∧ (vch s 0).fwd = some (beAt ear9 38 2, beAt ear9 18 8) ∧ (vch s 0).up ≠ some 0 ∧
     mayWrite s (beAt ear9 15 1) = false) ∧
    (let s := synced' (fun v => { v with state := 1 })
     (vch s 0).both = false ∧ mayWrite s (beAt ear9 15 1) = false) ∧
    mayWrite synced (beAt ear9 15 1) = true ∧ synced.vyf.origin = false ∧
    (vch (synced' (fun v => { v with chB := { relay := true } })) 1).relay = true ∧ (vch synced 1).link 1 = false := by
  decide +kernel

theorem witness_EarFramesSentForwardedReceived_header :
    vyfRuns synced = true ∧ (vch synced 0).link 0 = true ∧ isEar 0 ear9 = true ∧ (earHdr ear9).sound = true ∧
    (earHdr (ear9.set 20 99)).sound = false ∧ vyfRuns (synced' (fun v => { v with state := 0 })) = false ∧ (vch synced 0).link 1 = false ∧
    (earHdr ear9).sched = (lkAt synced 5 0x3C).toNat ∧
    (synced' (fun v => { v with state := 1 })).vyf.state = 1 ∧
    (earHdr ear9).sched ≠ (lkAt (lkPut 5 0x3C 0x1235 synced) 5 0x3C).toNat ∧ synced.vyf.schedRaised = false ∧
    synced.sup.quenchSince = none ∧
    (let s : State := { synced' (fun v => { v with state := 2 }) with fuse := { serial := 0x346 } }
     s.vyf.state = 2 ∧ (earHdr ear9).id < ownHubId s) ∧
    (let s : State := { synced' (fun v => { v with state := 2 }) with fuse := { serial := 0x344 } }
     ownHubId s < (earHdr ear9).id) ∧
    (let s := synced' (fun v => { v with state := 3, originId := 0x2346 })
     s.vyf.state = 3 ∧ (earHdr ear9).id < s.vyf.originId) ∧
    (let s : State := { synced' (fun v => { v with origin := true }) with fuse := { serial := 0x344 } }
     s.vyf.state = 4 ∧ s.vyf.origin = true ∧ ownHubId s < (earHdr ear9).id) ∧
    synced.vyf.state = 4 ∧ synced.vyf.origin = false ∧ hdrExpected synced 0 22000 (earHdr ear9) = true ∧
    synced.vyf.chA.hdrNow = false ∧ synced.vyf.chB.hdrNow = false ∧ (vch synced 0).failed = false ∧
    (vch (synced' (fun v => { v with chA := { v.chA with failed := true } })) 0).failed = true ∧ synced.fab.map = [] ∧
    synced.pair.role = 0 ∧ (synced' (fun v => { v with schedRaised := true })).vyf.schedRaised = true := by decide +kernel

/-- Three kernels whose clocks differ by 1, 2 and 900 µs. -/
def threeClocks : State :=
  let k := fun (a d : Nat) => ({ addr := a, ch := 0, bytes := zeros 12 ++ be 4 0 ++ be 4 1 ++ zeros 28, rx := d } : KCopy)
  synced' (fun v => { v with taken := [k 1 1000, k 2 2000, k 3 900000] })

theorem witness_VyfStatesModesAndClock_clock :
    4 ≤ ((0 : Int) :: threeClocks.vyf.taken.filterMap (clockDelta threeClocks)).length ∧
    (∀ j, j < 4 → j ≠ 3 → ∀ x, ((0 : Int) :: threeClocks.vyf.taken.filterMap (clockDelta threeClocks))[j]? = some x →
      0 ≤ x ∧ x ≤ 2000) := by
  refine ⟨by decide +kernel, ?_⟩
  intro j hj h3 x hx
  have h : ((0 : Int) :: threeClocks.vyf.taken.filterMap (clockDelta threeClocks)) = [0, 1000, 2000, 900000] := by
    decide +kernel
  rw [h] at hx
  match j, hj with
  | 0, _ => simp at hx; omega
  | 1, _ => simp at hx; omega
  | 2, _ => simp at hx; omega
  | 3, _ => exact absurd rfl h3

theorem witness_VyfStatesModesAndClock_states :
    (let s : State := synced' (fun v => { v with state := 1, listenSince := some 995900000 })
     s.vyf.state = 1) ∧
    (let s : State := { synced' (fun v => { v with state := 1, listenSince := some 996900000 }) with fuse := {} }
     s.vyf.listenSince = some 996900000 ∧ 996900000 + 2 * periodMax s + 1100000 + s.vyf.listenExtra ≤ s.clk.now ∧
     coldEnable s = true ∧ (s.vyf.chA.both && s.vyf.chB.both) = false ∧ s.mod.mode ≠ .shutdown ∧ s.cyc.begun = true) ∧
    coldEnable (lkPut 5 0x40 0x270 synced) = false ∧
    (let s := synced' (fun v => { v with missed := 1, chA := { link1 := true, up := some 1, relay := false } })
     s.vyf.state = 4 ∧ s.vyf.origin = false ∧ coldEnable s = true ∧ lostUp s = true ∧ 1 ≤ s.vyf.missed) ∧
    (let s := synced' (fun v => { v with missed := 2 })
     s.vyf.state = 4 ∧ 2 ≤ s.vyf.missed) ∧
    synced.vyf.missed < 2 ∧ (vch synced 1).relay = false ∧ (vch synced 1).link 1 ≠ true ∧ (vch synced 1).link 0 ≠ false := by
  decide +kernel

theorem witness_VyfStatesModesAndClock_modes : bitOf (0x80000001 : Word) 31 = true ∧ isVoter synced 0x18 = true ∧
    synced.vyf.state = 4 ∧ fieldOf (0x80000001 : Word) 1 0 < synced.img.modes.length ∧ modePermitted synced 1 = true ∧
    1 ≠ synced.vyf.mode ∧ synced.img.modes.length ≤ fieldOf (0x80000003 : Word) 1 0 ∧
    fieldOf (0x80000000 : Word) 1 0 = synced.vyf.mode ∧ bitOf (1 : Word) 31 = false ∧ 63 ≠ 0x2B ∧ isVoter synced 63 = false ∧
    (let s := synced' (fun v => { v with reqOn := true, reqResult := 1, reqCycles := 16 })
     s.vyf.reqOn = true ∧ s.vyf.reqResult = 1 ∧ 16 ≤ s.vyf.reqCycles) := by decide +kernel

/-! ## The hub and its guardian -/

/-- Hub port 1 in service, TX buffer 0 committed for the cycle. -/
def hubOn (f : HubPort → HubPort) : State :=
  { synced with hub := { synced.hub with
      ports := modAt synced.hub.ports 1 (fun x => f { x with en := true, active := true, link := true })
      tx := [(0, 9, 999928000, [1, 2, 3])] } }

theorem witness_HubSendsAndGuardianJudges_sends :
    (let s := hubOn (fun x => x)
     s.sup.quenchSince = none ∧ afterT0 s (fieldOf (lkAt s 6 0x20) 25 0) = true ∧ s.hub.did.contains 4096 = false ∧
     s.img.hubBufs ≠ [] ∧ s.mod.mode ≠ .shutdown ∧ slotDesc s 0 = some ⟨100000, 20000, 2, 1, 100, 0⟩ ∧
     afterT0 s 100000 = true ∧ s.hub.did.contains 0 = false ∧ inService s 1 = true ∧
     txBody s 0 (s.cyc.t0 + 100000 - 2000) = some [1, 2, 3] ∧ 1 < s.hub.ports.length ∧ hubUsed s 1 = true ∧
     isVoter s 0x18 = true ∧ (s.hubPort 1).en = true ∧ (s.hubPort 1).link = true) ∧
    (let s : State := { hubOn (fun x => x) with hub := { (hubOn (fun x => x)).hub with tx := [(0, 9, 999928001, [1])] } }
     txBody s 0 (s.cyc.t0 + 100000 - 2000) = none) ∧
    (let s0 := hubOn (fun x => x)
     let s : State := { s0 with cyc := { s0.cyc with t0 := 1000000000 - 171000 } }
     slotDesc s 1 = some ⟨150000, 20000, 1, 1, 100, 1⟩ ∧ afterT0 s (150000 + 20000 + 1000) = true ∧
     s.hub.rx.filter (fun e => e.1 = 1) = [] ∧
     ({ s with hub := { s.hub with rx := [(1, [7, 8])] } } : State).hub.rx.filter (fun e => e.1 = 1) = [(1, [7, 8])]) ∧
    (synced.hubPort 1).en = false ∧ (synced.hubPort 1).active = false ∧ hubUsed synced 7 = false ∧
    isVoter synced 63 = false := by decide +kernel

/-- A frame that fills the window of slot 1 to its edges. -/
def inWindow : HubRx := ⟨149000, 171000, 100, true, none, [7, 8]⟩
/-- One that starts at the window's end. -/
def babbles : HubRx := ⟨171000, 171001, 5, true, none, []⟩

theorem witness_HubSendsAndGuardianJudges_judges :
    (let s := hubOn (fun x => x)
     1 < s.hub.ports.length ∧ inService s 1 = true ∧ s.cyc.begun = true ∧ inWindow.wf = true ∧
     (rxWindows s 1).find? (fun e => decide (e.2.opens ≤ inWindow.start ∧ inWindow.start < e.2.closes)) =
       some (1, ⟨150000, 20000, 1, 1, 100, 1⟩) ∧
     inWindow.stop ≤ (Slot.mk 150000 20000 1 1 100 1).closes ∧ inWindow.len ≤ 100 ∧ inWindow.overAt = none ∧
     inWindow.fcsOk = true ∧ s.hub.used.any (fun e => decide (e.1 = 1)) = false ∧ (s.hubPort 1).blocked = false ∧
     babbles.wf = true ∧
     (rxWindows s 1).all (fun e => decide (babbles.stop < e.2.opens ∨ e.2.closes ≤ babbles.start)) = true ∧
     (∀ e ∈ rxWindows s 1, e.2.opens < e.2.closes) ∧ (s.hubPort 1).violNow = false ∧ hubGraced s = false ∧ hubGraced ({ s with hub := { s.hub with grace := 1 } } : State) = true ∧
     ({ s with hub := { s.hub with graceDue := true, grace := 1 } } : State).hub.graceDue = true) ∧
    ((hubOn (fun x => { x with violNow := true })).hubPort 1).violNow = true ∧
    3 ≤ ((hubOn (fun x => { x with consec := 2 })).hubPort 1).consec + 1 ∧
    (let s := hubOn (fun x => { x with blocked := true, clean := 8 })
     (s.hubPort 1).blocked = true ∧ (s.hubPort 1).clean = 8) ∧
    (let s := hubOn (fun x => { x with blocked := true, clean := 7 })
     (s.hubPort 1).blocked = true ∧ (s.hubPort 1).clean < 8) := by decide +kernel

/-! ## The train fabric -/

/-- Train address 0 of a train of 2, target and gateway, with the given streams. -/
def inTrain (x : List Stream) : State :=
  { synced with
    fab := { synced.fab with
      addr := 0, map := [⟨1, 2, 3, 1, 0⟩, ⟨4, 5, 6, 2, 0⟩], twoPorts := 4, nextStream := 65535, streams := x }
    vyf := { synced.vyf with origin := true }
    img := { synced.img with target := true, gateway := true } }
/-- Stream 7 from the gateway at address 1, with data both ways. -/
def aStream : Stream :=
  { newStream true 0 1 7 0 0 with rxNext := 100, unacked := [1, 2, 3, 4], txBase := 50, sent := 3, out := 3, slots := 4 }

theorem witness_TrainStreamsOpenCarryClose_open :
    (let s := inTrain []
     s.vyf.state = 4 ∧ s.vyf.origin = true ∧ 4 ≤ s.fab.twoPorts ∧ s.fab.yieldLeft = 0 ∧ msgForMe s 1 0 = true ∧
     servedHere s 1 65535 = false ∧ s.img.target = true ∧ streamCount s false < 4 ∧ msgForMe s 2 0 = false ∧
     5001 - 5000 ≠ s.fab.addr ∧ 5001 - 5000 < s.fab.map.length ∧ s.img.gateway = true ∧ s.sec.portClosed = false ∧
     streamCount s true < 4 ∧ s.fab.addr ≠ 255) ∧
    ({ inTrain [] with img := {} } : State).img.target = false ∧
    servedHere { inTrain [] with img := {} } 1 7 = false ∧ msgForMe { inTrain [] with img := {} } 1 0 = true ∧
    (let m := aperMsg 0 1 1 0 65535 0 0 []
     let s0 := inTrain []
     let s : State := { s0 with fab := { s0.fab with inbox := [m] } }
     s.fab.inbox.find? (fun m => aperIs m 0 1 1 0 65535) = some m ∧ s0.fab.inbox.find? (fun m => aperIs m 0 1 1 0 65535) = none) ∧
    (let m := aperMsg 0 1 3 255 7 0 0 []
     let s0 := inTrain [aStream]
     let s : State := { s0 with fab := { s0.fab with inbox := [m] } }
     s.fab.inbox.find? (fun m => aperIs m 0 1 3 255 7) = some m ∧ msgForMe s 1 0 = true ∧ streamWith s 1 7 = some aStream ∧
     msgForMe s 2 0 = false ∧ s0.fab.inbox.find? (fun m => aperIs m 0 1 3 255 7) = none) ∧
    (let s := inTrain ((List.range 4).map (fun n => newStream true 0 1 n 5001 0))
     4 ≤ streamCount s true ∧ s.img.gateway = true ∧ 5000 - 5000 = s.fab.addr ∧ s.fab.map.length ≤ 5063 - 5000) ∧
    (let s := inTrain ((List.range 4).map (fun n => newStream false 1 0 n 0 0))
     4 ≤ streamCount s false ∧ servedHere s 1 7 = false ∧ streamWith s 1 3 = some (newStream false 1 0 3 0 0)) := by
  decide +kernel

theorem witness_TrainStreamsOpenCarryClose_carry :
    (let s := inTrain [aStream]
     streamWith s 1 7 = some aStream ∧ s.fab.streams = [aStream] ∧ msgForMe s 1 0 = true ∧ 16 + 48 ≤ (modeNow s).rlen ∧
     aStream.rxNext < 2 ^ 32 ∧ 98 ≤ aStream.rxNext ∧ aStream.rxNext < 98 + 16 ∧ 0 < 3 ∧ 3 ≤ aStream.sent ∧
     53 = (aStream.txBase + 3) % 2 ^ 32 ∧ aStream.out < 2 ^ 31 ∧ 3 ≤ aStream.out ∧ aStream.rxNext < 101 ∧ 101 < aStream.rxNext + 2 ^ 31 ∧
     4 ≤ aStream.slots ∧ 0 < aStream.out ∧ s.clk.now < aStream.dataSince + 599000000000) ∧
    (let m := aperMsg 0 1 2 0 7 98 53 (zeros 16)
     let s0 := inTrain [aStream]
     let s : State := { s0 with fab := { s0.fab with inbox := [m] } }
     s.fab.inbox.find? (fun m => aperIs m 0 1 2 0 7 && decide (beAt m 8 4 = 98) && decide (beAt m 12 4 = 53) &&
       decide (slice m 16 (beAt m 6 2) = zeros 16)) = some m) ∧
    (let x : Stream := { aStream with slots := 3, unacked := [], sent := 0, out := 0 }
     streamWith (inTrain [x]) 1 7 = some x ∧ x.slots < 4 ∧ x.out = 0) ∧
    (let s0 := inTrain [aStream]
     let s : State := { s0 with clk := { s0.clk with now := 600000000000 } }
     aStream.ackSince + 10000000000 ≤ s.clk.now ∧ aStream.dataSince + 600000000000 ≤ s.clk.now ∧
     s.sup.quenchSince = none) := by decide +kernel

/-! ## The pair -/

/-- A schedule with the report slot, one shadow slot and one slot of the partner. -/
def pairMode' : SMode :=
  ⟨500, 20000, 5000, 2, 1, 3, 4, [⟨100000, 20000, 3, 0, 82, 0⟩, ⟨150000, 20000, 3, 0, 1078, 129⟩,
    ⟨300000, 20000, 4, 0, 1078, 0⟩]⟩
/-- A module of a pair in RUN, in cycle 9, published, with these pair fields. -/
def paired (f : Pair → Pair) : State :=
  lkPut 7 0x48 1 (lkPut 2 0x20 1000 { inRun with
    mod := { mode := .run, handedAt := some 5 }
    img := { loaded := true, pairMode := true, vehicleId := 77, modes := [pairMode'] }
    fuse := { serial := 0x345 }
    cyc := { mode := 1, begun := true, phase := 3, cycle := 9, nextNum := 10, t0 := 999830000, nextT0 := some 4000 }
    pair := f { role := 2, reign := 5 } })
/-- A report for cycle 9 with the given ROLE byte, STATE, REIGN, hub ID and rest. -/
def report9 (role state reign hub veh : Nat) (rest : List Byte) : List Byte :=
  let b := be 1 1 ++ be 1 0x20 ++ be 1 role ++ be 1 state ++ be 4 reign ++ be 8 9 ++ be 4 10 ++ be 8 0 ++ be 2 hub ++
    be 4 veh ++ rest ++ zeros (26 - rest.length)
  b ++ be 4 (crc32c b)
/-- A report of an ACTIVE partner of reign 5. -/
def activeReport : List Byte := report9 1 1 5 3 77 []

theorem witness_PairReportsExchanged_sends :
    (let s := paired (fun p => { p with role := 1, release := some 10 })
     pairTxSlot s 0 = some ⟨100000, 20000, 3, 0, 82, 0⟩ ∧ pairTxSlot s 129 = some ⟨150000, 20000, 3, 0, 1078, 129⟩ ∧
     s.pair.reign < 2 ^ 32 ∧ s.cyc.cycle < 2 ^ 64 ∧ s.pair.role < 4 ∧ s.pair.role ≠ 0 ∧ s.cyc.begun = true ∧
     s.cyc.t0 + 150000 ≤ s.clk.now ∧ s.pair.txDid.contains 0 = false ∧ s.pair.role = 1 ∧ s.pair.wants = false ∧
     s.mod.mode = .run ∧ s.pair.release = some ((s.cyc.cycle + 1) % 2 ^ 32) ∧ (pairBlocks s).contains (129 - 1) = true) ∧
    (let s := paired (fun p => { p with wants := true })
     s.pair.wants = true ∧ s.pair.intent = none ∧ s.pair.role = 2 ∧ s.pair.released = false) ∧
    (paired (fun p => { p with txDid := [129] })).pair.txDid.contains 129 = true ∧
    (inMode (paired (fun p => { p with role := 1 })) .safe).mod.mode = .safe := by decide +kernel

/-- A frame of the partner that just meets its window, and one that starts 1 ns before it. -/
def partnerFrame (early : Nat) : PairRx := ⟨299000 - early, 321000⟩

theorem witness_PairReportsExchanged_window :
    (let s := paired (fun p => p)
     let x : Slot := ⟨300000, 20000, 4, 0, 1078, 0⟩
     x ∈ (modeNow s).slots ∧ x.kind = 4 ∧ (x.offset : Int) - 1000 ≤ (partnerFrame 0).start ∧
     (partnerFrame 0).start ≤ (partnerFrame 0).stop ∧ (partnerFrame 0).stop ≤ (x.offset : Int) + x.length + 1000 ∧
     (partnerFrame 1).start ≤ (partnerFrame 1).stop ∧
     ∀ y ∈ (modeNow s).slots, y.kind = 4 → (partnerFrame 1).start < (y.offset : Int) - 1000 ∨
       (y.offset : Int) + y.length + 1000 < (partnerFrame 1).stop) := by decide +kernel

theorem witness_PairReportsExchanged_valid :
    (let s := paired (fun p => p)
     let b := activeReport
     s.sup.quenchSince = none ∧ s.cyc.begun = true ∧ s.pair.role ≠ 0 ∧ s.pair.role < 4 ∧ b.length = 64 ∧
     beAt b 60 4 = crc32c (b.take 60) ∧ beAt b 0 1 = 1 ∧ beAt b 1 1 = 0x20 ∧ repCycle b = s.cyc.cycle ∧
     repVehicle b = s.img.vehicleId ∧ repVehicle (report9 1 1 5 3 78 []) ≠ s.img.vehicleId ∧ s.pair.report.isNone = true ∧
     beAt (b.set 5 9) 60 4 ≠ crc32c ((b.set 5 9).take 60) ∧ repReign b ≤ s.pair.reign) ∧
    (let s := paired (fun p => p)
     let b := report9 (1 + 16) 4 6 3 77 []
     beAt b 60 4 = crc32c (b.take 60) ∧ s.pair.reign < repReign b ∧ touchesBad s.mem.mramBad 0x100 128 = false ∧
     slot64 s 0x100 4 = none ∧ slot64 s 0x140 4 = none ∧ s.pair.role = 2 ∧ s.mod.mode ≠ .safe ∧ repState b = 4 ∧
     repBit b 4 = true) := by decide +kernel

theorem witness_PairReportsExchanged_roles :
    (let s := paired (fun p => { p with role := 3 })
     s.pair.role = 3 ∧ repRole activeReport = 1 ∧ repRole (report9 3 1 6 3 77 []) ≠ 1 ∧
     repReign (report9 3 1 6 3 77 []) ≠ s.pair.reign ∧ repReign (report9 3 1 5 0x346 77 []) = s.pair.reign ∧
     repHub (report9 3 1 5 0x346 77 []) ≠ ownHubId s ∧ repHub (report9 3 1 5 0x345 77 []) = ownHubId s ∧
     s.pair.draw = none ∧ s.pair.nextRole = none) ∧
    (let s := paired (fun p => { p with role := 1 })
     s.pair.role = 1 ∧ repRole (report9 1 1 6 3 77 []) = 1 ∧ s.pair.reign < repReign (report9 1 1 6 3 77 []) ∧
     repReign (report9 1 1 5 0x344 77 []) = s.pair.reign ∧ repHub (report9 1 1 5 0x344 77 []) < ownHubId s ∧
     ownHubId s < repHub (report9 1 1 5 0x346 77 []) ∧ repReign (report9 1 1 4 3 77 []) < s.pair.reign ∧
     repRole (report9 (2 + 8) 1 6 3 77 []) ≠ 1 ∧ repBit (report9 (2 + 8) 1 6 3 77 []) 3 = true) := by decide +kernel

/-- Shadow block 191 of cycle 9 and reign 6, but for its CRC. -/
def head191 : List Byte := be 1 1 ++ be 1 0x21 ++ be 2 191 ++ be 4 6 ++ be 8 9
/-- The same with its data. -/
@[irreducible] def data191 : List Byte := head191 ++ (zeros 16 ++ List.replicate 1024 7)
/-- The whole block. -/
@[irreducible] def block191 : List Byte := data191 ++ be 4 (crc32c data191)

theorem witness_PairRolesAndTakeover_block : block191.length = 1060 ∧
    beAt block191 1056 4 = crc32c (block191.take 1056) ∧ beAt block191 0 1 = 1 ∧ beAt block191 1 1 = 0x21 ∧
    beAt block191 8 8 = 9 ∧ beAt block191 2 2 < 192 ∧ beAt block191 4 4 = 6 := by
  have hh : head191.length = 16 := by decide +kernel
  have hl : data191.length = 1056 := by unfold data191; rw [List.length_append, hh, List.length_append, length_zeros, List.length_replicate]
  have field : ∀ o n, o + n ≤ 16 → beAt block191 o n = beAt head191 o n := by
    intro o n h
    unfold block191
    rw [beAt_prefix _ _ _ _ (by omega)]
    unfold data191
    exact beAt_prefix _ _ _ _ (by omega)
  refine ⟨by unfold block191; rw [List.length_append, hl, be, List.length_reverse, length_le], ?_, ?_⟩
  · unfold block191
    rw [crc32c_sealed _ _ hl, ← hl, List.take_left]
  · rw [field _ _ (by omega), field _ _ (by omega), field _ _ (by omega), field _ _ (by omega), field _ _ (by omega)]
    decide +kernel

theorem witness_PairRolesAndTakeover_shadow :
    (let s := paired (fun p => { p with report := some (report9 1 1 6 3 77 (be 2 0 ++ be 2 1)), heard := true })
     s.pair.role ≠ 0 ∧ s.cyc.begun = true ∧ s.cyc.cycle = 9 ∧ s.pair.heard = true ∧ s.pair.shadowNow = false ∧
     s.pair.fill = [] ∧ repBlocks (report9 1 1 6 3 77 (be 2 0 ++ be 2 1)) = 1 ∧
     repReign (report9 1 1 6 3 77 (be 2 0 ++ be 2 1)) = 6) ∧
    (paired (fun p => p)).pair.heard = false := by decide +kernel

theorem witness_PairRolesAndTakeover_roles :
    true ≠ (paired (fun p => p)).pair.pilIn ∧
    (let s := paired (fun p => { p with silent := 3, pilAct := true })
     s.pair.role ≠ 0 ∧ s.pair.linkLost = false ∧ 3 ≤ s.pair.silent ∧ s.pair.role = 2 ∧ s.pair.pilAct = true ∧
     s.pair.pathRaised = false) ∧
    (let s := paired (fun p => { p with silent := 3 })
     s.pair.pilAct = false ∧ s.pair.pilAct2 = false ∧ s.pair.pilNow = false) ∧
    (paired (fun p => p)).pair.silent < 3 ∧
    (let s0 := paired (fun p => { p with role := 3, candSince := some 900000000 })
     let s : State := { s0 with clk := { s0.clk with now := 3000000000 } }
     s.pair.role = 3 ∧ s.pair.candSince = some 900000000 ∧ s.pair.report = none ∧ 900000000 + 2100000000 ≤ s.clk.now ∧
     s.pair.pilAct = false ∧ s.pair.pilNow = false ∧ s0.clk.now < 900000000 + 1900000000) ∧
    (let s := paired (fun p => { p with role := 3, draw := some 0, drawLost := true })
     s.pair.draw = some 0 ∧ s.pair.nextRole = none ∧ s.pair.drawLost = true) := by decide +kernel

/-- A STANDBY with a whole shadow, of an ACTIVE of reign 7, with no network schedule. -/
def toTake (f : Pair → Pair) : State :=
  let s := paired (fun p => f { p with
    report := some activeReport, shadowOk := true, shadow := some ⟨activeReport, []⟩, partnerReign := 7 })
  { s with img := { s.img with modes := [] } }

theorem witness_PairRolesAndTakeover_switch :
    (let s := toTake (fun p => p)
     s.sup.quenchSince = none ∧ bitOf (1 : Word) 0 = true ∧ s.pair.wants = false ∧ s.pair.role = 2 ∧
     s.pair.report.isSome = true ∧ repRole (lastReport s) = 1 ∧ pairFit s = true ∧ isVoter s 63 = false) ∧
    pairFit (toTake (fun p => { p with shadowOk := false })) = false ∧
    (toTake (fun p => { p with role := 1 })).pair.role ≠ 2 := by decide +kernel

theorem witness_PairRolesAndTakeover_takeover :
    (let s := toTake (fun p => { p with takeover := some 2 })
     s.mod.mode.handed = true ∧ s.cyc.nextT0 = some 4000 ∧ 4000 ≤ s.clk.tb ∧ s.img.modes = [] ∧ vyfRuns s = false ∧
     s.cyc.begun = true ∧ s.cyc.phase = 3 ∧ s.mod.mode = .run ∧ s.cyc.forceStop = false ∧ s.pair.role = 2 ∧
     s.pair.released = false ∧ s.img.awn = none ∧ s.pair.reign < 2 ^ 32 - 1 ∧ s.pair.partnerReign < 2 ^ 32 - 1 ∧
     s.pair.shadow = some ⟨activeReport, []⟩ ∧ s.pair.takeover = some 2) ∧
    (let s := toTake (fun p => { p with wants := true, intent := some 10, shadowNow := true, release := some 10 })
     s.pair.takeover = none ∧ s.pair.intent = some s.cyc.nextNum ∧ s.pair.release = some (s.cyc.nextNum % 2 ^ 32)) ∧
    (let s := toTake (fun p => { p with linkLost := true })
     s.pair.takeover = none ∧ s.pair.wants = false ∧ s.pair.linkLost = true ∧ s.pair.pilNow = false ∧
     s.pair.pilAct = false) ∧
    (toTake (fun p => p)).pair.linkLost = false ∧
    (let s := toTake (fun p => { p with role := 1, pubNow := true, pilNow := true })
     s.pair.role = 1 ∧ s.pair.pubNow = true ∧ s.pair.pilNow = true ∧ s.pair.heard = false) := by decide +kernel

/-! ## Glume -/

/-- The key of the connection. -/
def glumeKey : List Byte := [1, 2, 3, 4, 5, 6, 7, 8]
/-- An inbound kernel connection of two words: TIMEOUT 3, CONFIRM 2, AGE_MAX 1, SEQ_GAP 4. -/
def glumeEnt : ConnEnt := ⟨true, 2, 0, true, true, glumeKey, 3, 9, 1, 2, 4, 1, 3, 2⟩
/-- RUN in cycle 0x30000 with that connection at number 0, in the given condition. -/
def glumeAt (x : Conn) : State :=
  lkPut 2 0x1000 0x80000000 { inRun with
    img := { loaded := true, conns := [glumeEnt, { glumeEnt with peer := 4 }] }
    cyc := { cycle := 0x30000, begun := true }
    glm := { conns := [(0, x)] } }
/-- A message of sequence number `seq`, reign `r` and words `ws`, under key `k`. -/
def glumeMsg (seq r : Nat) (ws : List Nat) (k : List Byte) : List Byte :=
  let m := be 1 0x60 ++ be 1 ws.length ++ be 2 9 ++ be 2 (seq % 65536) ++ be 2 0 ++ be 4 r ++ (ws.map (be 4)).flatten
  m ++ be 4 (crcGlume (k.reverse ++ le 1 1 ++ [0] ++ be 2 (seq / 65536) ++ m))
/-- A connection in a state, its last sequence number `l` and reign 5. -/
def conn (st l : Nat) : Conn :=
  { en := true, active := true, state := st, last := some l, reign := 5, confirmed := 1, words := [7#32, 8#32] }
/-- A carrier has handed the message over, on port 3 and on port 5. -/
def handed (s : State) (b : List Byte) : State := { s with glm := { s.glm with inbox := [(2, 3, b), (2, 5, b)] } }
/-- The fields a message is judged by: data age, sequence number, reign, check. -/
def judged (s : State) (b : List Byte) : Nat × Nat × Nat × Bool :=
  let d := (s.cyc.cycle % 65536 + 65536 - beAt b 4 2) % 65536
  let q := (s.cyc.cycle + 2 ^ 32 - d) % 2 ^ 32
  (d, q, beAt b 8 4, decide (beAt b 20 4 =
    crcGlume (glumeKey.reverse ++ le 1 (1 - glumeEnt.endNo) ++ [0] ++ be 2 (q / 65536) ++ b.take 20)))

theorem witness_GlumeConnectionsRun_judges :
    (let b := glumeMsg 0x2FFFF 6 [1, 2] glumeKey
     let s := handed (glumeAt (conn 3 0x2FFFE)) b
     s.glm.inbox.contains (2, 3, b) = true ∧ glumeMatch s 2 3 (beAt b 2 2 % 512) = some 0 ∧ (connAt s 0).en = true ∧ s.sup.quenchSince = none ∧ s.glm.inbox.contains (2, 5, b) = true ∧
     glumeMatch s 2 5 (beAt b 2 2 % 512) = none ∧
     connEnt s 0 = glumeEnt ∧ 12 + 4 * glumeEnt.rxWords = 20 ∧ (connAt s 0).en = true ∧ glumeFormat glumeEnt b = true ∧
     judged s b = (1, 0x2FFFF, 6, true) ∧ (connAt s 0).reign ≤ 6 ∧ 1 ≤ glumeEnt.ageMax ∧
     0x2FFFE ≤ 0x2FFFF ∧ 0x2FFFF - 0x2FFFE ≤ glumeEnt.seqGap ∧ (connAt s 0).last ≠ some 0x2FFFF ∧ (connAt s 0).state = 3) ∧
    (let b := glumeMsg 0x30000 5 [1] glumeKey
     glumeFormat glumeEnt b = false) ∧
    (let b := glumeMsg 0x30000 5 [1, 2] (zeros 8)
     let s := handed (glumeAt (conn 3 0x2FFFE)) b
     s.glm.inbox.contains (2, 3, b) = true ∧ glumeMatch s 2 3 (beAt b 2 2 % 512) = some 0 ∧ (connAt s 0).en = true ∧ glumeFormat glumeEnt b = true ∧ judged s b = (0, 0x30000, 5, false) ∧ (connAt s 0).runCheck < 2) ∧
    (let s := glumeAt { conn 3 0x2FFFE with runCheck := 2 }
     (connAt s 0).state = 3 ∧ 2 ≤ (connAt s 0).runCheck) ∧
    (let b := glumeMsg 0x30000 4 [1, 2] glumeKey
     let s := handed (glumeAt (conn 2 0x2FFFE)) b
     s.glm.inbox.contains (2, 3, b) = true ∧ glumeMatch s 2 3 (beAt b 2 2 % 512) = some 0 ∧ (connAt s 0).en = true ∧ glumeFormat glumeEnt b = true ∧ judged s b = (0, 0x30000, 4, true) ∧ 4 < (connAt s 0).reign) := by decide +kernel

theorem witness_GlumeConnectionsRun_order :
    (let b := glumeMsg 0x2FFFE 5 [1, 2] glumeKey
     let s := handed (glumeAt (conn 2 0x2FFFE)) b
     s.glm.inbox.contains (2, 3, b) = true ∧ glumeMatch s 2 3 (beAt b 2 2 % 512) = some 0 ∧ (connAt s 0).en = true ∧ glumeFormat glumeEnt b = true ∧ judged s b = (2, 0x2FFFE, 5, true) ∧ glumeEnt.ageMax < 2) ∧
    (let b := glumeMsg 0x30000 5 [1, 2] glumeKey
     let s := handed (glumeAt (conn 2 0x2FFFB)) b
     s.glm.inbox.contains (2, 3, b) = true ∧ glumeMatch s 2 3 (beAt b 2 2 % 512) = some 0 ∧ (connAt s 0).en = true ∧ glumeFormat glumeEnt b = true ∧ judged s b = (0, 0x30000, 5, true) ∧ (connAt s 0).last = some 0x2FFFB ∧
     glumeEnt.seqGap < 0x30000 - 0x2FFFB) ∧
    (let b := glumeMsg 0x30000 5 [1, 2] glumeKey
     let s := handed (glumeAt (conn 2 0x30000)) b
     s.glm.inbox.contains (2, 3, b) = true ∧ glumeMatch s 2 3 (beAt b 2 2 % 512) = some 0 ∧ (connAt s 0).en = true ∧ judged s b = (0, 0x30000, 5, true) ∧ (connAt s 0).last = some 0x30000 ∧ (connAt s 0).reign = 5) ∧
    (let b := glumeMsg 0x30000 5 [1, 2] glumeKey
     let s := handed (glumeAt { en := true, active := true, state := 1 }) b
     s.glm.inbox.contains (2, 3, b) = true ∧ glumeMatch s 2 3 (beAt b 2 2 % 512) = some 0 ∧ (connAt s 0).en = true ∧ glumeFormat glumeEnt b = true ∧ judged s b = (0, 0x30000, 5, true) ∧ (connAt s 0).last = none) ∧
    (let b := glumeMsg 0x30000 5 [1, 2] glumeKey
     let s := handed (glumeAt { conn 3 0 with en := false }) b
     s.glm.inbox.contains (2, 3, b) = true ∧ glumeMatch s 2 3 (beAt b 2 2 % 512) = some 0 ∧ (connAt s 0).en = false ∧
     (glumeAt (conn 3 0)).glm.inbox.contains (2, 3, b) = false) := by decide +kernel

theorem witness_GlumeConnectionsRun_times :
    (let s := glumeAt { conn 3 0x2FFFE with accCycle := 0x2FFFC }
     2 ≤ (connAt s 0).state ∧ (connAt s 0).accCycle + (connEnt s 0).timeout < s.cyc.cycle ∧ (connEnt s 0).used = true ∧
     (connAt s 0).en = true) ∧
    (let s := glumeAt { conn 3 0x2FFFE with accCycle := 0x2FFFD }
     s.cyc.cycle ≤ (connAt s 0).accCycle + (connEnt s 0).timeout) ∧
    (connAt (glumeAt {}) 511).state < 2 ∧ (connAt (glumeAt {}) 0).en = false ∧ (connAt (glumeAt {}) 0).active = false ∧
    (connEnt (glumeAt {}) 511).used = false ∧ isVoter (glumeAt {}) 63 = false := by decide +kernel

/-! ## Safe field I/O -/

/-- RUN with field I/O started and L+ good. -/
def fieldIo : State :=
  { inRun with
    mod := { mode := .run, handedAt := some 5 }, img := { loaded := true, fio := true }
    fio := { on := true, usable := true }, sup := { lplusOk := true } }
/-- Input 3 with the given configuration word and condition. -/
def inputOf (cfg : Word) (d : Din) : State :=
  lkPut 9 0x20C cfg { fieldIo with fio := { fieldIo.fio with di := modAt fieldIo.fio.di 3 (fun _ => d) } }

theorem witness_InputsAndFeedbackClassified_inputs :
    (let s := inputOf 0x205 { count := 1, fault := 1, high36 := 1, differ := 9, pending := true, lows := 1 }
     3 < 40 ∧ s.fio.on = true ∧ s.fio.di.length = 40 ∧ s.sup.quenchSince = none ∧ s.img.fio = true ∧
     s.sup.lplusOk = true ∧ (∀ j, j < 40 → j ≠ 3 → fieldOf (diCfg s j) 2 0 = 0) ∧ (∀ n, n < 16 → fbOn s n = false) ∧
     fieldOf (diCfg s 3) 2 0 = 5 ∧ fieldOf (diCfg s 3) 15 8 = 2 ∧ bitOf (diCfg s 3) 16 = false ∧
     (s.din 3).count ≤ 2 ∧ (s.din 3).fault ≤ 2 ∧ (s.din 3).high36 ≤ 2 ∧ (s.din 3).differ ≤ 10 ∧ (s.din 3).clsA < 4 ∧
     (s.din 3).path = false ∧ (s.din 3).pending = true ∧ 9 ≤ (s.din 3).differ) ∧
    ((70000 : Int) ≤ 70000 ∧ (41000 : Int) ≤ 41000 ∧ (47000 : Int) < 47001 ∧ (63999 : Int) < 64000) ∧
    (let s := inputOf 0x10201 { high36 := 1 }
     fieldOf (diCfg s 3) 2 0 = 1 ∧ bitOf (diCfg s 3) 16 = true ∧ (36000 : Int) < 36001 ∧ (14250 : Int) ≤ 36001 ∧
     (2749 : Int) < 2750 ∧ (3250 : Int) ≤ 3250 ∧ (10249 : Int) < 10250 ∧ (13749 : Int) < 13750 ∧ (s.din 3).overv = false) ∧
    (let s := inputOf 0x201 { differ := 8 }
     (s.din 3).differ < 9 ∧ (s.din 3).clsB < 4) ∧
    fieldOf (diCfg (inputOf 0 {}) 3) 2 0 = 0 := by decide +kernel

/-- Output 0 with feedback, in the given condition, its input as given. -/
def feedback (cmd val : Bool) (t0 : Nat) : State :=
  lkPut 9 0x400 0x80006000 (lkPut 9 0x404 0x805000A { fieldIo with fio := { fieldIo.fio with
    dq := modAt fieldIo.fio.dq 0 (fun _ => { cmd := cmd, fbSince := some t0 })
    fb := modAt fieldIo.fio.fb 0 (fun _ => { value := val }) } })

theorem witness_InputsAndFeedbackClassified_feedback :
    (let s := feedback true false 100000000
     s.fio.dq.length = 16 ∧ s.fio.usable = true ∧ fbOn s 0 = true ∧ (s.dq 0).fbSince = some 100000000 ∧
     (s.dq 0).fbSeen = false ∧ (s.dq 0).cmd = true ∧ 100000000 + fieldOf (dqFbCfg s 0) 9 0 * 1000000 ≤ s.clk.now ∧
     fbEnergised s 0 = false) ∧
    fbEnergised (feedback true true 100000000) 0 = true ∧ (feedback true true 100000000).fio.usable = true ∧
    (let s := feedback true false 1000000000
     s.clk.now < 1000000000 + fieldOf (dqFbCfg s 0) 9 0 * 1000000) ∧
    (let s := feedback false true 100000000
     (s.dq 0).cmd = false ∧ 100000000 + fieldOf (dqFbCfg s 0) 25 16 * 1000000 ≤ s.clk.now ∧ fbEnergised s 0 = true) ∧
    fbEnergised (feedback false false 100000000) 0 = false ∧
    (let s := feedback false false 1000000000
     s.clk.now < 1000000000 + fieldOf (dqFbCfg s 0) 25 16 * 1000000) ∧
    fbOn fieldIo 15 = false := by decide +kernel

/-- Output 12 used, alone, in the given condition, both group switches closed. -/
def output (d : Dout) : State :=
  lkPut 9 0x20 0x30064 (lkPut 9 0x460 0x800180C8 { fieldIo with fio := { fieldIo.fio with
    groups := [{ closed := true }, { closed := true }], dq := modAt fieldIo.fio.dq 12 (fun _ => d) } })
/-- The same with these other fields. -/
def output' (d : Dout) (f : Fio → Fio) : State := { output d with fio := f (output d).fio }

theorem witness_OutputsFollowAndAreTested_follow :
    (let s := output' { cmd := true } (fun x => { x with image := some (List.replicate 16 true, 3) })
     s.fio.dq.length = 16 ∧ s.fio.groups.length = 2 ∧ s.sup.quenchSince = none ∧ s.fio.on = true ∧
     s.fio.image = some (List.replicate 16 true, 3) ∧ (∀ n, n < 16 → (s.dq n).pulse = none ∧ fbOn s n = false)) ∧
    (let s := output { highs := 19, changed := some 999000000 }
     dqUsed s 12 = true ∧ (∀ m, m < 16 → m ≠ 12 → dqUsed s m = false) ∧ s.fio.usable = true ∧ (s.dq 12).cmd = false ∧
     (s.dq 12).cross = false ∧ (s.dq 12).differ = 0 ∧ (s.dq 12).path = false ∧ (s.dq 12).changed = some 999000000 ∧
     999000000 + settleNs s 12 ≤ s.clk.now ∧ s.fio.lastPulse = none ∧ (∀ m, m < 16 → (s.dq m).pulse = none) ∧
     (s.dq 12).highs = 19 ∧ touchesBad s.mem.mramBad 0x180 128 = false ∧ slot64 s 0x180 0x14 = none ∧
     slot64 s 0x1C0 0x14 = none ∧ (9250 : Int) ≤ 9250 ∧ (3750 : Int) ≤ 3750) ∧
    ((output { highs := 18 }).dq 12).highs < 19 := by decide +kernel

theorem witness_OutputsFollowAndAreTested_rounds :
    (let s := output' { cross := true, inRound := true } (fun x => { x with roundAt := 900000000 })
     s.img.fio = true ∧ s.fio.round = none ∧ s.fio.roundAt + fieldOf (lkAt s 9 0x20) 13 0 * 1000000 ≤ s.clk.now) ∧
    (let s := output' {} (fun x => { x with roundAt := 900000001 })
     s.clk.now < s.fio.roundAt + fieldOf (lkAt s 9 0x20) 13 0 * 1000000) ∧
    (let s := output' { cmd := true, changed := some 1 } (fun x => { x with round := some 988000000, slot := 12 })
     s.fio.on = true ∧ s.fio.usable = true ∧
     s.fio.round = some 988000000 ∧ s.fio.slot ≤ 12 ∧ 988000000 + 12 * 1000000 ≤ s.clk.now ∧
     s.clk.now < 988000000 + (12 + 1) * 1000000 ∧ (∀ m, m < 16 → (s.dq m).pulse = none) ∧
     (∀ g, g < 2 → (s.grp g).test = none) ∧ dqUsed s 12 = true ∧ (s.dq 12).cmd = true ∧ (s.dq 12).fault = false ∧
     (s.dq 12).changed = some 1 ∧ 1 + settleNs s 12 ≤ s.clk.now ∧ dqUsed s 15 = false ∧ 11 < s.fio.slot ∧
     s.clk.now < 988000000 + 18000000 ∧ s.clk.now < 988000000 + 13 * 1000000) ∧
    (let s := output' {} (fun x => { x with round := some 983000000, slot := 17 })
     groupUsed s 1 = true ∧ (s.grp 1).gsw = false ∧ s.fio.round = some 983000000 ∧ s.fio.slot ≤ 16 + 1 ∧
     983000000 + (16 + 1) * 1000000 ≤ s.clk.now ∧ s.clk.now < 983000000 + (17 + 1) * 1000000 ∧ (s.grp 1).closed = true ∧
     (∀ m, m < 16 → (s.dq m).pulse = none) ∧ (∀ g, g < 2 → (s.grp g).test = none)) ∧
    (let s := output' {} (fun x => { x with groups := [{}, {}] })
     groupUsed s 1 = true ∧ (s.grp 1).gsw = false ∧ (s.grp 1).closed = false ∧ (s.grp 1).test = none ∧
     groupMayClose s 1 = true ∧ s.fio.round = none) ∧
    (let s := output' {} (fun x => x)
     groupUsed s 1 = true ∧ (s.grp 1).gsw = false ∧ (s.grp 1).closed ≠ false ∧ s.fio.round = none) ∧
    (let s := output { cmd := true, want := true, pulse := some 999000000, rb := true }
     (s.dq 12).pulse = some 999000000 ∧ 999000000 + pulseNs s 12 ≤ s.clk.now ∧ fbOn s 12 = false ∧ (s.dq 12).rb = true ∧ (s.dq 12).path = false) ∧
    ((output { pulse := some 1 }).dq 12).rb = false ∧
    (let s := output { cmd := true, pulse := some 1000000000 }
     s.clk.now < 1000000000 + pulseNs s 12) ∧
    (let s := output' { cmd := true, cross := true, inRound := true } (fun x => { x with round := some 982000000 })
     s.fio.round = some 982000000 ∧ 982000000 + 18000000 ≤ s.clk.now ∧ s.fio.roundBad = false ∧ (s.dq 12).inRound = true ∧
     (s.dq 12).cross = true ∧ (s.dq 12).final = false) ∧
    (∀ n, n < 16 → ((output {}).dq n).inRound = false) := by decide +kernel

theorem witness_OutputLatchesSetAndReset_overloads :
    (let s := output { cmd := true }
     s.fio.dq.length = 16 ∧ s.fio.groups.length = 2 ∧ s.fio.on = true ∧ 65535 < 65536 ∧ dqUsed s 12 = true ∧
     (s.dq 12).cmd = true ∧ (s.dq 12).ovl = false ∧ (s.dq 15).cmd = false ∧ groupUsed s 1 = true ∧
     (s.grp 1).closed = true ∧ s.fio.usable = true ∧ (s.grp 1).ret = false ∧ bitOf (dqCfg s 12) 15 = true ∧
     (s.dq 12).openLoad = false ∧ (s.dq (8 * 1 + 4)).cmd = true) ∧
    (let s := output {}
     (∀ k, k < 8 → (s.dq (8 * 1 + k)).cmd = false) ∧ (∀ n, n < 16 → (s.dq n).pulse = none)) ∧
    bitOf (dqCfg (lkPut 9 0x460 0x800100C8 (output { cmd := true })) 12) 15 = false ∧
    ((output { cmd := true, openLoad := true }).dq 12).openLoad = true := by decide +kernel

theorem witness_OutputLatchesSetAndReset_resets :
    (let s := output { cross := true, highs := 19, differ := 9 }
     s.fio.on = true ∧ (0x1000).testBit 12 = true ∧ (s.dq 12).highs < 20 ∧ (s.dq 12).differ < 10 ∧ (s.dq 12).fbk = false ∧
     (0x0FFF).testBit 12 = false) ∧
    (let s := output { cross := true, highs := 20 }
     (s.dq 12).cross = true ∧ (s.dq 12).highs = 20) ∧
    (let s := output' {} (fun x => { x with groups := [{ ret := true, current := 50 }, { ret := true, current := 51 }] })
     (3).testBit 1 = true ∧ (1).testBit 1 = false ∧ (s.grp 0).current ≤ 50 ∧ 50 < (s.grp 1).current ∧
     groupAllOff s 1 = true) ∧
    63 < 64 ∧ 63 ≠ 0x2B ∧ isVoter fieldIo 63 = false ∧ isVoter fieldIo 0x18 = true ∧
    (let s := output' {} (fun x => { x with lost := true, usable := false, goodSince := some 900000000 })
     s.fio.lost = true ∧ s.fio.goodSince = some 900000000 ∧ 900000000 + 100000000 ≤ s.clk.now ∧
     s.clk.now < 900000001 + 100000000) := by decide +kernel

/-! ## The CAN FD controllers -/

/-- RUN with controller 1 as given; object 1 receives 0x55 to 0x7FF masked, object 2 sends; a Glume connection on each. -/
def canAt (c : Can) : State :=
  lkPut 11 0x30 0x210 (lkPut 11 0x34 0x7F0101 (lkPut 11 0x38 1000 (lkPut 11 0x100C 2 (lkPut 11 0x1014 0x55
    (lkPut 11 0x1018 0x7FF (lkPut 11 0x101C 2 (lkPut 11 0x1024 0x56 (lkPut 11 0x102C 0x801 { inRun with
      mod := { mode := .run, handedAt := some 5 }
      img := {
        loaded := true, can := [true, true],
        conns := [⟨true, 3, 0, true, true, [], 0, 9, 1, 2, 4, 1, 3, 2⟩, ⟨true, 3, 0, true, true, [], 0x800000, 9, 1, 2, 4, 1, 3, 2⟩] }
      glm := { conns := [(0, { en := true, active := true, state := 3 }), (1, { en := true, active := true, state := 3 })] }
      cyc := { begun := true, cycle := 9, t0 := 999900000 }
      can1 := c }))))))))
/-- A controller on the bus with objects 1 and 2 enabled. -/
def canOn : Can :=
  { en := true, active := true, state := 2, recErr := 3,
    objs := [(1, { en := true, active := true }), (2, { en := true, active := true })] }
/-- A frame of four bytes, identifier 0x55. -/
def frame55 : CanFrame := ⟨0x55, false, false, false, false, false, 4, [1, 2, 3, 4], 77⟩

theorem witness_CanReceivesAndChangesState_receives :
    (let s := canAt canOn
     1 < 2 ∧ s.sup.quenchSince = none ∧ (Instr.canFrameReceive 1 (.frame frame55)).wf = true ∧ (s.can 1).en = true ∧ (s.can 1).tec < 256 ∧
     5 < 6 ∧ 255 < 256 ∧ canOnBus s 1 = true ∧ (s.can 1).recErr < 128 ∧ 1 < 128 ∧
     frame55.remote = false ∧ objTakes s 1 frame55 1 = true ∧ (∀ j, j < 1 → objTakes s 1 frame55 j = false) ∧
     (s.canObj 1 1).new = false ∧ (∀ k, k < 128 → objTakes s 1 { frame55 with id := 0x54 } k = false)) ∧
    ((canAt { canOn with objs := [(1, { en := true, new := true })] }).canObj 1 1).new = true ∧
    (let s := lkPut 11 0x34 0x550002 (canAt canOn)
     canRole s 1 = 2 ∧ frame55.ide = false ∧ frame55.id = canRefId s 1 ∧ 4 ≤ frame55.data.length) ∧
    canOnBus (canAt {}) 1 = false ∧
    (let s := canAt { canOn with en := false, fell := some 77 }
     (s.can 1).en = false ∧ (s.can 1).active = true ∧ (s.can 1).fell = some 77 ∧ (77#32 - frame55.sof).toNat < 2 ^ 31 ∧
     canOnBus s 1 = true ∧ 2 ^ 31 ≤ (77#32 - ({ frame55 with sof := 78 } : CanFrame).sof).toNat) ∧
    (let s := lkPut 11 0x101C 0x22 (canAt canOn)
     objTakes s 1 frame55 1 = true ∧ objOwner s 1 1 = true) ∧ objOwner (canAt canOn) 1 1 = false ∧
    (let s := lkPut 11 0x48 3 (lkPut 11 0x34 2 (canAt { canOn with refSilent := 3 }))
     canRole s 1 = 2 ∧ (s.can 1).en = true ∧ 1 ≤ (s.can 1).refSilent ∧ fieldOf (canReg s 1 0x48) 7 0 ≤ (s.can 1).refSilent) ∧
    canRole (canAt canOn) 1 ≠ 2 := by decide +kernel

/-- An item of object 2 pending since this cycle. -/
def item2 : CanObj := { en := true, active := true, pending := true, since := 9 }
/-- The controller with that object alone and this bus. -/
def canItem (b : Option Nat) (o : CanObj) : State := canAt { canOn with onBus := b, tec := 8, objs := [(2, o)] }

theorem witness_CanSends_requests :
    (let s := canAt canOn
     1 < 2 ∧ s.sup.quenchSince = none ∧ 3 < 64 ∧ objDir s 1 2 = 1 ∧ objWriter s 3 1 2 = true ∧ objWriter s 0x25 1 2 = false ∧
     (s.canObj 1 2).pending = false ∧ s.pair.role ≤ 1 ∧ (s.canObj 1 2).en = true ∧ (s.can 1).en = true) ∧
    ((canItem none item2).canObj 1 2).pending = true ∧
    ({ canAt canOn with pair := { role := 2 } } : State).pair.role = 2 ∧
    (let s := canItem (some 2) item2
     (s.can 1).onBus = some 2 ∧ 2 < 128 ∧ canOnBus s 1 = true ∧ (s.canObj 1 2).pending = true ∧ (s.canObj 1 2).last = false ∧
     (s.canObj 1 2).disabled = false ∧ (Instr.canTxAttemptEnd 1 (.error 1 127 127 none)).wf = true ∧ (s.can 1).ref = none ∧
     (s.can 1).objs = [(2, item2)] ∧ item2.since ≠ cycleMark s) ∧
    (let s := lkPut 11 0x30 0x212 (lkPut 11 0x102C 0x811 (canItem (some 2) item2))
     canFlag s 1 1 = true ∧ bitOf (objCfg s 1 2) 4 = true ∧ (Instr.canTxAttemptEnd 1 (.success 7 (some 127))).wf = true ∧
     (s.canObj 1 2).pending = true ∧ canOnBus s 1 = true) ∧
    ((canItem (some 2) { item2 with last := true }).canObj 1 2).last = true ∧
    ((canItem (some 2) { item2 with disabled := true }).canObj 1 2).disabled = true ∧
    ((canItem (some 3) item2).can 1).onBus = some 3 ∧ ((canAt { canOn with objs := [] }).can 1).objs = [] := by decide +kernel

theorem witness_CanSends_reference :
    (let s := canAt canOn
     canRole s 1 = 1 ∧ (s.can 1).en = true ∧ s.mod.mode.handed = true ∧ s.pair.role ≤ 1 ∧ s.cyc.begun = true ∧
     s.mod.mode ≠ .shutdown ∧ s.cyc.cycle % fieldOf (canReg s 1 0x34) 15 8 = 0 ∧ (s.can 1).refSince ≠ cycleMark s ∧
     (s.can 1).ref = none ∧ s.cyc.t0 + (canReg s 1 0x38).toNat ≤ s.clk.now) ∧
    (let s := lkPut 11 0x38 100001 (canAt canOn)
     s.clk.now < s.cyc.t0 + (canReg s 1 0x38).toNat) ∧
    (let s := canAt { canOn with onBus := some 128, ref := some (be 8 5) }
     (s.can 1).ref = some (be 8 5) ∧ (s.can 1).onBus = some 128 ∧ canOnBus s 1 = true) := by decide +kernel

theorem witness_CanReceivesAndChangesState_states :
    (let s := canAt { tec := 9 }
     (s.can 1).en = false ∧ (s.can 1).active = false ∧ nth s.img.can 1 false = true ∧ s.rch.clkFault.contains 8 = false ∧
     (s.canObj 1 127).en = false ∧ (s.canObj 1 127).active = false) ∧
    (let s := canAt { canOn with state := 4, boffSince := some 900000000, objs := [(2, item2)] }
     (s.can 1).en = true ∧ (s.can 1).onBus = none ∧ canOnBus s 1 = false ∧ (s.can 1).ref = none ∧
     (s.canObj 1 2).pending = true ∧ 1 < s.img.conns.length ∧ (connEnt s 1).transport = 3 ∧
     (peerCan (connEnt s 1).peer).1 = 1 ∧ (s.canObj 1 2).en = true ∧ objDir s 1 2 = 1 ∧ (s.can 1).state = 4 ∧
     (s.can 1).boffSince = some 900000000 ∧ canFlag s 1 4 = true ∧
     900000000 + fieldOf (canReg s 1 0x30) 15 8 * 10000000 + 100000 ≤ s.clk.now) ∧
    (let s := canAt { canOn with state := 4, boffSince := some 999000000 }
     s.clk.now < 999000000 + fieldOf (canReg s 1 0x30) 15 8 * 10000000) ∧
    canFlag (lkPut 11 0x30 0 (canAt canOn)) 1 4 = false ∧ ((canAt { canOn with state := 1 }).can 1).state = 1 ∧
    ((canAt canOn).can 1).state ≠ 1 ∧ (Instr.canTxAttemptEnd 1 (.error 1 256 3 (some 5))).wf = true ∧ canOnBus (canItem (some 2) item2) 1 = true ∧
    ((canItem (some 2) item2).can 1).onBus = some 2 ∧ ((canAt { canOn with state := 5 }).can 1).state = 5 ∧
    ((canAt canOn).can 1).state ≠ 4 ∧ ((canAt canOn).can 1).state ≠ 5 := by decide +kernel

/-! ## The Culm bridge -/

/-- RUN or another state with outbound window 2 of these attributes, enabled or not, and inbound window 0. -/
def culmAt (attr : Word) (en : Bool) (m : Mode) (c : Culm) : State :=
  lkPut 12 0x1044 0x10000 (lkPut 12 0x1048 0x20000 (lkPut 12 0x104C 0x5550000 (lkPut 12 0x1050 attr (lkPut 12 0x1404 0x6660000
    (lkPut 12 0x1408 0x10000 (lkPut 12 0x140C 0x100001 (lkPut 12 0x1410 6 { inRun with
      mod := { mode := m, handedAt := some 5 }
      culm := { c with
        oEn := (List.replicate 16 false).set 2 en, oAct := (List.replicate 16 false).set 2 en
        iEn := [true, false, false, false], iAct := [true, false, false, false] } })))))))
/-- An access of window 2 by a fabric initiator. -/
def outItem (w : Bool) (size off : Nat) : CulmItem :=
  ⟨0x23, w, 0xC0010000 + off, size, if w then (List.range size).map (fun k => BitVec.ofNat 8 (k + 1)) else []⟩
/-- The same, waiting since 1 s. -/
def queued (i : CulmItem) (posted : Bool) : CulmOut := ⟨i, 2, posted, false, 1000000000, false, 0, []⟩
/-- A prefetch buffer of window 2 with every word unread. -/
def aBuf : CulmBuf := ⟨2, 0xC0010000, (List.range 64).map (BitVec.ofNat 8), 0xFFFF, 999989500⟩

theorem witness_CulmOutboundWork_accept :
    (let s := culmAt 0 true .run {}
     (outItem true 4 0x1FFFC).wf = true ∧ (outItem false 8 8).wf = true ∧ s.sup.quenchSince = none ∧ 20 ≤ 0x23 ∧
     s.mod.mode.handed = true ∧ oWindow s 0xC0030000 = none ∧ oWindow s 0xC002FFFC = some 2 ∧ oWindow s 0xC0010008 = some 2 ∧
     nth s.culm.oEn 2 false = true ∧ 4 < (outItem false 8 8).size ∧ bitOf (oAttr s 2) 2 = false ∧ bitOf (oAttr s 2) 4 = false ∧
     s.culm.bufs = [] ∧ bitOf (oAttr s 2) 0 = false ∧ bitOf (oAttr s 2) 1 = false) ∧
    (let f : Flight := ⟨⟨0x23, .write, 0xC0010000, 4, [1, 2, 3, 4], {}, .clean, true⟩, 5⟩
     let s : State := { culmAt 1 true .run {} with rch := { flight := [f] } }
     f ∈ s.rch.flight ∧ f.txn.init = (outItem false 4 8).init ∧ placeOf f.txn.addr = .culm) ∧
    (culmAt 0 true .run {}).rch.flight = [] ∧
    ({ outItem true 4 0 with addr := 0xC0030000 } : CulmItem).wf = true ∧
    nth (culmAt 0 false .run {}).culm.oEn 2 false = false ∧
    (let s := culmAt 16 true .safe {}
     bitOf (oAttr s 2) 4 = true ∧ s.mod.mode = .safe ∧ s.mod.mode.handed = true) ∧
    (let s := culmAt 1 true .run { out := List.replicate 15 (queued (outItem true 4 0) true) }
     bitOf (oAttr s 2) 0 = true ∧ postedCount s < 16) ∧
    16 ≤ postedCount (culmAt 1 true .run { out := List.replicate 16 (queued (outItem true 4 0) true) }) ∧
    (let s := culmAt 6 true .run { bufs := [aBuf] }
     bitOf (oAttr s 2) 1 = true ∧ s.culm.bufs = [aBuf] ∧ aBuf.win = 2 ∧
     aBuf.block = (outItem false 4 60).addr - (outItem false 4 60).addr % 64 ∧ aBuf.unread = 0xFFFF ∧
     oWindow s (outItem false 4 60).addr = some 2) := by decide +kernel

theorem witness_CulmOutboundWork_ends :
    (let o := queued (outItem true 4 8) false
     let s := culmAt 8 true .run { out := [o, queued (outItem false 4 8) false] }
     s.sup.quenchSince = none ∧ s.rch.flight = [] ∧ s.culm.out = o :: [queued (outItem false 4 8) false] ∧ 20 ≤ o.item.init ∧
     o.inSet = false ∧ (∀ x ∈ [queued (outItem false 4 8) false], x.inSet = false) ∧ s.culm.oItems.length = 16 ∧ o.win < 16 ∧
     s.culm.pass = false ∧ o.prefetch = false ∧ o.doneWords = 0 ∧ o.got = [] ∧ o.item.write = true ∧ o.posted = false ∧
     s.clk.now < o.since + 40000) ∧
    (queued (outItem false 4 8) false).item.write = false ∧ (queued (outItem true 4 8) true).posted = true ∧
    (let o : CulmOut := { queued (outItem true 4 8) true with since := 999940000 }
     let s := culmAt 0 true .run { out := [o] }
     s.culm.out = [o] ∧ o.since + 60000 ≤ s.clk.now) ∧
    (culmAt 0 true .run { pass := true }).culm.pass = true ∧ (∀ m ∈ [1, 7], 1 ≤ m ∧ m ≤ 7) ∧
    7 ∉ (culmAt 0 true .run { pass := true }).culm.served ∧ (culmAt 0 true .run {}).culm.out = [] ∧
    (let s := culmAt 0 true .run { bufs := [aBuf] }
     s.culm.bufs = [aBuf] ∧ aBuf.since + 10500 ≤ s.clk.now ∧ aBuf.unread ≠ 0) ∧
    (let b : CulmBuf := { aBuf with since := 999990501 }
     (culmAt 0 true .run {}).clk.now < b.since + 9500) := by decide +kernel

/-- An inbound word phase of master 3 in window 0. -/
def inPhase (w : Bool) (be : Nat) : CulmPhase := ⟨3, w, 0x6660004, be, 1, [1, 2, 3, 4], true, [3, 5]⟩
/-- The delayed read it latches. -/
def aRead (d : Option (Option (List Byte))) : CulmRd := ⟨3, 0x6660004, 15, 1, 0, d, 0, 0⟩

theorem witness_CulmInboundWork_phases :
    (let s := culmAt 0 true .run {}
     (inPhase true 15).wf = true ∧ (∀ m ∈ (inPhase true 15).reqs,
       ((inPhase true 15).master + 6 - s.culm.grant % 7) % 7 ≤ (m + 6 - s.culm.grant % 7) % 7) ∧ s.sup.quenchSince = none ∧ iWindow s 0x6650000 = none ∧ iWindow s 0x6660004 = some 0 ∧
     s.culm.out = [] ∧ s.culm.pass = false ∧ (inPhase true 15).parityOk = true ∧ (inPhase true 15).words = 1 ∧
     (inPhase true 8).be ∈ [8, 4, 2, 1, 12, 3, 15] ∧ (inPhase true 6).wf = true ∧
     ¬ (inPhase true 6).be ∈ [8, 4, 2, 1, 12, 3, 15] ∧ bitOf (iAttr s 0) 2 = true ∧ bitOf (iAttr s 0) 1 = true ∧
     s.culm.inq.length < 8 ∧ s.culm.reads.find? (sameRead (inPhase false 15)) = none ∧ s.culm.reads.length < 4) ∧
    ({ inPhase true 15 with parityOk := false } : CulmPhase).wf = true ∧
    (let s := culmAt 0 true .run { out := [queued (outItem false 4 8) false] }
     s.culm.out ≠ [] ∧ s.culm.pass = false ∧ (∀ o ∈ s.culm.out, o.inSet = false)) ∧
    (let s := culmAt 0 true .run { inq := List.replicate 8 (0, 3, 0x6660004 + 4294967296 * 15, 1, [1, 2, 3, 4]) }
     8 ≤ s.culm.inq.length) ∧
    (let s := culmAt 0 true .run { reads := (List.range 4).map (fun k => { aRead none with addr := 0x6660100 + 4 * k }) }
     s.culm.reads.find? (sameRead (inPhase false 15)) = none ∧ 4 ≤ s.culm.reads.length) ∧
    (sameRead (inPhase false 15) (aRead none) = true ∧ (aRead none).data = none ∧
      (aRead (some none)).data = some none ∧ (aRead (some (some [9, 8, 7, 6]))).data = some (some [9, 8, 7, 6])) := by
  decide +kernel

theorem witness_CulmInboundWork_grants :
    (let s := culmAt 0 true .run { out := [queued (outItem false 4 8) false], pass := true, served := [3] }
     s.culm.pass = true ∧ (inPhase true 15).master ∈ s.culm.served ∧ 5 ∈ (inPhase true 15).reqs ∧ 5 ∉ s.culm.served) ∧
    (let s := culmAt 0 true .run { pass := true, served := [2, 5], grant := 2 }
     s.culm.pass = true ∧ (inPhase true 15).master ∉ s.culm.served ∧
     (∀ m ∈ (inPhase true 15).reqs.filter (fun m => !s.culm.served.contains m),
       ((inPhase true 15).master + 6 - s.culm.grant % 7) % 7 ≤ (m + 6 - s.culm.grant % 7) % 7) ∧
     (∀ m ∈ (inPhase true 15).reqs, m = (inPhase true 15).master ∨ m ∈ s.culm.served)) ∧
    (let s := culmAt 0 true .run { pass := true, served := [2], grant := 2 }
     5 ∈ (inPhase true 15).reqs ∧ 5 ≠ (inPhase true 15).master ∧ 5 ∉ s.culm.served ∧ s.culm.inq.length < 8) ∧
    (let s := culmAt 0 true .run { grant := 3 }
     s.culm.pass = false ∧ ¬ ∀ m ∈ (inPhase true 15).reqs,
       ((inPhase true 15).master + 6 - s.culm.grant % 7) % 7 ≤ (m + 6 - s.culm.grant % 7) % 7) := by decide +kernel

theorem witness_CulmInboundWork_issues :
    (let s := lkPut 4 0x3908 7 (lkPut 4 0x3904 0x100001 (lkPut 4 0x3900 0x100001
       (culmAt 0 true .run { inq := [(0, 3, 0x6660004 + 4294967296 * 15, 1, [1, 2, 3, 4])] })))
     s.sup.quenchSince = none ∧ s.culm.inq = (0, 3, 0x6660004 + 4294967296 * 15, 1, [1, 2, 3, 4]) :: [] ∧
     0x6660004 % 4 = 0 ∧ 0x6660004 < 2 ^ 32 ∧ iBase s 0 ≤ 0x6660004 ∧ s.culm.iItems.length = 4 ∧
     inPhys s 0 0x6660004 = dramBase + 0x1004 ∧ 0x1004 + 4 ≤ 0x100000000 ∧
     firewallOk s 0x29 .write (dramBase + 0x1004) 4 = true) ∧
    (culmAt 0 true .run {}).culm.inq = [] := by decide +kernel

theorem witness_CulmInboundWork_reads :
    (let s := culmAt 0 true .run { reads := [aRead none] }
     s.culm.reads = [aRead none] ∧ (aRead none).data = none ∧ (aRead none).ahead = 0) ∧
    ({ aRead none with ahead := 1 } : CulmRd).ahead ≠ 0 ∧
    (let r : CulmRd := { aRead (some none) with since := 999935500 }
     r.data = some none ∧ r.since + 64500 ≤ (culmAt 0 true .run { reads := [r] }).clk.now) ∧
    (culmAt 0 true .run {}).clk.now < 999936501 + 63500 ∧
    (let s := culmAt 0 true .run {}
     s.culm.oEn.length = 16 ∧ s.culm.oAct.length = 16 ∧ s.culm.iEn.length = 4 ∧ s.culm.iAct.length = 4 ∧
     isVoter s 63 = false ∧ isVoter s 0x18 = true ∧ nth s.culm.iAct 3 false = false ∧ nth s.culm.oAct 15 false = false) := by
  decide +kernel

/-! ## The security engine and the maintenance port. Where a premise is the outcome of a signature check or of a key's
unwrapping, which Config leaves without a body, the witness has that outcome as its own premise. -/

/-- Session 1 with these privileges and an unused nonce. -/
def ses1 (priv : Nat) : Session := ⟨1, false, none, 500, some (List.replicate 16 9, 1000000000), priv, 100, 7⟩
/-- RUN, serving sessions 0 and 1, the copy that runs is A. -/
def serving (priv : Nat) : State :=
  lkPut 9 0x400 0x80000000 { inRun with
    mod := { mode := .run, handedAt := some 5 }
    sec := { ready := true, keys := true, sessions := [ses1 priv, { ses1 0 with id := 0 }], copyB := false }
    img := { loaded := true, secVersion := 5, debugPolicy := 1, confirmCycles := 3 }
    fuse := { serial := 0x123, rollback := 2, slots := [some [1], none, none, none], revoked := List.replicate 4 false }
    aon := { rtc := 50, kept := true }
    grn := { ready := true, next := 5 }
    mem := {
      norA := FMap.storeList [] 0xFF 0x8000018 [0, 0, 0, 0], norB := FMap.storeList [] 0xFF 0x8000010 [0, 0, 0, 0] } }
/-- The same with these fields of the engine. -/
def serving' (f : Sec → Sec) : State := { serving 0xFFFF with sec := f (serving 0xFFFF).sec }
/-- A handshake offer within R369 that ends at A0. -/
def offer : TlsOffer :=
  { relayed := false, optionsOk := true, chain := 3, anchor := some 0, sigOk := true, notBefore := 50, notAfter := 50,
    subj0 := 1, subj1 := 2, transcript := zeros 48 }
/-- A request of session 1 with a tag. -/
def ask : Req := ⟨1, 0xCAFE⟩

theorem witness_SessionsAndRequestsAnswered_sessions :
    (let s := serving 0
     s.sup.quenchSince = none ∧ offer.relayed = false ∧ portServes s = true ∧ s.sec.rngFailed = false ∧ s.sec.debug = false ∧
     s.sec.sessions.length < 4 ∧ s.fuse.a0Disable = false ∧ s.sec.keys = true ∧ offer.notBefore ≤ s.aon.rtc ∧
     s.aon.rtc ≤ offer.notAfter ∧ ¬ (1 ≤ ({ offer with chain := 0 } : TlsOffer).chain) ∧ s.area.a1.value = none ∧ 63 < 64 ∧
     s.mod.mode.released = true ∧ s.sec.ready = true ∧ sessionAt s 1 = some (ses1 0) ∧ (ses1 0).stream = none ∧
     s.clk.now < (ses1 0).idle + 599000000000) ∧
    4 ≤ (serving' (fun x => { x with sessions := List.replicate 4 (ses1 0) })).sec.sessions.length ∧
    (let s : State := { serving 0 with clk := { (serving 0).clk with now := 601000000500 } }
     (ses1 0).idle + 601000000000 ≤ s.clk.now) ∧
    (serving' (fun x => { x with install := some ⟨1, true, 100, 1, 0, false, 0xCAFE⟩ })).sec.install = some ⟨1, true, 100, 1, 0, false, 0xCAFE⟩ ∧
    (serving' (fun x => { x with rngFailed := true })).sec.rngFailed = true := by decide +kernel

/-- A token of 144 bytes for the serial, nonce, end and authority, its signature zeros. -/
def tokenOf (priv ser : Nat) (nonce : List Byte) (na auth : Nat) : List Byte :=
  le 4 0x4E4B4F54 ++ le 2 1 ++ le 2 priv ++ le 8 ser ++ nonce ++ le 8 na ++ le 1 auth ++ zeros 3 ++ le 4 77 ++ zeros 96

theorem witness_SessionsAndRequestsAnswered_requests :
    (let s := serving 0
     s.sec.recovery = false ∧ ask.ses < 4 ∧ ask.tag < 2 ^ 32 ∧ sessionAt s ask.ses = some (ses1 0) ∧ s.sec.keys = true ∧
     (List.replicate 16 (3 : Byte)).length = 16 ∧ (Instr.attest ask (List.replicate 16 3)).wf = true ∧
     18 < 19 ∧ 0xFFFC < 0x10000 ∧ 0xFFFC % 4 = 0 ∧ 0x427FFFF + 1 ≤ 0x4280000 ∧ 0x4280000 < 0x427FFFF + 2 ∧
     touchesBad s.mem.mramBad (0x427FFFF - 0x4000000) 1 = false ∧
     touchesBad s.mem.mramBad (0x4040000 - 0x4000000) 16375 = false) ∧
    sessionAt (serving' (fun x => { x with sessions := [{ ses1 0 with nonce := none }] })) 1 =
      some { ses1 0 with nonce := none } ∧ ({ ses1 0 with nonce := none } : Session).nonce = none := by decide +kernel

theorem witness_SessionsAndRequestsAnswered_token
    (hs : Config.ecdsaOk [1] (Config.sha384 ((tokenOf 0x7FF 0x123 (List.replicate 16 9) 50 0).take 0x30))
      (slice (tokenOf 0x7FF 0x123 (List.replicate 16 9) 50 0) 0x30 48)
      (slice (tokenOf 0x7FF 0x123 (List.replicate 16 9) 50 0) 0x60 48) = true)
    (ha : authorityKey (serving 0) 0 = some [1]) :
    let b := tokenOf 0x7FF 0x123 (List.replicate 16 9) 50 0
    let s := serving 0
    (ses1 0).nonce = some (List.replicate 16 9, 1000000000) ∧ b.length = 144 ∧ leAt b 0 4 = 0x4E4B4F54 ∧ leAt b 4 2 = 1 ∧
    leAt b 6 2 < 2048 ∧ slice b 0x29 3 = zeros 3 ∧ leAt b 8 8 = s.fuse.serial ∧ slice b 0x10 16 = List.replicate 16 9 ∧
    s.clk.now - 1000000000 < 59000000000 ∧ s.aon.rtc ≤ leAt b 0x20 8 ∧
    ∃ k, authorityKey s (leAt b 0x28 1) = some k ∧
      Config.ecdsaOk k (Config.sha384 (b.take 0x30)) (slice b 0x30 48) (slice b 0x60 48) = true := by
  refine ⟨rfl, by decide +kernel, by decide +kernel, by decide +kernel, by decide +kernel, by decide +kernel,
    by decide +kernel, by decide +kernel, by decide +kernel, by decide +kernel, [1], ?_, hs⟩
  have h : leAt (tokenOf 0x7FF 0x123 (List.replicate 16 9) 50 0) 0x28 1 = 0 := by decide +kernel
  rw [h]
  exact ha

theorem witness_PrivilegedRequests_priv :
    (let s := serving 0x800
     sessionAt s 1 = some (ses1 0x800) ∧ portServes s = true ∧ s.sec.recovery = false ∧
     (ses1 0x800).priv.testBit 9 = false ∧ (Instr.keySlotProgram ask 255 []).wf = true ∧ (Instr.imageData ask 4294967295 [1]).wf = true ∧
     255 < 256 ∧ regAt 0xF0000000 = some (0, 0) ∧ writePriv 0 0 = none) ∧
    (let s := serving' (fun x => { x with install := some ⟨1, true, 100, 1, 0, true, 0xCAFE⟩ })
     s.sec.install = some ⟨1, true, 100, 1, 0, true, 0xCAFE⟩ ∧ (ses1 0xFFFF).priv.testBit 9 = true ∧
     s.aon.rtc ≤ (ses1 0xFFFF).notAfter) ∧
    (let s0 := serving' (fun x => { x with recovery := true })
     let s : State := { s0 with mod := { mode := .boot } }
     s.sec.recovery = true ∧ portServes s = true) ∧
    (let s0 := serving 0xFFFF
     let s : State := { s0 with fio := { s0.fio with dq := modAt s0.fio.dq 15 (fun d => { d with cross := true, highs := 19 }) } }
     engineBusy s = false ∧ s.fio.dq.length = 16 ∧ (s.dq 15).highs < 20 ∧ (s.dq 15).differ < 10 ∧ (s.dq 15).fbk = false) := by
  decide +kernel

/-- The same with a region of initiator 0x2B over the register space and over MRAM, each to its end. -/
def granted (s : State) : State :=
  lkPut 4 0x3B00 0 (lkPut 4 0x3B04 0xFFFFFF (lkPut 4 0x3B08 7 s))

theorem witness_SessionsAndRequestsAnswered_firewall :
    (let s := granted (serving 0)
     firewallOk s 0x2B .read (0xF0000000 + 0x10000 * 18 + 0xFFFC) 4 = true ∧ fencedIn s (0xF0000000 + 0x10000 * 18 + 0xFFFC) = false ∧
     firewallOk s 0x2B .read 0x4040000 64 = true ∧ firewallOk s 0x2B .read 0x427FFC0 64 = true ∧ s.mem.mramBad = []) ∧
    (let s : State := { granted (serving 0xFFFF) with fio := { (serving 0).fio with on := true } }
     firewallOk s 0x2B .write 0xF0090030 4 = true ∧ s.fio.on = true) := by decide +kernel

theorem witness_SessionsAndRequestsAnswered_readMem : ∀ p k, 0x4040000 ≤ p → 1 ≤ k → k ≤ 64 → p + k ≤ 0x4040000 + 2 →
    firewallOk (granted (serving 0)) 0x2B .read p k = true := by
  have h : ∀ i, i < 2 → ∀ k, k < 3 → firewallOk (granted (serving 0)) 0x2B .read (0x4040000 + i) k = true := by decide +kernel
  intro p k h1 h2 _ h3
  have e : p = 0x4040000 + (p - 0x4040000) := by omega
  rw [e]
  exact h _ (by omega) _ (by omega)

theorem witness_InstallAndConfirm_install :
    (let s := serving 0xFFFF
     sessionAt s 1 = some (ses1 0xFFFF) ∧ portServes s = true ∧ s.sec.recovery = false ∧ privOf s (ses1 0xFFFF) 5 = true ∧
     engineBusy s = false ∧ s.sec.install = none ∧ copyState s s.sec.copyB = .good ∧ 0x600 % 64 = 0 ∧ 0x8000000 % 64 = 0 ∧
     s.mod.mode.released = true ∧ s.mod.mode ≠ .shutdown ∧ s.mod.shutPending = false ∧ s.sec.trial = false) ∧
    (let i : Install := ⟨1, true, 0x600, 9, 0, false, 0xCAFE⟩
     let s := serving' (fun x => { x with install := some i })
     s.sec.install = some i ∧ i.ses = 1 ∧ engineBusy s = false ∧ (Instr.imageData ask 0x5FF [7]).wf = true ∧
     0x5FF + [7].length ≤ i.len ∧ i.len < 0x600 + [7].length ∧ i.ended = false) := by decide +kernel

theorem witness_InstallAndConfirm_complete :
    (let s := serving' (fun x => { x with install := some ⟨1, true, 0x600, 9, 0, true, 0xCAFE⟩ })
     s.sec.install = some ⟨1, true, 0x600, 9, 0, true, 0xCAFE⟩ ∧ (checkGenuine s true).1 ≠ 0 ∧ s.sec.recovery = false ∧
     norGet s true 0x8000000 4 = [0xFF, 0xFF, 0xFF, 0xFF] ∧ 9 < 2 ^ 32) ∧
    (let s0 := serving' (fun x => { x with trial := true })
     let s : State := { s0 with cyc := { s0.cyc with runCycles := 3 } }
     s.sec.trial = true ∧ s.img.confirmCycles ≠ 0 ∧ s.img.confirmCycles ≤ s.cyc.runCycles) ∧
    (let s0 := serving 0
     let s : State := { s0 with cyc := { s0.cyc with runCycles := 2 } }
     s.cyc.runCycles < s.img.confirmCycles ∧ s.sec.trial = false) := by decide +kernel

theorem witness_PrivilegedRequests_keys :
    (let s := serving 0xFFFF
     let k := List.replicate 96 (5 : Byte)
     privOf s (ses1 0xFFFF) 9 = true ∧ privOf s (ses1 0xFFFF) 8 = true ∧ privOf s (ses1 0xFFFF) 7 = true ∧
     engineBusy s = false ∧ (Instr.keySlotProgram ask 3 k).wf = true ∧ s.fuse.slots.length = 4 ∧ k.length = 96 ∧
     nth s.fuse.slots 3 none = none ∧ s.fuse.revoked.length = 4 ∧ anchorKey s 1 = none ∧ anchorKey s 2 = none ∧
     s.sec.keys = true ∧ (Instr.anchorInstall ask 2 k).wf = true ∧
     (Instr.imageKeyInstall ask 1 (List.replicate 40 0)).wf = true ∧
     (∀ n, n < 4 → n ≠ 0 → nth s.fuse.revoked n false = true ∨ nth s.fuse.slots n none = none) ∧
     nth s.fuse.revoked 0 false = false ∧ nth s.fuse.slots 0 none ≠ none ∧ s.img.debugPolicy = 1 ∧ s.pair.role ≠ 1 ∧
     s.mod.mode ≠ .stop ∧ s.mod.mode ≠ .safe ∧ s.grn.ready = true ∧ s.grn.queue = [] ∧ s.grn.clears < 2 ^ 32 - 1) ∧
    (let s : State := { serving 0xFFFF with fuse := {
       serial := 0x123, slots := [some [1], some [2], none, none], revoked := List.replicate 4 false } }
     nth s.fuse.slots 1 none ≠ none ∧ 1 ≠ 0 ∧ nth s.fuse.revoked 1 false = false) ∧
    anchorKey { serving 0xFFFF with area := { a1 := ⟨some ⟨1, List.replicate 96 5, true⟩, none⟩ } } 1 ≠ none ∧
    (inMode (serving 0xFFFF) .stop).mod.mode = .stop := by decide +kernel

/-- The clearing of chapter 19: the ring 40,000 to 105,535, stopped full with 312 lost, clearings 1 to 4 in the history. -/
theorem test_clearing_of_the_example :
    (let s0 := serving 0xFFFF
     let s : State := { s0 with
       sec := { s0.sec with sessions := [{ ses1 0xFFFF with authId := 0xA17 }] }
       grn := { s0.grn with base := 40000, next := 105536, full := true, lost := 312, clears := 4 } }
     let t := opClearRecords ask s.begin
     (t.grn.base, t.grn.next, t.grn.clears, t.grn.full, t.grn.lost) = (105536, 105536, 5, false, 0) ∧
     (t.grn.queue.map (fun r => (r.code, r.detail, r.d0, r.d1))).take 1 = [(0x2F10, 5, 65536, 0xA17)] ∧
     (t.grn.queue.map (fun r => r.code)) = [0x2F10, 0x2D36]) := by decide +kernel

/-! ## Orderly shut-down and the run of Thresh -/

/-- RUN with six triads voting. -/
def toStop (f : Mod → Mod) : State := { withTriads 1 with mod := f (withTriads 1).mod }

theorem witness_OrderlyShutdown_requests :
    (let s := toStop (fun m => m)
     s.mod.mode.released = true ∧ s.mod.mode ≠ .shutdown ∧ s.sec.recovery = false ∧ s.mod.shutPending = false ∧
     shutWriter s 0x18 = true ∧ bitOf (3 : Word) 0 = true ∧ shutWriter s 63 = false ∧ 63 < 64) ∧
    (let s0 := inMode inRun .boot
     let s : State := { s0 with sec := { recovery := true } }
     s.sec.recovery = true ∧ s.mod.mode.released = true) ∧
    (toStop (fun m => { m with shutPending := true })).mod.shutPending = true ∧
    shutWriter (toStop (fun m => { m with shutPending := true })) 0x18 = true := by decide +kernel

theorem witness_OrderlyShutdown_runs :
    (let s := toStop (fun m => { m with shutPending := true })
     s.sup.quenchSince = none ∧ s.mem.mramBad = [] ∧ s.mod.shutPending = true ∧ s.mod.mode.handed = true ∧ handoffOver s = true ∧
     (List.range 6).any (fun k => (s.tri k).runs) = true) ∧
    (List.range 6).all (fun k => !((withTriads 6).tri k).runs) = true ∧
    (let s := toStop (fun m => {
       m with mode := .shutdown, shutPending := true, shutStep := 3, graceSince := some 905000000, ready := 0x2F })
     s.mod.mode = .shutdown ∧ s.mod.shutStep = 3 ∧ isVoter s 0x1C = true ∧
     (∀ k, k < 6 → k ≠ 0x1C - 0x18 → s.mod.ready.testBit k = true) ∧ isVoter s 0x18 = true ∧ (s.tri 4).runs = true ∧
     (s.tri 4).split = false ∧ 4 ≠ 0x18 - 0x18 ∧ s.mod.ready.testBit 4 = false ∧ s.mod.graceSince = some 905000000 ∧
     905000000 + 95000000 ≤ s.clk.now) ∧
    (let s := toStop (fun m => { m with mode := .shutdown, shutStep := 4 })
     s.mod.mode = .shutdown ∧ s.mod.shutStep = 4 ∧ (⟨[(959, 511)], [(959, 3)], [28], [19], 65535⟩ : ThreshObs).wf = true) ∧
    (let s0 := toStop (fun m => { m with mode := .shutdown, shutStep := 5 })
     let s : State := { s0 with thr := { run := some ⟨[], [], [], [], 0⟩ } }
     s.thr.run = some ⟨[], [], [], [], 0⟩) := by decide +kernel

/-- A module ACTIVE beside a partner that is STANDBY and FIT, handing off since cycle 9. -/
def handingOff : State :=
  { paired (fun p => { p with role := 1, report := some (report9 (2 + 4) 1 5 3 77 []) }) with
    mod := { mode := .run, handedAt := some 5, shutPending := true, shutStep := 1, handoff := some 9 } }

theorem witness_OrderlyShutdown_handoff : handingOff.mod.shutPending = true ∧ handoffOver handingOff = false := by
  decide +kernel

/-- What a run finds: four rows of bank 3 with a bad spare, a row of another core's bank. -/
def found : ThreshObs := ⟨[(3, 5), (3, 6), (3, 7), (3, 8), (40, 1)], [(3, 0)], [1], [2], 3⟩

theorem witness_ThreshFindings : found.wf = true ∧ (threshFind inRun found).reps ≠ [] ∧ (threshFind inRun found).exh = [3] ∧
    (40, 1) ∈ found.rows ∧ unitTested inRun (40 / 32) = true ∧ 40 ∉ (threshFind inRun found).exh ∧
    (threshFind inRun found).retire ≠ [] := by decide +kernel

/-! ## Granary and life data -/

/-- Granary ready in its fourth power-on, with these fields. -/
def recording (f : Grn → Grn) : State := { inRun with grn := f { ready := true, base := 10, next := 15, power := 3 } }

theorem witness_GranaryRecordsEvents_raise :
    (let s := recording (fun g => { g with queue := List.replicate 15 (stamped inRun 0x2801 0 0 0 0) })
     s.sup.quenchSince = none ∧ codeListed 0x3201 = true ∧ 0x3201 ≠ 0x2107 ∧ 65535 < 65536 ∧ s.mod.mode ≠ .powerOff ∧
     rateLimited 0x3201 = false ∧ s.mod.mode ≠ .supervised ∧ s.grn.full = false ∧ s.grn.queue.length < 16 ∧
     rateLimited 0x2801 = true ∧ rateOpen s 0x2801 (rateIndex 0x2801 5) = false ∧ codeListed 0x2801 = true ∧
     codeListed 0x2100 = false ∧ 0x3201 ≠ 0x2F13) ∧
    (let s := recording (fun g => { g with queue := List.replicate 16 (stamped inRun 0x2801 0 0 0 0) })
     16 ≤ s.grn.queue.length ∧ s.grn.dropped < 0xFFFFFFFF ∧ s.grn.full = false) ∧
    (let s := recording (fun g => { g with full := true, lost := 0xFFFFFFFE })
     s.grn.full = true ∧ s.grn.lost < 0xFFFFFFFF) ∧
    (inMode inRun .supervised).mod.mode = .supervised ∧
    (let s := recording (fun g => { g with rates := [⟨0x2801, 5, 0, 2, 5, 9⟩] })
     rateOpen s 0x2801 (rateIndex 0x2801 5) = true ∧ rateIndex 0x2801 5 = 5) := by decide +kernel

theorem witness_GranaryRecordsEvents_write :
    (let s := recording (fun g => { g with rates := [⟨0x2801, 5, 0, 0, 5, 9⟩] })
     s.grn.rates = [⟨0x2801, 5, 0, 0, 5, 9⟩] ∧ 0 + 1000000000 ≤ s.clk.now ∧ s.mod.mode ≠ .powerOff ∧
     s.mod.mode ≠ .supervised) ∧
    (let s := recording (fun g => { g with rates := [⟨0x2801, 5, 0, 2, 5, 9⟩] })
     s.grn.full = false ∧ s.grn.queue.length < 16 ∧ s.grn.rates = [⟨0x2801, 5, 0, 2, 5, 9⟩]) ∧
    (let r := stamped inRun 0x2801 1 0 2 3
     let s := recording (fun g => { g with queue := [r], next := 10 + 65534 })
     s.grn.ready = true ∧ s.grn.queue = r :: [] ∧ s.grn.full = false ∧ ringHeld s < 65535 ∧ s.grn.overflow = 0) ∧
    (let s := recording (fun g => { g with queue := [stamped inRun 0x2801 1 0 2 3], overflow := 3 })
     ringHeld s < 65535 ∧ 0 < s.grn.overflow) ∧
    ringHeld (recording (fun g => { g with queue := [stamped inRun 0x2801 1 0 2 3], next := 10 + 65535 })) = 65535 := by
  decide +kernel

/-- The operating-seconds count in both slots, or in slot 0 alone. -/
def hoursIn (both : Bool) : State :=
  let s := recording (fun g => g)
  let m := s.mem.mramPut 0 (sealed64 (le 8 70 ++ le 4 6 ++ zeros 48))
  { s with mem := if both then m.mramPut 0x40 (sealed64 (le 8 71 ++ le 4 7 ++ zeros 48)) else m }

theorem witness_LifeDataKept :
    (let s := recording (fun g => { g with incr := [(0x241000, 2), (0x248000, 3)] })
     s.grn.ready = true ∧ FMap.wf 0 s.grn.incr = true ∧ (∀ e ∈ s.grn.incr, e.1 % 8 = 0) ∧
     (∀ e ∈ s.grn.incr, touchesBad s.mem.mramBad e.1 8 = false) ∧
     ({ s with aon := { s.aon with whole := true } } : State).aon.whole = true ∧ 0x248000 % 8 = 0 ∧
     (0x248000, 3) ∈ s.grn.incr) ∧
    inRun.grn.ready = false ∧ inRun.mod.mode.released = true ∧
    ((4 : Int) * (-40 + 10 * 14) ≤ 439 ∧ (439 : Int) < 4 * (-30 + 10 * 14)) ∧
    (100 * (10 * 1 + 10) ≤ 2000 ∧ 2000 < 100 * (10 * 1 + 20)) ∧
    slot64 (hoursIn true) 0 8 = some 6 ∧ slot64 (hoursIn true) 0x40 8 = some 7 ∧
    slot64 (hoursIn false) 0 8 = some 6 ∧ slot64 (hoursIn false) 0x40 8 = none := by decide +kernel

/-! ## The whole module -/

/-- Reset with one command waiting. -/
def oneWaiting : State := State.reset.withFront (.powerOn 1)

theorem witness_StepRunsFrontCommand : oneWaiting.pending = .powerOn 1 :: [] ∧ State.reset.pending = [] := ⟨rfl, rfl⟩

theorem witness_EveryCommandCompletes : (Instr.powerOn 7).wf = true ∧ (Instr.powerOn 8).wf = false := by
  decide +kernel

/-- The command completes, so the invariants have a step to speak of. -/
theorem witness_invariants_step : ∃ t, step oneWaiting = .next t := ⟨_, rfl⟩

theorem witness_OutputsActOnlyWhereAllowed :
    (∀ n, n < 16 → (oneWaiting.dq n).cmd = true → stateActs oneWaiting = true ∧ roleActs oneWaiting = true) ∧
    (∀ g, g < 2 → (oneWaiting.grp g).closed = true → stateActs oneWaiting = true ∧ roleActs oneWaiting = true) := by
  decide +kernel

theorem witness_OutputsActOnlyWhereAllowed_acting :
    (let s := output { cmd := true }
     (s.dq 12).cmd = true ∧ (s.grp 1).closed = true ∧ stateActs s = true ∧ roleActs s = true) := by decide +kernel

theorem witness_TablesStayCanonical : oneWaiting.mem.wf = true ∧ FMap.wf 0 oneWaiting.lk = true ∧
    FMap.wf 0 oneWaiting.grn.incr = true ∧ FMap.wf {} oneWaiting.awn.bank.timers = true ∧
    FMap.wf {} oneWaiting.awn.otherBank.timers = true ∧
    (∀ l ∈ oneWaiting.awn.lanes, FMap.wf {} l.d.timers = true) := by decide +kernel

theorem witness_UnitsStayInNumber : oneWaiting.shaped := by
  unfold State.shaped
  decide +kernel

theorem witness_FusesOnlyBlown :
    let s := serving' (fun x => { x with trial := true })
    ∃ t, step (s.withFront (.confirm ask)) = .next t := ⟨_, rfl⟩

theorem witness_ModuleStateMoves :
    let s : State := { runBoundary with cyc := { runBoundary.cyc with phase := 2 } }
    ∃ t, step (s.withFront .cycleBoundary) = .next t := ⟨_, rfl⟩

/-- The table gives no row any bits, so no word spells a command (log 5). -/
theorem test_no_word_spells_a_command : decodeTableWord 32 0 = none := rfl


end Sys2Proof.Tests
end

section
/-! PROOF. The step and the reset state (00 R4, R15, 08 R195, 20 R412, R413). -/

namespace Sys2Proof.Machine

/-- Where the train time runs, it moves in the clock alone, and the counter of the model's nanoseconds is not in it. -/
theorem tickTrain_eq (s : State) :
    ∃ k, tickTrain s = { s with clk := k } ∧ k.now = s.clk.now := by
  unfold tickTrain
  split
  · exact ⟨s.clk, rfl, rfl⟩
  · exact ⟨_, rfl, rfl⟩

theorem tickRtc_eq (s : State) : ∃ a, tickRtc s = { s with aon := a } := by
  unfold tickRtc
  split
  · exact ⟨s.aon, rfl⟩
  · dsimp only
    split
    · exact ⟨_, rfl⟩
    · split <;> exact ⟨_, rfl⟩

theorem tickSecs_eq (s : State) : ∃ a, tickSecs s = { s with aon := a } := by
  unfold tickSecs
  split
  · exact ⟨s.aon, rfl⟩
  · dsimp only
    split <;> exact ⟨_, rfl⟩

/-- 8 ns of time with no command: the clock, the always-on domain, and the answers of the step before gone. -/
theorem tick_eq (s : State) :
    ∃ k a, tick s = { s with clk := k, aon := a, out := [] } ∧ k.now = s.clk.now + tickNs := by
  obtain ⟨k, hk, hnow⟩ := tickTrain_eq s
  obtain ⟨a, ha⟩ := tickRtc_eq (tickTrain s)
  obtain ⟨b, hb⟩ := tickSecs_eq (tickRtc (tickTrain s))
  refine ⟨{ k with now := k.now + tickNs }, b, ?_, by rw [hnow]⟩
  rw [tick, hb, ha, hk]

/-- Settles O53: `step` looks at the queue alone, and with none waiting it is `tick`, whose frame `tick_eq` gives. -/
theorem stepRunsFrontCommand : Obligations.StepRunsFrontCommand := by
  refine fun s => ⟨fun c r h => step_front s c r h, fun _ => rfl, fun h => ?_⟩
  obtain ⟨k, a, ht, hnow⟩ := tick_eq s
  refine ⟨tick s, step_idle s h, by rw [ht]; exact hnow, fun p hp => ?_⟩
  rw [ht]
  cases p
  case clk | aon => simp at hp
  all_goals rfl

/-- Settles O55: every part of the reset state is a literal, so each clause is a computation. -/
theorem resetState : Obligations.ResetState := by
  refine ⟨rfl, rfl, rfl, rfl, rfl, rfl, rfl, rfl, rfl, rfl, rfl, rfl, by decide, by decide, rfl, rfl, rfl, rfl, rfl,
    fun _ _ => rfl, ?_, ?_, ?_⟩
  · unfold State.canonical; decide
  · unfold State.shaped; decide
  · unfold OutputsWhereAllowed; decide
end Sys2Proof.Machine
end

section
/-! PROOF. The face of a state, and what of the model leaves it as it is (00 R4, R5, 14 R313). -/

namespace Sys2Proof.Machine

/-! ### The face of the module

R4, R5 and R313 speak of four things: the module state, the role, the channels' commands and the group switches. They
are the state's face. Most of the model leaves the face as it is, and says so by one equation per function. -/

/-- What the module states, the role and the field outputs show of a state. -/
structure Face where
  mode : Mode
  role : Nat
  cmds : List Bool
  closed : List Bool

/-- The face of a state. -/
def face (s : State) : Face where
  mode := s.mod.mode
  role := s.pair.role
  cmds := s.fio.dq.map (·.cmd)
  closed := s.fio.groups.map (·.closed)

/-- A state written out by its fields: `simp` reads the face off a record update with it. -/
@[simp] theorem face_mk (pending out clk mod mem lk img rch trd awn cyc sch vyf fab hub pair glm fio can0 can1 culm sup aon
    sec area fuse thr grn eng free) :
    face ⟨pending, out, clk, mod, mem, lk, img, rch, trd, awn, cyc, sch, vyf, fab, hub, pair, glm, fio, can0, can1, culm,
      sup, aon, sec, area, fuse, thr, grn, eng, free⟩ =
    ⟨mod.mode, pair.role, fio.dq.map (·.cmd), fio.groups.map (·.closed)⟩ := by
  unfold face; rfl

/-- The fields of one state put together again. (By `unfold`, so that `simp` may use it on side goals too.) -/
@[simp] theorem face_eta (s : State) :
    (⟨s.mod.mode, s.pair.role, s.fio.dq.map (·.cmd), s.fio.groups.map (·.closed)⟩ : Face) = face s := by
  unfold face; rfl

@[simp] theorem face_ite (c : Prop) [Decidable c] (s t : State) :
    face (if c then s else t) = if c then face s else face t := apply_ite face c s t

@[simp] theorem face_ite_snd {α : Type} (c : Prop) [Decidable c] (x y : α × State) :
    face (if c then x else y).2 = if c then face x.2 else face y.2 := apply_ite (fun z => face z.2) c x y

@[simp] theorem face_ite_snd_snd {α β : Type} (c : Prop) [Decidable c] (x y : α × β × State) :
    face (if c then x else y).2.2 = if c then face x.2.2 else face y.2.2 := apply_ite (fun z => face z.2.2) c x y

/-! ### The face under the model's list operations -/

/-- A change of one entry that leaves a field of the entry alone leaves the list of that field alone. -/
theorem map_modAt {α β : Type} (g : α → β) (l : List α) (n : Nat) (f : α → α) (h : ∀ a, g (f a) = g a) :
    (modAt l n f).map g = l.map g := by
  induction l generalizing n with
  | nil => cases n <;> simp [modAt]
  | cons a t ih => cases n <;> simp [modAt, h, ih]

/-- The same of a change of every entry. -/
theorem map_mapIdxFrom {α β : Type} (g : α → β) (i : Nat) (f : Nat → α → α) (l : List α)
    (h : ∀ i a, g (f i a) = g a) : (mapIdxFrom i f l).map g = l.map g := by
  induction l generalizing i with
  | nil => rfl
  | cons a t ih => simp [mapIdxFrom, h, ih]

@[simp] theorem face_modDq (n : Nat) (f : Dout → Dout) (s : State) (h : ∀ d, (f d).cmd = d.cmd) :
    face (modDq n f s) = face s := by
  simp [modDq, map_modAt _ _ _ _ h]

@[simp] theorem face_modGrp (n : Nat) (f : Group → Group) (s : State) (h : ∀ d, (f d).closed = d.closed) :
    face (modGrp n f s) = face s := by
  simp [modGrp, map_modAt _ _ _ _ h]

@[simp] theorem face_forAll {α : Type} (l : List α) (f : α → State → State) (s : State)
    (h : ∀ a s, face (f a s) = face s) : face (forAll l f s) = face s := by
  induction l generalizing s with
  | nil => rfl
  | cons a t ih => simp [forAll, ih, h]

@[simp] theorem face_forIdx {α : Type} (i : Nat) (l : List α) (f : Nat → α → State → State) (s : State)
    (h : ∀ i a s, face (f i a s) = face s) : face (forIdx i l f s) = face s := by
  induction l generalizing i s with
  | nil => rfl
  | cons a t ih => simp [forIdx, ih, h]

@[simp] theorem face_putEnabled (put : Nat → List Byte → State → State) (o : Nat) (bs : List Byte) (en : Nat) (s : State)
    (h : ∀ o b s, face (put o b s) = face s) : face (putEnabled put o bs en s) = face s := by
  simp [putEnabled, h]

/-! ### What leaves the face as it is

One equation for each function of the model that touches none of the four, in the order of the chapters' files. -/

/-! #### Operations that every chapter shares -/

@[simp] theorem face_emit (o s) : face (emit o s) = face s := by simp [emit]
@[simp] theorem face_drawn (s) : face (drawn s) = face s := by simp [drawn]
@[simp] theorem face_drawnN (n s) : face (drawnN n s) = face s := by simp [drawnN]
@[simp] theorem face_lifeAdd (off n s) : face (lifeAdd off n s) = face s := by simp [lifeAdd]
@[simp] theorem face_dropRecord (s) : face (dropRecord s) = face s := by simp [dropRecord]
@[simp] theorem face_enqueue (r s) : face (enqueue r s) = face s := by simp [enqueue]
@[simp] theorem face_eventAt (off code detail d0 d1 s) : face (eventAt off code detail d0 d1 s) = face s := by
  simp [eventAt]
@[simp] theorem face_event (code detail d0 d1 s) : face (event code detail d0 d1 s) = face s := by simp [event]
@[simp] theorem face_countOnly (code s) : face (countOnly code s) = face s := by simp [countOnly]
@[simp] theorem face_eventRateAt (off code idx detail d1 s) : face (eventRateAt off code idx detail d1 s) = face s := by
  simp [eventRateAt]
@[simp] theorem face_eventRate (code idx detail d1 s) : face (eventRate code idx detail d1 s) = face s := by
  simp [eventRate]
@[simp] theorem face_errRch (bit source init write resp addr s) :
    face (errRch bit source init write resp addr s) = face s := by
  simp [errRch]
@[simp] theorem face_raiseRch (bit code source init write resp addr s) :
    face (raiseRch bit code source init write resp addr s) = face s := by
  simp [raiseRch]
@[simp] theorem face_raiseRchCe (init write addr s) : face (raiseRchCe init write addr s) = face s := by
  simp [raiseRchCe]
@[simp] theorem face_errMem (bit unit addr s) : face (errMem bit unit addr s) = face s := by simp [errMem]
@[simp] theorem face_raiseMem (bit code unit addr s) : face (raiseMem bit code unit addr s) = face s := by
  simp [raiseMem]
@[simp] theorem face_raiseMce (unit addr s) : face (raiseMce unit addr s) = face s := by simp [raiseMce]
@[simp] theorem face_errTrd (bit info window s) : face (errTrd bit info window s) = face s := by simp [errTrd]
@[simp] theorem face_errAwn (bit info s) : face (errAwn bit info s) = face s := by simp [errAwn]
@[simp] theorem face_errCyc (bit info s) : face (errCyc bit info s) = face s := by simp [errCyc]
@[simp] theorem face_errSch (bit info s) : face (errSch bit info s) = face s := by simp [errSch]
@[simp] theorem face_errVyf (bit info s) : face (errVyf bit info s) = face s := by simp [errVyf]
@[simp] theorem face_errFab (bit info s) : face (errFab bit info s) = face s := by simp [errFab]
@[simp] theorem face_errHub (bit info s) : face (errHub bit info s) = face s := by simp [errHub]
@[simp] theorem face_errPair (bit info s) : face (errPair bit info s) = face s := by simp [errPair]
@[simp] theorem face_errGlm (bit info s) : face (errGlm bit info s) = face s := by simp [errGlm]
@[simp] theorem face_errFio (bit info s) : face (errFio bit info s) = face s := by simp [errFio]
@[simp] theorem face_errCulm (bit info addr s) : face (errCulm bit info addr s) = face s := by simp [errCulm]
@[simp] theorem face_errSup (bit info s) : face (errSup bit info s) = face s := by simp [errSup]
@[simp] theorem face_errSec (bit info s) : face (errSec bit info s) = face s := by simp [errSec]
@[simp] theorem face_errThr (bit info s) : face (errThr bit info s) = face s := by simp [errThr]
@[simp] theorem face_errGrn (bit info s) : face (errGrn bit info s) = face s := by simp [errGrn]
@[simp] theorem face_setCan (s n c) : face (s.setCan n c) = face s := by simp [State.setCan]
@[simp] theorem face_errCan (n bit info s) : face (errCan n bit info s) = face s := by simp [errCan]
@[simp] theorem face_mramWrite (o bs s) : face (mramWrite o bs s) = face s := by simp [mramWrite]
@[simp] theorem face_mramProbe (o n s) : face (mramProbe o n s) = face s := by simp [mramProbe]
@[simp] theorem face_norPut (copyB o bs s) : face (norPut copyB o bs s) = face s := by simp [norPut]
@[simp] theorem face_lkPut (window off v s) : face (lkPut window off v s) = face s := by simp [lkPut]
@[simp] theorem face_modTri (t f s) : face (modTri t f s) = face s := by simp [modTri]
@[simp] theorem face_modCore (n f s) : face (modCore n f s) = face s := by simp [modCore]

/-! #### Operands -/

@[simp] theorem face_raiseSec (bit code detail step copy d0 d1 s) :
    face (raiseSec bit code detail step copy d0 d1 s) = face s := by
  simp [raiseSec]

/-! #### Transfers of the engines (01) -/

@[simp] theorem face_refuse (resp init write addr n s) : face (refuse resp init write addr n s).2.2 = face s := by
  unfold refuse; split <;> simp
@[simp] theorem face_readDram (init o n s) : face (readDram init o n s).2.2 = face s := by
  unfold readDram; split <;> simp
@[simp] theorem face_readMram (o n s) : face (readMram o n s).2.2 = face s := by unfold readMram; split <;> simp
@[simp] theorem face_dmaRead (init addr n s) : face (dmaRead init addr n s).2.2 = face s := by
  unfold dmaRead; (repeat' split) <;> simp
@[simp] theorem face_dmaWrite (init addr bs s) : face (dmaWrite init addr bs s).2 = face s := by
  unfold dmaWrite; (repeat' split) <;> simp

/-! #### The Culm port (16) -/

@[simp] theorem face_culmLog (kind outcome inbound win addr mask s) :
    face (culmLog kind outcome inbound win addr mask s) = face s := by
  simp [culmLog]
@[simp] theorem face_raiseCulm (bit code outcome inbound win master addr s) :
    face (raiseCulm bit code outcome inbound win master addr s) = face s := by
  simp [raiseCulm]
@[simp] theorem face_raiseCulmRate (bit code outcome inbound win master addr s) :
    face (raiseCulmRate bit code outcome inbound win master addr s) = face s := by
  simp [raiseCulmRate]
@[simp] theorem face_respond (init code data s) : face (respond init code data s) = face s := by simp [respond]
@[simp] theorem face_answerItem (init addr code data s) : face (answerItem init addr code data s) = face s := by
  simp [answerItem]
@[simp] theorem face_abortOut (resp outcome o s) : face (abortOut resp outcome o s) = face s := by simp [abortOut]
@[simp] theorem face_abortAllOut (resp outcome s) : face (abortAllOut resp outcome s) = face s := by simp [abortAllOut]
@[simp] theorem face_discardBuf (b s) : face (discardBuf b s) = face s := by simp [discardBuf]
@[simp] theorem face_discardBufs (p s) : face (discardBufs p s) = face s := by simp [discardBufs]
@[simp] theorem face_freeBuf (s) : face (freeBuf s) = face s := by unfold freeBuf; split <;> simp
@[simp] theorem face_serveBuf (b init addr size s) : face (serveBuf b init addr size s) = face s := by simp [serveBuf]
@[simp] theorem face_pushOut (i w posted prefetch s) : face (pushOut i w posted prefetch s) = face s := by
  simp [pushOut]
@[simp] theorem face_waitAtPort (since i s) : face (waitAtPort since i s) = face s := by simp [waitAtPort]
@[simp] theorem face_culmOffer (since i s) : face (culmOffer since i s) = face s := by
  unfold culmOffer; (repeat' split) <;> simp
@[simp] theorem face_culmAccept (i s) : face (culmAccept i s) = face s := by simp [culmAccept]
@[simp] theorem face_admitWaiting (s) : face (admitWaiting s) = face s := by simp [admitWaiting]
@[simp] theorem face_afterOutEnd (had s) : face (afterOutEnd had s) = face s := by simp [afterOutEnd]
@[simp] theorem face_countO (w s) : face (countO w s) = face s := by simp [countO]
@[simp] theorem face_countI (v s) : face (countI v s) = face s := by simp [countI]
@[simp] theorem face_popOut (s) : face (popOut s) = face s := by simp [popOut]
@[simp] theorem face_completeOut (o bs s) : face (completeOut o bs s) = face s := by simp [completeOut]
@[simp] theorem face_refusedOut (o s) : face (refusedOut o s) = face s := by simp [refusedOut]
@[simp] theorem face_driveOut (o s) : face (driveOut o s) = face s := by simp [driveOut]
@[simp] theorem face_passEnd (s) : face (passEnd s) = face s := by simp [passEnd]
@[simp] theorem face_seeRequests (reqs s) : face (seeRequests reqs s) = face s := by simp [seeRequests]
@[simp] theorem face_outboundEnd (e s) : face (outboundEnd e s) = face s := by
  unfold outboundEnd; (repeat' split) <;> simp
@[simp] theorem face_opCulmOutboundEnd (g s) : face (opCulmOutboundEnd g s) = face s := by simp [opCulmOutboundEnd]
@[simp] theorem face_opCulmTransactionTimeout (s) : face (opCulmTransactionTimeout s) = face s := by
  unfold opCulmTransactionTimeout; split <;> simp
@[simp] theorem face_opCulmOutboundAccept (i s) : face (opCulmOutboundAccept i s) = face s := by
  simp [opCulmOutboundAccept]
@[simp] theorem face_opPrefetchExpiry (k s) : face (opPrefetchExpiry k s) = face s := by
  unfold opPrefetchExpiry; split <;> simp
@[simp] theorem face_answerIn (kind data s) : face (answerIn kind data s) = face s := by simp [answerIn]
@[simp] theorem face_refuseIn (p v s) : face (refuseIn p v s) = face s := by simp [refuseIn]
@[simp] theorem face_inWrite (p v s) : face (inWrite p v s) = face s := by simp [inWrite]
@[simp] theorem face_inRead (p v s) : face (inRead p v s) = face s := by unfold inRead; (repeat' split) <;> simp
@[simp] theorem face_inNormal (p v s) : face (inNormal p v s) = face s := by simp [inNormal]
@[simp] theorem face_retryIn (m s) : face (retryIn m s) = face s := by simp [retryIn]
@[simp] theorem face_inPhase (pass p s) : face (inPhase pass p s) = face s := by unfold inPhase; split <;> simp
@[simp] theorem face_opCulmInboundAddressPhase (p s) : face (opCulmInboundAddressPhase p s) = face s := by
  simp [opCulmInboundAddressPhase]
@[simp] theorem face_issueWrites (value l phys bs s) : face (issueWrites value l phys bs s).2 = face s := by
  induction l generalizing bs s with
  | nil => rfl
  | cons a l ih => simp [issueWrites, ih]
@[simp] theorem face_issueReads (value l phys s) : face (issueReads value l phys s).2.2 = face s := by
  induction l generalizing s with
  | nil => rfl
  | cons a l ih => simp [issueReads, ih]
@[simp] theorem face_opInboundWriteIssue (s) : face (opInboundWriteIssue s) = face s := by
  unfold opInboundWriteIssue; split <;> simp
@[simp] theorem face_opDelayedReadData (slot s) : face (opDelayedReadData slot s) = face s := by
  unfold opDelayedReadData; split <;> simp
@[simp] theorem face_opDelayedReadDiscard (slot s) : face (opDelayedReadDiscard slot s) = face s := by
  unfold opDelayedReadDiscard; split <;> simp
@[simp] theorem face_opCulmWindowEnableWrite (init inbound w v s) :
    face (opCulmWindowEnableWrite init inbound w v s) = face s := by
  simp [opCulmWindowEnableWrite]
@[simp] theorem face_culmStart (s) : face (culmStart s) = face s := by simp [culmStart]
@[simp] theorem face_culmAbortAll (resp outcome s) : face (culmAbortAll resp outcome s) = face s := by
  simp [culmAbortAll]
@[simp] theorem face_culmSafe (s) : face (culmSafe s) = face s := by simp [culmSafe]

/-! #### Field inputs and outputs (14) -/

@[simp] theorem face_modDi (n f s) : face (modDi n f s) = face s := by simp [modDi]
@[simp] theorem face_modFb (n f s) : face (modFb n f s) = face s := by simp [modFb]
@[simp] theorem face_raiseFio (bit code ch cause d0 d1 s) : face (raiseFio bit code ch cause d0 d1 s) = face s := by
  simp [raiseFio]
@[simp] theorem face_raiseEpisode (bit code ch d0 open' s) : face (raiseEpisode bit code ch d0 open' s) = face s := by
  simp [raiseEpisode]
@[simp] theorem face_writeFaultRecord (s) : face (writeFaultRecord s) = face s := by simp [writeFaultRecord]
@[simp] theorem face_loadFaultRecord (s) : face (loadFaultRecord s) = face s := by
  have keep : ∀ b f (l : List Dout), (mapIdxFrom 0 (dqFromRecord b f) l).map (·.cmd) = l.map (·.cmd) :=
    fun b f l => map_mapIdxFrom _ 0 _ l (fun _ _ => rfl)
  simp only [loadFaultRecord]; split <;> simp [keep, map_mapIdxFrom, Function.comp_def]

@[simp] theorem face_dinReport (ch thresh : Nat) (low : Bool) (get : State → Din) (put : (Din → Din) → State → State)
    (s : State) (h : ∀ f s, face (put f s) = face s) : face (dinReport ch thresh low get put s) = face s := by
  simp [dinReport, h]

@[simp] theorem face_sampleDi (i v s) : face (sampleDi i v s) = face s := by simp only [sampleDi]; split <;> simp
@[simp] theorem face_opTestRound (s) : face (opTestRound s) = face s := by simp [opTestRound, Function.comp_def]
@[simp] theorem face_opOffPulse (n s) : face (opOffPulse n s) = face s := by simp [opOffPulse, Function.comp_def]
@[simp] theorem face_opOpenLoad (n s) : face (opOpenLoad n s) = face s := by simp [opOpenLoad]
@[simp] theorem face_opOpenLoadCleared (n s) : face (opOpenLoadCleared n s) = face s := by simp [opOpenLoadCleared]

/-! #### Granary (19) -/

@[simp] theorem face_putRec (q r s) : face (putRec q r s) = face s := by simp [putRec]
@[simp] theorem face_overflowRecord (s) : face (overflowRecord s) = face s := by simp [overflowRecord]
@[simp] theorem face_writeFront (q s) : face (writeFront q s) = face s := by unfold writeFront; split <;> simp
@[simp] theorem face_flushQueue (q s) : face (flushQueue q s) = face s := by simp [flushQueue]
@[simp] theorem face_lifeLine (e s) : face (lifeLine e s) = face s := by simp [lifeLine]
@[simp] theorem face_lifeFlush (s) : face (lifeFlush s) = face s := by simp [lifeFlush]
@[simp] theorem face_hoursCopy (s) : face (hoursCopy s) = face s := by simp [hoursCopy]
@[simp] theorem face_hoursCopyWhole (s) : face (hoursCopyWhole s) = face s := by simp [hoursCopyWhole]
@[simp] theorem face_writeSlot (o data s) : face (writeSlot o data s) = face s := by simp [writeSlot]
@[simp] theorem face_lifeBad (d s) : face (lifeBad d s) = face s := by simp [lifeBad]
@[simp] theorem face_writeControl (s) : face (writeControl s) = face s := by simp [writeControl]
@[simp] theorem face_probeSlots (o s) : face (probeSlots o s) = face s := by simp [probeSlots]
@[simp] theorem face_startControl (s) : face (startControl s) = face s := by simp only [startControl]; split <;> simp
@[simp] theorem face_startPower (last s) : face (startPower last s) = face s := by
  simp only [startPower]; split <;> simp
@[simp] theorem face_grnClear (auth s) : face (grnClear auth s) = face s := by simp [grnClear]
@[simp] theorem face_opEventRaise (code detail d0 d1 s) : face (opEventRaise code detail d0 d1 s) = face s := by
  simp [opEventRaise]
@[simp] theorem face_opRateIntervalEnd (code idx s) : face (opRateIntervalEnd code idx s) = face s := by
  unfold opRateIntervalEnd; split <;> simp
@[simp] theorem face_opRecordWritten (s) : face (opRecordWritten s) = face s := by simp [opRecordWritten]
@[simp] theorem face_opLifeWriteTick (s) : face (opLifeWriteTick s) = face s := by simp [opLifeWriteTick]
@[simp] theorem face_slackCount (c x s) : face (slackCount c x s) = face s := by simp [slackCount]
@[simp] theorem face_opOperatingSecond (s) : face (opOperatingSecond s) = face s := by simp [opOperatingSecond]
@[simp] theorem face_opHoursCopy (s) : face (opHoursCopy s) = face s := by simp [opHoursCopy]

/-! #### What several chapters share -/

@[simp] theorem face_giveIrq (n src s) : face (giveIrq n src s) = face s := by simp [giveIrq]
@[simp] theorem face_irqTriad (t ps src s) : face (irqTriad t ps src s) = face s := by simp [irqTriad]
@[simp] theorem face_irqAll (src s) : face (irqAll src s) = face s := by simp [irqAll]
@[simp] theorem face_braceEnd (s) : face (braceEnd s) = face s := by unfold braceEnd; split <;> simp
@[simp] theorem face_haltCores (t s) : face (haltCores t s) = face s := by simp [haltCores]
@[simp] theorem face_abortTimers (s) : face (abortTimers s) = face s := by simp [abortTimers]
@[simp] theorem face_awnScanLost (st s) : face (awnScanLost st s) = face s := by simp [awnScanLost]
@[simp] theorem face_haltAll (s) : face (haltAll s) = face s := by simp [haltAll]

/-! #### The Awn scan (04) -/

@[simp] theorem face_putLane (l x s) : face (putLane l x s) = face s := by simp [putLane]
@[simp] theorem face_awnShadow (o bs s) : face (awnShadow o bs s) = face s := by simp [awnShadow]
@[simp] theorem face_awnStage (o bs s) : face (awnStage o bs s) = face s := by simp [awnStage]
@[simp] theorem face_awnTrigger (s) : face (awnTrigger s) = face s := by simp [awnTrigger]
@[simp] theorem face_excludeLane (l s) : face (excludeLane l s) = face s := by simp only [excludeLane]; split <;> simp
@[simp] theorem face_awnPublishCore (s) : face (awnPublishCore s) = face s := by unfold awnPublishCore; split <;> simp
@[simp] theorem face_awnSetEn (v s) : face (awnSetEn v s) = face s := by simp [awnSetEn]
@[simp] theorem face_opAwnEnableWrite (init v s) : face (opAwnEnableWrite init v s) = face s := by
  simp [opAwnEnableWrite]
@[simp] theorem face_awnFill (d s) : face (awnFill d s) = face s := by simp [awnFill]
@[simp] theorem face_awnLoad (p s) : face (awnLoad p s) = face s := by simp [awnLoad]
@[simp] theorem face_awnTransfer (po old s) : face (awnTransfer po old s) = face s := by simp [awnTransfer]

/-! #### Glume connections (13) -/

@[simp] theorem face_modConn (c f s) : face (modConn c f s) = face s := by simp [modConn]
@[simp] theorem face_modStn (k f s) : face (modStn k f s) = face s := by simp [modStn]
@[simp] theorem face_raiseGlmRate (bit code c s) : face (raiseGlmRate bit code c s) = face s := by simp [raiseGlmRate]
@[simp] theorem face_stationLost (c s) : face (stationLost c s) = face s := by unfold stationLost; split <;> simp
@[simp] theorem face_connLeave (c dest cause s) : face (connLeave c dest cause s) = face s := by simp [connLeave]
@[simp] theorem face_transportLost (p s) : face (transportLost p s) = face s := by simp [transportLost]
@[simp] theorem face_kernelLost (s) : face (kernelLost s) = face s := by simp [kernelLost]
@[simp] theorem face_kernelRemapped (s) : face (kernelRemapped s) = face s := by simp [kernelRemapped]
@[simp] theorem face_hubLost (port s) : face (hubLost port s) = face s := by simp [hubLost]
@[simp] theorem face_canLost (n obj s) : face (canLost n obj s) = face s := by simp [canLost]
@[simp] theorem face_glumeAccept (c q r ready words s) : face (glumeAccept c q r ready words s) = face s := by
  simp [glumeAccept]
@[simp] theorem face_glumeReject (c s) : face (glumeReject c s) = face s := by simp [glumeReject]
@[simp] theorem face_glumeOffer (transport index ms s) : face (glumeOffer transport index ms s) = face s := by
  simp [glumeOffer]
@[simp] theorem face_glumeWithdraw (transport index ms s) : face (glumeWithdraw transport index ms s) = face s := by
  simp [glumeWithdraw]
@[simp] theorem face_glumeJudge (transport index b s) : face (glumeJudge transport index b s) = face s := by
  unfold glumeJudge; split <;> simp
@[simp] theorem face_opGlumeMessageReceive (transport index b s) :
    face (opGlumeMessageReceive transport index b s) = face s := by
  simp [opGlumeMessageReceive]
@[simp] theorem face_opConnectionTimeout (c s) : face (opConnectionTimeout c s) = face s := by
  simp [opConnectionTimeout]
@[simp] theorem face_glumeTimeouts (s) : face (glumeTimeouts s) = face s := by simp [glumeTimeouts]
@[simp] theorem face_connSetEn (c v s) : face (connSetEn c v s) = face s := by simp [connSetEn]
@[simp] theorem face_connsFall (s) : face (connsFall s) = face s := by simp [connsFall]
@[simp] theorem face_opGlmConnEnableWrite (init c v s) : face (opGlmConnEnableWrite init c v s) = face s := by
  simp [opGlmConnEnableWrite]
@[simp] theorem face_glmStart (s) : face (glmStart s) = face s := by simp [glmStart]
@[simp] theorem face_mboxFreeze (c s) : face (mboxFreeze c s) = face s := by simp [mboxFreeze]
@[simp] theorem face_mboxWords (c s) : face (mboxWords c s).2 = face s := by simp only [mboxWords]; split <;> simp

/-! #### The hub and guardian (10) -/

@[simp] theorem face_modPort (p f s) : face (modPort p f s) = face s := by simp [modPort]
@[simp] theorem face_hubDid (d s) : face (hubDid d s) = face s := by simp [hubDid]
@[simp] theorem face_opBeaconSend (s) : face (opBeaconSend s) = face s := by simp [opBeaconSend]
@[simp] theorem face_opHubTxSlot (d s) : face (opHubTxSlot d s) = face s := by
  simp only [opHubTxSlot]; (repeat' split) <;> simp
@[simp] theorem face_hubCommit (b body s) : face (hubCommit b body s) = face s := by simp [hubCommit]
@[simp] theorem face_raiseHubRate (bit code p desc s) : face (raiseHubRate bit code p desc s) = face s := by
  simp [raiseHubRate]
@[simp] theorem face_raiseHub (bit code p s) : face (raiseHub bit code p s) = face s := by simp [raiseHub]
@[simp] theorem face_portBlock (p s) : face (portBlock p s) = face s := by simp [portBlock]
@[simp] theorem face_hubViolation (bit code p desc count s) : face (hubViolation bit code p desc count s) = face s := by
  simp [hubViolation]
@[simp] theorem face_rxInside (p d x f s) : face (rxInside p d x f s) = face s := by
  simp only [rxInside]; split <;> simp
@[simp] theorem face_opHubFrameReceive (p f s) : face (opHubFrameReceive p f s) = face s := by
  unfold opHubFrameReceive; (repeat' split) <;> simp
@[simp] theorem face_hubHandOver (p s) : face (hubHandOver p s) = face s := by
  rw [hubHandOver, face_forAll]
  · simp
  · intro e s; split <;> simp
@[simp] theorem face_opHubRxWindowClose (d s) : face (opHubRxWindowClose d s) = face s := by
  unfold opHubRxWindowClose; split <;> simp
@[simp] theorem face_hubBoundary (s) : face (hubBoundary s) = face s := by simp [hubBoundary]
@[simp] theorem face_hubGrace (within s) : face (hubGrace within s) = face s := by simp [hubGrace]
@[simp] theorem face_opGuardianGraceEnd (s) : face (opGuardianGraceEnd s) = face s := by simp [opGuardianGraceEnd]
@[simp] theorem face_opPortReopen (p s) : face (opPortReopen p s) = face s := by simp [opPortReopen]
@[simp] theorem face_portSetEn (p v s) : face (portSetEn p v s) = face s := by simp [portSetEn]
@[simp] theorem face_opHubPortEnableWrite (init p v s) : face (opHubPortEnableWrite init p v s) = face s := by
  simp [opHubPortEnableWrite]
@[simp] theorem face_hubStart (s) : face (hubStart s) = face s := by simp [hubStart]
@[simp] theorem face_opHubLinkChange (p up s) : face (opHubLinkChange p up s) = face s := by simp [opHubLinkChange]
@[simp] theorem face_hubHalt (code s) : face (hubHalt code s) = face s := by simp [hubHalt]

/-! #### The train fabric (11) -/

@[simp] theorem face_raiseNoAddr (index s) : face (raiseNoAddr index s) = face s := by simp [raiseNoAddr]
@[simp] theorem face_buildList (s) : face (buildList s) = face s := by simp only [buildList]; split <;> simp
@[simp] theorem face_dropSession (ses s) : face (dropSession ses s) = face s := by simp [dropSession]
@[simp] theorem face_dropStream (x code reset s) : face (dropStream x code reset s) = face s := by
  simp only [dropStream]; (repeat' split) <;> simp
@[simp] theorem face_pushMsg (m s) : face (pushMsg m s) = face s := by simp [pushMsg]
@[simp] theorem face_pushClose (x reason s) : face (pushClose x reason s) = face s := by simp [pushClose]
@[simp] theorem face_streamsReinaug (send s) : face (streamsReinaug send s) = face s := by simp [streamsReinaug]
@[simp] theorem face_mapDrop (s) : face (mapDrop s) = face s := by simp [mapDrop]
@[simp] theorem face_mapTake (num org l s) : face (mapTake num org l s) = face s := by simp [mapTake]
@[simp] theorem face_fabHeader (inaug origin far s) : face (fabHeader inaug origin far s) = face s := by
  simp [fabHeader]
@[simp] theorem face_fabAdopt (s) : face (fabAdopt s) = face s := by simp [fabAdopt]
@[simp] theorem face_fabCommit (s) : face (fabCommit s) = face s := by simp [fabCommit]
@[simp] theorem face_fabSent (s) : face (fabSent s) = face s := by simp [fabSent]
@[simp] theorem face_loseOrigin (s) : face (loseOrigin s) = face s := by simp [loseOrigin]
@[simp] theorem face_opOriginYield (s) : face (opOriginYield s) = face s := by simp [opOriginYield]
@[simp] theorem face_yieldEnd (s) : face (yieldEnd s) = face s := by simp [yieldEnd]
@[simp] theorem face_fabBoundary (s) : face (fabBoundary s) = face s := by unfold fabBoundary; split <;> simp
@[simp] theorem face_slotPayload (ch r s) : face (slotPayload ch r s).2 = face s := by
  unfold slotPayload; (repeat' split) <;> simp
@[simp] theorem face_modStream (x f s) : face (modStream x f s) = face s := by simp [modStream]
@[simp] theorem face_withMsg (p f s) (h : ∀ s, face (f s) = face s) : face (withMsg p f s) = face s := by
  simp only [withMsg]; split <;> simp [h]
@[simp] theorem face_takeOpen (src dst stream s) : face (takeOpen src dst stream s) = face s := by simp [takeOpen]
@[simp] theorem face_opOpenMsg (src dst stream s) : face (opOpenMsg src dst stream s) = face s := by simp [opOpenMsg]
@[simp] theorem face_takeData (src dst stream offset ack bytes s) :
    face (takeData src dst stream offset ack bytes s) = face s := by
  unfold takeData; (repeat' split) <;> simp
@[simp] theorem face_opDataMsg (src dst stream offset ack bytes s) :
    face (opDataMsg src dst stream offset ack bytes s) = face s := by
  simp [opDataMsg]
@[simp] theorem face_takeClose (src dst stream reason s) : face (takeClose src dst stream reason s) = face s := by
  unfold takeClose; (repeat' split) <;> simp
@[simp] theorem face_opCloseMsg (src dst stream reason s) : face (opCloseMsg src dst stream reason s) = face s := by
  simp [opCloseMsg]
@[simp] theorem face_opRelayConnect (port s) : face (opRelayConnect port s) = face s := by simp [opRelayConnect]
@[simp] theorem face_opStreamResend (peer stream s) : face (opStreamResend peer stream s) = face s := by
  unfold opStreamResend; split <;> simp
@[simp] theorem face_opStreamAckTimeout (peer stream s) : face (opStreamAckTimeout peer stream s) = face s := by
  unfold opStreamAckTimeout; split <;> simp
@[simp] theorem face_opStreamIdleTimeout (peer stream s) : face (opStreamIdleTimeout peer stream s) = face s := by
  unfold opStreamIdleTimeout; split <;> simp
@[simp] theorem face_streamPush (gw num b s) : face (streamPush gw num b s) = face s := by
  unfold streamPush; split <;> simp
@[simp] theorem face_relayData (port num b s) : face (relayData port num b s) = face s := by
  unfold relayData; split <;> simp
@[simp] theorem face_relayClose (port num s) : face (relayClose port num s) = face s := by
  unfold relayClose; split <;> simp

/-! #### The Sheaf image (02) -/

@[simp] theorem face_setMark (c o s) : face (setMark c o s) = face s := by simp [setMark]

/-! #### The scheduler (06) -/

@[simp] theorem face_modTask (i f s) : face (modTask i f s) = face s := by simp [modTask]
@[simp] theorem face_modSchTri (t f s) : face (modSchTri t f s) = face s := by simp [modSchTri]
@[simp] theorem face_modDisp (t p f s) : face (modDisp t p f s) = face s := by simp [modDisp]
@[simp] theorem face_account (t s) : face (account t s) = face s := by simp [account]
@[simp] theorem face_regate (t s) : face (regate t s) = face s := by simp [regate]
@[simp] theorem face_dispatch (t p s) : face (dispatch t p s) = face s := by simp [dispatch]
@[simp] theorem face_resched (t s) : face (resched t s) = face s := by simp [resched]
@[simp] theorem face_reschedAll (s) : face (reschedAll s) = face s := by simp [reschedAll]
@[simp] theorem face_missFault (task s) : face (missFault task s) = face s := by simp [missFault]
@[simp] theorem face_missOf (i s) : face (missOf i s) = face s := by unfold missOf; split <;> simp
@[simp] theorem face_missHalted (t s) : face (missHalted t s) = face s := by simp [missHalted]
@[simp] theorem face_skipRelease (t s) : face (skipRelease t s) = face s := by simp [skipRelease]
@[simp] theorem face_opDispatchTake (init t p v s) : face (opDispatchTake init t p v s) = face s := by
  simp [opDispatchTake]
@[simp] theorem face_opBudgetOverrun (i s) : face (opBudgetOverrun i s) = face s := by
  simp only [opBudgetOverrun]; (repeat' split) <;> simp
@[simp] theorem face_applyLevel (cause s) : face (applyLevel cause s) = face s := by simp [applyLevel]
@[simp] theorem face_energySample (s) : face (energySample s) = face s := by simp [energySample]
@[simp] theorem face_opShedEnd (cause s) : face (opShedEnd cause s) = face s := by unfold opShedEnd; split <;> simp

/-! #### Triads: the base (03) -/

@[simp] theorem face_raiseTriad (bit code cause t window d0 d1 s) :
    face (raiseTriad bit code cause t window d0 d1 s) = face s := by
  simp [raiseTriad]
@[simp] theorem face_raiseCore (bit code cause core pos t window d0 d1 s) :
    face (raiseCore bit code cause core pos t window d0 d1 s) = face s := by
  simp [raiseCore]
@[simp] theorem face_startCore (n entry role t p s) : face (startCore n entry role t p s) = face s := by
  simp [startCore]
@[simp] theorem face_startVoting (t ps s) : face (startVoting t ps s) = face s := by simp [startVoting]
@[simp] theorem face_startSplitCore (t a0 p s) : face (startSplitCore t a0 p s) = face s := by simp [startSplitCore]
@[simp] theorem face_claimReserve (t s) : face (claimReserve t s) = face s := by unfold claimReserve; split <;> simp
@[simp] theorem face_joinCore (t p n s) : face (joinCore t p n s) = face s := by simp [joinCore]

/-! #### The supply supervisor, the always-on domain and the quench (07, 08) -/

@[simp] theorem face_raiseSup (bit code detail value s) : face (raiseSup bit code detail value s) = face s := by
  simp [raiseSup]
@[simp] theorem face_episodeNow (code s) : face (episodeNow code s) = face s := by simp [episodeNow]
@[simp] theorem face_raiseSupEpisode (bit code detail value info s) :
    face (raiseSupEpisode bit code detail value info s) = face s := by
  simp [raiseSupEpisode]
@[simp] theorem face_disconnect (high s) : face (disconnect high s) = face s := by simp [disconnect]
@[simp] theorem face_inputSampled (s) : face (inputSampled s) = face s := by simp [inputSampled]
@[simp] theorem face_opFluctuationTimeout (s) : face (opFluctuationTimeout s) = face s := by simp [opFluctuationTimeout]
@[simp] theorem face_opSurgeTimeout (s) : face (opSurgeTimeout s) = face s := by simp [opSurgeTimeout]
@[simp] theorem face_opInputReconnect (s) : face (opInputReconnect s) = face s := by simp [opInputReconnect]
@[simp] theorem face_windowSampled (s) : face (windowSampled s) = face s := by simp [windowSampled]
@[simp] theorem face_raiseWarn (s) : face (raiseWarn s) = face s := by simp [raiseWarn]
@[simp] theorem face_braceDip (s) : face (braceDip s) = face s := by simp [braceDip]
@[simp] theorem face_warnOnly (s) : face (warnOnly s) = face s := by simp [warnOnly]
@[simp] theorem face_warnFallDeep (s) : face (warnFallDeep s) = face s := by unfold warnFallDeep; split <;> simp
@[simp] theorem face_quenchStore (t st s) : face (quenchStore t st s) = face s := by
  simp only [quenchStore]; split <;> simp
@[simp] theorem face_quenchRelease (s) : face (quenchRelease s) = face s := by
  rw [quenchRelease, face_forAll]
  intro t s; rw [face_forAll]
  intro w s; rw [face_forAll]; simp
@[simp] theorem face_resetRequest (s) : face (resetRequest s) = face s := by simp [resetRequest]
@[simp] theorem face_readPins (s) : face (readPins s) = face s := by simp [readPins]
@[simp] theorem face_opCapacitanceMeasurement (ua us s) : face (opCapacitanceMeasurement ua us s) = face s := by
  simp [opCapacitanceMeasurement]
@[simp] theorem face_opLampTestEnd (s) : face (opLampTestEnd s) = face s := by simp [opLampTestEnd]
@[simp] theorem face_opCellMeasurement (mv s) : face (opCellMeasurement mv s) = face s := by simp [opCellMeasurement]
@[simp] theorem face_opAonSnap (_init v s) : face (opAonSnap _init v s) = face s := by simp [opAonSnap]
@[simp] theorem face_opAonSnapDone (s) : face (opAonSnapDone s) = face s := by simp [opAonSnapDone]
@[simp] theorem face_opAonRtcSet (init v s) : face (opAonRtcSet init v s) = face s := by simp [opAonRtcSet]
@[simp] theorem face_opErrorEpisodeEnd (e s) : face (opErrorEpisodeEnd e s) = face s := by
  unfold opErrorEpisodeEnd; split <;> simp

/-! #### Thresh (18) -/

@[simp] theorem face_raiseThr (bit code detail info d0 d1 s) :
    face (raiseThr bit code detail info d0 d1 s) = face s := by
  simp [raiseThr]
@[simp] theorem face_thrJoin (f o startup s) : face (thrJoin f o startup s) = face s := by simp [thrJoin]
@[simp] theorem face_zeroUnit (startup u s) : face (zeroUnit startup u s) = face s := by simp [zeroUnit]
@[simp] theorem face_holdLanes (s) : face (holdLanes s) = face s := by simp [holdLanes]
@[simp] theorem face_bankRecords (f b s) : face (bankRecords f b s) = face s := by simp [bankRecords]
@[simp] theorem face_unitRecords (f u s) : face (unitRecords f u s) = face s := by
  unfold unitRecords; (repeat' split) <;> simp
@[simp] theorem face_threshRecords (f o startup s) : face (threshRecords f o startup s) = face s := by
  simp [threshRecords]
@[simp] theorem face_writeVerdict (failed startup s) : face (writeVerdict failed startup s) = face s := by
  simp [writeVerdict]
@[simp] theorem face_opVerdictApply (s) : face (opVerdictApply s) = face s := by
  simp only [opVerdictApply]; (repeat' split) <;> simp
@[simp] theorem face_zeroise (s) : face (zeroise s) = face s := by simp [zeroise]
@[simp] theorem face_threshVerdict (o startup s) : face (threshVerdict o startup s) = face s := by simp [threshVerdict]
@[simp] theorem face_opThreshRun (o s) : face (opThreshRun o s) = face s := by simp [opThreshRun]

/-! #### BOOT (02, 20) -/

@[simp] theorem face_rejectCopy (c k s) : face (rejectCopy c k s) = face s := by simp [rejectCopy]
@[simp] theorem face_enterRecovery (s) : face (enterRecovery s) = face s := by simp [enterRecovery]
@[simp] theorem face_opBootSecuritySelftest (fail s) : face (opBootSecuritySelftest fail s) = face s := by
  unfold opBootSecuritySelftest; (repeat' split) <;> simp
@[simp] theorem face_opDramClear (s) : face (opDramClear s) = face s := by simp [opDramClear]
@[simp] theorem face_dropFailed (c s) : face (dropFailed c s) = face s := by simp [dropFailed]
@[simp] theorem face_opImageSelect (s) : face (opImageSelect s) = face s := by simp [opImageSelect]
@[simp] theorem face_acceptCopy (c s) : face (acceptCopy c s) = face s := by simp [acceptCopy]
@[simp] theorem face_opImageCheck (c s) : face (opImageCheck c s) = face s := by unfold opImageCheck; split <;> simp
@[simp] theorem face_opCounterRaise (s) : face (opCounterRaise s) = face s := by unfold opCounterRaise; split <;> simp
@[simp] theorem face_fillPosition (t p s) : face (fillPosition t p s) = face s := by unfold fillPosition; split <;> simp
@[simp] theorem face_assignRoles (s) : face (assignRoles s) = face s := by simp [assignRoles]
@[simp] theorem face_assignTriads (b s) : face (assignTriads b s) = face s := by simp [assignTriads]
@[simp] theorem face_lkPutAll (l s) : face (lkPutAll l s) = face s := by rw [lkPutAll, face_forAll]; simp
@[simp] theorem face_clearPart (x s) : face (clearPart x s) = face s := by simp [clearPart]
@[simp] theorem face_loadCoreImage (p i s) : face (loadCoreImage p i s) = face s := by
  unfold loadCoreImage; split <;> simp
@[simp] theorem face_hoursRestore (s) : face (hoursRestore s) = face s := by simp only [hoursRestore]; split <;> simp
@[simp] theorem face_loadQuench (s) : face (loadQuench s) = face s := by simp [loadQuench]
@[simp] theorem face_bootRegisters (c s) : face (bootRegisters c s) = face s := by simp [bootRegisters]
@[simp] theorem face_loadSections (h p s) : face (loadSections h p s) = face s := by
  simp only [loadSections]; split <;> simp
@[simp] theorem face_opLoadAndLock (s) : face (opLoadAndLock s) = face s := by
  unfold opLoadAndLock; (repeat' split) <;> simp
@[simp] theorem face_opProtLock (init v s) : face (opProtLock init v s) = face s := by simp [opProtLock]

/-! #### CAN (15) -/

@[simp] theorem face_modCan (n f s) : face (modCan n f s) = face s := by simp [modCan]
@[simp] theorem face_modCanObj (n k f s) : face (modCanObj n k f s) = face s := by simp [modCanObj]
@[simp] theorem face_raiseCan (n bit code d0 d1 s) : face (raiseCan n bit code d0 d1 s) = face s := by simp [raiseCan]
@[simp] theorem face_raiseCanRate (n bit code obj kind d1 s) :
    face (raiseCanRate n bit code obj kind d1 s) = face s := by
  simp [raiseCanRate]
@[simp] theorem face_raiseRefLost (n s) : face (raiseRefLost n s) = face s := by simp [raiseRefLost]
@[simp] theorem face_canMayStart (n s) : face (canMayStart n s) = face s := by unfold canMayStart; split <;> simp
@[simp] theorem face_itemEnd (n k outcome s) : face (itemEnd n k outcome s) = face s := by simp [itemEnd]
@[simp] theorem face_refAbort (n s) : face (refAbort n s) = face s := by unfold refAbort; split <;> simp
@[simp] theorem face_canAbortAll (n outcome s) : face (canAbortAll n outcome s) = face s := by simp [canAbortAll]
@[simp] theorem face_canRequest (n k s) : face (canRequest n k s) = face s := by simp [canRequest]
@[simp] theorem face_opTxReq (init n k s) : face (opTxReq init n k s) = face s := by simp [opTxReq]
@[simp] theorem face_canDataWrite (init n k o bs s) : face (canDataWrite init n k o bs s) = face s := by
  simp [canDataWrite]
@[simp] theorem face_canCommit (n k bs s) : face (canCommit n k bs s) = face s := by simp [canCommit]
@[simp] theorem face_canBusOff (n s) : face (canBusOff n s) = face s := by simp [canBusOff]
@[simp] theorem face_canLeave (n outcome s) : face (canLeave n outcome s) = face s := by simp [canLeave]
@[simp] theorem face_canRejoin (n s) : face (canRejoin n s) = face s := by simp [canRejoin]
@[simp] theorem face_canTdc (n d s) : face (canTdc n d s) = face s := by simp [canTdc]
@[simp] theorem face_canLoop (n k loop s) : face (canLoop n k loop s) = face s := by unfold canLoop; split <;> simp
@[simp] theorem face_canSent (n k sof loop s) : face (canSent n k sof loop s) = face s := by simp [canSent]
@[simp] theorem face_canFailed (n k error s) : face (canFailed n k error s) = face s := by simp [canFailed]
@[simp] theorem face_canCounted (n tec rec s) : face (canCounted n tec rec s) = face s := by simp [canCounted]
@[simp] theorem face_opCanTxAttemptEnd (n e s) : face (opCanTxAttemptEnd n e s) = face s := by
  simp only [opCanTxAttemptEnd]; (repeat' split) <;> simp
@[simp] theorem face_opCanSendDeadline (n s) : face (opCanSendDeadline n s) = face s := by simp [opCanSendDeadline]
@[simp] theorem face_objStore (n k f s) : face (objStore n k f s) = face s := by simp [objStore]
@[simp] theorem face_refReceived (n f s) : face (refReceived n f s) = face s := by simp [refReceived]
@[simp] theorem face_canReceived (n f s) : face (canReceived n f s) = face s := by
  simp only [canReceived]; (repeat' split) <;> simp
@[simp] theorem face_opCanFrameReceive (n r s) : face (opCanFrameReceive n r s) = face s := by
  unfold opCanFrameReceive; (repeat' split) <;> simp
@[simp] theorem face_objStatTake (n k s) : face (objStatTake n k s) = face s := by simp [objStatTake]
@[simp] theorem face_opObjStatRead (init n k s) : face (opObjStatRead init n k s) = face s := by simp [opObjStatRead]
@[simp] theorem face_opCanEnableWrite (n v s) : face (opCanEnableWrite n v s) = face s := by simp [opCanEnableWrite]
@[simp] theorem face_canDrainDone (n s) : face (canDrainDone n s) = face s := by simp [canDrainDone]
@[simp] theorem face_opCanObjectEnableWrite (n k v s) : face (opCanObjectEnableWrite n k v s) = face s := by
  simp [opCanObjectEnableWrite]
@[simp] theorem face_objDrainDone (n k s) : face (objDrainDone n k s) = face s := by simp [objDrainDone]
@[simp] theorem face_opBusOffHoldEnd (n s) : face (opBusOffHoldEnd n s) = face s := by simp [opBusOffHoldEnd]
@[simp] theorem face_opRecover (n s) : face (opRecover n s) = face s := by simp [opRecover]
@[simp] theorem face_opCanRecoveryDone (n s) : face (opCanRecoveryDone n s) = face s := by simp [opCanRecoveryDone]
@[simp] theorem face_opCanBusIntegrated (n s) : face (opCanBusIntegrated n s) = face s := by simp [opCanBusIntegrated]
@[simp] theorem face_opReferenceSend (n s) : face (opReferenceSend n s) = face s := by simp [opReferenceSend]
@[simp] theorem face_opReferenceLost (n s) : face (opReferenceLost n s) = face s := by simp [opReferenceLost]
@[simp] theorem face_canBoundary (n s) : face (canBoundary n s) = face s := by simp [canBoundary]
@[simp] theorem face_canStart (n s) : face (canStart n s) = face s := by simp [canStart]

/-! #### The pair (12) -/

@[simp] theorem face_raisePair (bit code hub d0 d1 s) : face (raisePair bit code hub d0 d1 s) = face s := by
  simp [raisePair]
@[simp] theorem face_setReign (r s) : face (setReign r s) = face s := by simp [setReign]
@[simp] theorem face_reignSeen (r s) : face (reignSeen r s) = face s := by simp [reignSeen]
@[simp] theorem face_partRead (b s) : face (partRead b s).2 = face s := by simp [partRead]
@[simp] theorem face_opPairTxSlot (buf s) : face (opPairTxSlot buf s) = face s := by unfold opPairTxSlot; split <;> simp
@[simp] theorem face_shadowTry (s) : face (shadowTry s) = face s := by unfold shadowTry; split <;> simp
@[simp] theorem face_pairDropped (s) : face (pairDropped s) = face s := by simp [pairDropped]
@[simp] theorem face_opShadowFrameReceive (rx b s) : face (opShadowFrameReceive rx b s) = face s := by
  simp [opShadowFrameReceive]
@[simp] theorem face_startDraw (s) : face (startDraw s) = face s := by simp [startDraw]
@[simp] theorem face_reportStandby (b s) : face (reportStandby b s) = face s := by simp [reportStandby]
@[simp] theorem face_reportCandidate (own b s) : face (reportCandidate own b s) = face s := by simp [reportCandidate]
@[simp] theorem face_wrongPartner (b s) : face (wrongPartner b s) = face s := by simp [wrongPartner]
@[simp] theorem face_opPilInChange (level s) : face (opPilInChange level s) = face s := by simp [opPilInChange]
@[simp] theorem face_loadShadow (x s) : face (loadShadow x s) = face s := by simp [loadShadow]
@[simp] theorem face_forceClear (s) : face (forceClear s) = face s := by simp [forceClear]
@[simp] theorem face_exchFail (why s) : face (exchFail why s) = face s := by simp [exchFail]
@[simp] theorem face_switchRefused (res s) : face (switchRefused res s) = face s := by simp [switchRefused]
@[simp] theorem face_switchDefer (b s) : face (switchDefer b s) = face s := by simp [switchDefer]
@[simp] theorem face_opPairSwitch (init v s) : face (opPairSwitch init v s) = face s := by simp [opPairSwitch]
@[simp] theorem face_switchOvertaken (s) : face (switchOvertaken s) = face s := by simp [switchOvertaken]
@[simp] theorem face_pairFaults (s) : face (pairFaults s) = face s := by simp [pairFaults]
@[simp] theorem face_opPairLinkLost (s) : face (opPairLinkLost s) = face s := by simp [opPairLinkLost]
@[simp] theorem face_pairPublished (s) : face (pairPublished s) = face s := by simp [pairPublished]
@[simp] theorem face_checkCount (ok s) : face (checkCount ok s) = face s := by simp [checkCount]
@[simp] theorem face_opCheckScan (s) : face (opCheckScan s) = face s := by unfold opCheckScan; split <;> simp

/-! #### The Vyfabin cycle (09, 10) -/

@[simp] theorem face_modCh (ch f s) : face (modCh ch f s) = face s := by simp [modCh]
@[simp] theorem face_modChs (f s) : face (modChs f s) = face s := by simp [modChs]
@[simp] theorem face_raiseVyf (bit code detail port d0 d1 s) :
    face (raiseVyf bit code detail port d0 d1 s) = face s := by
  simp [raiseVyf]
@[simp] theorem face_nextBoundary (s) : face (nextBoundary s) = face s := by unfold nextBoundary; split <;> simp
@[simp] theorem face_pendFollow (s) : face (pendFollow s) = face s := by unfold pendFollow; split <;> simp
@[simp] theorem face_timeStep (d s) : face (timeStep d s) = face s := by simp [timeStep]
@[simp] theorem face_listen (extra s) : face (listen extra s) = face s := by simp [listen]
@[simp] theorem face_integrate (id cyc s) : face (integrate id cyc s) = face s := by simp [integrate]
@[simp] theorem face_kernelsClose (s) : face (kernelsClose s) = face s := by simp [kernelsClose]
@[simp] theorem face_leaveSynced (f s) (h : ∀ s, face (f s) = face s) : face (leaveSynced f s) = face s := by
  simp [leaveSynced, h]
@[simp] theorem face_vyfTie (id s) : face (vyfTie id s) = face s := by simp [vyfTie]
@[simp] theorem face_putKernel (ch tx b s) : face (putKernel ch tx b s).2 = face s := by
  simp only [putKernel]; split <;> simp
@[simp] theorem face_wiringCheck (s) : face (wiringCheck s) = face s := by unfold wiringCheck; (repeat' split) <;> simp
@[simp] theorem face_putClaim (ch b s) : face (putClaim ch b s).2 = face s := by simp only [putClaim]; split <;> simp
@[simp] theorem face_putAper (ch tx as b s) : face (putAper ch tx as b s).2 = face s := by
  induction as generalizing b s with
  | nil => rfl
  | cons a as ih => simp [putAper, ih]
@[simp] theorem face_putSlots (ch kind tx b s) : face (putSlots ch kind tx b s).2 = face s := by
  unfold putSlots; (repeat' split) <;> simp
@[simp] theorem face_earSendCh (ch s) : face (earSendCh ch s) = face s := by simp [earSendCh]
@[simp] theorem face_opEarFrameSend (s) : face (opEarFrameSend s) = face s := by simp [opEarFrameSend]
@[simp] theorem face_earOut (port fcsOk b s) : face (earOut port fcsOk b s) = face s := by simp [earOut]
@[simp] theorem face_earWrite (ch p q fcsOk b s) : face (earWrite ch p q fcsOk b s) = face s := by simp [earWrite]
@[simp] theorem face_opEarFrameForward (port b fcsOk s) : face (opEarFrameForward port b fcsOk s) = face s := by
  simp [opEarFrameForward]
@[simp] theorem face_roundCheck (port loop s) : face (roundCheck port loop s) = face s := by simp [roundCheck]
@[simp] theorem face_measureLoop (port rx s) : face (measureLoop port rx s) = face s := by
  simp only [measureLoop]; (repeat' split) <;> simp
@[simp] theorem face_mapCheck (addr hub s) : face (mapCheck addr hub s) = face s := by simp [mapCheck]
@[simp] theorem face_kernelOffer (k b s) : face (kernelOffer k b s) = face s := by simp [kernelOffer]
@[simp] theorem face_kcrcFail (port addr s) : face (kcrcFail port addr s) = face s := by simp [kcrcFail]
@[simp] theorem face_readClaims (port rx h b s) : face (readClaims port rx h b s) = face s := by
  rw [readClaims, face_forAll]
  intro j s; (repeat' split) <;> simp
@[simp] theorem face_readAper (port rx h b a s) : face (readAper port rx h b a s) = face s := by
  simp only [readAper]; (repeat' split) <;> simp
@[simp] theorem face_noteHeader (port h s) : face (noteHeader port h s) = face s := by simp [noteHeader]
@[simp] theorem face_takeHeader (port rx h s) : face (takeHeader port rx h s) = face s := by simp [takeHeader]
@[simp] theorem face_setTime (port rx h s) : face (setTime port rx h s) = face s := by simp [setTime]
@[simp] theorem face_schedMismatch (sched s) : face (schedMismatch sched s) = face s := by simp [schedMismatch]
@[simp] theorem face_clockSync (s) : face (clockSync s).2 = face s := by simp only [clockSync]; split <;> simp
@[simp] theorem face_clockOut (s) : face (clockOut s) = face s := by simp [clockOut]
@[simp] theorem face_modeRefused (res s) : face (modeRefused res s) = face s := by simp [modeRefused]
@[simp] theorem face_requestJudged (s) : face (requestJudged s) = face s := by simp [requestJudged]
@[simp] theorem face_announce (s) : face (announce s) = face s := by unfold announce; split <;> simp
@[simp] theorem face_endOfPass (s) : face (endOfPass s) = face s := by simp [endOfPass]
@[simp] theorem face_opVyfModeReq (init v s) : face (opVyfModeReq init v s) = face s := by simp [opVyfModeReq]
@[simp] theorem face_opModeRequestTimeout (s) : face (opModeRequestTimeout s) = face s := by simp [opModeRequestTimeout]
@[simp] theorem face_opBackboneLinkChange (port up s) : face (opBackboneLinkChange port up s) = face s := by
  simp [opBackboneLinkChange]
@[simp] theorem face_coldStart (s) : face (coldStart s) = face s := by simp [coldStart]
@[simp] theorem face_opListenTimeout (s) : face (opListenTimeout s) = face s := by simp [opListenTimeout]
@[simp] theorem face_opOriginTakeover (s) : face (opOriginTakeover s) = face s := by simp [opOriginTakeover]
@[simp] theorem face_opSyncLost (s) : face (opSyncLost s) = face s := by simp [opSyncLost]
@[simp] theorem face_coldBoundary (s) : face (coldBoundary s) = face s := by simp [coldBoundary]
@[simp] theorem face_modeSwitch (s) : face (modeSwitch s) = face s := by simp [modeSwitch]
@[simp] theorem face_missedCount (s) : face (missedCount s) = face s := by simp [missedCount]
@[simp] theorem face_leaveNetwork (s) : face (leaveNetwork s) = face s := by simp [leaveNetwork]
@[simp] theorem face_vyfEnd (s) : face (vyfEnd s) = face s := by simp [vyfEnd]
@[simp] theorem face_vyfStart (s) : face (vyfStart s) = face s := by
  unfold vyfStart; split
  · simp
  · rw [← face_modChs (fun c => { c with relay := true, link1 := false, link2 := false }) s]; dsimp only [face]

/-! #### The train cycle (05) -/

@[simp] theorem face_raiseCyc (bit code stn detail d0 d1 s) : face (raiseCyc bit code stn detail d0 d1 s) = face s := by
  simp [raiseCyc]
@[simp] theorem face_cycWrite (addr b s) : face (cycWrite addr b s) = face s := by simp [cycWrite]
@[simp] theorem face_modeRequest (init m s) : face (modeRequest init m s) = face s := by simp [modeRequest]
@[simp] theorem face_opModeReqRun (init s) : face (opModeReqRun init s) = face s := by simp [opModeReqRun]
@[simp] theorem face_opModeReqStop (init s) : face (opModeReqStop init s) = face s := by simp [opModeReqStop]
@[simp] theorem face_opModeReqHold (init s) : face (opModeReqHold init s) = face s := by simp [opModeReqHold]
@[simp] theorem face_firstRun (s) : face (firstRun s) = face s := by unfold firstRun; split <;> simp
@[simp] theorem face_awnFollow (s) : face (awnFollow s) = face s := by simp [awnFollow]
@[simp] theorem face_followPartner (s) : face (followPartner s) = face s := by
  unfold followPartner; (repeat' split) <;> simp
@[simp] theorem face_autorun (s) : face (autorun s) = face s := by simp [autorun]
@[simp] theorem face_stnStartUp (k s) : face (stnStartUp k s) = face s := by simp [stnStartUp]
@[simp] theorem face_stnTake (k words s) : face (stnTake k words s) = face s := by simp [stnTake]
@[simp] theorem face_stnAge (k lost s) : face (stnAge k lost s) = face s := by simp [stnAge]
@[simp] theorem face_stnFreeze (k s) : face (stnFreeze k s) = face s := by simp [stnFreeze]
@[simp] theorem face_freeze (s) : face (freeze s) = face s := by simp [freeze]
@[simp] theorem face_writeInputBank (s) : face (writeInputBank s) = face s := by simp [writeInputBank]
@[simp] theorem face_stageInputs (s) : face (stageInputs s) = face s := by simp [stageInputs]
@[simp] theorem face_holdPermit (s) : face (holdPermit s) = face s := by simp [holdPermit]
@[simp] theorem face_forceInputs (s) : face (forceInputs s) = face s := by simp [forceInputs]
@[simp] theorem face_olcRefused (res fail s) : face (olcRefused res fail s) = face s := by simp [olcRefused]
@[simp] theorem face_olcMerge (s) : face (olcMerge s) = face s := by unfold olcMerge; (repeat' split) <;> simp
@[simp] theorem face_opOlcCommit (init v s) : face (opOlcCommit init v s) = face s := by
  simp only [opOlcCommit]; (repeat' split) <;> simp
@[simp] theorem face_olcWrite (init o v s) : face (olcWrite init o v s) = face s := by simp [olcWrite]
@[simp] theorem face_merge (s) : face (merge s) = face s := by simp [merge]
@[simp] theorem face_cycleEnd (s) : face (cycleEnd s) = face s := by simp [cycleEnd]
@[simp] theorem face_cycleBegin (n s) : face (cycleBegin n s) = face s := by simp [cycleBegin]
@[simp] theorem face_countRun (was s) : face (countRun was s) = face s := by simp [countRun]
@[simp] theorem face_opAwnPublish (s) : face (opAwnPublish s) = face s := by simp [opAwnPublish]
@[simp] theorem face_stnRunWords (k q s) : face (stnRunWords k q s).2.2 = face s := by
  simp only [stnRunWords]; split <;> simp
@[simp] theorem face_stnWords (k q fs s) : face (stnWords k q fs s).2.2 = face s := by unfold stnWords; split <;> simp
@[simp] theorem face_stnDiscard (k s) : face (stnDiscard k s) = face s := by simp [stnDiscard]
@[simp] theorem face_glumeSendOne (c words acc s) : face (glumeSendOne c words acc s).2 = face s := by
  simp only [glumeSendOne]; split <;> simp
@[simp] theorem face_connMessage (q fs c x) : face (connMessage q fs c x).2 = face x.2 := by
  simp only [connMessage]; (repeat' split) <;> simp
@[simp] theorem face_allMessages (q fs cs x) : face (allMessages q fs cs x).2 = face x.2 := by
  induction cs generalizing x with
  | nil => rfl
  | cons c cs ih => simp [allMessages, ih]
@[simp] theorem face_fillSlots (slots ms s) : face (fillSlots slots ms s) = face s := by
  induction slots generalizing ms s with
  | nil => rfl
  | cons x l ih => simp [fillSlots, ih]
@[simp] theorem face_commitMessages (ms s) : face (commitMessages ms s) = face s := by simp [commitMessages]
@[simp] theorem face_exchRecord (s) : face (exchRecord s) = face s := by simp [exchRecord]
@[simp] theorem face_publishNow (s) : face (publishNow s) = face s := by simp [publishNow]
@[simp] theorem face_opForceEntryWrite (init i v s) : face (opForceEntryWrite init i v s) = face s := by
  simp [opForceEntryWrite]
@[simp] theorem face_opExchStart (init v s) : face (opExchStart init v s) = face s := by simp [opExchStart]

/-! #### SELFTEST, hand-over and shut-down (03, 20) -/

@[simp] theorem face_opCmptestStart (_init v s) : face (opCmptestStart _init v s) = face s := by simp [opCmptestStart]
@[simp] theorem face_failCore (n pos t step s) : face (failCore n pos t step s) = face s := by simp [failCore]
@[simp] theorem face_refillPosition (t p s) : face (refillPosition t p s) = face s := by
  unfold refillPosition; split <;> simp
@[simp] theorem face_opCmptestDone (o s) : face (opCmptestDone o s) = face s := by
  unfold opCmptestDone; (repeat' split) <;> simp
@[simp] theorem face_opShutdownRestart (init s) : face (opShutdownRestart init s) = face s := by
  simp [opShutdownRestart]
@[simp] theorem face_shutDrain (s) : face (shutDrain s) = face s := by simp [shutDrain]
@[simp] theorem face_opShutdownReady (init s) : face (opShutdownReady init s) = face s := by simp [opShutdownReady]
@[simp] theorem face_opShutdownGraceEnd (s) : face (opShutdownGraceEnd s) = face s := by simp [opShutdownGraceEnd]

/-! #### The security engine (17) -/

@[simp] theorem face_modSession (ses f s) : face (modSession ses f s) = face s := by simp [modSession]
@[simp] theorem face_reply (r op status data s) : face (reply r op status data s) = face s := by
  simp only [reply]; (repeat' split) <;> simp
@[simp] theorem face_closeSession (ses s) : face (closeSession ses s) = face s := by
  unfold closeSession; (repeat' split) <;> simp
@[simp] theorem face_closeOthers (keep s) : face (closeOthers keep s) = face s := by simp [closeOthers]
@[simp] theorem face_closeLocal (s) : face (closeLocal s) = face s := by simp [closeLocal]
@[simp] theorem face_raiseAuth (s) : face (raiseAuth s) = face s := by simp [raiseAuth]
@[simp] theorem face_raisePriv (op s) : face (raisePriv op s) = face s := by simp [raisePriv]
@[simp] theorem face_serverAuth (o s) : face (serverAuth o s) = face s := by simp [serverAuth]
@[simp] theorem face_refuseSession (o s) : face (refuseSession o s) = face s := by
  unfold refuseSession; (repeat' split) <;> simp
@[simp] theorem face_opTlsHandshake (o s) : face (opTlsHandshake o s) = face s := by simp [opTlsHandshake]
@[simp] theorem face_opSessionIdleTimeout (ses s) : face (opSessionIdleTimeout ses s) = face s := by
  unfold opSessionIdleTimeout; split <;> simp
@[simp] theorem face_opSessionClosed (ses s) : face (opSessionClosed ses s) = face s := by simp [opSessionClosed]

@[simp] theorem face_request (r : Req) (op : Nat) (b : Bool) (f : Session → State → State) (s : State)
    (h : ∀ x s, face (f x s) = face s) : face (request r op b f s) = face s := by
  simp only [request]; split <;> simp [h]

@[simp] theorem face_privileged (r : Req) (op bit addr : Nat) (b : Bool) (f : Session → State → Nat × State) (s : State)
    (h : ∀ x s, face (f x s).2 = face s) : face (privileged r op bit addr b f s) = face s := by
  simp [privileged, h]

@[simp] theorem face_keysAction (r op f s) (h : ∀ s, face (f s).2 = face s) : face (keysAction r op f s) = face s := by
  rw [keysAction, face_privileged]
  intro x s; simp [h]
@[simp] theorem face_opAttest (r nonce s) : face (opAttest r nonce s) = face s := by
  simp only [opAttest]; split <;> simp
@[simp] theorem face_opChallenge (r s) : face (opChallenge r s) = face s := by simp only [opChallenge]; simp
@[simp] theorem face_opToken (r b s) : face (opToken r b s) = face s := by simp only [opToken]; simp

@[simp] theorem face_readBlocks (fuel addr count s) : face (readBlocks fuel addr count s).2.2 = face s := by
  induction fuel generalizing addr count s with
  | zero => rfl
  | succ k ih =>
    simp only [readBlocks]; (repeat' split) <;> simp [ih]

@[simp] theorem face_opReadMem (r addr count s) : face (opReadMem r addr count s) = face s := by
  simp only [opReadMem]; split <;> simp
@[simp] theorem face_opClearRecords (r s) : face (opClearRecords r s) = face s := by simp only [opClearRecords]; simp
@[simp] theorem face_norErase (c a b s) : face (norErase c a b s) = face s := by simp [norErase]
@[simp] theorem face_norProgram (c o bs s) : face (norProgram c o bs s) = face s := by simp [norProgram]
@[simp] theorem face_opImageBegin (r len s) : face (opImageBegin r len s) = face s := by
  simp only [opImageBegin]; split <;> simp
@[simp] theorem face_opImageData (r offset bytes s) : face (opImageData r offset bytes s) = face s := by
  rw [opImageData, face_privileged]
  intro _ s; (repeat' split) <;> simp
@[simp] theorem face_opImageEnd (r s) : face (opImageEnd r s) = face s := by
  rw [opImageEnd, face_privileged]
  intro _ s; (repeat' split) <;> simp
@[simp] theorem face_confirmCopy (s) : face (confirmCopy s) = face s := by simp [confirmCopy]
@[simp] theorem face_opConfirm (r s) : face (opConfirm r s) = face s := by simp only [opConfirm]; simp
@[simp] theorem face_opSecImageConfirm (_init v s) : face (opSecImageConfirm _init v s) = face s := by
  simp [opSecImageConfirm]
@[simp] theorem face_opAutoConfirm (s) : face (opAutoConfirm s) = face s := by simp [opAutoConfirm]
@[simp] theorem face_opImageKeyInstall (r slot wrapped s) : face (opImageKeyInstall r slot wrapped s) = face s := by
  rw [opImageKeyInstall, face_keysAction]
  intro s; (repeat' split) <;> simp
@[simp] theorem face_opAnchorInstall (r slot key s) : face (opAnchorInstall r slot key s) = face s := by
  simp [opAnchorInstall]
@[simp] theorem face_opKeySlotProgram (r slot key s) : face (opKeySlotProgram r slot key s) = face s := by
  simp [opKeySlotProgram]
@[simp] theorem face_opSlotRevoke (r slot s) : face (opSlotRevoke r slot s) = face s := by simp [opSlotRevoke]
@[simp] theorem face_opAnchorA0Disable (r s) : face (opAnchorA0Disable r s) = face s := by simp [opAnchorA0Disable]
@[simp] theorem face_opDebugOpen (r s) : face (opDebugOpen r s) = face s := by simp only [opDebugOpen]; simp
@[simp] theorem face_rngTaken (s) : face (rngTaken s) = face s := by simp [rngTaken]
@[simp] theorem face_opRngRead (init s) : face (opRngRead init s) = face s := by simp [opRngRead]
@[simp] theorem face_opRngHealthFail (s) : face (opRngHealthFail s) = face s := by simp [opRngHealthFail]
@[simp] theorem face_opMaintenanceFrameReceive (f s) : face (opMaintenanceFrameReceive f s) = face s := by
  unfold opMaintenanceFrameReceive; (repeat' split) <;> simp

/-! #### Triads: quiet points, repair, split (03) -/

@[simp] theorem face_opQuiet (t s) : face (opQuiet t s) = face s := by simp [opQuiet]
@[simp] theorem face_resume (t s) : face (resume t s) = face s := by simp [resume]
@[simp] theorem face_reintegrate (t s) : face (reintegrate t s) = face s := by simp [reintegrate]
@[simp] theorem face_reintFailed (t s) : face (reintFailed t s) = face s := by simp [reintFailed]
@[simp] theorem face_opReserveL1ClearDone (r s) : face (opReserveL1ClearDone r s) = face s := by
  simp [opReserveL1ClearDone]
@[simp] theorem face_refuseSplit (t res s) : face (refuseSplit t res s) = face s := by simp [refuseSplit]
@[simp] theorem face_opToSplit (t s) : face (opToSplit t s) = face s := by simp [opToSplit]
@[simp] theorem face_opSplitStart (t s) : face (opSplitStart t s) = face s := by simp [opSplitStart]
@[simp] theorem face_stopSplit (t p s) : face (stopSplit t p s) = face s := by simp [stopSplit]
@[simp] theorem face_beginReturn (t s) : face (beginReturn t s) = face s := by simp [beginReturn]
@[simp] theorem face_opToTriad (core s) : face (opToTriad core s) = face s := by simp [opToTriad]
@[simp] theorem face_abortFlights (t p s) : face (abortFlights t p s) = face s := by simp [abortFlights]
@[simp] theorem face_opHandoverTimeout (t s) : face (opHandoverTimeout t s) = face s := by simp [opHandoverTimeout]
@[simp] theorem face_restoreSaved (t c ps s) : face (restoreSaved t c ps s) = face s := by simp [restoreSaved]
@[simp] theorem face_opTriadRestore (t ds s) : face (opTriadRestore t ds s) = face s := by simp [opTriadRestore]
@[simp] theorem face_opTriadCtrl (init t v s) : face (opTriadCtrl init t v s) = face s := by simp [opTriadCtrl]
@[simp] theorem face_joinReserve (t s) : face (joinReserve t s) = face s := by simp [joinReserve]
@[simp] theorem face_opTriadRestart (t s) : face (opTriadRestart t s) = face s := by simp [opTriadRestart]
@[simp] theorem face_restartSplit (t s) : face (restartSplit t s) = face s := by simp [restartSplit]
@[simp] theorem face_opL1Error (l s) : face (opL1Error l s) = face s := by simp [opL1Error]

/-! #### The register blocks (21) -/

@[simp] theorem face_modErr (w f s) : face (modErr w f s) = face s := by unfold modErr; split <;> simp
@[simp] theorem face_regReadEffect (w o s) : face (regReadEffect w o s) = face s := by
  unfold regReadEffect; (repeat' split) <;> simp
@[simp] theorem face_modeReqWrite (init v s) : face (modeReqWrite init v s) = face s := by
  unfold modeReqWrite; split <;> simp
@[simp] theorem face_cycRegWrite (init o v s) : face (cycRegWrite init o v s) = face s := by simp [cycRegWrite]
@[simp] theorem face_rchWrite (o v s) : face (rchWrite o v s) = face s := by unfold rchWrite; split <;> simp
@[simp] theorem face_canWrite (init n o v s) : face (canWrite init n o v s) = face s := by simp [canWrite]
@[simp] theorem face_culmWrite (init o v s) : face (culmWrite init o v s) = face s := by simp [culmWrite]
@[simp] theorem face_aonWrite (init o v s) : face (aonWrite init o v s) = face s := by simp [aonWrite]

/-! #### The scrubbers (01) -/

@[simp] theorem face_dramScrubNext (s) : face (dramScrubNext s) = face s := by simp [dramScrubNext]
@[simp] theorem face_mramScrubNext (s) : face (mramScrubNext s) = face s := by simp [mramScrubNext]
@[simp] theorem face_opDramScrub (r s) : face (opDramScrub r s) = face s := by
  simp only [opDramScrub]; (repeat' split) <;> simp
@[simp] theorem face_areaHit (o s) : face (areaHit o s) = face s := by simp [areaHit]
@[simp] theorem face_opMramScrub (r s) : face (opMramScrub r s) = face s := by
  simp only [opMramScrub]; (repeat' split) <;> simp

/-! #### Rachis (01) -/

@[simp] theorem face_dramWrite (o bs s) : face (dramWrite o bs s) = face s := by simp [dramWrite]
@[simp] theorem face_readTarget (init addr n s) : face (readTarget init addr n s).2.2 = face s := by
  unfold readTarget; split <;> simp
@[simp] theorem face_busRead (init addr n s) : face (busRead init addr n s).2.2 = face s := by
  unfold busRead; (repeat' split) <;> simp
@[simp] theorem face_correctedAt (t s) : face (correctedAt t s) = face s := by simp [correctedAt]
@[simp] theorem face_cellCorrected (t s) : face (cellCorrected t s) = face s := by unfold cellCorrected; split <;> simp
@[simp] theorem face_cellBad (t s) : face (cellBad t s) = face s := by unfold cellBad; split <;> simp
@[simp] theorem face_readEffect (t s) : face (readEffect t s) = face s := by unfold readEffect; (repeat' split) <;> simp
@[simp] theorem face_endFlight (code f s) : face (endFlight code f s) = face s := by simp [endFlight]
@[simp] theorem face_raiseTmo (init write addr s) : face (raiseTmo init write addr s) = face s := by simp [raiseTmo]
@[simp] theorem face_opBusTimeout (tg s) : face (opBusTimeout tg s) = face s := by
  simp only [opBusTimeout]; (repeat' split) <;> simp
@[simp] theorem face_opBridgeBackstopTimeout (s) : face (opBridgeBackstopTimeout s) = face s := by
  unfold opBridgeBackstopTimeout; split <;> simp
@[simp] theorem face_raiseSource (bit code source s) : face (raiseSource bit code source s) = face s := by
  simp [raiseSource]
@[simp] theorem face_modChan (ch f s) : face (modChan ch f s) = face s := by simp [modChan]
@[simp] theorem face_chanHalt (ch s) : face (chanHalt ch s) = face s := by simp [chanHalt]
@[simp] theorem face_engineRestart (e s) : face (engineRestart e s) = face s := by unfold engineRestart; split <;> simp
@[simp] theorem face_opEngineWatchdog (e s) : face (opEngineWatchdog e s) = face s := by simp [opEngineWatchdog]
@[simp] theorem face_opFunctionDrainDone (f s) : face (opFunctionDrainDone f s) = face s := by
  unfold opFunctionDrainDone; split <;> simp

/-! #### Cores, windows and votes (03) -/

@[simp] theorem face_modLane (t p f s) : face (modLane t p f s) = face s := by simp [modLane]
@[simp] theorem face_openWin (t p s) : face (openWin t p s) = face s := by simp [openWin]
@[simp] theorem face_closeWin (t p cause s) : face (closeWin t p cause s) = face s := by simp [closeWin]
@[simp] theorem face_noteL2 (t addr s) : face (noteL2 t addr s) = face s := by simp [noteL2]
@[simp] theorem face_dropWin (t n s) : face (dropWin t n s) = face s := by simp [dropWin]
@[simp] theorem face_excludeCore (t p bit code n cause s) : face (excludeCore t p bit code n cause s) = face s := by
  simp [excludeCore]
@[simp] theorem face_noteLevel (t s) : face (noteLevel t s) = face s := by simp [noteLevel]
@[simp] theorem face_foldMember (n c s) : face (foldMember n c s) = face s := by simp [foldMember]
@[simp] theorem face_trapCore (n irq code tval s) : face (trapCore n irq code tval s) = face s := by simp [trapCore]
@[simp] theorem face_takeIrqs (fuel n s) : face (takeIrqs fuel n s) = face s := by
  induction fuel generalizing s with
  | zero => rfl
  | succ k ih => simp only [takeIrqs]; split <;> simp [ih]
@[simp] theorem face_takeAll (n s) : face (takeAll n s) = face s := by simp [takeAll]
@[simp] theorem face_reachC (t p e s) : face (reachC t p e s) = face s := by simp [reachC]
@[simp] theorem face_setC (t cause irqs s) : face (setC t cause irqs s) = face s := by simp [setC]
@[simp] theorem face_joinC (t irqs s) : face (joinC t irqs s) = face s := by simp [joinC]
@[simp] theorem face_rearm (t s) : face (rearm t s) = face s := by simp [rearm]
@[simp] theorem face_pruneC (t s) : face (pruneC t s) = face s := by simp [pruneC]
@[simp] theorem face_closeAfter (t p m0 c s) : face (closeAfter t p m0 c s) = face s := by simp [closeAfter]
@[simp] theorem face_commitMember (n c s) : face (commitMember n c s) = face s := by simp [commitMember]
@[simp] theorem face_writeThrough (n addr s) : face (writeThrough n addr s) = face s := by simp [writeThrough]
@[simp] theorem face_loadPrivate (n addr size s) : face (loadPrivate n addr size s).2.2 = face s := by
  simp only [loadPrivate]; split <;> simp
@[simp] theorem face_serveHeld (t p s) : face (serveHeld t p s) = face s := by simp only [serveHeld]; split <;> simp
@[simp] theorem face_issueRead (t n win addr size only s) : face (issueRead t n win addr size only s) = face s := by
  simp [issueRead]
@[simp] theorem face_coreRequest (n addr size s) : face (coreRequest n addr size s) = face s := by simp [coreRequest]
@[simp] theorem face_serveAll (t s) : face (serveAll t s) = face s := by simp [serveAll]
@[simp] theorem face_opSingleIssueRead (t s) : face (opSingleIssueRead t s) = face s := by
  simp only [opSingleIssueRead]; (repeat' split) <;> simp
@[simp] theorem face_opWindowTimer (t s) : face (opWindowTimer t s) = face s := by simp [opWindowTimer]
@[simp] theorem face_opTriadInterrupt (t p src s) : face (opTriadInterrupt t p src s) = face s := by
  simp [opTriadInterrupt]
@[simp] theorem face_opReleasedStoreError (t addr resp s) : face (opReleasedStoreError t addr resp s) = face s := by
  simp [opReleasedStoreError]

/-! #### Register access by the maintenance protocol (17) -/

@[simp] theorem face_readRegs (n addr acc s) : face (readRegs n addr acc s).2.2 = face s := by
  induction n generalizing addr acc s with
  | zero => rfl
  | succ k ih => simp only [readRegs]; (repeat' split) <;> simp [ih]
@[simp] theorem face_opReadReg (r addr count s) : face (opReadReg r addr count s) = face s := by
  simp only [opReadReg]; split <;> simp

end Sys2Proof.Machine
end

section
/-! PROOF. What at most lets the module fall, and keeps outputs off where they may not act (00 R4, R5, 14 R313). -/

namespace Sys2Proof

/-! ### Entries of lists -/

/-- Entry `n` of a mapped list. -/
theorem nth_map {α β : Type} (f : α → β) (l : List α) (n : Nat) (d : α) :
    nth (l.map f) n (f d) = f (nth l n d) := by
  induction l generalizing n with
  | nil => rfl
  | cons a t ih => cases n <;> simp [nth, ih]

/-- Entry `n` after entry `i` has been set to the default of the list. -/
theorem nth_modAt_default {α : Type} (l : List α) (i n : Nat) (d : α) :
    nth (modAt l i (fun _ => d)) n d = if n = i then d else nth l n d := by
  induction l generalizing i n with
  | nil => simp [modAt, nth]
  | cons a t ih => cases i <;> cases n <;> simp [modAt, nth, ih]

/-- Setting an entry to what it is. -/
theorem modAt_nth {α : Type} (l : List α) (n : Nat) (d : α) : modAt l n (fun _ => nth l n d) = l := by
  induction l generalizing n with
  | nil => rfl
  | cons a t ih => cases n <;> simp [modAt, nth, ih]

/-- A change of one entry changes that entry of a list mapped from it. -/
theorem map_modAt_comm {α β : Type} (g : α → β) (l : List α) (n : Nat) (f : α → α) (k : β → β)
    (h : ∀ a, g (f a) = k (g a)) : (modAt l n f).map g = modAt (l.map g) n k := by
  induction l generalizing n with
  | nil => rfl
  | cons a t ih => cases n <;> simp [modAt, h, ih]

namespace Machine

/-! ### Calm: what most of the model does to the face

R313 lets an output act in STOP, RUN, HOLD and BRACE, in a module that is neither CANDIDATE nor STANDBY. A function is
calm when it moves the module by no more than a fall to SAFE or a reset of the die, and leaves the outputs allowed where
they were. Calm functions compose, so calmness goes through the model one function at a time. -/

/-- The states in which outputs may act. -/
def Mode.acts (m : Mode) : Bool :=
  match m with
  | .stop | .run | .hold | .brace => true
  | _ => false

/-- The moves that anything may bring about: none, a reset of the die, the fall of a released module to SAFE. -/
def Mode.drops (a b : Mode) : Prop :=
  b = a ∨ b = .supervised ∨ b = .safe ∧ a.released = true ∧ a ≠ .shutdown

theorem Mode.drops.trans {a b c : Mode} (h : a.drops b) (h' : b.drops c) : a.drops c := by
  rcases h with rfl | rfl | ⟨rfl, hr⟩
  · exact h'
  · rcases h' with rfl | rfl | ⟨-, hr, -⟩
    · exact .inr (.inl rfl)
    · exact .inr (.inl rfl)
    · cases hr
  · rcases h' with rfl | rfl | ⟨rfl, -⟩
    · exact .inr (.inr ⟨rfl, hr⟩)
    · exact .inr (.inl rfl)
    · exact .inr (.inr ⟨rfl, hr⟩)

/-- The state and the role let outputs act. -/
def Face.acts (a : Face) : Prop := a.mode.acts = true ∧ a.role ≤ 1

/-- No channel is commanded on and no group switch is closed. -/
def Face.quiet (a : Face) : Prop :=
  (∀ n, n < 16 → nth a.cmds n false = false) ∧ (∀ g, g < 2 → nth a.closed g false = false)

/-- `OutputsWhereAllowed`, said of the face. -/
def Face.allowed (a : Face) : Prop := a.acts ∨ a.quiet

theorem Face.allowed.quiet {a : Face} (h : a.allowed) (hn : ¬a.acts) : a.quiet := h.resolve_left hn

/-- From face `a` to face `b` the module at most falls, and outputs that were allowed stay so. -/
structure Calm (a b : Face) : Prop where
  drops : a.mode.drops b.mode
  allowed : a.allowed → b.allowed

theorem Calm.refl (a : Face) : Calm a a := ⟨.inl rfl, id⟩

theorem Calm.trans {a b c : Face} (h : Calm a b) (h' : Calm b c) : Calm a c :=
  ⟨h.drops.trans h'.drops, fun x => h'.allowed (h.allowed x)⟩

theorem acts_face (s : State) : (face s).acts ↔ stateActs s = true ∧ roleActs s = true := by
  have hm : s.mod.mode.acts = stateActs s := by
    unfold stateActs Mode.acts; cases s.mod.mode <;> rfl
  have hr : s.pair.role ≤ 1 ↔ roleActs s = true := by
    simp only [roleActs, decide_eq_true_eq]; omega
  exact and_congr (by rw [← hm]; rfl) hr

theorem allowed_face (s : State) : (face s).allowed ↔ OutputsWhereAllowed s := by
  have hc : ∀ n, nth (face s).cmds n false = (s.dq n).cmd := fun n => nth_map Dout.cmd s.fio.dq n {}
  have hg : ∀ g, nth (face s).closed g false = (s.grp g).closed := fun g => nth_map Group.closed s.fio.groups g {}
  unfold Face.allowed Face.quiet OutputsWhereAllowed
  simp only [hc, hg, acts_face]
  by_cases h : stateActs s = true ∧ roleActs s = true
  · simp [h]
  · simp only [h, false_or, imp_false, Bool.not_eq_true]

/-! ### Channels turned off -/

/-- The face with channel `n` off. -/
def Face.off (a : Face) (n : Nat) : Face := { a with cmds := modAt a.cmds n (fun _ => false) }

theorem Face.nth_off (a : Face) (n m : Nat) :
    nth (a.off n).cmds m false = if m = n then false else nth a.cmds m false := nth_modAt_default a.cmds n m false

theorem Face.quiet.off {a : Face} (h : a.quiet) (n : Nat) : (a.off n).quiet :=
  ⟨fun m hm => by rw [nth_off, h.1 m hm, ite_self], h.2⟩

theorem Face.off_calm (a : Face) (n : Nat) : Calm a (a.off n) := ⟨.inl rfl, Or.imp_right fun h => h.off n⟩

theorem face_dqSwitch (n : Nat) (on : Bool) (s : State) :
    face (dqSwitch n on s) = { face s with cmds := modAt (face s).cmds n (fun _ => on) } := by
  unfold dqSwitch
  split
  next h =>
    have hn : nth (face s).cmds n false = on := (nth_map Dout.cmd s.fio.dq n {}).trans h
    rw [← hn, modAt_nth]
  next =>
    simp only [modDq, face_mk, Face.mk.injEq]
    refine ⟨rfl, rfl, ?_, rfl⟩
    exact map_modAt_comm Dout.cmd _ n _ (fun _ => on) (fun _ => rfl)

theorem face_dqSwitch_off (n : Nat) (s : State) : face (dqSwitch n false s) = (face s).off n := face_dqSwitch n false s

/-- A fold of operations, each of which turns one channel off where P holds of the face, turns them all off. -/
theorem face_forAll_off (l : List Nat) (g : Nat → State → State) (s : State) {P : Face → Prop}
    (hP : ∀ a n, P a → P (a.off n)) (hg : ∀ n s, P (face s) → face (g n s) = (face s).off n) (hs : P (face s)) :
    face (forAll l g s) = l.foldl Face.off (face s) := by
  induction l generalizing s with
  | nil => rfl
  | cons n l ih =>
    rw [forAll, ih _ (by rw [hg n s hs]; exact hP _ n hs), hg n s hs]; rfl

theorem Face.nth_foldl_off (l : List Nat) (a : Face) (m : Nat) :
    nth (l.foldl Face.off a).cmds m false = if m ∈ l then false else nth a.cmds m false := by
  induction l generalizing a with
  | nil => simp
  | cons n l ih =>
    rw [List.foldl_cons, ih, nth_off]
    by_cases h : m = n <;> simp [h]

@[simp] theorem Face.foldl_off_mode (l : List Nat) (a : Face) : (l.foldl Face.off a).mode = a.mode := by
  induction l generalizing a with
  | nil => rfl
  | cons n l ih => exact ih _

@[simp] theorem Face.foldl_off_closed (l : List Nat) (a : Face) : (l.foldl Face.off a).closed = a.closed := by
  induction l generalizing a with
  | nil => rfl
  | cons n l ih => exact ih _

/-- With every channel turned off and the switches open, nothing acts. -/
theorem Face.quiet_foldl_off (a : Face) (h : ∀ g, g < 2 → nth a.closed g false = false) :
    ((List.range 16).foldl Face.off a).quiet :=
  ⟨fun m hm => by rw [nth_foldl_off, if_pos (List.mem_range.2 hm)], by simpa using h⟩

theorem nth_all_false {l : List Bool} (h : ∀ b ∈ l, b = false) (n : Nat) : nth l n false = false := by
  induction l generalizing n with
  | nil => rfl
  | cons a t ih =>
    cases n with
    | zero => exact h a (by simp)
    | succ n => exact ih (fun b hb => h b (by simp [hb])) n

/-! ### The refresh of the outputs (R313)

`fioRefresh` follows each event that may forbid an output: it leaves on only what may be on. -/

/-- What a refresh does to one channel. -/
def refreshDq (n : Nat) (s : State) : State := if (s.dq n).cmd && !dqMayBeOn s n then dqSwitch n false s else s

theorem groupDrives_acts {s : State} {g : Nat} (h : groupDrives s g = true) : (face s).acts := by
  simp only [groupDrives, Bool.and_eq_true] at h
  exact (acts_face s).2 (by tauto)

theorem groupMayClose_acts {s : State} {g : Nat} (h : groupMayClose s g = true) : (face s).acts := by
  simp only [groupMayClose, Bool.and_eq_true] at h
  exact groupDrives_acts h.1

theorem dqMayBeOn_acts {s : State} {n : Nat} (h : dqMayBeOn s n = true) : (face s).acts := by
  simp only [dqMayBeOn, Bool.and_eq_true] at h
  exact groupDrives_acts (g := n / 8) (by tauto)

/-- The group switches of a refresh. -/
def refreshGroups (s : State) : State := { s with fio := { s.fio with groups := mapIdxFrom 0 (groupNow s) s.fio.groups } }

theorem fioRefresh_eq (s : State) : fioRefresh s = forAll (List.range 16) refreshDq (refreshGroups s) := rfl

/-- Where nothing may act, a refresh leaves no group switch closed. -/
theorem refreshGroups_closed (s : State) (h : ¬(face s).acts) (g : Nat) :
    nth (face (refreshGroups s)).closed g false = false := by
  have hb : ∀ g, groupMayClose s g = false := fun g => Bool.eq_false_iff.2 fun hm => h (groupMayClose_acts hm)
  have open_ : ∀ i (l : List Group) (x : Group), x ∈ mapIdxFrom i (groupNow s) l → x.closed = false := by
    intro i l
    induction l generalizing i with
    | nil => intro x hx; cases hx
    | cons y l ih =>
      intro x hx
      rcases List.mem_cons.1 hx with rfl | hx
      · simp [groupNow, hb]
      · exact ih _ x hx
  refine nth_all_false ?_ g
  simpa [face, refreshGroups] using open_ 0 s.fio.groups

theorem face_refreshDq_cases (n : Nat) (s : State) :
    face (refreshDq n s) = face s ∨ face (refreshDq n s) = (face s).off n := by
  unfold refreshDq
  split
  · exact .inr (face_dqSwitch_off n s)
  · exact .inl rfl

/-- Where nothing may act, a refresh turns each channel off. -/
theorem face_refreshDq_off (n : Nat) (s : State) (h : ¬(face s).acts) : face (refreshDq n s) = (face s).off n := by
  have hb : dqMayBeOn s n = false := Bool.eq_false_iff.2 fun hm => h (dqMayBeOn_acts hm)
  rw [← face_dqSwitch_off]
  unfold refreshDq
  split
  · rfl
  next hc =>
    have hc : (s.dq n).cmd = false := by simpa [hb] using hc
    simp [dqSwitch, hc]

theorem refresh_mode_role (s : State) :
    (face (fioRefresh s)).mode = (face s).mode ∧ (face (fioRefresh s)).role = (face s).role := by
  rw [fioRefresh_eq]
  refine forAll_keeps (P := fun t => (face t).mode = (face s).mode ∧ (face t).role = (face s).role)
    _ _ _ ?_ ⟨rfl, rfl⟩
  intro n t h
  rcases face_refreshDq_cases n t with e | e <;> rw [e]
  · exact h
  · exact h

/-- A refresh leaves the outputs allowed, whatever they were before. -/
theorem allowed_fioRefresh (s : State) : (face (fioRefresh s)).allowed := by
  by_cases h : (face s).acts
  · obtain ⟨hm, hr⟩ := refresh_mode_role s
    exact .inl ⟨by rw [hm]; exact h.1, by rw [hr]; exact h.2⟩
  · refine .inr ?_
    rw [fioRefresh_eq, face_forAll_off (P := fun a => ¬a.acts) _ _ (refreshGroups s) (fun _ _ => id) face_refreshDq_off h]
    exact Face.quiet_foldl_off _ fun g _ => refreshGroups_closed s h g

/-! ### The calm operations that touch the outputs, the state or the die -/

theorem Calm.to_fioRefresh {a : Face} {s : State} (h : a.mode.drops s.mod.mode) : Calm a (face (fioRefresh s)) :=
  ⟨by rw [(refresh_mode_role s).1]; exact h, fun _ => allowed_fioRefresh s⟩

@[simp] theorem calm_fioRefresh {a : Face} {s : State} (h : Calm a (face s)) : Calm a (face (fioRefresh s)) :=
  .to_fioRefresh h.drops

@[simp] theorem calm_dqSwitch_off {a : Face} {s : State} (n : Nat) (h : Calm a (face s)) :
    Calm a (face (dqSwitch n false s)) := by
  rw [face_dqSwitch_off]; exact h.trans (Face.off_calm _ n)

theorem calm_dqSwitch {a : Face} {s : State} (n : Nat) (on : Bool) (hs : (face s).acts) (h : Calm a (face s)) :
    Calm a (face (dqSwitch n on s)) := by
  rw [face_dqSwitch]; exact h.trans ⟨.inl rfl, fun _ => .inl hs⟩

theorem calm_modGrp {a : Face} {s : State} (g : Nat) (f : Group → Group) (hs : (face s).acts) (h : Calm a (face s)) :
    Calm a (face (modGrp g f s)) := h.trans ⟨.inl rfl, fun _ => .inl hs⟩

@[simp] theorem calm_dieReset {a : Face} {s : State} (c : Nat) (q : Bool) (hold : Option Bool) :
    Calm a (face (dieReset c q hold s)) :=
  have quiet : (face State.reset).quiet := ⟨by decide, by decide⟩
  ⟨.inr (.inl rfl), fun _ => .inr quiet⟩

/-- The outputs' end at the entry of SAFE and of SHUTDOWN. -/
theorem face_fioOff (s : State) : face (fioOff s) =
    (List.range 16).foldl Face.off { face s with closed := s.fio.groups.map (fun _ => false) } := by
  unfold fioOff
  rw [face_forAll_off (P := fun _ => True) _ _ _ (fun _ _ => id) ?_ trivial]
  · simp only [face, List.map_map, Function.comp_def]
  · intro n s _; rw [face_dqSwitch_off, face_modDq]; intro d; rfl

theorem quiet_fioOff (s : State) : (face (fioOff s)).quiet := by
  rw [face_fioOff]
  exact Face.quiet_foldl_off _ fun g _ => nth_all_false (by simp) g

theorem fioOff_mode (s : State) : (face (fioOff s)).mode = (face s).mode := by
  rw [face_fioOff, Face.foldl_off_mode]

@[simp] theorem calm_enterSafe {a : Face} {s : State} (c : Nat) (h : Calm a (face s)) : Calm a (face (enterSafe c s)) := by
  unfold enterSafe
  split
  next hm =>
    obtain ⟨hr, -, hd⟩ := hm
    have hsafe : Calm (face s)
        (face (fioOff (braceEnd { s with mod := { s.mod with mode := .safe, safeSeen := true } }))) := by
      refine ⟨.inr (.inr ⟨?_, hr, hd⟩), fun _ => .inr (quiet_fioOff _)⟩
      rw [fioOff_mode, face_braceEnd]; rfl
    simpa using h.trans hsafe
  next => exact h

@[simp] theorem calm_forAll {α : Type} {a : Face} {s : State} (l : List α) (f : α → State → State)
    (hf : ∀ x t, Calm a (face t) → Calm a (face (f x t))) (h : Calm a (face s)) : Calm a (face (forAll l f s)) :=
  forAll_keeps (P := fun t => Calm a (face t)) l f s hf h

@[simp] theorem calm_forIdx {α : Type} {a : Face} {s : State} (i : Nat) (l : List α) (f : Nat → α → State → State)
    (hf : ∀ i x t, Calm a (face t) → Calm a (face (f i x t))) (h : Calm a (face s)) :
    Calm a (face (forIdx i l f s)) := by
  induction l generalizing i s with
  | nil => exact h
  | cons x l ih => exact ih _ (hf _ _ _ h)

@[simp] theorem calm_ite {a x y : Face} (c : Prop) [Decidable c] (hx : Calm a x) (hy : Calm a y) :
    Calm a (if c then x else y) := by split <;> assumption

/-! ### Calm functions, in the order of the chapters' files -/

section
variable {φ : Face} {s : State}

/-! #### Field inputs and outputs (14) -/

@[simp] theorem calm_latchFbk (n cause) (hs : Calm φ (face s)) : Calm φ (face (latchFbk n cause s)) := by
  simp [latchFbk, hs]

/-- A channel follows its value: it is turned on only where it may be on. -/
@[simp] theorem calm_dqFollow (n) (hs : Calm φ (face s)) : Calm φ (face (dqFollow n s)) := by
  simp only [dqFollow]
  split
  next h =>
    have ha : (face s).acts := dqMayBeOn_acts (n := n) (by simp only [Bool.and_eq_true] at h; exact h.2)
    split
    · exact hs
    split
    · exact calm_latchFbk n 4 hs
    · exact calm_dqSwitch n true ha hs
  next => exact calm_dqSwitch_off n hs

@[simp] theorem calm_latchCross (n cause partner) (hs : Calm φ (face s)) :
    Calm φ (face (latchCross n cause partner s)) := by
  simp [latchCross, hs]
@[simp] theorem calm_latchPathDq (n) (hs : Calm φ (face s)) : Calm φ (face (latchPathDq n s)) := by
  simp [latchPathDq, hs]
@[simp] theorem calm_latchGsw (g) (hs : Calm φ (face s)) : Calm φ (face (latchGsw g s)) := by simp [latchGsw, hs]
@[simp] theorem calm_fbCheck (n) (hs : Calm φ (face s)) : Calm φ (face (fbCheck n s)) := by
  simp only [fbCheck]; (repeat' split) <;> simp [hs]
@[simp] theorem calm_sampleFb (n v) (hs : Calm φ (face s)) : Calm φ (face (sampleFb n v s)) := by
  simp only [sampleFb]; split <;> simp [hs]
@[simp] theorem calm_opInputSample (di fb) (hs : Calm φ (face s)) : Calm φ (face (opInputSample di fb s)) := by
  unfold opInputSample; split
  · exact calm_forIdx _ _ _ (fun i x t ht => calm_sampleFb i x ht) (by simp [hs])
  · exact hs
@[simp] theorem calm_nameCross (n) (hs : Calm φ (face s)) : Calm φ (face (nameCross n s)) := by
  simp only [nameCross]; (repeat' split) <;> simp [hs]

@[simp] theorem doutSample_cmd (u st w x y m d) : (doutSample u st w x y m d).cmd = d.cmd := by unfold doutSample; rfl

@[simp] theorem calm_sampleDq (n v ma) (hs : Calm φ (face s)) : Calm φ (face (sampleDq n v ma s)) := by
  unfold sampleDq
  split
  · exact hs
  · extract_lets s₁ d s₂ s₃
    have h₁ : Calm φ (face s₁) := by simp [s₁, hs]
    have h₂ : Calm φ (face s₂) := by simp only [s₂]; split <;> simp [h₁]
    have h₃ : Calm φ (face s₃) := by simp only [s₃]; split <;> simp [h₂]
    exact calm_nameCross n h₃

/-- The readings may latch a fault; the refresh after them leaves on what still may be. -/
@[simp] theorem calm_opReadbackSample (dq loadMa groupMa) (hs : Calm φ (face s)) :
    Calm φ (face (opReadbackSample dq loadMa groupMa s)) := by
  unfold opReadbackSample; split
  · refine calm_fioRefresh ?_
    simpa [map_mapIdxFrom] using calm_forIdx 0 dq _ (fun n v t ht => calm_sampleDq n v _ ht) hs
  · exact hs

@[simp] theorem calm_opOutputImageArrival (hs : Calm φ (face s)) : Calm φ (face (opOutputImageArrival s)) := by
  unfold opOutputImageArrival; split
  · exact hs
  · refine calm_forAll _ _ (fun n t ht => ?_) (calm_fioRefresh ?_)
    · split
      · exact ht
      · exact calm_dqFollow n ht
    · simpa [map_mapIdxFrom] using hs

@[simp] theorem calm_opOffPulseEnd (n) (hs : Calm φ (face s)) : Calm φ (face (opOffPulseEnd n s)) := by
  simp only [opOffPulseEnd]; split
  · refine calm_dqFollow n ?_
    split <;> simp [hs]
  · exact hs

/-- Opening a group switch is calm. -/
theorem calm_modGrp_open (g : Nat) (f : Group → Group) (hf : ∀ x, (f x).closed = false)
    (hs : Calm φ (face s)) : Calm φ (face (modGrp g f s)) := by
  have hc : (face (modGrp g f s)).closed = modAt (face s).closed g (fun _ => false) :=
    map_modAt_comm Group.closed _ g f _ hf
  refine hs.trans ⟨.inl rfl, Or.imp id fun hq => ⟨hq.1, fun k hk => ?_⟩⟩
  rw [hc, nth_modAt_default, hq.2 k hk, ite_self]

/-- A group switch is closed only where the group may close. -/
@[simp] theorem calm_groupCheck (g slot showsOpen) (hs : Calm φ (face s)) :
    Calm φ (face (groupCheck g slot showsOpen s)) := by
  simp only [groupCheck]
  set t := if slot then { s with fio := { s.fio with slot := 17 + g } } else s with ht
  have hface : face t = face s := by rw [ht]; simp
  have hst : Calm φ (face t) := by rw [hface]; exact hs
  split
  · split <;> simp [hst]
  split
  · exact calm_modGrp_open g _ (fun _ => rfl) hst
  split
  next h =>
    have ha : (face t).acts := groupMayClose_acts (g := g) (by simp only [Bool.and_eq_true] at h; exact h.1)
    exact calm_modGrp g _ ha hst
  next => exact hst

@[simp] theorem calm_opGroupSwitchTest (g showsOpen) (hs : Calm φ (face s)) :
    Calm φ (face (opGroupSwitchTest g showsOpen s)) := by
  simp only [opGroupSwitchTest]; split <;> simp [hs]
@[simp] theorem calm_opTestRoundEnd (hs : Calm φ (face s)) : Calm φ (face (opTestRoundEnd s)) := by
  have keep : (fun d : Dout => (if d.cross then { d with final := true, inRound := false } else d).cmd) = Dout.cmd := by
    funext d; split <;> rfl
  simp only [opTestRoundEnd]; (repeat' split) <;> simp [hs, keep, Function.comp_def]
@[simp] theorem calm_opOutputOverload (n ma) (hs : Calm φ (face s)) : Calm φ (face (opOutputOverload n ma s)) := by
  simp only [opOutputOverload]; split <;> simp [hs]
@[simp] theorem calm_opGroupOvercurrent (g ma) (hs : Calm φ (face s)) : Calm φ (face (opGroupOvercurrent g ma s)) := by
  simp only [opGroupOvercurrent]; split <;> simp [hs]
@[simp] theorem calm_opReturnCrossFault (g) (hs : Calm φ (face s)) : Calm φ (face (opReturnCrossFault g s)) := by
  simp only [opReturnCrossFault]; split <;> simp [hs]
@[simp] theorem calm_opFbPullInTimeout (n) (hs : Calm φ (face s)) : Calm φ (face (opFbPullInTimeout n s)) := by
  simp only [opFbPullInTimeout]; split <;> simp [hs]
@[simp] theorem calm_opFbDropOutTimeout (n) (hs : Calm φ (face s)) : Calm φ (face (opFbDropOutTimeout n s)) := by
  simp only [opFbDropOutTimeout]; split <;> simp [hs]
@[simp] theorem calm_fioLplusLost (hs : Calm φ (face s)) : Calm φ (face (fioLplusLost s)) := by
  simp [fioLplusLost, Function.comp_def, hs]
@[simp] theorem calm_lplusUsable (hs : Calm φ (face s)) : Calm φ (face (lplusUsable s)) := by
  have keep : ∀ l : List Dout, (mapIdxFrom 0 (dqAfresh s) l).map (·.cmd) = l.map (·.cmd) :=
    fun l => map_mapIdxFrom _ 0 _ l (fun _ _ => rfl)
  simp [lplusUsable, keep, hs]
@[simp] theorem calm_opLplusRestored (hs : Calm φ (face s)) : Calm φ (face (opLplusRestored s)) := by
  simp [opLplusRestored, hs]

@[simp] theorem dqCleared_cmd (x p f d) : (dqCleared x p f d).cmd = d.cmd := by unfold dqCleared; rfl

@[simp] theorem calm_faultReset (inputs groups channels) (hs : Calm φ (face s)) :
    Calm φ (face (faultReset inputs groups channels s)) := by
  simp only [faultReset, face_writeFaultRecord, face_event]
  refine calm_fioRefresh ?_
  split <;> simp [hs]

@[simp] theorem calm_opFaultReset (init inputs groups channels) (hs : Calm φ (face s)) :
    Calm φ (face (opFaultReset init inputs groups channels s)) := by
  simp [opFaultReset, hs]

@[simp] theorem calm_opOvlReset (init groups channels) (hs : Calm φ (face s)) :
    Calm φ (face (opOvlReset init groups channels s)) := by
  simp only [opOvlReset]
  split
  · simp only [face_writeFaultRecord, face_event]
    refine calm_fioRefresh ?_
    simp [hs]
  · exact hs

/-! #### The Awn scan (04) -/

@[simp] theorem calm_awnNoMajority (hs : Calm φ (face s)) : Calm φ (face (awnNoMajority s)) := by
  simp [awnNoMajority, hs]
@[simp] theorem calm_awnVote (hs : Calm φ (face s)) : Calm φ (face (awnVote s)) := by
  simp only [awnVote]; split <;> simp [hs]
@[simp] theorem calm_laneClosed (l) (hs : Calm φ (face s)) : Calm φ (face (laneClosed l s)) := by
  simp only [laneClosed]; split <;> simp [hs]
@[simp] theorem calm_awnStep (l f) (hs : Calm φ (face s)) : Calm φ (face (awnStep l f s)) := by
  simp only [awnStep]; split <;> simp [hs]
@[simp] theorem calm_opAwnIllegalStep (l ecc) (hs : Calm φ (face s)) : Calm φ (face (opAwnIllegalStep l ecc s)) := by
  simp [opAwnIllegalStep, hs]
@[simp] theorem calm_opLaneTimeout (hs : Calm φ (face s)) : Calm φ (face (opLaneTimeout s)) := by
  simp [opLaneTimeout, hs]

/-! #### The scheduler (06) -/

@[simp] theorem calm_missReact (i) (hs : Calm φ (face s)) : Calm φ (face (missReact i s)) := by
  simp only [missReact]; split <;> simp [hs]
@[simp] theorem calm_opTaskRelease (i) (hs : Calm φ (face s)) : Calm φ (face (opTaskRelease i s)) := by
  simp only [opTaskRelease]; (repeat' split) <;> simp [hs]
@[simp] theorem calm_opJobDone (init t p v) (hs : Calm φ (face s)) : Calm φ (face (opJobDone init t p v s)) := by
  simp only [opJobDone]; (repeat' split) <;> simp [hs]
@[simp] theorem calm_opDeadlineMiss (i) (hs : Calm φ (face s)) : Calm φ (face (opDeadlineMiss i s)) := by
  simp only [opDeadlineMiss]; (repeat' split) <;> simp [hs]
@[simp] theorem calm_opSensorSample (q) (hs : Calm φ (face s)) : Calm φ (face (opSensorSample q s)) := by
  simp only [opSensorSample]; split <;> simp [hs]

/-! #### The supply supervisor, the always-on domain and the quench (07, 08) -/

@[simp] theorem calm_opQuenchDone (us) (hs : Calm φ (face s)) : Calm φ (face (opQuenchDone us s)) := by
  simp [opQuenchDone, hs]
@[simp] theorem calm_opQuenchGuardExpiry (hs : Calm φ (face s)) : Calm φ (face (opQuenchGuardExpiry s)) := by
  simp [opQuenchGuardExpiry, hs]
@[simp] theorem calm_opRailFaultTimeout (hs : Calm φ (face s)) : Calm φ (face (opRailFaultTimeout s)) := by
  simp [opRailFaultTimeout, hs]

@[simp] theorem calm_lplusSampled (hs : Calm φ (face s)) : Calm φ (face (lplusSampled s)) := by
  unfold lplusSampled
  extract_lets v out raise inRange low fio _ s₁ s₂ s₃
  have h₂ : Calm φ (face s₂) := by simp only [s₂, s₁, fio]; split <;> simp [hs]
  have h₃ : Calm φ (face s₃) := by simp only [s₃]; split <;> simp [h₂]
  (repeat' split) <;> simp [h₃]

@[simp] theorem calm_railFault (r) (hs : Calm φ (face s)) : Calm φ (face (railFault r s)) := by simp [railFault, hs]
@[simp] theorem calm_railSampled (rails) (hs : Calm φ (face s)) : Calm φ (face (railSampled rails s)) := by
  unfold railSampled
  exact calm_forAll _ _ (fun r t ht => calm_railFault r ht) (by simpa using hs)
@[simp] theorem calm_opPowerOn (coding) (hs : Calm φ (face s)) : Calm φ (face (opPowerOn coding s)) := by
  simp [opPowerOn, hs]

/-! #### Thresh (18) -/

@[simp] theorem calm_opStartupBist (o) (hs : Calm φ (face s)) : Calm φ (face (opStartupBist o s)) := by
  simp [opStartupBist, hs]

@[simp] theorem calm_opThreshRunDone (hs : Calm φ (face s)) : Calm φ (face (opThreshRunDone s)) := by
  unfold opThreshRunDone
  split
  · exact hs
  split
  · exact calm_dieReset 4 false _
  · exact hs

/-! #### The pair (12) -/

/-- A change of the pair's record that settles the role as ACTIVE, or in a module where outputs do not act, is calm. -/
theorem calm_pair (p : Pair) (hp : p.role = 1 ∨ 2 ≤ s.pair.role) (hs : Calm φ (face s)) :
    Calm φ (face { s with pair := p }) := by
  refine hs.trans ⟨.inl rfl, fun h => ?_⟩
  rcases hp with hp | hp
  · exact h.imp (fun ha => ⟨ha.1, hp.le⟩) id
  · exact .inr (h.quiet fun ha => absurd ha.2 (Nat.not_le.2 hp))

/-- So is any change of it before a refresh. -/
theorem calm_fioRefresh_pair (p : Pair) (hs : Calm φ (face s)) :
    Calm φ (face (fioRefresh { s with pair := p })) := .to_fioRefresh hs.drops

/-- A role is settled as ACTIVE, or in a module that had no role in which outputs act. -/
@[simp] theorem calm_settleRole (r) (hr : r = 1 ∨ 2 ≤ s.pair.role) (hs : Calm φ (face s)) :
    Calm φ (face (settleRole r s)) := by
  simp only [settleRole, face_event]
  exact calm_pair _ hr hs

/-- A fenced module becomes a STANDBY, and the refresh turns its outputs off. -/
@[simp] theorem calm_pairFence (role partner hub) (hs : Calm φ (face s)) :
    Calm φ (face (pairFence role partner hub s)) := by
  have h : ∀ p : Pair, Calm φ
      (face (fioRefresh { raisePair 2 0x3712 hub (w32 s.pair.reign) (w32 partner) s with pair := p })) :=
    fun p => calm_fioRefresh_pair p (by simpa using hs)
  simp only [pairFence]; split <;> simp [h]

@[simp] theorem calm_fenceCheck (r hub) (hs : Calm φ (face s)) : Calm φ (face (fenceCheck r hub s)) := by
  simp only [fenceCheck]; (repeat' split) <;> simp [hs]
@[simp] theorem calm_reportActive (b) (hs : Calm φ (face s)) : Calm φ (face (reportActive b s)) := by
  simp [reportActive, hs]
@[simp] theorem calm_reportTaken (b) (hs : Calm φ (face s)) : Calm φ (face (reportTaken b s)) := by
  simp only [reportTaken]; split <;> simp [hs]
@[simp] theorem calm_opPairReportReceive (rx b) (hs : Calm φ (face s)) :
    Calm φ (face (opPairReportReceive rx b s)) := by
  simp only [opPairReportReceive]
  (repeat' split) <;> simp [hs]
@[simp] theorem calm_pairKernel (hub role reign) (hs : Calm φ (face s)) :
    Calm φ (face (pairKernel hub role reign s)) := by
  simp only [pairKernel]; split <;> simp [hs]

@[simp] theorem calm_opCandidateTimeout (hs : Calm φ (face s)) : Calm φ (face (opCandidateTimeout s)) := by
  unfold opCandidateTimeout
  split
  next h =>
    split
    · exact calm_settleRole 2 (.inr (by omega)) hs
    · simp [hs]
  · exact hs

@[simp] theorem calm_opCandidateDrawEnd (hs : Calm φ (face s)) : Calm φ (face (opCandidateDrawEnd s)) := by
  unfold opCandidateDrawEnd
  split
  next h =>
    split
    · exact calm_settleRole 2 (.inr (by omega)) hs
    · simp [hs]
  · exact hs

@[simp] theorem calm_pairTakeover (cause b) (hs : Calm φ (face s)) : Calm φ (face (pairTakeover cause b s)) := by
  simp only [pairTakeover, face_event]
  refine calm_pair _ (.inl rfl) ?_
  (repeat' split) <;> simp [hs]
@[simp] theorem calm_switchDone (b) (hs : Calm φ (face s)) : Calm φ (face (switchDone b s)) := by simp [switchDone, hs]

@[simp] theorem calm_standbyBoundary (back b) (hs : Calm φ (face s)) : Calm φ (face (standbyBoundary back b s)) := by
  simp only [standbyBoundary]
  split
  · exact calm_pair _ (.inl rfl) hs
  · (repeat' split) <;> simp [hs]

@[simp] theorem calm_activeBoundary (dual b) (hs : Calm φ (face s)) : Calm φ (face (activeBoundary dual b s)) := by
  simp only [activeBoundary]
  split
  · simpa using calm_fioRefresh_pair _ hs
  split
  · refine calm_fioRefresh_pair _ ?_
    split <;> simp [hs]
  · split <;> simp [hs]

@[simp] theorem calm_candidateBoundary (hr : 2 ≤ s.pair.role) (hs : Calm φ (face s)) :
    Calm φ (face (candidateBoundary s)) := by
  unfold candidateBoundary
  split
  · exact calm_settleRole _ (.inl rfl) (by simpa using hs)
  · exact calm_settleRole _ (.inr hr) hs
  · simp [hs]

/-- At a boundary an ACTIVE gives its role away before a refresh; any other only gains one. -/
@[simp] theorem calm_pairBoundary (b) (hs : Calm φ (face s)) : Calm φ (face (pairBoundary b s)) := by
  unfold pairBoundary
  split
  · exact hs
  next h0 =>
    extract_lets dual back s₁ p s₂ s₃
    have hr : s₂.pair.role = s.pair.role := congrArg Face.role (face_pairFaults s)
    have h₂ : Calm φ (face s₂) := by simpa [s₂, s₁, p] using hs
    have h₃ : Calm φ (face s₃) := by
      simp only [s₃]
      split
      · exact calm_activeBoundary dual b h₂
      · exact calm_standbyBoundary back b h₂
      next h1 h2 =>
        have h1 : s₂.pair.role ≠ 1 := h1
        exact calm_candidateBoundary (by omega) h₂
    exact h₃

/-! #### The Vyfabin cycle (09, 10) -/

@[simp] theorem calm_takeKernel (k ch rx b) (hs : Calm φ (face s)) : Calm φ (face (takeKernel k ch rx b s)) := by
  simp only [takeKernel]; split <;> simp [hs]
@[simp] theorem calm_readKernel (port rx h b k) (hs : Calm φ (face s)) :
    Calm φ (face (readKernel port rx h b k s)) := by
  simp only [readKernel]; (repeat' split) <;> simp [hs]
@[simp] theorem calm_readSlots (port rx h b) (hs : Calm φ (face s)) : Calm φ (face (readSlots port rx h b s)) := by
  simp only [readSlots, face_forAll _ _ _ (fun x t => face_readAper port rx h b x t), face_readClaims]
  exact calm_forAll _ _ (fun k t ht => calm_readKernel port rx h b k ht) hs
@[simp] theorem calm_startIntegrate (port rx h b) (hs : Calm φ (face s)) :
    Calm φ (face (startIntegrate port rx h b s)) := by
  simp only [startIntegrate]; simp [hs]
@[simp] theorem calm_headerIntegrating (port rx h b) (hs : Calm φ (face s)) :
    Calm φ (face (headerIntegrating port rx h b s)) := by
  simp only [headerIntegrating]; (repeat' split) <;> simp [hs]
@[simp] theorem calm_headerCold (port rx h b) (hs : Calm φ (face s)) : Calm φ (face (headerCold port rx h b s)) := by
  simp only [headerCold]; (repeat' split) <;> simp [hs]

theorem calm_leaveSynced (f : State → State)
    (hf : ∀ t, Calm φ (face t) → Calm φ (face (f t))) (hs : Calm φ (face s)) : Calm φ (face (leaveSynced f s)) := by
  unfold leaveSynced; split
  · simpa using hf _ (by simpa using hs)
  · exact hf s hs

/-- In synchronised operation a header is taken, or starts an integration anew. -/
@[simp] theorem calm_headerSynced (port rx h b) (hs : Calm φ (face s)) :
    Calm φ (face (headerSynced port rx h b s)) := by
  have take : ∀ t, Calm φ (face t) → Calm φ (face (readSlots port rx h b (takeHeader port rx h t))) := fun t ht =>
    calm_readSlots port rx h b (by simpa using ht)
  have start : ∀ t, Calm φ (face t) → Calm φ (face (leaveSynced (startIntegrate port rx h b) t)) := fun t ht =>
    calm_leaveSynced _ (fun _ hu => calm_startIntegrate port rx h b hu) ht
  simp only [headerSynced]
  (repeat' split) <;> simp [hs, take, start]

@[simp] theorem calm_readHeader (port rx b) (hs : Calm φ (face s)) : Calm φ (face (readHeader port rx b s)) := by
  simp only [readHeader]; (repeat' split) <;> simp [hs]
@[simp] theorem calm_opEarFrameReceive (port rx endPass b) (hs : Calm φ (face s)) :
    Calm φ (face (opEarFrameReceive port rx endPass b s)) := by
  simp only [opEarFrameReceive]; split <;> simp [hs]

/-! #### The train cycle (05) -/

@[simp] theorem calm_cycleOverrun (hs : Calm φ (face s)) : Calm φ (face (cycleOverrun s)) := by simp [cycleOverrun, hs]
@[simp] theorem calm_scanOverrun (hs : Calm φ (face s)) : Calm φ (face (scanOverrun s)) := by simp [scanOverrun, hs]
@[simp] theorem calm_opAwnScanTrigger (hs : Calm φ (face s)) : Calm φ (face (opAwnScanTrigger s)) := by
  simp only [opAwnScanTrigger]; (repeat' split) <;> simp [hs]
@[simp] theorem calm_opReleasePhase (hs : Calm φ (face s)) : Calm φ (face (opReleasePhase s)) := by
  simp only [opReleasePhase]; (repeat' split) <;> simp [hs]
@[simp] theorem calm_opPublish (hs : Calm φ (face s)) : Calm φ (face (opPublish s)) := by
  simp only [opPublish]; (repeat' split) <;> simp [hs]

/-! #### SELFTEST, hand-over and shut-down (03, 20) -/

@[simp] theorem calm_shutRequest (restart pin) (hs : Calm φ (face s)) : Calm φ (face (shutRequest restart pin s)) := by
  simp only [shutRequest]; split <;> simp [hs]
@[simp] theorem calm_opSdreqActive (hs : Calm φ (face s)) : Calm φ (face (opSdreqActive s)) := by
  simp only [opSdreqActive]; (repeat' split) <;> simp [hs]
@[simp] theorem calm_opShutdownGo (init v) (hs : Calm φ (face s)) : Calm φ (face (opShutdownGo init v s)) := by
  simp [opShutdownGo, hs]

/-! #### The security engine (17) -/

@[simp] theorem calm_opInstallationComplete (hs : Calm φ (face s)) : Calm φ (face (opInstallationComplete s)) := by
  simp only [opInstallationComplete]; (repeat' split) <;> simp [hs]

theorem calm_request (r : Req) (op : Nat) (b : Bool) (f : Session → State → State)
    (hf : ∀ x t, Calm φ (face t) → Calm φ (face (f x t))) (hs : Calm φ (face s)) :
    Calm φ (face (request r op b f s)) := by
  simp only [request]
  (repeat' split) <;> simp [hf, hs]

theorem calm_privileged (r : Req) (op bit addr : Nat) (b : Bool) (f : Session → State → Nat × State)
    (hf : ∀ x t, Calm φ (face t) → Calm φ (face (f x t).2)) (hs : Calm φ (face s)) :
    Calm φ (face (privileged r op bit addr b f s)) := by
  refine calm_request _ _ _ _ (fun x t ht => ?_) hs
  (repeat' split) <;> simp [hf, ht]

@[simp] theorem calm_opActivate (r) (hs : Calm φ (face s)) : Calm φ (face (opActivate r s)) := by
  unfold opActivate
  exact calm_privileged _ _ _ _ _ _ (fun _ t ht => calm_shutRequest true false ht) hs

/-! #### Triads: quiet points, repair, split (03) -/

@[simp] theorem calm_haltTriad (t cause) (hs : Calm φ (face s)) : Calm φ (face (haltTriad t cause s)) := by
  simp [haltTriad, hs]
@[simp] theorem calm_noMajority (t num cause) (hs : Calm φ (face s)) : Calm φ (face (noMajority t num cause s)) := by
  simp [noMajority, hs]
@[simp] theorem calm_opReintegration (t da db dr) (hs : Calm φ (face s)) :
    Calm φ (face (opReintegration t da db dr s)) := by
  simp only [opReintegration]; split <;> simp [hs]
@[simp] theorem calm_opTrdWatchdog (t) (hs : Calm φ (face s)) : Calm φ (face (opTrdWatchdog t s)) := by
  simp only [opTrdWatchdog]; split <;> simp [hs]

/-! #### The register blocks (21) -/

@[simp] theorem calm_schWrite (init o v) (hs : Calm φ (face s)) : Calm φ (face (schWrite init o v s)) := by
  simp only [schWrite]; (repeat' split) <;> simp [hs]
@[simp] theorem calm_shutdownWrite (init v) (hs : Calm φ (face s)) : Calm φ (face (shutdownWrite init v s)) := by
  simp [shutdownWrite, hs]
@[simp] theorem calm_blockWrite (init w o v) (hs : Calm φ (face s)) : Calm φ (face (blockWrite init w o v s)) := by
  simp only [blockWrite]; (repeat' split) <;> simp [hs]
@[simp] theorem calm_regWrite (init w o v) (hs : Calm φ (face s)) : Calm φ (face (regWrite init w o v s)) := by
  simp [regWrite, hs]

/-! #### Rachis (01) -/

@[simp] theorem calm_writeTarget (init addr bs en) (hs : Calm φ (face s)) :
    Calm φ (face (writeTarget init addr bs en s).2) := by
  simp only [writeTarget]; split <;> simp [hs]
@[simp] theorem calm_busWrite (init addr bs en) (hs : Calm φ (face s)) :
    Calm φ (face (busWrite init addr bs en s).2) := by
  simp only [busWrite]; split <;> simp [hs]
@[simp] theorem calm_writeEffect (t) (hs : Calm φ (face s)) : Calm φ (face (writeEffect t s)) := by
  simp [writeEffect, hs]
@[simp] theorem calm_rachisEffect (t) (hs : Calm φ (face s)) : Calm φ (face (rachisEffect t s)) := by
  simp only [rachisEffect]; split <;> simp [hs]
@[simp] theorem calm_opRachisTransaction (t) (hs : Calm φ (face s)) : Calm φ (face (opRachisTransaction t s)) := by
  simp only [opRachisTransaction]; (repeat' split) <;> simp [hs]
@[simp] theorem calm_opRegisterWrite (init addr v) (hs : Calm φ (face s)) :
    Calm φ (face (opRegisterWrite init addr v s)) := by
  simp only [opRegisterWrite]; split <;> simp [hs]
@[simp] theorem calm_opClockFault (d) (hs : Calm φ (face s)) : Calm φ (face (opClockFault d s)) := by
  simp only [opClockFault]; (repeat' split) <;> simp [hs]

/-! #### Cores, windows and votes (03) -/

@[simp] theorem calm_issueStore (t st) (hs : Calm φ (face s)) : Calm φ (face (issueStore t st s)) := by
  simp [issueStore, hs]
@[simp] theorem calm_releaseWin (t w) (hs : Calm φ (face s)) : Calm φ (face (releaseWin t w s)) := by
  unfold releaseWin
  exact calm_forAll _ _ (fun st u hu => calm_issueStore t st hu) (by simpa using hs)
@[simp] theorem calm_voteOutcome (t n) (hs : Calm φ (face s)) : Calm φ (face (voteOutcome t n s)) := by
  simp only [voteOutcome]; (repeat' split) <;> simp [hs]

@[simp] theorem calm_advance (t fuel) (hs : Calm φ (face s)) : Calm φ (face (advance t fuel s)) := by
  induction fuel generalizing s with
  | zero => exact hs
  | succ k ih =>
    simp only [advance]
    (repeat' split) <;> simp [hs, ih]

@[simp] theorem calm_commitSplit (n c) (hs : Calm φ (face s)) : Calm φ (face (commitSplit n c s)) := by
  simp only [commitSplit]; (repeat' split) <;> simp [hs]
@[simp] theorem calm_commitCore (n c) (hs : Calm φ (face s)) : Calm φ (face (commitCore n c s)) := by
  simp [commitCore, hs]
@[simp] theorem calm_amoCommit (n a old) (hs : Calm φ (face s)) : Calm φ (face (amoCommit n a old s)) := by
  simp only [amoCommit]; (repeat' split) <;> simp [hs]
@[simp] theorem calm_coreAmo (n a) (hs : Calm φ (face s)) : Calm φ (face (coreAmo n a s)) := by
  simp only [coreAmo]; (repeat' split) <;> simp [hs]
@[simp] theorem calm_settleTriad (t) (hs : Calm φ (face s)) : Calm φ (face (settleTriad t s)) := by
  simp [settleTriad, hs]

/-- Windows are voted on until nothing moves or the fuel ends. -/
@[simp] theorem calm_settleN (n) (hs : Calm φ (face s)) : Calm φ (face (settleN n s)) := by
  induction n generalizing s with
  | zero => exact hs
  | succ k ih =>
    unfold settleN; split
    · exact hs
    · exact ih (calm_forAll _ _ (fun t u hu => calm_settleTriad t hu) hs)

@[simp] theorem calm_settle (hs : Calm φ (face s)) : Calm φ (face (settle s)) := by simp [settle, hs]
@[simp] theorem calm_opCoreInstruction (n a) (hs : Calm φ (face s)) : Calm φ (face (opCoreInstruction n a s)) := by
  simp only [opCoreInstruction]; (repeat' split) <;> simp [hs]
@[simp] theorem calm_opLagTimeout (t) (hs : Calm φ (face s)) : Calm φ (face (opLagTimeout t s)) := by
  simp only [opLagTimeout]; split <;> simp [hs]

/-! #### Register access by the maintenance protocol (17) -/

@[simp] theorem calm_opWriteReg (r addr v) (hs : Calm φ (face s)) : Calm φ (face (opWriteReg r addr v s)) := by
  unfold opWriteReg
  split
  · simpa using hs
  split
  · simpa using hs
  next w o _ _ b _ =>
    refine calm_privileged _ _ _ _ _ _ (fun _ t ht => ?_) hs
    (repeat' split) <;> simp [ht]

end

end Machine
end Sys2Proof
end

section
/-! PROOF. The moves of the module state and the outputs, command by command (00 R4, R5, 14 R313, 20 R412). -/

namespace Sys2Proof.Machine

/-! ### Moves

What a whole command may do to the face: go along one of the moves of R4, and leave outputs allowed where they were. The
few commands that move the module on, and do not only let it fall, are looked at one by one. -/

/-- From face `a` to face `b` the module makes one of its moves, and outputs that were allowed stay so. -/
structure Moves (a b : Face) : Prop where
  goes : a.mode.goes b.mode = true
  allowed : a.allowed → b.allowed

theorem Mode.drops.goes {a b : Mode} (h : a.drops b) : a.goes b = true := by
  rcases h with rfl | rfl | ⟨rfl, hr, hd⟩
  · simp [Mode.goes]
  · simp [Mode.goes]
  · revert hr hd; cases a <;> simp [Mode.goes, Mode.released]

theorem Calm.moves {a b : Face} (h : Calm a b) : Moves a b := ⟨h.drops.goes, h.allowed⟩

/-- In a released module a move may be followed by a fall: SAFE and SUPERVISED are open to every such state. -/
theorem Moves.trans_calm {a b c : Face} (h : Moves a b) (hr : a.mode.released = true) (h' : Calm b c) : Moves a c := by
  refine ⟨?_, fun x => h'.allowed (h.allowed x)⟩
  have hg := h.goes
  rcases h'.drops with e | e | ⟨e, hrb, hd⟩ <;> rw [e]
  · exact hg
  · simp [Mode.goes]
  · revert hg hr hrb hd
    generalize a.mode = x
    generalize b.mode = y
    cases x <;> cases y <;> simp [Mode.goes, Mode.released]

/-- Before a move between states where the module acts nothing has fallen. -/
theorem Calm.mode_eq {a b : Face} (h : Calm a b) (hb : b.mode.acts = true) : b.mode = a.mode := by
  rcases h.drops with e | e | ⟨e, -⟩
  · exact e
  · rw [e] at hb; cases hb
  · rw [e] at hb; cases hb

/-- The same outputs and role in another module state. -/
def Face.inMode (a : Face) (m : Mode) : Face := { a with mode := m }

/-- A calm part and then a turn between states in which outputs may act. -/
theorem Calm.turn {a b : Face} (h : Calm a b) {m : Mode} (hb : b.mode.acts = true) (hg : b.mode.goes m = true)
    (hm : m.acts = true) : Moves a (b.inMode m) := by
  refine ⟨by rw [← h.mode_eq hb]; exact hg, fun ha => ?_⟩
  exact (h.allowed ha).imp (fun hb => ⟨hm, hb.2⟩) id

/-- A move out of a state where no output may act. -/
theorem Moves.rest {a : Face} {m : Mode} (ha : a.mode.acts = false) (hg : a.mode.goes m = true) :
    Moves a (a.inMode m) :=
  ⟨hg, fun h => .inr (h.quiet fun hx => by rw [hx.1] at ha; cases ha)⟩

/-! ### BRACE, release and loss of supply (08) -/

theorem face_braceEntry (s : State) : face (braceEntry s) = (face s).inMode .brace := by
  simp only [braceEntry, face_irqAll, face_lifeFlush, face_flushQueue, face_hoursCopy, face_raiseWarn]; rfl

/-- A falling bus voltage takes a module from RUN to BRACE (R196), and nothing else of its face changes. -/
theorem busSampled_cases (old : Nat) (s : State) : face (busSampled old s) = face s ∨
    s.mod.mode = .run ∧ face (busSampled old s) = (face s).inMode .brace := by
  simp only [busSampled]
  split
  · left; split <;> simp
  split
  · unfold warnFall
    split
    next h => exact .inr ⟨h, by rw [face_braceEntry]; simp⟩
    all_goals left; simp
  · left; simp

/-- The rails and L+ are sampled first, and may bring SAFE: BRACE then no longer follows. -/
theorem opSupplySample_cases (vin vbus lplus : Nat) (rails : List (Nat × Nat)) (s : State) :
    Calm (face s) (face (opSupplySample vin vbus lplus rails s)) ∨
      s.mod.mode.released = true ∧ Moves (face s) (face (opSupplySample vin vbus lplus rails s)) := by
  unfold opSupplySample
  split
  · exact .inl (.refl _)
  extract_lets s₁ old e sch sup s₂ s₃ s₄
  have h₂ : Calm (face s) (face s₂) := by simp [s₂, s₁, Calm.refl]
  split
  · exact .inl (calm_dieReset 2 false none)
  have h₃ : Calm (face s) (face s₃) := calm_railSampled rails (calm_lplusSampled (by simpa using h₂))
  have tail : face (if s₄.mod.mode.released = true then energySample s₄ else s₄) = face s₄ := by simp
  rw [tail]
  rcases busSampled_cases old s₃ with hf | ⟨hrun, hf⟩ <;> rw [show face s₄ = _ from hf]
  · exact .inl h₃
  · have hm : (face s₃).mode = .run := hrun
    have ha : s.mod.mode = .run := (h₃.mode_eq (by rw [hm]; rfl)).symm.trans hm
    exact .inr ⟨by rw [ha]; rfl, h₃.turn (by rw [hm]; rfl) (by rw [hm]; rfl) rfl⟩

theorem opBraceDwellEnd_moves (s : State) : Moves (face s) (face (opBraceDwellEnd s)) := by
  unfold opBraceDwellEnd
  split
  next h =>
    have hm : (face s).mode = .brace := h.1
    have hf : face (braceEnd { s with mod := { s.mod with mode := .run } }) = (face s).inMode .run := by
      rw [face_braceEnd]; rfl
    rw [hf]
    exact (Calm.refl _).turn (by rw [hm]; rfl) (by rw [hm]; rfl) rfl
  next => exact (Calm.refl _).moves

theorem opSupervisorRelease_moves (b : Bool) (s : State) : Moves (face s) (face (opSupervisorRelease b s)) := by
  simp only [opSupervisorRelease]
  split
  next h =>
    have hm : (face s).mode = .supervised := h.1
    rw [face_forAll _ _ _ fun r t => face_enqueue r t]
    change Moves (face s) ((face (readPins s)).inMode .boot)
    rw [face_readPins]
    exact .rest (by rw [hm]; rfl) (by rw [hm]; rfl)
  next => exact (Calm.refl _).moves

/-- POWER-OFF is open to every state, and a module without supply drives nothing. -/
theorem opLogicSupplyLost_moves (s : State) : Moves (face s) (face (opLogicSupplyLost s)) := by
  have quiet : (face State.reset).quiet := ⟨by decide, by decide⟩
  refine ⟨?_, fun _ => .inr quiet⟩
  show s.mod.mode.goes .powerOff = true
  simp [Mode.goes]

/-! ### Start, hand-over and shut-down (02, 19, 20) -/

theorem opGranaryStart_moves (s : State) : Moves (face s) (face (opGranaryStart s)) := by
  unfold opGranaryStart
  split
  next h =>
    have hm : (face s).mode = .boot := h.1
    extract_lets c held last s₁ s₂ p grn s₃ s₄
    have h₃ : face s₃ = face s := by simp [s₃, s₂, s₁, grn]
    have h₄ : face s₄ = face s := (face_event ..).trans h₃
    clear_value s₄ s₃
    split
    · rw [h₃]; exact (Calm.refl _).moves
    · change Moves (face s) ((face s₄).inMode .selftest)
      rw [h₄]
      exact .rest (by rw [hm]; rfl) (by rw [hm]; rfl)
  next => exact (Calm.refl _).moves

theorem pairStart_mode (s : State) : (face (pairStart s)).mode = (face s).mode := by
  unfold pairStart
  split
  · rfl
  · extract_lets s₁ p s₂ q
    have h₁ : face s₁ = face s := by simp [s₁]
    have h₂ : face s₂ = face s₁ := by simp only [s₂]; split <;> simp [p]
    clear_value s₂
    rw [← h₁, ← h₂]; rfl

theorem fioStart_face (s : State) : (face (fioStart s)).mode = (face s).mode ∧ (face (fioStart s)).allowed := by
  unfold fioStart
  extract_lets f s₁ g s₂
  have h₁ : face s₁ = face s := by simp [s₁, f]
  clear_value s₁
  exact ⟨by rw [(refresh_mode_role s₂).1, ← h₁]; rfl, allowed_fioRefresh s₂⟩

/-- The blocks start one after the other; the last that touches the face, field I/O, ends with a refresh. -/
theorem startBlocks_face (s : State) : (face (startBlocks s)).mode = (face s).mode ∧ (face (startBlocks s)).allowed := by
  have hm : (face (canStart 1 (canStart 0 (glmStart (hubStart (pairStart (vyfStart s))))))).mode = (face s).mode := by
    rw [face_canStart, face_canStart, face_glmStart, face_hubStart, pairStart_mode, face_vyfStart]
  rw [startBlocks, face_culmStart, ← hm]
  exact fioStart_face _

/-- SELFTEST ends in STOP (R66, R407), or in STOP and at once SAFE. -/
theorem opHandOver_moves (s : State) : Moves (face s) (face (opHandOver s)) := by
  unfold opHandOver
  split
  next h =>
    have hm : (face s).mode = .selftest := h.1
    extract_lets s₁ bad s₂ ms mod sup s₃ s₄
    obtain ⟨hm₄, ha₄⟩ := startBlocks_face s₃
    have h₄ : Moves (face s) (face s₄) := ⟨by rw [hm, show (face s₄).mode = _ from hm₄]; rfl, fun _ => ha₄⟩
    clear_value s₄
    have fall : ∀ t, Calm (face s₄) (face t) → Moves (face s) (face t) := fun t => h₄.trans_calm (by rw [hm]; rfl)
    split
    · exact fall _ (calm_enterSafe _ (.refl _))
    split
    · exact fall _ (calm_enterSafe _ (.refl _))
    · exact h₄
  next => exact (Calm.refl _).moves

/-- SHUTDOWN is entered with the outputs off (R415). -/
theorem opShutdownEntry_cases (s : State) : face (opShutdownEntry s) = face s ∨
    s.mod.mode.released = true ∧ Moves (face s) (face (opShutdownEntry s)) := by
  unfold opShutdownEntry
  split
  next h =>
    obtain ⟨-, hh, hd, -⟩ := h
    right
    extract_lets mod vyf chA chB s₁ s₂ culm s₃ s₄
    have h₂ : face s₂ = face (fioOff (braceEnd s₁)) := face_hubHalt 1 _
    have hm : (face s₂).mode = .shutdown := by rw [h₂, fioOff_mode, face_braceEnd]; rfl
    have hq : (face s₂).quiet := by rw [h₂]; exact quiet_fioOff _
    have h₄ : face s₄ = face s₂ := by
      clear_value s₂
      simp [s₄, s₃, culm]
    have h : face (if (List.range 6).all (fun t => !(s₄.tri t).runs) then shutDrain s₄ else s₄) = face s₂ := by
      simp [h₄]
    rw [h]
    have hg : s.mod.mode.released = true ∧ s.mod.mode.goes .shutdown = true := by
      revert hh hd; cases s.mod.mode <;> simp [Mode.handed, Mode.released, Mode.goes]
    exact ⟨hg.1, by rw [hm]; exact hg.2, fun _ => .inr hq⟩
  next => exact .inl rfl

/-! ### The cycle boundary (05) -/

/-- The states that a boundary may bring. -/
def Mode.turns (m : Mode) : Prop := m = .stop ∨ m = .run ∨ m = .hold

theorem Mode.turns.goes {a m : Mode} (ha : a.acts = true) (hm : m.turns) : a.goes m = true ∧ m.acts = true := by
  rcases hm with rfl | rfl | rfl <;> revert ha <;> cases a <;> decide

/-- The state that a mode of the cycle unit (0 STOP, 1 RUN, 2 HOLD) brings. -/
def cycleMode (m : Nat) : Mode := if m = 1 then .run else if m = 2 then .hold else .stop

theorem cycleMode_turns (m : Nat) : (cycleMode m).turns := by
  unfold cycleMode Mode.turns
  split
  · simp
  · split <;> simp

theorem modeChange_cases (m : Nat) (s : State) :
    face (modeChange m s).2 = face s ∨ face (modeChange m s).2 = (face s).inMode (cycleMode m) := by
  unfold modeChange
  extract_lets old rise s₁ s₂ mod cyc s₃ s₄
  split
  · exact .inl rfl
  · right
    have h₂ : face s₂ = face s := by simp [s₂, s₁]
    have h₃ : face s₃ = (face s₂).inMode (cycleMode m) := rfl
    have h₄ : face s₄ = face s₃ := by simp only [s₄]; split <;> simp
    rw [face_event, h₄, h₃, h₂]

/-- A mode change at the boundary turns the module, or nothing of its face changes. -/
def Turned (a b : Face) : Prop := b = a ∨ a.mode.acts = true ∧ ∃ k : Mode, k.turns ∧ b = a.inMode k

theorem modeChange_turned (m : Nat) {s : State} (ha : s.mod.mode.acts = true) :
    Turned (face s) (face (modeChange m s).2) :=
  (modeChange_cases m s).imp id fun h => ⟨ha, _, cycleMode_turns m, h⟩

theorem modeAtBoundary_turned (s : State) : Turned (face s) (face (modeAtBoundary s)) := by
  unfold modeAtBoundary
  extract_lets state cyc s₁
  have hstate : state = s.mod.mode.acts := rfl
  clear_value state
  split
  · exact .inl rfl
  next hacts =>
    have ha : s.mod.mode.acts = true := by simpa [hstate] using hacts
    split
    · split
      · exact .inl rfl
      · exact modeChange_turned (s := s₁) 0 ha
    · split
      · exact .inl rfl
      · split
        · exact .inl rfl
        · extract_lets m c
          split
          · exact .inl rfl
          · split
            · exact modeChange_turned m ha
            · exact .inl rfl

theorem opCycleBoundary_moves (s : State) : Moves (face s) (face (opCycleBoundary s)) := by
  unfold opCycleBoundary
  split
  · exact (Calm.refl _).moves
  split
  · exact (Calm.refl _).moves
  next n _ _ =>
    extract_lets was s₁ s₂ s₃ s₄ s₅
    have h₃ : Calm (face s) (face s₃) := by
      have h₁ : Calm (face s) (face s₁) := by simp [s₁, Calm.refl]
      have h₂ : Calm (face s) (face s₂) := calm_pairBoundary _ (by simpa using h₁)
      simpa [s₃] using h₂
    have tail : face (merge (freeze s₅)) = face (modeAtBoundary s₃) := by
      simp only [s₅, s₄, face_merge, face_freeze, face_glumeTimeouts, face_connsFall, face_countRun, face_autorun,
        face_awnFollow]
    rw [tail]
    rcases modeAtBoundary_turned s₃ with h | ⟨ha, k, hk, h⟩ <;> rw [h]
    · exact h₃.moves
    · exact h₃.turn ha (hk.goes ha).1 (hk.goes ha).2

/-! ### Commands and steps -/

/-- The face after a command: that of its meaning, or the face before. -/
theorem face_wfRun {i : Instr} {f : State → State} {s t : State} (h : wfRun i f s = .next t) :
    face t = face (f s.begin) ∨ face t = face s := by
  obtain rfl : _ = t := Host.Outcome.next.inj h
  split
  · exact .inl rfl
  · exact .inr rfl

/-- A command moves the face as its meaning does; one with operands outside the part leaves it. -/
theorem moves_wfRun {i : Instr} {f : State → State} {s t : State} (h : wfRun i f s = .next t)
    (hf : ∀ u, Moves (face u) (face (f u))) : Moves (face s) (face t) := by
  rcases face_wfRun h with e | e <;> rw [e]
  · exact hf s.begin
  · exact (Calm.refl _).moves

theorem calm_wfRun {i : Instr} {f : State → State} {s t : State} (h : wfRun i f s = .next t)
    (hf : ∀ u, Calm (face u) (face (f u))) : Moves (face s) (face t) :=
  moves_wfRun h fun u => (hf u).moves

@[simp] theorem face_engRun (es : List Nat) (f : State → State) (s : State) : face (engRun es f s) = face (f s) := by
  unfold engRun; rfl

theorem supplySample_moves (vin vbus lplus : Nat) (rails : List (Nat × Nat)) (s : State) :
    Moves (face s) (face (settle (opSupplySample vin vbus lplus rails s))) := by
  rcases opSupplySample_cases vin vbus lplus rails s with h | ⟨hr, h⟩
  · exact (calm_settle h).moves
  · exact h.trans_calm hr (calm_settle (.refl _))

theorem shutdownEntry_moves (s : State) : Moves (face s) (face (settle (opShutdownEntry s))) := by
  rcases opShutdownEntry_cases s with h | ⟨hr, h⟩
  · exact (calm_settle (by rw [h]; exact .refl _)).moves
  · exact h.trans_calm hr (calm_settle (.refl _))

/-- Every command makes one of the moves: eight that say so above, and the rest, which are calm. -/
theorem exec_moves (c : Instr) {s t : State} (h : exec c s = .next t) : Moves (face s) (face t) := by
  cases c
  all_goals dsimp only [exec] at h
  case supplySample vin vbus lplus rails => exact moves_wfRun h (supplySample_moves vin vbus lplus rails)
  case shutdownEntry => exact moves_wfRun h shutdownEntry_moves
  case cycleBoundary => exact moves_wfRun h opCycleBoundary_moves
  case braceDwellEnd => exact moves_wfRun h opBraceDwellEnd_moves
  case supervisorRelease oscOk => exact moves_wfRun h (opSupervisorRelease_moves oscOk)
  case granaryStart => exact moves_wfRun h opGranaryStart_moves
  case handOver => exact moves_wfRun h opHandOver_moves
  case logicSupplyLost => exact moves_wfRun h opLogicSupplyLost_moves
  all_goals exact calm_wfRun h fun u => by simp [Calm.refl]

theorem face_tick (s : State) : face (tick s) = face s := by
  obtain ⟨k, a, h, -⟩ := tick_eq s
  rw [h]; rfl

/-- A step is a command or 8 ns of time, which leave the face as it is. -/
theorem step_moves {s t : State} (h : step s = .next t) : Moves (face s) (face t) := by
  cases hp : s.pending with
  | nil =>
    obtain rfl : tick s = t := Host.Outcome.next.inj ((step_idle s hp).symm.trans h)
    rw [face_tick]
    exact (Calm.refl _).moves
  | cons c r =>
    have hx : exec c { s with pending := r } = .next t := (step_front s c r hp).symm.trans h
    have hm : Moves (face { s with pending := r }) (face t) := exec_moves c hx
    exact hm

/-- What the table of the moves says of SAFE, BOOT and RUN. -/
theorem Mode.goes_from {a b : Mode} (h : a.goes b = true) :
    (a = .safe → b = .safe ∨ b = .shutdown ∨ b = .supervised ∨ b = .powerOff) ∧
    (b = .boot → a = .boot ∨ a = .supervised) ∧
    (b = .run → a = .run ∨ a = .stop ∨ a = .hold ∨ a = .brace) := by
  revert h
  cases a <;> cases b <;> decide

/-- Settles O57: every command's move of the face (`exec_moves`) is one of the table. -/
theorem moduleStateMoves : Obligations.ModuleStateMoves := fun _ _ h =>
  ⟨(step_moves h).goes, Mode.goes_from (step_moves h).goes⟩

/-- Settles O58: every command leaves outputs allowed where they were, said of the face. -/
theorem outputsActOnlyWhereAllowed : Obligations.OutputsActOnlyWhereAllowed := fun s t h hs =>
  (allowed_face t).1 ((step_moves h).allowed ((allowed_face s).2 hs))
end Sys2Proof.Machine
end

section
/-! PROOF. Register writes (00 R11, R12, 01 R29, R32, R38, 21 R421, R424). -/

namespace Sys2Proof.Machine

/-! ### The place and the meaning of a register write -/

/-- A register's address names its block window and its offset in it (21 R420). -/
theorem placeOf_reg {w o : Nat} (hw : w < 19) (ho : o < 0x10000) : placeOf (0xF0000000 + 0x10000 * w + o) = .reg w o := by
  unfold placeOf
  rw [if_neg (by omega), if_neg (by omega), if_neg (by omega), if_neg (by omega), if_neg (by omega), if_neg (by omega),
    if_pos (by omega)]
  congr 1 <;> omega

/-- Triads at rest are so by their own and their cores' registers alone. -/
theorem triadsAtRest_congr {s t : State} (htri : t.trd.triads = s.trd.triads) (hcore : t.trd.cores = s.trd.cores)
    (h : TriadsAtRest s) : TriadsAtRest t := by
  have he : settled t = settled s := by
    funext k
    unfold settled State.tri State.core
    rw [htri, hcore]
  unfold TriadsAtRest
  rw [he]
  exact h

/-- A register write that leaves the triads' and the cores' registers alone is its effect on the window. -/
theorem exec_registerWrite_reg {init w o : Nat} {v : Word} {s u : State} (hinit : init < 64) (hw : w < 19)
    (ho : o < 0x10000) (hword : o % 4 = 0) (hrest : TriadsAtRest s) (hu : regWrite init w o v s.begin = u)
    (hpend : u.pending = s.pending) (htri : u.trd.triads = s.trd.triads) (hcore : u.trd.cores = s.trd.cores) :
    exec (.registerWrite init (0xF0000000 + 0x10000 * w + o) v) s = .next u := by
  have hop : opRegisterWrite init (0xF0000000 + 0x10000 * w + o) v s.begin = u := by
    rw [← hu]
    simp [opRegisterWrite, placeOf_reg hw ho, hword]
  have hr : TriadsAtRest (opRegisterWrite init (0xF0000000 + 0x10000 * w + o) v s.begin) := by
    rw [hop]; exact triadsAtRest_congr htri hcore hrest
  rw [exec_registerWrite, wfRun_settle _ _ _ (by simp [Instr.wf, hinit]) hr, hop, ← hpend]

/-! ### Error registers (R11, R12, R32, R424) -/

/-- The block windows whose error registers are a quartet. -/
def quartetWindows : List Nat := [0, 1, 2, 3, 5, 6, 7, 8, 9, 10, 11, 12, 13, 14, 15, 16]

/-- The quartet is no part of the lock's registers. -/
theorem lkMask_quartet : ∀ w ∈ quartetWindows, ∀ o ∈ [0x10, 0x14, 0x18, 0x1C], lkMask w o = 0 := by decide

/-- No block has another register in the place of its quartet. -/
theorem blockWrite_quartet {w o : Nat} (hw : w ∈ quartetWindows) (ho : o ∈ [0x10, 0x14, 0x18, 0x1C]) (init : Nat)
    (v : Word) (s : State) : blockWrite init w o v s = s := by
  simp only [quartetWindows, List.mem_cons, List.not_mem_nil, or_false] at hw ho
  rcases ho with rfl | rfl | rfl | rfl <;>
    rcases hw with rfl | rfl | rfl | rfl | rfl | rfl | rfl | rfl | rfl | rfl | rfl | rfl | rfl | rfl | rfl | rfl <;> rfl

theorem modErr_triads (w : Nat) (f : ErrBlk → ErrBlk) (s : State) : (modErr w f s).trd.triads = s.trd.triads := by
  unfold modErr; split <;> rfl

theorem modErr_cores (w : Nat) (f : ErrBlk → ErrBlk) (s : State) : (modErr w f s).trd.cores = s.trd.cores := by
  unfold modErr; split <;> rfl

theorem modErr_pending (w : Nat) (f : ErrBlk → ErrBlk) (s : State) :
    (modErr w f s).pending = s.pending := by
  unfold modErr; split <;> rfl

theorem modErr_id (w : Nat) (s : State) : modErr w (fun e => e) s = s := by
  unfold modErr; split <;> rfl

/-- A write in a quartet does to the error registers what the register's access type says, and nothing else. -/
theorem exec_registerWrite_quartet {init w o : Nat} {v : Word} {s : State} (hinit : init < 64)
    (hw : w ∈ quartetWindows) (ho : o ∈ [0x10, 0x14, 0x18, 0x1C]) (hrel : s.mod.mode.released = true)
    (hrest : TriadsAtRest s) : exec (.registerWrite init (0xF0000000 + 0x10000 * w + o) v) s =
      .next (modErr w (quartetWrite (errCount w) o v) s.begin) := by
  have hreg : regWrite init w o v s.begin = modErr w (quartetWrite (errCount w) o v) s.begin := by
    have hq : 0x10 ≤ o ∧ o < 0x20 := by
      simp only [List.mem_cons, List.not_mem_nil, or_false] at ho; omega
    simp [regWrite, hrel, lkMask_quartet w hw o ho, hq, blockWrite_quartet hw ho]
  have hw19 : ∀ w ∈ quartetWindows, w < 19 := by decide
  have ho4 : ∀ o ∈ [0x10, 0x14, 0x18, 0x1C], o < 0x10000 ∧ o % 4 = 0 := by decide
  exact exec_registerWrite_reg hinit (hw19 w hw) (ho4 o ho).1 (ho4 o ho).2 hrest hreg (modErr_pending ..)
    (modErr_triads ..) (modErr_cores ..)

/-- The clauses of the blocks whose windows have a quartet. -/
theorem registerWrite_quartets {init w : Nat} {v : Word} {s : State} (hinit : init < 64) (hw : w ∈ quartetWindows)
    (hrel : s.mod.mode.released = true) (hrest : TriadsAtRest s) :
    exec (.registerWrite init (0xF0000000 + 0x10000 * w + 0x10) v) s =
      .next (modErr w (fun e => { e with status := e.status &&& ~~~v }) s.begin) ∧
    exec (.registerWrite init (0xF0000000 + 0x10000 * w + 0x14) v) s =
      .next (modErr w (fun e => { e with irqEn := v &&& BitVec.ofNat 32 (2 ^ errCount w - 1) }) s.begin) ∧
    exec (.registerWrite init (0xF0000000 + 0x10000 * w + 0x18) v) s =
      .next (modErr w (fun e => { e with info := e.info &&& ~~~(v &&& 3) }) s.begin) ∧
    exec (.registerWrite init (0xF0000000 + 0x10000 * w + 0x1C) v) s = .next s.begin := by
  have quartet : ∀ o ∈ [0x10, 0x14, 0x18, 0x1C], exec (.registerWrite init (0xF0000000 + 0x10000 * w + o) v) s =
      .next (modErr w (quartetWrite (errCount w) o v) s.begin) :=
    fun o ho => exec_registerWrite_quartet hinit hw ho hrel hrest
  exact ⟨quartet 0x10 (by simp), quartet 0x14 (by simp), quartet 0x18 (by simp),
    (quartet 0x1C (by simp)).trans (congrArg _ (modErr_id w s.begin))⟩

/-- The status registers outside the quartets: of Rachis, of the memory controllers, of the train fabric. -/
theorem registerWrite_otherStatus {init : Nat} {v : Word} {s : State} (hinit : init < 64)
    (hrel : s.mod.mode.released = true) (hrest : TriadsAtRest s) :
    exec (.registerWrite init 0xF0040010 v) s =
      .next { s.begin with rch := { s.rch with err := { s.rch.err with status := s.rch.err.status &&& ~~~v } } } ∧
    exec (.registerWrite init 0xF0040100 v) s =
      .next { s.begin with rch := { s.rch with mem := { s.rch.mem with status := s.rch.mem.status &&& ~~~v } } } ∧
    exec (.registerWrite init 0xF0050090 v) s =
      .next { s.begin with fab := { s.fab with err := { s.fab.err with status := s.fab.err.status &&& ~~~v } } } := by
  refine ⟨?_, ?_, ?_⟩
  · refine exec_registerWrite_reg (w := 4) (o := 0x10) hinit (by decide) (by decide) (by decide) hrest ?_ rfl rfl rfl
    simp [regWrite, hrel, lkMask, modErr, blockWrite, rchWrite, ErrBlk.clearStatus]
  · refine exec_registerWrite_reg (w := 4) (o := 0x100) hinit (by decide) (by decide) (by decide) hrest ?_ rfl rfl rfl
    simp [regWrite, hrel, lkMask, blockWrite, rchWrite, ErrBlk.clearStatus]
  · refine exec_registerWrite_reg (w := 5) (o := 0x90) hinit (by decide) (by decide) (by decide) hrest ?_ rfl rfl rfl
    simp [regWrite, hrel, lkMask, blockWrite, quartetWrite, ErrBlk.clearStatus]

/-! ### Firewall registers (R11, R29, R421) -/

/-- The bits of word `k` of a firewall region: base and end of 24 bits, and four of access. -/
def regionMask (k : Nat) : Word := if k = 2 then 0xF else 0xFFFFFF

/-- Rachis' own registers end before the firewall's. -/
theorem rchWrite_region {o : Nat} (ho : 0x1000 ≤ o) (v : Word) (s : State) : rchWrite o v s = s := by
  simp only [rchWrite]
  split
  case h_7 => rfl
  all_goals omega

/-- What the registers of window 4 from 0x1000 on hold is under the lock, reserved bits reading 0. -/
theorem regWrite_region {init n r k : Nat} {v : Word} {s : State} (hn : n < 64) (hr : r < 16) (hk : k < 3)
    (hrel : s.mod.mode.released = true) :
    regWrite init 4 (0x1000 + 0x100 * n + 0x10 * r + 4 * k) v s =
      if lkWritable s init then lkPut 4 (0x1000 + 0x100 * n + 0x10 * r + 4 * k) (v &&& regionMask k) s else s := by
  set o := 0x1000 + 0x100 * n + 0x10 * r + 4 * k with ho
  have hlo : 0x1000 ≤ o ∧ o < 0x5000 := by omega
  have hmod : o % 16 = 4 * k := by omega
  have hmask : lkMask 4 o ≠ 0 ∧ w32 (lkMask 4 o) = regionMask k := by
    have hcase : k = 0 ∨ k = 1 ∨ k = 2 := by omega
    rcases hcase with rfl | rfl | rfl <;> simp [lkMask, hlo, hmod, regionMask, w32]
  have hq : ¬(0x10 ≤ o ∧ o < 0x20) := by omega
  simp [regWrite, hrel, hmask, hq, blockWrite, rchWrite_region hlo.1]

/-- The lock and the initiators that may write before it (R29, R421). -/
theorem lkWritable_begin (s : State) (init : Nat) (hrel : s.mod.mode.released = true) : lkWritable s.begin init = true ↔
    s.sec.lock = false ∧ (init = s.mod.bootCore ∨ init = 0x2B) := by
  simp only [lkWritable, Bool.and_eq_true, Bool.or_eq_true, decide_eq_true_eq]
  simp [hrel, secId]

/-- A write of a firewall register: the word where the lock and the initiator let it, and else nothing. -/
theorem exec_registerWrite_region {init n r k : Nat} {v : Word} {s : State} (hinit : init < 64) (hn : n < 64) (hr : r < 16)
    (hk : k < 3) (hrel : s.mod.mode.released = true) (hrest : TriadsAtRest s) :
    exec (.registerWrite init (0xF0040000 + (0x1000 + 0x100 * n + 0x10 * r + 4 * k)) v) s =
      .next (if lkWritable s.begin init then
        lkPut 4 (0x1000 + 0x100 * n + 0x10 * r + 4 * k) (v &&& regionMask k) s.begin else s.begin) := by
  have hreg := regWrite_region (init := init) (v := v) (s := s.begin) hn hr hk hrel
  refine exec_registerWrite_reg (w := 4) hinit (by decide) (by omega) (by omega) hrest hreg ?_ ?_ ?_ <;> split <;> rfl

/-- The word of the LK store that a write puts, and the words beside it. -/
theorem lkAt_lkPut_ne {w o w' o' : Nat} (ho : o < 0x10000) (ho' : o' < 0x10000) (h : (w', o') ≠ (w, o)) (v : Word)
    (s : State) : lkAt (lkPut w o v s) w' o' = lkAt s w' o' := by
  rw [lkPut_reads, if_neg]
  intro he
  exact h (Prod.ext (by simp only; omega) (by simp only; omega))

/-! ### The last item of a disabled function (R38) -/

theorem nth_modAt_self {α : Type} (l : List α) (i : Nat) (f : α → α) (d : α) (h : i < l.length) :
    nth (modAt l i f) i d = f (nth l i d) := by
  induction l generalizing i with
  | nil => cases h
  | cons a t ih =>
    cases i with
    | zero => rfl
    | succ i => exact ih i (Nat.lt_of_succ_lt_succ h)

theorem nth_modAt_ne {α : Type} (l : List α) {i j : Nat} (f : α → α) (d : α) (h : j ≠ i) :
    nth (modAt l i f) j d = nth l j d := by
  induction l generalizing i j with
  | nil => rfl
  | cons a t ih =>
    cases i with
    | zero => cases j with
      | zero => exact absurd rfl h
      | succ j => rfl
    | succ i => cases j with
      | zero => rfl
      | succ j => exact ih (fun e => h (congrArg _ e))

theorem functionDrainDone_awn {s : State} (hen : s.awn.en = false) (hact : s.awn.active = true) (hst : s.awn.state = 1) :
    exec (.functionDrainDone .awn) s = .next { s.begin with awn := { s.awn with active := false } } := by
  have hd : awnDrained s.begin = true := by simp [awnDrained, scanRuns, hen, hact, hst]
  rw [exec_functionDrainDone, wfRun_next _ _ _ rfl]
  simp only [opFunctionDrainDone, hd, if_true]
  rfl

theorem functionDrainDone_hubPort {s : State} {p : Nat} (hp : p < 8) (hen : (s.hubPort p).en = false) :
    GivesOnly [.hub] (.functionDrainDone (.hubPort p)) s (fun t =>
      (p < s.hub.ports.length → (t.hubPort p) = { s.hubPort p with active := false }) ∧
      ∀ q, q ≠ p → t.hubPort q = s.hubPort q) := by
  refine ⟨{ modPort p (fun x => { x with active := false }) s.begin with pending := s.pending }, ?_,
    ⟨fun h => nth_modAt_self s.hub.ports p _ {} h, fun q hq => nth_modAt_ne s.hub.ports _ {} hq⟩, ?_⟩
  · have hen' : (s.begin.hubPort p).en = false := hen
    rw [exec_functionDrainDone, wfRun_next _ _ _ (by simp [Instr.wf, Fn.wf, hp])]
    simp [opFunctionDrainDone, hen']
  · intro x hx
    cases x
    case hub => simp at hx
    all_goals rfl

theorem functionDrainDone_glmConn {s : State} {c : Nat} (hc : c < 512) (hen : (connAt s c).en = false)
    (hheld : connHolds s c = false) : GivesOnly [.glm] (.functionDrainDone (.glmConn c)) s (fun t =>
      connAt t c = { connAt s c with active := false } ∧ ∀ d, d ≠ c → connAt t d = connAt s d) := by
  refine ⟨{ modConn c (fun x => { x with active := false }) s.begin with pending := s.pending }, ?_,
    ⟨by simp [connAt, modConn], fun d hd => by simp [connAt, modConn, hd]⟩, ?_⟩
  · have hen' : (connAt s.begin c).en = false := hen
    have hheld' : connHolds s.begin c = false := hheld
    rw [exec_functionDrainDone, wfRun_next _ _ _ (by simp [Instr.wf, Fn.wf, hc])]
    simp [opFunctionDrainDone, hen', hheld']
  · intro x hx
    cases x
    case glm => simp at hx
    all_goals rfl

theorem functionDrainDone_owin {s : State} {w : Nat} (hw : w < 16) (hd : oDrained s w = true) :
    exec (.functionDrainDone (.owin w)) s =
      .next { s.begin with culm := { s.culm with oAct := modAt s.culm.oAct w (fun _ => false) } } := by
  have hd' : oDrained s.begin w = true := hd
  rw [exec_functionDrainDone, wfRun_next _ _ _ (by simp [Instr.wf, Fn.wf, hw])]
  simp only [opFunctionDrainDone, hd', if_true]
  rfl

theorem functionDrainDone_iwin {s : State} {v : Nat} (hv : v < 4) (hd : iDrained s v = true) :
    exec (.functionDrainDone (.iwin v)) s =
      .next { s.begin with culm := { s.culm with iAct := modAt s.culm.iAct v (fun _ => false) } } := by
  have hd' : iDrained s.begin v = true := hd
  rw [exec_functionDrainDone, wfRun_next _ _ _ (by simp [Instr.wf, Fn.wf, hv])]
  simp only [opFunctionDrainDone, hd', if_true]
  rfl

/-- Settles O5: a write in a quartet is `modErr` of it, one of a firewall register is `lkPut` or nothing, and a drained
function's active field is all that falls. -/
theorem registerWritesTakeEffect : Obligations.RegisterWritesTakeEffect := by
  refine ⟨fun s init v hinit hrel hrest => ⟨fun w hw => registerWrite_quartets hinit hw hrel hrest,
    registerWrite_otherStatus hinit hrel hrest⟩, fun s init n r k v hinit hn hr hk hrel hrest => ?_, fun s => ?_⟩
  · have hx := exec_registerWrite_region (v := v) hinit hn hr hk hrel hrest
    refine ⟨fun hw => ?_, fun hw => ?_⟩
    · rw [if_pos ((lkWritable_begin s init hrel).2 hw)] at hx
      refine ⟨_, hx, rfl, by rw [lkPut_reads, if_pos rfl]; rfl, fun w o' hne ho' => ?_, fun h => lkPut_wf _ _ _ h⟩
      exact lkAt_lkPut_ne (by omega) ho' hne _ _
    · rw [if_neg] at hx
      · exact hx
      · rw [lkWritable_begin s init hrel]
        rintro ⟨hlock, hown⟩
        rcases hw with h | ⟨hboot, hsec⟩
        · exact absurd (h.symm.trans hlock) (by decide)
        · exact hown.elim hboot hsec
  · exact ⟨functionDrainDone_awn, fun p => functionDrainDone_hubPort, fun c => functionDrainDone_glmConn,
      fun w => functionDrainDone_owin, fun v => functionDrainDone_iwin⟩

end Sys2Proof.Machine
end

section
/-! PROOF. The canonical form of the sparse tables: what of the model keeps it (01 R20, 04 R115, 07 R174, 19 R403). -/

namespace Sys2Proof.Machine

/-! ### The tables of the module

Of a state the canonical form regards nine tables: the four memories, the LK store, the held life increments, and the timers of
both Awn banks and of the lanes. Every function of the model that answers a state keeps their form: one lemma each. -/

/-- The sparse tables of a state. -/
structure Tables where
  mram : FMap Byte
  dram : FMap Byte
  norA : FMap Byte
  norB : FMap Byte
  lk : FMap Word
  incr : FMap Nat
  bank : FMap AwnTimer
  otherBank : FMap AwnTimer
  lanes : List AwnLane

/-- The tables of a state. -/
def tables (s : State) : Tables where
  mram := s.mem.mram
  dram := s.mem.dram
  norA := s.mem.norA
  norB := s.mem.norB
  lk := s.lk
  incr := s.grn.incr
  bank := s.awn.bank.timers
  otherBank := s.awn.otherBank.timers
  lanes := s.awn.lanes

/-- Each table stands in its canonical form. -/
structure Tables.Canon (t : Tables) : Prop where
  mram : FMap.wf 0 t.mram = true
  dram : FMap.wf 0 t.dram = true
  norA : FMap.wf 0xFF t.norA = true
  norB : FMap.wf 0xFF t.norB = true
  lk : FMap.wf 0 t.lk = true
  incr : FMap.wf 0 t.incr = true
  bank : FMap.wf {} t.bank = true
  otherBank : FMap.wf {} t.otherBank = true
  lanes : ∀ l ∈ t.lanes, FMap.wf {} l.d.timers = true

/-- The state's tables stand in their canonical form. -/
def Canon (s : State) : Prop := (tables s).Canon

theorem canonical_iff (s : State) : s.canonical ↔ Canon s := by
  simp only [State.canonical, Mem.wf, Bool.and_eq_true]
  constructor
  · rintro ⟨⟨⟨⟨hm, hd⟩, ha⟩, hb⟩, hlk, hincr, hbank, hother, hlanes⟩
    exact ⟨hm, hd, ha, hb, hlk, hincr, hbank, hother, hlanes⟩
  · rintro ⟨hm, hd, ha, hb, hlk, hincr, hbank, hother, hlanes⟩
    exact ⟨⟨⟨⟨hm, hd⟩, ha⟩, hb⟩, hlk, hincr, hbank, hother, hlanes⟩

/-- A state written out by its fields: `simp` reads the tables off a record update with it. -/
@[simp] theorem canon_mk (pending out clk mod mem lk img rch trd awn cyc sch vyf fab hub pair glm fio can0 can1 culm sup aon
    sec area fuse thr grn eng free) :
    Canon ⟨pending, out, clk, mod, mem, lk, img, rch, trd, awn, cyc, sch, vyf, fab, hub, pair, glm, fio, can0, can1, culm,
      sup, aon, sec, area, fuse, thr, grn, eng, free⟩ ↔
    Tables.Canon ⟨mem.mram, mem.dram, mem.norA, mem.norB, lk, grn.incr, awn.bank.timers, awn.otherBank.timers, awn.lanes⟩ := by
  unfold Canon tables; rfl

/-- The tables of one state put together again. -/
@[simp] theorem canon_eta (s : State) :
    Tables.Canon ⟨s.mem.mram, s.mem.dram, s.mem.norA, s.mem.norB, s.lk, s.grn.incr, s.awn.bank.timers,
      s.awn.otherBank.timers, s.awn.lanes⟩ ↔ Canon s := by
  unfold Canon tables; rfl

@[simp] theorem canon_ite (c : Prop) [Decidable c] (s t : State) :
    Canon (if c then s else t) ↔ if c then Canon s else Canon t := by split <;> rfl

@[simp] theorem canon_ite_snd {α : Type} (c : Prop) [Decidable c] (x y : α × State) :
    Canon (if c then x else y).2 ↔ if c then Canon x.2 else Canon y.2 := by split <;> rfl

@[simp] theorem canon_ite_snd_snd {α β : Type} (c : Prop) [Decidable c] (x y : α × β × State) :
    Canon (if c then x else y).2.2 ↔ if c then Canon x.2.2 else Canon y.2.2 := by split <;> rfl

@[simp] theorem canon_forAll {α : Type} {s : State} (l : List α) (f : α → State → State)
    (hf : ∀ x t, Canon t → Canon (f x t)) (hs : Canon s) : Canon (forAll l f s) :=
  forAll_keeps (P := Canon) l f s hf hs

@[simp] theorem canon_forIdx {α : Type} {s : State} (i : Nat) (l : List α) (f : Nat → α → State → State)
    (hf : ∀ i x t, Canon t → Canon (f i x t)) (hs : Canon s) : Canon (forIdx i l f s) := by
  induction l generalizing i s with
  | nil => exact hs
  | cons x l ih => exact ih _ (hf _ _ _ hs)

@[simp] theorem canon_putEnabled {s : State} (put : Nat → List Byte → State → State) (o : Nat) (bs : List Byte) (en : Nat)
    (h : ∀ o b t, Canon t → Canon (put o b t)) (hs : Canon s) : Canon (putEnabled put o bs en s) := by
  unfold putEnabled; split
  · exact h _ _ _ hs
  · exact canon_forIdx _ _ _ (fun i b t ht => by split <;> simp [h, ht]) hs

/-! ### Writes of the tables -/

theorem modAt_mem {α : Type} {l : List α} {i : Nat} {f : α → α} {x : α} (h : x ∈ modAt l i f) :
    x ∈ l ∨ ∃ y ∈ l, x = f y := by
  induction l generalizing i with
  | nil => cases h
  | cons a t ih =>
    cases i with
    | zero =>
      rcases List.mem_cons.1 h with rfl | h
      · exact .inr ⟨a, by simp, rfl⟩
      · exact .inl (by simp [h])
    | succ i =>
      rcases List.mem_cons.1 h with rfl | h
      · exact .inl (by simp)
      · rcases ih h with h | ⟨y, hy, e⟩
        · exact .inl (by simp [h])
        · exact .inr ⟨y, by simp [hy], e⟩

/-- Timers in canonical form in what stands at a place of the list, or in the reset lane. -/
theorem Canon.lane {s : State} (hs : Canon s) (l : Nat) : FMap.wf {} (awnLane s l).d.timers = true := by
  have key : ∀ (ls : List AwnLane) n, (∀ x ∈ ls, FMap.wf {} x.d.timers = true) →
      FMap.wf {} (nth ls n {}).d.timers = true := by
    intro ls
    induction ls with
    | nil => intro n _; cases n <;> rfl
    | cons a t ih =>
      intro n h
      cases n with
      | zero => exact h a (by simp)
      | succ n => exact ih n fun x hx => h x (by simp [hx])
  exact key s.awn.lanes l hs.lanes

theorem zipWith_mem {α β γ : Type} {f : α → β → γ} {l : List α} {m : List β} {x : γ}
    (h : x ∈ List.zipWith f l m) : ∃ a, ∃ b ∈ m, x = f a b := by
  obtain ⟨i, hi, rfl⟩ := List.mem_iff_getElem.1 h
  rw [List.getElem_zipWith]
  exact ⟨_, _, List.getElem_mem _, rfl⟩

/-! ### What a step does to the timers of its lane -/

@[simp] theorem laneNext_timers (n l) : (laneNext n l).d.timers = l.d.timers := by unfold laneNext; rfl
@[simp] theorem laneFold_timers (a b l) : (laneFold a b l).d.timers = l.d.timers := by unfold laneFold; rfl
@[simp] theorem laneClose_timers (e c l) : (laneClose e c l).d.timers = l.d.timers := by
  unfold laneClose laneFold; rfl
@[simp] theorem laneStack_timers (e l) : (laneStack e l).d.timers = l.d.timers := laneClose_timers ..
@[simp] theorem laneIllegal_timers (e l) : (laneIllegal e l).d.timers = l.d.timers := laneClose_timers ..
@[simp] theorem laneBa_timers (b l) : (laneBa b l).d.timers = l.d.timers := by unfold laneBa laneNext; rfl
@[simp] theorem laneWa_timers (v l) : (laneWa v l).d.timers = l.d.timers := by unfold laneWa laneNext; rfl
@[simp] theorem laneArith_timers (r l) : (laneArith r l).d.timers = l.d.timers := by unfold laneArith laneWa laneNext; rfl
@[simp] theorem laneJump_timers (g l) : (laneJump g l).d.timers = l.d.timers := by
  unfold laneJump laneFold; rfl
@[simp] theorem lanePutCounter_timers (n c l) : (lanePutCounter n c l).d.timers = l.d.timers := by
  unfold lanePutCounter; exact laneFold_timers ..
@[simp] theorem storeBit_timers (d sp idx b) : (storeBit d sp idx b).timers = d.timers := by
  unfold storeBit; split <;> rfl
@[simp] theorem storeWord_timers (d x v) : (storeWord d x v).timers = d.timers := by
  unfold storeWord; split <;> rfl
@[simp] theorem laneBit_timers (f e x l) : (laneBit f e x l).d.timers = l.d.timers := by
  unfold laneBit; split <;> simp
@[simp] theorem laneSetTo_timers (v e x l) : (laneSetTo v e x l).d.timers = l.d.timers := by
  unfold laneSetTo; (repeat' split) <;> simp
@[simp] theorem lanePopWith_timers (f e l) : (lanePopWith f e l).d.timers = l.d.timers := by
  unfold lanePopWith; split <;> simp
@[simp] theorem laneWord_timers (f e x l) : (laneWord f e x l).d.timers = l.d.timers := by
  unfold laneWord; split <;> simp
@[simp] theorem laneSigned_timers (f e x l) : (laneSigned f e x l).d.timers = l.d.timers := by
  unfold laneSigned; split <;> simp
@[simp] theorem laneCompare_timers (f e x l) : (laneCompare f e x l).d.timers = l.d.timers := by
  unfold laneCompare; split <;> simp
theorem lanePutTimer_wf (n t) {l : AwnLane} (h : FMap.wf {} l.d.timers = true) :
    FMap.wf {} (lanePutTimer n t l).d.timers = true := FMap.store_wf n t h

@[simp] theorem laneLd_timers (e x l) : (laneLd e x l).d.timers = l.d.timers := by simp [laneLd]
@[simp] theorem laneAnd_timers (e x l) : (laneAnd e x l).d.timers = l.d.timers := by simp [laneAnd]
@[simp] theorem laneOr_timers (e x l) : (laneOr e x l).d.timers = l.d.timers := by simp [laneOr]
@[simp] theorem laneXor_timers (e x l) : (laneXor e x l).d.timers = l.d.timers := by simp [laneXor]
@[simp] theorem laneSt_timers (e x l) : (laneSt e x l).d.timers = l.d.timers := by
  unfold laneSt; split <;> simp
@[simp] theorem laneSet_timers (e x l) : (laneSet e x l).d.timers = l.d.timers := by simp [laneSet]
@[simp] theorem laneRst_timers (e x l) : (laneRst e x l).d.timers = l.d.timers := by simp [laneRst]
@[simp] theorem laneLw_timers (e x l) : (laneLw e x l).d.timers = l.d.timers := by simp [laneLw]
@[simp] theorem laneSw_timers (e x l) : (laneSw e x l).d.timers = l.d.timers := by
  unfold laneSw; split <;> simp
@[simp] theorem laneAdd_timers (e x l) : (laneAdd e x l).d.timers = l.d.timers := by simp [laneAdd]
@[simp] theorem laneSub_timers (e x l) : (laneSub e x l).d.timers = l.d.timers := by simp [laneSub]
@[simp] theorem laneMul_timers (e x l) : (laneMul e x l).d.timers = l.d.timers := by simp [laneMul]
@[simp] theorem laneAndw_timers (e x l) : (laneAndw e x l).d.timers = l.d.timers := by simp [laneAndw]
@[simp] theorem laneOrw_timers (e x l) : (laneOrw e x l).d.timers = l.d.timers := by simp [laneOrw]
@[simp] theorem laneXorw_timers (e x l) : (laneXorw e x l).d.timers = l.d.timers := by simp [laneXorw]
@[simp] theorem laneMin_timers (e x l) : (laneMin e x l).d.timers = l.d.timers := by simp [laneMin]
@[simp] theorem laneMax_timers (e x l) : (laneMax e x l).d.timers = l.d.timers := by simp [laneMax]
@[simp] theorem laneSel_timers (e x l) : (laneSel e x l).d.timers = l.d.timers := by simp [laneSel]
@[simp] theorem laneCeq_timers (e x l) : (laneCeq e x l).d.timers = l.d.timers := by simp [laneCeq]
@[simp] theorem laneCne_timers (e x l) : (laneCne e x l).d.timers = l.d.timers := by simp [laneCne]
@[simp] theorem laneClt_timers (e x l) : (laneClt e x l).d.timers = l.d.timers := by simp [laneClt]
@[simp] theorem laneCle_timers (e x l) : (laneCle e x l).d.timers = l.d.timers := by simp [laneCle]
@[simp] theorem laneCgt_timers (e x l) : (laneCgt e x l).d.timers = l.d.timers := by simp [laneCgt]
@[simp] theorem laneCge_timers (e x l) : (laneCge e x l).d.timers = l.d.timers := by simp [laneCge]
@[simp] theorem lanePsh_timers (e l) : (lanePsh e l).d.timers = l.d.timers := by
  unfold lanePsh; split <;> simp
@[simp] theorem lanePop_timers (e l) : (lanePop e l).d.timers = l.d.timers := by simp [lanePop]
@[simp] theorem laneRds_timers (e l) : (laneRds e l).d.timers = l.d.timers := by
  unfold laneRds; split <;> simp
@[simp] theorem lanePopa_timers (e l) : (lanePopa e l).d.timers = l.d.timers := by simp [lanePopa]
@[simp] theorem lanePopo_timers (e l) : (lanePopo e l).d.timers = l.d.timers := by simp [lanePopo]
@[simp] theorem lanePopx_timers (e l) : (lanePopx e l).d.timers = l.d.timers := by simp [lanePopx]
@[simp] theorem laneEnd_timers (e l) : (laneEnd e l).d.timers = l.d.timers := by simp [laneEnd]
@[simp] theorem laneNot_timers (l) : (laneNot l).d.timers = l.d.timers := by simp [laneNot]
@[simp] theorem laneNegw_timers (l) : (laneNegw l).d.timers = l.d.timers := by simp [laneNegw]
@[simp] theorem laneAbs_timers (l) : (laneAbs l).d.timers = l.d.timers := by simp [laneAbs]
@[simp] theorem laneNop_timers (l) : (laneNop l).d.timers = l.d.timers := by simp [laneNop]
@[simp] theorem laneCtu_timers (e n l) : (laneCtu e n l).d.timers = l.d.timers := by simp [laneCtu]
@[simp] theorem laneCtd_timers (e n l) : (laneCtd e n l).d.timers = l.d.timers := by simp [laneCtd]
@[simp] theorem laneCrs_timers (e n l) : (laneCrs e n l).d.timers = l.d.timers := by simp [laneCrs]
@[simp] theorem laneEdg_timers (e n l) : (laneEdg e n l).d.timers = l.d.timers := by simp [laneEdg]
@[simp] theorem laneCld_timers (n l) : (laneCld n l).d.timers = l.d.timers := by simp [laneCld]
@[simp] theorem laneShl_timers (sh l) : (laneShl sh l).d.timers = l.d.timers := by simp [laneShl]
@[simp] theorem laneShr_timers (sh l) : (laneShr sh l).d.timers = l.d.timers := by simp [laneShr]
@[simp] theorem laneAsr_timers (sh l) : (laneAsr sh l).d.timers = l.d.timers := by simp [laneAsr]
@[simp] theorem laneJmp_timers (target l) : (laneJmp target l).d.timers = l.d.timers := by simp [laneJmp]
@[simp] theorem laneJc_timers (target l) : (laneJc target l).d.timers = l.d.timers := by
  unfold laneJc; split <;> simp
@[simp] theorem laneJnc_timers (target l) : (laneJnc target l).d.timers = l.d.timers := by
  unfold laneJnc; split <;> simp
@[simp] theorem laneLdl_timers (lit l) : (laneLdl lit l).d.timers = l.d.timers := by simp [laneLdl]
@[simp] theorem laneTim_wf (e n) {l : AwnLane} (h : FMap.wf {} l.d.timers = true) :
    FMap.wf {} (laneTim e n l).d.timers = true := lanePutTimer_wf n _ h
@[simp] theorem laneTrs_wf (n) {l : AwnLane} (h : FMap.wf {} l.d.timers = true) :
    FMap.wf {} (laneTrs n l).d.timers = true := lanePutTimer_wf n _ h

section
variable {s : State}

@[simp] theorem canon_lifeAdd (hs : Canon s) (off n) : Canon (lifeAdd off n s) :=
  { hs with incr := FMap.upd_wf off (· + n) hs.incr }
@[simp] theorem canon_mramWrite (hs : Canon s) (o bs) : Canon (mramWrite o bs s) :=
  { hs with mram := FMap.storeList_wf o bs hs.mram }
@[simp] theorem canon_norPut (hs : Canon s) (copyB o bs) : Canon (norPut copyB o bs s) := by
  unfold norPut; split
  · exact { hs with norB := FMap.storeList_wf o bs hs.norB }
  · exact { hs with norA := FMap.storeList_wf o bs hs.norA }
@[simp] theorem canon_lkPut (hs : Canon s) (window off v) : Canon (lkPut window off v s) :=
  { hs with lk := FMap.store_wf _ v hs.lk }
theorem canon_dramPut (hs : Canon s) (o bs) : Canon { s with mem := s.mem.dramPut o bs } :=
  { hs with dram := FMap.storeList_wf o bs hs.dram }

end

/-! ### Functions that keep the tables, in the order of the chapters' files -/

section
variable {s : State}

@[simp] theorem canon_reset : Canon State.reset := (canonical_iff _).1 (by unfold State.canonical; decide)

/-! #### Operations that every chapter shares -/

@[simp] theorem canon_emit (o) : Canon (emit o s) ↔ Canon s := by simp [emit]
@[simp] theorem canon_drawn : Canon (drawn s) ↔ Canon s := by simp [drawn]
@[simp] theorem canon_drawnN (n) : Canon (drawnN n s) ↔ Canon s := by simp [drawnN]
@[simp] theorem canon_dropRecord (hs : Canon s) : Canon (dropRecord s) := by simp [dropRecord, hs]
@[simp] theorem canon_enqueue (hs : Canon s) (r) : Canon (enqueue r s) := by simp [enqueue, hs]
@[simp] theorem canon_eventAt (hs : Canon s) (off code detail d0 d1) : Canon (eventAt off code detail d0 d1 s) := by
  simp [eventAt, hs]
@[simp] theorem canon_event (hs : Canon s) (code detail d0 d1) : Canon (event code detail d0 d1 s) := by
  simp [event, hs]
@[simp] theorem canon_countOnly (hs : Canon s) (code) : Canon (countOnly code s) := by simp [countOnly, hs]
@[simp] theorem canon_eventRateAt (hs : Canon s) (off code idx detail d1) :
    Canon (eventRateAt off code idx detail d1 s) := by
  simp [eventRateAt, hs]
@[simp] theorem canon_eventRate (hs : Canon s) (code idx detail d1) : Canon (eventRate code idx detail d1 s) := by
  simp [eventRate, hs]
@[simp] theorem canon_errRch (bit source init write resp addr) :
    Canon (errRch bit source init write resp addr s) ↔ Canon s := by
  simp [errRch]
@[simp] theorem canon_raiseRch (hs : Canon s) (bit code source init write resp addr) :
    Canon (raiseRch bit code source init write resp addr s) := by
  simp [raiseRch, hs]
@[simp] theorem canon_raiseRchCe (hs : Canon s) (init write addr) : Canon (raiseRchCe init write addr s) := by
  simp [raiseRchCe, hs]
@[simp] theorem canon_errMem (bit unit addr) : Canon (errMem bit unit addr s) ↔ Canon s := by simp [errMem]
@[simp] theorem canon_raiseMem (hs : Canon s) (bit code unit addr) : Canon (raiseMem bit code unit addr s) := by
  simp [raiseMem, hs]
@[simp] theorem canon_raiseMce (hs : Canon s) (unit addr) : Canon (raiseMce unit addr s) := by simp [raiseMce, hs]
@[simp] theorem canon_errTrd (bit info window) : Canon (errTrd bit info window s) ↔ Canon s := by simp [errTrd]
@[simp] theorem canon_errAwn (bit info) : Canon (errAwn bit info s) ↔ Canon s := by simp [errAwn]
@[simp] theorem canon_errCyc (bit info) : Canon (errCyc bit info s) ↔ Canon s := by simp [errCyc]
@[simp] theorem canon_errSch (bit info) : Canon (errSch bit info s) ↔ Canon s := by simp [errSch]
@[simp] theorem canon_errVyf (bit info) : Canon (errVyf bit info s) ↔ Canon s := by simp [errVyf]
@[simp] theorem canon_errFab (bit info) : Canon (errFab bit info s) ↔ Canon s := by simp [errFab]
@[simp] theorem canon_errHub (bit info) : Canon (errHub bit info s) ↔ Canon s := by simp [errHub]
@[simp] theorem canon_errPair (bit info) : Canon (errPair bit info s) ↔ Canon s := by simp [errPair]
@[simp] theorem canon_errGlm (bit info) : Canon (errGlm bit info s) ↔ Canon s := by simp [errGlm]
@[simp] theorem canon_errFio (bit info) : Canon (errFio bit info s) ↔ Canon s := by simp [errFio]
@[simp] theorem canon_errCulm (bit info addr) : Canon (errCulm bit info addr s) ↔ Canon s := by simp [errCulm]
@[simp] theorem canon_errSup (bit info) : Canon (errSup bit info s) ↔ Canon s := by simp [errSup]
@[simp] theorem canon_errSec (bit info) : Canon (errSec bit info s) ↔ Canon s := by simp [errSec]
@[simp] theorem canon_errThr (bit info) : Canon (errThr bit info s) ↔ Canon s := by simp [errThr]
@[simp] theorem canon_errGrn (bit info) : Canon (errGrn bit info s) ↔ Canon s := by simp [errGrn]
@[simp] theorem canon_setCan (n c) : Canon (s.setCan n c) ↔ Canon s := by simp [State.setCan]
@[simp] theorem canon_errCan (n bit info) : Canon (errCan n bit info s) ↔ Canon s := by simp [errCan]
@[simp] theorem canon_mramProbe (hs : Canon s) (o n) : Canon (mramProbe o n s) := by simp [mramProbe, hs]
@[simp] theorem canon_engRun (es f) : Canon (engRun es f s) ↔ Canon (f s) := by simp [engRun]
@[simp] theorem canon_modTri (t f) : Canon (modTri t f s) ↔ Canon s := by simp [modTri]
@[simp] theorem canon_modCore (n f) : Canon (modCore n f s) ↔ Canon s := by simp [modCore]

/-! #### Operands -/

@[simp] theorem canon_raiseSec (hs : Canon s) (bit code detail step copy d0 d1) :
    Canon (raiseSec bit code detail step copy d0 d1 s) := by
  simp [raiseSec, hs]

/-! #### Transfers of the engines (01) -/

@[simp] theorem canon_refuse (hs : Canon s) (resp init write addr n) : Canon (refuse resp init write addr n s).2.2 := by
  unfold refuse; split <;> simp [hs]
@[simp] theorem canon_readDram (hs : Canon s) (init o n) : Canon (readDram init o n s).2.2 := by simp [readDram, hs]
@[simp] theorem canon_readMram (hs : Canon s) (o n) : Canon (readMram o n s).2.2 := by simp [readMram, hs]
@[simp] theorem canon_dmaRead (hs : Canon s) (init addr n) : Canon (dmaRead init addr n s).2.2 := by
  unfold dmaRead; (repeat' split) <;> simp [hs]
@[simp] theorem canon_dmaWrite (hs : Canon s) (init addr bs) : Canon (dmaWrite init addr bs s).2 := by
  unfold dmaWrite; split
  · simp [hs]
  · split
    · exact canon_dramPut hs _ bs
    all_goals simp [hs]

/-! #### The Culm port (16) -/

@[simp] theorem canon_culmLog (kind outcome inbound win addr mask) :
    Canon (culmLog kind outcome inbound win addr mask s) ↔ Canon s := by
  simp [culmLog]
@[simp] theorem canon_raiseCulm (hs : Canon s) (bit code outcome inbound win master addr) :
    Canon (raiseCulm bit code outcome inbound win master addr s) := by
  simp [raiseCulm, hs]
@[simp] theorem canon_raiseCulmRate (hs : Canon s) (bit code outcome inbound win master addr) :
    Canon (raiseCulmRate bit code outcome inbound win master addr s) := by
  simp [raiseCulmRate, hs]
@[simp] theorem canon_respond (init code data) : Canon (respond init code data s) ↔ Canon s := by simp [respond]
@[simp] theorem canon_answerItem (init addr code data) : Canon (answerItem init addr code data s) ↔ Canon s := by
  simp [answerItem]
@[simp] theorem canon_abortOut (hs : Canon s) (resp outcome o) : Canon (abortOut resp outcome o s) := by
  simp [abortOut, hs]
@[simp] theorem canon_abortAllOut (hs : Canon s) (resp outcome) : Canon (abortAllOut resp outcome s) := by
  simp +contextual [abortAllOut, hs]
@[simp] theorem canon_discardBuf (hs : Canon s) (b) : Canon (discardBuf b s) := by simp [discardBuf, hs]
@[simp] theorem canon_discardBufs (hs : Canon s) (p) : Canon (discardBufs p s) := by
  simp +contextual [discardBufs, hs]
@[simp] theorem canon_freeBuf (hs : Canon s) : Canon (freeBuf s) := by
  unfold freeBuf; split <;> simp [hs]
@[simp] theorem canon_serveBuf (b init addr size) : Canon (serveBuf b init addr size s) ↔ Canon s := by simp [serveBuf]
@[simp] theorem canon_pushOut (i w posted prefetch) : Canon (pushOut i w posted prefetch s) ↔ Canon s := by
  simp [pushOut]
@[simp] theorem canon_waitAtPort (since i) : Canon (waitAtPort since i s) ↔ Canon s := by simp [waitAtPort]
@[simp] theorem canon_culmOffer (hs : Canon s) (since i) : Canon (culmOffer since i s) := by
  unfold culmOffer; (repeat' split) <;> simp [hs]
@[simp] theorem canon_culmAccept (hs : Canon s) (i) : Canon (culmAccept i s) := by simp [culmAccept, hs]
@[simp] theorem canon_admitWaiting (hs : Canon s) : Canon (admitWaiting s) := by
  simp +contextual [admitWaiting, hs]
@[simp] theorem canon_afterOutEnd (hs : Canon s) (had) : Canon (afterOutEnd had s) := by simp [afterOutEnd, hs]
@[simp] theorem canon_countO (w) : Canon (countO w s) ↔ Canon s := by simp [countO]
@[simp] theorem canon_countI (v) : Canon (countI v s) ↔ Canon s := by simp [countI]
@[simp] theorem canon_popOut : Canon (popOut s) ↔ Canon s := by simp [popOut]
@[simp] theorem canon_completeOut (hs : Canon s) (o bs) : Canon (completeOut o bs s) := by simp [completeOut, hs]
@[simp] theorem canon_refusedOut (hs : Canon s) (o) : Canon (refusedOut o s) := by simp [refusedOut, hs]
@[simp] theorem canon_driveOut (o) : Canon (driveOut o s) ↔ Canon s := by simp [driveOut]
@[simp] theorem canon_passEnd : Canon (passEnd s) ↔ Canon s := by simp [passEnd]
@[simp] theorem canon_seeRequests (reqs) : Canon (seeRequests reqs s) ↔ Canon s := by simp [seeRequests]
@[simp] theorem canon_outboundEnd (hs : Canon s) (e) : Canon (outboundEnd e s) := by
  unfold outboundEnd; (repeat' split) <;> simp [hs]
@[simp] theorem canon_opCulmOutboundEnd (hs : Canon s) (g) : Canon (opCulmOutboundEnd g s) := by
  simp [opCulmOutboundEnd, hs]
@[simp] theorem canon_opCulmTransactionTimeout (hs : Canon s) : Canon (opCulmTransactionTimeout s) := by
  unfold opCulmTransactionTimeout; split <;> simp [hs]
@[simp] theorem canon_opCulmOutboundAccept (hs : Canon s) (i) : Canon (opCulmOutboundAccept i s) := by
  simp [opCulmOutboundAccept, hs]
@[simp] theorem canon_opPrefetchExpiry (hs : Canon s) (k) : Canon (opPrefetchExpiry k s) := by
  unfold opPrefetchExpiry; split <;> simp [hs]
@[simp] theorem canon_answerIn (kind data) : Canon (answerIn kind data s) ↔ Canon s := by simp [answerIn]
@[simp] theorem canon_refuseIn (hs : Canon s) (p v) : Canon (refuseIn p v s) := by simp [refuseIn, hs]
@[simp] theorem canon_inWrite (p v) : Canon (inWrite p v s) ↔ Canon s := by simp [inWrite]
@[simp] theorem canon_inRead (p v) : Canon (inRead p v s) ↔ Canon s := by
  unfold inRead; (repeat' split) <;> simp
@[simp] theorem canon_inNormal (hs : Canon s) (p v) : Canon (inNormal p v s) := by simp [inNormal, hs]
@[simp] theorem canon_retryIn (m) : Canon (retryIn m s) ↔ Canon s := by simp [retryIn]
@[simp] theorem canon_inPhase (hs : Canon s) (pass p) : Canon (inPhase pass p s) := by
  unfold inPhase; split <;> simp [hs]
@[simp] theorem canon_opCulmInboundAddressPhase (hs : Canon s) (p) : Canon (opCulmInboundAddressPhase p s) := by
  simp [opCulmInboundAddressPhase, hs]
@[simp] theorem canon_issueWrites (hs : Canon s) (value l phys bs) : Canon (issueWrites value l phys bs s).2 := by
  induction l generalizing bs s with
  | nil => exact hs
  | cons e t ih => exact ih (canon_dmaWrite hs _ _ _) _
@[simp] theorem canon_issueReads (hs : Canon s) (value l phys) : Canon (issueReads value l phys s).2.2 := by
  induction l generalizing s with
  | nil => exact hs
  | cons e t ih => exact ih (canon_dmaRead hs _ _ _)
@[simp] theorem canon_opInboundWriteIssue (hs : Canon s) : Canon (opInboundWriteIssue s) := by
  unfold opInboundWriteIssue; split <;> simp [hs]
@[simp] theorem canon_opDelayedReadData (hs : Canon s) (slot) : Canon (opDelayedReadData slot s) := by
  unfold opDelayedReadData; split <;> simp [hs]
@[simp] theorem canon_opDelayedReadDiscard (hs : Canon s) (slot) : Canon (opDelayedReadDiscard slot s) := by
  unfold opDelayedReadDiscard; split <;> simp [hs]
@[simp] theorem canon_opCulmWindowEnableWrite (hs : Canon s) (init inbound w v) :
    Canon (opCulmWindowEnableWrite init inbound w v s) := by
  simp [opCulmWindowEnableWrite, hs]
@[simp] theorem canon_culmStart : Canon (culmStart s) ↔ Canon s := by simp [culmStart]
@[simp] theorem canon_culmAbortAll (hs : Canon s) (resp outcome) : Canon (culmAbortAll resp outcome s) := by
  have h := canon_discardBufs (canon_abortAllOut hs resp outcome) (fun _ => true)
  simp [culmAbortAll, h]
@[simp] theorem canon_culmSafe (hs : Canon s) : Canon (culmSafe s) := by simp [culmSafe, hs]

/-! #### Field inputs and outputs (14) -/

@[simp] theorem canon_modDq (n f) : Canon (modDq n f s) ↔ Canon s := by simp [modDq]
@[simp] theorem canon_modDi (n f) : Canon (modDi n f s) ↔ Canon s := by simp [modDi]
@[simp] theorem canon_modFb (n f) : Canon (modFb n f s) ↔ Canon s := by simp [modFb]
@[simp] theorem canon_modGrp (g f) : Canon (modGrp g f s) ↔ Canon s := by simp [modGrp]
@[simp] theorem canon_raiseFio (hs : Canon s) (bit code ch cause d0 d1) :
    Canon (raiseFio bit code ch cause d0 d1 s) := by
  simp [raiseFio, hs]
@[simp] theorem canon_raiseEpisode (hs : Canon s) (bit code ch d0 open') :
    Canon (raiseEpisode bit code ch d0 open' s) := by
  simp [raiseEpisode, hs]
@[simp] theorem canon_writeFaultRecord (hs : Canon s) : Canon (writeFaultRecord s) := by simp [writeFaultRecord, hs]
@[simp] theorem canon_loadFaultRecord (hs : Canon s) : Canon (loadFaultRecord s) := by
  have h := canon_mramProbe (canon_mramProbe hs 0x180 64) 0x1C0 64
  simp only [loadFaultRecord]; split <;> simp [h]
@[simp] theorem canon_dqSwitch (n on) : Canon (dqSwitch n on s) ↔ Canon s := by simp [dqSwitch]
@[simp] theorem canon_latchFbk (hs : Canon s) (n cause) : Canon (latchFbk n cause s) := by simp [latchFbk, hs]
@[simp] theorem canon_dqFollow (hs : Canon s) (n) : Canon (dqFollow n s) := by simp [dqFollow, hs]
@[simp] theorem canon_fioRefresh (hs : Canon s) : Canon (fioRefresh s) := by simp [fioRefresh, hs]
@[simp] theorem canon_latchCross (hs : Canon s) (n cause partner) : Canon (latchCross n cause partner s) := by
  unfold latchCross
  exact canon_writeFaultRecord (canon_raiseFio (canon_fioRefresh ((canon_modDq ..).2 hs)) ..)
@[simp] theorem canon_latchPathDq (hs : Canon s) (n) : Canon (latchPathDq n s) := by
  unfold latchPathDq
  exact canon_writeFaultRecord (canon_raiseFio (canon_fioRefresh ((canon_modDq ..).2 hs)) ..)
@[simp] theorem canon_latchGsw (hs : Canon s) (g) : Canon (latchGsw g s) :=
  canon_writeFaultRecord (canon_raiseFio (canon_fioRefresh (by simp [hs])) ..)
@[simp] theorem canon_fioOff (hs : Canon s) : Canon (fioOff s) := by simp [fioOff, hs]
@[simp] theorem canon_dinReport (hs : Canon s) (ch thresh low) (get : State → Din) (put : (Din → Din) → State → State)
    (hp : ∀ f t, Canon t → Canon (put f t)) : Canon (dinReport ch thresh low get put s) := by
  unfold dinReport
  extract_lets now d s₁ s₂
  have h₁ : Canon s₁ := by simp only [s₁]; (repeat' split) <;> simp [hp, hs]
  have h₂ : Canon s₂ := by simp only [s₂]; (repeat' split) <;> simp [hp, h₁]
  split
  · exact canon_writeFaultRecord (canon_raiseFio (hp _ _ h₂) ..)
  · exact h₂
@[simp] theorem canon_sampleDi (hs : Canon s) (i v) : Canon (sampleDi i v s) := by simp [sampleDi, hs]
@[simp] theorem canon_fbCheck (hs : Canon s) (n) : Canon (fbCheck n s) := by simp [fbCheck, hs]
@[simp] theorem canon_sampleFb (hs : Canon s) (n v) : Canon (sampleFb n v s) := by simp [sampleFb, hs]
@[simp] theorem canon_opInputSample (hs : Canon s) (di fb) : Canon (opInputSample di fb s) := by
  unfold opInputSample; split
  · exact canon_forIdx _ _ _ (fun i x t ht => canon_sampleFb ht i x)
      (canon_forIdx _ _ _ (fun i x t ht => canon_sampleDi ht i x) hs)
  · exact hs
@[simp] theorem canon_nameCross (hs : Canon s) (n) : Canon (nameCross n s) := by
  unfold nameCross; split <;> simp [hs]
@[simp] theorem canon_sampleDq (hs : Canon s) (n v ma) : Canon (sampleDq n v ma s) := by
  unfold sampleDq
  split
  · exact hs
  · extract_lets s₁ d s₂ s₃
    have h₂ : Canon s₂ := by simp only [s₂]; split <;> simp [s₁, hs]
    have h₃ : Canon s₃ := by simp only [s₃]; split <;> simp [h₂]
    exact canon_nameCross h₃ n
@[simp] theorem canon_opReadbackSample (hs : Canon s) (dq loadMa groupMa) :
    Canon (opReadbackSample dq loadMa groupMa s) := by
  unfold opReadbackSample; split
  · refine canon_fioRefresh ?_
    simpa using canon_forIdx 0 dq _ (fun n v t ht => canon_sampleDq ht n v _) hs
  · exact hs
@[simp] theorem canon_opOutputImageArrival (hs : Canon s) : Canon (opOutputImageArrival s) := by
  unfold opOutputImageArrival; (repeat' split) <;> simp +contextual [hs]
@[simp] theorem canon_opTestRound : Canon (opTestRound s) ↔ Canon s := by simp [opTestRound]
@[simp] theorem canon_opOffPulse (n) : Canon (opOffPulse n s) ↔ Canon s := by simp [opOffPulse]
@[simp] theorem canon_opOffPulseEnd (hs : Canon s) (n) : Canon (opOffPulseEnd n s) := by simp [opOffPulseEnd, hs]
@[simp] theorem canon_groupCheck (hs : Canon s) (g slot showsOpen) : Canon (groupCheck g slot showsOpen s) := by
  simp [groupCheck, hs]
@[simp] theorem canon_opGroupSwitchTest (hs : Canon s) (g showsOpen) : Canon (opGroupSwitchTest g showsOpen s) := by
  simp [opGroupSwitchTest, hs]
@[simp] theorem canon_opTestRoundEnd (hs : Canon s) : Canon (opTestRoundEnd s) := by simp [opTestRoundEnd, hs]
@[simp] theorem canon_opOutputOverload (hs : Canon s) (n ma) : Canon (opOutputOverload n ma s) := by
  simp [opOutputOverload, hs]
@[simp] theorem canon_opGroupOvercurrent (hs : Canon s) (g ma) : Canon (opGroupOvercurrent g ma s) := by
  unfold opGroupOvercurrent; split
  · exact canon_writeFaultRecord (canon_raiseFio (canon_fioRefresh (by simp [hs])) ..)
  · exact hs
@[simp] theorem canon_opReturnCrossFault (hs : Canon s) (g) : Canon (opReturnCrossFault g s) := by
  unfold opReturnCrossFault; split
  · exact canon_writeFaultRecord (canon_raiseFio (canon_fioRefresh (by simp [hs])) ..)
  · exact hs
@[simp] theorem canon_opOpenLoad (hs : Canon s) (n) : Canon (opOpenLoad n s) := by simp [opOpenLoad, hs]
@[simp] theorem canon_opOpenLoadCleared (n) : Canon (opOpenLoadCleared n s) ↔ Canon s := by simp [opOpenLoadCleared]
@[simp] theorem canon_opFbPullInTimeout (hs : Canon s) (n) : Canon (opFbPullInTimeout n s) := by
  simp [opFbPullInTimeout, hs]
@[simp] theorem canon_opFbDropOutTimeout (hs : Canon s) (n) : Canon (opFbDropOutTimeout n s) := by
  simp [opFbDropOutTimeout, hs]
@[simp] theorem canon_fioLplusLost (hs : Canon s) : Canon (fioLplusLost s) := by simp [fioLplusLost, hs]
@[simp] theorem canon_lplusUsable (hs : Canon s) : Canon (lplusUsable s) := by simp [lplusUsable, hs]
@[simp] theorem canon_opLplusRestored (hs : Canon s) : Canon (opLplusRestored s) := by simp [opLplusRestored, hs]
@[simp] theorem canon_faultReset (hs : Canon s) (inputs groups channels) :
    Canon (faultReset inputs groups channels s) := by
  unfold faultReset
  exact canon_writeFaultRecord (canon_event (canon_fioRefresh (by split <;> simp [hs])) ..)
@[simp] theorem canon_opFaultReset (hs : Canon s) (init inputs groups channels) :
    Canon (opFaultReset init inputs groups channels s) := by
  simp [opFaultReset, hs]
@[simp] theorem canon_opOvlReset (hs : Canon s) (init groups channels) : Canon (opOvlReset init groups channels s) := by
  unfold opOvlReset; split
  · exact canon_writeFaultRecord (canon_event (canon_fioRefresh (by simp [hs])) ..)
  · exact hs
@[simp] theorem canon_fioStart (hs : Canon s) : Canon (fioStart s) := by simp [fioStart, hs]

/-! #### Granary (19) -/

@[simp] theorem canon_putRec (hs : Canon s) (q r) : Canon (putRec q r s) := by
  unfold putRec
  split
  · simp [hs]
  extract_lets k last r₁ r₂ s₁ grn s₂ grn'
  have h₁ : Canon s₁ := canon_mramWrite hs ..
  have h₂ : Canon s₂ := h₁
  have h₃ : Canon { s₂ with grn := { grn' with full := true, lost := 1, err := grn'.err.raise 0 (place 0 11 8) (cycleWord s₂) 0 } } := h₂
  split
  · exact canon_lifeAdd h₃ ..
  · exact h₂
@[simp] theorem canon_overflowRecord : Canon (overflowRecord s) ↔ Canon s := by simp [overflowRecord]
@[simp] theorem canon_writeFront (hs : Canon s) (q) : Canon (writeFront q s) := by
  unfold writeFront; split <;> simp [hs]
@[simp] theorem canon_flushQueue (hs : Canon s) (q) : Canon (flushQueue q s) := by
  simp +contextual [flushQueue, hs]
@[simp] theorem canon_lifeLine (hs : Canon s) (e) : Canon (lifeLine e s) := by simp [lifeLine, hs]
@[simp] theorem canon_lifeFlush (hs : Canon s) : Canon (lifeFlush s) := by
  have h : Canon { s with grn := { s.grn with incr := [] } } := { hs with incr := rfl }
  exact canon_forAll _ _ (fun e t ht => canon_lifeLine ht e) h
@[simp] theorem canon_hoursCopy (hs : Canon s) : Canon (hoursCopy s) := by simp [hoursCopy, hs]
@[simp] theorem canon_hoursCopyWhole (hs : Canon s) : Canon (hoursCopyWhole s) := by simp [hoursCopyWhole, hs]
@[simp] theorem canon_writeSlot (hs : Canon s) (o data) : Canon (writeSlot o data s) := by simp [writeSlot, hs]
@[simp] theorem canon_lifeBad (hs : Canon s) (d) : Canon (lifeBad d s) := by simp [lifeBad, hs]
@[simp] theorem canon_writeControl (hs : Canon s) : Canon (writeControl s) := by simp [writeControl, hs]
@[simp] theorem canon_probeSlots (hs : Canon s) (o) : Canon (probeSlots o s) := by simp [probeSlots, hs]
@[simp] theorem canon_startControl (hs : Canon s) : Canon (startControl s) := by
  have h := canon_probeSlots hs 0x240000
  simp only [startControl]; split
  · simp [h]
  · exact canon_lifeBad (canon_writeControl (by simp [h])) 1
@[simp] theorem canon_startPower (hs : Canon s) (last) : Canon (startPower last s) := by
  have h := canon_probeSlots hs 0x200
  simp only [startPower]; split <;> simp [h]
@[simp] theorem canon_opGranaryStart (hs : Canon s) : Canon (opGranaryStart s) := by
  unfold opGranaryStart
  split
  · extract_lets c held last s₁ s₂ p grn s₃ s₄
    have h₁ : Canon s₁ := canon_startControl (canon_startPower hs last)
    have h₂ : Canon s₂ := by simp only [s₂]; split <;> simp [h₁]
    have h₃ : Canon s₃ := by simpa [s₃, grn] using h₂
    split
    · exact h₃
    · simpa using canon_event h₃ ..
  · exact hs
@[simp] theorem canon_grnClear (hs : Canon s) (auth) : Canon (grnClear auth s) := by
  unfold grnClear
  extract_lets s₁ n cleared e s₂ grn s₃ grn'
  have h₂ : Canon s₂ := canon_mramWrite (canon_flushQueue hs false) ..
  have h₂' : Canon { s₂ with grn := { grn with base := grn.next, clears := n } } := h₂
  have h₃ : Canon s₃ := canon_writeControl h₂'
  have h₃' : Canon { s₃ with grn := { grn' with lost := 0, full := false } } := h₃
  exact canon_event h₃' ..
@[simp] theorem canon_opEventRaise (hs : Canon s) (code detail d0 d1) : Canon (opEventRaise code detail d0 d1 s) := by
  simp [opEventRaise, hs]
@[simp] theorem canon_opRateIntervalEnd (hs : Canon s) (code idx) : Canon (opRateIntervalEnd code idx s) := by
  unfold opRateIntervalEnd; split <;> simp [hs]
@[simp] theorem canon_opRecordWritten (hs : Canon s) : Canon (opRecordWritten s) := by simp [opRecordWritten, hs]
@[simp] theorem canon_opLifeWriteTick (hs : Canon s) : Canon (opLifeWriteTick s) := by simp [opLifeWriteTick, hs]
@[simp] theorem canon_slackCount (hs : Canon s) (c x) : Canon (slackCount c x s) := by simp [slackCount, hs]
@[simp] theorem canon_opOperatingSecond (hs : Canon s) : Canon (opOperatingSecond s) := by simp [opOperatingSecond, hs]
@[simp] theorem canon_opHoursCopy (hs : Canon s) : Canon (opHoursCopy s) := by simp [opHoursCopy, hs]

/-! #### What several chapters share -/

@[simp] theorem canon_giveIrq (n src) : Canon (giveIrq n src s) ↔ Canon s := by simp [giveIrq]
@[simp] theorem canon_irqTriad (hs : Canon s) (t ps src) : Canon (irqTriad t ps src s) := by simp [irqTriad, hs]
@[simp] theorem canon_irqAll (hs : Canon s) (src) : Canon (irqAll src s) := by
  simp +contextual [irqAll, hs]
@[simp] theorem canon_braceEnd (hs : Canon s) : Canon (braceEnd s) := by
  unfold braceEnd; split <;> simp [hs]
@[simp] theorem canon_enterSafe (hs : Canon s) (cause) : Canon (enterSafe cause s) := by
  unfold enterSafe; split
  · exact canon_event (canon_culmSafe (canon_fioOff (canon_braceEnd (by simp [hs])))) ..
  · exact hs
@[simp] theorem canon_haltCores (t) : Canon (haltCores t s) ↔ Canon s := by simp [haltCores]
@[simp] theorem canon_abortTimers (hs : Canon s) : Canon (abortTimers s) := by
  refine { hs with bank := FMap.mapv_wf _ hs.bank, otherBank := FMap.mapv_wf _ hs.otherBank, lanes := fun y hy => ?_ }
  obtain ⟨l, hl, rfl⟩ := List.mem_map.1 hy
  exact FMap.mapv_wf _ (hs.lanes l hl)
@[simp] theorem canon_awnScanLost (hs : Canon s) (st) : Canon (awnScanLost st s) := by simp [awnScanLost, hs]
@[simp] theorem canon_haltAll (hs : Canon s) : Canon (haltAll s) := by simp [haltAll, hs]
@[simp] theorem canon_dieReset (hs : Canon s) (cause quenched hold) : Canon (dieReset cause quenched hold s) :=
  { canon_reset with mram := hs.mram, norA := hs.norA, norB := hs.norB }

/-! #### The Awn scan (04) -/

theorem canon_putLane (hs : Canon s) (l) {x : AwnLane} (hx : FMap.wf {} x.d.timers = true) : Canon (putLane l x s) := by
  refine { hs with lanes := fun y hy => ?_ }
  rcases modAt_mem hy with hy | ⟨-, -, rfl⟩
  · exact hs.lanes y hy
  · exact hx
@[simp] theorem canon_awnShadow (o bs) : Canon (awnShadow o bs s) ↔ Canon s := by simp [awnShadow]
@[simp] theorem canon_awnStage (o bs) : Canon (awnStage o bs s) ↔ Canon s := by simp [awnStage]

/-- Staged bytes leave the timers as they are. -/
theorem stageInto_timers (l : FMap (Option Byte)) (d : AwnData) : (stageInto l d).timers = d.timers := by
  have byte : ∀ (d : AwnData) o b, (stageByte d o b).timers = d.timers := by
    intro d o b; simp only [stageByte]; (repeat' split) <;> rfl
  induction l generalizing d with
  | nil => rfl
  | cons e t ih =>
    obtain ⟨o, b⟩ := e
    cases b with
    | none => exact ih d
    | some b => exact (ih _).trans (byte d o b)

@[simp] theorem canon_awnTrigger (hs : Canon s) : Canon (awnTrigger s) := by
  unfold awnTrigger
  split
  · refine { hs with lanes := fun y hy => ?_ }
    obtain ⟨live, l, hl, rfl⟩ := zipWith_mem hy
    split
    · exact (congrArg (FMap.wf {}) (stageInto_timers _ l.d)).trans (hs.lanes l hl)
    · exact hs.lanes l hl
  · exact hs
@[simp] theorem canon_excludeLane (hs : Canon s) (l) : Canon (excludeLane l s) := by
  simp only [excludeLane]; (repeat' split) <;> simp [hs]
@[simp] theorem canon_awnNoMajority (hs : Canon s) : Canon (awnNoMajority s) :=
  canon_enterSafe (canon_awnScanLost (by simp [hs]) 5) _
@[simp] theorem canon_awnVote (hs : Canon s) : Canon (awnVote s) := by
  simp only [awnVote]; (repeat' split) <;> simp +contextual [hs]
@[simp] theorem canon_laneClosed (hs : Canon s) (l) : Canon (laneClosed l s) := by
  simp only [laneClosed]; (repeat' split) <;> simp [hs]
@[simp] theorem canon_awnStep (hs : Canon s) (l) (f : AwnEnv → AwnLane → AwnLane)
    (hf : ∀ e x, FMap.wf {} x.d.timers = true → FMap.wf {} (f e x).d.timers = true) : Canon (awnStep l f s) := by
  have h : Canon (putLane l (f (awnEnv s) (awnLane s l)) s) := canon_putLane hs l (hf _ _ (hs.lane l))
  simp only [awnStep]
  split
  · split
    · exact canon_laneClosed h l
    · exact h
  · exact hs
@[simp] theorem canon_opAwnIllegalStep (hs : Canon s) (l ecc) : Canon (opAwnIllegalStep l ecc s) :=
  canon_awnStep hs l _ fun _ _ hx => (laneClose_timers ..).symm ▸ hx
@[simp] theorem canon_opLaneTimeout (hs : Canon s) : Canon (opLaneTimeout s) := by simp [opLaneTimeout, hs]
@[simp] theorem canon_awnPublishCore (hs : Canon s) : Canon (awnPublishCore s) := by
  simp only [awnPublishCore]
  split
  · exact hs
  next w _ =>
    have h : ∀ a : Awn, a.bank = (awnLane s w).d → a.otherBank = s.awn.bank → a.lanes = s.awn.lanes →
        Canon { s with awn := a } := fun a hb ho hl =>
      { hs with
        bank := (congrArg (fun d => FMap.wf {} d.timers) hb).trans (hs.lane w)
        otherBank := (congrArg (fun d => FMap.wf {} d.timers) ho).trans hs.bank
        lanes := fun y hy => hs.lanes y (show y ∈ s.awn.lanes from hl ▸ hy) }
    split
    · exact h _ rfl rfl rfl
    · exact canon_abortTimers (h _ rfl rfl rfl)
@[simp] theorem canon_awnSetEn (hs : Canon s) (v) : Canon (awnSetEn v s) := by simp [awnSetEn, hs]
@[simp] theorem canon_opAwnEnableWrite (hs : Canon s) (init v) : Canon (opAwnEnableWrite init v s) := by
  simp [opAwnEnableWrite, hs]
theorem canon_awnFill (hs : Canon s) {d : AwnData} (hd : FMap.wf {} d.timers = true) : Canon (awnFill d s) := by
  refine { hs with bank := hd, otherBank := hd, lanes := fun y hy => ?_ }
  obtain ⟨l, -, rfl⟩ := List.mem_map.1 hy
  exact hd

/-- The initial-value table leaves the timers as they are. -/
theorem initWords_timers (all : Bool) (l : List AwnInit) (d : AwnData) : (initWords all l d).timers = d.timers := by
  induction l generalizing d with
  | nil => rfl
  | cons e t ih =>
    refine (ih _).trans ?_
    split
    · unfold initWord; split <;> rfl
    · rfl

@[simp] theorem canon_awnLoad (hs : Canon s) (p) : Canon (awnLoad p s) := by
  have h : Canon (awnFill (awnInitData p) s) :=
    canon_awnFill hs (by rw [awnInitData, initWords_timers]; rfl)
  refine { h with lanes := fun y hy => ?_ }
  obtain ⟨l, hl, rfl⟩ := List.mem_map.1 hy
  exact h.lanes l hl

theorem moveObjs_wf {α : Type} [DecidableEq α] (old : List AwnObj) (st : FMap α) (d : α) (kind : Bool)
    (new : List AwnObj) (n moved : Nat) {acc : FMap α} (h : FMap.wf d acc = true) :
    FMap.wf d (moveObjs old st d kind new n moved acc).1 = true := by
  induction new generalizing n moved acc with
  | nil => exact h
  | cons o t ih =>
    unfold moveObjs
    split
    · exact ih _ _ h
    split
    · exact ih _ _ (FMap.store_wf _ _ h)
    · exact ih _ _ h

@[simp] theorem canon_awnTransfer (hs : Canon s) (po old) : Canon (awnTransfer po old s) := by
  have fill : ∀ d : AwnData, FMap.wf {} d.timers = true → Canon (awnFill (initWords false (awnProg s).inits d) s) :=
    fun d hd => canon_awnFill hs (by rw [initWords_timers]; exact hd)
  unfold awnTransfer
  extract_lets p init t c e d moved used was u
  have hu : Canon u := fill _ (moveObjs_wf po.timers old.timers {} true p.timers 0 0 (acc := []) rfl)
  exact { hu with }

/-! #### Glume connections (13) -/

@[simp] theorem canon_modConn (c f) : Canon (modConn c f s) ↔ Canon s := by simp [modConn]
@[simp] theorem canon_modStn (k f) : Canon (modStn k f s) ↔ Canon s := by simp [modStn]
@[simp] theorem canon_raiseGlmRate (hs : Canon s) (bit code c) : Canon (raiseGlmRate bit code c s) := by
  simp [raiseGlmRate, hs]
@[simp] theorem canon_stationLost (c) : Canon (stationLost c s) ↔ Canon s := by
  unfold stationLost; (repeat' split) <;> simp
@[simp] theorem canon_connLeave (hs : Canon s) (c dest cause) : Canon (connLeave c dest cause s) := by
  simp [connLeave, hs]
@[simp] theorem canon_transportLost (hs : Canon s) (p) : Canon (transportLost p s) := by
  simp +contextual [transportLost, hs]
@[simp] theorem canon_kernelLost (hs : Canon s) : Canon (kernelLost s) := by simp [kernelLost, hs]
@[simp] theorem canon_kernelRemapped (hs : Canon s) : Canon (kernelRemapped s) := by simp [kernelRemapped, hs]
@[simp] theorem canon_hubLost (hs : Canon s) (port) : Canon (hubLost port s) := by simp [hubLost, hs]
@[simp] theorem canon_canLost (hs : Canon s) (n obj) : Canon (canLost n obj s) := by simp [canLost, hs]
@[simp] theorem canon_glumeAccept (hs : Canon s) (c q r ready words) : Canon (glumeAccept c q r ready words s) := by
  simp [glumeAccept, hs]
@[simp] theorem canon_glumeReject (hs : Canon s) (c) : Canon (glumeReject c s) := by simp [glumeReject, hs]
@[simp] theorem canon_glumeOffer (transport index ms) : Canon (glumeOffer transport index ms s) ↔ Canon s := by
  simp [glumeOffer]
@[simp] theorem canon_glumeWithdraw (transport index ms) : Canon (glumeWithdraw transport index ms s) ↔ Canon s := by
  simp [glumeWithdraw]
@[simp] theorem canon_glumeJudge (hs : Canon s) (transport index b) : Canon (glumeJudge transport index b s) := by
  unfold glumeJudge; split <;> simp [hs]
@[simp] theorem canon_opGlumeMessageReceive (hs : Canon s) (transport index b) :
    Canon (opGlumeMessageReceive transport index b s) := by
  simp [opGlumeMessageReceive, hs]
@[simp] theorem canon_opConnectionTimeout (hs : Canon s) (c) : Canon (opConnectionTimeout c s) := by
  simp [opConnectionTimeout, hs]
@[simp] theorem canon_glumeTimeouts (hs : Canon s) : Canon (glumeTimeouts s) := by
  simp +contextual [glumeTimeouts, hs]
@[simp] theorem canon_connSetEn (hs : Canon s) (c v) : Canon (connSetEn c v s) := by simp [connSetEn, hs]
@[simp] theorem canon_connsFall : Canon (connsFall s) ↔ Canon s := by simp [connsFall]
@[simp] theorem canon_opGlmConnEnableWrite (hs : Canon s) (init c v) : Canon (opGlmConnEnableWrite init c v s) := by
  simp [opGlmConnEnableWrite, hs]
@[simp] theorem canon_glmStart (hs : Canon s) : Canon (glmStart s) := by
  simp +contextual [glmStart, hs]
@[simp] theorem canon_mboxFreeze (hs : Canon s) (c) : Canon (mboxFreeze c s) := by
  simp only [mboxFreeze, canon_modConn]
  exact canon_dmaWrite (canon_dmaWrite (canon_dmaWrite hs ..) ..) ..
@[simp] theorem canon_mboxWords (hs : Canon s) (c) : Canon (mboxWords c s).2 := by simp [mboxWords, hs]

/-! #### The hub and guardian (10) -/

@[simp] theorem canon_modPort (p f) : Canon (modPort p f s) ↔ Canon s := by simp [modPort]
@[simp] theorem canon_hubDid (d) : Canon (hubDid d s) ↔ Canon s := by simp [hubDid]
@[simp] theorem canon_opBeaconSend (hs : Canon s) : Canon (opBeaconSend s) := by simp [opBeaconSend, hs]
@[simp] theorem canon_opHubTxSlot (hs : Canon s) (d) : Canon (opHubTxSlot d s) := by
  simp only [opHubTxSlot]; (repeat' split) <;> simp [hs]
@[simp] theorem canon_hubCommit (b body) : Canon (hubCommit b body s) ↔ Canon s := by simp [hubCommit]
@[simp] theorem canon_raiseHubRate (hs : Canon s) (bit code p desc) : Canon (raiseHubRate bit code p desc s) := by
  simp [raiseHubRate, hs]
@[simp] theorem canon_raiseHub (hs : Canon s) (bit code p) : Canon (raiseHub bit code p s) := by simp [raiseHub, hs]
@[simp] theorem canon_portBlock (hs : Canon s) (p) : Canon (portBlock p s) := by simp [portBlock, hs]
@[simp] theorem canon_hubViolation (hs : Canon s) (bit code p desc count) :
    Canon (hubViolation bit code p desc count s) := by
  simp [hubViolation, hs]
@[simp] theorem canon_rxInside (hs : Canon s) (p d x f) : Canon (rxInside p d x f s) := by
  simp only [rxInside]; (repeat' split) <;> simp [hs]
@[simp] theorem canon_opHubFrameReceive (hs : Canon s) (p f) : Canon (opHubFrameReceive p f s) := by
  unfold opHubFrameReceive; (repeat' split) <;> simp [hs]
@[simp] theorem canon_hubHandOver (hs : Canon s) (p) : Canon (hubHandOver p s) := by
  refine canon_forAll _ _ (fun e t ht => ?_) (by simp [hs])
  split <;> simp [ht]
@[simp] theorem canon_opHubRxWindowClose (hs : Canon s) (d) : Canon (opHubRxWindowClose d s) := by
  unfold opHubRxWindowClose; split <;> simp [hs]
@[simp] theorem canon_hubBoundary : Canon (hubBoundary s) ↔ Canon s := by simp [hubBoundary]
@[simp] theorem canon_hubGrace (within) : Canon (hubGrace within s) ↔ Canon s := by simp [hubGrace]
@[simp] theorem canon_opGuardianGraceEnd : Canon (opGuardianGraceEnd s) ↔ Canon s := by simp [opGuardianGraceEnd]
@[simp] theorem canon_opPortReopen (hs : Canon s) (p) : Canon (opPortReopen p s) := by simp [opPortReopen, hs]
@[simp] theorem canon_portSetEn (hs : Canon s) (p v) : Canon (portSetEn p v s) := by
  simp only [portSetEn]; split
  · exact canon_hubLost (by simp [hs]) p
  · simp [hs]
@[simp] theorem canon_opHubPortEnableWrite (hs : Canon s) (init p v) : Canon (opHubPortEnableWrite init p v s) := by
  simp [opHubPortEnableWrite, hs]
@[simp] theorem canon_hubStart (hs : Canon s) : Canon (hubStart s) := by
  simp +contextual [hubStart, hs]
@[simp] theorem canon_opHubLinkChange (hs : Canon s) (p up) : Canon (opHubLinkChange p up s) := by
  simp [opHubLinkChange, hs]
@[simp] theorem canon_hubHalt (hs : Canon s) (code) : Canon (hubHalt code s) := by simp [hubHalt, hs]

/-! #### The train fabric (11) -/

@[simp] theorem canon_raiseNoAddr (hs : Canon s) (index) : Canon (raiseNoAddr index s) := by simp [raiseNoAddr, hs]
@[simp] theorem canon_buildList (hs : Canon s) : Canon (buildList s) := by
  simp only [buildList]; (repeat' split) <;> simp [hs]
@[simp] theorem canon_dropSession (ses) : Canon (dropSession ses s) ↔ Canon s := by simp [dropSession]
@[simp] theorem canon_dropStream (hs : Canon s) (x code reset) : Canon (dropStream x code reset s) := by
  simp only [dropStream]; (repeat' split) <;> simp [hs]
@[simp] theorem canon_pushMsg (m) : Canon (pushMsg m s) ↔ Canon s := by simp [pushMsg]
@[simp] theorem canon_pushClose (x reason) : Canon (pushClose x reason s) ↔ Canon s := by simp [pushClose]
@[simp] theorem canon_streamsReinaug (hs : Canon s) (send) : Canon (streamsReinaug send s) := by
  simp +contextual [streamsReinaug, hs]
@[simp] theorem canon_mapDrop (hs : Canon s) : Canon (mapDrop s) := by simp [mapDrop, hs]
@[simp] theorem canon_mapTake (hs : Canon s) (num org l) : Canon (mapTake num org l s) := by
  refine canon_kernelRemapped ?_
  have h : ∀ {t}, Canon t → ∀ a b c, Canon (event 0x2537 a b c (streamsReinaug true t)) :=
    fun ht a b c => canon_event (canon_streamsReinaug ht true) ..
  split <;> simp [h, hs]
@[simp] theorem canon_fabHeader (hs : Canon s) (inaug origin far) : Canon (fabHeader inaug origin far s) := by
  simp [fabHeader, hs]
@[simp] theorem canon_fabAdopt : Canon (fabAdopt s) ↔ Canon s := by simp [fabAdopt]
@[simp] theorem canon_fabCommit : Canon (fabCommit s) ↔ Canon s := by simp [fabCommit]
@[simp] theorem canon_fabSent : Canon (fabSent s) ↔ Canon s := by simp [fabSent]
@[simp] theorem canon_loseOrigin : Canon (loseOrigin s) ↔ Canon s := by simp [loseOrigin]
@[simp] theorem canon_opOriginYield : Canon (opOriginYield s) ↔ Canon s := by simp [opOriginYield]
@[simp] theorem canon_yieldEnd (hs : Canon s) : Canon (yieldEnd s) := by simp [yieldEnd, hs]
@[simp] theorem canon_fabBoundary (hs : Canon s) : Canon (fabBoundary s) := by
  unfold fabBoundary; split <;> simp [hs]
@[simp] theorem canon_slotPayload (ch r) : Canon (slotPayload ch r s).2 ↔ Canon s := by
  unfold slotPayload; (repeat' split) <;> simp
@[simp] theorem canon_modStream (x f) : Canon (modStream x f s) ↔ Canon s := by simp [modStream]
@[simp] theorem canon_withMsg (hs : Canon s) (p : List Byte → Bool) (f : State → State) (hf : ∀ t, Canon t → Canon (f t)) :
    Canon (withMsg p f s) := by
  unfold withMsg; split <;> simp [hf, hs]
@[simp] theorem canon_takeOpen (src dst stream) : Canon (takeOpen src dst stream s) ↔ Canon s := by simp [takeOpen]
@[simp] theorem canon_opOpenMsg (hs : Canon s) (src dst stream) : Canon (opOpenMsg src dst stream s) := by
  simp [opOpenMsg, hs]
@[simp] theorem canon_takeData (src dst stream offset ack bytes) :
    Canon (takeData src dst stream offset ack bytes s) ↔ Canon s := by
  unfold takeData; (repeat' split) <;> simp
@[simp] theorem canon_opDataMsg (hs : Canon s) (src dst stream offset ack bytes) :
    Canon (opDataMsg src dst stream offset ack bytes s) := by
  simp [opDataMsg, hs]
@[simp] theorem canon_takeClose (hs : Canon s) (src dst stream reason) : Canon (takeClose src dst stream reason s) := by
  unfold takeClose; (repeat' split) <;> simp [hs]
@[simp] theorem canon_opCloseMsg (hs : Canon s) (src dst stream reason) :
    Canon (opCloseMsg src dst stream reason s) := by
  simp +contextual [opCloseMsg, hs]
@[simp] theorem canon_opRelayConnect (port) : Canon (opRelayConnect port s) ↔ Canon s := by simp [opRelayConnect]
@[simp] theorem canon_opStreamResend (peer stream) : Canon (opStreamResend peer stream s) ↔ Canon s := by
  unfold opStreamResend; (repeat' split) <;> simp
@[simp] theorem canon_opStreamAckTimeout (hs : Canon s) (peer stream) : Canon (opStreamAckTimeout peer stream s) := by
  unfold opStreamAckTimeout; split <;> simp [hs]
@[simp] theorem canon_opStreamIdleTimeout (hs : Canon s) (peer stream) : Canon (opStreamIdleTimeout peer stream s) := by
  unfold opStreamIdleTimeout; split <;> simp [hs]
@[simp] theorem canon_streamPush (gw num b) : Canon (streamPush gw num b s) ↔ Canon s := by
  unfold streamPush; (repeat' split) <;> simp
@[simp] theorem canon_relayData (port num b) : Canon (relayData port num b s) ↔ Canon s := by
  unfold relayData; (repeat' split) <;> simp
@[simp] theorem canon_relayClose (hs : Canon s) (port num) : Canon (relayClose port num s) := by
  unfold relayClose; split <;> simp [hs]

/-! #### The Sheaf image (02) -/

@[simp] theorem canon_setMark (hs : Canon s) (c o) : Canon (setMark c o s) := by simp [setMark, hs]

/-! #### The scheduler (06) -/

@[simp] theorem canon_modTask (i f) : Canon (modTask i f s) ↔ Canon s := by simp [modTask]
@[simp] theorem canon_modSchTri (t f) : Canon (modSchTri t f s) ↔ Canon s := by simp [modSchTri]
@[simp] theorem canon_modDisp (t p f) : Canon (modDisp t p f s) ↔ Canon s := by simp [modDisp]
@[simp] theorem canon_account (hs : Canon s) (t) : Canon (account t s) := by simp [account, hs]
@[simp] theorem canon_regate (t) : Canon (regate t s) ↔ Canon s := by simp [regate]
@[simp] theorem canon_dispatch (hs : Canon s) (t p) : Canon (dispatch t p s) := by simp [dispatch, hs]
@[simp] theorem canon_resched (hs : Canon s) (t) : Canon (resched t s) := by
  simp +contextual [resched, hs]
@[simp] theorem canon_reschedAll (hs : Canon s) : Canon (reschedAll s) := by
  simp +contextual [reschedAll, hs]
@[simp] theorem canon_missFault (hs : Canon s) (task) : Canon (missFault task s) := by simp [missFault, hs]
@[simp] theorem canon_missOf (hs : Canon s) (i) : Canon (missOf i s) := by
  unfold missOf; split <;> simp [hs]
@[simp] theorem canon_missReact (hs : Canon s) (i) : Canon (missReact i s) := by
  simp only [missReact]; (repeat' split) <;> simp [hs]
@[simp] theorem canon_missHalted (hs : Canon s) (t) : Canon (missHalted t s) := by
  simp +contextual [missHalted, hs]
@[simp] theorem canon_skipRelease (t) : Canon (skipRelease t s) ↔ Canon s := by simp [skipRelease]
@[simp] theorem canon_opTaskRelease (hs : Canon s) (i) : Canon (opTaskRelease i s) := by
  unfold opTaskRelease; split <;> simp [hs]
@[simp] theorem canon_opDispatchTake (hs : Canon s) (init t p v) : Canon (opDispatchTake init t p v s) := by
  simp [opDispatchTake, hs]
@[simp] theorem canon_opJobDone (hs : Canon s) (init t p v) : Canon (opJobDone init t p v s) := by
  have h := canon_account hs t
  simp only [opJobDone]; split
  · split
    · refine canon_resched ?_ t
      rw [canon_modTask]
      (repeat' split) <;> simp [h]
    · exact hs
  · exact hs
@[simp] theorem canon_opDeadlineMiss (hs : Canon s) (i) : Canon (opDeadlineMiss i s) := by
  unfold opDeadlineMiss; (repeat' split) <;> simp [hs]
@[simp] theorem canon_opBudgetOverrun (hs : Canon s) (i) : Canon (opBudgetOverrun i s) := by
  simp only [opBudgetOverrun]; (repeat' split) <;> simp [hs]
@[simp] theorem canon_applyLevel (hs : Canon s) (cause) : Canon (applyLevel cause s) := by simp [applyLevel, hs]
@[simp] theorem canon_energySample (hs : Canon s) : Canon (energySample s) := by simp [energySample, hs]
@[simp] theorem canon_opSensorSample (hs : Canon s) (q) : Canon (opSensorSample q s) := by
  unfold opSensorSample
  split
  · exact hs
  · refine canon_applyLevel ?_ 1
    have h : ∀ f : Nat → Int → State → State, (∀ i x t, Canon t → Canon (f i x t)) →
        Canon (forIdx 0 q f { s with sch := { s.sch with temp := q, sampled := true } }) :=
      fun f hf => canon_forIdx 0 q f hf (by simp [hs])
    simp only [canon_mk, canon_eta]
    split
    · refine canon_enterSafe (canon_event ?_ ..) _
      simp only [canon_errSch, canon_mk, canon_eta]
      exact h _ fun i x t ht => by split <;> simp [ht]
    · simp only [canon_mk, canon_eta]
      exact h _ fun i x t ht => by split <;> simp [ht]
@[simp] theorem canon_opShedEnd (hs : Canon s) (cause) : Canon (opShedEnd cause s) := by
  unfold opShedEnd; split <;> simp [hs]

/-! #### Triads: the base (03) -/

@[simp] theorem canon_raiseTriad (hs : Canon s) (bit code cause t window d0 d1) :
    Canon (raiseTriad bit code cause t window d0 d1 s) := by
  simp [raiseTriad, hs]
@[simp] theorem canon_raiseCore (hs : Canon s) (bit code cause core pos t window d0 d1) :
    Canon (raiseCore bit code cause core pos t window d0 d1 s) := by
  simp [raiseCore, hs]
@[simp] theorem canon_startCore (n entry role t p) : Canon (startCore n entry role t p s) ↔ Canon s := by
  simp [startCore]
@[simp] theorem canon_startVoting (hs : Canon s) (t ps) : Canon (startVoting t ps s) := by simp [startVoting, hs]
@[simp] theorem canon_startSplitCore (t a0 p) : Canon (startSplitCore t a0 p s) ↔ Canon s := by simp [startSplitCore]
@[simp] theorem canon_startSplit (hs : Canon s) (t) : Canon (startSplit t s) := by simp [startSplit, hs]
@[simp] theorem canon_claimReserve (t) : Canon (claimReserve t s) ↔ Canon s := by
  unfold claimReserve; (repeat' split) <;> simp
@[simp] theorem canon_joinCore (t p n) : Canon (joinCore t p n s) ↔ Canon s := by simp [joinCore]

/-! #### The supply supervisor, the always-on domain and the quench (07, 08) -/

@[simp] theorem canon_raiseSup (hs : Canon s) (bit code detail value) : Canon (raiseSup bit code detail value s) := by
  simp [raiseSup, hs]
@[simp] theorem canon_episodeNow (code) : Canon (episodeNow code s) ↔ Canon s := by simp [episodeNow]
@[simp] theorem canon_raiseSupEpisode (hs : Canon s) (bit code detail value info) :
    Canon (raiseSupEpisode bit code detail value info s) := by
  simp [raiseSupEpisode, hs]
@[simp] theorem canon_writeQuenchBlock (hs : Canon s) (us) : Canon (writeQuenchBlock us s) := by
  simp [writeQuenchBlock, hs]
@[simp] theorem canon_opQuenchDone (hs : Canon s) (us) : Canon (opQuenchDone us s) := by
  unfold opQuenchDone; split
  · exact canon_dieReset (canon_writeQuenchBlock (canon_lifeFlush (canon_flushQueue hs true)) us) 1 true none
  · exact hs

theorem canon_incrTake (hs : Canon s) (n : Nat) : Canon { s with grn := { s.grn with incr := s.grn.incr.take n } } :=
  { hs with incr := FMap.take_wf n hs.incr }

@[simp] theorem canon_opQuenchGuardExpiry (hs : Canon s) : Canon (opQuenchGuardExpiry s) := by
  unfold opQuenchGuardExpiry
  split
  · extract_lets k s₁ s₂ n g s₃
    have h₂ : Canon s₂ := by
      simp only [s₂]; split
      · exact canon_forAll _ _ (fun k t ht => canon_writeFront ht true) (by simp [s₁, hs])
      · simp [s₁, hs]
    have h₃ : Canon s₃ := canon_incrTake h₂ n
    exact canon_dieReset (canon_lifeFlush (by simp [h₃])) 3 false none
  · exact hs
@[simp] theorem canon_opRailFaultTimeout (hs : Canon s) : Canon (opRailFaultTimeout s) := by
  simp [opRailFaultTimeout, hs]
@[simp] theorem canon_disconnect (hs : Canon s) (high) : Canon (disconnect high s) := by simp [disconnect, hs]
@[simp] theorem canon_inputSampled (hs : Canon s) : Canon (inputSampled s) := by simp [inputSampled, hs]
@[simp] theorem canon_opFluctuationTimeout (hs : Canon s) : Canon (opFluctuationTimeout s) := by
  simp [opFluctuationTimeout, hs]
@[simp] theorem canon_opSurgeTimeout (hs : Canon s) : Canon (opSurgeTimeout s) := by simp [opSurgeTimeout, hs]
@[simp] theorem canon_opInputReconnect : Canon (opInputReconnect s) ↔ Canon s := by simp [opInputReconnect]
@[simp] theorem canon_windowSampled (hs : Canon s) : Canon (windowSampled s) := by simp [windowSampled, hs]
@[simp] theorem canon_lplusSampled (hs : Canon s) : Canon (lplusSampled s) := by simp [lplusSampled, hs]
@[simp] theorem canon_railFault (hs : Canon s) (r) : Canon (railFault r s) := by simp [railFault, hs]
@[simp] theorem canon_railSampled (hs : Canon s) (rails) : Canon (railSampled rails s) := by
  simp +contextual [railSampled, hs]
@[simp] theorem canon_raiseWarn (hs : Canon s) : Canon (raiseWarn s) := by simp [raiseWarn, hs]
@[simp] theorem canon_braceEntry (hs : Canon s) : Canon (braceEntry s) :=
  canon_irqAll (canon_lifeFlush (canon_flushQueue (canon_hoursCopy (by simp [hs])) false)) _
@[simp] theorem canon_braceDip (hs : Canon s) : Canon (braceDip s) := by simp [braceDip, hs]
@[simp] theorem canon_warnOnly (hs : Canon s) : Canon (warnOnly s) :=
  canon_flushQueue (canon_hoursCopyWhole (by simp [hs])) false
@[simp] theorem canon_warnFall (hs : Canon s) : Canon (warnFall s) := by
  unfold warnFall; split <;> simp [hs]
@[simp] theorem canon_warnFallDeep (hs : Canon s) : Canon (warnFallDeep s) := by
  unfold warnFallDeep; split <;> simp [hs]
@[simp] theorem canon_quenchStore (hs : Canon s) (t st) : Canon (quenchStore t st s) := by
  unfold quenchStore; (repeat' split) <;> simp +contextual [hs]
@[simp] theorem canon_quenchRelease (hs : Canon s) : Canon (quenchRelease s) :=
  canon_forAll _ _ (fun t _ hu =>
    canon_forAll _ _ (fun _ _ hv => canon_forAll _ _ (fun st _ hx => canon_quenchStore hx t st) hv) hu) hs
@[simp] theorem canon_resetRequest (hs : Canon s) : Canon (resetRequest s) := by
  unfold resetRequest
  exact canon_haltAll (canon_quenchRelease (by simp [hs]))
@[simp] theorem canon_busSampled (hs : Canon s) (old) : Canon (busSampled old s) := by simp [busSampled, hs]
@[simp] theorem canon_readPins (hs : Canon s) : Canon (readPins s) := by simp [readPins, hs]
@[simp] theorem canon_opSupplySample (hs : Canon s) (vin vbus lplus rails) :
    Canon (opSupplySample vin vbus lplus rails s) := by
  unfold opSupplySample
  split
  · exact hs
  extract_lets s₁ old e sch sup s₂ s₃ s₄
  have h₂ : Canon s₂ := by simp only [s₂, s₁]; split <;> simp [hs]
  split
  · exact canon_dieReset h₂ 2 false none
  have h₃ : Canon s₃ := canon_railSampled (canon_lplusSampled (canon_windowSampled (canon_inputSampled h₂))) rails
  have h₄ : Canon s₄ := canon_busSampled h₃ old
  split
  · exact canon_energySample h₄
  · exact h₄
@[simp] theorem canon_opBraceDwellEnd (hs : Canon s) : Canon (opBraceDwellEnd s) := by simp [opBraceDwellEnd, hs]
@[simp] theorem canon_opPowerOn (hs : Canon s) (coding) : Canon (opPowerOn coding s) := by simp [opPowerOn, hs]
@[simp] theorem canon_opCapacitanceMeasurement (hs : Canon s) (ua us) : Canon (opCapacitanceMeasurement ua us s) := by
  simp [opCapacitanceMeasurement, hs]
@[simp] theorem canon_opSupervisorRelease (hs : Canon s) (oscOk) : Canon (opSupervisorRelease oscOk s) := by
  simp +contextual [opSupervisorRelease, hs]
@[simp] theorem canon_opLogicSupplyLost (hs : Canon s) : Canon (opLogicSupplyLost s) := by simp [opLogicSupplyLost, hs]
@[simp] theorem canon_opLampTestEnd : Canon (opLampTestEnd s) ↔ Canon s := by simp [opLampTestEnd]
@[simp] theorem canon_opCellMeasurement (hs : Canon s) (mv) : Canon (opCellMeasurement mv s) := by
  simp [opCellMeasurement, hs]
@[simp] theorem canon_opAonSnap (_init v) : Canon (opAonSnap _init v s) ↔ Canon s := by simp [opAonSnap]
@[simp] theorem canon_opAonSnapDone : Canon (opAonSnapDone s) ↔ Canon s := by simp [opAonSnapDone]
@[simp] theorem canon_opAonRtcSet (hs : Canon s) (init v) : Canon (opAonRtcSet init v s) := by simp [opAonRtcSet, hs]
@[simp] theorem canon_opErrorEpisodeEnd (e) : Canon (opErrorEpisodeEnd e s) ↔ Canon s := by
  unfold opErrorEpisodeEnd; (repeat' split) <;> simp

/-! #### Thresh (18) -/

@[simp] theorem canon_raiseThr (hs : Canon s) (bit code detail info d0 d1) :
    Canon (raiseThr bit code detail info d0 d1 s) := by
  simp [raiseThr, hs]
@[simp] theorem canon_thrJoin (f o startup) : Canon (thrJoin f o startup s) ↔ Canon s := by simp [thrJoin]
@[simp] theorem canon_zeroUnit (hs : Canon s) (startup u) : Canon (zeroUnit startup u s) := by
  unfold zeroUnit
  split
  · simp [hs]
  split
  · simp [hs]
  split
  · split
    · exact hs
    · exact canon_putLane hs (u - 26) (x := {}) rfl
  · simp [hs]
@[simp] theorem canon_holdLanes : Canon (holdLanes s) ↔ Canon s := by simp [holdLanes]
@[simp] theorem canon_bankRecords (hs : Canon s) (f b) : Canon (bankRecords f b s) := by
  have h := canon_forAll (f.reps.filter (fun e => decide (e.1 = b))) _
    (fun e t ht => canon_flushQueue (canon_raiseThr ht 3 0x2E04 b (thrInfo 3 b (b / 32) 0) (w32 e.2.1) (w32 e.2.2)) false) hs
  unfold bankRecords; split <;> simp [h]
@[simp] theorem canon_unitRecords (hs : Canon s) (f u) : Canon (unitRecords f u s) := by
  have one : ∀ bit code i d0 d1 {t}, Canon t → Canon (flushQueue false (raiseThr bit code u i d0 d1 t)) :=
    fun bit code i d0 d1 t ht => canon_flushQueue (canon_raiseThr ht ..) false
  unfold unitRecords
  extract_lets f s₁ s₂
  have h₁ : Canon s₁ := by simp only [s₁]; split <;> simp [one, f, hs]
  have h₂ : Canon s₂ := by simp only [s₂]; split <;> simp [one, f, h₁]
  (repeat' split) <;> simp [one, f, h₂]
@[simp] theorem canon_threshRecords (hs : Canon s) (f o startup) : Canon (threshRecords f o startup s) :=
  canon_flushQueue (canon_event (canon_forAll _ _ (fun u _ ht => canon_unitRecords ht f u)
    (canon_forAll _ _ (fun b _ ht => canon_bankRecords ht f b) hs)) ..) false
@[simp] theorem canon_writeVerdict (hs : Canon s) (failed startup) : Canon (writeVerdict failed startup s) := by
  simp [writeVerdict, hs]
@[simp] theorem canon_opVerdictApply (hs : Canon s) : Canon (opVerdictApply s) := by
  have h := canon_mramProbe (canon_mramProbe hs (verdictOff 0) 0x4000) (verdictOff 1) 0x4000
  unfold opVerdictApply
  split
  · extract_lets s₁ slot b cause thr u s₂ core mod s₃
    have h₂ : Canon s₂ := by
      have h₁ : Canon s₁ := h
      clear_value s₁ b
      unfold s₂; split <;> simp [thr, u, h₁]
    have h₃ : Canon s₃ := by simpa [s₃, mod] using h₂
    split
    · exact h₃
    · exact canon_raiseThr h₃ ..
  · exact hs
@[simp] theorem canon_zeroise (hs : Canon s) : Canon (zeroise s) := by simp [zeroise, hs]
@[simp] theorem canon_threshVerdict (hs : Canon s) (o startup) : Canon (threshVerdict o startup s) := by
  have h := canon_forAll (testedUnits s) _ (fun u t ht => canon_zeroUnit ht startup u) hs
  exact canon_lifeFlush (canon_writeVerdict (canon_threshRecords (by simp [h]) ..) ..)
@[simp] theorem canon_opStartupBist (hs : Canon s) (o) : Canon (opStartupBist o s) := by
  have h := canon_threshVerdict (canon_zeroise hs) o true
  simp only [opStartupBist]; (repeat' split) <;> simp [h, hs]
@[simp] theorem canon_opThreshRun (hs : Canon s) (o) : Canon (opThreshRun o s) := by simp [opThreshRun, hs]
@[simp] theorem canon_opThreshRunDone (hs : Canon s) : Canon (opThreshRunDone s) := by
  unfold opThreshRunDone; split <;> simp [hs]

/-! #### BOOT (02, 20) -/

@[simp] theorem canon_rejectCopy (hs : Canon s) (c k) : Canon (rejectCopy c k s) := by simp [rejectCopy, hs]
@[simp] theorem canon_enterRecovery (hs : Canon s) : Canon (enterRecovery s) := by simp [enterRecovery, hs]
@[simp] theorem canon_opBootSecuritySelftest (hs : Canon s) (fail) : Canon (opBootSecuritySelftest fail s) := by
  unfold opBootSecuritySelftest; (repeat' split) <;> simp +contextual [hs]
@[simp] theorem canon_opDramClear (hs : Canon s) : Canon (opDramClear s) := by
  unfold opDramClear; split
  · exact { hs with dram := rfl }
  · exact hs
@[simp] theorem canon_dropFailed (hs : Canon s) (c) : Canon (dropFailed c s) := by simp [dropFailed, hs]
@[simp] theorem canon_opImageSelect (hs : Canon s) : Canon (opImageSelect s) := by
  have h := canon_dropFailed (canon_dropFailed hs false) true
  simp only [opImageSelect]; (repeat' split) <;> simp [h, hs]
@[simp] theorem canon_acceptCopy (hs : Canon s) (c) : Canon (acceptCopy c s) := by simp [acceptCopy, hs]
@[simp] theorem canon_opImageCheck (hs : Canon s) (c) : Canon (opImageCheck c s) := by
  unfold opImageCheck
  split
  · split
    · extract_lets k s₁ mod s₂
      have h₁ : Canon s₁ := by simp only [s₁]; split <;> simp [hs]
      have h₂ : Canon s₂ := canon_rejectCopy (by simpa using h₁) c k
      (repeat' split) <;> simp [h₂, hs]
    · exact hs
  · exact hs
@[simp] theorem canon_opCounterRaise (hs : Canon s) : Canon (opCounterRaise s) := by
  unfold opCounterRaise; split <;> simp [hs]
@[simp] theorem canon_fillPosition (t p) : Canon (fillPosition t p s) ↔ Canon s := by
  unfold fillPosition; (repeat' split) <;> simp
@[simp] theorem canon_assignRoles (hs : Canon s) : Canon (assignRoles s) := by
  simp +contextual [assignRoles, hs]
@[simp] theorem canon_assignTriads (hs : Canon s) (b) : Canon (assignTriads b s) := by
  unfold assignTriads
  exact canon_assignRoles (canon_forAll _ _ (fun t u hu => canon_forAll _ _ (fun p v hv => (canon_fillPosition ..).2 hv) hu)
    (by simp [hs]))
@[simp] theorem canon_lkPutAll (hs : Canon s) (l) : Canon (lkPutAll l s) :=
  canon_forAll l _ (fun e _ ht => { ht with lk := FMap.store_wf e.1 e.2 ht.lk }) hs
@[simp] theorem canon_clearPart (hs : Canon s) (x) : Canon (clearPart x s) := by
  unfold clearPart
  split
  · exact hs
  split
  · exact { hs with mram := FMap.filter_wf _ hs.mram }
  · exact { hs with dram := FMap.filter_wf _ hs.dram }
@[simp] theorem canon_loadCoreImage (hs : Canon s) (p i) : Canon (loadCoreImage p i s) := by
  unfold loadCoreImage; split
  · exact hs
  · exact canon_dramPut hs _ _
@[simp] theorem canon_hoursRestore (hs : Canon s) : Canon (hoursRestore s) := by
  have h := canon_probeSlots hs 0
  simp only [hoursRestore]; (repeat' split) <;> simp [h]
@[simp] theorem canon_loadQuench (hs : Canon s) : Canon (loadQuench s) := by simp [loadQuench, hs]
@[simp] theorem canon_bootRegisters (c) : Canon (bootRegisters c s) ↔ Canon s := by simp [bootRegisters]
@[simp] theorem canon_loadSections (hs : Canon s) (h p) : Canon (loadSections h p s) := by
  simp only [loadSections]; (repeat' split) <;> simp [hs]
@[simp] theorem canon_opLoadAndLock (hs : Canon s) : Canon (opLoadAndLock s) := by
  unfold opLoadAndLock
  split
  · exact hs
  split
  · split
    · exact hs
    next p _ =>
      have h₁ := canon_lkPutAll (canon_assignTriads hs (pay p 1 0)) fixedRegions
      have h₂ := canon_forAll (parseParts (pay p 2 0)) _ (fun x t ht => canon_clearPart ht x) h₁
      have h₃ := canon_forAll (List.range 24) _ (fun i t ht => canon_loadCoreImage ht p i) h₂
      refine canon_loadQuench (canon_hoursRestore ?_)
      simp [h₃]
  · exact hs
@[simp] theorem canon_opProtLock (init v) : Canon (opProtLock init v s) ↔ Canon s := by simp [opProtLock]

/-! #### CAN (15) -/

@[simp] theorem canon_modCan (n f) : Canon (modCan n f s) ↔ Canon s := by simp [modCan]
@[simp] theorem canon_modCanObj (n k f) : Canon (modCanObj n k f s) ↔ Canon s := by simp [modCanObj]
@[simp] theorem canon_raiseCan (hs : Canon s) (n bit code d0 d1) : Canon (raiseCan n bit code d0 d1 s) := by
  simp [raiseCan, hs]
@[simp] theorem canon_raiseCanRate (hs : Canon s) (n bit code obj kind d1) :
    Canon (raiseCanRate n bit code obj kind d1 s) := by
  simp [raiseCanRate, hs]
@[simp] theorem canon_raiseRefLost (hs : Canon s) (n) : Canon (raiseRefLost n s) := by simp [raiseRefLost, hs]
@[simp] theorem canon_canMayStart (n) : Canon (canMayStart n s) ↔ Canon s := by
  unfold canMayStart; (repeat' split) <;> simp
@[simp] theorem canon_itemEnd (n k outcome) : Canon (itemEnd n k outcome s) ↔ Canon s := by simp [itemEnd]
@[simp] theorem canon_refAbort (hs : Canon s) (n) : Canon (refAbort n s) := by
  unfold refAbort; split <;> simp [hs]
@[simp] theorem canon_canAbortAll (hs : Canon s) (n outcome) : Canon (canAbortAll n outcome s) := by
  simp [canAbortAll, hs]
@[simp] theorem canon_canRequest (n k) : Canon (canRequest n k s) ↔ Canon s := by simp [canRequest]
@[simp] theorem canon_opTxReq (init n k) : Canon (opTxReq init n k s) ↔ Canon s := by simp [opTxReq]
@[simp] theorem canon_canDataWrite (init n k o bs) : Canon (canDataWrite init n k o bs s) ↔ Canon s := by
  simp [canDataWrite]
@[simp] theorem canon_canCommit (n k bs) : Canon (canCommit n k bs s) ↔ Canon s := by simp [canCommit]
@[simp] theorem canon_canBusOff (hs : Canon s) (n) : Canon (canBusOff n s) :=
  canon_canLost (canon_canAbortAll (canon_raiseCan (by simp [hs]) ..) ..) ..
@[simp] theorem canon_canLeave (hs : Canon s) (n outcome) : Canon (canLeave n outcome s) := by simp [canLeave, hs]
@[simp] theorem canon_canRejoin (n) : Canon (canRejoin n s) ↔ Canon s := by simp [canRejoin]
@[simp] theorem canon_canTdc (hs : Canon s) (n d) : Canon (canTdc n d s) := by simp [canTdc, hs]
@[simp] theorem canon_canLoop (hs : Canon s) (n k loop) : Canon (canLoop n k loop s) := by
  unfold canLoop; split <;> simp [hs]
@[simp] theorem canon_canSent (hs : Canon s) (n k sof loop) : Canon (canSent n k sof loop s) := by simp [canSent, hs]
@[simp] theorem canon_canFailed (hs : Canon s) (n k error) : Canon (canFailed n k error s) := by simp [canFailed, hs]
@[simp] theorem canon_canCounted (hs : Canon s) (n tec rec) : Canon (canCounted n tec rec s) := by simp [canCounted, hs]
@[simp] theorem canon_opCanTxAttemptEnd (hs : Canon s) (n e) : Canon (opCanTxAttemptEnd n e s) := by
  simp only [opCanTxAttemptEnd]
  split
  · exact hs
  split
  · exact hs
  split
  · exact canon_canSent hs ..
  · exact canon_canFailed hs ..
  · exact canon_canCounted (canon_canFailed (canon_raiseCanRate (canon_canLoop hs ..) ..) ..) ..
@[simp] theorem canon_opCanSendDeadline (hs : Canon s) (n) : Canon (opCanSendDeadline n s) := by
  have h := (canon_canMayStart n).2 hs
  have hf : Canon (forAll (canPending (canMayStart n s) n) (fun k t =>
      if (t.canObj n k).since = cycleMark s then t
      else if (t.can n).onBus = some k then modCanObj n k (fun (o : CanObj) => { o with last := true }) t
      else raiseCanRate n 4 0x2A05 k 0 0 (itemEnd n k 2 t)) (canMayStart n s)) :=
    canon_forAll _ _ (fun k t ht => by (repeat' split) <;> simp [ht]) h
  unfold opCanSendDeadline
  extract_lets now s₁ s₂
  have h₂ : Canon s₂ := hf
  clear_value s₂
  (repeat' split) <;> simp [h₂]
@[simp] theorem canon_objStore (hs : Canon s) (n k f) : Canon (objStore n k f s) := by simp [objStore, hs]
@[simp] theorem canon_refReceived (n f) : Canon (refReceived n f s) ↔ Canon s := by simp [refReceived]
@[simp] theorem canon_canReceived (hs : Canon s) (n f) : Canon (canReceived n f s) := by
  simp only [canReceived]; (repeat' split) <;> simp [hs]
@[simp] theorem canon_opCanFrameReceive (hs : Canon s) (n r) : Canon (opCanFrameReceive n r s) := by
  unfold opCanFrameReceive; (repeat' split) <;> simp [hs]
@[simp] theorem canon_objStatTake (n k) : Canon (objStatTake n k s) ↔ Canon s := by simp [objStatTake]
@[simp] theorem canon_opObjStatRead (init n k) : Canon (opObjStatRead init n k s) ↔ Canon s := by simp [opObjStatRead]
@[simp] theorem canon_opCanEnableWrite (hs : Canon s) (n v) : Canon (opCanEnableWrite n v s) := by
  simp [opCanEnableWrite, hs]
@[simp] theorem canon_canDrainDone (n) : Canon (canDrainDone n s) ↔ Canon s := by simp [canDrainDone]
@[simp] theorem canon_opCanObjectEnableWrite (hs : Canon s) (n k v) : Canon (opCanObjectEnableWrite n k v s) := by
  simp [opCanObjectEnableWrite, hs]
@[simp] theorem canon_objDrainDone (n k) : Canon (objDrainDone n k s) ↔ Canon s := by simp [objDrainDone]
@[simp] theorem canon_opBusOffHoldEnd (n) : Canon (opBusOffHoldEnd n s) ↔ Canon s := by simp [opBusOffHoldEnd]
@[simp] theorem canon_opRecover (n) : Canon (opRecover n s) ↔ Canon s := by simp [opRecover]
@[simp] theorem canon_opCanRecoveryDone (n) : Canon (opCanRecoveryDone n s) ↔ Canon s := by simp [opCanRecoveryDone]
@[simp] theorem canon_opCanBusIntegrated (n) : Canon (opCanBusIntegrated n s) ↔ Canon s := by simp [opCanBusIntegrated]
@[simp] theorem canon_opReferenceSend (n) : Canon (opReferenceSend n s) ↔ Canon s := by simp [opReferenceSend]
@[simp] theorem canon_opReferenceLost (hs : Canon s) (n) : Canon (opReferenceLost n s) := by simp [opReferenceLost, hs]
@[simp] theorem canon_canBoundary (n) : Canon (canBoundary n s) ↔ Canon s := by simp [canBoundary]
@[simp] theorem canon_canStart (hs : Canon s) (n) : Canon (canStart n s) := by
  simp +contextual [canStart, hs]

/-! #### The pair (12) -/

@[simp] theorem canon_raisePair (hs : Canon s) (bit code hub d0 d1) : Canon (raisePair bit code hub d0 d1 s) := by
  simp [raisePair, hs]
@[simp] theorem canon_setReign (hs : Canon s) (r) : Canon (setReign r s) := by simp [setReign, hs]
@[simp] theorem canon_reignSeen (hs : Canon s) (r) : Canon (reignSeen r s) := by simp [reignSeen, hs]
@[simp] theorem canon_partRead (hs : Canon s) (b) : Canon (partRead b s).2 := by simp [partRead, hs]
@[simp] theorem canon_opPairTxSlot (hs : Canon s) (buf) : Canon (opPairTxSlot buf s) := by
  unfold opPairTxSlot; split <;> simp [hs]
@[simp] theorem canon_shadowTry : Canon (shadowTry s) ↔ Canon s := by
  unfold shadowTry; (repeat' split) <;> simp
@[simp] theorem canon_pairDropped : Canon (pairDropped s) ↔ Canon s := by simp [pairDropped]
@[simp] theorem canon_opShadowFrameReceive (rx b) : Canon (opShadowFrameReceive rx b s) ↔ Canon s := by
  simp [opShadowFrameReceive]
@[simp] theorem canon_startDraw : Canon (startDraw s) ↔ Canon s := by simp [startDraw]
@[simp] theorem canon_settleRole (hs : Canon s) (r) : Canon (settleRole r s) := by simp [settleRole, hs]
@[simp] theorem canon_pairFence (hs : Canon s) (role partner hub) : Canon (pairFence role partner hub s) := by
  simp [pairFence, hs]
@[simp] theorem canon_fenceCheck (hs : Canon s) (r hub) : Canon (fenceCheck r hub s) := by simp [fenceCheck, hs]
@[simp] theorem canon_reportActive (hs : Canon s) (b) : Canon (reportActive b s) := by simp [reportActive, hs]
@[simp] theorem canon_reportStandby (b) : Canon (reportStandby b s) ↔ Canon s := by simp [reportStandby]
@[simp] theorem canon_reportCandidate (own b) : Canon (reportCandidate own b s) ↔ Canon s := by simp [reportCandidate]
@[simp] theorem canon_wrongPartner (hs : Canon s) (b) : Canon (wrongPartner b s) := by simp [wrongPartner, hs]
@[simp] theorem canon_reportTaken (hs : Canon s) (b) : Canon (reportTaken b s) := by
  simp only [reportTaken]; (repeat' split) <;> simp [hs]
@[simp] theorem canon_opPairReportReceive (hs : Canon s) (rx b) : Canon (opPairReportReceive rx b s) := by
  simp [opPairReportReceive, hs]
@[simp] theorem canon_pairKernel (hs : Canon s) (hub role reign) : Canon (pairKernel hub role reign s) := by
  simp [pairKernel, hs]
@[simp] theorem canon_opPilInChange (level) : Canon (opPilInChange level s) ↔ Canon s := by simp [opPilInChange]
@[simp] theorem canon_opCandidateTimeout (hs : Canon s) : Canon (opCandidateTimeout s) := by
  simp [opCandidateTimeout, hs]
@[simp] theorem canon_opCandidateDrawEnd (hs : Canon s) : Canon (opCandidateDrawEnd s) := by
  simp [opCandidateDrawEnd, hs]
@[simp] theorem canon_loadShadow (hs : Canon s) (x) : Canon (loadShadow x s) := by
  have fill : Canon (awnFill x.data s) := canon_awnFill hs (FMap.storeList_wf _ _ rfl)
  simp only [loadShadow]
  refine canon_forAll _ _ (fun e t ht => canon_dmaWrite ht _ _ _) ?_
  (repeat' split) <;> simp [hs, fill]
@[simp] theorem canon_forceClear (hs : Canon s) : Canon (forceClear s) := by
  simp +contextual [forceClear, hs]
@[simp] theorem canon_exchFail (hs : Canon s) (why) : Canon (exchFail why s) := by simp [exchFail, hs]
@[simp] theorem canon_pairTakeover (hs : Canon s) (cause b) : Canon (pairTakeover cause b s) := by
  have h := canon_setReign hs (Nat.max s.pair.reign s.pair.partnerReign + 1)
  unfold pairTakeover
  extract_lets r s₁ age s₂ s₃ s₄ pair
  have h₂ : Canon s₂ := by simp only [s₂]; split <;> simp [s₁, r, h]
  have h₃ : Canon s₃ := by simp only [s₃]; (repeat' split) <;> simp [h₂]
  have h₄ : Canon s₄ := by simp only [s₄]; split <;> simp [h₃]
  clear_value s₄
  exact canon_event (by simpa using h₄) ..
@[simp] theorem canon_switchDone (hs : Canon s) (b) : Canon (switchDone b s) := by
  unfold switchDone
  extract_lets exch s₁ pair s₂ cyc awn
  have h₂ : Canon s₂ := canon_event (by simpa using canon_pairTakeover hs 3 b) ..
  clear_value s₂
  split
  · exact canon_forceClear (by simpa [cyc, awn] using h₂)
  · exact h₂
@[simp] theorem canon_switchRefused (hs : Canon s) (res) : Canon (switchRefused res s) := by simp [switchRefused, hs]
@[simp] theorem canon_switchDefer (hs : Canon s) (b) : Canon (switchDefer b s) := by simp [switchDefer, hs]
@[simp] theorem canon_opPairSwitch (hs : Canon s) (init v) : Canon (opPairSwitch init v s) := by simp [opPairSwitch, hs]
@[simp] theorem canon_switchOvertaken (hs : Canon s) : Canon (switchOvertaken s) := by simp [switchOvertaken, hs]
@[simp] theorem canon_standbyBoundary (hs : Canon s) (back b) : Canon (standbyBoundary back b s) := by
  simp [standbyBoundary, hs]
@[simp] theorem canon_activeBoundary (hs : Canon s) (dual b) : Canon (activeBoundary dual b s) := by
  simp [activeBoundary, hs]
@[simp] theorem canon_candidateBoundary (hs : Canon s) : Canon (candidateBoundary s) := by
  unfold candidateBoundary; split <;> simp [hs]
@[simp] theorem canon_pairFaults (hs : Canon s) : Canon (pairFaults s) := by simp [pairFaults, hs]
@[simp] theorem canon_pairBoundary (hs : Canon s) (b) : Canon (pairBoundary b s) := by
  simp only [pairBoundary]; (repeat' split) <;> simp [hs]
@[simp] theorem canon_opPairLinkLost (hs : Canon s) : Canon (opPairLinkLost s) := by simp [opPairLinkLost, hs]
@[simp] theorem canon_pairPublished : Canon (pairPublished s) ↔ Canon s := by simp [pairPublished]
@[simp] theorem canon_checkCount (hs : Canon s) (ok) : Canon (checkCount ok s) := by simp [checkCount, hs]
@[simp] theorem canon_opCheckScan (hs : Canon s) : Canon (opCheckScan s) := by
  unfold opCheckScan; split <;> simp [hs]
@[simp] theorem canon_pairStart (hs : Canon s) : Canon (pairStart s) := by
  have h := canon_mramProbe (canon_mramProbe hs 0x100 64) 0x140 64
  simp only [pairStart]; split
  · exact hs
  · simp only [canon_mk, canon_eta]; split <;> simp [h]

/-! #### The Vyfabin cycle (09, 10) -/

@[simp] theorem canon_modCh (ch f) : Canon (modCh ch f s) ↔ Canon s := by simp [modCh]
@[simp] theorem canon_modChs (f) : Canon (modChs f s) ↔ Canon s := by simp [modChs]
@[simp] theorem canon_raiseVyf (hs : Canon s) (bit code detail port d0 d1) :
    Canon (raiseVyf bit code detail port d0 d1 s) := by
  simp [raiseVyf, hs]
@[simp] theorem canon_nextBoundary : Canon (nextBoundary s) ↔ Canon s := by
  unfold nextBoundary; (repeat' split) <;> simp
@[simp] theorem canon_pendFollow : Canon (pendFollow s) ↔ Canon s := by
  unfold pendFollow; (repeat' split) <;> simp

theorem lanes_mapv_wf (f : AwnTimer → AwnTimer) {ls : List AwnLane}
    (h : ∀ l ∈ ls, FMap.wf ({} : AwnTimer) l.d.timers = true) :
    ∀ l ∈ ls.map (fun (l : AwnLane) => { l with d := { l.d with timers := FMap.mapv l.d.timers {} f } }),
      FMap.wf ({} : AwnTimer) l.d.timers = true := by
  intro l hl
  obtain ⟨k, hk, rfl⟩ := List.mem_map.1 hl
  exact FMap.mapv_wf f (h k hk)

@[simp] theorem canon_timeStep (hs : Canon s) (d) : Canon (timeStep d s) := by
  unfold timeStep
  extract_lets move lanes w
  have hl : ∀ y ∈ lanes, FMap.wf ({} : AwnTimer) y.d.timers = true := by
    have moved := lanes_mapv_wf move hs.lanes
    unfold lanes
    split
    iterate 3 exact moved
    exact hs.lanes
  rw [canon_hubGrace, canon_modChs]
  exact { hs with lanes := hl }
@[simp] theorem canon_listen (extra) : Canon (listen extra s) ↔ Canon s := by simp [listen]
@[simp] theorem canon_integrate (id cyc) : Canon (integrate id cyc s) ↔ Canon s := by simp [integrate]
@[simp] theorem canon_kernelsClose : Canon (kernelsClose s) ↔ Canon s := by simp [kernelsClose]
@[simp] theorem canon_leaveSynced (hs : Canon s) (f : State → State) (hf : ∀ t, Canon t → Canon (f t)) : Canon (leaveSynced f s) := by
  simp [leaveSynced, hf, hs]
@[simp] theorem canon_vyfTie (hs : Canon s) (id) : Canon (vyfTie id s) := by simp [vyfTie, hs]
@[simp] theorem canon_putKernel (ch tx b) : Canon (putKernel ch tx b s).2 ↔ Canon s := by simp [putKernel]
@[simp] theorem canon_wiringCheck (hs : Canon s) : Canon (wiringCheck s) := by
  unfold wiringCheck; (repeat' split) <;> simp [hs]
@[simp] theorem canon_putClaim (hs : Canon s) (ch b) : Canon (putClaim ch b s).2 := by
  simp only [putClaim]; (repeat' split) <;> simp [hs]
@[simp] theorem canon_putAper (hs : Canon s) (ch tx as b) : Canon (putAper ch tx as b s).2 := by
  induction as generalizing b s with
  | nil => exact hs
  | cons a t ih =>
    unfold putAper; dsimp only
    split
    · exact ih (by simp [hs]) _
    · exact ih hs b
@[simp] theorem canon_putSlots (hs : Canon s) (ch kind tx b) : Canon (putSlots ch kind tx b s).2 := by
  simp [putSlots, hs]
@[simp] theorem canon_earSendCh (hs : Canon s) (ch) : Canon (earSendCh ch s) := by simp [earSendCh, hs]
@[simp] theorem canon_opEarFrameSend (hs : Canon s) : Canon (opEarFrameSend s) := by simp [opEarFrameSend, hs]
@[simp] theorem canon_earOut (port fcsOk b) : Canon (earOut port fcsOk b s) ↔ Canon s := by simp [earOut]
@[simp] theorem canon_earWrite (hs : Canon s) (ch p q fcsOk b) : Canon (earWrite ch p q fcsOk b s) := by
  simp [earWrite, hs]
@[simp] theorem canon_opEarFrameForward (hs : Canon s) (port b fcsOk) : Canon (opEarFrameForward port b fcsOk s) := by
  simp [opEarFrameForward, hs]
@[simp] theorem canon_roundCheck (hs : Canon s) (port loop) : Canon (roundCheck port loop s) := by simp [roundCheck, hs]
@[simp] theorem canon_measureLoop (hs : Canon s) (port rx) : Canon (measureLoop port rx s) := by
  simp only [measureLoop]; (repeat' split) <;> simp [hs]
@[simp] theorem canon_mapCheck (hs : Canon s) (addr hub) : Canon (mapCheck addr hub s) := by simp [mapCheck, hs]
@[simp] theorem canon_kernelOffer (hs : Canon s) (k b) : Canon (kernelOffer k b s) := by simp [kernelOffer, hs]
@[simp] theorem canon_takeKernel (hs : Canon s) (k ch rx b) : Canon (takeKernel k ch rx b s) := by
  simp only [takeKernel]; (repeat' split) <;> simp [hs]
@[simp] theorem canon_kcrcFail (hs : Canon s) (port addr) : Canon (kcrcFail port addr s) := by simp [kcrcFail, hs]
@[simp] theorem canon_readKernel (hs : Canon s) (port rx h b k) : Canon (readKernel port rx h b k s) := by
  simp [readKernel, hs]
@[simp] theorem canon_readClaims (hs : Canon s) (port rx h b) : Canon (readClaims port rx h b s) := by
  refine canon_forAll _ _ (fun j t ht => ?_) hs
  simp only; (repeat' split) <;> simp [ht]
@[simp] theorem canon_readAper (hs : Canon s) (port rx h b a) : Canon (readAper port rx h b a s) := by
  simp only [readAper]; (repeat' split) <;> simp [hs]
@[simp] theorem canon_readSlots (hs : Canon s) (port rx h b) : Canon (readSlots port rx h b s) :=
  canon_forAll _ _ (fun a _ ht => canon_readAper ht port rx h b a)
    (canon_readClaims (canon_forAll _ _ (fun k _ ht => canon_readKernel ht port rx h b k) hs) port rx h b)
@[simp] theorem canon_noteHeader (hs : Canon s) (port h) : Canon (noteHeader port h s) := by simp [noteHeader, hs]
@[simp] theorem canon_startIntegrate (hs : Canon s) (port rx h b) : Canon (startIntegrate port rx h b s) := by
  simp [startIntegrate, hs]
@[simp] theorem canon_takeHeader (hs : Canon s) (port rx h) : Canon (takeHeader port rx h s) := by simp [takeHeader, hs]
@[simp] theorem canon_setTime (hs : Canon s) (port rx h) : Canon (setTime port rx h s) := by simp [setTime, hs]
@[simp] theorem canon_headerIntegrating (hs : Canon s) (port rx h b) : Canon (headerIntegrating port rx h b s) := by
  have ht := canon_takeHeader hs port rx h
  simp only [headerIntegrating]
  split
  · simp [hs]
  split
  · exact hs
  · refine canon_readSlots ?_ port rx h b
    (repeat' split) <;> simp [ht]
@[simp] theorem canon_headerCold (hs : Canon s) (port rx h b) : Canon (headerCold port rx h b s) := by
  simp [headerCold, hs]
@[simp] theorem canon_headerSynced (hs : Canon s) (port rx h b) : Canon (headerSynced port rx h b s) := by
  simp +contextual [headerSynced, hs]
@[simp] theorem canon_schedMismatch (hs : Canon s) (sched) : Canon (schedMismatch sched s) := by
  simp [schedMismatch, hs]
@[simp] theorem canon_readHeader (hs : Canon s) (port rx b) : Canon (readHeader port rx b s) := by
  unfold readHeader; split <;> simp [hs]
@[simp] theorem canon_clockSync : Canon (clockSync s).2 ↔ Canon s := by simp [clockSync]
@[simp] theorem canon_clockOut (hs : Canon s) : Canon (clockOut s) := by simp [clockOut, hs]
@[simp] theorem canon_modeRefused (hs : Canon s) (res) : Canon (modeRefused res s) := by simp [modeRefused, hs]
@[simp] theorem canon_requestJudged (hs : Canon s) : Canon (requestJudged s) := by simp [requestJudged, hs]
@[simp] theorem canon_announce : Canon (announce s) ↔ Canon s := by
  unfold announce; (repeat' split) <;> simp
@[simp] theorem canon_endOfPass (hs : Canon s) : Canon (endOfPass s) := by simp [endOfPass, hs]
@[simp] theorem canon_opEarFrameReceive (hs : Canon s) (port rx endPass b) :
    Canon (opEarFrameReceive port rx endPass b s) := by
  simp [opEarFrameReceive, hs]
@[simp] theorem canon_opVyfModeReq (hs : Canon s) (init v) : Canon (opVyfModeReq init v s) := by simp [opVyfModeReq, hs]
@[simp] theorem canon_opModeRequestTimeout (hs : Canon s) : Canon (opModeRequestTimeout s) := by
  simp [opModeRequestTimeout, hs]
@[simp] theorem canon_opBackboneLinkChange (hs : Canon s) (port up) : Canon (opBackboneLinkChange port up s) := by
  simp [opBackboneLinkChange, hs]
@[simp] theorem canon_coldStart (hs : Canon s) : Canon (coldStart s) := by simp [coldStart, hs]
@[simp] theorem canon_opListenTimeout (hs : Canon s) : Canon (opListenTimeout s) := by simp [opListenTimeout, hs]
@[simp] theorem canon_opOriginTakeover (hs : Canon s) : Canon (opOriginTakeover s) := by simp [opOriginTakeover, hs]
@[simp] theorem canon_opSyncLost (hs : Canon s) : Canon (opSyncLost s) := by simp [opSyncLost, hs]
@[simp] theorem canon_coldBoundary (hs : Canon s) : Canon (coldBoundary s) := by simp [coldBoundary, hs]
@[simp] theorem canon_modeSwitch (hs : Canon s) : Canon (modeSwitch s) := by simp [modeSwitch, hs]
@[simp] theorem canon_missedCount : Canon (missedCount s) ↔ Canon s := by simp [missedCount]
@[simp] theorem canon_leaveNetwork : Canon (leaveNetwork s) ↔ Canon s := by simp [leaveNetwork]
@[simp] theorem canon_vyfEnd (hs : Canon s) : Canon (vyfEnd s) := by simp [vyfEnd, hs]
@[simp] theorem canon_vyfStart : Canon (vyfStart s) ↔ Canon s := by simp [vyfStart]

/-! #### The train cycle (05) -/

@[simp] theorem canon_raiseCyc (hs : Canon s) (bit code stn detail d0 d1) :
    Canon (raiseCyc bit code stn detail d0 d1 s) := by
  simp [raiseCyc, hs]
@[simp] theorem canon_cycWrite (hs : Canon s) (addr b) : Canon (cycWrite addr b s) := by simp [cycWrite, hs]
@[simp] theorem canon_modeRequest (init m) : Canon (modeRequest init m s) ↔ Canon s := by simp [modeRequest]
@[simp] theorem canon_opModeReqRun (init) : Canon (opModeReqRun init s) ↔ Canon s := by simp [opModeReqRun]
@[simp] theorem canon_opModeReqStop (init) : Canon (opModeReqStop init s) ↔ Canon s := by simp [opModeReqStop]
@[simp] theorem canon_opModeReqHold (init) : Canon (opModeReqHold init s) ↔ Canon s := by simp [opModeReqHold]
@[simp] theorem canon_firstRun : Canon (firstRun s) ↔ Canon s := by
  unfold firstRun; (repeat' split) <;> simp
@[simp] theorem canon_modeChange (hs : Canon s) (m) : Canon (modeChange m s).2 := by simp [modeChange, hs]
@[simp] theorem canon_modeAtBoundary (hs : Canon s) : Canon (modeAtBoundary s) := by
  unfold modeAtBoundary; (repeat' split) <;> simp [hs]
@[simp] theorem canon_awnFollow (hs : Canon s) : Canon (awnFollow s) := by simp [awnFollow, hs]
@[simp] theorem canon_followPartner : Canon (followPartner s) ↔ Canon s := by
  unfold followPartner; (repeat' split) <;> simp
@[simp] theorem canon_autorun : Canon (autorun s) ↔ Canon s := by simp [autorun]
@[simp] theorem canon_stnStartUp (k) : Canon (stnStartUp k s) ↔ Canon s := by simp [stnStartUp]
@[simp] theorem canon_stnTake (hs : Canon s) (k words) : Canon (stnTake k words s) := by simp [stnTake, hs]
@[simp] theorem canon_stnAge (hs : Canon s) (k lost) : Canon (stnAge k lost s) := by simp [stnAge, hs]
@[simp] theorem canon_stnFreeze (hs : Canon s) (k) : Canon (stnFreeze k s) := by simp [stnFreeze, hs]
@[simp] theorem canon_freeze (hs : Canon s) : Canon (freeze s) :=
  canon_forAll _ _ (fun c t ht => canon_mboxFreeze ht c) (canon_forAll _ _ (fun k t ht => canon_stnFreeze ht k) (by simp [hs]))
@[simp] theorem canon_writeInputBank (hs : Canon s) : Canon (writeInputBank s) := by
  unfold writeInputBank
  extract_lets a
  split
  · exact hs
  · exact canon_cycWrite (canon_cycWrite (canon_cycWrite (canon_cycWrite
      (canon_forAll _ _ (fun k t ht => canon_cycWrite ht ..) hs) ..) ..) ..) ..
@[simp] theorem canon_stageInputs (hs : Canon s) : Canon (stageInputs s) := by simp [stageInputs, hs]
@[simp] theorem canon_holdPermit (hs : Canon s) : Canon (holdPermit s) := by simp [holdPermit, hs]
@[simp] theorem canon_forceInputs (hs : Canon s) : Canon (forceInputs s) := by simp [forceInputs, hs]
@[simp] theorem canon_olcRefused (hs : Canon s) (res fail) : Canon (olcRefused res fail s) := by simp [olcRefused, hs]
@[simp] theorem canon_olcMerge (hs : Canon s) : Canon (olcMerge s) := by
  unfold olcMerge; (repeat' split) <;> simp [hs]
@[simp] theorem canon_opOlcCommit (hs : Canon s) (init v) : Canon (opOlcCommit init v s) := by
  simp only [opOlcCommit]; (repeat' split) <;> simp [hs]
@[simp] theorem canon_olcWrite (init o v) : Canon (olcWrite init o v s) ↔ Canon s := by simp [olcWrite]
@[simp] theorem canon_merge (hs : Canon s) : Canon (merge s) :=
  canon_olcMerge (canon_forceInputs (canon_holdPermit (canon_stageInputs (canon_writeInputBank hs))))
@[simp] theorem canon_cycleOverrun (hs : Canon s) : Canon (cycleOverrun s) := by
  unfold cycleOverrun; split
  · exact canon_enterSafe (canon_missFault (canon_raiseCyc hs ..) ..) _
  · exact hs
@[simp] theorem canon_cycleEnd (hs : Canon s) : Canon (cycleEnd s) := by simp [cycleEnd, hs]
@[simp] theorem canon_cycleBegin (hs : Canon s) (n) : Canon (cycleBegin n s) := by simp [cycleBegin, hs]
@[simp] theorem canon_countRun (was) : Canon (countRun was s) ↔ Canon s := by simp [countRun]
@[simp] theorem canon_opCycleBoundary (hs : Canon s) : Canon (opCycleBoundary s) := by
  unfold opCycleBoundary
  split
  · exact hs
  split
  · exact hs
  next n _ _ =>
    extract_lets was s₁ s₂ s₃ s₄ s₅
    have h₁ : Canon s₁ := canon_cycleEnd (canon_cycleOverrun hs)
    have h₂ : Canon s₂ := canon_pairBoundary ((canon_followPartner).2 h₁) _
    have h₃ : Canon s₃ := canon_cycleBegin h₂ n
    have h₄ : Canon s₄ := by simp [s₄, h₃]
    have h₅ : Canon s₅ := by simp [s₅, h₄]
    exact canon_merge (canon_freeze h₅)
@[simp] theorem canon_scanOverrun (hs : Canon s) : Canon (scanOverrun s) :=
  canon_enterSafe (canon_missFault (canon_raiseCyc hs ..) ..) _
@[simp] theorem canon_opAwnScanTrigger (hs : Canon s) : Canon (opAwnScanTrigger s) := by simp [opAwnScanTrigger, hs]
@[simp] theorem canon_opReleasePhase (hs : Canon s) : Canon (opReleasePhase s) := by simp [opReleasePhase, hs]
@[simp] theorem canon_opAwnPublish (hs : Canon s) : Canon (opAwnPublish s) := by simp [opAwnPublish, hs]
@[simp] theorem canon_stnRunWords (hs : Canon s) (k q) : Canon (stnRunWords k q s).2.2 := by simp [stnRunWords, hs]
@[simp] theorem canon_stnWords (hs : Canon s) (k q fs) : Canon (stnWords k q fs s).2.2 := by
  unfold stnWords; split <;> simp [hs]
@[simp] theorem canon_stnDiscard (hs : Canon s) (k) : Canon (stnDiscard k s) := by simp [stnDiscard, hs]
@[simp] theorem canon_glumeSendOne (hs : Canon s) (c words acc) : Canon (glumeSendOne c words acc s).2 := by
  unfold glumeSendOne; dsimp only; split <;> simp [hs]
@[simp] theorem canon_connMessage (q fs c) (x : List (Nat × List Byte) × State) (hx : Canon x.2) :
    Canon (connMessage q fs c x).2 := by
  simp only [connMessage]
  split
  · exact hx
  split
  · split
    · exact canon_stnDiscard hx _
    split
    · exact hx
    · refine canon_glumeSendOne ((canon_modStn ..).2 ?_) ..
      exact canon_stnWords hx ..
  · split
    · exact hx
    · refine canon_glumeSendOne ?_ ..
      exact canon_mboxWords hx c
@[simp] theorem canon_allMessages (q fs cs) (x : List (Nat × List Byte) × State) (hx : Canon x.2) :
    Canon (allMessages q fs cs x).2 := by
  induction cs generalizing x with
  | nil => exact hx
  | cons c t ih => exact ih _ (canon_connMessage q fs c x hx)
@[simp] theorem canon_fillSlots (hs : Canon s) (slots ms) : Canon (fillSlots slots ms s) := by
  induction slots generalizing ms s with
  | nil => exact hs
  | cons x t ih =>
    unfold fillSlots; dsimp only
    split
    · exact ih hs ms
    · exact ih (by simp [hs]) _
@[simp] theorem canon_commitMessages (hs : Canon s) (ms) : Canon (commitMessages ms s) := by
  simp +contextual [commitMessages, hs]
@[simp] theorem canon_exchRecord (hs : Canon s) : Canon (exchRecord s) := by simp [exchRecord, hs]
@[simp] theorem canon_publishNow (hs : Canon s) : Canon (publishNow s) := by
  unfold publishNow
  refine canon_exchRecord (canon_pairPublished.2 (canon_commitMessages (canon_allMessages _ _ _ _ ?_) _))
  simp [hs]
@[simp] theorem canon_opPublish (hs : Canon s) : Canon (opPublish s) := by simp [opPublish, hs]
@[simp] theorem canon_opForceEntryWrite (hs : Canon s) (init i v) : Canon (opForceEntryWrite init i v s) := by
  simp [opForceEntryWrite, hs]
@[simp] theorem canon_opExchStart (hs : Canon s) (init v) : Canon (opExchStart init v s) := by simp [opExchStart, hs]

/-! #### SELFTEST, hand-over and shut-down (03, 20) -/

@[simp] theorem canon_opCmptestStart (_init v) : Canon (opCmptestStart _init v s) ↔ Canon s := by simp [opCmptestStart]
@[simp] theorem canon_failCore (hs : Canon s) (n pos t step) : Canon (failCore n pos t step s) := by simp [failCore, hs]
@[simp] theorem canon_refillPosition (t p) : Canon (refillPosition t p s) ↔ Canon s := by
  unfold refillPosition; (repeat' split) <;> simp
@[simp] theorem canon_opCmptestDone (hs : Canon s) (o) : Canon (opCmptestDone o s) := by
  unfold opCmptestDone
  split
  · extract_lets sink res voters paths bad s₁ s₂ s₃ s₄ s₅ bad'
    have h₁ : Canon s₁ := by simp only [s₁]; split <;> simp [hs]
    have h₂ : Canon s₂ := canon_forAll _ _ (fun r t ht => by simp [ht]) h₁
    have h₃ : Canon s₃ := canon_forAll _ _ (fun r t ht => by simp [ht]) h₂
    have h₄ : Canon s₄ := canon_forAll _ _ (fun r t ht => by simp [ht]) h₃
    have h₅ : Canon s₅ := canon_forAll _ _ (fun r t ht => by simp [ht]) h₄
    simpa using h₅
  · exact hs
@[simp] theorem canon_judgeVerdict (hs : Canon s) : Canon (judgeVerdict s) := by
  have h := canon_forAll (emptyAt s true) _ (fun e t ht =>
    canon_raiseThr ht 6 0x2E07 (trdDetail 255 e.2 e.1) (thrInfo 6 0 0x3F 0) 0 0) hs
  unfold judgeVerdict
  extract_lets s₁ thr s₂
  have h₂ : Canon s₂ := h
  clear_value s₂
  split <;> simp [h₂]
@[simp] theorem canon_startTriads (hs : Canon s) : Canon (startTriads s) := by
  simp +contextual [startTriads, hs]
@[simp] theorem canon_spendTrial (hs : Canon s) : Canon (spendTrial s) := by
  unfold spendTrial; split <;> simp [hs]
@[simp] theorem canon_startBlocks (hs : Canon s) : Canon (startBlocks s) := by
  have h := canon_glmStart (canon_hubStart (canon_pairStart (canon_vyfStart.2 hs)))
  exact canon_culmStart.2 (canon_fioStart (canon_canStart (canon_canStart h 0) 1))
@[simp] theorem canon_opHandOver (hs : Canon s) : Canon (opHandOver s) := by
  unfold opHandOver
  split
  · extract_lets s₁ bad s₂ ms mod sup s₃ s₄
    have h₂ : Canon s₂ := canon_startTriads (canon_spendTrial (canon_judgeVerdict hs))
    have h₄ : Canon s₄ := canon_startBlocks (by simpa [s₃] using h₂)
    (repeat' split) <;> simp [h₄]
  · exact hs
@[simp] theorem canon_shutRequest (hs : Canon s) (restart pin) : Canon (shutRequest restart pin s) := by
  simp [shutRequest, hs]
@[simp] theorem canon_opSdreqActive (hs : Canon s) : Canon (opSdreqActive s) := by simp [opSdreqActive, hs]
@[simp] theorem canon_opShutdownGo (hs : Canon s) (init v) : Canon (opShutdownGo init v s) := by simp [opShutdownGo, hs]
@[simp] theorem canon_opShutdownRestart (init) : Canon (opShutdownRestart init s) ↔ Canon s := by
  simp [opShutdownRestart]
@[simp] theorem canon_shutDrain (hs : Canon s) : Canon (shutDrain s) :=
  canon_hoursCopy (canon_lifeFlush (canon_flushQueue (canon_haltAll (by simp [hs])) false))
@[simp] theorem canon_opShutdownReady (hs : Canon s) (init) : Canon (opShutdownReady init s) := by
  simp [opShutdownReady, hs]
@[simp] theorem canon_opShutdownEntry (hs : Canon s) : Canon (opShutdownEntry s) := by
  unfold opShutdownEntry
  split
  · extract_lets mod vyf chA chB s₁ s₂ culm s₃ s₄
    have h₂ : Canon s₂ := canon_hubHalt (canon_fioOff (canon_braceEnd (by simp [s₁, hs]))) 1
    have h₃ : Canon s₃ := canon_event (by simpa using h₂) ..
    have h₄ : Canon s₄ := canon_irqAll h₃ _
    split <;> simp [h₄]
  · exact hs
@[simp] theorem canon_opShutdownGraceEnd (hs : Canon s) : Canon (opShutdownGraceEnd s) := by
  simp [opShutdownGraceEnd, hs]

/-! #### The security engine (17) -/

@[simp] theorem canon_modSession (ses f) : Canon (modSession ses f s) ↔ Canon s := by simp [modSession]
@[simp] theorem canon_reply (hs : Canon s) (r op status data) : Canon (reply r op status data s) := by
  simp only [reply]; (repeat' split) <;> simp [hs]
@[simp] theorem canon_closeSession (hs : Canon s) (ses) : Canon (closeSession ses s) := by
  unfold closeSession; (repeat' split) <;> simp [hs]
@[simp] theorem canon_closeOthers (hs : Canon s) (keep) : Canon (closeOthers keep s) := by
  simp +contextual [closeOthers, hs]
@[simp] theorem canon_closeLocal (hs : Canon s) : Canon (closeLocal s) := by
  simp +contextual [closeLocal, hs]
@[simp] theorem canon_raiseAuth (hs : Canon s) : Canon (raiseAuth s) := by simp [raiseAuth, hs]
@[simp] theorem canon_raisePriv (hs : Canon s) (op) : Canon (raisePriv op s) := by simp [raisePriv, hs]
@[simp] theorem canon_serverAuth (o) : Canon (serverAuth o s) ↔ Canon s := by simp [serverAuth]
@[simp] theorem canon_refuseSession (hs : Canon s) (o) : Canon (refuseSession o s) := by
  unfold refuseSession; (repeat' split) <;> simp [hs]
@[simp] theorem canon_opTlsHandshake (hs : Canon s) (o) : Canon (opTlsHandshake o s) := by simp [opTlsHandshake, hs]
@[simp] theorem canon_opSessionIdleTimeout (hs : Canon s) (ses) : Canon (opSessionIdleTimeout ses s) := by
  unfold opSessionIdleTimeout; split <;> simp [hs]
@[simp] theorem canon_opSessionClosed (hs : Canon s) (ses) : Canon (opSessionClosed ses s) := by
  simp [opSessionClosed, hs]
@[simp] theorem canon_request (hs : Canon s) (r op b) (f : Session → State → State) (hf : ∀ x t, Canon t → Canon (f x t)) :
    Canon (request r op b f s) := by
  simp only [request]; split <;> simp [hf, hs]
@[simp] theorem canon_privileged (hs : Canon s) (r op bit addr b) (f : Session → State → Nat × State)
    (hf : ∀ x t, Canon t → Canon (f x t).2) : Canon (privileged r op bit addr b f s) := by
  unfold privileged
  refine canon_request hs _ _ _ _ fun x t ht => ?_
  split
  · simp [ht]
  split
  · simp [ht]
  · have h := hf x t ht
    simp only; split <;> simp [h]
@[simp] theorem canon_keysAction (hs : Canon s) (r op) (f : State → Nat × State) (hf : ∀ t, Canon t → Canon (f t).2) :
    Canon (keysAction r op f s) := by
  unfold keysAction
  refine canon_privileged hs _ _ _ _ _ _ fun x t ht => ?_
  dsimp only
  split <;> simp [hf, ht]
@[simp] theorem canon_opAttest (hs : Canon s) (r nonce) : Canon (opAttest r nonce s) := by
  simp +contextual [opAttest, hs]
@[simp] theorem canon_opChallenge (hs : Canon s) (r) : Canon (opChallenge r s) := by
  simp +contextual [opChallenge, hs]
@[simp] theorem canon_opToken (hs : Canon s) (r b) : Canon (opToken r b s) := by
  refine canon_request hs _ _ _ _ fun x t ht => ?_
  split <;> simp [ht]
@[simp] theorem canon_readBlocks (hs : Canon s) (fuel addr count) : Canon (readBlocks fuel addr count s).2.2 := by
  induction fuel generalizing addr count s with
  | zero => exact hs
  | succ k ih =>
    unfold readBlocks
    split
    · exact hs
    extract_lets n r
    have hr : Canon r.2.2 := by simp only [r]; (repeat' split) <;> simp [hs]
    split
    · exact hr
    · exact ih hr _ _
@[simp] theorem canon_opReadMem (hs : Canon s) (r addr count) : Canon (opReadMem r addr count s) := by
  refine canon_request hs _ _ _ _ fun x t ht => ?_
  have h := canon_readBlocks ht (count / 64 + 2) addr count
  dsimp only; (repeat' split) <;> simp [h, ht]
@[simp] theorem canon_opClearRecords (hs : Canon s) (r) : Canon (opClearRecords r s) := by
  simp +contextual [opClearRecords, hs]
@[simp] theorem canon_norErase (hs : Canon s) (c a b) : Canon (norErase c a b s) := by
  unfold norErase; split
  · exact { hs with norB := FMap.filter_wf _ hs.norB }
  · exact { hs with norA := FMap.filter_wf _ hs.norA }
@[simp] theorem canon_norProgram (hs : Canon s) (c o bs) : Canon (norProgram c o bs s) := by simp [norProgram, hs]
@[simp] theorem canon_opImageBegin (hs : Canon s) (r len) : Canon (opImageBegin r len s) := by
  refine canon_privileged hs _ _ _ _ _ _ fun x t ht => ?_
  dsimp only
  split
  · exact ht
  split
  · exact ht
  · exact canon_norErase (canon_norErase (by simp [ht]) ..) ..
@[simp] theorem canon_opImageData (hs : Canon s) (r offset bytes) : Canon (opImageData r offset bytes s) := by
  refine canon_privileged hs _ _ _ _ _ _ fun x t ht => ?_
  dsimp only; (repeat' split) <;> simp [ht]
@[simp] theorem canon_opImageEnd (hs : Canon s) (r) : Canon (opImageEnd r s) := by
  refine canon_privileged hs _ _ _ _ _ _ fun x t ht => ?_
  dsimp only; (repeat' split) <;> simp [ht]
@[simp] theorem canon_opInstallationComplete (hs : Canon s) : Canon (opInstallationComplete s) := by
  unfold opInstallationComplete
  split
  · exact hs
  split
  · exact hs
  next i _ _ =>
    extract_lets k sec s₁ s₂ v s₃
    have h₁ : Canon s₁ := by simpa [s₁, sec] using hs
    have h₃ : Canon s₃ := canon_event (canon_setMark (canon_norProgram h₁ ..) ..) ..
    split
    · exact canon_reply (canon_rejectCopy h₁ ..) ..
    split
    · exact canon_dieReset (canon_lifeFlush (canon_flushQueue h₃ false)) ..
    · exact h₃
@[simp] theorem canon_confirmCopy (hs : Canon s) : Canon (confirmCopy s) := by simp [confirmCopy, hs]
@[simp] theorem canon_opConfirm (hs : Canon s) (r) : Canon (opConfirm r s) := by
  simp +contextual [opConfirm, hs]
@[simp] theorem canon_opSecImageConfirm (hs : Canon s) (_init v) : Canon (opSecImageConfirm _init v s) := by
  simp [opSecImageConfirm, hs]
@[simp] theorem canon_opAutoConfirm (hs : Canon s) : Canon (opAutoConfirm s) := by simp [opAutoConfirm, hs]
@[simp] theorem canon_opActivate (hs : Canon s) (r) : Canon (opActivate r s) := by
  simp +contextual [opActivate, hs]
@[simp] theorem canon_opImageKeyInstall (hs : Canon s) (r slot wrapped) :
    Canon (opImageKeyInstall r slot wrapped s) := by
  refine canon_keysAction hs _ _ _ fun t ht => ?_
  (repeat' split) <;> simp [ht]
@[simp] theorem canon_opAnchorInstall (hs : Canon s) (r slot key) : Canon (opAnchorInstall r slot key s) := by
  simp [opAnchorInstall, hs]
@[simp] theorem canon_opKeySlotProgram (hs : Canon s) (r slot key) : Canon (opKeySlotProgram r slot key s) := by
  simp [opKeySlotProgram, hs]
@[simp] theorem canon_opSlotRevoke (hs : Canon s) (r slot) : Canon (opSlotRevoke r slot s) := by simp [opSlotRevoke, hs]
@[simp] theorem canon_opAnchorA0Disable (hs : Canon s) (r) : Canon (opAnchorA0Disable r s) := by
  simp [opAnchorA0Disable, hs]
@[simp] theorem canon_opDebugOpen (hs : Canon s) (r) : Canon (opDebugOpen r s) := by
  refine canon_privileged hs _ _ _ _ _ _ fun x t ht => ?_
  dsimp only; (repeat' split) <;> simp [ht]
@[simp] theorem canon_rngTaken : Canon (rngTaken s) ↔ Canon s := by simp [rngTaken]
@[simp] theorem canon_opRngRead (init) : Canon (opRngRead init s) ↔ Canon s := by simp [opRngRead]
@[simp] theorem canon_opRngHealthFail (hs : Canon s) : Canon (opRngHealthFail s) := by simp [opRngHealthFail, hs]
@[simp] theorem canon_opMaintenanceFrameReceive (hs : Canon s) (f) : Canon (opMaintenanceFrameReceive f s) := by
  unfold opMaintenanceFrameReceive; (repeat' split) <;> simp [hs]

/-! #### Triads: quiet points, repair, split (03) -/

@[simp] theorem canon_haltTriad (hs : Canon s) (t cause) : Canon (haltTriad t cause s) := by
  have h := canon_missHalted (canon_account hs t) t
  simp only [haltTriad]; split <;> simp [h]
@[simp] theorem canon_noMajority (hs : Canon s) (t num cause) : Canon (noMajority t num cause s) := by
  simp [noMajority, hs]
@[simp] theorem canon_opQuiet (hs : Canon s) (t) : Canon (opQuiet t s) := by simp [opQuiet, hs]
@[simp] theorem canon_resume (hs : Canon s) (t) : Canon (resume t s) := by simp [resume, hs]
@[simp] theorem canon_reintegrate (hs : Canon s) (t) : Canon (reintegrate t s) := by simp [reintegrate, hs]
@[simp] theorem canon_reintFailed (hs : Canon s) (t) : Canon (reintFailed t s) := by simp [reintFailed, hs]
@[simp] theorem canon_opReintegration (hs : Canon s) (t da db dr) : Canon (opReintegration t da db dr s) := by
  simp [opReintegration, hs]
@[simp] theorem canon_opReserveL1ClearDone (r) : Canon (opReserveL1ClearDone r s) ↔ Canon s := by
  simp [opReserveL1ClearDone]
@[simp] theorem canon_refuseSplit (t res) : Canon (refuseSplit t res s) ↔ Canon s := by simp [refuseSplit]
@[simp] theorem canon_opToSplit (hs : Canon s) (t) : Canon (opToSplit t s) := by simp [opToSplit, hs]
@[simp] theorem canon_opSplitStart (hs : Canon s) (t) : Canon (opSplitStart t s) := by
  simp only [opSplitStart]; split
  · refine canon_resched (canon_event ?_ ..) t
    rw [canon_modSchTri]
    refine canon_forAll _ _ (fun i u hu => canon_irqTriad hu ..) ?_
    exact canon_forAll _ _ (fun p u hu => by simp [hu]) (by simp [hs])
  · exact hs
@[simp] theorem canon_stopSplit (t p) : Canon (stopSplit t p s) ↔ Canon s := by simp [stopSplit]
@[simp] theorem canon_beginReturn (hs : Canon s) (t) : Canon (beginReturn t s) := by simp [beginReturn, hs]
@[simp] theorem canon_opToTriad (hs : Canon s) (core) : Canon (opToTriad core s) := by simp [opToTriad, hs]
@[simp] theorem canon_abortFlights (hs : Canon s) (t p) : Canon (abortFlights t p s) := by
  simp +contextual [abortFlights, hs]
@[simp] theorem canon_opHandoverTimeout (hs : Canon s) (t) : Canon (opHandoverTimeout t s) := by
  unfold opHandoverTimeout; split
  · refine canon_beginReturn (canon_raiseTriad ?_ ..) t
    exact canon_forAll _ _ (fun p u hu => by simp [hu]) hs
  · exact hs
@[simp] theorem canon_restoreSaved (hs : Canon s) (t c ps) : Canon (restoreSaved t c ps s) := by simp [restoreSaved, hs]
@[simp] theorem canon_opTriadRestore (hs : Canon s) (t ds) : Canon (opTriadRestore t ds s) := by
  simp only [opTriadRestore]; (repeat' split)
  · exact canon_resched (canon_event (by simp [hs]) ..) t
  · exact canon_resched (canon_startVoting (canon_raiseTriad (by simp [hs]) ..) ..) t
  · exact hs
@[simp] theorem canon_opTriadCtrl (hs : Canon s) (init t v) : Canon (opTriadCtrl init t v s) := by
  simp [opTriadCtrl, hs]
@[simp] theorem canon_joinReserve (t) : Canon (joinReserve t s) ↔ Canon s := by simp [joinReserve]
@[simp] theorem canon_opTriadRestart (hs : Canon s) (t) : Canon (opTriadRestart t s) := by simp [opTriadRestart, hs]
@[simp] theorem canon_restartSplit (hs : Canon s) (t) : Canon (restartSplit t s) := by simp [restartSplit, hs]
@[simp] theorem canon_opTrdWatchdog (hs : Canon s) (t) : Canon (opTrdWatchdog t s) := by
  unfold opTrdWatchdog
  split
  · exact hs
  · have h : ∀ a b, Canon (haltTriad t 0x3010 (raiseTriad 8 0x3010 0 t 0 a b s)) := fun a b =>
      canon_haltTriad (canon_raiseTriad hs ..) ..
    simp only; split <;> simp [h]
@[simp] theorem canon_opL1Error (hs : Canon s) (l) : Canon (opL1Error l s) := by simp [opL1Error, hs]

/-! #### The register blocks (21) -/

@[simp] theorem canon_modErr (w f) : Canon (modErr w f s) ↔ Canon s := by
  unfold modErr; (repeat' split) <;> simp
@[simp] theorem canon_regReadEffect (hs : Canon s) (w o) : Canon (regReadEffect w o s) := by
  unfold regReadEffect; (repeat' split) <;> simp [hs]
@[simp] theorem canon_modeReqWrite (init v) : Canon (modeReqWrite init v s) ↔ Canon s := by
  unfold modeReqWrite; (repeat' split) <;> simp
@[simp] theorem canon_cycRegWrite (hs : Canon s) (init o v) : Canon (cycRegWrite init o v s) := by
  simp [cycRegWrite, hs]
@[simp] theorem canon_schWrite (hs : Canon s) (init o v) : Canon (schWrite init o v s) := by simp [schWrite, hs]
@[simp] theorem canon_rchWrite (o v) : Canon (rchWrite o v s) ↔ Canon s := by
  unfold rchWrite; (repeat' split) <;> simp
@[simp] theorem canon_canWrite (hs : Canon s) (init n o v) : Canon (canWrite init n o v s) := by simp [canWrite, hs]
@[simp] theorem canon_culmWrite (hs : Canon s) (init o v) : Canon (culmWrite init o v s) := by simp [culmWrite, hs]
@[simp] theorem canon_shutdownWrite (hs : Canon s) (init v) : Canon (shutdownWrite init v s) := by
  simp [shutdownWrite, hs]
@[simp] theorem canon_aonWrite (hs : Canon s) (init o v) : Canon (aonWrite init o v s) := by simp [aonWrite, hs]
@[simp] theorem canon_blockWrite (hs : Canon s) (init w o v) : Canon (blockWrite init w o v s) := by
  unfold blockWrite; split <;> simp [hs]
@[simp] theorem canon_regWrite (hs : Canon s) (init w o v) : Canon (regWrite init w o v s) := by simp [regWrite, hs]

/-! #### The scrubbers (01) -/

@[simp] theorem canon_dramScrubNext : Canon (dramScrubNext s) ↔ Canon s := by simp [dramScrubNext]
@[simp] theorem canon_mramScrubNext : Canon (mramScrubNext s) ↔ Canon s := by simp [mramScrubNext]
@[simp] theorem canon_opDramScrub (hs : Canon s) (r) : Canon (opDramScrub r s) := by
  simp only [opDramScrub]; (repeat' split) <;> simp [hs]
@[simp] theorem canon_areaHit (hs : Canon s) (o) : Canon (areaHit o s) := by simp [areaHit, hs]
@[simp] theorem canon_opMramScrub (hs : Canon s) (r) : Canon (opMramScrub r s) := by
  simp only [opMramScrub]; (repeat' split) <;> simp [hs]

/-! #### Rachis (01) -/

@[simp] theorem canon_dramWrite (hs : Canon s) (o bs) : Canon (dramWrite o bs s) := canon_dramPut hs o bs
@[simp] theorem canon_writeTarget (hs : Canon s) (init addr bs en) : Canon (writeTarget init addr bs en s).2 := by
  unfold writeTarget; (repeat' split) <;> simp +contextual [hs]
@[simp] theorem canon_readTarget (hs : Canon s) (init addr n) : Canon (readTarget init addr n s).2.2 := by
  unfold readTarget; split <;> simp [hs]
@[simp] theorem canon_busWrite (hs : Canon s) (init addr bs en) : Canon (busWrite init addr bs en s).2 := by
  unfold busWrite; split <;> simp [hs]
@[simp] theorem canon_busRead (hs : Canon s) (init addr n) : Canon (busRead init addr n s).2.2 := by
  unfold busRead; split <;> simp [hs]
@[simp] theorem canon_correctedAt (hs : Canon s) (t) : Canon (correctedAt t s) := by simp [correctedAt, hs]
@[simp] theorem canon_cellCorrected (hs : Canon s) (t) : Canon (cellCorrected t s) := by
  unfold cellCorrected; split <;> simp [hs]
@[simp] theorem canon_cellBad (hs : Canon s) (t) : Canon (cellBad t s) := by
  unfold cellBad; split <;> simp [hs]
@[simp] theorem canon_readEffect (hs : Canon s) (t) : Canon (readEffect t s) := by
  have h := canon_readTarget hs t.init t.reached t.size
  have hc : Canon (if hasCells t.reached && decide (t.cell = .correctable)
      then cellCorrected t (readTarget t.init t.reached t.size s).2.2
      else (readTarget t.init t.reached t.size s).2.2) := by split <;> simp [h]
  simp only [readEffect]
  split
  · split <;> simp [hs]
  split
  · simp [hs]
  split
  · simpa using hc
  split
  · simpa using hc
  · simpa using canon_correctedAt hc t
  · simpa using canon_refuse hc 3 t.init false t.addr t.size
  · simpa using canon_refuse hc 3 t.init false t.addr t.size
@[simp] theorem canon_writeEffect (hs : Canon s) (t) : Canon (writeEffect t s) := by simp [writeEffect, hs]
@[simp] theorem canon_rachisEffect (hs : Canon s) (t) : Canon (rachisEffect t s) := by simp [rachisEffect, hs]
@[simp] theorem canon_opRachisTransaction (hs : Canon s) (t) : Canon (opRachisTransaction t s) := by
  unfold opRachisTransaction; (repeat' split) <;> simp [hs]
@[simp] theorem canon_opRegisterWrite (hs : Canon s) (init addr v) : Canon (opRegisterWrite init addr v s) := by
  unfold opRegisterWrite; split <;> simp [hs]
@[simp] theorem canon_endFlight (code f) : Canon (endFlight code f s) ↔ Canon s := by simp [endFlight]
@[simp] theorem canon_raiseTmo (hs : Canon s) (init write addr) : Canon (raiseTmo init write addr s) := by
  simp [raiseTmo, hs]
@[simp] theorem canon_opBusTimeout (hs : Canon s) (tg) : Canon (opBusTimeout tg s) := by
  simp only [opBusTimeout]; (repeat' split) <;> simp [hs]
@[simp] theorem canon_opBridgeBackstopTimeout (hs : Canon s) : Canon (opBridgeBackstopTimeout s) := by
  unfold opBridgeBackstopTimeout
  split
  · exact hs
  split
  · refine canon_culmAbortAll (canon_forAll _ _ (fun f u hu => by simp [hu]) ?_) ..
    simp [hs]
  · exact hs
@[simp] theorem canon_raiseSource (hs : Canon s) (bit code source) : Canon (raiseSource bit code source s) := by
  simp [raiseSource, hs]
@[simp] theorem canon_modChan (ch f) : Canon (modChan ch f s) ↔ Canon s := by simp [modChan]
@[simp] theorem canon_chanHalt (ch) : Canon (chanHalt ch s) ↔ Canon s := by simp [chanHalt]
@[simp] theorem canon_engineRestart (hs : Canon s) (e) : Canon (engineRestart e s) := by
  unfold engineRestart; split <;> simp [hs]
@[simp] theorem canon_opEngineWatchdog (hs : Canon s) (e) : Canon (opEngineWatchdog e s) := by
  simp [opEngineWatchdog, hs]
@[simp] theorem canon_opClockFault (hs : Canon s) (d) : Canon (opClockFault d s) := by
  have h : ∀ r, Canon (raiseSource 6 0x3407 d { s with rch := r }) := fun r => canon_raiseSource (by simp [hs]) ..
  unfold opClockFault; split
  · exact hs
  · simp only; split <;> simp [h]
@[simp] theorem canon_opFunctionDrainDone (f) : Canon (opFunctionDrainDone f s) ↔ Canon s := by
  unfold opFunctionDrainDone; (repeat' split) <;> simp

/-! #### Cores, windows and votes (03) -/

@[simp] theorem canon_modLane (t p f) : Canon (modLane t p f s) ↔ Canon s := by simp [modLane]
@[simp] theorem canon_openWin (t p) : Canon (openWin t p s) ↔ Canon s := by simp [openWin]
@[simp] theorem canon_closeWin (t p cause) : Canon (closeWin t p cause s) ↔ Canon s := by simp [closeWin]
@[simp] theorem canon_noteL2 (t addr) : Canon (noteL2 t addr s) ↔ Canon s := by simp [noteL2]
@[simp] theorem canon_issueStore (hs : Canon s) (t st) : Canon (issueStore t st s) := by simp [issueStore, hs]
@[simp] theorem canon_releaseWin (hs : Canon s) (t w) : Canon (releaseWin t w s) := by
  simp +contextual [releaseWin, hs]
@[simp] theorem canon_dropWin (t n) : Canon (dropWin t n s) ↔ Canon s := by simp [dropWin]
@[simp] theorem canon_excludeCore (hs : Canon s) (t p bit code n cause) :
    Canon (excludeCore t p bit code n cause s) := by
  simp [excludeCore, hs]
@[simp] theorem canon_voteOutcome (hs : Canon s) (t n) : Canon (voteOutcome t n s) := by
  simp only [voteOutcome]; (repeat' split) <;> simp [hs]
@[simp] theorem canon_advance (hs : Canon s) (t fuel) : Canon (advance t fuel s) := by
  induction fuel generalizing s with
  | zero => exact hs
  | succ k ih =>
    unfold advance; dsimp only
    split
    · exact hs
    split
    · exact ih (by simp [hs])
    split
    · exact ih (by simp [hs])
    · exact hs
@[simp] theorem canon_noteLevel (t) : Canon (noteLevel t s) ↔ Canon s := by simp [noteLevel]
@[simp] theorem canon_foldMember (n c) : Canon (foldMember n c s) ↔ Canon s := by simp [foldMember]
@[simp] theorem canon_trapCore (n irq code tval) : Canon (trapCore n irq code tval s) ↔ Canon s := by simp [trapCore]
@[simp] theorem canon_takeIrqs (hs : Canon s) (fuel n) : Canon (takeIrqs fuel n s) := by
  induction fuel generalizing s with
  | zero => exact hs
  | succ k ih =>
    unfold takeIrqs
    split
    · exact hs
    · exact ih (by simp [hs])
@[simp] theorem canon_takeAll (hs : Canon s) (n) : Canon (takeAll n s) := by simp [takeAll, hs]
@[simp] theorem canon_reachC (hs : Canon s) (t p e) : Canon (reachC t p e s) := by simp [reachC, hs]
@[simp] theorem canon_setC (hs : Canon s) (t cause irqs) : Canon (setC t cause irqs s) := by
  simp +contextual [setC, hs]
@[simp] theorem canon_joinC (hs : Canon s) (t irqs) : Canon (joinC t irqs s) :=
  canon_forAll _ _ (fun p u hu => canon_takeAll (canon_forAll _ _ (fun i v hv => by simp [hv]) hu) _) (by simp [hs])
@[simp] theorem canon_rearm (hs : Canon s) (t) : Canon (rearm t s) := by simp [rearm, hs]
@[simp] theorem canon_pruneC (t) : Canon (pruneC t s) ↔ Canon s := by simp [pruneC]
@[simp] theorem canon_closeAfter (hs : Canon s) (t p m0 c) : Canon (closeAfter t p m0 c s) := by
  refine canon_takeAll (canon_forAll _ _ (fun e u hu => by simp [hu]) ?_) _
  (repeat' split) <;> simp [hs]
@[simp] theorem canon_commitMember (hs : Canon s) (n c) : Canon (commitMember n c s) := by simp [commitMember, hs]
@[simp] theorem canon_writeThrough (hs : Canon s) (n addr) : Canon (writeThrough n addr s) := by simp [writeThrough, hs]
@[simp] theorem canon_commitSplit (hs : Canon s) (n c) : Canon (commitSplit n c s) := by
  unfold commitSplit; split
  · refine canon_takeAll ?_ n
    split
    · simp [hs]
    · refine canon_writeThrough ?_ ..
      split <;> simp [hs]
  · exact hs
@[simp] theorem canon_commitCore (hs : Canon s) (n c) : Canon (commitCore n c s) := by simp [commitCore, hs]
@[simp] theorem canon_loadPrivate (hs : Canon s) (n addr size) : Canon (loadPrivate n addr size s).2.2 := by
  simp [loadPrivate, hs]
@[simp] theorem canon_serveHeld (hs : Canon s) (t p) : Canon (serveHeld t p s) := by
  simp only [serveHeld]; (repeat' split) <;> simp [hs]
@[simp] theorem canon_issueRead (hs : Canon s) (t n win addr size only) :
    Canon (issueRead t n win addr size only s) := by
  simp [issueRead, hs]
@[simp] theorem canon_coreRequest (hs : Canon s) (n addr size) : Canon (coreRequest n addr size s) := by
  simp [coreRequest, hs]
@[simp] theorem canon_serveAll (hs : Canon s) (t) : Canon (serveAll t s) := by
  simp +contextual [serveAll, hs]
@[simp] theorem canon_opSingleIssueRead (hs : Canon s) (t) : Canon (opSingleIssueRead t s) := by
  have h := canon_serveAll hs t
  simp only [opSingleIssueRead]; (repeat' split) <;> simp [h]
@[simp] theorem canon_amoCommit (hs : Canon s) (n a old) : Canon (amoCommit n a old s) := by
  unfold amoCommit; split <;> simp [hs]
@[simp] theorem canon_coreAmo (hs : Canon s) (n a) : Canon (coreAmo n a s) := by simp [coreAmo, hs]
@[simp] theorem canon_settleTriad (hs : Canon s) (t) : Canon (settleTriad t s) := by
  have h := canon_serveAll hs t
  simp only [settleTriad]; split
  · exact canon_forAll _ _ (fun p u hu => canon_takeAll hu _) h
  · exact (canon_pruneC ..).2 (canon_advance (canon_rearm h t) ..)
@[simp] theorem canon_settleN (hs : Canon s) (n) : Canon (settleN n s) := by
  induction n generalizing s with
  | zero => exact hs
  | succ k ih =>
    unfold settleN
    split
    · exact hs
    · exact ih (canon_forAll _ _ (fun t u hu => canon_settleTriad hu t) hs)
@[simp] theorem canon_settle (hs : Canon s) : Canon (settle s) := by simp [settle, hs]
@[simp] theorem canon_opCoreInstruction (hs : Canon s) (n a) : Canon (opCoreInstruction n a s) := by
  unfold opCoreInstruction; split <;> simp [hs]
@[simp] theorem canon_opWindowTimer (hs : Canon s) (t) : Canon (opWindowTimer t s) := by simp [opWindowTimer, hs]
@[simp] theorem canon_opTriadInterrupt (hs : Canon s) (t p src) : Canon (opTriadInterrupt t p src s) := by
  simp [opTriadInterrupt, hs]
@[simp] theorem canon_opLagTimeout (hs : Canon s) (t) : Canon (opLagTimeout t s) := by
  simp only [opLagTimeout]; (repeat' split) <;> simp [hs]
@[simp] theorem canon_opReleasedStoreError (hs : Canon s) (t addr resp) :
    Canon (opReleasedStoreError t addr resp s) := by
  simp [opReleasedStoreError, hs]

/-! #### Register access by the maintenance protocol (17) -/

@[simp] theorem canon_readRegs (hs : Canon s) (n addr acc) : Canon (readRegs n addr acc s).2.2 := by
  induction n generalizing addr acc s with
  | zero => exact hs
  | succ k ih =>
    unfold readRegs
    split
    · simp [hs]
    split
    · exact hs
    split
    · exact ih (by simp [hs]) _ _
    · exact ih hs _ _
@[simp] theorem canon_opReadReg (hs : Canon s) (r addr count) : Canon (opReadReg r addr count s) := by
  refine canon_request hs _ _ _ _ fun x t ht => ?_
  have h := canon_readRegs ht count addr []
  dsimp only; (repeat' split) <;> simp [h, ht]
@[simp] theorem canon_opWriteReg (hs : Canon s) (r addr v) : Canon (opWriteReg r addr v s) := by
  unfold opWriteReg; (repeat' split) <;> simp +contextual [hs]

end

/-! ### Commands and steps -/

/-- A command keeps the tables as its meaning does; one with operands outside the part leaves them. -/
theorem canon_wfRun {i : Instr} {f : State → State} {s t : State} (h : wfRun i f s = .next t)
    (hf : ∀ u, Canon u → Canon (f u)) (hs : Canon s) : Canon t := by
  obtain rfl : _ = t := Host.Outcome.next.inj h
  split
  · exact hf s.begin hs
  · exact hs

theorem exec_canon (c : Instr) {s t : State} (h : exec c s = .next t) (hs : Canon s) : Canon t := by
  cases c
  all_goals dsimp only [exec] at h
  case awnTim lane n => exact canon_wfRun h (fun u hu => canon_awnStep hu lane _ fun e _ => laneTim_wf e n) hs
  case awnTrs lane n => exact canon_wfRun h (fun u hu => canon_awnStep hu lane _ fun _ _ => laneTrs_wf n) hs
  all_goals exact canon_wfRun h (fun u hu => by simp [hu]) hs

theorem canon_tick {s : State} (hs : Canon s) : Canon (tick s) := by
  obtain ⟨k, a, h, -⟩ := tick_eq s
  rw [h]; exact hs

/-- Settles O59: a step is 8 ns of time, which leave the tables as they are, or a command, whose meaning keeps each of them
in its canonical form. -/
theorem tablesStayCanonical : Obligations.TablesStayCanonical := by
  intro s t h hs
  rw [canonical_iff] at hs ⊢
  cases hp : s.pending with
  | nil =>
    obtain rfl : tick s = t := Host.Outcome.next.inj ((step_idle s hp).symm.trans h)
    exact canon_tick hs
  | cons c r => exact exec_canon c ((step_front s c r hp).symm.trans h) hs

end Sys2Proof.Machine
end

section
/-! PROOF. What errors and events leave in the state (01 R12, R13, R32, 19 R391, R393, R396). -/

namespace Sys2Proof.Machine

/-! ### Sticky errors (R12, R32) -/

theorem bitOf_or (a b : Word) (i : Nat) : bitOf (a ||| b) i = (bitOf a i || bitOf b i) := BitVec.getLsbD_or ..

theorem bitOf_placeB_self {i : Nat} (h : i < 32) (b : Bool) : bitOf (placeB b i) i = b := by
  cases b
  · simp [placeB, bitOf]
  · simp only [placeB, bitOf, if_true, BitVec.getLsbD_ofNat, h, decide_true, Nat.testBit_two_pow_self, Bool.and_self]

/-- A raised error stands in the status. -/
theorem raise_status_self (e : ErrBlk) {bit : Nat} (h : bit < 32) (info aux aux2 : Word) :
    bitOf (e.raise bit info aux aux2).status bit = true := by
  unfold ErrBlk.raise
  split <;> simp [bitOf_or, bitOf_placeB_self h]

/-- The capture takes the first error while VALID is 0. -/
theorem raise_capture (e : ErrBlk) (bit : Nat) (info aux aux2 : Word) (h : bitOf e.info 0 = false) :
    e.raise bit info aux aux2 =
      { e with status := e.status ||| placeB true bit, info := (info &&& ~~~3) ||| (e.info &&& 2) ||| 1,
               aux := aux, aux2 := aux2 } := by
  unfold ErrBlk.raise
  rw [if_neg (by simp [h])]

/-! ### Events -/

/-- What a record given leaves in Granary depends on the module state, the supervisor's quench, the cycle number and Granary
alone. -/
theorem enqueue_grn_congr {s t : State} (hmod : t.mod = s.mod) (hq : t.sup.quenchSince = s.sup.quenchSince)
    (hcyc : t.cyc = s.cyc) (hgrn : t.grn = s.grn) (r : Rec) : (enqueue r t).grn = (enqueue r s).grn := by
  have hword : cycleWord t = cycleWord s := by rw [cycleWord, cycleWord, hcyc]
  have hmode : t.mod.mode = s.mod.mode := congrArg _ hmod
  unfold enqueue
  by_cases hoff : s.mod.mode = .powerOff
  · rw [if_pos hoff, if_pos (hmode.trans hoff), hgrn]
  rw [if_neg hoff, if_neg (hmode ▸ hoff)]
  by_cases hquench : s.sup.quenchSince.isSome = true
  · rw [if_pos hquench, if_pos (hq ▸ hquench)]
    exact hgrn
  rw [if_neg hquench, if_neg (hq ▸ hquench)]
  by_cases hsup : s.mod.mode = .supervised
  · rw [if_pos hsup, if_pos (hmode.trans hsup), hgrn, apply_ite State.grn, apply_ite State.grn, hgrn]
  rw [if_neg hsup, if_neg (hmode ▸ hsup), hgrn, apply_ite State.grn, apply_ite State.grn, apply_ite State.grn,
    apply_ite State.grn]
  simp only [dropRecord, lifeAdd, hgrn, hword]

/-- The stamp of a record likewise, with the role and the operating time. -/
theorem stamped_congr {s t : State} (hmod : t.mod = s.mod) (hrole : t.pair.role = s.pair.role)
    (hsecs : t.aon.secs = s.aon.secs) (hns : t.aon.secNs = s.aon.secNs) (hgrn : t.grn = s.grn) (code detail flags : Nat)
    (d0 d1 : Word) : stamped t code detail flags d0 d1 = stamped s code detail flags d0 d1 := by
  unfold stamped
  rw [hmod, hrole, hsecs, hns, hgrn]

/-- What an event leaves in Granary depends on those alone. -/
theorem event_grn_congr {s t : State} (hmod : t.mod = s.mod) (hrole : t.pair.role = s.pair.role)
    (hq : t.sup.quenchSince = s.sup.quenchSince) (hsecs : t.aon.secs = s.aon.secs) (hns : t.aon.secNs = s.aon.secNs)
    (hcyc : t.cyc = s.cyc) (hgrn : t.grn = s.grn) (code detail : Nat) (d0 d1 : Word) :
    (event code detail d0 d1 t).grn = (event code detail d0 d1 s).grn := by
  unfold event eventAt
  rw [stamped_congr hmod hrole hsecs hns hgrn, apply_ite State.grn, apply_ite State.grn, hgrn,
    enqueue_grn_congr (s := lifeAdd (lifeOff code) 1 s) (t := lifeAdd (lifeOff code) 1 t) hmod hq hcyc (by simp [lifeAdd, hgrn])]
  rw [hmod]

end Sys2Proof.Machine
end

section
/-! PROOF. The always-on domain (01 R35, 08 R200, R201). -/

namespace Sys2Proof.Machine

/-! ### Snapshots and the clock (R35, R200) -/

theorem aonSnap_request {s : State} {init : Nat} (hinit : init < 64) : exec (.aonSnap init 1) s =
    .next { s.begin with aon := { s.aon with done := false, snapSince := some s.clk.now } } := by
  rw [exec_aonSnap, wfRun_next _ _ _ (by simp [Instr.wf, hinit])]
  rfl

theorem aonSnapDone_due {s : State} {t0 : Nat} (ht : s.aon.snapSince = some t0) (hdue : t0 + 30518 ≤ s.clk.now) :
    exec .aonSnapDone s = .next { s.begin with
      aon := { s.aon with done := true, snapSince := none, snapSecs := s.aon.secs, snapRtc := s.aon.rtc, snapSub := s.aon.rtcSub } } := by
  have hd : due s.begin.aon.snapSince 30518 s.begin.clk.now = true := by simp [State.begin, due, ht, hdue]
  rw [exec_aonSnapDone, wfRun_next _ _ _ rfl, opAonSnapDone, if_pos hd]
  rfl

theorem aonRtcSet_security {s : State} (hq : s.sup.quenchSince = none) :
    GivesOnly [.aon, .sec, .grn] (.aonRtcSet 0x2B 1) s (fun t =>
      t.aon = { s.aon with rtc := s.aon.setHi.toNat * 2 ^ 32 + s.aon.setLo.toNat, rtcSub := 0, rtcFrac := 0 } ∧
      t.sec = { s.sec with clockSet := true } ∧
      t.grn = (event 0x2C20 0 (w32 s.aon.rtc) (w32 (s.aon.setHi.toNat * 2 ^ 32 + s.aon.setLo.toNat)) s).grn) := by
  have hx := wfRun_next (.aonRtcSet 0x2B 1) (opAonRtcSet 0x2B 1) s rfl
  rw [← exec_aonRtcSet, opAonRtcSet, if_pos (by decide), event_grn _ _ _ _ _ (by exact hq)] at hx
  refine ⟨_, hx, ⟨rfl, rfl, by apply event_grn_congr <;> rfl⟩, ?_⟩
  intro x hx
  cases x
  case aon | sec | grn => simp at hx
  all_goals rfl

theorem aonRtcSet_other {s : State} {init : Nat} {v : Word} (hinit : init < 64) (hne : init ≠ 0x2B) :
    exec (.aonRtcSet init v) s = .next s.begin := by
  rw [exec_aonRtcSet, wfRun_next _ _ _ (by simp [Instr.wf, hinit]), opAonRtcSet, if_neg (fun h => hne h.1)]
  rfl

/-! ### The cell (R200, R201) -/

/-- What of the supervisor an error of an episode leaves: the error raised, and open episodes. -/
theorem raiseSupEpisode_eq (bit code detail value info : Nat) (s : State) (hq : s.sup.quenchSince = none) :
    raiseSupEpisode bit code detail value info s = { s with
      grn := (raiseSupEpisode bit code detail value info s).grn,
      sup := { s.sup with err := s.sup.err.raise bit (supInfo bit info) (cycleWord s) 0,
                          episodes := (raiseSupEpisode bit code detail value info s).sup.episodes } } := by
  unfold raiseSupEpisode
  dsimp only
  split
  · rfl
  · rw [event_grn _ _ _ _ _ (by exact hq)]
    rfl

/-- What a measurement of the cell leaves outside Granary and the open episodes. -/
theorem opCellMeasurement_eq (mv : Nat) (s : State) (hq : s.sup.quenchSince = none) (hon : s.mod.mode ≠ .powerOff) :
    let bad := decide (mv < Config.cellLow) || decide (mv < 1800)
    opCellMeasurement mv s = { s with
      grn := (opCellMeasurement mv s).grn,
      aon := { s.aon with cellMv := mv, cellLow := decide (mv < Config.cellLow), cellMissing := decide (mv < 1800),
                          alive := !decide (mv < 1800) },
      sup := { s.sup with
        cellBad := bad, episodes := (opCellMeasurement mv s).sup.episodes,
        err := if bad then s.sup.err.raise 6 (supInfo 6 (mv / 10)) (cycleWord s) 0 else s.sup.err } } := by
  intro bad
  unfold opCellMeasurement
  rw [if_neg hon]
  cases hb : bad <;> dsimp only <;> rw [show (decide (mv < Config.cellLow) || decide (mv < 1800)) = _ from hb]
  · cases s.sup.cellBad <;> rfl
  · simp only [Bool.true_or, if_true]
    rw [raiseSupEpisode_eq _ _ _ _ _ _ (by exact hq)]
    rfl

/-- CELL's level lies from 2.45 V to 2.55 V. -/
theorem cellLow_range : 2450 ≤ Config.cellLow ∧ Config.cellLow ≤ 2550 := by
  unfold Config.cellLow Config.within
  omega

theorem cellMeasurement_on {s : State} (hq : s.sup.quenchSince = none) (hon : s.mod.mode ≠ .powerOff) {mv : Nat}
    (hmv : mv < 4096) : GivesOnly [.aon, .sup, .grn] (.cellMeasurement mv) s (fun t =>
      t.aon.cellMv = mv ∧ (mv < 2450 → t.aon.cellLow = true ∧ bitOf t.sup.err.status 6 = true) ∧
      (2550 ≤ mv → t.aon.cellLow = false ∧ t.sup.err = s.sup.err) ∧ t.aon.cellMissing = decide (mv < 1800) ∧
      t.aon.secs = s.aon.secs ∧ t.aon.rtc = s.aon.rtc) := by
  obtain ⟨hlo, hhi⟩ := cellLow_range
  have hx := wfRun_next (.cellMeasurement mv) (opCellMeasurement mv) s (by simp [Instr.wf, hmv])
  rw [← exec_cellMeasurement, opCellMeasurement_eq mv s.begin (by exact hq) (by exact hon)] at hx
  refine ⟨_, hx, ⟨rfl, fun h => ?_, fun h => ?_, rfl, rfl, rfl⟩, ?_⟩
  · have hbad : mv < Config.cellLow := by omega
    simp only [hbad, decide_true, Bool.true_or, if_true, true_and]
    exact raise_status_self _ (by decide) _ _ _
  · have hlow : ¬ mv < Config.cellLow := by omega
    have hmiss : ¬ mv < 1800 := by omega
    simp only [hlow, hmiss, decide_false, Bool.or_self, Bool.false_eq_true, if_false, true_and]
    rfl
  · intro x hx
    cases x
    case aon | sup | grn => simp at hx
    all_goals rfl

/-! ### Episodes (R201) -/

theorem errorEpisodeEnd_lplus {s : State} {last : Nat} (he : s.sup.episodes = [(0x2C06, last)]) :
    (last + 10000000000 ≤ s.clk.now → exec (.errorEpisodeEnd ⟨0x2C06, 0⟩) s =
      .next { s.begin with sup := { s.sup with episodes := [] } }) ∧
    (s.clk.now < last + 10000000000 → exec (.errorEpisodeEnd ⟨0x2C06, 0⟩) s = .next s.begin) := by
  have hx := exec_errorEpisodeEnd ⟨0x2C06, 0⟩ s
  rw [wfRun_next _ _ _ (by simp [Instr.wf])] at hx
  simp only [opErrorEpisodeEnd, State.begin, he, List.filter_cons, List.filter_nil, true_and] at hx
  refine ⟨fun h => ?_, fun h => ?_⟩
  · simp only [h, decide_true, Bool.not_true, Bool.false_eq_true, if_false] at hx
    exact hx
  · have hkeep : ¬ last + 10000000000 ≤ s.clk.now := by omega
    simp only [hkeep, decide_false, Bool.not_false, if_true, ← he] at hx
    exact hx

/-- Settles O11: each of the domain's commands is its operation, and the cell's measurement leaves what
`opCellMeasurement_eq` says. -/
theorem alwaysOnDomain : Obligations.AlwaysOnDomain := fun _ hq =>
  ⟨fun _ => aonSnap_request, fun _ => aonSnapDone_due, aonRtcSet_security hq, fun _ _ => aonRtcSet_other,
    fun hon _ => cellMeasurement_on hq hon, fun _ => errorEpisodeEnd_lplus⟩

end Sys2Proof.Machine
end

section
/-! PROOF. The frame of a command: composing what changes nothing but some parts of the state. -/

namespace Sys2Proof.Machine

theorem StatePart.same_refl (p : StatePart) (s : State) : p.same s s := by cases p <;> rfl

theorem StatePart.same_trans {p : StatePart} {s t u : State} (h : p.same s t) (h' : p.same t u) : p.same s u := by
  cases p <;> exact Eq.trans h' h

theorem Only.refl (ps : List StatePart) (s : State) : Only ps s s := fun p _ => p.same_refl s

/-- Steps that change few parts, one after the other. -/
theorem Only.then {ps qs : List StatePart} {s t u : State} (h : Only ps s t) (h' : Only qs t u) (hsub : qs ⊆ ps) :
    Only ps s u := fun p hp => StatePart.same_trans (h p hp) (h' p fun hq => hp (hsub hq))

theorem Only.weaken {ps qs : List StatePart} {s t : State} (h : Only qs s t) (hsub : qs ⊆ ps) : Only ps s t :=
  (Only.refl ps s).then h hsub

theorem Only.ite {ps : List StatePart} {s t u : State} (c : Prop) [Decidable c] (h : Only ps s t) (h' : Only ps s u) :
    Only ps s (if c then t else u) := by
  split
  · exact h
  · exact h'

theorem Only.forAll {α : Type} {ps : List StatePart} (l : List α) (f : α → State → State) (s : State)
    (hf : ∀ a t, Only ps t (f a t)) : Only ps s (forAll l f s) :=
  forAll_keeps (P := Only ps s) l f s (fun a _ h => h.then (hf a _) (List.Subset.refl _)) (Only.refl ps s)

/-- Two states that agree in every part but those listed, as equations. -/
theorem only_iff (ps : List StatePart) (s t : State) : Only ps s t ↔
    ((.pending ∈ ps ∨ t.pending = s.pending) ∧ (.clk ∈ ps ∨ t.clk = s.clk) ∧ (.mod ∈ ps ∨ t.mod = s.mod) ∧
     (.mem ∈ ps ∨ t.mem = s.mem) ∧ (.lk ∈ ps ∨ t.lk = s.lk) ∧ (.img ∈ ps ∨ t.img = s.img) ∧ (.rch ∈ ps ∨ t.rch = s.rch) ∧
     (.trd ∈ ps ∨ t.trd = s.trd) ∧ (.awn ∈ ps ∨ t.awn = s.awn) ∧ (.cyc ∈ ps ∨ t.cyc = s.cyc) ∧ (.sch ∈ ps ∨ t.sch = s.sch) ∧
     (.vyf ∈ ps ∨ t.vyf = s.vyf) ∧ (.fab ∈ ps ∨ t.fab = s.fab) ∧ (.hub ∈ ps ∨ t.hub = s.hub) ∧ (.pair ∈ ps ∨ t.pair = s.pair) ∧
     (.glm ∈ ps ∨ t.glm = s.glm) ∧ (.fio ∈ ps ∨ t.fio = s.fio) ∧ (.can0 ∈ ps ∨ t.can0 = s.can0) ∧
     (.can1 ∈ ps ∨ t.can1 = s.can1) ∧ (.culm ∈ ps ∨ t.culm = s.culm) ∧ (.sup ∈ ps ∨ t.sup = s.sup) ∧
     (.aon ∈ ps ∨ t.aon = s.aon) ∧ (.sec ∈ ps ∨ t.sec = s.sec) ∧ (.area ∈ ps ∨ t.area = s.area) ∧
     (.fuse ∈ ps ∨ t.fuse = s.fuse) ∧ (.thr ∈ ps ∨ t.thr = s.thr) ∧ (.grn ∈ ps ∨ t.grn = s.grn) ∧
     (.eng ∈ ps ∨ t.eng = s.eng)) := by
  have hp : ∀ p : StatePart, (p ∉ ps → p.same s t) ↔ (p ∈ ps ∨ p.same s t) := fun p => by tauto
  unfold Only
  simp only [hp]
  constructor
  · exact fun h => ⟨h .pending, h .clk, h .mod, h .mem, h .lk, h .img, h .rch, h .trd, h .awn, h .cyc, h .sch, h .vyf,
      h .fab, h .hub, h .pair, h .glm, h .fio, h .can0, h .can1, h .culm, h .sup, h .aon, h .sec, h .area, h .fuse, h .thr,
      h .grn, h .eng⟩
  · rintro ⟨h1, h2, h3, h4, h5, h6, h7, h8, h9, h10, h11, h12, h13, h14, h15, h16, h17, h18, h19, h20, h21, h22, h23, h24,
      h25, h26, h27, h28⟩ p
    cases p <;> assumption

/-! ### From a command's operation -/

/-- A well-formed command completes with what its operation leaves; the frame is the operation's. -/
theorem givesOnly_of_run {ps : List StatePart} {c : Instr} {f : State → State} {s : State} {P : State → Prop}
    (hx : exec c s = wfRun c f s) (hw : c.wf = true) (ho : Only ps s.begin (f s.begin))
    (hP : P { f s.begin with pending := s.pending }) : GivesOnly ps c s P := by
  rw [wfRun_next _ _ _ hw] at hx
  refine ⟨_, hx, hP, fun p hp => ?_⟩
  have h := ho p hp
  cases p
  case pending => rfl
  all_goals exact h

theorem gives_of_run {c : Instr} {f : State → State} {s : State} {P : State → Prop} (hx : exec c s = wfRun c f s)
    (hw : c.wf = true) (hP : P { f s.begin with pending := s.pending }) : Gives c s P := by
  rw [wfRun_next _ _ _ hw] at hx
  exact ⟨_, hx, hP⟩

/-! ### The operations that every chapter shares -/

theorem only_emit (o : Out) (s : State) : Only [] s (emit o s) := by simp [only_iff, emit]

theorem only_forAll_emit {α : Type} (l : List α) (o : α → Out) (s : State) :
    Only [] s (forAll l (fun a t => emit (o a) t) s) := .forAll l _ s fun _ _ => only_emit _ _

theorem only_lifeAdd (off n : Nat) (s : State) : Only [.grn] s (lifeAdd off n s) := by simp [only_iff, lifeAdd]

theorem only_eventAt (off code detail : Nat) (d0 d1 : Word) (s : State) :
    Only [.grn, .sup] s (eventAt off code detail d0 d1 s) := by
  rw [eventAt_frame]; simp [only_iff]

theorem only_event (code detail : Nat) (d0 d1 : Word) (s : State) : Only [.grn, .sup] s (event code detail d0 d1 s) :=
  only_eventAt _ _ _ _ _ _

theorem only_eventRate (code idx detail : Nat) (d1 : Word) (s : State) :
    Only [.grn, .sup] s (eventRate code idx detail d1 s) := by
  unfold eventRate eventRateAt
  split
  · exact .refl _ s
  · split
    · simp [only_iff, lifeAdd]
    · rw [enqueue_frame]; simp [only_iff, lifeAdd]

theorem only_event_calm (code detail : Nat) (d0 d1 : Word) {s : State} (h : s.sup.quenchSince = none) :
    Only [.grn] s (event code detail d0 d1 s) := by
  rw [event_grn _ _ _ _ _ h]; simp [only_iff]

end Sys2Proof.Machine
end

section
/-! PROOF. Fields of register values, and what a capture register holds (00 R7, 01 R32). -/

namespace Sys2Proof.Machine

theorem bitOf_and (a b : Word) (i : Nat) : bitOf (a &&& b) i = (bitOf a i && bitOf b i) := BitVec.getLsbD_and ..

theorem bitOf_place {v hi lo i : Nat} (h : i < 32) :
    bitOf (place v hi lo) i = (decide (lo ≤ i ∧ i ≤ hi) && v.testBit (i - lo)) := by
  simp only [place, bitOf, BitVec.getLsbD_ofNat, h, decide_true, Bool.true_and, Nat.testBit_shiftLeft,
    Nat.testBit_mod_two_pow]
  by_cases h1 : lo ≤ i <;> by_cases h2 : i ≤ hi <;> simp [h1, h2] <;> omega

theorem bitOf_placeB {i j : Nat} (hj : j < 32) (b : Bool) :
    bitOf (placeB b i) j = (decide (i = j) && b) := by
  cases b
  · simp [placeB, bitOf]
  · simp only [placeB, bitOf, if_true, BitVec.getLsbD_ofNat, hj, decide_true, Nat.testBit_two_pow, Bool.true_and, Bool.and_true]

/-- A field is the number whose bits the register has at the field's places. -/
theorem fieldOf_eq {w : Word} {hi lo n : Nat} (hn : n < 2 ^ (hi + 1 - lo))
    (h : ∀ i, i < hi + 1 - lo → bitOf w (lo + i) = n.testBit i) : fieldOf w hi lo = n := by
  refine Nat.eq_of_testBit_eq fun i => ?_
  rw [fieldOf, Nat.testBit_mod_two_pow, Nat.testBit_shiftRight]
  by_cases hi' : i < hi + 1 - lo
  · rw [decide_eq_true hi', Bool.true_and, ← h i hi']; rfl
  · rw [decide_eq_false hi', Bool.false_and,
      Nat.testBit_lt_two_pow (hn.trans_le (Nat.pow_le_pow_right (by decide) (by omega)))]

/-- Above its flags VALID and OVF the capture holds what is captured. -/
theorem bitOf_captured (info old : Word) {i : Nat} (h2 : 2 ≤ i) (h : i < 32) :
    bitOf ((info &&& ~~~3) ||| (old &&& 2) ||| 1) i = bitOf info i := by
  have h3 : ∀ n : Nat, n < 4 → bitOf (BitVec.ofNat 32 n) i = false := fun n hn => by
    simp only [bitOf, BitVec.getLsbD_ofNat, h, decide_true, Bool.true_and]
    exact Nat.testBit_lt_two_pow (hn.trans_le (Nat.pow_le_pow_right (n := 2) (by decide) h2))
  have hnot : bitOf (~~~3 : Word) i = true := by
    rw [bitOf, BitVec.getLsbD_not, show (3 : Word).getLsbD i = false from h3 3 (by decide)]
    simp [h]
  rw [bitOf_or, bitOf_or, bitOf_and, bitOf_and, hnot, show bitOf 2 i = false from h3 2 (by decide),
    show bitOf 1 i = false from h3 1 (by decide)]
  simp

/-- A raised error leaves every other bit of the status. -/
theorem raise_status_ne (e : ErrBlk) {bit i : Nat} (hi : i < 32) (hne : bit ≠ i) (info aux aux2 : Word) :
    bitOf (e.raise bit info aux aux2).status i = bitOf e.status i := by
  have hp : bitOf (placeB true bit) i = false := by rw [bitOf_placeB hi]; simp [hne]
  unfold ErrBlk.raise
  split <;> simp [bitOf_or, hp]

end Sys2Proof.Machine
end

section
/-! PROOF. What a Rachis error leaves: its bit, its capture and its record (01 R30, R31, R32). -/

namespace Sys2Proof.Machine

theorem raiseRch_calm (bit code source init : Nat) (write : Bool) (resp addr : Nat) {s : State}
    (h : s.sup.quenchSince = none) : raiseRch bit code source init write resp addr s =
      { errRch bit source init write resp addr s with grn := (raiseRch bit code source init write resp addr s).grn } :=
  event_grn _ _ _ _ _ h

theorem raiseRchCe_calm (init : Nat) (write : Bool) (addr : Nat) {s : State} (h : s.sup.quenchSince = none) :
    raiseRchCe init write addr s = { errRch 0 0 init write 0 addr s with grn := (raiseRchCe init write addr s).grn } :=
  eventRate_grn _ _ _ _ _ h

theorem raiseMem_calm (bit code unit addr : Nat) {s : State} (h : s.sup.quenchSince = none) :
    raiseMem bit code unit addr s = { errMem bit unit addr s with grn := (raiseMem bit code unit addr s).grn } :=
  event_grn _ _ _ _ _ h

theorem raiseMce_calm (unit addr : Nat) {s : State} (h : s.sup.quenchSince = none) :
    raiseMce unit addr s = { errMem 0 unit addr s with grn := (raiseMce unit addr s).grn } := eventRate_grn _ _ _ _ _ h

theorem errRch_status (bit source init : Nat) (write : Bool) (resp addr : Nat) (s : State) (h : bit < 32) :
    bitOf (errRch bit source init write resp addr s).rch.err.status bit = true := raise_status_self _ h ..

/-- What the capture of Rachis takes while VALID is 0. -/
theorem errRch_capture {bit source init resp addr : Nat} {write : Bool} {s : State} (h : bitOf s.rch.err.info 0 = false)
    (hs : source < 16) (hi : init < 64) (hr : resp < 8) :
    (errRch bit source init write resp addr s).rch.err.aux = BitVec.ofNat 32 addr ∧
    (errRch bit source init write resp addr s).rch.err.aux2 = BitVec.ofNat 32 (addr / 2 ^ 32 % 16) ∧
    fieldOf (errRch bit source init write resp addr s).rch.err.info 19 16 = source ∧
    fieldOf (errRch bit source init write resp addr s).rch.err.info 13 8 = init ∧
    fieldOf (errRch bit source init write resp addr s).rch.err.info 4 2 = resp ∧
    bitOf (errRch bit source init write resp addr s).rch.err.info 5 = write := by
  have hinfo : ∀ i, 2 ≤ i → i < 32 → bitOf (errRch bit source init write resp addr s).rch.err.info i =
      (decide (16 ≤ i ∧ i ≤ 19) && source.testBit (i - 16) || decide (8 ≤ i ∧ i ≤ 13) && init.testBit (i - 8) ||
        decide (5 = i) && write || decide (2 ≤ i ∧ i ≤ 4) && resp.testBit (i - 2)) := fun i h2 hlt => by
    simp only [errRch, raise_capture _ _ _ _ _ h]
    rw [bitOf_captured _ _ h2 hlt, bitOf_or, bitOf_or, bitOf_or, bitOf_place hlt, bitOf_place hlt, bitOf_place hlt,
      bitOf_placeB hlt]
  refine ⟨?_, ?_, fieldOf_eq (by omega) fun i hlt => ?_, fieldOf_eq (by omega) fun i hlt => ?_,
    fieldOf_eq (by omega) fun i hlt => ?_, ?_⟩
  · simp only [errRch, raise_capture _ _ _ _ _ h]; rfl
  · simp only [errRch, raise_capture _ _ _ _ _ h]; rfl
  · rw [hinfo _ (by omega) (by omega), decide_eq_true (show 16 ≤ 16 + i ∧ 16 + i ≤ 19 by omega),
      decide_eq_false (show ¬ (8 ≤ 16 + i ∧ 16 + i ≤ 13) by omega), decide_eq_false (show ¬ 5 = 16 + i by omega),
      decide_eq_false (show ¬ (2 ≤ 16 + i ∧ 16 + i ≤ 4) by omega)]
    simp
  · rw [hinfo _ (by omega) (by omega), decide_eq_false (show ¬ (16 ≤ 8 + i ∧ 8 + i ≤ 19) by omega),
      decide_eq_true (show 8 ≤ 8 + i ∧ 8 + i ≤ 13 by omega), decide_eq_false (show ¬ 5 = 8 + i by omega),
      decide_eq_false (show ¬ (2 ≤ 8 + i ∧ 8 + i ≤ 4) by omega)]
    simp
  · rw [hinfo _ (by omega) (by omega), decide_eq_false (show ¬ (16 ≤ 2 + i ∧ 2 + i ≤ 19) by omega),
      decide_eq_false (show ¬ (8 ≤ 2 + i ∧ 2 + i ≤ 13) by omega), decide_eq_false (show ¬ 5 = 2 + i by omega),
      decide_eq_true (show 2 ≤ 2 + i ∧ 2 + i ≤ 4 by omega)]
    simp
  · rw [hinfo _ (by omega) (by omega)]
    simp

end Sys2Proof.Machine
end

section
/-! PROOF. What stands while work is aborted: the errors and clock faults of Rachis, the triads' errors and states, the module
state (01 R30, R33, 16 R342). -/

namespace Sys2Proof.Machine

/-! ### What stands

Aborting what a bridge, a controller or a session holds may raise errors of its own, DECODE of Rachis among them where an
access is offered to the bridge again, and may answer a triad's read. It leaves these as they are. -/

/-- The sticky errors of Rachis but DECODE, its clock faults, the triads' errors and states, the module state, the image. -/
structure Standing where
  mod : Mod
  img : Img
  errors : Word
  clkFault : List Nat
  trdErr : ErrBlk
  states : List Nat

/-- What stands in a state. -/
def standing (s : State) : Standing where
  mod := s.mod
  img := s.img
  errors := s.rch.err.status &&& ~~~placeB true 3
  clkFault := s.rch.clkFault
  trdErr := s.trd.err
  states := s.trd.triads.map (·.state)

/-- A bit of an error that stands. -/
theorem bitOf_of_standing {s t : State} {m : Mod} (h : standing t = { standing s with mod := m }) {i : Nat} (hi : i < 32) (hne : i ≠ 3) :
    bitOf t.rch.err.status i = bitOf s.rch.err.status i := by
  have he : ∀ w : Word, bitOf (w &&& ~~~placeB true 3) i = bitOf w i := fun w => by
    have : bitOf (~~~placeB true 3) i = true := by
      rw [bitOf, BitVec.getLsbD_not, show (placeB true 3).getLsbD i = _ from bitOf_placeB hi true]
      simp [hi, Ne.symm hne]
    rw [bitOf_and, this, Bool.and_true]
  have herr : t.rch.err.status &&& ~~~placeB true 3 = s.rch.err.status &&& ~~~placeB true 3 := by injection h
  rw [← he, herr, he]

theorem img_of_standing {s t : State} {m : Mod} (h : standing t = { standing s with mod := m }) : t.img = s.img := by
  injection h

theorem trdErr_of_standing {s t : State} {m : Mod} (h : standing t = { standing s with mod := m }) :
    t.trd.err = s.trd.err := by injection h

theorem states_of_standing {s t : State} {m : Mod} (h : standing t = { standing s with mod := m }) :
    t.trd.triads.map (·.state) = s.trd.triads.map (·.state) := by injection h

theorem mod_of_standing {s t : State} {m : Mod} (h : standing t = { standing s with mod := m }) : t.mod = m := by
  injection h

theorem clkFault_of_standing {s t : State} {m : Mod} (h : standing t = { standing s with mod := m }) :
    t.rch.clkFault = s.rch.clkFault := by injection h

theorem state_of_states {s t : State} (hm : t.trd.triads.map (·.state) = s.trd.triads.map (·.state)) (n : Nat) :
    (t.tri n).state = (s.tri n).state := by
  have hs : ∀ l : List Triad, nth (l.map (·.state)) n 0 = (nth l n {}).state := fun l => nth_map (·.state) l n {}
  rw [State.tri, State.tri, ← hs, ← hs, hm]

/-- Where neither Rachis nor the triads nor the module state nor the image changes, all of it stands. -/
theorem standing_of_only {ps : List StatePart} {s t : State} (h : Only ps s t)
    (hps : ∀ p ∈ [StatePart.mod, .img, .rch, .trd], p ∉ ps) : standing t = standing s := by
  unfold standing
  rw [show t.mod = s.mod from h _ (hps .mod (by decide)), show t.img = s.img from h _ (hps .img (by decide)),
    show t.rch = s.rch from h _ (hps .rch (by decide)), show t.trd = s.trd from h _ (hps .trd (by decide))]

theorem standing_forAll {α : Type} (l : List α) (f : α → State → State) (s : State)
    (h : ∀ a s, standing (f a s) = standing s) : standing (forAll l f s) = standing s :=
  forAll_keeps (P := fun t => standing t = standing s) l f s (fun a t ht => (h a t).trans ht) rfl

/-! ### Operations of every chapter -/

theorem standing_emit (o s) : standing (emit o s) = standing s := rfl
theorem standing_respond (init code data s) : standing (respond init code data s) = standing s := rfl

theorem standing_event (code detail d0 d1 s) : standing (event code detail d0 d1 s) = standing s :=
  standing_of_only (only_event _ _ _ _ _) (by decide)

theorem standing_eventRate (code idx detail d1 s) : standing (eventRate code idx detail d1 s) = standing s :=
  standing_of_only (only_eventRate _ _ _ _ _) (by decide)

theorem standing_raiseDecode (code source init write resp addr s) :
    standing (raiseRch 3 code source init write resp addr s) = standing s := by
  have hclear : ∀ w : Word, (w ||| placeB true 3) &&& ~~~placeB true 3 = w &&& ~~~placeB true 3 := fun w => by
    ext i hi
    simp only [BitVec.getElem_and, BitVec.getElem_or, BitVec.getElem_not]
    cases (placeB true 3)[i] <;> simp
  rw [raiseRch, standing_event]
  simp only [standing, errRch, ErrBlk.raise]
  split <;> simp only [hclear]

/-! ### The bridge (16) -/

theorem standing_culmLog (kind outcome inbound win addr mask s) :
    standing (culmLog kind outcome inbound win addr mask s) = standing s := rfl

theorem standing_raiseCulm (bit code outcome inbound win master addr s) :
    standing (raiseCulm bit code outcome inbound win master addr s) = standing s := standing_event ..

theorem standing_raiseCulmRate (bit code outcome inbound win master addr s) :
    standing (raiseCulmRate bit code outcome inbound win master addr s) = standing s := standing_eventRate ..

theorem standing_answerItem (init addr code data s) : standing (answerItem init addr code data s) = standing s := by
  unfold answerItem
  split
  · simp only [standing, modTri]
    rw [map_modAt]
    exact fun _ => rfl
  · rfl

theorem standing_abortOut (resp outcome o s) : standing (abortOut resp outcome o s) = standing s := by
  unfold abortOut
  split
  · rw [standing_culmLog, standing_raiseCulm]
  · exact standing_answerItem ..

theorem standing_abortAllOut (resp outcome s) : standing (abortAllOut resp outcome s) = standing s :=
  standing_forAll _ _ _ fun _ _ => standing_abortOut ..

theorem standing_discardBuf (b s) : standing (discardBuf b s) = standing s := by
  simp only [discardBuf]
  split
  · rfl
  · rw [standing_culmLog, standing_raiseCulmRate]; rfl

theorem standing_discardBufs (p s) : standing (discardBufs p s) = standing s :=
  standing_forAll _ _ _ fun _ _ => standing_discardBuf ..

theorem standing_freeBuf (s) : standing (freeBuf s) = standing s := by
  unfold freeBuf
  split
  · split
    · exact standing_discardBuf ..
    · rfl
  · rfl

theorem standing_serveBuf (b init addr size s) : standing (serveBuf b init addr size s) = standing s := by
  rw [serveBuf, standing_answerItem]; rfl

theorem standing_pushOut (i w posted prefetch s) : standing (pushOut i w posted prefetch s) = standing s := rfl

theorem standing_waitAtPort (since i s) : standing (waitAtPort since i s) = standing s := rfl

theorem standing_culmOffer (since i s) : standing (culmOffer since i s) = standing s := by
  unfold culmOffer
  dsimp only
  (repeat' split) <;> simp only [standing_waitAtPort, standing_answerItem, standing_raiseDecode, standing_raiseCulmRate,
    standing_serveBuf, standing_pushOut, standing_freeBuf, standing_discardBufs]
  all_goals rfl

theorem standing_admitWaiting (s) : standing (admitWaiting s) = standing s :=
  standing_forAll _ _ _ fun _ _ => standing_culmOffer ..

theorem standing_culmAbortAll (resp outcome s) : standing (culmAbortAll resp outcome s) = standing s := by
  unfold culmAbortAll
  dsimp only
  rw [standing_admitWaiting]
  refine (standing_forAll _ _ _ fun _ _ => standing_emit ..).trans ?_
  rw [standing_discardBufs, standing_abortAllOut]

theorem standing_culmSafe (s) : standing (culmSafe s) = standing s :=
  (standing_admitWaiting _).trans (standing_abortAllOut ..)

/-- Aborting the bridge's outbound work and discarding its buffers answers what waits for it. -/
def bridgeParts : List StatePart := [.culm, .trd, .grn, .sup]

theorem only_answerItem (init addr code data s) : Only [.trd] s (answerItem init addr code data s) :=
  .ite _ (by simp [only_iff, modTri]) ((only_emit _ _).weaken (by decide))

theorem only_errCulm (bit info addr s) : Only [.culm] s (errCulm bit info addr s) := by simp [only_iff, errCulm]

theorem only_culmLog (kind outcome inbound win addr mask s) :
    Only [.culm] s (culmLog kind outcome inbound win addr mask s) := by simp [only_iff, culmLog]

theorem only_raiseCulm (bit code outcome inbound win master addr s) :
    Only [.culm, .grn, .sup] s (raiseCulm bit code outcome inbound win master addr s) :=
  ((only_errCulm _ _ _ s).weaken (by decide)).then (only_event _ _ _ _ _) (by decide)

theorem only_raiseCulmRate (bit code outcome inbound win master addr s) :
    Only [.culm, .grn, .sup] s (raiseCulmRate bit code outcome inbound win master addr s) :=
  ((only_errCulm _ _ _ s).weaken (by decide)).then (only_eventRate _ _ _ _ _) (by decide)

theorem only_abortOut (resp outcome o s) : Only bridgeParts s (abortOut resp outcome o s) :=
  .ite _ (((only_raiseCulm _ _ _ _ _ _ _ s).weaken (by decide)).then (only_culmLog _ _ _ _ _ _ _) (by decide))
    ((only_answerItem _ _ _ _ _).weaken (by decide))

theorem only_abortAllOut (resp outcome s) : Only bridgeParts s (abortAllOut resp outcome s) :=
  Only.then (t := { s with culm := _ }) (by simp [only_iff, bridgeParts]) (.forAll _ _ _ fun _ _ => only_abortOut _ _ _ _)
    (List.Subset.refl _)

theorem only_discardBuf (b s) : Only [.culm, .grn, .sup] s (discardBuf b s) := by
  have h₁ : Only [.culm, .grn, .sup] s { s with culm := { s.culm with bufs := s.culm.bufs.filter (fun x => x ≠ b) } } := by
    simp [only_iff]
  exact .ite _ h₁ ((h₁.then (only_raiseCulmRate _ _ _ _ _ _ _ _) (List.Subset.refl _)).then (only_culmLog _ _ _ _ _ _ _)
    (by decide))

theorem only_discardBufs (p s) : Only [.culm, .grn, .sup] s (discardBufs p s) :=
  .forAll _ _ _ fun _ _ => only_discardBuf _ _

/-- With nothing at the port, aborting the bridge's work leaves Rachis as it is. -/
theorem culmAbortAll_rch {s : State} (h : s.rch.flight = []) (resp outcome : Nat) :
    (culmAbortAll resp outcome s).rch = s.rch := by
  unfold culmAbortAll
  extract_lets s₁ ins s₂ culm
  have h₁ : s₁.rch = s.rch := (((only_abortAllOut resp outcome s).then (only_discardBufs _ _) (by decide)) .rch (by decide))
  have h₂ : s₂.rch = s.rch := ((only_forAll_emit _ _ _) .rch (by decide)).trans h₁
  simp only [admitWaiting, h₂, h, List.filter_nil, forAll]
  rw [← h]

/-! ### Channels, hub, controllers, sessions (01 R33, R40, R41) -/

theorem only_modChan (ch f s) : Only [.vyf] s (modChan ch f s) := by
  unfold modChan
  split <;> simp [only_iff]

theorem only_chanHalt (ch : Nat) (s : State) : Only [.vyf, .fab] s (chanHalt ch s) := by
  have h := (only_modChan ch (fun (c : VyfCh) => { c with wrote := none, buf := none }) s).weaken
    (show _ ⊆ [StatePart.vyf, .fab] by decide)
  unfold chanHalt
  dsimp only
  split
  · exact (h.then (qs := [.fab]) (by simp [only_iff]) (by decide)).then (only_emit _ _) (by decide)
  · exact h.then (qs := [.fab]) (by simp [only_iff]) (by decide)

theorem only_hubHalt (code : Nat) (s : State) : Only [.hub] s (hubHalt code s) :=
  Only.then (t := { s with hub := { s.hub with tx := [], rx := [] } }) (by simp [only_iff]) (only_forAll_emit _ _ _)
    (by decide)

/-- The parts that a controller that leaves its bus may change: the Glume connections it carried and their stations lose
their transport. -/
def canParts : List StatePart := [.can0, .can1, .glm, .cyc, .grn, .sup]

theorem only_setCan (s n c) : Only canParts s (State.setCan s n c) := by
  unfold State.setCan
  split <;> simp [only_iff, canParts]

theorem only_modCan (n f s) : Only canParts s (modCan n f s) := only_setCan _ _ _

theorem only_raiseRefLost (n s) : Only canParts s (raiseRefLost n s) := by
  unfold raiseRefLost
  extract_lets epi s₁ s₂
  have h : Only canParts s s₂ := (only_modCan n _ s).then (only_setCan _ _ _) (List.Subset.refl _)
  exact .ite _ (h.then (only_lifeAdd _ _ _) (by decide)) (h.then (only_eventAt _ _ _ _ _ _) (by decide))

theorem only_refAbort (n s) : Only canParts s (refAbort n s) := by
  unfold refAbort
  split
  · exact .refl _ _
  · exact (only_modCan n _ _).then (only_raiseRefLost n _) (List.Subset.refl _)

theorem only_canAbortAll (n outcome s) : Only canParts s (canAbortAll n outcome s) :=
  Only.then (.forAll _ _ _ fun _ t => (only_modCan n _ t).then (only_modCan n _ _) (List.Subset.refl _))
    (only_refAbort n _) (List.Subset.refl _)

theorem only_stationLost (c s) : Only canParts s (stationLost c s) := by
  unfold stationLost
  split
  · exact .refl _ _
  · simp [only_iff, canParts, modStn]

theorem only_connLeave (c dest cause s) : Only canParts s (connLeave c dest cause s) := by
  unfold connLeave
  extract_lets x s₁
  have h₁ : Only canParts s s₁ := by simp [only_iff, canParts, s₁, modConn]
  have herr : ∀ t, Only canParts t (errGlm 5 (glmInfo 5 c) t) := fun t => by simp [only_iff, canParts, errGlm]
  exact .ite _ (((h₁.then (herr _) (List.Subset.refl _)).then (only_event _ _ _ _ _) (by decide)).then (only_stationLost c _)
    (List.Subset.refl _)) h₁

theorem only_canLost (n obj s) : Only canParts s (canLost n obj s) :=
  .forAll _ _ _ fun c t => .ite _ (only_connLeave c 1 3 t) (.refl _ _)

theorem only_canLeave (n outcome s) : Only canParts s (canLeave n outcome s) :=
  ((only_canAbortAll n outcome s).then (only_modCan n _ _) (List.Subset.refl _)).then (only_canLost n none _)
    (List.Subset.refl _)

/-- What ends an engine's work for rung 3 leaves Rachis, the triads, the module state and the engines' clocks alone. -/
theorem only_engineRestart (e : Nat) (s : State) : Only (canParts ++ [.vyf, .fab, .hub, .pair]) s (engineRestart e s) := by
  unfold engineRestart
  split
  · exact (only_chanHalt 0 s).weaken (by decide)
  · exact (only_chanHalt 1 s).weaken (by decide)
  · exact (only_hubHalt 2 s).weaken (by decide)
  · simp [only_iff, canParts]
  · refine ((((only_canLeave 0 2 s).then (only_canLeave 1 2 _) (List.Subset.refl _)).then (only_modCan 0 _ _)
      (List.Subset.refl _)).then (only_modCan 1 _ _) (List.Subset.refl _)).weaken (by decide)
  · simp [only_iff, canParts]

theorem only_dropSession (ses s) : Only [.sec] s (dropSession ses s) := by simp [only_iff, dropSession]

theorem only_dropStream (x code reset s) : Only [.sec, .fab] s (dropStream x code reset s) := by
  unfold dropStream
  extract_lets fab s₁
  have h₁ : Only [.sec, .fab] s s₁ :=
    Only.then (t := { s with fab := _ }) (by simp [only_iff]) (only_emit _ _) (by decide)
  split
  · exact h₁.then (only_emit _ _) (by decide)
  · split
    · exact h₁.then (only_dropSession _ _) (by decide)
    · exact h₁

theorem only_pushClose (x reason s) : Only [.fab] s (pushClose x reason s) := by simp [only_iff, pushClose, pushMsg]

theorem only_closeSession (ses s) : Only [.sec, .fab] s (closeSession ses s) := by
  have hdrop : Only [.sec, .fab] s (dropSession ses s) := (only_dropSession ses s).weaken (by decide)
  unfold closeSession
  split
  · exact .refl _ _
  · split
    · exact hdrop
    · split
      · exact (hdrop.then (only_dropStream _ _ _ _) (List.Subset.refl _)).then (only_pushClose _ _ _) (by decide)
      · exact hdrop

theorem only_closeLocal (s) : Only [.sec, .fab] s (closeLocal s) := .forAll _ _ _ fun _ _ => only_closeSession _ _

theorem only_closeOthers (keep s) : Only [.sec, .fab] s (closeOthers keep s) :=
  .forAll _ _ _ fun _ t => .ite _ (.refl _ t) (only_closeSession _ _)

/-! ### Entry to SAFE (00 R4) -/

theorem only_fioOff (s) : Only [.fio] s (fioOff s) := by
  refine Only.then (t := { s with fio := _ }) (by simp [only_iff]) (.forAll (ps := [.fio]) _ _ _ fun n t => ?_) (by decide)
  unfold dqSwitch
  split <;> simp [only_iff, modDq]

theorem only_braceEnd (s) : Only [.sup, .sch, .grn] s (braceEnd s) := by
  unfold braceEnd
  split
  · exact .refl _ _
  · exact Only.then (t := { s with sup := _, sch := _ }) (by simp [only_iff]) (only_event _ _ _ _ _) (by decide)

/-- Entry to SAFE leaves what stands but the module state, which from RUN is SAFE. -/
theorem standing_enterSafe (cause : Nat) (s : State) :
    ∃ m, standing (enterSafe cause s) = { standing s with mod := m } ∧ (s.mod.mode = .run → m.mode = .safe) := by
  unfold enterSafe
  split
  · refine ⟨{ s.mod with mode := .safe, safeSeen := true }, ?_, fun _ => rfl⟩
    dsimp only
    rw [standing_event, standing_culmSafe, standing_of_only (only_fioOff _) (by decide),
      standing_of_only (only_braceEnd _) (by decide)]
    rfl
  · rename_i hno
    exact ⟨s.mod, rfl, fun hrun => absurd ⟨by rw [hrun]; rfl, by rw [hrun]; decide, by rw [hrun]; decide⟩ hno⟩

end Sys2Proof.Machine
end

section
/-! PROOF. Rungs, clock monitors and scrubbers (01 R33, R40, R41, 07 R171, R173, R185). -/

namespace Sys2Proof.Machine

/-! ### Rung 1 (R40, R41) -/

theorem forAll_emit {α : Type} (l : List α) (o : α → Out) (s : State) :
    forAll l (fun a t => emit (o a) t) s = { s with out := s.out ++ l.map o } := by
  induction l generalizing s with
  | nil => simp [forAll]
  | cons a l ih => rw [forAll, ih]; simp [emit]

/-- The response that ends a transaction without its target. -/
def ended (code : Nat) (f : Flight) : Out :=
  .response f.txn.init code (if f.txn.kind = .write then [] else zeros f.txn.size)

theorem endFlight_eq (code : Nat) (f : Flight) (s : State) : endFlight code f s = emit (ended code f) s := rfl

theorem raiseTmo_calm (init : Nat) (write : Bool) (addr : Nat) {s : State} (h : s.sup.quenchSince = none) :
    ∃ g, raiseTmo init write addr s = { errRch 4 0 init write 4 addr s with grn := g } := ⟨_, raiseRch_calm _ _ _ _ _ _ _ h⟩

theorem busTimeout_ends {s : State} {tg : Target} {f : Flight} {rest : List Flight} (hq : s.sup.quenchSince = none)
    (hw : tg.wf = true) (hne : tg ≠ .culm)
    (hf : s.rch.flight.filter (fun g => decide (targetOf g.txn.addr = some tg)) = f :: rest)
    (hdue : f.since + 4000 ≤ s.clk.now) : GivesOnly [.rch, .grn] (.busTimeout tg) s (fun t =>
      t.out = ended 4 f :: rest.map (ended 6) ∧
      t.rch.flight = s.rch.flight.filter (fun g => decide (targetOf g.txn.addr ≠ some tg)) ∧
      bitOf t.rch.err.status 4 = true) := by
  have hf' : s.begin.rch.flight.filter (fun g => decide (targetOf g.txn.addr = some tg)) = f :: rest := hf
  have hd : due (some f.since) 4000 s.begin.clk.now = true := decide_eq_true hdue
  obtain ⟨g, hg⟩ := raiseTmo_calm f.txn.init (decide (f.txn.kind = .write)) f.txn.addr
    (s := { s.begin with rch := { s.rch with
      flight := s.rch.flight.filter (fun g => !decide (targetOf g.txn.addr = some tg)) } }) hq
  have hop : opBusTimeout tg s.begin = forAll rest (endFlight 6) (endFlight 4 f (raiseTmo f.txn.init
      (decide (f.txn.kind = .write)) f.txn.addr { s.begin with rch := { s.rch with
        flight := s.rch.flight.filter (fun g => !decide (targetOf g.txn.addr = some tg)) } })) := by
    simp only [opBusTimeout, if_neg hne, hf', hd, if_true]
    rfl
  rw [hg, show endFlight 6 = fun a t => emit (ended 6 a) t from rfl, forAll_emit] at hop
  refine givesOnly_of_run (exec_busTimeout tg s) hw ?_ ?_ <;> rw [hop]
  · simp [only_iff, endFlight_eq, emit, errRch]
  · exact ⟨rfl, by simp [endFlight_eq, emit, errRch], errRch_status _ _ _ _ _ _ _ (by decide)⟩

/-! ### The bridge's backstop (R40, R41) -/

/-- What the backstop does once it has taken the transactions off the port. -/
theorem backstop_rch {s : State} (h : s.rch.flight = []) (l : List Flight) (init addr : Nat) (data : List Byte) :
    (culmAbortAll 6 2 (forAll l (endFlight 6) (answerItem init addr 4 data s))).rch = s.rch := by
  have hrch : (forAll l (endFlight 6) (answerItem init addr 4 data s)).rch = s.rch :=
    ((only_answerItem init addr 4 data s).then (only_forAll_emit l (ended 6) _) (by decide)) .rch (by decide)
  rw [culmAbortAll_rch ((congrArg Rch.flight hrch).trans h), hrch]

theorem backstop_ends {s : State} {f : Flight} (hq : s.sup.quenchSince = none) (hfl : s.rch.flight = [f])
    (hculm : toCulm f.txn.addr = true) (hout : s.culm.out = []) (hdue : f.since + 100000 ≤ s.clk.now) :
    Gives .bridgeBackstopTimeout s (fun t => t.rch.flight = [] ∧ bitOf t.rch.err.status 4 = true) := by
  have hold : bridgeOldest s.begin = some (f.since, f.txn) := by
    simp [bridgeOldest, State.begin, hfl, hculm, hout]
  have hd : due (some f.since) 100000 s.begin.clk.now = true := decide_eq_true hdue
  obtain ⟨g, hg⟩ := raiseTmo_calm f.txn.init (decide (f.txn.kind = .write)) f.txn.addr (s := s.begin) hq
  have hport : s.begin.rch.flight.filter (fun g => !toCulm g.txn.addr) = [] := by simp [State.begin, hfl, hculm]
  refine gives_of_run (f := opBridgeBackstopTimeout) rfl rfl ?_
  simp only [opBridgeBackstopTimeout, hold, hd, if_true]
  rw [backstop_rch] <;> rw [hg]
  · exact ⟨hport, errRch_status _ _ _ _ _ _ _ (by decide)⟩
  · exact hport

/-! ### Rung 3 and the clock monitors (R33, R40, R41) -/

/-- ENG and CLK: what the error leaves, its captured transaction drawn. -/
theorem raiseSource_calm (bit code source : Nat) {s : State} (hq : s.sup.quenchSince = none) :
    Only [.rch, .grn] s (raiseSource bit code source s) := by
  rw [raiseSource, raiseRch_calm _ _ _ _ _ _ _ (by exact hq)]
  simp [only_iff, errRch, drawnN]

theorem raiseSource_status {bit : Nat} (hb : bit < 32) (code source : Nat) {s : State} (hq : s.sup.quenchSince = none) :
    bitOf (raiseSource bit code source s).rch.err.status bit = true := by
  rw [raiseSource, raiseRch_calm _ _ _ _ _ _ _ (by exact hq)]
  exact errRch_status _ _ _ _ _ _ _ hb

theorem raiseSource_source {bit code source : Nat} (hs : source < 16) {s : State} (hq : s.sup.quenchSince = none)
    (hv : bitOf s.rch.err.info 0 = false) : fieldOf (raiseSource bit code source s).rch.err.info 19 16 = source := by
  rw [raiseSource, raiseRch_calm _ _ _ _ _ _ _ (by exact hq)]
  exact (errRch_capture (s := drawnN 4 s) hv hs (Nat.mod_lt _ (by decide)) (by omega)).2.2.1

theorem engineHolds_engineRestart {e : Nat} (he : e < 6) (hne : e ≠ 4) (s : State) :
    engineHolds e (engineRestart e s) = false := by
  have hchan : ∀ ch, ch < 2 → engineHolds ch (chanHalt ch s) = false := fun ch hch => by
    have hout : ∀ (c : Prop) [Decidable c] (o : Out) (t : State),
        engineHolds ch (if c then emit o t else t) = engineHolds ch t := fun c _ o t => by
      split <;> rfl
    rw [chanHalt]
    dsimp only
    rw [hout]
    obtain rfl | rfl : ch = 0 ∨ ch = 1 := by omega
    · simp [engineHolds, vch, modChan, slotsHeld]
    · simp [engineHolds, vch, modChan, slotsHeld]
      exact fun _ _ _ _ _ => by decide
  match e, he, hne with
  | 0, _, _ => exact hchan 0 (by decide)
  | 1, _, _ => exact hchan 1 (by decide)
  | 2, _, _ =>
    simp only [engineHolds, engineRestart, hubHalt, forAll_emit]
    rfl
  | 3, _, _ => rfl
  | 5, _, _ => rfl

theorem getElem?_modAt_self {α : Type} (l : List α) (i : Nat) (f : α → α) : (modAt l i f)[i]? = l[i]?.map f := by
  induction l generalizing i with
  | nil => rfl
  | cons a l ih => cases i with
    | zero => rfl
    | succ i => simpa [modAt] using ih i

/-- Rung 3 of an engine that holds work: ENG with the engine, its work ended. -/
theorem engineWatchdog_due {s : State} {e t0 : Nat} (hq : s.sup.quenchSince = none) (hrel : s.mod.mode.released = true)
    (he : e < 6) (ht : s.eng[e]? = some t0) (hh : engineHolds e s = true) (hdue : t0 + 140000 ≤ s.clk.now) :
    Gives (.engineWatchdog e) s (fun t => bitOf t.rch.err.status 5 = true ∧ t.mod = s.mod ∧ t.eng[e]? = some s.clk.now ∧
      (e ≠ 4 → engineHolds e t = false) ∧
      (bitOf s.rch.err.info 0 = false → fieldOf t.rch.err.info 19 16 = e)) := by
  have hd : due s.begin.eng[e]? 140000 s.begin.clk.now = true := by
    rw [show s.begin.eng[e]? = some t0 from ht]; exact decide_eq_true hdue
  have hrel' : s.begin.mod.mode.released = true := hrel
  have hh' : engineHolds e s.begin = true := hh
  have hsrc := raiseSource_calm 5 0x3406 e (s := s.begin) hq
  have hre := only_engineRestart e (raiseSource 5 0x3406 e s.begin)
  have hrch : (engineRestart e (raiseSource 5 0x3406 e s.begin)).rch = (raiseSource 5 0x3406 e s.begin).rch :=
    hre .rch (by decide)
  refine gives_of_run (exec_engineWatchdog e s) (by simp [Instr.wf, he]) ?_
  simp only [opEngineWatchdog, hrel', hh', hd, Bool.and_self, if_true, hrch]
  refine ⟨raiseSource_status (by decide) _ _ hq, ?_, ?_, fun hne => engineHolds_engineRestart he hne _,
    fun hv => raiseSource_source (by omega) hq hv⟩
  · exact (hre .mod (by decide)).trans (hsrc .mod (by decide))
  · rw [show (engineRestart e (raiseSource 5 0x3406 e s.begin)).eng = s.eng from
      (hre .eng (by decide)).trans (hsrc .eng (by decide)), getElem?_modAt_self, ht]
    exact congrArg (fun c => some c.now) ((hre .clk (by decide)).trans (hsrc .clk (by decide)))

theorem engineWatchdog_early {s : State} {e t0 : Nat} (he : e < 6) (ht : s.eng[e]? = some t0)
    (hearly : s.clk.now < t0 + 140000) : exec (.engineWatchdog e) s = .next s.begin := by
  have hd : due s.begin.eng[e]? 140000 s.begin.clk.now = false := by
    rw [show s.begin.eng[e]? = some t0 from ht]; exact decide_eq_false (by show ¬ t0 + 140000 ≤ s.clk.now; omega)
  rw [exec_engineWatchdog, wfRun_next _ _ _ (by simp [Instr.wf, he]), opEngineWatchdog, hd, Bool.and_false]
  rfl

/-- The fault of clock domain `d` raised: CLK, and the domain in RCH_CLK. -/
def clkRaised (d : Nat) (s : State) : State :=
  raiseSource 6 0x3407 d { s with rch := { s.rch with
    clkFault := if s.rch.clkFault.contains d then s.rch.clkFault else s.rch.clkFault ++ [d] } }

theorem clkRaised_mod (d : Nat) {s : State} (hq : s.sup.quenchSince = none) : (clkRaised d s).mod = s.mod := by
  rw [clkRaised, raiseSource_calm 6 0x3407 d (by exact hq) .mod (by decide)]

theorem clkRaised_status (d : Nat) {s : State} (hq : s.sup.quenchSince = none) :
    bitOf (clkRaised d s).rch.err.status 6 = true := raiseSource_status (by decide) _ _ hq

theorem mem_clkRaised (d : Nat) {s : State} (hq : s.sup.quenchSince = none) : d ∈ (clkRaised d s).rch.clkFault := by
  rw [clkRaised, raiseSource, raiseRch_calm _ _ _ _ _ _ _ (by exact hq)]
  show d ∈ (if s.rch.clkFault.contains d then s.rch.clkFault else s.rch.clkFault ++ [d])
  split
  · exact List.contains_iff_mem.1 ‹_›
  · simp

theorem closeSession_portClosed (ses : Nat) (s : State) : (closeSession ses s).sec.portClosed = s.sec.portClosed := by
  have hdrop : ∀ ses (s : State), (dropSession ses s).sec.portClosed = s.sec.portClosed := fun _ _ => rfl
  have hstream : ∀ x code reset (s : State), (dropStream x code reset s).sec.portClosed = s.sec.portClosed := by
    intro x code reset s
    simp only [dropStream]
    split
    · rfl
    · split <;> rfl
  unfold closeSession
  split
  · rfl
  · split
    · exact hdrop ses s
    · split
      · exact (hstream _ _ _ _).trans (hdrop ses s)
      · exact hdrop ses s

/-- What follows a domain's fault that does not send the module to SAFE (R33). -/
theorem opClockFault_stays {d : Nat} (hd : d ∈ [4, 5, 7, 8, 10, 11, 13]) {s : State} (hrel : s.mod.mode.released = true) :
    standing (opClockFault d s) = standing (clkRaised d s) ∧ (d = 4 → (opClockFault d s).vyf.chA.ok = false) ∧
      (d = 5 → (opClockFault d s).vyf.chB.ok = false) ∧ (d = 10 → (opClockFault d s).sec.portClosed = true) := by
  have hrel' : ¬ (!s.mod.mode.released) = true := by simp [hrel]
  simp only [List.mem_cons, List.not_mem_nil, or_false] at hd
  rcases hd with rfl | rfl | rfl | rfl | rfl | rfl | rfl <;> rw [opClockFault, if_neg hrel', ← clkRaised] <;>
    dsimp only
  · exact ⟨standing_of_only (only_modChan _ _ _) (by decide), fun _ => rfl, nofun, nofun⟩
  · exact ⟨standing_of_only (only_modChan _ _ _) (by decide), nofun, fun _ => rfl, nofun⟩
  · exact ⟨standing_culmAbortAll _ _ _, nofun, nofun, nofun⟩
  · exact ⟨standing_of_only ((only_canLeave 0 3 _).then (only_canLeave 1 3 _) (List.Subset.refl _)) (by decide), nofun,
      nofun, nofun⟩
  · refine ⟨(standing_of_only (only_closeLocal _) (by decide)).trans rfl, nofun, nofun, fun _ => ?_⟩
    exact forAll_keeps (P := fun t => t.sec.portClosed = true) _ _ _ (fun n t h => (closeSession_portClosed n t).trans h) rfl
  · exact ⟨rfl, nofun, nofun, nofun⟩
  · exact ⟨standing_of_only (only_closeOthers none _) (by decide), nofun, nofun, nofun⟩

theorem clockFault_stays {s : State} {d : Nat} (hq : s.sup.quenchSince = none) (hrel : s.mod.mode.released = true)
    (hd : d ∈ [4, 5, 7, 8, 10, 11, 13]) : Gives (.clockFault d) s (fun t =>
      t.mod.mode = s.mod.mode ∧ bitOf t.rch.err.status 6 = true ∧ d ∈ t.rch.clkFault ∧
      (d = 4 → t.vyf.chA.ok = false) ∧ (d = 5 → t.vyf.chB.ok = false) ∧ (d = 10 → t.sec.portClosed = true)) := by
  have hw : (Instr.clockFault d).wf = true := by
    simp only [List.mem_cons, List.not_mem_nil, or_false] at hd
    simp only [Instr.wf, Bool.and_eq_true, decide_eq_true_eq]
    omega
  obtain ⟨hstand, hrest⟩ := opClockFault_stays hd (s := s.begin) hrel
  have hq' : s.begin.sup.quenchSince = none := hq
  have hst : standing (opClockFault d s.begin) = { standing (clkRaised d s.begin) with mod := (clkRaised d s.begin).mod } := hstand
  refine gives_of_run (exec_clockFault d s) hw ⟨?_, ?_, ?_, hrest⟩
  · exact congrArg Mod.mode ((mod_of_standing hst).trans (clkRaised_mod d hq'))
  · exact (bitOf_of_standing hst (by decide) (by decide)).trans (clkRaised_status d hq')
  · exact (clkFault_of_standing hst).symm ▸ mem_clkRaised d hq'

theorem clockFault_safe {s : State} {d : Nat} (hq : s.sup.quenchSince = none) (hrun : s.mod.mode = .run)
    (hd : d ∈ [1, 2, 3, 6, 9, 12, 14]) : Gives (.clockFault d) s (fun t =>
      t.mod.mode = .safe ∧ bitOf t.rch.err.status 6 = true ∧ d ∈ t.rch.clkFault) := by
  have hrel' : ¬ (!s.begin.mod.mode.released) = true := by simp [State.begin, hrun, Mode.released]
  have hq' : s.begin.sup.quenchSince = none := hq
  simp only [List.mem_cons, List.not_mem_nil, or_false] at hd
  have hw : (Instr.clockFault d).wf = true := by
    simp only [Instr.wf, Bool.and_eq_true, decide_eq_true_eq]
    omega
  have hop : opClockFault d s.begin = enterSafe 0x3407 (clkRaised d s.begin) := by
    rcases hd with rfl | rfl | rfl | rfl | rfl | rfl | rfl <;> 
      rw [opClockFault, if_neg hrel', ← clkRaised] <;> rfl
  obtain ⟨m, hstand, hsafe⟩ := standing_enterSafe 0x3407 (clkRaised d s.begin)
  rw [← hop] at hstand
  have hmode : (clkRaised d s.begin).mod.mode = .run := by rw [clkRaised_mod d hq']; exact hrun
  refine gives_of_run (exec_clockFault d s) hw ⟨?_, ?_, ?_⟩
  · exact (congrArg Mod.mode (mod_of_standing hstand)).trans (hsafe hmode)
  · exact (bitOf_of_standing hstand (by decide) (by decide)).trans (clkRaised_status d hq')
  · exact (clkFault_of_standing hstand).symm ▸ mem_clkRaised d hq'

/-! ### The scrubbers (07 R171, R173, R185) -/

/-- A scrubber's next line and its count of full passes. -/
def scrubNext (n size pass : Nat) : Nat × Nat :=
  if n + 1 < size then (n + 1, pass) else (0, if pass < 65535 then pass + 1 else pass)

theorem dramScrubNext_eq (s : State) : dramScrubNext s = { s with rch := { s.rch with
    dramScrub := (scrubNext s.rch.dramScrub 0x4000000 s.rch.dramPasses).1,
    dramPasses := (scrubNext s.rch.dramScrub 0x4000000 s.rch.dramPasses).2 } } := by
  unfold dramScrubNext scrubNext
  dsimp only
  split <;> rfl

theorem mramScrubNext_eq (s : State) : mramScrubNext s = { s with rch := { s.rch with
    mramScrub := (scrubNext s.rch.mramScrub 0x40000 s.rch.mramPasses).1,
    mramPasses := (scrubNext s.rch.mramScrub 0x40000 s.rch.mramPasses).2 } } := by
  unfold mramScrubNext scrubNext
  dsimp only
  split <;> rfl

/-- Every byte of a marked line is damaged. -/
theorem touchesBad_markLine (bad : List Nat) {n a : Nat} (hlo : 64 * n ≤ a) (hhi : a < 64 * n + 64) :
    touchesBad (markLine bad (64 * n)) a 1 = true := by
  rw [touchesBad, List.any_eq_true]
  refine ⟨64 * n / 8 + (a / 8 - 8 * n), ?_, by simp only [decide_eq_true_eq]; omega⟩
  exact List.mem_append_right _ (List.mem_map.2 ⟨_, List.mem_range.2 (by omega), rfl⟩)

theorem dramScrub_line {s : State} (hq : s.sup.quenchSince = none) (hrel : s.mod.mode.released = true)
    (hdone : s.mod.dramDone = true) (hbad : touchesBad s.mem.dramBad (64 * s.rch.dramScrub) 64 = false) :
    let d := scrubNext s.rch.dramScrub 0x4000000 s.rch.dramPasses
    exec (.dramScrub .clean) s = .next { s.begin with rch := { s.rch with dramScrub := d.1, dramPasses := d.2 } } ∧
    GivesOnly [.rch, .grn] (.dramScrub .correctable) s (fun t => t.rch.dramScrub = d.1 ∧ t.rch.dramPasses = d.2 ∧
      bitOf t.rch.err.status 0 = true ∧ t.rch.mem = s.rch.mem) ∧
    GivesOnly [.rch, .grn, .mem] (.dramScrub .uncorrectable) s (fun t => t.rch.dramScrub = d.1 ∧
      t.rch.err = s.rch.err ∧ bitOf t.rch.mem.status 2 = true ∧ t.mem = { s.mem with dramBad := t.mem.dramBad } ∧
      (∀ a, 64 * s.rch.dramScrub ≤ a → a < 64 * s.rch.dramScrub + 64 → touchesBad t.mem.dramBad a 1 = true)) := by
  intro d
  have hop : ∀ r, opDramScrub r s.begin = match r with
      | .clean => dramScrubNext s.begin
      | .correctable => dramScrubNext (raiseRchCe (freshNat s % 64) false (dramBase + 64 * s.rch.dramScrub) (drawn s.begin))
      | .uncorrectable => dramScrubNext (raiseMem 2 0x340A 0 (dramBase + 64 * s.rch.dramScrub)
          { s.begin with mem := { s.mem with dramBad := markLine s.mem.dramBad (64 * s.rch.dramScrub) } }) := fun r => by
    have hfinds : scrubFinds s.begin.mem.dramBad (64 * s.begin.rch.dramScrub) r = r := by
      rw [scrubFinds, if_neg]
      exact Bool.eq_false_iff.1 hbad
    simp only [opDramScrub]
    rw [if_neg (by simp [State.begin, hrel, hdone]), hfinds]
    cases r <;> rfl
  have hclean := hop .clean
  have hcorr := hop .correctable
  have hunc := hop .uncorrectable
  dsimp only at hclean hcorr hunc
  rw [dramScrubNext_eq] at hclean
  rw [dramScrubNext_eq, raiseRchCe_calm _ _ _ (by exact hq)] at hcorr
  rw [dramScrubNext_eq, raiseMem_calm _ _ _ _ (by exact hq)] at hunc
  refine ⟨?_, givesOnly_of_run (f := opDramScrub .correctable) rfl rfl ?_ ?_,
    givesOnly_of_run (f := opDramScrub .uncorrectable) rfl rfl ?_ ?_⟩
  · rw [show exec (.dramScrub .clean) s = wfRun (.dramScrub .clean) (opDramScrub .clean) s from rfl, wfRun_next _ _ _ rfl,
      hclean]
    rfl
  · rw [hcorr]
    simp [only_iff, errRch, drawn]
  · rw [hcorr]
    exact ⟨rfl, rfl, errRch_status _ _ _ _ _ _ _ (by decide), rfl⟩
  · rw [hunc]
    simp [only_iff, errMem]
  · rw [hunc]
    exact ⟨rfl, rfl, raise_status_self _ (by decide) _ _ _, rfl, fun a => touchesBad_markLine _⟩

/-- A damaged line of the security area spoils a record of it; nothing else does. -/
theorem areaHit_frame (o : Nat) {s : State} (hq : s.sup.quenchSince = none) :
    Only [.area, .sec, .grn] s (areaHit o s) ∧
      (o < 0x10000 ∨ 0x40000 ≤ o → areaHit o s = s) := by
  constructor
  · refine .ite _ ?_ (.refl _ _)
    extract_lets k s₁ was s₂
    have h₁ : Only [.area, .sec, .grn] s s₁ := by simp [only_iff, s₁, drawn]
    have h₂ : Only [.area, .sec, .grn] s s₂ :=
      .ite _ (h₁.then (t := s₁) (qs := [.area]) (by simp [only_iff]) (by decide)) h₁
    have hq₂ : s₂.sup.quenchSince = none := (congrArg Sup.quenchSince (h₂ .sup (by decide))).trans hq
    have hsec : Only [.sec, .grn] s₂ (raiseSec 6 0x3D33 (k / 2) 0 15 0 0 s₂) :=
      Only.then (t := errSec 6 (secInfo 6 0 15) s₂) (by simp [only_iff, errSec]) (only_event_calm _ _ _ _ hq₂) (by decide)
    exact .ite _ (h₂.then hsec (by decide)) h₂
  · intro ho
    rw [areaHit, if_neg (by omega)]

theorem mramScrub_line {s : State} (hq : s.sup.quenchSince = none) (hrel : s.mod.mode.released = true)
    (hbad : touchesBad s.mem.mramBad (64 * s.rch.mramScrub) 64 = false) :
    let d := scrubNext s.rch.mramScrub 0x40000 s.rch.mramPasses
    exec (.mramScrub .clean) s = .next { s.begin with rch := { s.rch with mramScrub := d.1, mramPasses := d.2 } } ∧
    GivesOnly [.rch, .grn] (.mramScrub .correctable) s (fun t => t.rch.mramScrub = d.1 ∧ t.rch.mramPasses = d.2 ∧
      bitOf t.rch.mem.status 0 = true ∧ t.rch.err = s.rch.err) ∧
    GivesOnly [.rch, .grn, .mem, .area, .sec] (.mramScrub .uncorrectable) s (fun t => t.rch.mramScrub = d.1 ∧
      (64 * s.rch.mramScrub < 0x10000 ∨ 0x40000 ≤ 64 * s.rch.mramScrub → t.area = s.area ∧ t.sec = s.sec) ∧
      bitOf t.rch.mem.status 1 = true ∧ t.mem = { s.mem with mramBad := t.mem.mramBad } ∧
      (∀ a, 64 * s.rch.mramScrub ≤ a → a < 64 * s.rch.mramScrub + 64 → touchesBad t.mem.mramBad a 1 = true)) := by
  intro d
  have hop : ∀ r, opMramScrub r s.begin = match r with
      | .clean => mramScrubNext s.begin
      | .correctable => mramScrubNext (raiseMce 2 (mramBase + 64 * s.rch.mramScrub) s.begin)
      | .uncorrectable => mramScrubNext (raiseMem 1 0x3409 2 (mramBase + 64 * s.rch.mramScrub) (areaHit (64 * s.rch.mramScrub)
          { s.begin with mem := { s.mem with mramBad := markLine s.mem.mramBad (64 * s.rch.mramScrub) } })) := fun r => by
    have hfinds : scrubFinds s.begin.mem.mramBad (64 * s.begin.rch.mramScrub) r = r := by
      rw [scrubFinds, if_neg]
      exact Bool.eq_false_iff.1 hbad
    simp only [opMramScrub]
    rw [if_neg (by simp [State.begin, hrel]), hfinds]
    cases r <;> rfl
  have hclean := hop .clean
  have hcorr := hop .correctable
  have hunc := hop .uncorrectable
  dsimp only at hclean hcorr hunc
  rw [mramScrubNext_eq] at hclean
  rw [mramScrubNext_eq, raiseMce_calm _ _ (by exact hq)] at hcorr
  obtain ⟨hsteps, houtside⟩ := areaHit_frame (64 * s.rch.mramScrub)
    (s := { s.begin with mem := { s.mem with mramBad := markLine s.mem.mramBad (64 * s.rch.mramScrub) } }) hq
  generalize hA : areaHit (64 * s.rch.mramScrub)
    { s.begin with mem := { s.mem with mramBad := markLine s.mem.mramBad (64 * s.rch.mramScrub) } } = A at *
  have hqA : A.sup.quenchSince = none := (congrArg Sup.quenchSince (hsteps .sup (by decide))).trans hq
  rw [mramScrubNext_eq, raiseMem_calm _ _ _ _ hqA] at hunc
  have hrch : A.rch = s.rch := hsteps .rch (by decide)
  have hmem : A.mem = { s.mem with mramBad := markLine s.mem.mramBad (64 * s.rch.mramScrub) } := hsteps .mem (by decide)
  refine ⟨?_, givesOnly_of_run (f := opMramScrub .correctable) rfl rfl ?_ ?_,
    givesOnly_of_run (f := opMramScrub .uncorrectable) rfl rfl ?_ ?_⟩
  · rw [show exec (.mramScrub .clean) s = wfRun (.mramScrub .clean) (opMramScrub .clean) s from rfl, wfRun_next _ _ _ rfl,
      hclean]
    rfl
  · rw [hcorr]
    simp [only_iff, errMem]
  · rw [hcorr]
    exact ⟨rfl, rfl, raise_status_self _ (by decide) _ _ _, rfl⟩
  · rw [hunc]
    refine Only.then (qs := [.rch, .grn]) (Only.then (t := { s.begin with mem := _ }) ?_ hsteps (by decide)) ?_ (by decide)
    · simp [only_iff]
    · simp [only_iff, errMem]
  · rw [hunc]
    refine ⟨congrArg (fun r => (scrubNext r.mramScrub 0x40000 r.mramPasses).1) hrch, fun ho => ?_,
      raise_status_self _ (by decide) _ _ _, ?_, fun a h1 h2 => ?_⟩
    · show A.area = s.area ∧ A.sec = s.sec
      rw [houtside ho]
      exact ⟨rfl, rfl⟩
    · show A.mem = { s.mem with mramBad := A.mem.mramBad }
      rw [hmem]
    · show touchesBad A.mem.mramBad a 1 = true
      rw [hmem]
      exact touchesBad_markLine _ h1 h2

/-- Settles O7: what a rung, a clock fault or a scrub raises stands in what it then aborts (`standing`), and the engine's
restart leaves Rachis alone (`only_engineRestart`). -/
theorem rungsMonitorsAndScrubbers : Obligations.RungsMonitorsAndScrubbers := by
  refine ⟨fun s hrel hq => ⟨fun tg f rest hw hne hf hdue => busTimeout_ends hq hw hne hf hdue,
    fun f hfl hculm hout hdue => backstop_ends hq hfl hculm hout hdue,
    fun e t0 he ht hh => ⟨engineWatchdog_due hq hrel he ht hh, engineWatchdog_early he ht⟩,
    fun d hd hrun => clockFault_safe hq hrun hd, fun d hd => clockFault_stays hq hrel hd⟩, fun s hrel hq => ?_⟩
  exact ⟨dramScrub_line hq hrel, mramScrub_line hq hrel⟩

end Sys2Proof.Machine
end

section
/-! PROOF. One beat that arrives changed: what its receiving end finds and hands on (01 R25, R26, R27). -/

namespace Sys2Proof.Machine

open Sys2Proof.Laws

/-! ### The columns of a beat -/

theorem weight_two_pow : ∀ n, n < 8 → weight (2 ^ n) = 1 := by decide

theorem dataColumn_good {k : Nat} (hk : k < 64) : weight (dataColumn k) % 2 = 1 ∧ 3 ≤ weight (dataColumn k) := by
  have h := colsOk_at dataColumn_ok hk
  simp only [dataColOk, Bool.and_eq_true, decide_eq_true_eq] at h
  exact ⟨h.1.2, h.2⟩

theorem beatColumn_data {k : Nat} (hk : k < 64) : beatColumn k = dataColumn k := if_pos hk

theorem beatColumn_check {k : Nat} (h64 : ¬ k < 64) (hk : k < 72) : beatColumn k = 2 ^ (k - 64) := by
  rw [beatColumn, if_neg h64, if_pos hk]

theorem weight_beatColumn {k : Nat} (hk : k < 72) : weight (beatColumn k) % 2 = 1 := by
  by_cases h64 : k < 64
  · rw [beatColumn_data h64]; exact (dataColumn_good h64).1
  · rw [beatColumn_check h64 hk, weight_two_pow _ (by omega)]

theorem beatColumn_ne_zero {k : Nat} (hk : k < 72) : beatColumn k ≠ 0 := by
  intro h
  have := weight_beatColumn hk
  rw [h] at this
  exact absurd this (by decide)

/-- The 72 columns are all different: data columns have weight 3 at least, check columns weight 1. -/
theorem beatColumn_inj {i j : Nat} (hi : i < 72) (hj : j < 72) (h : beatColumn i = beatColumn j) : i = j := by
  have hw := congrArg weight h
  by_cases hi' : i < 64 <;> by_cases hj' : j < 64
  · rw [beatColumn_data hi', beatColumn_data hj'] at h
    exact not_imp_comm.1 (colsOk_ne dataColumn_ok hi' hj') (not_not.2 h)
  · rw [beatColumn_data hi', beatColumn_check hj' hj, weight_two_pow _ (by omega)] at hw
    have := (dataColumn_good hi').2
    omega
  · rw [beatColumn_data hj', beatColumn_check hi' hi, weight_two_pow _ (by omega)] at hw
    have := (dataColumn_good hj').2
    omega
  · rw [beatColumn_check hi' hi, beatColumn_check hj' hj] at h
    have := Nat.pow_right_injective (Nat.le_refl 2) h
    omega

/-- A syndrome that is a column points at its bit. -/
theorem pointed_beatColumn {k : Nat} (hk : k < 72) : pointed (beatColumn k) = some k := by
  rw [pointed, List.find?_range_eq_some]
  refine ⟨by simp, List.mem_range.2 hk, fun j hj => ?_⟩
  simp only [Bool.not_eq_true', beq_eq_false_iff_ne]
  exact fun h => absurd (beatColumn_inj (by omega) hk h) (by omega)

theorem beatFound_one {k : Nat} (hk : k < 72) : beatFound [k] 0 = .corrected := by
  have hs : syndrome [k] 0 = beatColumn k := by simp [syndrome]
  simp [beatFound, hs, beatColumn_ne_zero hk, weight_beatColumn hk, pointed_beatColumn hk]

/-- Two bits of a beat changed, data or check bits, are uncorrectable. -/
theorem beatFound_pair {j k : Nat} (hj : j < 72) (hk : k < 72) (hne : j ≠ k) : beatFound [j, k] 0 = .uncorrectable := by
  have hs : syndrome [j, k] 0 = beatColumn j ^^^ beatColumn k := by simp [syndrome]
  have hz : beatColumn j ^^^ beatColumn k ≠ 0 := xor_ne_zero fun h => hne (beatColumn_inj hj hk h)
  have hw := weight_xor (beatColumn j) (beatColumn k)
  have hwj := weight_beatColumn hj
  have hwk := weight_beatColumn hk
  rw [beatFound, hs, if_neg (by simp), if_neg hz, if_pos (by omega)]

/-- A beat delivered to an address that differs in one or two bits is uncorrectable. -/
theorem beatFound_misplaced {j k : Nat} (hj : j < 29) (hk : k < 29) :
    beatFound [] (2 ^ (j + 3) ||| 2 ^ (k + 3)) = .uncorrectable := by
  by_cases hne : j = k
  · rw [hne, Nat.or_self]; exact beatFound_addr_one (by omega)
  · have hor : 2 ^ (j + 3) ||| 2 ^ (k + 3) = 2 ^ (j + 3) ^^^ 2 ^ (k + 3) := by
      refine Nat.eq_of_testBit_eq fun i => ?_
      rw [Nat.testBit_or, Nat.testBit_xor, Nat.testBit_two_pow, Nat.testBit_two_pow]
      by_cases h1 : j + 3 = i <;> by_cases h2 : k + 3 = i <;> simp [h1, h2]
      omega
    rw [hor]; exact beatFound_addr_two (by omega) (by omega) hne

/-! ### A transaction of one beat -/

theorem chk_clean {x : Txn} (hw : x.wire = {}) : x.chk = .good := by
  simp [Txn.chk, hw, Wire.of, Wire.offBy, beatFound_clean]

/-- What the checks find in a transaction of one beat is what they find in the beat. -/
theorem chk_one {x : Txn} (hbeats : x.beats = 1) (hctl : x.wire.ctl = false) (hp : beatFound (x.wire.of 0) x.wire.offBy ≠ .parity) :
    x.chk = beatFound (x.wire.of 0) x.wire.offBy := by
  simp only [Txn.chk, hctl, hbeats, Bool.false_eq_true, if_false]
  cases h : beatFound (x.wire.of 0) x.wire.offBy <;> simp [List.range, List.range.loop, h]
  exact hp h

/-- The two address bits of a misdelivery. -/
theorem offBy_bits {j k : Nat} (hj : j < 29) (hk : k < 29) :
    (2 ^ (j + 3) ||| 2 ^ (k + 3)) % 2 ^ 36 / 8 * 8 = 2 ^ (j + 3) ||| 2 ^ (k + 3) := by
  have hlt : 2 ^ (j + 3) ||| 2 ^ (k + 3) < 2 ^ 36 := Nat.or_lt_two_pow
    (Nat.pow_lt_pow_right (by decide) (by omega)) (Nat.pow_lt_pow_right (by decide) (by omega))
  have hmul : 2 ^ (j + 3) ||| 2 ^ (k + 3) = (2 ^ j ||| 2 ^ k) * 8 := by
    have := Nat.shiftLeft_or_distrib (i := 3) (a := 2 ^ j) (b := 2 ^ k)
    simpa only [Nat.shiftLeft_eq, ← Nat.pow_add] using this.symm
  rw [Nat.mod_eq_of_lt hlt]
  omega

theorem nth_of_lt {α : Type} {l : List α} {i : Nat} (d : α) (h : i < l.length) : nth l i d = l[i] := by
  induction l generalizing i with
  | nil => exact absurd h (Nat.not_lt_zero i)
  | cons a l ih => cases i with
    | zero => rfl
    | succ i => exact ih (Nat.lt_of_succ_lt_succ h)

/-- A beat with one bit changed is handed on as it was sent. -/
theorem deliver_one {w : Wire} {addr k : Nat} {bs : List Byte} (hk : k < 72) (hw : w = { flips := [(0, k)] })
    (ha : addr % 8 = 0) (hlen : bs.length = 8) : w.deliver addr bs = bs := by
  have hleft : w.left 0 = [k, k] := by
    simp [Wire.left, hw, Wire.of, Wire.offBy, syndrome, beatColumn_ne_zero hk, pointed_beatColumn hk]
  rw [Wire.deliver, if_neg (by simp [hw])]
  refine List.ext_getElem (by simp) fun i h1 h2 => ?_
  have hi : i / 8 = 0 := by omega
  simp only [List.getElem_map, List.getElem_range, ha, Nat.zero_add, hi, hleft, List.foldl_cons, List.foldl_nil,
    nth_of_lt _ h2]
  split
  · rw [BitVec.xor_assoc, BitVec.xor_self, BitVec.xor_zero]
  · rfl

end Sys2Proof.Machine
end

section
/-! PROOF. How a Rachis transaction ends (01 R20 to R30, 18 R380). -/

namespace Sys2Proof.Machine

/-! ### The map and the checks before the target (R20, R21, R22, R28) -/

theorem placeOf_dram {addr o : Nat} : placeOf addr = .dram o ↔ o < 0x100000000 ∧ addr = 0x100000000 + o := by
  unfold placeOf
  constructor
  · intro h
    (repeat' split at h) <;> simp at h
    omega
  · rintro ⟨ho, rfl⟩
    (repeat' split) <;> first | omega | simp

/-- Address bits below DRAM's size lead elsewhere in DRAM. -/
theorem placeOf_dram_xor {addr o d : Nat} (h : placeOf addr = .dram o) (hd : d < 2 ^ 32) :
    placeOf (addr ^^^ d) = .dram (o ^^^ d) := by
  obtain ⟨ho, rfl⟩ := placeOf_dram.1 h
  have hsum : ∀ b, b < 2 ^ 32 → 0x100000000 + b = 2 ^ 32 * 1 ||| b := fun b hb =>
    (Nat.two_pow_add_eq_or_of_lt hb 1)
  have hlt : o ^^^ d < 2 ^ 32 := Nat.xor_lt_two_pow ho hd
  refine placeOf_dram.2 ⟨hlt, ?_⟩
  rw [hsum o ho, hsum _ hlt]
  refine Nat.eq_of_testBit_eq fun i => ?_
  rw [Nat.testBit_xor, Nat.testBit_or, Nat.testBit_or, Nat.testBit_xor, Nat.mul_one, Nat.testBit_two_pow]
  by_cases hi : 32 = i
  · subst hi
    rw [Nat.testBit_lt_two_pow ho, Nat.testBit_lt_two_pow hd]
    rfl
  · simp [hi]

theorem placeOf_mram {addr o : Nat} : placeOf addr = .mram o ↔ o < 0x1000000 ∧ addr = 0x4000000 + o := by
  unfold placeOf
  constructor
  · intro h
    (repeat' split at h) <;> simp at h
    omega
  · rintro ⟨ho, rfl⟩
    (repeat' split) <;> first | omega | simp

theorem mapRefusal_firewall {s : State} {x : Txn} (h : firewallOk s x.init x.kind x.addr x.size = false) :
    mapRefusal s x.init x.kind x.addr x.size = some 2 := by
  simp [mapRefusal, h]

theorem mapRefusal_size {s : State} {x : Txn} (h : firewallOk s x.init x.kind x.addr x.size = true)
    (hs : rachisSizeOk x.addr x.size = false) : mapRefusal s x.init x.kind x.addr x.size = some 5 := by
  simp [mapRefusal, h, hs]

/-- A transaction to memory that the firewall grants, of R22's sizes, reaches it. -/
theorem rachisRefusal_memory {s : State} {x : Txn} (h : firewallOk s x.init x.kind x.addr x.size = true)
    (hs : sizeOk x.addr x.size = true) {o : Nat} (hp : placeOf x.addr = .dram o ∨ placeOf x.addr = .mram o) :
    rachisRefusal s x.init x.kind x.addr x.size = none := by
  have hsize : rachisSizeOk x.addr x.size = true := by
    have hreg : (decide (regBase ≤ x.addr) && decide (x.addr < regBase + 0x1000000)) = false := by
      rw [Bool.and_eq_false_iff, decide_eq_false_iff_not, decide_eq_false_iff_not]
      rcases hp with hp | hp
      · have := (placeOf_dram.1 hp).2; unfold regBase; omega
      · have := placeOf_mram.1 hp; unfold regBase; omega
    simp [rachisSizeOk, hs, hreg]
  rcases hp with hp | hp <;> simp [rachisRefusal, mapRefusal, h, hsize, hp, fencedIn]

/-! ### What a transaction does, by where it stops -/

theorem exec_transaction {s : State} {x : Txn} (hw : x.wf = true) (hrest : TriadsAtRest s)
    (ht : (opRachisTransaction x s.begin).trd = s.trd) :
    exec (.rachisTransaction x) s = .next { opRachisTransaction x s.begin with pending := s.pending } := by
  rw [exec_rachisTransaction]
  exact wfRun_settle_trd _ _ s hw hrest ht

theorem givesOnly_transaction {ps : List StatePart} {s : State} {x : Txn} {P : State → Prop} (hw : x.wf = true)
    (hrest : TriadsAtRest s) (ho : Only ps s.begin (opRachisTransaction x s.begin)) (htrd : .trd ∉ ps)
    (hP : P { opRachisTransaction x s.begin with pending := s.pending }) : GivesOnly ps (.rachisTransaction x) s P := by
  refine ⟨_, exec_transaction hw hrest (ho .trd htrd), hP, fun p hp => ?_⟩
  have h := ho p hp
  cases p
  case pending => rfl
  all_goals exact h

theorem opTransaction_refused {s : State} {x : Txn} {r : Nat} (hrel : s.mod.mode.released = true)
    (hout : fencedOut s x.init = false) (h : rachisRefusal s x.init x.kind x.addr x.size = some r) :
    opRachisTransaction x s = respond x.init r (if decide (x.kind = .write) then [] else zeros x.size)
      (refuse r x.init (decide (x.kind = .write)) x.addr x.size s).2.2 := by
  simp only [opRachisTransaction, hrel, hout, h, Bool.not_true, Bool.or_self, Bool.false_eq_true, if_false]
  rfl

theorem opTransaction_reaches {s : State} {x : Txn} (hrel : s.mod.mode.released = true)
    (hout : fencedOut s x.init = false) (h : rachisRefusal s x.init x.kind x.addr x.size = none) (ha : x.answers = true)
    (hb : waitsBehind x s = false) : opRachisTransaction x s = rachisEffect x s := by
  simp only [opRachisTransaction, hrel, hout, h, ha, hb, Bool.not_true, Bool.not_false, Bool.and_self, Bool.or_self,
    Bool.false_eq_true, if_false, if_true]

/-- The sticky error that a refusal raises (R30), with its event's code: ERR_DECODE, ERR_FIREWALL, ERR_DATA, ERR_SIZE. -/
theorem refuse_calm {r bit : Nat} (hr : (r, bit) ∈ [(1, 3), (2, 2), (3, 1), (5, 3)]) (init : Nat) (write : Bool)
    (addr n : Nat) {s : State} (hq : s.sup.quenchSince = none) :
    ∃ g, (refuse r init write addr n s).2.2 = { errRch bit 0 init write r addr s with grn := g } := by
  simp only [List.mem_cons, List.not_mem_nil, or_false, Prod.mk.injEq] at hr
  rcases hr with ⟨rfl, rfl⟩ | ⟨rfl, rfl⟩ | ⟨rfl, rfl⟩ | ⟨rfl, rfl⟩ <;>
    exact ⟨_, raiseRch_calm _ _ _ _ _ _ _ hq⟩

/-- A refused transaction: the response, the error, its capture and its record are all it leaves. -/
theorem transaction_refused {s : State} {x : Txn} {r bit : Nat} (hw : x.wf = true) (hrel : s.mod.mode.released = true)
    (hrest : TriadsAtRest s) (hq : s.sup.quenchSince = none) (hout : fencedOut s x.init = false)
    (hr : (r, bit) ∈ [(1, 3), (2, 2), (3, 1), (5, 3)]) (h : rachisRefusal s x.init x.kind x.addr x.size = some r) :
    GivesOnly [.rch, .grn] (.rachisTransaction x) s (fun t =>
      t.out = [.response x.init r (if x.kind = .write then [] else zeros x.size)] ∧
      bitOf t.rch.err.status bit = true ∧ t.rch.flight = s.rch.flight ∧
      (bitOf s.rch.err.info 0 = false → t.rch.err.aux = BitVec.ofNat 32 x.addr ∧
        t.rch.err.aux2 = BitVec.ofNat 32 (x.addr / 2 ^ 32) ∧ fieldOf t.rch.err.info 13 8 = x.init ∧
        fieldOf t.rch.err.info 4 2 = r ∧ bitOf t.rch.err.info 5 = decide (x.kind = .write))) := by
  obtain ⟨g, hg⟩ := refuse_calm hr x.init (decide (x.kind = .write)) x.addr x.size (s := s.begin) hq
  have hop := opTransaction_refused (s := s.begin) hrel hout h
  rw [hg] at hop
  simp only [Txn.wf, Bool.and_eq_true, decide_eq_true_eq] at hw
  obtain ⟨⟨⟨hinit, haddr⟩, _⟩, _⟩ := id hw
  have hbit : bit < 32 ∧ r < 8 := by
    simp only [List.mem_cons, List.not_mem_nil, or_false, Prod.mk.injEq] at hr
    omega
  refine givesOnly_transaction (by simpa [Txn.wf] using hw) hrest ?_ (by decide) ?_ <;> rw [hop]
  · simp [only_iff, respond, emit, errRch]
  · refine ⟨by simp [respond, emit, errRch, State.begin], errRch_status _ _ _ _ _ _ _ hbit.1, rfl, fun hv => ?_⟩
    obtain ⟨haux, haux2, _, hi, hc, hwr⟩ := errRch_capture (bit := bit) (source := 0) (init := x.init) (resp := r)
      (addr := x.addr) (write := decide (x.kind = .write)) (s := s.begin) hv (by decide) hinit hbit.2
    refine ⟨haux, haux2.trans ?_, hi, hc, hwr⟩
    rw [Nat.mod_eq_of_lt (by omega)]

/-- A size and alignment of R22 is allowed outside the register space, and there of a word. -/
theorem rachisSizeOk_iff {addr n : Nat} (hs : sizeOk addr n = true) :
    rachisSizeOk addr n = true ↔ addr < 0xF0000000 ∨ 0xF1000000 ≤ addr ∨ n = 4 := by
  have hreg : regBase = 0xF0000000 := rfl
  simp only [rachisSizeOk, hs, hreg, Bool.true_and, Bool.or_eq_true, Bool.not_eq_true', Bool.and_eq_false_iff,
    decide_eq_false_iff_not, decide_eq_true_eq]
  omega

theorem placeOf_unmapped {addr : Nat} (h : (0x20000 ≤ addr ∧ addr < 0x2000000) ∨ (0x2010000 ≤ addr ∧ addr < 0x4000000) ∨
    (0x5000000 ≤ addr ∧ addr < 0x10000000) ∨ (0x30000000 ≤ addr ∧ addr < 0xC0000000) ∨
    (0xE0000000 ≤ addr ∧ addr < 0xF0000000) ∨ (0xF0130000 ≤ addr ∧ addr < 0x100000000) ∨ 0x200000000 ≤ addr) :
    placeOf addr = .unmapped := by
  unfold placeOf
  (repeat' split) <;> first | omega | rfl

/-- Every refusal of R21, R22, R28 and R380. -/
theorem transactions_refused {s : State} {x : Txn} (hw : x.wf = true) (hrel : s.mod.mode.released = true)
    (hrest : TriadsAtRest s) (hq : s.sup.quenchSince = none) :
    (fencedOut s x.init = true → exec (.rachisTransaction x) s = .next s.begin) ∧
    (fencedOut s x.init = false →
      let ends := fun (code bit : Nat) => GivesOnly [.rch, .grn] (.rachisTransaction x) s (fun t =>
        t.out = [.response x.init code (if x.kind = .write then [] else zeros x.size)] ∧
        bitOf t.rch.err.status bit = true ∧ t.rch.flight = s.rch.flight ∧
        (bitOf s.rch.err.info 0 = false → t.rch.err.aux = BitVec.ofNat 32 x.addr ∧
          t.rch.err.aux2 = BitVec.ofNat 32 (x.addr / 2 ^ 32) ∧ fieldOf t.rch.err.info 13 8 = x.init ∧
          fieldOf t.rch.err.info 4 2 = code ∧ bitOf t.rch.err.info 5 = decide (x.kind = .write)))
      (firewallOk s x.init x.kind x.addr x.size = false → ends 2 2) ∧
      (firewallOk s x.init x.kind x.addr x.size = true →
        (sizeOk x.addr x.size = false → ends 5 3) ∧
        (sizeOk x.addr x.size = true →
          ((0x20000 ≤ x.addr ∧ x.addr < 0x2000000) ∨ (0x2010000 ≤ x.addr ∧ x.addr < 0x4000000) ∨
            (0x5000000 ≤ x.addr ∧ x.addr < 0x10000000) ∨ (0x30000000 ≤ x.addr ∧ x.addr < 0xC0000000) ∨
            (0xE0000000 ≤ x.addr ∧ x.addr < 0xF0000000) ∨ (x.size = 4 ∧ 0xF0130000 ≤ x.addr ∧ x.addr < 0xF1000000) ∨
            (0xF1000000 ≤ x.addr ∧ x.addr < 0x100000000) ∨ 0x200000000 ≤ x.addr → ends 1 3) ∧
          (x.kind = .write → x.addr < 0x20000 → ends 1 3) ∧
          (x.kind = .write → 0x10000000 ≤ x.addr → x.addr < 0x30000000 → ends 1 3) ∧
          (x.size ≠ 4 → 0xF0000000 ≤ x.addr → x.addr < 0xF1000000 → ends 5 3) ∧
          (x.kind ≠ .write → 0x2000000 ≤ x.addr → x.addr < 0x2000400 → (∃ p, p < 3 ∧ isolated s (26 + p) = true) →
            exec (.rachisTransaction x) s = .next { s with out := [.response x.init 6 (zeros x.size)] })))) := by
  refine ⟨fun hout => ?_, fun hout => ?_⟩
  · have hout' : fencedOut s.begin x.init = true := hout
    have hop : opRachisTransaction x s.begin = s.begin := by simp [opRachisTransaction, hout']
    rw [exec_transaction hw hrest (by rw [hop]; rfl), hop]
    rfl
  intro ends
  have hends : ∀ {r bit : Nat}, (r, bit) ∈ [(1, 3), (2, 2), (3, 1), (5, 3)] →
      mapRefusal s x.init x.kind x.addr x.size = some r → ends r bit := fun hr hm =>
    transaction_refused hw hrel hrest hq hout hr (by rw [rachisRefusal, hm])
  refine ⟨fun hf => hends (by decide) (mapRefusal_firewall hf), fun hf => ⟨fun hs => ?_, fun hs => ⟨fun ha => ?_,
    fun hk ha => ?_, fun hk hlo hhi => ?_, fun hn hlo hhi => ?_, fun hk hlo hhi hiso => ?_⟩⟩⟩
  · exact hends (by decide) (mapRefusal_size hf (by simp [rachisSizeOk, hs]))
  · have hsize := (rachisSizeOk_iff hs).2 (by omega)
    refine hends (by decide) ?_
    simp [mapRefusal, hf, hsize, placeOf_unmapped (addr := x.addr) (by omega)]
  · have hsize := (rachisSizeOk_iff hs).2 (by omega)
    have hp : placeOf x.addr = .rom x.addr := if_pos ha
    refine hends (by decide) ?_
    simp [mapRefusal, hk ▸ hf, hsize, hp, hk]
  · have hsize := (rachisSizeOk_iff hs).2 (by omega)
    have hp : ∃ b o, placeOf x.addr = .nor b o := by
      unfold placeOf
      (repeat' split) <;> first | omega | exact ⟨_, _, rfl⟩
    obtain ⟨b, o, hp⟩ := hp
    refine hends (by decide) ?_
    simp [mapRefusal, hk ▸ hf, hsize, hp, hk]
  · refine hends (by decide) (mapRefusal_size hf ?_)
    rw [Bool.eq_false_iff]
    intro h
    have := (rachisSizeOk_iff hs).1 h
    omega
  · have hsize := (rachisSizeOk_iff hs).2 (by omega)
    have hp : placeOf x.addr = .awn (x.addr - 0x2000000) := by
      unfold placeOf
      (repeat' split) <;> first | omega | rfl
    have hn : x.size ≤ 64 := by
      simp only [sizeOk, Bool.and_eq_true, decide_eq_true_eq] at hs
      omega
    have hmapped : ∀ k, k < x.size → awnMapped (x.addr - 0x2000000 + k) = true := fun k hk => by
      rw [awnMapped, decide_eq_true_eq]
      omega
    have hfence : fencedIn s x.addr = true := by
      obtain ⟨p, hlt, hp3⟩ := hiso
      rw [fencedIn, hp, List.any_eq_true]
      exact ⟨26 + p, by simp; omega, hp3⟩
    have hr : rachisRefusal s.begin x.init x.kind x.addr x.size = some 6 := by
      show rachisRefusal s x.init x.kind x.addr x.size = some 6
      simp only [rachisRefusal, mapRefusal, hf, hsize, hp, hk, hfence, Bool.not_true, Bool.false_eq_true, if_false,
        decide_false, if_true]
      rw [if_pos (by simpa using hmapped)]
    have hop := opTransaction_refused (s := s.begin) hrel hout hr
    rw [exec_transaction hw hrest (by rw [hop]; rfl), hop, decide_eq_false hk]
    rfl

/-! ### Accesses to DRAM and MRAM (R20, R22, R23, R25, R27) -/

theorem reached_clean {x : Txn} (hw : x.wire = {}) : x.reached = x.addr := by
  simp [Txn.reached, hw, Wire.offBy]

theorem deliver_clean (addr : Nat) (bs : List Byte) : ({} : Wire).deliver addr bs = bs := by
  simp [Wire.deliver, Wire.offBy]

theorem toCulm_memory {addr o : Nat} (h : placeOf addr = .dram o ∨ placeOf addr = .mram o) : toCulm addr = false := by
  rcases h with h | h <;> simp [toCulm, h]

/-- A write of every byte goes as one piece. -/
theorem putEnabled_all (put : Nat → List Byte → State → State) (o : Nat) {bs : List Byte} {n : Nat} (h : bs.length = n)
    (s : State) : putEnabled put o bs (2 ^ n - 1) s = put o bs s := by
  rw [putEnabled, if_pos]
  simp [h, Nat.testBit_two_pow_sub_one]

/-- What a clean read of memory answers. -/
theorem rachisEffect_read {s : State} {x : Txn} {bs : List Byte} {o : Nat} (hk : x.kind ≠ .write) (hw : x.wire = {})
    (hc : x.cell = .clean) (hp : placeOf x.addr = .dram o ∨ placeOf x.addr = .mram o)
    (hr : readTarget x.init x.addr x.size s = (0, bs, s)) : rachisEffect x s = respond x.init 0 bs s := by
  simp [rachisEffect, readEffect, chk_clean hw, hk, reached_clean hw, toCulm_memory hp, hc, hr, hw, deliver_clean]

/-- What a clean write of memory does. -/
theorem rachisEffect_write {s : State} {x : Txn} {o : Nat} {t : State} (hk : x.kind = .write) (hw : x.wire = {})
    (hp : placeOf x.addr = .dram o ∨ placeOf x.addr = .mram o)
    (hr : writeTarget x.init x.addr x.data (2 ^ x.size - 1) s = (0, t)) : rachisEffect x s = respond x.init 0 [] t := by
  simp [rachisEffect, writeEffect, chk_clean hw, hk, reached_clean hw, toCulm_memory hp, hr, hw, deliver_clean]

/-- A beat of a read that the receiving end corrects: CE, and the data as they were. -/
theorem rachisEffect_corrected {s : State} {x : Txn} {bs : List Byte} {o : Nat} (hk : x.kind = .read)
    (hchk : x.chk = .corrected) (hre : x.reached = x.addr) (hc : x.cell = .clean) (hp : placeOf x.addr = .dram o)
    (hr : readTarget x.init x.addr x.size s = (0, bs, s)) (hd : x.wire.deliver x.addr bs = bs) :
    rachisEffect x s = respond x.init 0 bs (raiseRchCe x.init false x.addr s) := by
  simp [rachisEffect, readEffect, hchk, hk, hre, toCulm_memory (.inl hp), hc, hr, hd, correctedAt]

/-- A failing beat of a read: ERR_DATA and zero data. -/
theorem rachisEffect_failed {s : State} {x : Txn} {bs : List Byte} {o o' : Nat} (hk : x.kind = .read)
    (hchk : x.chk = .uncorrectable) (hc : x.cell = .clean) (hp : placeOf x.addr = .dram o)
    (hp' : placeOf x.reached = .dram o') (hr : readTarget x.init x.reached x.size s = (0, bs, s)) :
    rachisEffect x s = respond x.init 3 (zeros x.size) (refuse 3 x.init false x.addr x.size s).2.2 := by
  simp [rachisEffect, readEffect, hchk, hk, toCulm_memory (.inl hp), toCulm_memory (.inl hp'), hc, hr]

/-- A granted transaction to memory whose target answers is its effect. -/
theorem opTransaction_memory {s : State} {x : Txn} {o : Nat} (hrel : s.mod.mode.released = true)
    (hout : fencedOut s x.init = false) (hf : firewallOk s x.init x.kind x.addr x.size = true)
    (hs : sizeOk x.addr x.size = true) (hp : placeOf x.addr = .dram o ∨ placeOf x.addr = .mram o)
    (ha : x.answers = true) (hb : waitsBehind x s = false) :
    opRachisTransaction x s.begin = rachisEffect x s.begin :=
  opTransaction_reaches (s := s.begin) hrel hout (rachisRefusal_memory (s := s.begin) hf hs hp) ha hb

/-- ERR_DATA, whoever found it. -/
theorem givesOnly_failed {s : State} {x : Txn} {bs : List Byte} (hw : x.wf = true) (hrest : TriadsAtRest s)
    (hq : s.sup.quenchSince = none) (write : Bool) (n : Nat)
    (hop : opRachisTransaction x s.begin = respond x.init 3 bs (refuse 3 x.init write x.addr n s.begin).2.2) :
    GivesOnly [.rch, .grn] (.rachisTransaction x) s (fun t =>
      t.out = [.response x.init 3 bs] ∧ bitOf t.rch.err.status 1 = true) := by
  obtain ⟨g, hg⟩ := refuse_calm (r := 3) (bit := 1) (by decide) x.init write x.addr n (s := s.begin) hq
  rw [hg] at hop
  refine givesOnly_transaction hw hrest ?_ (by decide) ?_ <;> rw [hop]
  · simp [only_iff, respond, emit, errRch]
  · exact ⟨rfl, errRch_status _ _ _ _ _ _ _ (by decide)⟩

/-- One beat read from DRAM. -/
theorem dram_read_beat {s : State} {x : Txn} {o : Nat} (hw : x.wf = true) (hrel : s.mod.mode.released = true)
    (hrest : TriadsAtRest s) (hf : firewallOk s x.init x.kind x.addr x.size = true) (hs : sizeOk x.addr x.size = true)
    (hout : fencedOut s x.init = false) (hq : s.sup.quenchSince = none) (hp : placeOf x.addr = .dram o)
    (ha : x.answers = true) (hb : waitsBehind x s = false) (hc : x.cell = .clean) (hk : x.kind = .read) (hn : x.size = 8)
    (hbad : touchesBad s.mem.dramBad o 8 = false) :
    (∀ k, k < 72 → x.wire = { flips := [(0, k)] } → GivesOnly [.rch, .grn] (.rachisTransaction x) s (fun t =>
      t.out = [.response x.init 0 (s.mem.dramGet o 8)] ∧ bitOf t.rch.err.status 0 = true)) ∧
    (∀ j k, j < 72 → k < 72 → j ≠ k → x.wire = { flips := [(0, j), (0, k)] } →
      GivesOnly [.rch, .grn] (.rachisTransaction x) s (fun t =>
        t.out = [.response x.init 3 (zeros 8)] ∧ bitOf t.rch.err.status 1 = true)) ∧
    (∀ j k, j < 29 → k < 29 → x.wire = { diff := 2 ^ (j + 3) ||| 2 ^ (k + 3) } →
      touchesBad s.mem.dramBad (o ^^^ (2 ^ (j + 3) ||| 2 ^ (k + 3))) 8 = false →
      GivesOnly [.rch, .grn] (.rachisTransaction x) s (fun t =>
        t.out = [.response x.init 3 (zeros 8)] ∧ bitOf t.rch.err.status 1 = true)) := by
  have hop := opTransaction_memory hrel hout hf hs (.inl hp) ha hb
  have halign : x.addr % 8 = 0 := by
    simp only [sizeOk, hn, Bool.and_eq_true, decide_eq_true_eq] at hs
    exact hs.2
  have hbeats : x.beats = 1 := by rw [Txn.beats, halign, hn]
  have hread : ∀ p, touchesBad s.mem.dramBad p 8 = false → placeOf x.reached = .dram p →
      readTarget x.init x.reached x.size s.begin = (0, s.mem.dramGet p 8, s.begin) := fun p hclean hpl => by
    have hclean' : touchesBad s.begin.mem.dramBad p 8 = false := hclean
    simp only [readTarget, hpl, readDram, hn, hclean', Bool.false_eq_true, if_false]
    rfl
  refine ⟨fun k hk72 hwire => ?_, fun j k hj hk72 hne hwire => ?_, fun j k hj hk29 hwire hbad' => ?_⟩
  · have hre : x.reached = x.addr := by simp [Txn.reached, hwire, Wire.offBy]
    have hbeat : beatFound (x.wire.of 0) x.wire.offBy = .corrected := by
      simpa [hwire, Wire.of, Wire.offBy] using beatFound_one hk72
    have hchk := (chk_one hbeats (by rw [hwire]) (by rw [hbeat]; nofun)).trans hbeat
    rw [rachisEffect_corrected hk hchk hre hc hp (hre ▸ hread o hbad (hre ▸ hp))
      (deliver_one hk72 hwire halign (by simp [Mem.dramGet, FMap.lookList])), raiseRchCe_calm _ _ _ (by exact hq)] at hop
    refine givesOnly_transaction hw hrest ?_ (by decide) ?_ <;> rw [hop]
    · simp [only_iff, respond, emit, errRch]
    · exact ⟨rfl, errRch_status _ _ _ _ _ _ _ (by decide)⟩
  · have hre : x.reached = x.addr := by simp [Txn.reached, hwire, Wire.offBy]
    have hbeat : beatFound (x.wire.of 0) x.wire.offBy = .uncorrectable := by
      simpa [hwire, Wire.of, Wire.offBy] using beatFound_pair hj hk72 hne
    have hchk := (chk_one hbeats (by rw [hwire]) (by rw [hbeat]; nofun)).trans hbeat
    rw [rachisEffect_failed hk hchk hc hp (hre ▸ hp) (hread o hbad (hre ▸ hp)), hn] at hop
    exact givesOnly_failed hw hrest hq _ _ hop
  · have hoff : x.wire.offBy = 2 ^ (j + 3) ||| 2 ^ (k + 3) := by rw [hwire]; exact offBy_bits hj hk29
    have hbeat : beatFound (x.wire.of 0) x.wire.offBy = .uncorrectable := by
      rw [hoff]
      simpa [hwire, Wire.of] using beatFound_misplaced hj hk29
    have hchk := (chk_one hbeats (by rw [hwire]) (by rw [hbeat]; nofun)).trans hbeat
    have hp' : placeOf x.reached = .dram (o ^^^ (2 ^ (j + 3) ||| 2 ^ (k + 3))) := by
      rw [Txn.reached, hoff]
      exact placeOf_dram_xor hp (Nat.or_lt_two_pow (Nat.pow_lt_pow_right (by decide) (by omega))
        (Nat.pow_lt_pow_right (by decide) (by omega)))
    rw [rachisEffect_failed hk hchk hc hp hp' (hread _ hbad' hp'), hn] at hop
    exact givesOnly_failed hw hrest hq _ _ hop

/-- Clean accesses to DRAM. -/
theorem dram_clean {s : State} {x : Txn} {o : Nat} (hw : x.wf = true) (hrel : s.mod.mode.released = true)
    (hrest : TriadsAtRest s) (hf : firewallOk s x.init x.kind x.addr x.size = true) (hs : sizeOk x.addr x.size = true)
    (hout : fencedOut s x.init = false) (hp : placeOf x.addr = .dram o)
    (ha : x.answers = true) (hb : waitsBehind x s = false) (hc : x.cell = .clean) :
    (x.kind ≠ .write → x.wire = {} → touchesBad s.mem.dramBad o x.size = false →
      exec (.rachisTransaction x) s = .next { s with out := [.response x.init 0 (s.mem.dramGet o x.size)] }) ∧
    (x.kind = .write → x.wire = {} → GivesOnly [.mem] (.rachisTransaction x) s (fun t =>
      t.out = [.response x.init 0 []] ∧ t.mem = { s.mem with dram := t.mem.dram, dramBad := t.mem.dramBad } ∧
      t.mem.dramGet o x.size = x.data ∧
      (∀ a, (a < o ∨ o + x.size ≤ a) → FMap.look t.mem.dram 0 a = FMap.look s.mem.dram 0 a) ∧
      (FMap.wf 0 s.mem.dram = true → FMap.wf 0 t.mem.dram = true))) := by
  have hop := opTransaction_memory hrel hout hf hs (.inl hp) ha hb
  refine ⟨fun hk hwire hbad => ?_, fun hk hwire => ?_⟩
  · have hbad' : touchesBad s.begin.mem.dramBad o x.size = false := hbad
    rw [rachisEffect_read hk hwire hc (.inl hp) (bs := s.mem.dramGet o x.size)
      (by simp only [readTarget, hp, readDram, hbad', Bool.false_eq_true, if_false]; rfl)] at hop
    rw [exec_transaction hw hrest (by rw [hop]; rfl), hop]
    rfl
  · have hlen : x.data.length = x.size := by
      simp only [Txn.wf, Bool.and_eq_true, Bool.or_eq_true, decide_eq_true_eq] at hw
      exact hw.2.resolve_left (fun h => h hk)
    rw [rachisEffect_write hk hwire (.inl hp) (t := dramWrite o x.data s.begin)
      (by rw [writeTarget, hp]; exact congrArg _ (putEnabled_all _ _ hlen _))] at hop
    refine givesOnly_transaction hw hrest ?_ (by decide) ?_ <;> rw [hop]
    · simp [only_iff, respond, emit, dramWrite]
    · exact ⟨rfl, rfl, hlen ▸ Mem.dramPut_reads s.mem o x.data, fun a h => Mem.dramPut_frame s.mem o a x.data (by rwa [hlen]),
        fun h => FMap.storeList_wf o x.data h⟩

/-- Clean accesses to MRAM. -/
theorem mram_clean {s : State} {x : Txn} {o : Nat} (hw : x.wf = true) (hrel : s.mod.mode.released = true)
    (hrest : TriadsAtRest s) (hf : firewallOk s x.init x.kind x.addr x.size = true) (hs : sizeOk x.addr x.size = true)
    (hout : fencedOut s x.init = false) (hp : placeOf x.addr = .mram o)
    (ha : x.answers = true) (hb : waitsBehind x s = false) (hc : x.cell = .clean) (hwire : x.wire = {}) :
    (x.kind ≠ .write → touchesBad s.mem.mramBad o x.size = false →
      exec (.rachisTransaction x) s = .next { s with out := [.response x.init 0 (s.mem.mramGet o x.size)] }) ∧
    (x.kind = .write → GivesOnly [.mem] (.rachisTransaction x) s (fun t =>
      t.out = [.response x.init 0 []] ∧ t.mem = { s.mem with mram := t.mem.mram, mramBad := t.mem.mramBad } ∧
      t.mem.mramGet o x.size = x.data ∧
      (∀ a, (a < o ∨ o + x.size ≤ a) → FMap.look t.mem.mram 0 a = FMap.look s.mem.mram 0 a) ∧
      (FMap.wf 0 s.mem.mram = true → FMap.wf 0 t.mem.mram = true))) := by
  have hop := opTransaction_memory hrel hout hf hs (.inr hp) ha hb
  refine ⟨fun hk hbad => ?_, fun hk => ?_⟩
  · have hbad' : touchesBad s.begin.mem.mramBad o x.size = false := hbad
    rw [rachisEffect_read hk hwire hc (.inr hp) (bs := s.mem.mramGet o x.size)
      (by simp only [readTarget, hp, readMram, hbad', Bool.false_eq_true, if_false]; rfl)] at hop
    rw [exec_transaction hw hrest (by rw [hop]; rfl), hop]
    rfl
  · have hlen : x.data.length = x.size := by
      simp only [Txn.wf, Bool.and_eq_true, Bool.or_eq_true, decide_eq_true_eq] at hw
      exact hw.2.resolve_left (fun h => h hk)
    rw [rachisEffect_write hk hwire (.inr hp) (t := mramWrite o x.data s.begin)
      (by rw [writeTarget, hp]; exact congrArg _ (putEnabled_all _ _ hlen _))] at hop
    refine givesOnly_transaction hw hrest ?_ (by decide) ?_ <;> rw [hop]
    · simp [only_iff, respond, emit, mramWrite]
    · exact ⟨rfl, rfl, hlen ▸ Mem.mramPut_reads s.mem o x.data, fun a h => Mem.mramPut_frame s.mem o a x.data (by rwa [hlen]),
        fun h => FMap.storeList_wf o x.data h⟩

/-- Settles O6: where `rachisRefusal` refuses, `refuse` is all there is; where it does not, the place's effect is. -/
theorem rachisTransactionsEnd : Obligations.RachisTransactionsEnd := by
  refine ⟨fun s x hw hrel hrest hq => transactions_refused hw hrel hrest hq,
    fun s x hw hrel hrest hf hs hout hq => ⟨fun o hp ha hb hc => ⟨fun hk hn hbad => ?_, ?_⟩,
      fun o hp ha hb hc hwire => mram_clean hw hrel hrest hf hs hout hp ha hb hc hwire, fun ha hb hk hchk hlo hhi => ?_,
      fun hwait hr => ?_⟩⟩
  · exact dram_read_beat hw hrel hrest hf hs hout hq hp ha hb hc hk hn hbad
  · exact dram_clean hw hrel hrest hf hs hout hp ha hb hc
  · have hp := placeOf_dram.2 ⟨show x.addr - 0x100000000 < 0x100000000 by omega,
      show x.addr = 0x100000000 + (x.addr - 0x100000000) by omega⟩
    have hop := opTransaction_memory hrel hout hf hs (.inl hp) ha hb
    refine givesOnly_failed hw hrest hq true x.size (hop.trans ?_)
    simp [rachisEffect, hchk, hk]
  · have hop : opRachisTransaction x s.begin =
        { s.begin with rch := { s.rch with flight := s.rch.flight ++ [⟨x, s.clk.now⟩] } } := by
      have hr' : rachisRefusal s.begin x.init x.kind x.addr x.size = none := hr
      have hno : (x.answers && !waitsBehind x s.begin) = false := by
        rcases hwait with h | h
        · rw [h, Bool.false_and]
        · rw [show waitsBehind x s.begin = true from h, Bool.not_true, Bool.and_false]
      have hgo : (!s.begin.mod.mode.released || fencedOut s.begin x.init) = false := by
        rw [show s.begin.mod.mode.released = true from hrel, show fencedOut s.begin x.init = false from hout]
        rfl
      simp only [opRachisTransaction, hgo, hr', hno, Bool.false_eq_true, if_false]
      rfl
    rw [exec_transaction hw hrest (by rw [hop]; rfl), hop]
    rfl

end Sys2Proof.Machine
end

section
/-! PROOF. What the schedulers and a triad's halt leave of the triads (03 R89, R92, 06 R160 to R167). -/

namespace Sys2Proof.Machine

/-! ### Parts of the triads -/

theorem only_modTri (t f s) : Only [.trd] s (modTri t f s) := by simp [only_iff, modTri]

theorem only_modCore (n f s) : Only [.trd] s (modCore n f s) := by simp [only_iff, modCore]

/-! ### The scheduler's own state (06) -/

theorem only_modTask (i f s) : Only [.sch] s (modTask i f s) := by simp [only_iff, modTask]

theorem only_modSchTri (t f s) : Only [.sch] s (modSchTri t f s) := by simp [only_iff, modSchTri]

theorem only_modDisp (t p f s) : Only [.sch] s (modDisp t p f s) := only_modSchTri t _ s

theorem only_account (t s) : Only [.sch] s (account t s) :=
  .forAll _ _ _ fun _ _ => (only_modTask _ _ _).then (only_modDisp _ _ _ _) (List.Subset.refl _)

theorem only_regate (t s) : Only [.sch] s (regate t s) := only_modSchTri t _ s

theorem only_missOf (i s) : Only [.sch, .grn, .sup] s (missOf i s) := by
  unfold missOf
  split
  · exact .refl _ _
  · extract_lets t again s₁ s₂ s₃
    have h₂ : Only [.sch, .grn, .sup] s s₂ :=
      ((only_modTask _ _ s).weaken (by decide)).then (only_modSchTri _ _ _) (by decide)
    have herr : ∀ u, Only [.sch] u (errSch 0 (schInfo 0 i t) u) := fun u => by simp [only_iff, errSch]
    have h₃ : Only [.sch, .grn, .sup] s s₃ :=
      (h₂.then (herr _) (by decide)).then (.ite _ (only_lifeAdd _ _ _) (.refl _ _)) (by decide)
    exact .ite _ (h₃.then (only_lifeAdd _ _ _) (by decide)) (h₃.then (only_event _ _ _ _ _) (by decide))

theorem only_missHalted (t s) : Only [.sch, .grn, .sup] s (missHalted t s) :=
  Only.then (.forAll _ _ _ fun i u => (only_missOf i u).then (only_modTask _ _ _) (by decide)) (only_modSchTri _ _ _)
    (by decide)

/-! ### The choice at a triad (R160, R161) -/

theorem only_irqTriad (t ps src s) : Only [.trd] s (irqTriad t ps src s) :=
  .ite _ (.forAll _ _ _ fun p u => (only_modCore _ _ u).then (only_emit _ _) (by decide))
    (.ite _ (only_modTri _ _ _) (.refl _ _))

theorem only_dispatch (t p s) : Only [.trd, .sch] s (dispatch t p s) := by
  refine .ite _ (.refl _ _) ?_
  extract_lets c d
  exact .ite _ (((only_modDisp _ _ _ s).weaken (by decide)).then (only_modTask _ _ _) (by decide))
    (.ite _ ((only_modDisp _ _ _ s).weaken (by decide))
      (((only_modDisp _ _ _ s).weaken (by decide)).then (only_irqTriad _ _ _ _) (by decide)))

theorem only_resched (t s) : Only [.trd, .sch] s (resched t s) :=
  Only.then (((only_account t s).then (only_regate t _) (List.Subset.refl _)).weaken (by decide))
    (.forAll _ _ _ fun p u => only_dispatch t p u) (List.Subset.refl _)

theorem standing_irqTriad (t ps src s) : standing (irqTriad t ps src s) = standing s := by
  unfold irqTriad
  dsimp only
  split
  · exact standing_forAll _ _ _ fun _ _ => rfl
  · split
    · simp only [standing, modTri]
      rw [map_modAt]
      exact fun _ => rfl
    · rfl

theorem standing_of_sch {s t : State} (h : Only [.sch] s t) : standing t = standing s :=
  standing_of_only h (by decide)

theorem standing_dispatch (t p s) : standing (dispatch t p s) = standing s := by
  unfold dispatch
  split
  · rfl
  · extract_lets c d
    split
    · exact standing_of_sch ((only_modDisp _ _ _ s).then (only_modTask _ _ _) (List.Subset.refl _))
    · split
      · exact standing_of_sch (only_modDisp _ _ _ s)
      · exact (standing_irqTriad _ _ _ _).trans (standing_of_sch (only_modDisp _ _ _ s))

theorem standing_resched (t s) : standing (resched t s) = standing s :=
  (standing_forAll _ _ _ fun _ _ => standing_dispatch _ _ _).trans
    (standing_of_sch ((only_account t s).then (only_regate t _) (List.Subset.refl _)))

/-- The triads with nothing changed but the interrupts that wait for them. -/
def OnlyIrqs (a b : Trd) : Prop :=
  ∃ l : List Triad, b = { a with triads := l } ∧ ∀ k, ∃ irqs, nth l k {} = { nth a.triads k {} with irqs := irqs }

theorem OnlyIrqs.refl (a : Trd) : OnlyIrqs a a := ⟨a.triads, rfl, fun _ => ⟨_, rfl⟩⟩

theorem nth_modAt_or {α : Type} (l : List α) (i k : Nat) (f : α → α) (d : α) :
    nth (modAt l i f) k d = nth l k d ∨ nth (modAt l i f) k d = f (nth l k d) := by
  induction l generalizing i k with
  | nil => exact .inl rfl
  | cons a l ih => cases i with
    | zero => cases k with
      | zero => exact .inr rfl
      | succ k => exact .inl rfl
    | succ i => cases k with
      | zero => exact .inl rfl
      | succ k => exact ih i k

theorem irqTriad_trd {t : Nat} (ps : List Nat) (src : Nat) {s : State} (h4 : (s.tri t).state ≠ 4) :
    OnlyIrqs s.trd (irqTriad t ps src s).trd := by
  rw [irqTriad, if_neg h4]
  split
  · refine ⟨_, rfl, fun k => ?_⟩
    rcases nth_modAt_or s.trd.triads t k (fun (x : Triad) => { x with irqs := x.irqs ++ [src] }) {} with h | h <;> rw [h]
    · exact ⟨_, rfl⟩
    · exact ⟨_, rfl⟩
  · exact .refl _

theorem dispatch_trd {t : Nat} (p : Nat) {s : State} (h4 : (s.tri t).state ≠ 4) : OnlyIrqs s.trd (dispatch t p s).trd := by
  unfold dispatch
  split
  · exact .refl _
  · extract_lets c d
    split
    · exact .refl _
    · split
      · exact .refl _
      · exact irqTriad_trd _ _ (s := modDisp t p _ s) h4

/-- In triad operation the scheduler's choice does nothing to the triads but make the dispatch interrupt pending. -/
theorem resched_trd {t : Nat} {s : State} (h4 : (s.tri t).state ≠ 4) : OnlyIrqs s.trd (resched t s).trd := by
  have htrd : (regate t (account t s)).trd = s.trd :=
    ((only_account t s).then (only_regate t _) (List.Subset.refl _)) .trd (by decide)
  have h4' : ((regate t (account t s)).tri t).state ≠ 4 := by rwa [State.tri, htrd]
  rw [← htrd, resched]
  have hpos : dispPos (regate t (account t s)) t = [0] ∨ dispPos (regate t (account t s)) t = [] := by
    rw [dispPos, if_neg h4']
    split <;> simp
  rcases hpos with hpos | hpos <;> rw [hpos]
  · exact dispatch_trd 0 h4'
  · exact .refl _

/-! ### A triad that halts (R89) -/

/-- The halt of a triad before the module state is judged. -/
def halted (t : Nat) (s : State) : State :=
  modTri t (fun (x : Triad) => { x.emptied with
      state := 6, haltedAt := some s.clk.now, returnSince := none, stoppedAt := none }) (haltCores t (missHalted t (account t s)))

theorem only_jobsMissed (t s) : Only [.sch, .grn, .sup] s (missHalted t (account t s)) :=
  ((only_account t s).weaken (by decide)).then (only_missHalted t _) (List.Subset.refl _)

theorem only_haltCores (t : Nat) (s : State) : Only [.trd] s (haltCores t s) := by simp [only_iff, haltCores]

theorem only_halted (t s) : Only [.sch, .grn, .sup, .trd] s (halted t s) :=
  (((only_jobsMissed t s).weaken (by decide)).then (only_haltCores t _) (by decide)).then (only_modTri _ _ _)
    (by decide)

theorem haltTriad_eq (t cause : Nat) (s : State) : haltTriad t cause s =
    if runsSafety s t then enterSafe cause (halted t s) else halted t s := by
  have hsafe : runsSafety (halted t s) t = runsSafety s t := by
    rw [runsSafety, runsSafety, only_halted t s .img (by decide)]
  have hclk : (haltCores t (missHalted t (account t s))).clk = s.clk :=
    (only_haltCores t _ .clk (by decide)).trans (only_jobsMissed t s .clk (by decide))
  rw [← hsafe, haltTriad, hclk]
  rfl

theorem halted_mod (t : Nat) (s : State) : (halted t s).mod = s.mod := only_halted t s .mod (by decide)

theorem halted_err (t : Nat) (s : State) : (halted t s).trd.err = s.trd.err := by
  have h : (missHalted t (account t s)).trd = s.trd := only_jobsMissed t s .trd (by decide)
  rw [← h]; rfl

theorem halted_state {t : Nat} {s : State} (h : t < s.trd.triads.length) : ((halted t s).tri t).state = 6 := by
  have htrd : (missHalted t (account t s)).trd = s.trd := only_jobsMissed t s .trd (by decide)
  rw [halted, State.tri, modTri, nth_modAt_self _ _ _ _ (by simpa [haltCores, htrd] using h)]

/-- A triad that does not run Safety or Control tasks halts, and the module state stays. -/
theorem haltTriad_plain {t : Nat} (cause : Nat) {s : State} (hs : runsSafety s t = false) :
    haltTriad t cause s = halted t s := by rw [haltTriad_eq, hs]; rfl

/-- Whichever it is, the halt and the triads' errors stand; one with Safety or Control tasks takes the module from RUN to
SAFE. -/
theorem haltTriad_stands {t : Nat} (cause : Nat) {s : State} (h : t < s.trd.triads.length) :
    ((haltTriad t cause s).tri t).state = 6 ∧ (haltTriad t cause s).trd.err = s.trd.err ∧
      (runsSafety s t = true → s.mod.mode = .run → (haltTriad t cause s).mod.mode = .safe) := by
  rw [haltTriad_eq]
  split
  · obtain ⟨m, hstand, hsafe⟩ := standing_enterSafe cause (halted t s)
    exact ⟨(state_of_states (states_of_standing hstand) t).trans (halted_state h),
      (trdErr_of_standing hstand).trans (halted_err t s),
      fun _ hrun => (congrArg Mod.mode (mod_of_standing hstand)).trans (hsafe (by rw [halted_mod]; exact hrun))⟩
  · rename_i hs
    exact ⟨halted_state h, halted_err t s, fun hs' => absurd hs' hs⟩

/-- The halt leaves the image and the number of triads. -/
theorem haltTriad_keeps (t cause : Nat) (s : State) :
    (haltTriad t cause s).img = s.img ∧ (haltTriad t cause s).trd.triads.length = s.trd.triads.length := by
  have hhalted : (halted t s).img = s.img ∧ (halted t s).trd.triads.length = s.trd.triads.length := by
    have htrd : (missHalted t (account t s)).trd = s.trd := only_jobsMissed t s .trd (by decide)
    exact ⟨only_halted t s .img (by decide), by simp [halted, modTri, haltCores, htrd]⟩
  rw [haltTriad_eq]
  split
  · obtain ⟨m, hstand, -⟩ := standing_enterSafe cause (halted t s)
    have hlen := congrArg List.length (states_of_standing hstand)
    rw [List.length_map, List.length_map] at hlen
    exact ⟨(img_of_standing hstand).trans hhalted.1, hlen.trans hhalted.2⟩
  · exact hhalted

end Sys2Proof.Machine
end

section
/-! PROOF. Reintegration, restart and rung 4 (01 R40, R41, 03 R73, R89, R90, R91, R92). -/

namespace Sys2Proof.Machine

/-- A command after which the voters act: its own effect, and its frame. -/
theorem givesSettled_of_run {ps : List StatePart} {c : Instr} {f : State → State} {s : State} {P : State → Prop}
    (hx : exec c s = wfRun c (fun s => settle (f s)) s) (hw : c.wf = true) (ho : Only ps s.begin (f s.begin))
    (hP : P (f s.begin)) : GivesSettled ps c s P :=
  ⟨f s.begin, hx.trans (wfRun_next _ _ _ hw), hP, fun p hp => by
    have h := ho p hp
    cases p <;> exact h⟩

/-! ### A claimed reserve's clearing, QUIET (R90, R91) -/

theorem reserveL1ClearDone_clears {s : State} {r : Nat} (hr : r < 2) :
    GivesOnly [.trd] (.reserveL1ClearDone r) s (fun t => t.trd = { s.trd with cores := t.trd.cores } ∧
      (resCore s r < s.trd.cores.length → t.core (resCore s r) = { s.core (resCore s r) with clearing := false }) ∧
      ∀ n, n ≠ resCore s r → t.core n = s.core n) :=
  givesOnly_of_run (exec_reserveL1ClearDone r s) (by simp [Instr.wf, hr]) (only_modCore _ _ _)
    ⟨rfl, fun h => nth_modAt_self s.trd.cores _ _ {} h, fun _ hn => nth_modAt_ne s.trd.cores _ {} hn⟩

theorem quiet_pauses {s : State} {t : Nat} (ht : t < 6) (hl : t < s.trd.triads.length) (h2 : (s.tri t).state = 2)
    (hr : (s.tri t).reintPending = true) (hp : (s.tri t).paused = false) :
    GivesSettled [.trd, .sch] (.quiet t) s (fun u => u.tri t = { s.tri t with
      state := 3, paused := true, pausedAt := s.clk.now, openedAt := none } ∧ (∀ k, k ≠ t → u.tri k = s.tri k) ∧
      u.trd.cores = s.trd.cores) := by
  have hacc := only_account t s.begin
  have htrd : (account t s.begin).trd = s.trd := hacc .trd (by decide)
  have hclk : (account t s.begin).clk = s.clk := hacc .clk (by decide)
  have hop : opQuiet t s.begin = modTri t (fun (x : Triad) => { x with
      state := 3, paused := true, pausedAt := s.clk.now, openedAt := none }) (account t s.begin) := by
    have hc : (s.begin.tri t).state = 2 ∧ (s.begin.tri t).reintPending = true ∧ (s.begin.tri t).paused = false := ⟨h2, hr, hp⟩
    simp only [opQuiet, hc, hclk, decide_true, Bool.not_false, Bool.and_self, if_true]
  refine givesSettled_of_run (exec_quiet t s) (by simp [Instr.wf, ht]) ?_ ?_ <;> rw [hop]
  · exact (hacc.weaken (by decide)).then (only_modTri _ _ _) (by decide)
  · refine ⟨?_, fun k hk => ?_, by simp only [modTri, htrd]⟩
    · simp only [State.tri, modTri, htrd]
      rw [nth_modAt_self _ _ _ _ hl]
    · simp only [State.tri, modTri, htrd]
      rw [nth_modAt_ne _ _ _ hk]

/-! ### L1 errors (R73) -/

theorem l1Error_running {s : State} (hq : s.sup.quenchSince = none) {n a : Nat} (data : Bool) (hn : n < 20) (ha : a < 2 ^ 36)
    (hrun : (s.core n).running = true) : GivesOnly [.trd, .grn] (.l1Error ⟨n, data, a⟩) s (fun t =>
      t.trd = { s.trd with err := t.trd.err, cores := t.trd.cores } ∧ bitOf t.trd.err.status 7 = true ∧
      (∀ m, m ≠ n → t.core m = s.core m) ∧
      (n < s.trd.cores.length → t.core n = { s.core n with
        l1d := if data then refetched (s.core n).l1d (a / 64) else (s.core n).l1d,
        l1i := if data then (s.core n).l1i else refetched (s.core n).l1i (a / 64) })) := by
  have hrun' : ¬ (!(s.begin.core n).running) = true := by simp [show (s.begin.core n).running = true from hrun]
  have hop : opL1Error ⟨n, data, a⟩ s.begin = eventRate 0x2008 0 (trdDetail n (s.core n).pos (s.core n).triad) 0
      (errTrd 7 (trdInfo 7 0 n (s.core n).pos (s.core n).triad) 0 (modCore n (fun (c : Core) => { c with
        l1d := if data then refetched c.l1d (a / 64) else c.l1d,
        l1i := if data then c.l1i else refetched c.l1i (a / 64) }) s.begin)) := by
    rw [opL1Error]
    dsimp only
    rw [if_neg hrun']
    cases data <;> rfl
  rw [eventRate_grn _ _ _ _ _ (by exact hq)] at hop
  refine givesOnly_of_run (exec_l1Error _ s)
    (by simp only [Instr.wf, hn, ha, decide_true, Bool.and_self]) ?_ ?_ <;> rw [hop]
  · simp [only_iff, errTrd, modCore]
  · exact ⟨rfl, raise_status_self _ (by decide) _ _ _, fun m hm => nth_modAt_ne s.trd.cores _ {} hm,
      fun hl => nth_modAt_self s.trd.cores _ _ {} hl⟩

theorem l1Error_halted {s : State} {n a : Nat} (data : Bool) (hrun : (s.core n).running = false) :
    exec (.l1Error ⟨n, data, a⟩) s = .next s.begin := by
  have hop : opL1Error ⟨n, data, a⟩ s.begin = s.begin := by
    have : (s.begin.core n).running = false := hrun
    simp [opL1Error, this]
  rw [exec_l1Error]
  rcases wfRun_cases (.l1Error ⟨n, data, a⟩) (opL1Error ⟨n, data, a⟩) s with ⟨_, h⟩ | ⟨_, h⟩
  · rw [h, hop]; rfl
  · exact h

/-! ### Reintegration (R91, R92) -/

/-- Where the reintegration of a triad begins: paused, drained, its reserve cleared, and room for the reserve. -/
structure Joining (s : State) (t : Nat) : Prop where
  known : t < s.trd.triads.length
  state : (s.tri t).state = 3
  paused : (s.tri t).paused = true
  pending : (s.tri t).reintPending = true
  drained : (s.tri t).drained = true
  cleared : (s.core (resCore s (s.tri t).reserveSel)).clearing = false

theorem opReintegration_split {s : State} {t : Nat} (h : Joining s t) {da db : Dword} (dr : Dword)
    (hab : trdCheckSig s t (s.tri t).firstLive da ≠ trdCheckSig s t (s.tri t).secondLive db) :
    opReintegration t da db dr s.begin = noMajority t (freshNat s) 0 (drawn s.begin) := by
  have hc : (s.begin.tri t).state = 3 ∧ (s.begin.tri t).paused = true ∧ (s.begin.tri t).reintPending = true ∧
      (s.begin.tri t).drained = true ∧ (s.begin.core (resCore s.begin (s.begin.tri t).reserveSel)).clearing = false :=
    ⟨h.state, h.paused, h.pending, h.drained, h.cleared⟩
  simp only [opReintegration, hc, decide_true, Bool.not_false, Bool.and_self, if_true]
  rw [if_pos (show trdCheckSig s.begin t (s.begin.tri t).firstLive da ≠ trdCheckSig s.begin t (s.begin.tri t).secondLive db
    from hab)]
  rfl

theorem opReintegration_agreed {s : State} {t : Nat} (h : Joining s t) {da db : Dword} (dr : Dword)
    (hab : trdCheckSig s t (s.tri t).firstLive da = trdCheckSig s t (s.tri t).secondLive db) :
    opReintegration t da db dr s.begin =
      if trdCheckSig s t (s.tri t).firstLive da = trdCheckSig s t (s.tri t).firstLive dr then reintegrate t s.begin
      else reintFailed t s.begin := by
  have hc : (s.begin.tri t).state = 3 ∧ (s.begin.tri t).paused = true ∧ (s.begin.tri t).reintPending = true ∧
      (s.begin.tri t).drained = true ∧ (s.begin.core (resCore s.begin (s.begin.tri t).reserveSel)).clearing = false :=
    ⟨h.state, h.paused, h.pending, h.drained, h.cleared⟩
  simp only [opReintegration, hc, decide_true, Bool.not_false, Bool.and_self, if_true]
  rw [if_neg (not_not.2 (show trdCheckSig s.begin t (s.begin.tri t).firstLive da =
    trdCheckSig s.begin t (s.begin.tri t).secondLive db from hab))]
  rfl

/-- The live cores resume: the triad is paused no longer, and its schedulers choose again. -/
theorem resume_frame {t : Nat} {s : State} (h4 : (s.tri t).state ≠ 4) (hl : t < s.trd.triads.length) :
    Only [.trd, .sch] s (resume t s) ∧
      OnlyIrqs { s.trd with triads := modAt s.trd.triads t (fun (x : Triad) => { x with paused := false }) }
        (resume t s).trd := by
  unfold resume
  extract_lets held s₁ s₂ s₃
  have h₁ : Only [.sch] s s₁ := only_account t s
  have h₃ : Only [.trd, .sch] s s₃ :=
    ((h₁.weaken (by decide)).then (only_modTri _ _ _) (by decide)).then (only_modSchTri _ _ _) (by decide)
  have htrd : s₃.trd = { s.trd with triads := modAt s.trd.triads t (fun (x : Triad) => { x with paused := false }) } := by
    rw [show s₃.trd = s₂.trd from only_modSchTri _ _ _ .trd (by decide), show s₂ = modTri t _ s₁ from rfl, modTri]
    rw [show s₁.trd = s.trd from h₁ .trd (by decide)]
  refine ⟨h₃.then (only_resched t s₃) (by decide), ?_⟩
  rw [← htrd]
  refine resched_trd ?_
  rw [State.tri, htrd, nth_modAt_self _ _ _ _ hl]
  exact h4

/-- The triad that the reserve has joined, its cores running again. -/
def Triad.joined (x : Triad) (n num : Nat) : Triad :=
  { x with
    cores := modAt x.cores x.gap (fun _ => n), empty := modAt x.empty x.gap (fun _ => false), reintPending := false,
    live := modAt x.live x.gap (fun _ => true), state := 1, lanes := modAt x.lanes x.gap (fun _ => { nextNum := num }),
    paused := false }

/-- What a resumed triad keeps. -/
theorem resume_trd {t : Nat} {s : State} (h4 : (s.tri t).state ≠ 4) (hl : t < s.trd.triads.length) :
    (∃ irqs, (resume t s).tri t = { s.tri t with paused := false, irqs := irqs }) ∧
      (∀ n, (resume t s).core n = s.core n) ∧ (resume t s).trd.err = s.trd.err := by
  obtain ⟨_, l, htrd, htri⟩ := resume_frame h4 hl
  obtain ⟨irqs, hirqs⟩ := htri t
  refine ⟨⟨irqs, ?_⟩, fun n => by rw [State.core, htrd]; rfl, by rw [htrd]⟩
  rw [State.tri, htrd, hirqs, nth_modAt_self _ _ _ _ hl]
  rfl

/-- The reserve in the empty position, before the cores run again. -/
def reserveJoined (t : Nat) (s : State) : State :=
  let x := s.tri t
  let num := (nth x.lanes x.firstLive {}).nextNum
  modTri t (fun (y : Triad) => { y with
      live := modAt y.live x.gap (fun _ => true), state := 1, lanes := modAt y.lanes x.gap (fun _ => { nextNum := num }) })
    (joinCore t x.gap (resCore s x.reserveSel) (modCore (resCore s x.reserveSel)
      (fun (_ : Core) => (s.core (x.coreAt x.firstLive)).copied t x.gap) s))

theorem reintegrate_eq (t : Nat) (s : State) : reintegrate t s = resume t
    (event 0x2020 (trdDetail (resCore s (s.tri t).reserveSel) (s.tri t).gap t) (w32 (s.tri t).excludedCore) 0
      (reserveJoined t s)) := rfl

theorem only_reserveJoined (t s) : Only [.trd] s (reserveJoined t s) :=
  ((only_modCore _ _ s).then ((only_modCore _ _ _).then (only_modTri t _ _) (List.Subset.refl _)) (List.Subset.refl _)).then
    (only_modTri t _ _) (List.Subset.refl _)

theorem reserveJoined_tri {t : Nat} {s : State} (hl : t < s.trd.triads.length) : (reserveJoined t s).tri t =
    { (s.tri t).joined (resCore s (s.tri t).reserveSel) (nth (s.tri t).lanes (s.tri t).firstLive {}).nextNum with
      paused := (s.tri t).paused } := by
  simp only [reserveJoined, joinCore, modTri, modCore, State.tri]
  rw [nth_modAt_self _ _ _ _ (by simpa using hl), nth_modAt_self _ _ _ _ hl]
  rfl

theorem reserveJoined_core {t : Nat} {s : State} (hn : resCore s (s.tri t).reserveSel < s.trd.cores.length) :
    (reserveJoined t s).core (resCore s (s.tri t).reserveSel) =
      (s.core ((s.tri t).coreAt (s.tri t).firstLive)).copied t (s.tri t).gap := by
  simp only [reserveJoined, joinCore, modTri, modCore, State.core]
  rw [nth_modAt_self _ _ _ _ (by simpa using hn), nth_modAt_self _ _ _ _ hn]
  rfl

theorem reintegration_joins {s : State} {t : Nat} (hq : s.sup.quenchSince = none) (ht : t < 6) (h : Joining s t)
    (hn : resCore s (s.tri t).reserveSel < s.trd.cores.length) (hgc : (s.tri t).gap < (s.tri t).cores.length)
    (hgl : (s.tri t).gap < (s.tri t).live.length) {da db dr : Dword}
    (hab : trdCheckSig s t (s.tri t).firstLive da = trdCheckSig s t (s.tri t).secondLive db)
    (har : trdCheckSig s t (s.tri t).firstLive da = trdCheckSig s t (s.tri t).firstLive dr) :
    GivesSettled [.trd, .sch, .grn] (.reintegration t (da, db) dr) s (fun u =>
      (u.tri t).state = 1 ∧ (u.tri t).paused = false ∧ (u.tri t).reintPending = false ∧
      (u.tri t).coreAt (s.tri t).gap = resCore s (s.tri t).reserveSel ∧ nth (u.tri t).live (s.tri t).gap false = true ∧
      u.core (resCore s (s.tri t).reserveSel) =
        (s.core ((s.tri t).coreAt (s.tri t).firstLive)).copied t (s.tri t).gap) := by
  have hop := (opReintegration_agreed h dr hab).trans (if_pos har)
  have hjoin := only_reserveJoined t s.begin
  have htri := reserveJoined_tri (s := s.begin) h.known
  have hlen : t < (reserveJoined t s.begin).trd.triads.length := by
    simpa [reserveJoined, joinCore, modTri, modCore] using h.known
  have h1 : ((reserveJoined t s.begin).tri t).state = 1 := by rw [htri]; rfl
  rw [reintegrate_eq] at hop
  generalize hA : reserveJoined t s.begin = A at *
  have hrec := only_event_calm 0x2020 (trdDetail (resCore s.begin (s.begin.tri t).reserveSel) (s.begin.tri t).gap t)
    (w32 (s.begin.tri t).excludedCore) 0 ((congrArg Sup.quenchSince (hjoin .sup (by decide))).trans hq)
  generalize event 0x2020 (trdDetail (resCore s.begin (s.begin.tri t).reserveSel) (s.begin.tri t).gap t)
    (w32 (s.begin.tri t).excludedCore) 0 A = B at *
  have htrd : B.trd = A.trd := hrec .trd (by decide)
  have h4 : (B.tri t).state ≠ 4 := by rw [State.tri, htrd, show (nth A.trd.triads t {}).state = 1 from h1]; decide
  obtain ⟨⟨irqs, hu⟩, hcores, _⟩ := resume_trd h4 (htrd ▸ hlen)
  rw [show B.tri t = A.tri t by rw [State.tri, htrd]; rfl, htri] at hu
  refine givesSettled_of_run (exec_reintegration t (da, db) dr s) (by simp [Instr.wf, ht]) ?_ ?_ <;> rw [hop]
  · exact ((hjoin.weaken (by decide)).then hrec (by decide)).then (resume_frame h4 (htrd ▸ hlen)).1 (by decide)
  · rw [hu]
    refine ⟨rfl, rfl, rfl, nth_modAt_self _ _ _ _ hgc, nth_modAt_self _ _ _ _ hgl, ?_⟩
    rw [hcores, show B.core = A.core from funext fun n => by rw [State.core, htrd]; rfl, ← hA]
    exact reserveJoined_core (s := s.begin) hn

/-- What claiming a reserve changes: the triad's request, and the core of the reserve it takes. -/
theorem claimReserve_trd {t : Nat} {s : State} (hl : t < s.trd.triads.length) :
    Only [.trd] s (claimReserve t s) ∧ (claimReserve t s).trd.err = s.trd.err ∧
      ((claimReserve t s).tri t).state = (s.tri t).state ∧
      ((claimReserve t s).tri t).reintPending = (freeReserve s).isSome ∧
      t < (claimReserve t s).trd.triads.length ∧
      ∀ n, (∀ r, freeReserve s = some r → resCore s r ≠ n) → (claimReserve t s).core n = s.core n := by
  unfold claimReserve
  split
  case h_1 hf =>
    refine ⟨only_modTri _ _ _, rfl, ?_, ?_, by simpa [modTri] using hl, fun _ _ => rfl⟩ <;>
      rw [State.tri, modTri, nth_modAt_self _ _ _ _ hl]
    · rfl
    · rw [hf]; rfl
  case h_2 r hf =>
    refine ⟨by simp [only_iff, modTri, modCore], rfl, ?_, ?_, by simpa [modTri, modCore] using hl,
      fun n hn => nth_modAt_ne s.trd.cores _ {} (hn r hf).symm⟩ <;>
      rw [State.tri, modTri, nth_modAt_self _ _ _ _ (by exact hl)]
    · rfl
    · rw [hf]; rfl

theorem raiseCore_calm (bit code cause core pos t window : Nat) (d0 d1 : Word) {s : State} (hq : s.sup.quenchSince = none) :
    ∃ g, raiseCore bit code cause core pos t window d0 d1 s =
      { errTrd bit (trdInfo bit cause core pos t) window s with grn := g } := ⟨_, event_grn _ _ _ _ _ hq⟩

/-- The triad in degraded operation, its failed reserve out: what another reserve is claimed for. -/
def reserveOut (t : Nat) (g : Grn) (s : State) : State :=
  let n := resCore s (s.tri t).reserveSel
  modTri t (fun (y : Triad) => { y with state := 2 }) { errTrd 4 (trdInfo 4 0 n (s.tri t).gap t) 0
    { modCore n (fun (c : Core) => { c with role := 6, running := false, clearing := false }) s with
      thr := { s.thr with failedTest := s.thr.failedTest ++ [n] } } with grn := g }

theorem reintFailed_eq (t : Nat) {s : State} (hq : s.sup.quenchSince = none) :
    ∃ g, reintFailed t s = resume t (claimReserve t (reserveOut t g s)) := by
  obtain ⟨g, hg⟩ := raiseCore_calm 4 0x3005 0 (resCore s (s.tri t).reserveSel) (s.tri t).gap t 0 (w32 (s.tri t).excludedCore) 0
    (s := { modCore (resCore s (s.tri t).reserveSel)
      (fun (c : Core) => { c with role := 6, running := false, clearing := false }) s with
        thr := { s.thr with failedTest := s.thr.failedTest ++ [resCore s (s.tri t).reserveSel] } }) hq
  refine ⟨g, ?_⟩
  rw [reserveOut, ← hg]
  rfl

theorem reintegration_fails {s : State} {t : Nat} (hq : s.sup.quenchSince = none) (ht : t < 6) (h : Joining s t)
    (hn : resCore s (s.tri t).reserveSel < s.trd.cores.length)
    (hfree : ∀ r, freeReserve s = some r → resCore s r ≠ resCore s (s.tri t).reserveSel) {da db dr : Dword}
    (hab : trdCheckSig s t (s.tri t).firstLive da = trdCheckSig s t (s.tri t).secondLive db)
    (har : trdCheckSig s t (s.tri t).firstLive da ≠ trdCheckSig s t (s.tri t).firstLive dr) :
    GivesSettled [.trd, .sch, .thr, .grn] (.reintegration t (da, db) dr) s (fun u =>
      (u.tri t).state = 2 ∧ (u.tri t).paused = false ∧ (u.core (resCore s (s.tri t).reserveSel)).role = 6 ∧
      (u.core (resCore s (s.tri t).reserveSel)).running = false ∧ bitOf u.trd.err.status 4 = true ∧
      (u.tri t).reintPending = (freeReserve s).isSome ∧
      u.thr = { s.thr with failedTest := s.thr.failedTest ++ [resCore s (s.tri t).reserveSel] }) := by
  obtain ⟨g, hg⟩ := reintFailed_eq t (s := s.begin) hq
  have hop := ((opReintegration_agreed h dr hab).trans (if_neg har)).trans hg
  have hout : Only [.trd, .thr, .grn] s.begin (reserveOut t g s.begin) := by
    simp [only_iff, reserveOut, modTri, errTrd, modCore]
  have hl : t < (reserveOut t g s.begin).trd.triads.length := by simpa [reserveOut, modTri, errTrd, modCore] using h.known
  have h2 : ((reserveOut t g s.begin).tri t).state = 2 := by
    rw [State.tri, reserveOut, modTri, nth_modAt_self _ _ _ _ (by exact h.known)]
  have hcore : (reserveOut t g s.begin).core (resCore s (s.tri t).reserveSel) =
      { s.core (resCore s (s.tri t).reserveSel) with role := 6, running := false, clearing := false } :=
    nth_modAt_self s.trd.cores _ _ {} hn
  obtain ⟨honly, herr, hstate, hpend, hlen, hothers⟩ := claimReserve_trd hl
  have hclaimed := hothers (resCore s (s.tri t).reserveSel) hfree
  have h4 : ((claimReserve t (reserveOut t g s.begin)).tri t).state ≠ 4 := by rw [hstate, h2]; decide
  obtain ⟨⟨irqs, hu⟩, hcores, herr'⟩ := resume_trd h4 hlen
  have hres := (resume_frame h4 hlen).1
  refine givesSettled_of_run (exec_reintegration t (da, db) dr s) (by simp [Instr.wf, ht]) ?_ ?_ <;> rw [hop]
  · exact ((hout.weaken (by decide)).then honly (by decide)).then hres (by decide)
  · rw [hu, hcores, hclaimed, hcore, herr', herr]
    exact ⟨hstate.trans h2, rfl, rfl, rfl, raise_status_self _ (by decide) _ _ _, hpend,
      ((hres .thr (by decide)).trans (honly .thr (by decide)))⟩

theorem raiseTriad_calm (bit code cause t window : Nat) (d0 d1 : Word) {s : State} (hq : s.sup.quenchSince = none) :
    ∃ g, raiseTriad bit code cause t window d0 d1 s =
      { errTrd bit (trdInfo bit cause 0x1F 3 t) window s with grn := g } := ⟨_, event_grn _ _ _ _ _ hq⟩

/-- An error of the triad that halts it. -/
theorem raised_halts {bit code cause t window c : Nat} {d0 d1 : Word} {s : State} (hq : s.sup.quenchSince = none)
    (hb : bit < 32) (hl : t < s.trd.triads.length) :
    ((haltTriad t c (raiseTriad bit code cause t window d0 d1 s)).tri t).state = 6 ∧
    bitOf (haltTriad t c (raiseTriad bit code cause t window d0 d1 s)).trd.err.status bit = true ∧
    (runsSafety s t = true → s.mod.mode = .run →
      (haltTriad t c (raiseTriad bit code cause t window d0 d1 s)).mod.mode = .safe) := by
  obtain ⟨g, hg⟩ := raiseTriad_calm bit code cause t window d0 d1 hq
  have hl' : t < (raiseTriad bit code cause t window d0 d1 s).trd.triads.length := by rw [hg]; exact hl
  have hmod : (raiseTriad bit code cause t window d0 d1 s).mod = s.mod := by rw [hg]; rfl
  have hsafe : runsSafety (raiseTriad bit code cause t window d0 d1 s) t = runsSafety s t := by rw [hg]; rfl
  have hbit : bitOf (raiseTriad bit code cause t window d0 d1 s).trd.err.status bit = true := by
    rw [hg]; exact raise_status_self _ hb _ _ _
  obtain ⟨hstate, herr, hgo⟩ := haltTriad_stands c hl'
  exact ⟨hstate, by rw [herr]; exact hbit, fun h1 h2 => hgo (hsafe.trans h1) (hmod ▸ h2)⟩

theorem reintegration_split {s : State} {t : Nat} (hq : s.sup.quenchSince = none) (ht : t < 6) (h : Joining s t)
    {da db dr : Dword} (hab : trdCheckSig s t (s.tri t).firstLive da ≠ trdCheckSig s t (s.tri t).secondLive db) :
    ∃ u, exec (.reintegration t (da, db) dr) s = .next { settle u with pending := s.pending } ∧
      (u.tri t).state = 6 ∧ bitOf u.trd.err.status 1 = true ∧
      (runsSafety s t = true → s.mod.mode = .run → u.mod.mode = .safe) := by
  obtain ⟨hstate, hbit, hsafe⟩ := raised_halts (bit := 1) (code := 0x3002) (cause := 0) (t := t) (window := freshNat s)
    (c := 0x3002) (d0 := w32 (freshNat s)) (d1 := w32 0) (s := drawn s.begin) hq (by decide) h.known
  have hx := (exec_reintegration t (da, db) dr s).trans (wfRun_next _ _ _ (by simp [Instr.wf, ht]))
  rw [opReintegration_split h dr hab, noMajority] at hx
  exact ⟨_, hx, hstate, hbit, hsafe⟩

/-! ### Restart (R89) -/

theorem startCore_core_self {n : Nat} (entry role t p : Nat) {s : State} (h : n < s.trd.cores.length) :
    ((startCore n entry role t p s).core n).running = true ∧
      ((startCore n entry role t p s).core n).pc = BitVec.ofNat 64 entry := by
  rw [State.core, startCore, modCore, nth_modAt_self _ _ _ _ h]
  exact ⟨rfl, rfl⟩

theorem startCore_core_ne {n m : Nat} (entry role t p : Nat) (s : State) (h : m ≠ n) :
    (startCore n entry role t p s).core m = s.core m := nth_modAt_ne s.trd.cores _ {} h

/-- With three filled positions on three cores, voting starts in all of them at ENTRY. -/
theorem startVoting_three {s : State} {t : Nat} (hiso : isolated s (20 + t) = false) (hl : t < s.trd.triads.length)
    (hc : s.trd.cores.length = 20) (hlt : ∀ p, p < 3 → (s.tri t).coreAt p < 20)
    (h01 : (s.tri t).coreAt 0 ≠ (s.tri t).coreAt 1) (h02 : (s.tri t).coreAt 0 ≠ (s.tri t).coreAt 2)
    (h12 : (s.tri t).coreAt 1 ≠ (s.tri t).coreAt 2) :
    Only [.trd] s (startVoting t [0, 1, 2] s) ∧ (startVoting t [0, 1, 2] s).tri t = (s.tri t).votingWith [0, 1, 2] ∧
      t < (startVoting t [0, 1, 2] s).trd.triads.length ∧
      ∀ p, p < 3 → ((startVoting t [0, 1, 2] s).core ((s.tri t).coreAt p)).running = true ∧
        ((startVoting t [0, 1, 2] s).core ((s.tri t).coreAt p)).pc = BitVec.ofNat 64 (entryOf s (4 * t)) := by
  have htri : (modTri t (fun (x : Triad) => x.votingWith [0, 1, 2]) s).tri t = (s.tri t).votingWith [0, 1, 2] := by
    rw [State.tri, modTri, nth_modAt_self _ _ _ _ hl]; rfl
  have hkeep : ∀ n entry role p u, (startCore n entry role t p u).tri t = u.tri t := fun _ _ _ _ _ => rfl
  have hentry : ∀ n entry role p u i, entryOf (startCore n entry role t p u) i = entryOf u i := fun _ _ _ _ _ _ => rfl
  have hcore : ∀ p, ((s.tri t).votingWith [0, 1, 2]).coreAt p = (s.tri t).coreAt p := fun _ => rfl
  have hstart : startVoting t [0, 1, 2] s =
      startCore ((s.tri t).coreAt 2) (entryOf s (4 * t)) 0 t 2 (startCore ((s.tri t).coreAt 1) (entryOf s (4 * t)) 0 t 1
        (startCore ((s.tri t).coreAt 0) (entryOf s (4 * t)) 0 t 0 (modTri t (fun (x : Triad) => x.votingWith [0, 1, 2]) s))) := by
    rw [startVoting, if_neg (by simp [hiso])]
    dsimp only
    rw [if_neg (by decide)]
    simp only [forAll, hkeep, hentry, htri, hcore]
    rfl
  rw [hstart]
  refine ⟨?_, by rw [hkeep, hkeep, hkeep, htri], by simpa [startCore, modCore, modTri] using hl, fun p hp => ?_⟩
  · exact (((only_modTri t _ s).then (only_modCore _ _ _) (List.Subset.refl _)).then (only_modCore _ _ _)
      (List.Subset.refl _)).then (only_modCore _ _ _) (List.Subset.refl _)
  · have hlen := hlt p hp
    obtain rfl | rfl | rfl : p = 0 ∨ p = 1 ∨ p = 2 := by omega
    · rw [startCore_core_ne _ _ _ _ _ h02, startCore_core_ne _ _ _ _ _ h01]
      exact startCore_core_self _ _ _ _ (by simpa [modTri, hc] using hlen)
    · rw [startCore_core_ne _ _ _ _ _ h12]
      exact startCore_core_self _ _ _ _ (by simpa [startCore, modCore, modTri, hc] using hlen)
    · exact startCore_core_self _ _ _ _ (by simpa [startCore, modCore, modTri, hc] using hlen)

theorem triadRestart_starts {s : State} {t : Nat} (ht : t < 6) (hl : t < s.trd.triads.length) {t0 : Nat}
    (h6 : (s.tri t).state = 6) (hat : (s.tri t).haltedAt = some t0) (hiso : isolated s (20 + t) = false)
    (hsafe : runsSafety s t = false) (hr : (s.tri t).reintPending = false) (hempty : (s.tri t).empty = [false, false, false])
    (hc : s.trd.cores.length = 20) (hlt : ∀ p, p < 3 → (s.tri t).coreAt p < 20)
    (h01 : (s.tri t).coreAt 0 ≠ (s.tri t).coreAt 1) (h02 : (s.tri t).coreAt 0 ≠ (s.tri t).coreAt 2)
    (h12 : (s.tri t).coreAt 1 ≠ (s.tri t).coreAt 2) :
    GivesSettled [.trd, .sch] (.triadRestart t) s (fun u => (u.tri t).state = 1 ∧ (u.tri t).live = [true, true, true] ∧
      ∀ p, p < 3 → (u.core ((s.tri t).coreAt p)).running = true ∧
        (u.core ((s.tri t).coreAt p)).pc = BitVec.ofNat 64 (entryOf s (4 * t))) := by
  have hb : (s.begin.tri t).state = 6 ∧ (s.begin.tri t).haltedAt = some t0 ∧ runsSafety s.begin t = false ∧
      (s.begin.tri t).reintPending = false := ⟨h6, hat, hsafe, hr⟩
  have hfilled : (s.begin.tri t).filled = [0, 1, 2] := by
    rw [Triad.filled, show (s.begin.tri t).empty = [false, false, false] from hempty]; decide
  have hop : opTriadRestart t s.begin = resched t (startVoting t [0, 1, 2]
      (modTri t (fun (y : Triad) => { y with haltedAt := none }) s.begin)) := by
    simp [opTriadRestart, joinReserve, hb, hfilled]
  have htri : (modTri t (fun (y : Triad) => { y with haltedAt := none }) s.begin).tri t = { s.tri t with haltedAt := none } := by
    rw [State.tri, modTri, nth_modAt_self _ _ _ _ (by exact hl)]; rfl
  obtain ⟨honly, hvoting, _, hcores⟩ := startVoting_three (t := t)
    (s := modTri t (fun (y : Triad) => { y with haltedAt := none }) s.begin) hiso (by simpa [modTri] using hl) hc
    (by rw [htri]; exact hlt) (by rw [htri]; exact h01) (by rw [htri]; exact h02) (by rw [htri]; exact h12)
  rw [htri] at hvoting hcores
  generalize startVoting t [0, 1, 2] (modTri t (fun (y : Triad) => { y with haltedAt := none }) s.begin) = V at *
  obtain ⟨l, htrd, htris⟩ := resched_trd (t := t) (s := V) (by rw [hvoting]; show (1 : Nat) ≠ 4; decide)
  obtain ⟨irqs, hu⟩ := htris t
  have hu' : (resched t V).tri t = { V.tri t with irqs := irqs } := by rw [State.tri, htrd, hu]; rfl
  have hcore : (resched t V).core = V.core := funext fun n => by rw [State.core, htrd]; rfl
  refine givesSettled_of_run (exec_triadRestart t s) (by simp [Instr.wf, ht]) ?_ ?_ <;> rw [hop]
  · exact ((((only_modTri t _ s.begin).then honly (List.Subset.refl _)).weaken (by decide))).then (only_resched _ _) (by decide)
  · rw [hu', hvoting, hcore]
    exact ⟨rfl, rfl, hcores⟩

/-! ### Rung 4 (01 R40, R41) -/

theorem trdWatchdog_none {s : State} {t : Nat} (ht : t < 6) (h : rung4 s t = none) :
    exec (.trdWatchdog t) s = .next { settle s.begin with pending := s.pending } := by
  have hop : opTrdWatchdog t s.begin = s.begin := by rw [opTrdWatchdog, show rung4 s.begin t = none from h]
  rw [exec_trdWatchdog, wfRun_next _ _ _ (by simp [Instr.wf, ht]), hop]

theorem standing_startSplitCore (t a0 p s) : standing (startSplitCore t a0 p s) = standing s := rfl

/-- A split triad that rung 4 has halted runs again: in split operation, its error standing. -/
theorem restartSplit_stands {t : Nat} {s : State} (hl : t < s.trd.triads.length) :
    ((restartSplit t s).tri t).state = 4 ∧ (restartSplit t s).trd.err = s.trd.err ∧ (restartSplit t s).mod = s.mod := by
  unfold restartSplit
  extract_lets s₁
  have hstate : (s₁.tri t).state = 4 := by rw [State.tri, show s₁ = modTri t _ s from rfl, modTri, nth_modAt_self _ _ _ _ hl]
  have hcores : standing (forAll (s₁.tri t).filled (fun p u => startSplitCore t (u.tri t).hoCount p u) s₁) = standing s₁ :=
    standing_forAll _ _ _ fun p u => standing_startSplitCore _ _ _ _
  have hstand : standing _ = { standing s₁ with mod := s.mod } := (standing_resched t _).trans hcores
  have herr := trdErr_of_standing hstand
  exact ⟨(state_of_states (states_of_standing hstand) t).trans hstate, herr, mod_of_standing hstand⟩

/-- Rung 4 of a triad: TWD, and the halt; a split triad without Safety and Control tasks runs again. -/
theorem trdWatchdog_halts {s : State} {t p : Nat} (hq : s.sup.quenchSince = none) (ht : t < 6)
    (hl : t < s.trd.triads.length) (h : rung4 s t = some p) :
    (runsSafety s t = true → s.mod.mode = .run → ∃ u, exec (.trdWatchdog t) s = .next { settle u with pending := s.pending } ∧
      u.mod.mode = .safe ∧ (u.tri t).state = 6 ∧ bitOf u.trd.err.status 8 = true) ∧
    (runsSafety s t = false → ∃ u, exec (.trdWatchdog t) s = .next { settle u with pending := s.pending } ∧
      bitOf u.trd.err.status 8 = true ∧ u.mod = s.mod ∧ (u.tri t).state = (if (s.tri t).state = 4 then 4 else 6)) := by
  obtain ⟨g, hg⟩ := raiseTriad_calm 8 0x3010 0 t 0 (w32 (dispAt s t p).next) (cycleWord s) (s := s.begin) hq
  obtain ⟨hstate, hbit, hgo⟩ := raised_halts (bit := 8) (code := 0x3010) (cause := 0) (t := t) (window := 0) (c := 0x3010)
    (d0 := w32 (dispAt s t p).next) (d1 := cycleWord s) (s := s.begin) hq (by decide) hl
  have hop : opTrdWatchdog t s.begin =
      if (decide ((s.tri t).state = 4) && !runsSafety s t) = true then
        restartSplit t (haltTriad t 0x3010 (raiseTriad 8 0x3010 0 t 0 (w32 (dispAt s t p).next) (cycleWord s) s.begin))
      else haltTriad t 0x3010 (raiseTriad 8 0x3010 0 t 0 (w32 (dispAt s t p).next) (cycleWord s) s.begin) := by
    have hsafe : runsSafety (haltTriad t 0x3010 (raiseTriad 8 0x3010 0 t 0 (w32 (dispAt s t p).next) (cycleWord s) s.begin))
        t = runsSafety s t := by
      rw [runsSafety, (haltTriad_keeps _ _ _).1, hg]; rfl
    rw [opTrdWatchdog, show rung4 s.begin t = some p from h]
    dsimp only
    rw [← hsafe]
    rfl
  have hx := (exec_trdWatchdog t s).trans (wfRun_next _ _ _ (by simp [Instr.wf, ht]))
  rw [hop] at hx
  have hmod : runsSafety s t = false → (haltTriad t 0x3010 (raiseTriad 8 0x3010 0 t 0 (w32 (dispAt s t p).next) (cycleWord s)
      s.begin)).mod = s.mod := fun hs => by
    rw [hg, haltTriad_plain _ (by exact hs), halted_mod]; rfl
  have hlen : t < (haltTriad t 0x3010 (raiseTriad 8 0x3010 0 t 0 (w32 (dispAt s t p).next) (cycleWord s)
      s.begin)).trd.triads.length := by
    rw [(haltTriad_keeps _ _ _).2, hg]; exact hl
  generalize haltTriad t 0x3010 (raiseTriad 8 0x3010 0 t 0 (w32 (dispAt s t p).next) (cycleWord s) s.begin) = H at *
  refine ⟨fun hs hrun => ⟨H, ?_, hgo hs hrun, hstate, hbit⟩, fun hs => ?_⟩
  · rw [hx, hs, Bool.not_true, Bool.and_false]
    rfl
  · by_cases h4 : (s.tri t).state = 4
    · rw [hs, decide_eq_true h4, if_pos (by decide)] at hx
      obtain ⟨hstate', herr, hmod'⟩ := restartSplit_stands hlen
      exact ⟨_, hx, by rw [herr]; exact hbit, hmod'.trans (hmod hs), by rw [if_pos h4]; exact hstate'⟩
    · rw [hs, decide_eq_false h4, if_neg (by decide)] at hx
      exact ⟨_, hx, hbit, hmod hs, by rw [if_neg h4]; exact hstate⟩

/-- Settles O16: a reintegration is one of three states before the cores resume (`reserveJoined`, `reserveOut`, the halt);
what resumes, or is judged on the way to SAFE, leaves them standing. -/
theorem reintegrationAndRestart : Obligations.ReintegrationAndRestart := by
  refine ⟨fun s hq => ⟨fun r => reserveL1ClearDone_clears, fun t ht hl => quiet_pauses ht hl,
    fun t ht hl h3 hp hr hd hc hn hgc hgl hfree => ?_, fun n data a hn ha =>
      ⟨l1Error_running hq data hn ha, l1Error_halted data⟩⟩, fun s t ht hl hq => ⟨fun t0 => triadRestart_starts ht hl,
    fun p hp => ⟨(trdWatchdog_halts hq ht hl hp).1, fun hs => ?_⟩, trdWatchdog_none ht⟩⟩
  · intro x n da db dr
    have hj : Joining s t := ⟨hl, h3, hp, hr, hd, hc⟩
    exact ⟨reintegration_joins hq ht hj hn hgc hgl, reintegration_fails hq ht hj hn hfree, reintegration_split hq ht hj⟩
  · obtain ⟨u, hx, hbit, hmod, hstate⟩ := (trdWatchdog_halts hq ht hl hp).2 hs
    exact ⟨u, hx, hbit, fun _ => ⟨hmod, hstate⟩⟩

end Sys2Proof.Machine
end

section
/-! PROOF. The Culm bridge's counters (16 R352, R360): they saturate from below only, so a statement that takes the smaller of
its width's largest value and the count plus one fails for a state whose count is already past that width. -/

namespace Sys2Proof.Machine

/-- The count of log entries after one more (CULM_LOG_HEAD.TOTAL): held where it is not below its largest value. -/
theorem culmLog_logTotal (kind outcome : Nat) (inbound : Bool) (win addr mask : Nat) (s : State) :
    (culmLog kind outcome inbound win addr mask s).culm.logTotal = satInc 0xFFFFFF s.culm.logTotal := rfl

theorem eventRate_culm (code idx detail : Nat) (d1 : Word) (s : State) : (eventRate code idx detail d1 s).culm = s.culm :=
  only_eventRate code idx detail d1 s .culm (by decide)

/-- Discarding a buffer with a word unread logs one entry (R354). -/
theorem discardBuf_logTotal {b : CulmBuf} (h : b.unread ≠ 0) (s : State) :
    (discardBuf b s).culm.logTotal = satInc 0xFFFFFF s.culm.logTotal := by
  simp only [discardBuf]
  rw [if_neg h, culmLog_logTotal, raiseCulmRate, eventRate_culm]
  rfl

/-- Refutes O44: the statement wants `min 0xFFFFFF (logTotal + 1)` log entries after a buffer with an unread word has expired,
in every state. With `logTotal` at 2^24, which a state can hold and the 24-bit register cannot, the bridge's saturating count
leaves it there, and the minimum is 2^24 - 1. -/
theorem not_culmOutboundWork : ¬ Obligations.CulmOutboundWork := by
  unfold Obligations.CulmOutboundWork
  intro h
  obtain ⟨t, hx, ⟨_, _, hlog⟩, _⟩ := ((h.2
    { clk := { now := 10500 }, culm := { bufs := [⟨0, 0xC0000000, [], 1, 0⟩], logTotal := 0x1000000 } } [] rfl rfl nofun).2.2
    ⟨0, 0xC0000000, [], 1, 0⟩ rfl).1 (by decide) (by decide)
  rw [exec_prefetchExpiry, wfRun_next _ _ _ rfl] at hx
  injection hx with hx
  have hcount : t.culm.logTotal = satInc 0xFFFFFF 0x1000000 := by
    rw [← hx]
    exact discardBuf_logTotal (b := ⟨0, 0xC0000000, [], 1, 0⟩) Nat.one_ne_zero _
  rw [hcount] at hlog
  exact absurd hlog (by decide)

/-- Discarding the data of the only delayed read, held for 64.5 µs, logs one entry (R356). -/
theorem opDelayedReadDiscard_logTotal {s : State} {r : CulmRd} (hr : s.culm.reads = [r]) (hd : r.data.isSome = true)
    (hdue : due (some r.since) 63500 s.clk.now = true) :
    (opDelayedReadDiscard 0 s).culm.logTotal = satInc 0xFFFFFF s.culm.logTotal := by
  simp only [opDelayedReadDiscard, hr, List.drop_zero, hd, hdue, Bool.and_self, if_true]
  rw [culmLog_logTotal, raiseCulmRate, eventRate_culm]
  rfl

/-- Refutes O45: the statement wants `min 0xFFFFFF (logTotal + 1)` log entries after unclaimed data have been discarded, in
every state. With `logTotal` at 2^24, which a state can hold and the 24-bit register cannot, the bridge's saturating count
leaves it there, and the minimum is 2^24 - 1. -/
theorem not_culmInboundWork : ¬ Obligations.CulmInboundWork := by
  unfold Obligations.CulmInboundWork
  intro h
  obtain ⟨t, hx, ⟨_, _, hlog⟩, _⟩ := ((h.2
    { clk := { now := 64500 }, culm := { reads := [⟨1, 0, 15, 1, 0, some none, 0, 0⟩], logTotal := 0x1000000 } } rfl).2.2.2.1
    ⟨1, 0, 15, 1, 0, some none, 0, 0⟩ none rfl rfl).1 (by decide)
  rw [exec_delayedReadDiscard, wfRun_next _ _ _ rfl] at hx
  injection hx with hx
  have hcount : t.culm.logTotal = satInc 0xFFFFFF 0x1000000 := by
    rw [← hx]
    exact opDelayedReadDiscard_logTotal rfl rfl (by decide)
  rw [hcount] at hlog
  exact absurd hlog (by decide)

end Sys2Proof.Machine
end

section
/-! PROOF. What a damaged word of MRAM does to Rachis when the die reads it (07 R173, R185), and what of BOOT reads MRAM so. -/

namespace Sys2Proof.Machine

/-! ### Reads of damaged words (R173) -/

/-- A raised error stands in the status together with those that stood before. -/
theorem raise_status_keeps (e : ErrBlk) {bit i : Nat} (hb : bit < 32) (hi : i < 32) (info aux aux2 : Word)
    (h : bitOf e.status i = true) : bitOf (e.raise bit info aux aux2).status i = true := by
  by_cases hne : bit = i
  · subst hne; exact raise_status_self e hb info aux aux2
  · rw [raise_status_ne e hi hne, h]

/-- What raising MUE leaves of the memory controllers' errors. -/
theorem raiseMem_rch (bit code unit addr : Nat) (s : State) :
    (raiseMem bit code unit addr s).rch = (errMem bit unit addr s).rch :=
  only_event _ _ _ _ _ .rch (by decide)

/-- A read of a damaged word raises MUE. -/
theorem mramProbe_damaged {o n : Nat} {s : State} (h : touchesBad s.mem.mramBad o n = true) :
    bitOf (mramProbe o n s).rch.mem.status 1 = true := by
  rw [mramProbe, if_pos h, raiseMem_rch]
  exact raise_status_self _ (by decide) _ _ _

/-- MUE stands after any further read. -/
theorem mramProbe_keeps (o n : Nat) {s : State} (h : bitOf s.rch.mem.status 1 = true) :
    bitOf (mramProbe o n s).rch.mem.status 1 = true := by
  rw [mramProbe]
  split
  · rw [raiseMem_rch]
    exact raise_status_keeps _ (by decide) (by decide) _ _ _ h
  · exact h

/-! ### The stored verdict is read (R385) -/

/-- VERDICT_APPLY leaves of Rachis what the reads of both verdict slots leave. -/
theorem opVerdictApply_rch {s : State} (hm : s.mod.mode = .boot) (hr : s.sec.ready = true) (ha : s.thr.applied = false) :
    (opVerdictApply s).rch = (mramProbe (verdictOff 1) 0x4000 (mramProbe (verdictOff 0) 0x4000 s)).rch := by
  rw [opVerdictApply, if_pos ⟨hm, hr, by simp [ha]⟩]
  extract_lets s₁ slot b cause thr drew s₂ core mod s₃
  change _ = s₁.rch
  clear_value s₁
  have h₂ : s₃.rch = s₁.rch := by
    clear_value b cause
    cases b <;> rfl
  clear_value s₃
  split
  · exact h₂
  · exact (only_event _ _ _ _ _ .rch (by decide)).trans h₂

/-- A module in BOOT whose two verdict slots each hold a damaged word. -/
def damagedVerdicts : State where
  mod := { mode := .boot }
  sec := { ready := true }
  mem := { mramBad := [0x200, 0xA00] }

/-- A slot with a damaged word holds no verdict. -/
theorem verdictSeq_damaged {s : State} {i : Nat} (h : touchesBad s.mem.mramBad (verdictOff i) 0x4000 = true) :
    verdictSeq s i = none := by
  unfold verdictSeq
  simp only [h, Bool.not_true, Bool.false_eq_true, and_false, if_false]

/-- The state that a command answers is what its operation leaves, with the queue as it was. -/
theorem next_of_run {c : Instr} {f : State → State} {s t : State} (hrun : exec c s = wfRun c f s) (hw : c.wf = true)
    (hx : exec c s = .next t) : t = { f s.begin with pending := s.pending } := by
  rw [hrun, wfRun_next _ _ _ hw] at hx
  injection hx with hx
  exact hx.symm

theorem verdictApply_rch {s t : State} (hm : s.mod.mode = .boot) (hr : s.sec.ready = true) (ha : s.thr.applied = false)
    (hx : exec .verdictApply s = .next t) :
    t.rch = (mramProbe (verdictOff 1) 0x4000 (mramProbe (verdictOff 0) 0x4000 s.begin)).rch := by
  rw [← opVerdictApply_rch (s := s.begin) hm hr ha, next_of_run (exec_verdictApply s) rfl hx]

/-- Refutes O1: the statement has VERDICT_APPLY change Thresh, the module's state and Granary only. Where a word of a stored
verdict is damaged, the read of it raises MUE (07 R173), a sticky error of the memory controllers. -/
theorem not_bootPreparations : ¬ Obligations.BootPreparations := by
  unfold Obligations.BootPreparations
  intro h
  obtain ⟨-, -, -, hverdict, -⟩ := h damagedVerdicts rfl rfl
  have hnone : slotBest (verdictSeq damagedVerdicts 0) (verdictSeq damagedVerdicts 1) = none := by
    rw [verdictSeq_damaged (by decide), verdictSeq_damaged (by decide), slotBest]
  obtain ⟨t, hx, -, honly⟩ := (hverdict rfl rfl).1 hnone
  have hmue : bitOf t.rch.mem.status 1 = true := by
    rw [verdictApply_rch rfl rfl rfl hx]
    exact mramProbe_keeps _ _ (mramProbe_damaged (by decide))
  rw [show t.rch = damagedVerdicts.rch from honly .rch (by decide)] at hmue
  exact absurd hmue (by decide)

end Sys2Proof.Machine
end

section
/-! PROOF. The boot NOR copies (02 R43, R44, R45): what a programming leaves in the copy it goes to and in the other one, and what the
marks of a copy make of its state. -/

namespace Sys2Proof.Machine

/-! ### Parts of the state that a frame leaves -/

/-- Where the supervisor is left alone, no quench begins. -/
theorem Only.quench {ps : List StatePart} {s t : State} (h : Only ps s t) (hp : StatePart.sup ∉ ps)
    (hq : s.sup.quenchSince = none) : t.sup.quenchSince = none := by
  rw [show t.sup = s.sup from h .sup hp, hq]

theorem Only.mem_eq {ps : List StatePart} {s t : State} (h : Only ps s t) (hp : StatePart.mem ∉ ps) : t.mem = s.mem :=
  h .mem hp

/-! ### The two copies -/

/-- The bytes of a boot NOR copy. -/
def nor (s : State) (c : Bool) : FMap Byte := if c then s.mem.norB else s.mem.norA

theorem norGet_eq (s : State) (c : Bool) (o n : Nat) : norGet s c o n = FMap.lookList (nor s c) 0xFF o n := rfl

theorem norGet_congr {s t : State} {c : Bool} (h : nor t c = nor s c) (o n : Nat) : norGet t c o n = norGet s c o n := by
  rw [norGet_eq, norGet_eq, h]

theorem nor_norPut_self (c : Bool) (o : Nat) (bs : List Byte) (s : State) :
    nor (norPut c o bs s) c = FMap.storeList (nor s c) 0xFF o bs := by cases c <;> rfl

theorem nor_norPut_other (c : Bool) (o : Nat) (bs : List Byte) (s : State) : nor (norPut c o bs s) (!c) = nor s (!c) := by
  cases c <;> rfl

/-- A write of a copy changes boot NOR alone. -/
theorem norPut_mem (c : Bool) (o : Nat) (bs : List Byte) (s : State) : norPut c o bs s = { s with
    mem := { s.mem with norA := (norPut c o bs s).mem.norA, norB := (norPut c o bs s).mem.norB } } := by cases c <;> rfl

theorem only_norPut (c : Bool) (o : Nat) (bs : List Byte) (s : State) : Only [.mem] s (norPut c o bs s) := by
  rw [norPut_mem]; simp [only_iff]

/-- What has been written of a copy reads back. -/
theorem norGet_norPut (c : Bool) (o : Nat) (bs : List Byte) (s : State) : norGet (norPut c o bs s) c o bs.length = bs := by
  rw [norGet_eq, nor_norPut_self, FMap.lookList_storeList]

/-- Bytes outside a write read as before. -/
theorem norGet_norPut_off (c : Bool) {o a n : Nat} {bs : List Byte} (s : State) (h : a + n ≤ o ∨ o + bs.length ≤ a) :
    norGet (norPut c o bs s) c a n = norGet s c a n := by
  rw [norGet_eq, norGet_eq, nor_norPut_self]
  refine List.map_congr_left fun i hi => ?_
  have := List.mem_range.1 hi
  rw [FMap.look_storeList, if_neg (by omega)]

/-! ### Marks and states (R44, R45) -/

theorem statusWord_congr {s t : State} {c : Bool} (h : nor t c = nor s c) (o : Nat) : statusWord t c o = statusWord s c o := by
  rw [statusWord, statusWord, norGet_congr h]

theorem markSet_congr {s t : State} {c : Bool} (h : nor t c = nor s c) (o : Nat) : markSet t c o = markSet s c o := by
  rw [markSet, markSet, statusWord_congr h]

theorem copyState_congr {s t : State} {c : Bool} (h : nor t c = nor s c) : copyState t c = copyState s c := by
  simp only [copyState, markSet_congr h]

theorem nor_of_mem {s t : State} (h : t.mem = s.mem) (c : Bool) : nor t c = nor s c := by rw [nor, nor, h]

theorem copySeq_congr {s t : State} {c : Bool} (h : nor t c = nor s c) : copySeq t c = copySeq s c := statusWord_congr h 0

theorem markSet_setMark (c : Bool) (o : Nat) (s : State) : markSet (setMark c o s) c o = true := by
  have h : statusWord (setMark c o s) c o = leNat (zeros 4) := by
    rw [statusWord, setMark]
    exact congrArg leNat (norGet_norPut c (statusOff + o) (zeros 4) s)
  rw [markSet, h]
  decide

/-- A copy that is marked BAD is BAD, whatever else it is marked. -/
theorem copyState_setMark_bad (c : Bool) (s : State) : copyState (setMark c 0x1C s) c = .bad := by
  rw [copyState, if_pos (markSet_setMark c 0x1C s)]

end Sys2Proof.Machine
end

section
/-! PROOF. The choice of a copy, its check, and the raise of the counter (02 R64 to R67, 17 R366). -/

namespace Sys2Proof.Machine

/-! ### Errors of the security engine (02 R65, 17 R376) -/

/-- An error of the security engine outside a quench: it is raised, and its record goes to Granary. -/
theorem raiseSec_calm (bit code detail step copy : Nat) (d0 d1 : Word) {s : State} (h : s.sup.quenchSince = none) :
    raiseSec bit code detail step copy d0 d1 s = { errSec bit (secInfo bit step copy) s with
      grn := (raiseSec bit code detail step copy d0 d1 s).grn } := event_grn _ _ _ _ _ h

theorem only_raiseSec (bit code detail step copy : Nat) (d0 d1 : Word) {s : State} (h : s.sup.quenchSince = none) :
    Only [.sec, .grn] s (raiseSec bit code detail step copy d0 d1 s) := by
  rw [raiseSec_calm _ _ _ _ _ _ _ h]; simp [only_iff, errSec]

/-- An error raised stands. -/
theorem raiseSec_status {bit : Nat} (hb : bit < 32) (code detail step copy : Nat) (d0 d1 : Word) (s : State) :
    bitOf (raiseSec bit code detail step copy d0 d1 s).sec.err.status bit = true := by
  rw [show (raiseSec bit code detail step copy d0 d1 s).sec = (errSec bit (secInfo bit step copy) s).sec from
    only_event _ _ _ _ _ .sec (by decide)]
  exact raise_status_self _ hb _ _ _

/-- Errors that stood stand on. -/
theorem raiseSec_keeps {bit i : Nat} (hb : bit < 32) (hi : i < 32) (code detail step copy : Nat) (d0 d1 : Word) {s : State}
    (h : bitOf s.sec.err.status i = true) : bitOf (raiseSec bit code detail step copy d0 d1 s).sec.err.status i = true := by
  rw [show (raiseSec bit code detail step copy d0 d1 s).sec = (errSec bit (secInfo bit step copy) s).sec from
    only_event _ _ _ _ _ .sec (by decide)]
  exact raise_status_keeps _ hb hi _ _ _ h

/-! ### Copies that failed their trial (R66) -/

theorem dropFailed_id {c : Bool} {s : State} (h : copyState s c ≠ .failedTrial) : dropFailed c s = s := if_neg h

/-- Dropping a copy concerns its marks, the engine's errors and Granary; it leaves the other copy. -/
theorem dropFailed_frame (c : Bool) {s : State} (hq : s.sup.quenchSince = none) :
    Only [.mem, .sec, .grn] s (dropFailed c s) ∧ nor (dropFailed c s) (!c) = nor s (!c) ∧
      (dropFailed c s).mem.mram = s.mem.mram ∧ (dropFailed c s).mem.dram = s.mem.dram := by
  by_cases h : copyState s c = .failedTrial
  · have hmark := only_norPut c (statusOff + 0x1C) (zeros 4) s
    have hrej := only_raiseSec 0 0x3D20 (0 + 16 * copyNo c) 0 (copyNo c)
      (w32 (leAt (imgHeader (setMark c 0x1C s) c) 0x28 4)) (w32 (leAt (imgHeader (setMark c 0x1C s) c) 0x2C 4))
      (s := setMark c 0x1C s) (hmark.quench (by decide) hq)
    have hmem : (dropFailed c s).mem = (setMark c 0x1C s).mem := by
      rw [dropFailed, if_pos h]
      exact hrej.mem_eq (by decide)
    refine ⟨?_, ?_, ?_, ?_⟩
    · rw [dropFailed, if_pos h]
      exact (hmark.weaken (by decide)).then hrej (by decide)
    · rw [nor, nor, hmem]
      exact nor_norPut_other c _ _ s
    · rw [hmem, setMark, norPut_mem]
    · rw [hmem, setMark, norPut_mem]
  · rw [dropFailed_id h]
    exact ⟨.refl _ _, rfl, rfl, rfl⟩

/-- A copy in FAILED_TRIAL is marked BAD, with IMG. -/
theorem dropFailed_bad {c : Bool} {s : State} (h : copyState s c = .failedTrial) :
    copyState (dropFailed c s) c = .bad ∧ bitOf (dropFailed c s).sec.err.status 0 = true := by
  rw [dropFailed, if_pos h]
  refine ⟨?_, raiseSec_status (by decide) _ _ _ _ _ _ _⟩
  rw [← copyState_setMark_bad c s]
  exact copyState_congr (nor_of_mem ((only_event _ _ _ _ _).mem_eq (by decide)) c)

theorem dropFailed_keeps (c : Bool) {s : State} (h : bitOf s.sec.err.status 0 = true) :
    bitOf (dropFailed c s).sec.err.status 0 = true := by
  rw [dropFailed]
  split
  · refine raiseSec_keeps (by decide) (by decide) _ _ _ _ _ _ ?_
    rwa [setMark, norPut_sec]
  · exact h

/-- The two copies judged, A first. -/
def dropBoth (s : State) : State := dropFailed true (dropFailed false s)

theorem dropBoth_frame {s : State} (hq : s.sup.quenchSince = none) : Only [.mem, .sec, .grn] s (dropBoth s) ∧
    (dropBoth s).mem.mram = s.mem.mram ∧ (dropBoth s).mem.dram = s.mem.dram := by
  unfold dropBoth
  obtain ⟨h₁, -, hmram₁, hdram₁⟩ := dropFailed_frame false hq
  obtain ⟨h₂, -, hmram₂, hdram₂⟩ := dropFailed_frame true (s := dropFailed false s)
    (h₁.quench (by decide) hq)
  exact ⟨h₁.then h₂ (by decide), hmram₂.trans hmram₁, hdram₂.trans hdram₁⟩

/-- Each copy that failed its trial is BAD. -/
theorem dropBoth_bad {s : State} (hq : s.sup.quenchSince = none) {c : Bool} (hc : copyState s c = .failedTrial) :
    copyState (dropBoth s) c = .bad ∧ bitOf (dropBoth s).sec.err.status 0 = true := by
  unfold dropBoth
  obtain ⟨h₁, hB, -⟩ := dropFailed_frame false hq
  obtain ⟨-, hA, -⟩ := dropFailed_frame true (s := dropFailed false s)
    (h₁.quench (by decide) hq)
  rw [Bool.not_false] at hB
  rw [Bool.not_true] at hA
  cases c with
  | false =>
    obtain ⟨hbad, hbit⟩ := dropFailed_bad hc
    exact ⟨(copyState_congr hA).trans hbad, dropFailed_keeps true hbit⟩
  | true => exact dropFailed_bad ((copyState_congr hB).trans hc)

/-! ### IMAGE_SELECT (R66) -/

/-- Recovery is entered with NOIMG (R66, R67). -/
theorem enterRecovery_calm {s : State} (hq : s.sup.quenchSince = none) :
    enterRecovery s = { s with
      sec := { s.sec with recovery := true, err := s.sec.err.raise 2 (secInfo 2 0 15) (cycleWord s) 0 },
      grn := (enterRecovery s).grn } := event_grn _ _ _ _ _ hq

/-- What IMAGE_SELECT does once the copies have been judged: the candidates are set, or recovery is entered for want of any. -/
def imageChoice (s : State) : State :=
  let u : State := { s with mod := { s.mod with candidates := some (candidatesOf s), first := (candidatesOf s).head? } }
  if (candidatesOf s).isEmpty then enterRecovery u else u

theorem opImageSelect_eq {s : State} (hm : s.mod.mode = .boot) (hr : s.sec.ready = true) (ha : s.thr.applied = true)
    (hn : s.mod.candidates = none) (hrec : s.sec.recovery = false) :
    opImageSelect s = imageChoice (dropBoth s) := by
  rw [opImageSelect, if_pos ⟨hm, hr, ha, by rw [hn]; rfl, by rw [hrec]; rfl⟩, dropBoth]
  generalize dropFailed true (dropFailed false s) = d
  rfl

theorem imageChoice_some {s : State} (h : candidatesOf s ≠ []) : imageChoice s =
    { s with mod := { s.mod with candidates := some (candidatesOf s), first := (candidatesOf s).head? } } := if_neg (by rwa [List.isEmpty_iff])

theorem imageChoice_none {s : State} (hq : s.sup.quenchSince = none) (h : candidatesOf s = []) : imageChoice s = { s with
    mod := { s.mod with candidates := some [], first := none },
    sec := { s.sec with recovery := true, err := s.sec.err.raise 2 (secInfo 2 0 15) (cycleWord s) 0 },
    grn := (imageChoice s).grn } := by
  have hc : imageChoice s = enterRecovery { s with mod := { s.mod with candidates := some [], first := none } } := by
    rw [imageChoice, if_pos (by rw [h]; rfl), h]; rfl
  rw [hc, enterRecovery_calm (by exact hq)]
  rfl

/-- The choice leaves the copies, and any error that stood. -/
theorem imageChoice_frame {s : State} (hq : s.sup.quenchSince = none) :
    Only [.mod, .sec, .grn] s (imageChoice s) ∧ (imageChoice s).mod.candidates = some (candidatesOf s) ∧
      (bitOf s.sec.err.status 0 = true → bitOf (imageChoice s).sec.err.status 0 = true) := by
  by_cases h : candidatesOf s = []
  · rw [imageChoice_none hq h, h]
    exact ⟨by simp [only_iff], rfl, raise_status_keeps _ (by decide) (by decide) _ _ _⟩
  · rw [imageChoice_some h]
    exact ⟨by simp [only_iff], rfl, id⟩

/-- The candidates are a matter of the copies alone. -/
theorem candidatesOf_congr {s t : State} (h : ∀ c, nor t c = nor s c) : candidatesOf t = candidatesOf s := by
  have hc : isCandidate t = isCandidate s := funext fun c => by rw [isCandidate, isCandidate, copyState_congr (h c)]
  rw [candidatesOf, candidatesOf, copySeq_congr (h false), copySeq_congr (h true), hc]

theorem imageSelect_found {s : State} (hq : s.sup.quenchSince = none) (hm : s.mod.mode = .boot) (hr : s.sec.ready = true)
    (ha : s.thr.applied = true) (hn : s.mod.candidates = none) (hrec : s.sec.recovery = false)
    (hA : copyState s false ≠ .failedTrial) (hB : copyState s true ≠ .failedTrial) :
    (candidatesOf s ≠ [] → exec .imageSelect s = .next { s.begin with
      mod := { s.mod with candidates := some (candidatesOf s), first := (candidatesOf s).head? } }) ∧
    (candidatesOf s = [] → GivesOnly [.mod, .sec, .grn] .imageSelect s (fun t =>
      t.mod = { s.mod with candidates := some [], first := none } ∧ t.sec.recovery = true ∧
      bitOf t.sec.err.status 2 = true)) := by
  have hnor : ∀ c, nor s.begin c = nor s c := nor_of_mem rfl
  have hl : candidatesOf s.begin = candidatesOf s := candidatesOf_congr hnor
  have hop := opImageSelect_eq (s := s.begin) hm hr ha hn hrec
  have hkept : dropBoth s.begin = s.begin := by
    rw [dropBoth, dropFailed_id (c := false) (by rw [copyState_congr (hnor false)]; exact hA),
      dropFailed_id (by rw [copyState_congr (hnor true)]; exact hB)]
  rw [hkept] at hop
  refine ⟨fun h => ?_, fun h => ?_⟩
  · rw [exec_imageSelect, wfRun_next _ _ _ rfl, hop, imageChoice_some (hl ▸ h), hl]
    rfl
  · have hnone := imageChoice_none (s := s.begin) hq (hl.trans h)
    refine givesOnly_of_run (exec_imageSelect s) rfl ?_ ?_ <;> rw [hop, hnone]
    · simp [only_iff]
    · exact ⟨rfl, rfl, raise_status_self _ (by decide) _ _ _⟩

theorem imageSelect_failed {s : State} (hq : s.sup.quenchSince = none) (hm : s.mod.mode = .boot) (hr : s.sec.ready = true)
    (ha : s.thr.applied = true) (hn : s.mod.candidates = none) (hrec : s.sec.recovery = false) {c : Bool}
    (hc : copyState s c = .failedTrial) : GivesOnly [.mod, .sec, .grn, .mem] .imageSelect s (fun t =>
      copyState t c = .bad ∧ bitOf t.sec.err.status 0 = true ∧ t.mem.mram = s.mem.mram ∧ t.mem.dram = s.mem.dram ∧
      (∀ l, t.mod.candidates = some l → c ∉ l)) := by
  have hop := opImageSelect_eq (s := s.begin) hm hr ha hn hrec
  obtain ⟨hdrop, hmram, hdram⟩ := dropBoth_frame (s := s.begin) hq
  have hnor : nor s.begin c = nor s c := nor_of_mem rfl c
  obtain ⟨hbad, hbit⟩ := dropBoth_bad (s := s.begin) hq (by rw [copyState_congr hnor, hc])
  generalize dropBoth s.begin = d at hop hdrop hmram hdram hbad hbit
  obtain ⟨hchoose, hcand, herr⟩ := imageChoice_frame (s := d) (hdrop.quench (by decide) hq)
  have hmem : (imageChoice d).mem = d.mem := hchoose.mem_eq (by decide)
  have hout : c ∉ candidatesOf d := by simp [candidatesOf, isCandidate, hbad]
  refine givesOnly_of_run (exec_imageSelect s) rfl ?_ ?_ <;> rw [hop]
  · exact (hdrop.weaken (by decide)).then hchoose (by decide)
  · have hcopy : copyState (imageChoice d) c = .bad := by rw [copyState_congr (nor_of_mem hmem c), hbad]
    generalize imageChoice d = t at hmem hcand herr hcopy
    refine ⟨hcopy, herr hbit, by rw [hmem, hmram]; rfl, by rw [hmem, hdram]; rfl, fun l hl => ?_⟩
    have : l = candidatesOf d := Option.some.inj (hl.symm.trans hcand)
    rwa [this]

end Sys2Proof.Machine
end

section
/-! PROOF. The check of a copy and the raise of the counter (02 R64 to R67, 17 R366). -/

namespace Sys2Proof.Machine

/-! ### What a check reads (R64)

A check reads the copy, the keys and the fuses, which the start of a command leaves. -/

theorem imgBytes_begin (s : State) (c : Bool) (o n : Nat) : imgBytes s.begin c o n = imgBytes s c o n := rfl

theorem imgHeader_begin (s : State) (c : Bool) : imgHeader s.begin c = imgHeader s c := rfl

theorem sigBlock_begin (s : State) (c : Bool) (h : List Byte) : sigBlock s.begin c h = sigBlock s c h := rfl

theorem imageKey_begin (s : State) (n : Nat) : imageKey s.begin n = imageKey s n := rfl

theorem secPlain_begin (s : State) (c : Bool) (key : Nat) (e : SecEnt) : secPlain s.begin c key e = secPlain s c key e := by
  rw [secPlain, secPlain, imgBytes_begin, imageKey_begin]

theorem payloads_begin (s : State) (c : Bool) (key : Nat) (l : List SecEnt) :
    payloads s.begin c key l = payloads s c key l := by
  induction l with
  | nil => rfl
  | cons e l ih => simp only [payloads, secPlain_begin, ih]

theorem copyPays_begin (s : State) (c : Bool) : copyPays s.begin c = copyPays s c := by
  rw [copyPays, copyPays, imgHeader_begin, sigBlock_begin, payloads_begin]

theorem step2_begin (s : State) (c : Bool) (h : List Byte) : step2 s.begin c h = step2 s c h := rfl

theorem step3_begin (s : State) (c : Bool) (h : List Byte) : step3 s.begin c h = step3 s c h := rfl

theorem step4_begin (s : State) (h : List Byte) : step4 s.begin h = step4 s h := rfl

theorem checkGenuine_begin (s : State) (c : Bool) : checkGenuine s.begin c = checkGenuine s c := by
  rw [checkGenuine, checkGenuine, imgHeader_begin, step2_begin, step3_begin, step4_begin, copyPays_begin]

theorem checkImage_begin (s : State) (c : Bool) : checkImage s.begin c = checkImage s c := by
  rw [checkImage, checkImage, checkGenuine_begin]

theorem copyState_begin (s : State) (c : Bool) : copyState s.begin c = copyState s c := copyState_congr (nor_of_mem rfl c)

/-! ### IMAGE_CHECK (R64, R66) -/

/-- A copy on trial that fails its check is BAD. -/
def trialMarked (c : Bool) (s : State) : State := if copyState s c = .trial then setMark c 0x1C s else s

/-- A candidate that fails: BAD where it was on trial, IMG, and recovery after the last one. -/
def passOver (c : Bool) (k : Nat) (rest : List Bool) (s : State) : State :=
  let s := rejectCopy c k { trialMarked c s with mod := { (trialMarked c s).mod with candidates := some rest } }
  if rest.isEmpty then enterRecovery s else s

/-- The next candidate is accepted or passed over. -/
theorem opImageCheck_eq {s : State} {c : Bool} {rest : List Bool} (hm : s.mod.mode = .boot)
    (hc : s.mod.candidates = some (c :: rest)) (hn : s.mod.chosen = none) (hrec : s.sec.recovery = false) :
    opImageCheck c s = if checkImage s c = 0 then acceptCopy c s else passOver c (checkImage s c) rest s := by
  rw [opImageCheck, hc]
  dsimp only
  rw [if_pos ⟨hm, rfl, by rw [hn]; rfl, by rw [hrec]; rfl⟩]
  simp only [passOver, trialMarked]

theorem acceptCopy_first {c : Bool} {s : State} (h : s.mod.first = some c) :
    acceptCopy c s = { s with mod := { s.mod with chosen := some c } } := if_pos h

/-- A copy other than the first in order is a fallback. -/
theorem acceptCopy_fallback {c : Bool} {s : State} (hq : s.sup.quenchSince = none) (h : s.mod.first ≠ some c) :
    ∃ g, acceptCopy c s = { s with mod := { s.mod with chosen := some c }, grn := g, sec := { s.sec with
      fallback := true, err := s.sec.err.raise 1 (secInfo 1 0 (copyNo c)) (cycleWord s) 0 } } :=
  ⟨_, (if_neg h).trans (raiseSec_calm _ _ _ _ _ _ _ hq)⟩

theorem trialMarked_other {c : Bool} {s : State} (h : copyState s c ≠ .trial) : trialMarked c s = s := if_neg h

theorem trialMarked_bad {c : Bool} {s : State} (h : copyState s c = .trial) : copyState (trialMarked c s) c = .bad := by
  rw [trialMarked, if_pos h, copyState_setMark_bad]

/-- A mark leaves everything but boot NOR. -/
theorem trialMarked_frame (c : Bool) (s : State) :
    trialMarked c s = { s with mem := (trialMarked c s).mem } ∧ (trialMarked c s).mem.mram = s.mem.mram := by
  by_cases h : copyState s c = .trial
  · rw [trialMarked, if_pos h, setMark, norPut_mem]
    exact ⟨rfl, rfl⟩
  · rw [trialMarked_other h]
    exact ⟨rfl, rfl⟩

theorem rejectCopy_calm (c : Bool) (k : Nat) {s : State} (hq : s.sup.quenchSince = none) :
    ∃ g, rejectCopy c k s = { s with grn := g, sec := { s.sec with
      err := s.sec.err.raise 0 (secInfo 0 k (copyNo c)) (cycleWord s) 0 } } := ⟨_, raiseSec_calm _ _ _ _ _ _ _ hq⟩

theorem passOver_calm (c : Bool) (k : Nat) (rest : List Bool) {s : State} (hq : s.sup.quenchSince = none)
    (hrec : s.sec.recovery = false) : ∃ g e,
    passOver c k rest s = { s with
      mem := (trialMarked c s).mem, mod := { s.mod with candidates := some rest },
      sec := { s.sec with err := e, recovery := rest.isEmpty }, grn := g } ∧ bitOf e.status 0 = true := by
  obtain ⟨hmark, -⟩ := trialMarked_frame c s
  unfold passOver
  generalize (trialMarked c s) = m at hmark
  obtain ⟨mem, hm⟩ : ∃ mem, m.mem = mem := ⟨_, rfl⟩
  rw [hm] at hmark ⊢
  subst hmark
  obtain ⟨g, hrej⟩ := rejectCopy_calm c k (s := { s with mem := mem, mod := { s.mod with candidates := some rest } }) hq
  dsimp only
  rw [hrej]
  by_cases hrest : rest.isEmpty = true
  · rw [if_pos hrest, enterRecovery_calm (by exact hq), hrest]
    exact ⟨_, _, rfl, raise_status_keeps _ (by decide) (by decide) _ _ _ (raise_status_self _ (by decide) _ _ _)⟩
  · rw [if_neg hrest, Bool.eq_false_iff.2 hrest, ← hrec]
    exact ⟨_, _, rfl, raise_status_self _ (by decide) _ _ _⟩

theorem imageCheck_next {s : State} {c : Bool} {rest : List Bool} (hq : s.sup.quenchSince = none) (hm : s.mod.mode = .boot)
    (hc : s.mod.candidates = some (c :: rest)) (hn : s.mod.chosen = none) (hrec : s.sec.recovery = false) :
    GivesOnly [.mod, .sec, .grn, .mem] (.imageCheck c) s (fun t => t.mem.mram = s.mem.mram ∧
      if checkImage s c = 0 then
        t.mem = s.mem ∧ t.mod = { s.mod with chosen := some c } ∧ t.sec.recovery = false ∧
          (s.mod.first ≠ some c → t.sec.fallback = true ∧ bitOf t.sec.err.status 1 = true) ∧
          (s.mod.first = some c → t.sec = s.sec)
      else
        t.mod = { s.mod with candidates := some rest } ∧ bitOf t.sec.err.status 0 = true ∧
          t.sec.recovery = rest.isEmpty ∧ (copyState s c = .trial → copyState t c = .bad) ∧
          (copyState s c ≠ .trial → t.mem = s.mem)) := by
  have hop := opImageCheck_eq (s := s.begin) hm hc hn hrec
  rw [checkImage_begin] at hop
  by_cases hpass : checkImage s c = 0
  · rw [if_pos hpass] at hop
    simp only [if_pos hpass]
    by_cases hfirst : s.mod.first = some c
    · rw [acceptCopy_first (s := s.begin) hfirst] at hop
      refine givesOnly_of_run (exec_imageCheck c s) rfl ?_ ?_ <;> rw [hop]
      · simp [only_iff]
      · exact ⟨rfl, rfl, rfl, hrec, fun h => absurd hfirst h, fun _ => rfl⟩
    · obtain ⟨g, hfall⟩ := acceptCopy_fallback (s := s.begin) hq hfirst
      rw [hfall] at hop
      refine givesOnly_of_run (exec_imageCheck c s) rfl ?_ ?_ <;> rw [hop]
      · simp [only_iff]
      · exact ⟨rfl, rfl, rfl, hrec, fun _ => ⟨rfl, raise_status_self _ (by decide) _ _ _⟩, fun h => absurd h hfirst⟩
  · rw [if_neg hpass] at hop
    simp only [if_neg hpass]
    obtain ⟨g, e, hover, hbit⟩ := passOver_calm c (checkImage s c) rest (s := s.begin) hq hrec
    obtain ⟨-, hmram⟩ := trialMarked_frame c s.begin
    have htrial : copyState s c = .trial → copyState (trialMarked c s.begin) c = .bad := fun h =>
      trialMarked_bad (by rw [copyState_begin, h])
    have hother : copyState s c ≠ .trial → (trialMarked c s.begin).mem = s.mem := fun h => by
      rw [trialMarked_other (by rw [copyState_begin]; exact h), State.begin_mem]
    generalize trialMarked c s.begin = m at hover hmram htrial hother
    rw [hover] at hop
    refine givesOnly_of_run (exec_imageCheck c s) rfl ?_ ?_ <;> rw [hop]
    · simp [only_iff]
    · refine ⟨hmram, rfl, hbit, rfl, fun h => ?_, hother⟩
      rw [← htrial h]
      exact copyState_congr rfl

/-! ### COUNTER_RAISE (17 R366) -/

theorem counterRaise_pending {s : State} {c : Bool} (hq : s.sup.quenchSince = none) (hm : s.mod.mode = .boot)
    (hc : s.mod.chosen = some c) (hgood : copyState s c = .good) (hlow : s.fuse.rollback < counterOf s c) :
    GivesOnly [.fuse, .sec, .grn] .counterRaise s (fun t =>
      t.fuse = { s.fuse with rollback := counterOf s c } ∧ bitOf t.sec.err.status 7 = true) := by
  have hcount : counterOf s.begin c = counterOf s c := by
    rw [counterOf, counterOf, imgHeader_begin]
  have hpend : raisePending s.begin c = true := by
    simp only [raisePending, copyState_begin, hgood, hcount, State.begin_fuse, hlow, decide_true, Bool.and_self]
  have hop : opCounterRaise s.begin = raiseSec 7 0x2D34 0 0 15 (w32 s.fuse.rollback) (w32 (counterOf s c))
      { s.begin with fuse := { s.fuse with rollback := counterOf s c } } := by
    rw [opCounterRaise, show s.begin.mod.chosen = some c from hc]
    dsimp only
    rw [if_pos ⟨hm, hpend⟩, hcount, State.begin_fuse]
  rw [raiseSec_calm _ _ _ _ _ _ _ (by exact hq)] at hop
  refine givesOnly_of_run (exec_counterRaise s) rfl ?_ ?_ <;> rw [hop]
  · simp [only_iff, errSec]
  · exact ⟨rfl, raise_status_self _ (by decide) _ _ _⟩

/-- Settles O2: the two copies judged (`dropBoth`) leave the candidates to `imageChoice`; a check accepts the next candidate
or passes it over (`passOver`). -/
theorem copyChosenAndChecked : Obligations.CopyChosenAndChecked := fun _ hm hq =>
  ⟨fun hr ha hn hrec => ⟨imageSelect_found hq hm hr ha hn hrec, fun _ => imageSelect_failed hq hm hr ha hn hrec⟩,
    fun _ _ hc hn hrec => imageCheck_next hq hm hc hn hrec, fun _ => counterRaise_pending hq hm⟩

end Sys2Proof.Machine
end

section
/-! PROOF. Requests of the maintenance port that a session has the privilege for (17 R370, R371, R372). -/

namespace Sys2Proof.Machine

/-! ### Responses (R370) -/

/-- The response to a request that carries its status alone. -/
def answer (r : Req) (op status : Nat) : Out :=
  .reply r.ses (le 2 (op + 0x8000) ++ le 2 1 ++ le 4 r.tag ++ le 1 status)

theorem streamPush_fab (gw num : Nat) (b : List Byte) (s : State) :
    streamPush gw num b s = { s with fab := (streamPush gw num b s).fab } := by
  unfold streamPush
  split <;> rfl

/-- A response is given out, and enters the stream of a relayed session; nothing else changes. -/
theorem reply_eq (r : Req) (op status : Nat) (s : State) :
    ∃ fab, reply r op status [] s = { s with out := s.out ++ [answer r op status], fab := fab } := by
  have hmsg : replyMsg op r.tag status [] = le 2 (op + 0x8000) ++ le 2 1 ++ le 4 r.tag ++ le 1 status := List.append_nil _
  rw [answer, ← hmsg]
  unfold reply
  dsimp only
  split
  · split
    · rw [streamPush_fab]
      exact ⟨_, rfl⟩
    · exact ⟨_, rfl⟩
  · exact ⟨_, rfl⟩

/-! ### Requests that are served -/

/-- The session of the request has been used now. -/
def idled (r : Req) (s : State) : State := modSession r.ses (fun (y : Session) => { y with idle := s.clk.now }) s

/-- The request is one of an open session, served by the port outside recovery, with privilege 5, while no other privileged
action runs. -/
structure Granted (s : State) (r : Req) (x : Session) : Prop where
  wf : r.wf = true
  session : sessionAt s r.ses = some x
  port : portServes s = true
  normal : s.sec.recovery = false
  priv : privOf s x 5 = true
  free : engineBusy s = false

/-- A granted request is its action, answered with the action's status, and recorded where it was performed. -/
theorem privileged_granted {s : State} {r : Req} {x : Session} (h : Granted s r x) (op addr : Nat) (rec : Bool)
    (f : Session → State → Nat × State) : privileged r op 5 addr rec f s.begin =
      if (f x (idled r s.begin)).1 = stOk then
        reply r op stOk [] (event 0x2D36 op (w32 addr) x.authId (f x (idled r s.begin)).2)
      else reply r op (f x (idled r s.begin)).1 [] (f x (idled r s.begin)).2 := by
  have hport : engineServes s = true ∧ s.sec.portClosed = false := by simpa [portServes] using h.port
  have hserves : serves x.relayed (idled r s.begin) = true := by
    show (if x.relayed then engineServes s else engineServes s && !s.sec.portClosed) = true
    simp [hport]
  have hpriv : privOf (idled r s.begin) x 5 = true := h.priv
  have hfree : engineBusy (idled r s.begin) = false := h.free
  have hnormal : (idled r s.begin).sec.recovery = false := h.normal
  unfold idled at hserves hpriv hfree hnormal ⊢
  simp only [privileged, request, show sessionAt s.begin r.ses = some x from h.session, hserves, hpriv, hfree, hnormal,
    Bool.not_true, Bool.false_and, Bool.false_eq_true, if_false]

/-- A performed request: what its action leaves, the answer OK and a record. -/
theorem givesOnly_performed {s : State} {r : Req} {x : Session} (h : Granted s r x) {c : Instr} {op addr : Nat} {rec : Bool}
    {f : Session → State → Nat × State} (hx : exec c s = wfRun c (privileged r op 5 addr rec f) s) (hw : c.wf = true)
    {u : State} (hf : f x (idled r s.begin) = (stOk, u)) {ps : List StatePart} (hu : Only ps s.begin u)
    (hps : StatePart.fab ∈ ps ∧ StatePart.grn ∈ ps ∧ StatePart.sup ∉ ps) (hq : s.sup.quenchSince = none) (hout : u.out = [])
    {P : State → Prop} (hP : ∀ t, Only [.pending, .fab, .grn] u t → t.out = [answer r op 0] → P t) : GivesOnly ps c s P := by
  obtain ⟨hfab, hgrn, hsup⟩ := hps
  have hop := privileged_granted h op addr rec f
  rw [hf, if_pos rfl, event_grn _ _ _ _ _ (hu.quench hsup hq)] at hop
  obtain ⟨fab, hreply⟩ := reply_eq r op stOk { u with grn := (event 0x2D36 op (w32 addr) x.authId u).grn }
  rw [hreply] at hop
  refine givesOnly_of_run hx hw ?_ ?_ <;> rw [hop]
  · exact hu.then (qs := [.fab, .grn]) (by simp [only_iff]) (by simp [hfab, hgrn])
  · refine hP _ (by simp [only_iff]) ?_
    show u.out ++ [answer r op stOk] = [answer r op 0]
    rw [hout]
    rfl

/-- A request that its action refuses: the status alone. -/
theorem givesOnly_refused {s : State} {r : Req} {x : Session} (h : Granted s r x) {c : Instr} {op addr : Nat} {rec : Bool}
    {f : Session → State → Nat × State} (hx : exec c s = wfRun c (privileged r op 5 addr rec f) s) (hw : c.wf = true)
    {k : Nat} (hk : k ≠ stOk) (hf : f x (idled r s.begin) = (k, idled r s.begin))
    {P : State → Prop} (hP : ∀ t, Only [.pending, .fab] (idled r s.begin) t → t.out = [answer r op k] → P t) :
    GivesOnly [.sec, .fab] c s P := by
  have hop := privileged_granted h op addr rec f
  obtain ⟨fab, hreply⟩ := reply_eq r op k (idled r s.begin)
  rw [hf, if_neg hk, hreply] at hop
  refine givesOnly_of_run hx hw ?_ ?_ <;> rw [hop]
  · simp [only_iff, idled, modSession]
  · exact hP _ (by simp [only_iff]) rfl

end Sys2Proof.Machine
end

section
/-! PROOF. An installation writes the copy that does not run, and the confirmation of a trial copy (02 R44, R68, R69, 17 R366). -/

namespace Sys2Proof.Machine

/-! ### Erasing and programming (R44) -/

/-- A table cleared between two numbers. -/
theorem look_clearRange (a b : Nat) (m : FMap Byte) (d : Byte) (k : Nat) :
    FMap.look (clearRange a b m) d k = if a ≤ k ∧ k < b then d else FMap.look m d k := by
  induction m with
  | nil => exact (ite_self d).symm
  | cons e m ih =>
    obtain ⟨j, w⟩ := e
    unfold clearRange at ih ⊢
    by_cases hj : a ≤ j ∧ j < b
    · rw [List.filter_cons_of_neg (by simp [hj]), ih, FMap.look_cons]
      by_cases hjk : j = k
      · subst hjk
        rw [if_pos hj, if_pos hj]
      · rw [if_neg hjk]
    · rw [List.filter_cons_of_pos (by simp; omega), FMap.look_cons, FMap.look_cons, ih]
      by_cases hjk : j = k
      · subst hjk
        rw [if_pos rfl, if_pos rfl, if_neg hj]
      · rw [if_neg hjk, if_neg hjk]

theorem nor_norErase_self (c : Bool) (a b : Nat) (s : State) : nor (norErase c a b s) c = clearRange a b (nor s c) := by
  cases c <;> rfl

theorem nor_norErase_other (c : Bool) (a b : Nat) (s : State) : nor (norErase c a b s) (!c) = nor s (!c) := by
  cases c <;> rfl

/-- An erasure changes boot NOR alone. -/
theorem norErase_mem (c : Bool) (a b : Nat) (s : State) : norErase c a b s = { s with
    mem := { s.mem with norA := (norErase c a b s).mem.norA, norB := (norErase c a b s).mem.norB } } := by cases c <;> rfl

theorem only_norErase (c : Bool) (a b : Nat) (s : State) : Only [.mem] s (norErase c a b s) := by
  rw [norErase_mem]; simp [only_iff]

@[simp] theorem length_norGet (s : State) (c : Bool) (o n : Nat) : (norGet s c o n).length = n := by
  simp [norGet_eq, FMap.lookList]

/-- Bytes of a copy of which none is programmed. -/
theorem norGet_blank {s : State} {c : Bool} {o n : Nat} (h : ∀ k, o ≤ k → k < o + n → FMap.look (nor s c) 0xFF k = 0xFF) :
    norGet s c o n = List.replicate n 0xFF := by
  refine List.eq_replicate_iff.2 ⟨length_norGet s c o n, fun b hb => ?_⟩
  obtain ⟨i, hi, rfl⟩ := List.mem_map.1 hb
  exact h _ (Nat.le_add_right _ _) (by have := List.mem_range.1 hi; omega)

/-- A mark that is not programmed is not set. -/
theorem markSet_blank {s : State} {c : Bool} {o : Nat}
    (h : ∀ k, statusOff + o ≤ k → k < statusOff + o + 4 → FMap.look (nor s c) 0xFF k = 0xFF) : markSet s c o = false := by
  rw [markSet, statusWord, norGet_blank h]
  decide

/-- Programmed bytes: a bit is clear where it was clear or is programmed so. -/
theorem norGet_norProgram (c : Bool) (o : Nat) (bs : List Byte) (s : State) : norGet (norProgram c o bs s) c o bs.length =
    List.zipWith (fun (a b : Byte) => a &&& b) (norGet s c o bs.length) bs := by
  have h := norGet_norPut c o (List.zipWith (fun (a b : Byte) => a &&& b) (norGet s c o bs.length) bs) s
  rwa [List.length_zipWith, length_norGet, Nat.min_self] at h

/-! ### The other copy -/

/-- The boot NOR that is not copy `c` is the same in both states. -/
abbrev OtherSame (s t : State) (c : Bool) : Prop := if c then t.mem.norA = s.mem.norA else t.mem.norB = s.mem.norB

theorem otherSame_iff (s t : State) (c : Bool) : OtherSame s t c ↔ nor t (!c) = nor s (!c) := by cases c <;> rfl

/-! ### IMAGE_BEGIN (R68) -/

/-- The copy that does not run is erased, its status block first, and an installation of it begins. -/
def installBegun (i : Install) (s : State) : State :=
  norErase i.copyB 0 0x8000000 (norErase i.copyB statusOff (statusOff + 0x10000)
    { s with sec := { s.sec with install := some i } })

theorem installBegun_frame (i : Install) (s : State) : Only [.sec, .mem] s (installBegun i s) ∧
    (installBegun i s).sec.install = some i ∧ (installBegun i s).out = s.out ∧ OtherSame s (installBegun i s) i.copyB := by
  unfold installBegun
  rw [otherSame_iff, nor_norErase_other, nor_norErase_other, norErase_mem, norErase_mem]
  exact ⟨by simp [only_iff], rfl, rfl, rfl⟩

/-- The erased copy holds no byte below its status block's end. -/
theorem look_installBegun (i : Install) (s : State) {k : Nat} (hk : k < statusOff + 0x10000) :
    FMap.look (nor (installBegun i s) i.copyB) 0xFF k = 0xFF := by
  unfold installBegun
  rw [nor_norErase_self, look_clearRange, nor_norErase_self, look_clearRange]
  by_cases h : k < 0x8000000
  · rw [if_pos ⟨Nat.zero_le _, h⟩]
  · rw [if_pos (c := statusOff ≤ k ∧ _) ⟨Nat.le_of_not_lt h, hk⟩, ite_self]

theorem copyState_installBegun (i : Install) (s : State) : copyState (installBegun i s) i.copyB = .empty := by
  have hmark : ∀ o, o < 0x20 → markSet (installBegun i s) i.copyB o = false := fun o ho =>
    markSet_blank fun k _ hk => look_installBegun i s (by omega)
  simp [copyState, hmark]

theorem only_idled (r : Req) (s : State) : Only [.sec] s.begin (idled r s.begin) := by
  simp [only_iff, idled, modSession]

theorem nor_idled (r : Req) (s : State) (c : Bool) : nor (idled r s.begin) c = nor s c := nor_of_mem rfl c

/-- A new installation is taken: none runs, and the running copy is GOOD. -/
theorem install_free {s : State} (r : Req) (hnone : s.sec.install = none) (hgood : copyState s s.sec.copyB = .good) :
    ¬ ((idled r s.begin).sec.install.isSome = true ∨ ((!(idled r s.begin).sec.recovery) = true ∧
      copyState (idled r s.begin) (idled r s.begin).sec.copyB ≠ .good)) := by
  rintro (hsome | ⟨-, hbad⟩)
  · rw [show (idled r s.begin).sec.install = none from hnone] at hsome
    cases hsome
  · exact hbad ((copyState_congr (nor_idled r s _)).trans hgood)

theorem imageBegin_accepted {s : State} {r : Req} {x : Session} (h : Granted s r x) (hq : s.sup.quenchSince = none) {len : Nat}
    (hlen : len < 2 ^ 32) (hnone : s.sec.install = none) (hgood : copyState s s.sec.copyB = .good) (hlo : 0x600 ≤ len)
    (hhi : len ≤ 0x8000000) (hal : len % 64 = 0) :
    GivesOnly [.sec, .fab, .mem, .grn] (.imageBegin r len) s (fun t => t.out = [answer r 0x30 0] ∧
      OtherSame s t (!s.sec.copyB) ∧ copyState t (!s.sec.copyB) = .empty ∧
      (∀ o, o < 0x8000000 → norGet t (!s.sec.copyB) o 1 = [0xFF]) ∧
      ∃ i, t.sec.install = some i ∧ i.ses = r.ses ∧ i.copyB = !s.sec.copyB ∧ i.len = len ∧ i.ended = false) := by
  obtain ⟨i, hi⟩ : ∃ i : Install, i = ⟨r.ses, !s.sec.copyB, len, installSeq (idled r s.begin), 0, false, 0⟩ := ⟨_, rfl⟩
  have hcopy : i.copyB = !s.sec.copyB := by rw [hi]
  have htarget : installTarget (idled r s.begin) = !s.sec.copyB := by
    rw [installTarget, if_neg (by rw [show (idled r s.begin).sec.recovery = false from h.normal]; decide)]
    rfl
  obtain ⟨hframe, hinst, hnoout, hother⟩ := installBegun_frame i (idled r s.begin)
  have hempty := copyState_installBegun i (idled r s.begin)
  have hblank : ∀ o, o < 0x8000000 → norGet (installBegun i (idled r s.begin)) i.copyB o 1 = [0xFF] := fun o ho =>
    norGet_blank fun k _ hk => look_installBegun i _ (by rw [statusOff]; omega)
  have hframe' : Only [.sec, .fab, .mem, .grn] s.begin (installBegun i (idled r s.begin)) :=
    ((only_idled r s).weaken (by decide)).then hframe (by decide)
  refine givesOnly_performed h (exec_imageBegin r len s) (by simp only [Instr.wf, h.wf, Bool.true_and]; exact decide_eq_true hlen)
    (u := installBegun i (idled r s.begin)) ?_ hframe' (by decide) hq hnoout fun t ht hout => ?_
  · dsimp only
    rw [if_neg (install_free r hnone hgood), if_neg (by omega), htarget, hi, installBegun]
  have hnor : ∀ c, nor t c = nor (installBegun i (idled r s.begin)) c := nor_of_mem (ht.mem_eq (by decide))
  rw [← hcopy]
  refine ⟨hout, ?_, ?_, fun o ho => ?_, i, ?_, by rw [hi], rfl, by rw [hi], by rw [hi]⟩
  · rw [otherSame_iff, hnor, (otherSame_iff _ _ _).1 hother, nor_idled]
  · rw [copyState_congr (hnor _), hempty]
  · rw [norGet_congr (hnor _), hblank o ho]
  · rw [show t.sec = _ from ht .sec (by decide), hinst]

theorem imageBegin_format {s : State} {r : Req} {x : Session} (h : Granted s r x) {len : Nat}
    (hlen : len < 2 ^ 32) (hnone : s.sec.install = none) (hgood : copyState s s.sec.copyB = .good)
    (hbad : len < 0x600 ∨ 0x8000000 < len ∨ len % 64 ≠ 0) : GivesOnly [.sec, .fab] (.imageBegin r len) s (fun t =>
      t.out = [answer r 0x30 3] ∧ t.sec.install = none) := by
  refine givesOnly_refused h (exec_imageBegin r len s) (by simp only [Instr.wf, h.wf, Bool.true_and]; exact decide_eq_true hlen)
    (k := stFormat) (by decide) ?_ fun t ht hout => ⟨hout, ?_⟩
  · dsimp only
    rw [if_neg (install_free r hnone hgood), if_pos hbad]
  · rw [show t.sec = _ from ht .sec (by decide)]
    exact hnone

/-! ### IMAGE_DATA and IMAGE_END (R68) -/

theorem imageData_programmed {s : State} {r : Req} {x : Session} (h : Granted s r x) (hq : s.sup.quenchSince = none) {i : Install}
    (hi : s.sec.install = some i) (hses : i.ses = r.ses) {off : Nat} {bs : List Byte}
    (hw : (Instr.imageData r off bs).wf = true) (hne : bs ≠ []) (hmax : bs.length ≤ 16372) (hfit : off + bs.length ≤ i.len) :
    GivesOnly [.sec, .fab, .mem, .grn] (.imageData r off bs) s (fun t => t.out = [answer r 0x31 0] ∧ OtherSame s t i.copyB ∧
      norGet t i.copyB off bs.length = List.zipWith (fun (a b : Byte) => a &&& b) (norGet s i.copyB off bs.length) bs) := by
  obtain ⟨v, hv⟩ : ∃ v : State, v = { idled r s.begin with sec := { (idled r s.begin).sec with
    install := some { i with got := i.got + bs.length } } } := ⟨_, rfl⟩
  have hnorv : ∀ c, nor v c = nor s c := fun c => by rw [hv]; exact nor_idled r s c
  have hframe : Only [.sec, .fab, .mem, .grn] s.begin (norProgram i.copyB off bs v) := by
    refine (Only.then (t := v) (qs := [.mem]) ?_ (only_norPut _ _ _ _) (by decide))
    rw [hv]
    simp [only_iff, idled, modSession]
  refine givesOnly_performed h (exec_imageData r off bs s) hw (u := norProgram i.copyB off bs v) ?_ hframe (by decide) hq ?_
    fun t ht hout => ?_
  · rw [show (idled r s.begin).sec.install = some i from hi]
    dsimp only
    rw [if_neg (not_not.2 hses), if_neg, hv]
    simp only [List.isEmpty_iff, hne, false_or]
    omega
  · rw [norProgram, norPut_out, hv]
    rfl
  · have hnor : ∀ c, nor t c = nor (norProgram i.copyB off bs v) c := nor_of_mem (ht.mem_eq (by decide))
    refine ⟨hout, ?_, ?_⟩
    · rw [otherSame_iff, hnor, norProgram, nor_norPut_other, hnorv]
    · rw [norGet_congr (hnor _), norGet_norProgram, norGet_congr (hnorv _)]

theorem imageData_format {s : State} {r : Req} {x : Session} (h : Granted s r x) {i : Install}
    (hi : s.sec.install = some i) (hses : i.ses = r.ses) {off : Nat} {bs : List Byte}
    (hw : (Instr.imageData r off bs).wf = true) (hbad : bs = [] ∨ i.len < off + bs.length) :
    GivesOnly [.sec, .fab] (.imageData r off bs) s (fun t => t.out = [answer r 0x31 3]) := by
  refine givesOnly_refused h (exec_imageData r off bs s) hw (k := stFormat) (by decide) ?_ fun _ _ hout => hout
  rw [show (idled r s.begin).sec.install = some i from hi]
  dsimp only
  rw [if_neg (not_not.2 hses), if_pos (hbad.imp List.isEmpty_iff.2 .inr)]

theorem imageEnd_starts {s : State} {r : Req} {x : Session} (h : Granted s r x) (hq : s.sup.quenchSince = none) {i : Install}
    (hi : s.sec.install = some i) (hses : i.ses = r.ses) : GivesOnly [.sec, .fab, .grn] (.imageEnd r) s (fun t =>
      t.out = [answer r 0x32 0] ∧ t.sec.install = some { i with ended := true, tag := r.tag }) := by
  refine givesOnly_performed h (exec_imageEnd r s) h.wf (u := { idled r s.begin with sec := { (idled r s.begin).sec with
    install := some { i with ended := true, tag := r.tag } } }) ?_ ?_ (by decide) hq rfl fun t ht hout => ⟨hout, ?_⟩
  · rw [show (idled r s.begin).sec.install = some i from hi]
    dsimp only
    rw [if_neg (not_not.2 hses)]
  · simp [only_iff, idled, modSession]
  · rw [show t.sec = _ from ht .sec (by decide)]

theorem imageEnd_none {s : State} {r : Req} {x : Session} (h : Granted s r x) (hnone : s.sec.install = none) :
    GivesOnly [.sec, .fab] (.imageEnd r) s (fun t => t.out = [answer r 0x32 2]) := by
  refine givesOnly_refused h (exec_imageEnd r s) h.wf (k := stState) (by decide) ?_ fun _ _ hout => hout
  rw [show (idled r s.begin).sec.install = none from hnone]

/-! ### INSTALLATION_COMPLETE (R68) -/

theorem installationComplete_waits {s : State} {i : Install} (hi : s.sec.install = some i) (he : i.ended = false) :
    exec .installationComplete s = .next s.begin := by
  rw [exec_installationComplete, wfRun_next _ _ _ rfl, opInstallationComplete, show s.begin.sec.install = some i from hi]
  simp only [he, Bool.not_false, if_true]
  rfl

/-- The SEQUENCE programmed into a blank word of the status block reads as it was given. -/
theorem copySeq_programmed {s : State} {c : Bool} {q : Nat} (hblank : norGet s c statusOff 4 = [0xFF, 0xFF, 0xFF, 0xFF])
    (hq : q < 2 ^ 32) : copySeq (norProgram c statusOff (le 4 q) s) c = q := by
  have hbytes := norGet_norProgram c statusOff (le 4 q) s
  have hand : List.zipWith (fun (a b : Byte) => a &&& b) [0xFF, 0xFF, 0xFF, 0xFF] (le 4 q) = le 4 q := by
    have hFF : ∀ b : Byte, 255#8 &&& b = b := fun b => BitVec.allOnes_and
    simp [le, hFF]
  rw [length_le, hblank, hand] at hbytes
  rw [copySeq, statusWord, Nat.add_zero, hbytes, leNat_le]
  exact Nat.mod_eq_of_lt hq

/-- The bytes a genuine installation programs: its SEQUENCE, then the mark of a trial. -/
def installMarked (i : Install) (s : State) : State :=
  setMark i.copyB 0x10 (norProgram i.copyB statusOff (le 4 i.seq) { s with sec := { s.sec with install := none } })

theorem installMarked_frame (i : Install) (s : State) : Only [.sec, .mem] s (installMarked i s) ∧
    (installMarked i s).sec = { s.sec with install := none } ∧ OtherSame s (installMarked i s) i.copyB ∧
    markSet (installMarked i s) i.copyB 0x10 = true := by
  refine ⟨?_, ?_, ?_, markSet_setMark _ _ _⟩
  · refine Only.then (t := { s with sec := { s.sec with install := none } }) (qs := [.mem]) (by simp [only_iff]) ?_ (by decide)
    exact (only_norPut _ _ _ _).then (only_norPut _ _ _ _) (by decide)
  · rw [installMarked, setMark, norPut_sec, norProgram, norPut_sec]
  · rw [otherSame_iff, installMarked, setMark, nor_norPut_other, norProgram, nor_norPut_other]
    rfl

/-- A mark leaves the SEQUENCE. -/
theorem copySeq_setMark (c : Bool) {o : Nat} (ho : 4 ≤ o) (s : State) : copySeq (setMark c o s) c = copySeq s c := by
  rw [copySeq, copySeq, statusWord, statusWord, setMark, norGet_norPut_off _ _ (by omega)]

theorem copySeq_installMarked {i : Install} {s : State} (hblank : norGet s i.copyB statusOff 4 = [0xFF, 0xFF, 0xFF, 0xFF])
    (hq : i.seq < 2 ^ 32) : copySeq (installMarked i s) i.copyB = i.seq := by
  rw [installMarked, copySeq_setMark _ (by decide)]
  exact copySeq_programmed hblank hq

theorem opInstallationComplete_genuine {i : Install} {s : State} (hi : s.sec.install = some i) (he : i.ended = true)
    (hrec : s.sec.recovery = false) (hgen : (checkGenuine s i.copyB).1 = 0) : opInstallationComplete s =
      event 0x2D24 (copyNo i.copyB) (w32 i.seq) (w32 (imgSecVersion (imgHeader (installMarked i s) i.copyB)))
        (installMarked i s) := by
  have hnormal : ∀ code detail d0 d1, (event code detail d0 d1 (installMarked i s)).sec.recovery = false := fun _ _ _ _ => by
    obtain ⟨-, hsec, -⟩ := installMarked_frame i s
    rw [show (event _ _ _ _ (installMarked i s)).sec = _ from only_event _ _ _ _ _ .sec (by decide), hsec]
    exact hrec
  unfold installMarked at hnormal ⊢
  simp only [opInstallationComplete, hi, he, hgen, hnormal, Bool.not_true, Bool.false_eq_true, ne_eq, not_true, false_and,
    if_false]

theorem installationComplete_genuine {s : State} (hq : s.sup.quenchSince = none) {i : Install} (hi : s.sec.install = some i)
    (he : i.ended = true) (hrec : s.sec.recovery = false) (hgen : (checkGenuine s i.copyB).1 = 0)
    (hblank : norGet s i.copyB 0x8000000 4 = [0xFF, 0xFF, 0xFF, 0xFF]) (hseq : i.seq < 2 ^ 32) :
    GivesOnly [.sec, .mem, .grn] .installationComplete s (fun t => t.sec.install = none ∧ copySeq t i.copyB = i.seq ∧
      markSet t i.copyB 0x10 = true ∧ OtherSame s t i.copyB) := by
  obtain ⟨hframe, hsec, hother, hmark⟩ := installMarked_frame i s.begin
  have hcopy : copySeq (installMarked i s.begin) i.copyB = i.seq := copySeq_installMarked hblank hseq
  have hop := opInstallationComplete_genuine (s := s.begin) hi he hrec (by rw [checkGenuine_begin, hgen])
  rw [event_grn _ _ _ _ _ (hframe.quench (by decide) hq)] at hop
  refine givesOnly_of_run (exec_installationComplete s) rfl ?_ ?_ <;> rw [hop]
  · exact (hframe.weaken (by decide)).then (qs := [.grn]) (by simp [only_iff]) (by decide)
  · generalize installMarked i s.begin = u at hsec hother hmark hcopy
    have hnor : ∀ g, nor { u with grn := g, pending := s.pending } i.copyB = nor u i.copyB := fun _ => rfl
    refine ⟨congrArg Sec.install hsec, (copySeq_congr (hnor _)).trans hcopy, (markSet_congr (hnor _) _).trans hmark, ?_⟩
    exact hother

theorem opInstallationComplete_aborted {i : Install} {s : State} (hi : s.sec.install = some i) (he : i.ended = true)
    (hgen : (checkGenuine s i.copyB).1 ≠ 0) : opInstallationComplete s = reply ⟨i.ses, i.tag⟩ 0x32 stAborted []
      (rejectCopy i.copyB (checkGenuine s i.copyB).1 { s with sec := { s.sec with install := none } }) := by
  simp only [opInstallationComplete, hi, he, hgen, Bool.not_true, Bool.false_eq_true, if_false, ne_eq, not_false_eq_true, if_true]

theorem installationComplete_aborted {s : State} (hq : s.sup.quenchSince = none) {i : Install} (hi : s.sec.install = some i)
    (he : i.ended = true) (hgen : (checkGenuine s i.copyB).1 ≠ 0) :
    GivesOnly [.sec, .fab, .grn] .installationComplete s (fun t => t.sec.install = none ∧
      t.out = [answer ⟨i.ses, i.tag⟩ 0x32 5] ∧ bitOf t.sec.err.status 0 = true) := by
  have hop := opInstallationComplete_aborted (s := s.begin) hi he (by rw [checkGenuine_begin]; exact hgen)
  obtain ⟨g, hrej⟩ := rejectCopy_calm i.copyB (checkGenuine s.begin i.copyB).1
    (s := { s.begin with sec := { s.begin.sec with install := none } }) hq
  rw [hrej] at hop
  obtain ⟨fab, hreply⟩ := reply_eq ⟨i.ses, i.tag⟩ 0x32 stAborted { s.begin with grn := g, sec := { s.sec with
    install := none, err := s.sec.err.raise 0 (secInfo 0 (checkGenuine s.begin i.copyB).1 (copyNo i.copyB)) (cycleWord s) 0 } }
  have hresult := hop.trans hreply
  refine givesOnly_of_run (exec_installationComplete s) rfl ?_ ?_ <;> rw [hresult]
  · simp [only_iff]
  · exact ⟨rfl, rfl, raise_status_self _ (by decide) _ _ _⟩

/-! ### Confirmation (R69, 17 R366) -/

/-- The trial copy that runs is confirmed: GOOD, the counter at its SECURITY_VERSION at least, the other copy as it was. -/
def Confirmed (s t : State) : Prop :=
  t.sec.trial = false ∧ markSet t s.sec.copyB 0x18 = true ∧
    t.fuse = { s.fuse with rollback := max s.fuse.rollback (min 255 s.img.secVersion) } ∧ OtherSame s t s.sec.copyB

theorem confirmCopy_none {s : State} (h : s.sec.trial = false) : confirmCopy s = s := by
  rw [confirmCopy, h]
  rfl

theorem confirmCopy_trial {s : State} (hq : s.sup.quenchSince = none) (h : s.sec.trial = true) :
    Only [.sec, .mem, .fuse, .grn] s (confirmCopy s) ∧ (confirmCopy s).out = s.out ∧ Confirmed s (confirmCopy s) := by
  obtain ⟨m, hm⟩ : ∃ m, m = setMark s.sec.copyB 0x18 { s with sec := { s.sec with trial := false } } := ⟨_, rfl⟩
  have hmark : markSet m s.sec.copyB 0x18 = true := by rw [hm, markSet_setMark]
  have hother : nor m (!s.sec.copyB) = nor s (!s.sec.copyB) := by rw [hm, setMark, nor_norPut_other]; rfl
  have heq : m = { s with sec := { s.sec with trial := false }, mem := m.mem } := by rw [hm, setMark, norPut_mem]
  have hconf : confirmCopy s = event 0x2D23 (copyNo s.sec.copyB) m.sec.seq (w32 s.img.secVersion)
      { m with fuse := { m.fuse with rollback := Nat.max m.fuse.rollback (Nat.min 255 s.img.secVersion) } } := by
    rw [confirmCopy, h, hm]
    rfl
  obtain ⟨mem, hmem⟩ : ∃ mem, m.mem = mem := ⟨_, rfl⟩
  rw [hmem] at heq
  subst heq
  rw [event_grn _ _ _ _ _ (by exact hq)] at hconf
  rw [hconf]
  exact ⟨by simp [only_iff], rfl, rfl, hmark, rfl, (otherSame_iff _ _ _).2 hother⟩

/-- What a confirmation leaves is what it leaves of the engine, the fuses and boot NOR. -/
theorem Confirmed.congr {s s' t u : State} (h : Confirmed s u) (hs : s'.sec.copyB = s.sec.copyB) (hf : s'.fuse = s.fuse)
    (hi : s'.img = s.img) (hm : s'.mem = s.mem) (ht : t.sec = u.sec) (htf : t.fuse = u.fuse) (htm : t.mem = u.mem) :
    Confirmed s' t := by
  obtain ⟨htrial, hmark, hfuse, hother⟩ := h
  refine ⟨by rw [ht, htrial], ?_, by rw [htf, hfuse, hf, hi], ?_⟩
  · rw [hs, markSet_congr (nor_of_mem htm _), hmark]
  · rw [hs, otherSame_iff, nor_of_mem htm, (otherSame_iff _ _ _).1 hother, nor_of_mem hm]

theorem confirm_trial {s : State} {r : Req} {x : Session} (h : Granted s r x) (hq : s.sup.quenchSince = none)
    (htrial : s.sec.trial = true) : GivesOnly [.sec, .fab, .mem, .fuse, .grn] (.confirm r) s (fun t =>
      t.out = [answer r 0x33 0] ∧ Confirmed s t) := by
  obtain ⟨hframe, hnoout, hconf⟩ := confirmCopy_trial (s := idled r s.begin) hq htrial
  refine givesOnly_performed h (exec_confirm r s) h.wf (u := confirmCopy (idled r s.begin)) ?_
    (((only_idled r s).weaken (by decide)).then hframe (by decide)) (by decide) hq hnoout fun t ht hout => ⟨hout, ?_⟩
  · exact if_pos htrial
  · exact hconf.congr rfl rfl rfl rfl (ht .sec (by decide)) (ht .fuse (by decide)) (ht.mem_eq (by decide))

theorem confirm_none {s : State} {r : Req} {x : Session} (h : Granted s r x) (htrial : s.sec.trial = false) :
    GivesOnly [.sec, .fab] (.confirm r) s (fun t => t.out = [answer r 0x33 2]) := by
  refine givesOnly_refused h (exec_confirm r s) h.wf (k := stState) (by decide) ?_ fun _ _ hout => hout
  rw [if_neg (by rw [show (idled r s.begin).sec.trial = false from htrial]; decide)]

/-- A command that confirms by itself, without a request. -/
theorem givesOnly_confirmed {s : State} (hq : s.sup.quenchSince = none) (htrial : s.sec.trial = true) {c : Instr}
    {f : State → State} (hx : exec c s = wfRun c f s) (hw : c.wf = true) (hf : f s.begin = confirmCopy s.begin) :
    GivesOnly [.sec, .mem, .fuse, .grn] c s (Confirmed s) := by
  obtain ⟨hframe, -, hconf⟩ := confirmCopy_trial (s := s.begin) hq htrial
  refine givesOnly_of_run hx hw ?_ ?_ <;> rw [hf]
  · exact hframe
  · exact hconf.congr rfl rfl rfl rfl rfl rfl rfl

theorem secImageConfirm_trial {s : State} (hq : s.sup.quenchSince = none) {init : Nat} (hinit : init < 64)
    (htrial : s.sec.trial = true) : GivesOnly [.sec, .mem, .fuse, .grn] (.secImageConfirm init 1) s (Confirmed s) :=
  givesOnly_confirmed hq htrial (exec_secImageConfirm init 1 s) (decide_eq_true hinit) (if_pos (by decide))

theorem secImageConfirm_none {s : State} {init : Nat} (hinit : init < 64) (htrial : s.sec.trial = false) :
    exec (.secImageConfirm init 1) s = .next s.begin := by
  rw [exec_secImageConfirm, wfRun_next (.secImageConfirm init 1) _ _ (decide_eq_true hinit), opSecImageConfirm, if_pos (by decide),
    confirmCopy_none (by exact htrial)]
  rfl

theorem autoConfirm_due {s : State} (hq : s.sup.quenchSince = none) (htrial : s.sec.trial = true)
    (hset : s.img.confirmCycles ≠ 0) (hdue : s.img.confirmCycles ≤ s.cyc.runCycles) :
    GivesOnly [.sec, .mem, .fuse, .grn] .autoConfirm s (Confirmed s) :=
  givesOnly_confirmed hq htrial (exec_autoConfirm s) rfl (if_pos ⟨hset, hdue⟩)

theorem autoConfirm_waits {s : State} (h : s.cyc.runCycles < s.img.confirmCycles ∨ s.img.confirmCycles = 0) :
    exec .autoConfirm s = .next s.begin := by
  rw [exec_autoConfirm, wfRun_next _ _ _ rfl, opAutoConfirm, if_neg (by simp only [State.begin_img, State.begin_cyc]; omega)]
  rfl

/-! ### ACTIVATE (R371, 20 R414) -/

/-- A shut-down requested in operation is held, with RESTART where it asks for it. -/
theorem shutRequest_held {s : State} (hq : s.sup.quenchSince = none) (hrel : s.mod.mode.released = true)
    (hmode : s.mod.mode ≠ .shutdown) (hno : s.mod.shutPending = false) (hrec : s.sec.recovery = false) (restart pin : Bool) :
    ∃ step hand, shutRequest restart pin s = { s with mod := { s.mod with
      restart := s.mod.restart || restart, pinReq := s.mod.pinReq || pin, shutPending := true, shutStep := step,
      handoff := hand } } := by
  simp only [shutRequest, hrel, hq, hrec, hmode, hno, Bool.not_true, Bool.false_eq_true, Option.isSome_none, or_self, if_false]
  exact ⟨_, _, rfl⟩

theorem activate_requested {s : State} {r : Req} {x : Session} (h : Granted s r x) (hq : s.sup.quenchSince = none)
    (hrel : s.mod.mode.released = true) (hmode : s.mod.mode ≠ .shutdown) (hno : s.mod.shutPending = false) :
    GivesOnly [.sec, .fab, .mod, .grn] (.activate r) s (fun t => t.out = [answer r 0x34 0] ∧ t.mod.restart = true ∧
      t.mod.shutPending = true) := by
  obtain ⟨step, hand, hshut⟩ := shutRequest_held (s := idled r s.begin) hq hrel hmode hno h.normal true false
  refine givesOnly_performed h (exec_activate r s) h.wf (congrArg (Prod.mk stOk) hshut) ?_ (by decide) hq rfl
    fun t ht hout => ?_
  · simp [only_iff, idled, modSession]
  · rw [show t.mod = _ from ht .mod (by decide)]
    exact ⟨hout, Bool.or_true _, rfl⟩

/-- Settles O48: a granted request is its action and an answer (`givesOnly_performed`, `givesOnly_refused`); what the actions
write is said of the copy that does not run (`installBegun`, `norGet_norProgram`, `installMarked`), and the three ways to
confirm are one operation (`confirmCopy_trial`). -/
theorem installAndConfirm : Obligations.InstallAndConfirm := by
  unfold Obligations.InstallAndConfirm
  intro s hq other confirmed
  refine ⟨fun r x hses htag hx hport hrec hpriv hbusy => ?_, fun i hi he hrec => ?_, fun i hi he => installationComplete_waits hi he,
    fun init hinit => ⟨secImageConfirm_trial hq hinit, secImageConfirm_none hinit⟩, autoConfirm_due hq, autoConfirm_waits⟩
  · have h : Granted s r x := ⟨by rw [Req.wf, decide_eq_true hses, decide_eq_true htag]; rfl, hx, hport, hrec, hpriv, hbusy⟩
    refine ⟨fun len hlen hnone hgood => ⟨imageBegin_accepted h hq hlen hnone hgood, imageBegin_format h hlen hnone hgood⟩,
      fun i hi his => ⟨fun off bs hw => imageData_programmed h hq hi his hw, fun off bs hw => imageData_format h hi his hw,
        imageEnd_starts h hq hi his⟩, imageEnd_none h, confirm_trial h hq, confirm_none h, activate_requested h hq⟩
  · exact ⟨installationComplete_genuine hq hi he hrec, installationComplete_aborted hq hi he⟩

end Sys2Proof.Machine
end

section
/-! PROOF. The load and lock of the chosen copy (02 R53 to R59, R66, R70, R71, 03 R75, 07 R181, R183): what each step of it leaves. -/

namespace Sys2Proof.Machine

/-! ### Folds -/

/-- Folding an operation over a list keeps what its application to each entry keeps. -/
theorem forAll_keeps_mem {α : Type} {P : State → Prop} (l : List α) (f : α → State → State) (s : State)
    (hf : ∀ a ∈ l, ∀ s, P s → P (f a s)) (h : P s) : P (forAll l f s) := by
  induction l generalizing s with
  | nil => exact h
  | cons a l ih => exact ih _ (fun b hb => hf b (List.mem_cons_of_mem _ hb)) (hf a List.mem_cons_self s h)

theorem forAll_append {α : Type} (l m : List α) (f : α → State → State) (s : State) :
    forAll (l ++ m) f s = forAll m f (forAll l f s) := by
  induction l generalizing s with
  | nil => rfl
  | cons a l ih => exact ih _

/-! ### Step 1: the triads (R53, R54, R75) -/

theorem tri_modTri_ne {k t : Nat} (h : k ≠ t) (f : Triad → Triad) (s : State) : (modTri t f s).tri k = s.tri k :=
  nth_modAt_ne _ _ _ h

theorem tri_modTri_or (k t : Nat) (f : Triad → Triad) (s : State) :
    (modTri t f s).tri k = s.tri k ∨ (modTri t f s).tri k = f (s.tri k) := nth_modAt_or _ _ _ _ _

/-- A change of triad `t` that concerns position `p`: another core in it, or none. -/
structure AtPosition (p : Nat) (f : Triad → Triad) : Prop where
  split : ∀ x, (f x).split = x.split
  handover : ∀ x, (f x).handover = x.handover
  coreAt : ∀ x q, q ≠ p → (f x).coreAt q = x.coreAt q
  empty : ∀ x q, q ≠ p → nth (f x).empty q false = nth x.empty q false

theorem fillPosition_kept {t p : Nat} {s : State} (h : s.thr.retired.contains ((s.tri t).coreAt p) = false) :
    fillPosition t p s = s := by
  rw [fillPosition, h]
  rfl

/-- A retired core's position takes a reserve or stays empty. -/
theorem fillPosition_retired {t p : Nat} {s : State} (h : s.thr.retired.contains ((s.tri t).coreAt p) = true) :
    ∃ rf f, AtPosition p f ∧ fillPosition t p s = modTri t f { s with trd := { s.trd with resFree := rf } } := by
  rw [fillPosition, h]
  cases freeReserve s with
  | some r => exact ⟨_, fun (x : Triad) => { x with cores := modAt x.cores p (fun _ => resCore s r) },
      ⟨fun _ => rfl, fun _ => rfl, fun _ _ h => nth_modAt_ne _ _ _ h, fun _ _ _ => rfl⟩, rfl⟩
  | none => exact ⟨_, fun (x : Triad) => { x with empty := modAt x.empty p (fun _ => true) },
      ⟨fun _ => rfl, fun _ => rfl, fun _ _ _ => rfl, fun _ _ h => nth_modAt_ne _ _ _ h⟩, rfl⟩

/-- Filling a position, as everything that it can do. -/
theorem fillPosition_cases (t p : Nat) (s : State) : fillPosition t p s = s ∨
    s.thr.retired.contains ((s.tri t).coreAt p) = true ∧
      ∃ rf f, AtPosition p f ∧ fillPosition t p s = modTri t f { s with trd := { s.trd with resFree := rf } } := by
  cases h : s.thr.retired.contains ((s.tri t).coreAt p)
  · exact .inl (fillPosition_kept h)
  · exact .inr ⟨rfl, fillPosition_retired h⟩

theorem only_fillPosition (t p : Nat) (s : State) : Only [.trd] s (fillPosition t p s) := by
  rcases fillPosition_cases t p s with h | ⟨-, rf, f, -, h⟩ <;> rw [h]
  · exact .refl _ _
  · simp [only_iff, modTri]

/-- The position keeps its core, and counts as filled. -/
def Seated (s : State) (k q n : Nat) : Prop := (s.tri k).coreAt q = n ∧ nth (s.tri k).empty q false = false

/-- A position whose core is not retired keeps it, whichever position is filled. -/
theorem Seated.fillPosition {s : State} {k q n : Nat} (h : Seated s k q n) (hn : s.thr.retired.contains n = false) (t p : Nat) :
    Seated (fillPosition t p s) k q n := by
  obtain ⟨hcore, hempty⟩ := h
  rcases fillPosition_cases t p s with h | ⟨hret, rf, f, hf, h⟩ <;> rw [h, Seated]
  · exact ⟨hcore, hempty⟩
  · rcases tri_modTri_or k t f { s with trd := { s.trd with resFree := rf } } with hx | hx <;> rw [hx]
    · exact ⟨hcore, hempty⟩
    · by_cases hkt : k = t
      · have hqp : q ≠ p := by
          rintro rfl
          rw [← hkt, hcore, hn] at hret
          cases hret
        exact ⟨(hf.coreAt _ q hqp).trans hcore, (hf.empty _ q hqp).trans hempty⟩
      · rw [← hx, tri_modTri_ne hkt]
        exact ⟨hcore, hempty⟩

/-- What the triads are configured to be, how many they are, and the reserves. -/
structure SameSetup (s t : State) : Prop where
  count : t.trd.triads.length = s.trd.triads.length
  split : ∀ k, (t.tri k).split = (s.tri k).split
  handover : ∀ k, (t.tri k).handover = (s.tri k).handover
  reserves : t.trd.reserves = s.trd.reserves

theorem SameSetup.refl (s : State) : SameSetup s s := ⟨rfl, fun _ => rfl, fun _ => rfl, rfl⟩

theorem SameSetup.fillPosition {s u : State} (h : SameSetup s u) (t p : Nat) : SameSetup s (fillPosition t p u) := by
  rcases fillPosition_cases t p u with hfill | ⟨-, rf, f, hf, hfill⟩ <;> rw [hfill]
  · exact h
  · refine ⟨(length_modAt _ _ _).trans h.count, fun k => ?_, fun k => ?_, h.reserves⟩ <;>
      rcases tri_modTri_or k t f { u with trd := { u.trd with resFree := rf } } with hx | hx <;> rw [hx]
    · exact h.split k
    · exact (hf.split _).trans (h.split k)
    · exact h.handover k
    · exact (hf.handover _).trans (h.handover k)

/-- Nothing but the cores' own state has changed, and they are 20. -/
def CoresOnly (s t : State) : Prop :=
  ∃ cores : List Core, cores.length = 20 ∧ t = { s with trd := { s.trd with cores := cores } }

theorem CoresOnly.modCore {s t : State} (h : CoresOnly s t) (n : Nat) (f : Core → Core) : CoresOnly s (modCore n f t) := by
  obtain ⟨cores, hlen, rfl⟩ := h
  exact ⟨_, (length_modAt _ _ _).trans hlen, rfl⟩

theorem assignRoles_cores (s : State) : CoresOnly s (assignRoles s) := by
  unfold assignRoles
  refine forAll_keeps (P := CoresOnly s) _ _ _ (fun t u hu => forAll_keeps (P := CoresOnly s) _ _ _
    (fun p v hv => hv.modCore _ _) hu) ?_
  refine forAll_keeps (P := CoresOnly s) _ _ _ (fun r u hu => ?_) ⟨_, by simp, rfl⟩
  split
  · exact hu.modCore _ _
  · exact hu

/-- STRUCTURE before the verdict is applied to it: the triads and the reserves that it names. -/
def structured (b : List Byte) (s : State) : State :=
  { s with trd := { s.trd with
      triads := (List.range 6).map (fun t =>
        { cores := (List.range 3).map (strCore b t), split := strSplit b t, handover := strHandover b t }),
      reserves := [leAt b 0x30 1, leAt b 0x31 1],
      resFree := [leAt b 0x30 1, leAt b 0x31 1].map (fun n => !s.thr.retired.contains n) } }

theorem tri_structured (b : List Byte) (s : State) {k : Nat} (hk : k < 6) : (structured b s).tri k =
    { cores := (List.range 3).map (strCore b k), split := strSplit b k, handover := strHandover b k } := by
  rw [State.tri, structured]
  dsimp only
  rw [nth_of_lt _ (by simpa using hk)]
  simp

theorem structured_seated (b : List Byte) (s : State) {k q : Nat} (hk : k < 6) (hq : q < 3) :
    Seated (structured b s) k q (strCore b k q) := by
  rw [Seated, tri_structured b s hk]
  constructor
  · rw [Triad.coreAt, nth_of_lt _ (by simpa using hq)]
    simp
  · show nth [false, false, false] q false = false
    rcases q with _ | _ | _ | q <;> rfl

theorem structured_count (b : List Byte) (s : State) : (structured b s).trd.triads.length = 6 := by
  rw [structured]
  simp

/-- Every position filled from STRUCTURE and the verdict. -/
def positionsFilled (b : List Byte) (s : State) : State :=
  forAll (List.range 6) (fun t s => forAll (List.range 3) (fillPosition t) s) (structured b s)

theorem positionsFilled_keeps {P : State → Prop} (b : List Byte) (s : State) (h : P (structured b s))
    (hf : ∀ t p u, P u → P (fillPosition t p u)) : P (positionsFilled b s) :=
  forAll_keeps _ _ _ (fun t _ hu => forAll_keeps _ _ _ (fun p v hv => hf t p v hv) hu) h

theorem only_positionsFilled (b : List Byte) (s : State) : Only [.trd] s (positionsFilled b s) :=
  positionsFilled_keeps b s (by simp [only_iff, structured]) fun t p _ hu => hu.then (only_fillPosition t p _) (by decide)

theorem assignTriads_eq (b : List Byte) (s : State) : assignTriads b s = assignRoles (positionsFilled b s) := rfl

/-- What STRUCTURE and the verdict make of the triads. -/
structure Assigned (b : List Byte) (s t : State) : Prop where
  only : Only [.trd] s t
  triads : t.trd.triads.length = 6
  cores : t.trd.cores.length = 20
  reserves : t.trd.reserves = [leAt b 0x30 1, leAt b 0x31 1]
  seated : ∀ k q, k < 6 → q < 3 → s.thr.retired.contains (strCore b k q) = false → Seated t k q (strCore b k q)
  setup : ∀ k, k < 6 → (t.tri k).split = strSplit b k ∧ (t.tri k).handover = strHandover b k

theorem assignTriads_assigned (b : List Byte) (s : State) : Assigned b s (assignTriads b s) := by
  have honly := only_positionsFilled b s
  have hsetup : SameSetup (structured b s) (positionsFilled b s) :=
    positionsFilled_keeps b s (.refl _) fun t p _ hu => hu.fillPosition t p
  have hseat : ∀ k q, k < 6 → q < 3 → s.thr.retired.contains (strCore b k q) = false →
      Only [.trd] s (positionsFilled b s) ∧ Seated (positionsFilled b s) k q (strCore b k q) := fun k q hk hq hret =>
    positionsFilled_keeps (P := fun u => Only [.trd] s u ∧ Seated u k q (strCore b k q)) b s
      ⟨by simp [only_iff, structured], structured_seated b s hk hq⟩ fun t p u hu =>
      ⟨hu.1.then (only_fillPosition t p u) (by decide),
        hu.2.fillPosition (by rw [show u.thr = s.thr from hu.1 .thr (by decide), hret]) t p⟩
  obtain ⟨cores, hlen, hroles⟩ := assignRoles_cores (positionsFilled b s)
  rw [assignTriads_eq, hroles]
  generalize positionsFilled b s = u at honly hsetup hseat
  exact ⟨honly.then (qs := [.trd]) (by simp [only_iff]) (by decide), hsetup.count.trans (structured_count b s), hlen,
    hsetup.reserves, fun k q hk hq hret => (hseat k q hk hq hret).2, fun k hk =>
      ⟨(hsetup.split k).trans (by rw [tri_structured b s hk]), (hsetup.handover k).trans (by rw [tri_structured b s hk])⟩⟩

end Sys2Proof.Machine
end

section
/-! PROOF. What the load leaves of the memories, and the load as a whole (02 R56, R59, R66, R70, R71, 07 R181, R183). -/

namespace Sys2Proof.Machine

/-! ### Steps 3 and 4: DRAM (R56, R59) -/

@[simp] theorem length_slice (b : List Byte) (o n : Nat) : (slice b o n).length = n := by
  simp [slice]

/-- A step of the load that leaves boot NOR, and the DRAM byte at `a`. -/
structure ByteKept (a : Nat) (s t : State) : Prop where
  norA : t.mem.norA = s.mem.norA
  norB : t.mem.norB = s.mem.norB
  dram : FMap.look t.mem.dram 0 a = FMap.look s.mem.dram 0 a

theorem ByteKept.refl (a : Nat) (s : State) : ByteKept a s s := ⟨rfl, rfl, rfl⟩

theorem ByteKept.trans {a : Nat} {s t u : State} (h : ByteKept a s t) (h' : ByteKept a t u) : ByteKept a s u :=
  ⟨h'.norA.trans h.norA, h'.norB.trans h.norB, h'.dram.trans h.dram⟩

theorem ByteKept.of_mem {a : Nat} {s t : State} (h : t.mem = s.mem) : ByteKept a s t := by
  constructor <;> rw [h]

theorem only_clearPart (x : Part) (s : State) : Only [.mem] s (clearPart x s) := by
  unfold clearPart
  refine .ite _ (.refl _ _) (.ite _ ?_ ?_) <;> simp [only_iff]

/-- A cleared partition of DRAM concerns the bytes inside it, and one of MRAM none of DRAM's. -/
theorem clearPart_kept {x : Part} {a : Nat}
    (h : x.clear = true → x.mram = false → a < x.first - dramBase ∨ x.stop - dramBase ≤ a) (s : State) :
    ByteKept a s (clearPart x s) := by
  unfold clearPart
  cases hc : x.clear
  · exact .refl _ _
  cases hm : x.mram
  · refine ⟨rfl, rfl, ?_⟩
    have ha := h hc hm
    exact (look_clearRange _ _ _ _ _).trans (if_neg (by omega))
  · exact ⟨rfl, rfl, rfl⟩

theorem only_loadCoreImage (p : Pays) (i : Nat) (s : State) : Only [.mem] s (loadCoreImage p i s) := by
  unfold loadCoreImage
  split
  · exact .refl _ _
  · simp [only_iff]

/-- A core image concerns the bytes of its load range. -/
theorem loadCoreImage_kept {p : Pays} {i a : Nat}
    (h : ∀ b, payOf p 6 i = some b → a < leAt b 0 8 - dramBase ∨ leAt b 0 8 - dramBase + leAt b 0x10 4 ≤ a) (s : State) :
    ByteKept a s (loadCoreImage p i s) := by
  unfold loadCoreImage
  cases hb : payOf p 6 i with
  | none => exact .refl _ _
  | some b => exact ⟨rfl, rfl, Mem.dramPut_frame _ _ _ _ (by rw [length_slice]; exact h b hb)⟩

theorem loadCoreImages_kept {p : Pays} {l : List Nat} {a : Nat}
    (h : ∀ i ∈ l, ∀ b, payOf p 6 i = some b → a < leAt b 0 8 - dramBase ∨ leAt b 0 8 - dramBase + leAt b 0x10 4 ≤ a)
    (s : State) : ByteKept a s (forAll l (loadCoreImage p) s) :=
  forAll_keeps_mem (P := ByteKept a s) l _ s (fun i hi u hu => hu.trans (loadCoreImage_kept (h i hi) u)) (.refl _ _)

/-- A core image that no later one overlaps stands at its LOAD_ADDR. -/
theorem loadCoreImages_reads {p : Pays} {i : Nat} {b : List Byte} (hi : i < 24) (hb : payOf p 6 i = some b)
    (hlater : ∀ j d, j < 24 → i < j → payOf p 6 j = some d →
      leAt b 0 8 - dramBase + leAt b 0x10 4 ≤ leAt d 0 8 - dramBase ∨
        leAt d 0 8 - dramBase + leAt d 0x10 4 ≤ leAt b 0 8 - dramBase) (s : State) :
    (forAll (List.range 24) (loadCoreImage p) s).mem.dramGet (leAt b 0 8 - dramBase) (leAt b 0x10 4) =
      slice b 0x20 (leAt b 0x10 4) := by
  have hsplit : List.range 24 = List.range i ++ i :: (List.range (23 - i)).map (fun j => i + 1 + j) := by
    rw [show (24 : Nat) = (i + 1) + (23 - i) by omega, List.range_add, List.range_succ]
    simp
  rw [hsplit, forAll_append, forAll]
  generalize forAll (List.range i) (loadCoreImage p) s = u
  have hown : (loadCoreImage p i u).mem = u.mem.dramPut (leAt b 0 8 - dramBase) (slice b 0x20 (leAt b 0x10 4)) := by
    rw [loadCoreImage, hb]
  have hreads := Mem.dramPut_reads u.mem (leAt b 0 8 - dramBase) (slice b 0x20 (leAt b 0x10 4))
  rw [← hown, length_slice] at hreads
  refine Eq.trans (List.map_congr_left fun n hn => ?_) hreads
  have hn' := List.mem_range.1 hn
  refine (loadCoreImages_kept (fun j hj d hd => ?_) _).dram
  obtain ⟨m, hm, rfl⟩ := List.mem_map.1 hj
  have hm' := List.mem_range.1 hm
  have := hlater (i + 1 + m) d (by omega) (by omega) hd
  omega

/-! ### The ranges loaded -/

theorem only_lkPutAll (l : List (Nat × Word)) (s : State) : Only [.lk] s (lkPutAll l s) :=
  .forAll _ _ _ fun _ _ => by simp [only_iff]

/-- Steps 1 to 4: the triads assigned, the boot ROM's regions set, partitions cleared, core images loaded. -/
def rangesLoaded (p : Pays) (s : State) : State :=
  forAll (List.range 24) (loadCoreImage p)
    (forAll (parseParts (pay p 2 0)) clearPart (lkPutAll fixedRegions (assignTriads (pay p 1 0) s)))

theorem rangesLoaded_frame (p : Pays) (s : State) : Only [.trd, .lk, .mem] s (rangesLoaded p s) ∧
    (rangesLoaded p s).trd = (assignTriads (pay p 1 0) s).trd := by
  have hlk := only_lkPutAll fixedRegions (assignTriads (pay p 1 0) s)
  have hclear : Only [.mem] _ (forAll (parseParts (pay p 2 0)) clearPart (lkPutAll fixedRegions (assignTriads (pay p 1 0) s))) :=
    .forAll _ _ _ fun _ _ => only_clearPart _ _
  have hload : Only [.mem] _ (rangesLoaded p s) := .forAll _ _ _ fun _ _ => only_loadCoreImage p _ _
  have htrd : Only [.lk, .mem] _ (rangesLoaded p s) := ((hlk.weaken (by decide)).then hclear (by decide)).then hload (by decide)
  exact ⟨((assignTriads_assigned (pay p 1 0) s).only.weaken (by decide)).then htrd (by decide), htrd .trd (by decide)⟩

theorem rangesLoaded_kept {p : Pays} {a : Nat}
    (hparts : ∀ x ∈ parseParts (pay p 2 0), x.clear = true → x.mram = false →
      a < x.first - dramBase ∨ x.stop - dramBase ≤ a)
    (himages : ∀ i b, i < 24 → payOf p 6 i = some b →
      a < leAt b 0 8 - dramBase ∨ leAt b 0 8 - dramBase + leAt b 0x10 4 ≤ a) (s : State) :
    ByteKept a s (rangesLoaded p s) := by
  have hset : Only [.trd, .lk] s (lkPutAll fixedRegions (assignTriads (pay p 1 0) s)) :=
    ((assignTriads_assigned (pay p 1 0) s).only.weaken (by decide)).then (only_lkPutAll _ _) (by decide)
  refine (ByteKept.of_mem (hset.mem_eq (by decide))).trans (ByteKept.trans ?_
    (loadCoreImages_kept (fun i hi b hb => himages i b (List.mem_range.1 hi) hb) _))
  exact forAll_keeps_mem (P := ByteKept a _) _ _ _ (fun x hx u hu => hu.trans (clearPart_kept (hparts x hx) u)) (.refl _ _)

theorem nor_clearPart (x : Part) (c : Bool) (s : State) : nor (clearPart x s) c = nor s c := by
  unfold clearPart
  cases x.clear
  · rfl
  · cases x.mram <;> rfl

theorem nor_loadCoreImage (p : Pays) (i : Nat) (c : Bool) (s : State) : nor (loadCoreImage p i s) c = nor s c := by
  unfold loadCoreImage
  split <;> rfl

/-- Boot NOR is left by the load, whatever is loaded. -/
theorem nor_rangesLoaded (p : Pays) (c : Bool) (s : State) : nor (rangesLoaded p s) c = nor s c := by
  have hset : Only [.trd, .lk] s (lkPutAll fixedRegions (assignTriads (pay p 1 0) s)) :=
    ((assignTriads_assigned (pay p 1 0) s).only.weaken (by decide)).then (only_lkPutAll _ _) (by decide)
  refine forAll_keeps (P := fun u => nor u c = nor s c) _ _ _ (fun i u hu => (nor_loadCoreImage p i c u).trans hu) ?_
  refine forAll_keeps (P := fun u => nor u c = nor s c) _ _ _ (fun x u hu => (nor_clearPart x c u).trans hu) ?_
  exact nor_of_mem (hset.mem_eq (by decide)) c

end Sys2Proof.Machine
end

section
/-! PROOF. The sections, the lock, the retained counts (02 R66, R70, R71, 07 R181, R183), and the load as a whole. -/

namespace Sys2Proof.Machine

/-! ### Step 5: the sections and the running copy (R66, R70) -/

/-- The sections in their blocks, and the security engine's registers of the copy that runs. -/
def sectionsLoaded (c : Bool) (p : Pays) (s : State) : State := bootRegisters c (loadSections (imgHeader s c) p s)

theorem awnLoad_awn (a : AwnProg) (s : State) : awnLoad a s = { s with awn := (awnLoad a s).awn } := rfl

theorem loadSections_frame (h : List Byte) (p : Pays) (s : State) :
    Only [.lk, .img, .awn] s (loadSections h p s) ∧ (loadSections h p s).img = parseImg h p := by
  have hlk := only_lkPutAll (lkImage p) { s with img := parseImg h p }
  have himg : Only [.lk, .img, .awn] s (lkPutAll (lkImage p) { s with img := parseImg h p }) :=
    Only.then (by simp [only_iff]) hlk (by decide)
  have hsame : (lkPutAll (lkImage p) { s with img := parseImg h p }).img = parseImg h p := hlk .img (by decide)
  unfold loadSections
  dsimp only
  generalize lkPutAll (lkImage p) { s with img := parseImg h p } = u at himg hsame
  cases u.img.awn with
  | none => exact ⟨himg, hsame⟩
  | some a =>
    dsimp only
    rw [awnLoad_awn]
    exact ⟨himg.then (qs := [.awn]) (by simp [only_iff]) (by decide), hsame⟩

/-- The registers of the copy that runs (R66, 17 R365), as the copies stand in `s`. -/
def runningCopy (c : Bool) (s : State) (x : Sec) : Sec :=
  { x with copyB := c, trial := decide (copyState s c = .trial), version := w32 (leAt (imgHeader s c) 0x14 4),
           seq := w32 (copySeq s c), digest := Config.sha384 (imgBytes s c 0 (imgLength (imgHeader s c) - 0x200)) }

theorem runningCopy_congr {s t : State} {c : Bool} (h : nor t c = nor s c) : runningCopy c t = runningCopy c s := by
  have hheader : imgHeader t c = imgHeader s c := norGet_congr h _ _
  have hbytes : ∀ o n, imgBytes t c o n = imgBytes s c o n := norGet_congr h
  funext x
  simp only [runningCopy, copyState_congr h, copySeq_congr h, hheader, hbytes]

theorem bootRegisters_eq (c : Bool) (s : State) : bootRegisters c s = { s with sec := runningCopy c s s.sec } := by
  simp only [bootRegisters, runningCopy, imgDigest]

theorem sectionsLoaded_frame (c : Bool) (p : Pays) (s : State) : Only [.lk, .img, .awn, .sec] s (sectionsLoaded c p s) ∧
    (sectionsLoaded c p s).img = parseImg (imgHeader s c) p ∧ (sectionsLoaded c p s).sec = runningCopy c s s.sec := by
  obtain ⟨hframe, himg⟩ := loadSections_frame (imgHeader s c) p s
  rw [sectionsLoaded, bootRegisters_eq]
  generalize loadSections (imgHeader s c) p s = u at hframe himg
  rw [runningCopy_congr (nor_of_mem (hframe.mem_eq (by decide)) c), show u.sec = s.sec from hframe .sec (by decide)]
  exact ⟨(hframe.weaken (by decide)).then (qs := [.sec]) (by simp [only_iff]) (by decide), himg, rfl⟩

/-! ### What MRAM retained (07 R181, R183) -/

/-- Of the memories, MRAM alone differs. -/
def MramOnly (s t : State) : Prop := t.mem = { s.mem with mram := t.mem.mram, mramBad := t.mem.mramBad }

theorem MramOnly.of_mem {s t : State} (h : t.mem = s.mem) : MramOnly s t := by rw [MramOnly, h]

theorem MramOnly.trans {s t u : State} (h : MramOnly s t) (h' : MramOnly t u) : MramOnly s u := by
  rw [MramOnly] at *
  rw [h', h]

theorem only_raiseMem (bit code unit addr : Nat) {s : State} (hq : s.sup.quenchSince = none) :
    Only [.rch, .grn] s (raiseMem bit code unit addr s) :=
  Only.then (t := errMem bit unit addr s) (by simp [only_iff, errMem]) (only_event_calm _ _ _ _ (by exact hq)) (by decide)

theorem only_mramProbe (o n : Nat) {s : State} (hq : s.sup.quenchSince = none) : Only [.rch, .grn] s (mramProbe o n s) :=
  .ite _ (only_raiseMem _ _ _ _ hq) (.refl _ _)

theorem only_probeSlots (o : Nat) {s : State} (hq : s.sup.quenchSince = none) : Only [.rch, .grn] s (probeSlots o s) :=
  have h := only_mramProbe o 64 hq
  h.then (only_mramProbe _ _ (h.quench (by decide) hq)) (by decide)

theorem hoursCopy_frame (s : State) : Only [.mem] s (hoursCopy s) ∧ MramOnly s (hoursCopy s) :=
  ⟨by simp [only_iff, hoursCopy, mramWrite], rfl⟩

/-- The count of hours set, and an event that says how. -/
def hoursSaid (d : Nat) (s : State) : State := event 0x240B d (w32 s.aon.secs) 0 (errMem 3 3 mramBase s)

theorem only_hoursSaid (d : Nat) {s : State} (hq : s.sup.quenchSince = none) : Only [.rch, .grn] s (hoursSaid d s) :=
  Only.then (t := errMem 3 3 mramBase s) (by simp [only_iff, errMem]) (only_event_calm _ _ _ _ (by exact hq)) (by decide)

theorem hoursRestore_frame {s : State} (hq : s.sup.quenchSince = none) :
    Only [.mem, .aon, .rch, .grn] s (hoursRestore s) ∧ MramOnly s (hoursRestore s) := by
  have hprobe := only_probeSlots 0 hq
  have hq' := hprobe.quench (by decide) hq
  unfold hoursRestore
  dsimp only
  generalize probeSlots 0 s = u at hprobe hq'
  have hcount : ∀ n, Only [.aon, .rch, .grn] s { u with aon := { u.aon with secs := n, whole := true } } := fun n =>
    (hprobe.weaken (by decide)).then (qs := [.aon]) (by simp [only_iff]) (by decide)
  have hwhole : Only [.aon, .rch, .grn] s { u with aon := { u.aon with whole := true } } :=
    (hprobe.weaken (by decide)).then (qs := [.aon]) (by simp [only_iff]) (by decide)
  have hsaid : ∀ d n, Only [.aon, .rch, .grn] s (hoursSaid d { u with aon := { u.aon with secs := n, whole := true } }) :=
    fun d n => (hcount n).then (only_hoursSaid d (by exact hq')) (by decide)
  have hdone : ∀ {t}, Only [.aon, .rch, .grn] s t → Only [.mem, .aon, .rch, .grn] s t ∧ MramOnly s t := fun h =>
    ⟨h.weaken (by decide), .of_mem (h.mem_eq (by decide))⟩
  cases slotBest (slot64 u 0 8) (slot64 u 0x40 8) with
  | some i =>
    dsimp only
    split
    · exact hdone (hcount _)
    · exact hdone (hsaid 1 _)
  | none =>
    dsimp only
    split
    · obtain ⟨honly, hmram⟩ := hoursCopy_frame { u with aon := { u.aon with whole := true } }
      have hevent := only_hoursSaid 3 (honly.quench (by decide) (by exact hq'))
      exact ⟨((hwhole.weaken (by decide)).then honly (by decide)).then hevent (by decide),
        ((MramOnly.of_mem (hwhole.mem_eq (by decide))).trans hmram).trans (.of_mem (hevent.mem_eq (by decide)))⟩
    · exact hdone (hsaid 2 0)

theorem only_loadQuench {s : State} (hq : s.sup.quenchSince = none) : Only [.rch, .grn] s (loadQuench s) := by
  have hprobe := only_mramProbe 0x80 64 hq
  unfold loadQuench
  dsimp only
  generalize mramProbe 0x80 64 s = u at hprobe
  exact hprobe.then (qs := [.rch]) (by simp [only_iff]) (by decide)

/-! ### LOAD_AND_LOCK -/

/-- The last of the load: the set-up locked, and the retained counts taken from MRAM. -/
def setUpLocked (s : State) : State := loadQuench (hoursRestore { s with sec := { s.sec with lock := true } })

theorem setUpLocked_frame {s : State} (hq : s.sup.quenchSince = none) : Only [.sec, .mem, .aon, .rch, .grn] s (setUpLocked s) ∧
    MramOnly s (setUpLocked s) ∧ (setUpLocked s).sec = { s.sec with lock := true } := by
  obtain ⟨hours, hmram⟩ := hoursRestore_frame (s := { s with sec := { s.sec with lock := true } }) hq
  have hquench := only_loadQuench (hours.quench (by decide) hq)
  have hall := (hours.then hquench (by decide)).weaken (ps := [.sec, .mem, .aon, .rch, .grn]) (by decide)
  refine ⟨Only.then (qs := [.sec, .mem, .aon, .rch, .grn]) (by simp [only_iff]) hall (by decide),
    hmram.trans (.of_mem (hquench.mem_eq (by decide))), ?_⟩
  exact (hours.then hquench (by decide)) .sec (by decide)

theorem opLoadAndLock_eq {s : State} {c : Bool} {p : Pays} (hm : s.mod.mode = .boot) (hc : s.mod.chosen = some c)
    (hd : s.mod.dramDone = true) (hi : s.img.loaded = false) (hl : s.sec.lock = false) (hr : raisePending s c = false)
    (hp : copyPays s c = some p) : opLoadAndLock s = setUpLocked (sectionsLoaded c p (rangesLoaded p s)) := by
  unfold opLoadAndLock
  rw [hc]
  dsimp only
  rw [if_pos ⟨hm, hd, by rw [hi]; rfl, by rw [hl]; rfl, by rw [hr]; rfl⟩, hp]
  simp only [setUpLocked, sectionsLoaded, rangesLoaded]

theorem opLoadAndLock_unreadable {s : State} {c : Bool} (hc : s.mod.chosen = some c) (hp : copyPays s c = none) :
    opLoadAndLock s = s := by
  unfold opLoadAndLock
  rw [hc]
  dsimp only
  rw [hp]
  exact ite_self s

/-- What a load of the payloads `p` of copy `c` leaves. -/
theorem loadAndLock_loaded {s : State} (hq : s.sup.quenchSince = none) (c : Bool) (p : Pays) :
    ∃ u, setUpLocked (sectionsLoaded c p (rangesLoaded p s)) = u ∧
      Only [.mem, .lk, .img, .sec, .trd, .awn, .aon, .rch, .grn] s u ∧
      u.img = parseImg (imgHeader s c) p ∧ (∀ d, nor u d = nor s d) ∧ u.sec = { runningCopy c s s.sec with lock := true } ∧
      u.trd = (assignTriads (pay p 1 0) s).trd ∧ u.mem.dram = (rangesLoaded p s).mem.dram := by
  obtain ⟨hranges, htrd⟩ := rangesLoaded_frame p s
  have hnor := nor_rangesLoaded p (s := s)
  generalize rangesLoaded p s = r at hranges htrd hnor
  obtain ⟨hsections, himg, hsec⟩ := sectionsLoaded_frame c p r
  rw [show imgHeader r c = imgHeader s c from norGet_congr (hnor c) _ _] at himg
  rw [runningCopy_congr (hnor c), show r.sec = s.sec from hranges .sec (by decide)] at hsec
  have hrv := (hranges.weaken (by decide)).then (ps := [.trd, .mem, .lk, .img, .awn, .sec]) hsections (by decide)
  have hmem := hsections.mem_eq (by decide)
  have htrd' : (sectionsLoaded c p r).trd = r.trd := hsections .trd (by decide)
  generalize sectionsLoaded c p r = v at himg hsec hrv hmem htrd'
  obtain ⟨hlocked, hmram, hsec'⟩ := setUpLocked_frame (hrv.quench (by decide) hq)
  have himg' : (setUpLocked v).img = v.img := hlocked .img (by decide)
  have htrd'' : (setUpLocked v).trd = v.trd := hlocked .trd (by decide)
  refine ⟨setUpLocked v, rfl, (hrv.weaken (by decide)).then hlocked (by decide), himg'.trans himg, fun d => ?_,
    by rw [hsec', hsec], (htrd''.trans htrd').trans htrd, by rw [hmram, hmem]⟩
  rw [← hnor d, nor, hmram, hmem, nor]

/-- Settles O3: each stage of the load by what it leaves; the positions by `assignTriads_assigned`, DRAM byte by byte
(`rangesLoaded_kept`, `loadCoreImages_reads`). -/
theorem loadAndLock : Obligations.LoadAndLock := by
  unfold Obligations.LoadAndLock
  intro s c hm hc hd hi hl hr hq
  have hr' : raisePending s.begin c = false := by
    have hcount : counterOf s.begin c = counterOf s c := by
      rw [counterOf, counterOf, imgHeader_begin]
    rw [← hr, raisePending, raisePending, copyState_begin, hcount, State.begin_fuse]
  cases hp : copyPays s c with
  | none =>
    have hop := opLoadAndLock_unreadable (s := s.begin) hc (by rw [copyPays_begin, hp])
    refine givesOnly_of_run (exec_loadAndLock s) rfl ?_ ?_ <;> rw [hop]
    · simp [only_iff]
    · rfl
  | some p =>
    have hop := opLoadAndLock_eq (s := s.begin) hm hc hd hi hl hr' (by rw [copyPays_begin, hp])
    obtain ⟨u, hu, honly, himg, hnor, hsec, htrd, hdram⟩ := loadAndLock_loaded (s := s.begin) hq c p
    rw [imgHeader_begin] at himg
    rw [runningCopy_congr (t := s.begin) (s := s) (nor_of_mem rfl c)] at hsec
    dsimp only [runningCopy, State.begin_sec] at hsec
    obtain ⟨-, htriads, hcores, hreserves, hseated, hsetup⟩ := assignTriads_assigned (pay p 1 0) s.begin
    generalize assignTriads (pay p 1 0) s.begin = a at htrd htriads hcores hreserves hseated hsetup
    have htri : ∀ k, u.tri k = a.tri k := fun k => by rw [State.tri, State.tri, htrd]
    rw [hu] at hop
    refine givesOnly_of_run (exec_loadAndLock s) rfl ?_ ?_ <;> rw [hop]
    · exact honly
    · dsimp only
      refine ⟨himg, hnor false, hnor true, hsec, by rw [htrd, htriads], by rw [htrd, hcores], by rw [htrd, hreserves],
        fun k q hk hq hret => ?_, fun k hk => ?_, fun a _ hparts himages => ?_, fun i b hi hb hlater => ?_⟩
      · rw [show State.tri { u with pending := s.pending } k = a.tri k from htri k]
        exact hseated k q hk hq hret
      · rw [show State.tri { u with pending := s.pending } k = a.tri k from htri k]
        exact hsetup k hk
      · rw [hdram]
        exact (rangesLoaded_kept hparts himages s.begin).dram
      · rw [length_slice, Mem.dramGet, hdram]
        exact loadCoreImages_reads hi hb hlater _

end Sys2Proof.Machine
end

section
/-! PROOF. A start-up BIST whose life counter lies in a damaged word of MRAM (07 R173, 18 R386, 19 R403). -/

namespace Sys2Proof.Machine

/-! ### Damaged words outside a write stay damaged (R173) -/

theorem wholeBeats_within {o n b : Nat} (h : b ∈ wholeBeats o n) : o ≤ 8 * b ∧ 8 * b + 8 ≤ o + n := by
  obtain ⟨k, -, hk⟩ := List.mem_filterMap.1 h
  dsimp only at hk
  split at hk
  · next hb => exact Option.some.inj hk ▸ hb
  · cases hk

theorem mem_mramBad_mramPut {m : Mem} {o b : Nat} {bs : List Byte} (hb : b ∈ m.mramBad) (h : o + bs.length ≤ 8 * b) :
    b ∈ (m.mramPut o bs).mramBad := by
  refine List.mem_filter.2 ⟨hb, ?_⟩
  have hout : b ∉ wholeBeats o bs.length := fun hw => by
    have := wholeBeats_within hw
    omega
  simpa using hout

theorem touchesBad_of_mem {bad : List Nat} {b : Nat} (h : b ∈ bad) : touchesBad bad (8 * b) 8 = true :=
  List.any_eq_true.2 ⟨b, h, by simp⟩

/-! ### The verdict's slot (R178, R383) -/

theorem slotNext_slot (v w : Option Nat) : (slotNext v w).1 = 0 ∨ (slotNext v w).1 = 1 := by
  cases v <;> cases w <;> simp only [slotNext, or_true, true_or]
  split <;> simp

theorem writeVerdict_mem (failed : List Nat) (startup : Bool) (s : State) : ∃ i bs, i < 2 ∧ bs.length = 0x4000 ∧
    writeVerdict failed startup s = mramWrite (verdictOff i) bs s := by
  have hslot : (slotNext (verdictSeq s 0) (verdictSeq s 1)).1 < 2 := by
    rcases slotNext_slot (verdictSeq s 0) (verdictSeq s 1) with h | h <;> rw [h] <;> decide
  unfold writeVerdict
  revert hslot
  rcases slotNext (verdictSeq s 0) (verdictSeq s 1) with ⟨i, q⟩
  intro hslot
  dsimp only at hslot ⊢
  refine ⟨i, _, hslot, ?_, rfl⟩
  have hbytes : (verdictBytes s failed startup).length = 0x3FF8 := length_slice _ _ _
  rw [List.length_append, List.length_append, hbytes, length_le, length_le]

/-- A damaged word above the verdict slots outlasts the write of a verdict. -/
theorem writeVerdict_damaged {s : State} {b : Nat} (hb : b ∈ s.mem.mramBad) (h : 0x9000 ≤ 8 * b) (failed : List Nat)
    (startup : Bool) : b ∈ (writeVerdict failed startup s).mem.mramBad := by
  obtain ⟨i, bs, hi, hlen, hw⟩ := writeVerdict_mem failed startup s
  rw [hw]
  exact mem_mramBad_mramPut hb (by rw [hlen, verdictOff]; omega)

theorem writeVerdict_grn (failed : List Nat) (startup : Bool) (s : State) : (writeVerdict failed startup s).grn = s.grn := by
  obtain ⟨i, bs, -, -, hw⟩ := writeVerdict_mem failed startup s
  rw [hw, mramWrite]

/-! ### Life counters (R403) -/

/-- A count whose word is damaged raises MUE when it is written. -/
theorem lifeFlush_damaged {s : State} {b n : Nat} (hi : s.grn.incr = [(8 * b, n)]) (hb : b ∈ s.mem.mramBad) :
    bitOf (lifeFlush s).rch.mem.status 1 = true := by
  rw [lifeFlush, hi, forAll, forAll, lifeLine]
  dsimp only
  rw [if_pos (touchesBad_of_mem hb)]
  exact mramProbe_damaged (touchesBad_of_mem hb)

/-! ### A run that finds nothing -/

/-- Nothing is found by the tests. -/
def cleanRun : ThreshObs := ⟨[], [], [], [], 0⟩

/-- Findings that give no records of banks and units. -/
structure Quiet (f : ThrFound) : Prop where
  reps : f.reps = []
  exh : f.exh = []
  retested : f.retested = []
  failed : f.failed = []
  retire : f.retire = []

theorem unitRecords_quiet {f : ThrFound} (h : Quiet f) (u : Nat) (s : State) : unitRecords f u s = s := by
  simp [unitRecords, ThrFound.unitBad, h.exh, h.retested, h.failed, h.retire]

theorem threshRecords_quiet {f : ThrFound} (h : Quiet f) (o : ThreshObs) (startup : Bool) (s : State) :
    threshRecords f o startup s =
      flushQueue false (event 0x2E10 (if startup then 1 else 0) (w32 o.durationMs) (w32 f.retested.length) s) := by
  have hunits : forAll (List.range 29) (unitRecords f) s = s :=
    forAll_keeps (P := fun u => u = s) _ _ _ (fun u v hv => (unitRecords_quiet h u v).trans hv) rfl
  simp [threshRecords, h.reps, h.exh, forAll, hunits]

theorem flushQueue_empty {s : State} (h : s.grn.queue = []) (q : Bool) : flushQueue q s = s := by
  have hfront : writeFront q s = s := by rw [writeFront, h]
  rw [flushQueue, h]
  exact (congrArg (ite _ · _) hfront).trans (ite_self s)

/-- An event that meets a full ring raises its life counter, and gives no record. -/
theorem event_full {s : State} (hoff : s.mod.mode ≠ .powerOff) (hsup : s.mod.mode ≠ .supervised) (hq : s.sup.quenchSince = none)
    (hfull : s.grn.full = true) (code detail : Nat) (d0 d1 : Word) : event code detail d0 d1 s =
      { lifeAdd (lifeOff code) 1 s with
        grn := { (lifeAdd (lifeOff code) 1 s).grn with lost := satInc 0xFFFFFFFF s.grn.lost } } := by
  rw [event, eventAt, if_neg hoff, enqueue]
  simp [lifeAdd, hoff, hsup, hq, hfull]

/-! ### What a run leaves alone before it writes -/

theorem only_zeroUnit (startup : Bool) (u : Nat) (s : State) :
    Only [.trd, .awn, .vyf, .fab, .hub, .pair, .glm, .culm] s (zeroUnit startup u s) := by
  unfold zeroUnit
  refine .ite _ ?_ (.ite _ ?_ (.ite _ (.ite _ (.refl _ _) ?_) ?_)) <;> simp [only_iff, modCore, modTri]

/-- The state of a run that has been judged, before its records. -/
def runJudged (f : ThrFound) (o : ThreshObs) (startup : Bool) (s : State) : State :=
  holdLanes (thrJoin f o startup (forAll (testedUnits s) (zeroUnit startup) s))

theorem only_runJudged (f : ThrFound) (o : ThreshObs) (startup : Bool) (s : State) :
    Only [.thr, .trd, .awn, .vyf, .fab, .hub, .pair, .glm, .culm] s (runJudged f o startup s) := by
  have hzero := Only.forAll (testedUnits s) (zeroUnit startup) s fun u t => only_zeroUnit startup u t
  unfold runJudged
  generalize forAll (testedUnits s) (zeroUnit startup) s = u at hzero
  exact (hzero.weaken (by decide)).then (qs := [.thr, .awn]) (by simp [only_iff, holdLanes, thrJoin, drawn]) (by decide)

theorem threshVerdict_eq (o : ThreshObs) (startup : Bool) (s : State) : threshVerdict o startup s =
    lifeFlush (writeVerdict (coresFailed (threshFind s o)) startup
      (threshRecords (threshFind s o) o startup (runJudged (threshFind s o) o startup s))) := by
  simp only [threshVerdict, runJudged]

/-- A run that finds nothing raises MUE, where the word of its own life counter is damaged. -/
theorem threshVerdict_damaged {o : ThreshObs} {s : State} {b : Nat} (hquiet : Quiet (threshFind s o))
    (hmode : s.mod.mode = .selftest) (hq : s.sup.quenchSince = none) (hfull : s.grn.full = true) (hqueue : s.grn.queue = [])
    (hincr : s.grn.incr = []) (hb : b ∈ s.mem.mramBad) (hword : 8 * b = lifeOff 0x2E10) (startup : Bool) :
    bitOf (threshVerdict o startup s).rch.mem.status 1 = true := by
  have hjudged := only_runJudged (threshFind s o) o startup s
  rw [threshVerdict_eq, threshRecords_quiet hquiet]
  generalize runJudged (threshFind s o) o startup s = u at hjudged
  have hgrn : u.grn = s.grn := hjudged .grn (by decide)
  have hmod : u.mod = s.mod := hjudged .mod (by decide)
  rw [event_full (by rw [hmod, hmode]; decide) (by rw [hmod, hmode]; decide) (hjudged.quench (by decide) hq) (by rw [hgrn, hfull]),
    flushQueue_empty (by rw [← hqueue, ← hgrn, lifeAdd])]
  refine lifeFlush_damaged (b := b) (n := 1) ?_ (writeVerdict_damaged ?_ (by rw [hword]; decide) _ _)
  · rw [writeVerdict_grn, lifeAdd]
    dsimp only
    rw [hgrn, hincr, hword]
    decide
  · rw [lifeAdd]
    dsimp only
    rw [hjudged.mem_eq (by decide)]
    exact hb

/-! ### STARTUP_BIST (R386) -/

/-- A module in SELFTEST, its ring full, that has a damaged word where the life counter of 0x2E10 stands. -/
def damagedCounter : State where
  mod := { mode := .selftest }
  grn := { ready := true, full := true, next := 0x10000 }
  mem := { mramBad := [0x49E10] }

/-- Tests that find nothing, of a die of which nothing has been applied or seen before. -/
theorem threshFind_quiet {s : State} (h : s.thr = {}) : Quiet (threshFind s cleanRun) := by
  have hmarch : marched cleanRun = [] := by simp [marched, cleanRun]
  unfold threshFind
  rw [hmarch, repairRows]
  constructor <;> simp [cleanRun, retireReason, h]

theorem thrNews_quiet {s : State} (h : s.thr = {}) :
    thrNews s.thr (thrJoin (threshFind s cleanRun) cleanRun true s).thr = false := by
  obtain ⟨hreps, hexh, -, hfailed, hretire⟩ := threshFind_quiet h
  simp [thrNews, thrJoin, ThrFound.unitBad, exhCount, hreps, hexh, hfailed, hretire, h]

/-- The run's own life counter is damaged: MUE is raised. -/
theorem damagedCounter_mue : bitOf (threshVerdict cleanRun true (zeroise damagedCounter.begin)).rch.mem.status 1 = true := by
  rw [zeroise, flushQueue_empty (by rfl)]
  exact threshVerdict_damaged (b := 0x49E10) (threshFind_quiet rfl) rfl rfl rfl rfl rfl List.mem_cons_self (by decide) true

/-- A start-up BIST is its run, and then a reset of the die or the end of the test. -/
theorem opStartupBist_cases {s : State} (hm : s.mod.mode = .selftest) (hr : s.grn.ready = true) (hquick : s.thr.quick = false)
    (hd : s.mod.bistDone = false) (hq : s.sup.quenchSince = none) (o : ThreshObs) :
    (opStartupBist o s).mod.mode = .supervised ∨
      (opStartupBist o s).rch = (threshVerdict o true (zeroise s)).rch := by
  rw [opStartupBist, if_pos ⟨hm, hr, by rw [hquick]; rfl, by rw [hd]; rfl, by rw [hq]; rfl⟩]
  dsimp only
  generalize threshVerdict o true (zeroise s) = u
  split
  · exact .inl rfl
  · exact .inr rfl

theorem mod_rch_of_run {c : Instr} {f : State → State} {s t : State} (hrun : exec c s = wfRun c f s) (hw : c.wf = true)
    (hx : exec c s = .next t) : t.mod = (f s.begin).mod ∧ t.rch = (f s.begin).rch := by
  rw [next_of_run hrun hw hx]
  exact ⟨rfl, rfl⟩

theorem startupBist_damaged {t : State} (hx : exec (.startupBist cleanRun) damagedCounter = .next t) :
    t.mod.mode = .supervised ∨ bitOf t.rch.mem.status 1 = true := by
  obtain ⟨hmod, hrch⟩ := mod_rch_of_run (exec_startupBist cleanRun damagedCounter) (by decide) hx
  rw [hmod, hrch]
  exact (opStartupBist_cases rfl rfl rfl rfl rfl cleanRun).imp_right fun h => by rw [h, damagedCounter_mue]

/-- Refutes O4: the statement has a start-up BIST that finds nothing leave Rachis as it was. The life counters are written at
its end (19 R403), its own event's among them; where that word of MRAM is damaged, MUE is raised (07 R173), a sticky error of
the memory controllers. -/
theorem not_selfTestsAndHandOver : ¬ Obligations.SelfTestsAndHandOver := by
  unfold Obligations.SelfTestsAndHandOver
  intro h
  obtain ⟨htests, -⟩ := h
  obtain ⟨-, -, hbist⟩ := htests damagedCounter rfl rfl
  obtain ⟨t, hx, ht, honly⟩ := (hbist cleanRun (by decide) rfl rfl rfl).1 (thrNews_quiet rfl)
  obtain ⟨hmod, -⟩ := ht
  rcases startupBist_damaged hx with hsuper | hmue
  · rw [hmod] at hsuper
    cases hsuper
  · rw [show t.rch = damagedCounter.rch from honly .rch (by decide)] at hmue
    exact absurd hmue (by decide)

end Sys2Proof.Machine
end

section
/-! PROOF. The number of units of each kind: what of the model keeps it (03 R75, 04 R99, 06 R161, 14 R303, 16 R343, 17 R361). -/

namespace Sys2Proof.Machine

/-! ### The units of the module

Each fixed set of units is a list of the state. A state is counted by the lengths of those lists, by the lengths of the five
lists that every triad holds by position, and by the number of dispatch units of every scheduler. -/

/-- The lengths of a triad's lists by position: cores, firewall cores, empty and live positions, lanes. -/
def Triad.positions (x : Triad) : List Nat :=
  [x.cores.length, x.fwCore.length, x.empty.length, x.live.length, x.lanes.length]

/-- (By `unfold`, so that `simp` may use it on side goals.) -/
@[simp] theorem Triad.positions_eq (x : Triad) :
    x.positions = [x.cores.length, x.fwCore.length, x.empty.length, x.live.length, x.lanes.length] := by
  unfold Triad.positions; rfl

/-- A scheduler's number of dispatch units. -/
def SchTriad.units (x : SchTriad) : Nat := x.disp.length

@[simp] theorem SchTriad.units_eq (x : SchTriad) : x.units = x.disp.length := by unfold SchTriad.units; rfl

/-- The counts of units, of each triad's positions and of each scheduler's dispatch units are the part's. -/
def PartUnits (counts : List Nat) (triads : List (List Nat)) (scheds : List Nat) : Prop :=
  counts = [20, 2, 2, 3, 3, 40, 16, 16, 2, 16, 16, 16, 4, 4, 4, 8, 8, 4, 4] ∧
    triads = List.replicate 6 [3, 3, 3, 3, 3] ∧ scheds = List.replicate 6 3

/-- Every fixed set of units of the state has its number. -/
def Shaped (s : State) : Prop :=
  PartUnits [s.trd.cores.length, s.trd.reserves.length, s.trd.resFree.length, s.awn.live.length, s.awn.lanes.length,
      s.fio.di.length, s.fio.fb.length, s.fio.dq.length, s.fio.groups.length, s.culm.oEn.length, s.culm.oAct.length,
      s.culm.oItems.length, s.culm.iEn.length, s.culm.iAct.length, s.culm.iItems.length, s.sch.faulted.length,
      s.hub.ports.length, s.fuse.slots.length, s.fuse.revoked.length]
    (s.trd.triads.map Triad.positions) (s.sch.triads.map SchTriad.units)

theorem map_eq_replicate_iff {α β : Type} (g : α → β) (b : β) (n : Nat) (l : List α) :
    l.map g = List.replicate n b ↔ l.length = n ∧ ∀ x ∈ l, g x = b := by
  simp [List.eq_replicate_iff]

theorem shaped_iff (s : State) : s.shaped ↔ Shaped s := by
  simp only [State.shaped, Shaped, PartUnits, map_eq_replicate_iff, Triad.positions_eq, SchTriad.units_eq, List.cons.injEq,
    and_true, and_assoc]
  tauto

theorem Shaped.awnLive {s : State} (hs : Shaped s) : s.awn.live.length = 3 := by
  obtain ⟨hcounts, -⟩ := hs
  simp only [List.cons.injEq] at hcounts
  tauto

theorem Shaped.awnLanes {s : State} (hs : Shaped s) : s.awn.lanes.length = 3 := by
  obtain ⟨hcounts, -⟩ := hs
  simp only [List.cons.injEq] at hcounts
  tauto

/-- A state written out by its fields: `simp` reads the counts off a record update with it. -/
@[simp] theorem shaped_mk (pending out clk mod mem lk img rch trd awn cyc sch vyf fab hub pair glm fio can0 can1 culm sup aon
    sec area fuse thr grn eng free) :
    Shaped ⟨pending, out, clk, mod, mem, lk, img, rch, trd, awn, cyc, sch, vyf, fab, hub, pair, glm, fio, can0, can1, culm,
      sup, aon, sec, area, fuse, thr, grn, eng, free⟩ ↔
    PartUnits [trd.cores.length, trd.reserves.length, trd.resFree.length, awn.live.length, awn.lanes.length,
        fio.di.length, fio.fb.length, fio.dq.length, fio.groups.length, culm.oEn.length, culm.oAct.length,
        culm.oItems.length, culm.iEn.length, culm.iAct.length, culm.iItems.length, sch.faulted.length,
        hub.ports.length, fuse.slots.length, fuse.revoked.length]
      (trd.triads.map Triad.positions) (sch.triads.map SchTriad.units) := by
  unfold Shaped; rfl

/-- The counts of one state put together again. -/
@[simp] theorem shaped_eta (s : State) :
    PartUnits [s.trd.cores.length, s.trd.reserves.length, s.trd.resFree.length, s.awn.live.length, s.awn.lanes.length,
        s.fio.di.length, s.fio.fb.length, s.fio.dq.length, s.fio.groups.length, s.culm.oEn.length, s.culm.oAct.length,
        s.culm.oItems.length, s.culm.iEn.length, s.culm.iAct.length, s.culm.iItems.length, s.sch.faulted.length,
        s.hub.ports.length, s.fuse.slots.length, s.fuse.revoked.length]
      (s.trd.triads.map Triad.positions) (s.sch.triads.map SchTriad.units) ↔ Shaped s := by
  unfold Shaped; rfl

@[simp] theorem shaped_ite (c : Prop) [Decidable c] (s t : State) :
    Shaped (if c then s else t) ↔ if c then Shaped s else Shaped t := by split <;> rfl

@[simp] theorem shaped_ite_snd {α : Type} (c : Prop) [Decidable c] (x y : α × State) :
    Shaped (if c then x else y).2 ↔ if c then Shaped x.2 else Shaped y.2 := by split <;> rfl

@[simp] theorem shaped_ite_snd_snd {α β : Type} (c : Prop) [Decidable c] (x y : α × β × State) :
    Shaped (if c then x else y).2.2 ↔ if c then Shaped x.2.2 else Shaped y.2.2 := by split <;> rfl

@[simp] theorem shaped_forAll {α : Type} {s : State} (l : List α) (f : α → State → State)
    (hf : ∀ x t, Shaped t → Shaped (f x t)) (hs : Shaped s) : Shaped (forAll l f s) :=
  forAll_keeps (P := Shaped) l f s hf hs

@[simp] theorem shaped_forIdx {α : Type} {s : State} (i : Nat) (l : List α) (f : Nat → α → State → State)
    (hf : ∀ i x t, Shaped t → Shaped (f i x t)) (hs : Shaped s) : Shaped (forIdx i l f s) := by
  induction l generalizing i s with
  | nil => exact hs
  | cons x l ih => exact ih _ (hf _ _ _ hs)

@[simp] theorem shaped_putEnabled {s : State} (put : Nat → List Byte → State → State) (o : Nat) (bs : List Byte) (en : Nat)
    (h : ∀ o b t, Shaped t → Shaped (put o b t)) (hs : Shaped s) : Shaped (putEnabled put o bs en s) := by
  unfold putEnabled; split
  · exact h _ _ _ hs
  · exact shaped_forIdx _ _ _ (fun i b t ht => by split <;> simp [h, ht]) hs

/-! ### Changes of a triad and of a scheduler -/

@[simp] theorem shaped_modTri {s : State} (t : Nat) (f : Triad → Triad) (hf : ∀ x, (f x).positions = x.positions) :
    Shaped (modTri t f s) ↔ Shaped s := by simp [modTri, map_modAt _ _ _ _ hf]

theorem map_modAt_replicate {α β : Type} {g : α → β} {l : List α} {b : β} {n : Nat} (h : l.map g = List.replicate n b)
    (i : Nat) {f : α → α} (hf : ∀ a, g a = b → g (f a) = b) : (modAt l i f).map g = List.replicate n b := by
  rw [map_eq_replicate_iff] at h ⊢
  obtain ⟨hlen, hall⟩ := h
  refine ⟨by simpa using hlen, fun x hx => ?_⟩
  rcases modAt_mem hx with hx | ⟨y, hy, rfl⟩
  · exact hall x hx
  · exact hf y (hall y hy)

/-- A change of a triad that gives its lists their lengths anew. -/
theorem shaped_modTri_of {s : State} (hs : Shaped s) (t : Nat) {f : Triad → Triad}
    (hf : ∀ x, x.positions = [3, 3, 3, 3, 3] → (f x).positions = [3, 3, 3, 3, 3]) : Shaped (modTri t f s) :=
  ⟨hs.1, map_modAt_replicate hs.2.1 t hf, hs.2.2⟩

@[simp] theorem shaped_modSchTri {s : State} (t : Nat) (f : SchTriad → SchTriad) (hf : ∀ x, (f x).units = x.units) :
    Shaped (modSchTri t f s) ↔ Shaped s := by simp [modSchTri, map_modAt _ _ _ _ hf]

/-! ### Functions that keep the units, in the order of the chapters' files -/

section
variable {s : State}

@[simp] theorem shaped_reset : Shaped State.reset := (shaped_iff _).1 (by unfold State.shaped; decide)

/-! #### Operations that every chapter shares -/

@[simp] theorem shaped_lifeAdd (off n) : Shaped (lifeAdd off n s) ↔ Shaped s := by simp [lifeAdd]
@[simp] theorem shaped_mramWrite (o bs) : Shaped (mramWrite o bs s) ↔ Shaped s := by simp [mramWrite]
@[simp] theorem shaped_norPut (copyB o bs) : Shaped (norPut copyB o bs s) ↔ Shaped s := by simp [norPut]
@[simp] theorem shaped_lkPut (window off v) : Shaped (lkPut window off v s) ↔ Shaped s := by simp [lkPut]
theorem shaped_thr (hs : Shaped s) (x : Thr) : Shaped { s with thr := x } := hs
@[simp] theorem shaped_emit (o) : Shaped (emit o s) ↔ Shaped s := by simp [emit]
@[simp] theorem shaped_drawn : Shaped (drawn s) ↔ Shaped s := by simp [drawn]
@[simp] theorem shaped_drawnN (n) : Shaped (drawnN n s) ↔ Shaped s := by simp [drawnN]
@[simp] theorem shaped_dropRecord : Shaped (dropRecord s) ↔ Shaped s := by simp [dropRecord]
@[simp] theorem shaped_enqueue (r) : Shaped (enqueue r s) ↔ Shaped s := by simp [enqueue]
@[simp] theorem shaped_eventAt (hs : Shaped s) (off code detail d0 d1) : Shaped (eventAt off code detail d0 d1 s) := by
  simp [eventAt, hs]
@[simp] theorem shaped_event (hs : Shaped s) (code detail d0 d1) : Shaped (event code detail d0 d1 s) := by
  simp [event, hs]
@[simp] theorem shaped_countOnly (code) : Shaped (countOnly code s) ↔ Shaped s := by simp [countOnly]
@[simp] theorem shaped_eventRateAt (hs : Shaped s) (off code idx detail d1) :
    Shaped (eventRateAt off code idx detail d1 s) := by
  simp [eventRateAt, hs]
@[simp] theorem shaped_eventRate (hs : Shaped s) (code idx detail d1) : Shaped (eventRate code idx detail d1 s) := by
  simp [eventRate, hs]
@[simp] theorem shaped_errRch (bit source init write resp addr) :
    Shaped (errRch bit source init write resp addr s) ↔ Shaped s := by
  simp [errRch]
@[simp] theorem shaped_raiseRch (hs : Shaped s) (bit code source init write resp addr) :
    Shaped (raiseRch bit code source init write resp addr s) := by
  simp [raiseRch, hs]
@[simp] theorem shaped_raiseRchCe (hs : Shaped s) (init write addr) : Shaped (raiseRchCe init write addr s) := by
  simp [raiseRchCe, hs]
@[simp] theorem shaped_errMem (bit unit addr) : Shaped (errMem bit unit addr s) ↔ Shaped s := by simp [errMem]
@[simp] theorem shaped_raiseMem (hs : Shaped s) (bit code unit addr) : Shaped (raiseMem bit code unit addr s) := by
  simp [raiseMem, hs]
@[simp] theorem shaped_raiseMce (hs : Shaped s) (unit addr) : Shaped (raiseMce unit addr s) := by simp [raiseMce, hs]
@[simp] theorem shaped_errTrd (bit info window) : Shaped (errTrd bit info window s) ↔ Shaped s := by simp [errTrd]
@[simp] theorem shaped_errAwn (bit info) : Shaped (errAwn bit info s) ↔ Shaped s := by simp [errAwn]
@[simp] theorem shaped_errCyc (bit info) : Shaped (errCyc bit info s) ↔ Shaped s := by simp [errCyc]
@[simp] theorem shaped_errSch (bit info) : Shaped (errSch bit info s) ↔ Shaped s := by simp [errSch]
@[simp] theorem shaped_errVyf (bit info) : Shaped (errVyf bit info s) ↔ Shaped s := by simp [errVyf]
@[simp] theorem shaped_errFab (bit info) : Shaped (errFab bit info s) ↔ Shaped s := by simp [errFab]
@[simp] theorem shaped_errHub (bit info) : Shaped (errHub bit info s) ↔ Shaped s := by simp [errHub]
@[simp] theorem shaped_errPair (bit info) : Shaped (errPair bit info s) ↔ Shaped s := by simp [errPair]
@[simp] theorem shaped_errGlm (bit info) : Shaped (errGlm bit info s) ↔ Shaped s := by simp [errGlm]
@[simp] theorem shaped_errFio (bit info) : Shaped (errFio bit info s) ↔ Shaped s := by simp [errFio]
@[simp] theorem shaped_errCulm (bit info addr) : Shaped (errCulm bit info addr s) ↔ Shaped s := by simp [errCulm]
@[simp] theorem shaped_errSup (bit info) : Shaped (errSup bit info s) ↔ Shaped s := by simp [errSup]
@[simp] theorem shaped_errSec (bit info) : Shaped (errSec bit info s) ↔ Shaped s := by simp [errSec]
@[simp] theorem shaped_errThr (bit info) : Shaped (errThr bit info s) ↔ Shaped s := by simp [errThr]
@[simp] theorem shaped_errGrn (bit info) : Shaped (errGrn bit info s) ↔ Shaped s := by simp [errGrn]
@[simp] theorem shaped_setCan (n c) : Shaped (s.setCan n c) ↔ Shaped s := by simp [State.setCan]
@[simp] theorem shaped_errCan (n bit info) : Shaped (errCan n bit info s) ↔ Shaped s := by simp [errCan]
@[simp] theorem shaped_mramProbe (hs : Shaped s) (o n) : Shaped (mramProbe o n s) := by simp [mramProbe, hs]
@[simp] theorem shaped_engRun (es f) : Shaped (engRun es f s) ↔ Shaped (f s) := by simp [engRun]
@[simp] theorem shaped_modCore (n f) : Shaped (modCore n f s) ↔ Shaped s := by simp [modCore]

/-! #### Operands -/

@[simp] theorem shaped_raiseSec (hs : Shaped s) (bit code detail step copy d0 d1) :
    Shaped (raiseSec bit code detail step copy d0 d1 s) := by
  simp [raiseSec, hs]

/-! #### Transfers of the engines (01) -/

@[simp] theorem shaped_refuse (hs : Shaped s) (resp init write addr n) : Shaped (refuse resp init write addr n s).2.2 := by
  unfold refuse; split <;> simp [hs]
@[simp] theorem shaped_readDram (hs : Shaped s) (init o n) : Shaped (readDram init o n s).2.2 := by simp [readDram, hs]
@[simp] theorem shaped_readMram (hs : Shaped s) (o n) : Shaped (readMram o n s).2.2 := by simp [readMram, hs]
@[simp] theorem shaped_dmaRead (hs : Shaped s) (init addr n) : Shaped (dmaRead init addr n s).2.2 := by
  unfold dmaRead; (repeat' split) <;> simp [hs]
@[simp] theorem shaped_dmaWrite (hs : Shaped s) (init addr bs) : Shaped (dmaWrite init addr bs s).2 := by
  unfold dmaWrite; (repeat' split) <;> simp [hs]

/-! #### The Culm port (16) -/

@[simp] theorem shaped_culmLog (kind outcome inbound win addr mask) :
    Shaped (culmLog kind outcome inbound win addr mask s) ↔ Shaped s := by
  simp [culmLog]
@[simp] theorem shaped_raiseCulm (hs : Shaped s) (bit code outcome inbound win master addr) :
    Shaped (raiseCulm bit code outcome inbound win master addr s) := by
  simp [raiseCulm, hs]
@[simp] theorem shaped_raiseCulmRate (hs : Shaped s) (bit code outcome inbound win master addr) :
    Shaped (raiseCulmRate bit code outcome inbound win master addr s) := by
  simp [raiseCulmRate, hs]
@[simp] theorem shaped_respond (init code data) : Shaped (respond init code data s) ↔ Shaped s := by simp [respond]
@[simp] theorem shaped_answerItem (init addr code data) : Shaped (answerItem init addr code data s) ↔ Shaped s := by
  simp [answerItem]
@[simp] theorem shaped_abortOut (hs : Shaped s) (resp outcome o) : Shaped (abortOut resp outcome o s) := by
  simp [abortOut, hs]
@[simp] theorem shaped_abortAllOut (hs : Shaped s) (resp outcome) : Shaped (abortAllOut resp outcome s) := by
  simp +contextual [abortAllOut, hs]
@[simp] theorem shaped_discardBuf (hs : Shaped s) (b) : Shaped (discardBuf b s) := by simp [discardBuf, hs]
@[simp] theorem shaped_discardBufs (hs : Shaped s) (p) : Shaped (discardBufs p s) := by
  simp +contextual [discardBufs, hs]
@[simp] theorem shaped_freeBuf (hs : Shaped s) : Shaped (freeBuf s) := by
  unfold freeBuf; split <;> simp [hs]
@[simp] theorem shaped_serveBuf (b init addr size) : Shaped (serveBuf b init addr size s) ↔ Shaped s := by simp [serveBuf]
@[simp] theorem shaped_pushOut (i w posted prefetch) : Shaped (pushOut i w posted prefetch s) ↔ Shaped s := by
  simp [pushOut]
@[simp] theorem shaped_waitAtPort (since i) : Shaped (waitAtPort since i s) ↔ Shaped s := by simp [waitAtPort]
@[simp] theorem shaped_culmOffer (hs : Shaped s) (since i) : Shaped (culmOffer since i s) := by
  unfold culmOffer; (repeat' split) <;> simp [hs]
@[simp] theorem shaped_culmAccept (hs : Shaped s) (i) : Shaped (culmAccept i s) := by simp [culmAccept, hs]
@[simp] theorem shaped_admitWaiting (hs : Shaped s) : Shaped (admitWaiting s) := by
  simp +contextual [admitWaiting, hs]
@[simp] theorem shaped_afterOutEnd (hs : Shaped s) (had) : Shaped (afterOutEnd had s) := by simp [afterOutEnd, hs]
@[simp] theorem shaped_countO (w) : Shaped (countO w s) ↔ Shaped s := by simp [countO]
@[simp] theorem shaped_countI (v) : Shaped (countI v s) ↔ Shaped s := by simp [countI]
@[simp] theorem shaped_popOut : Shaped (popOut s) ↔ Shaped s := by simp [popOut]
@[simp] theorem shaped_completeOut (hs : Shaped s) (o bs) : Shaped (completeOut o bs s) := by simp [completeOut, hs]
@[simp] theorem shaped_refusedOut (hs : Shaped s) (o) : Shaped (refusedOut o s) := by simp [refusedOut, hs]
@[simp] theorem shaped_driveOut (o) : Shaped (driveOut o s) ↔ Shaped s := by simp [driveOut]
@[simp] theorem shaped_passEnd : Shaped (passEnd s) ↔ Shaped s := by simp [passEnd]
@[simp] theorem shaped_seeRequests (reqs) : Shaped (seeRequests reqs s) ↔ Shaped s := by simp [seeRequests]
@[simp] theorem shaped_outboundEnd (hs : Shaped s) (e) : Shaped (outboundEnd e s) := by
  unfold outboundEnd; (repeat' split) <;> simp [hs]
@[simp] theorem shaped_opCulmOutboundEnd (hs : Shaped s) (g) : Shaped (opCulmOutboundEnd g s) := by
  simp [opCulmOutboundEnd, hs]
@[simp] theorem shaped_opCulmTransactionTimeout (hs : Shaped s) : Shaped (opCulmTransactionTimeout s) := by
  unfold opCulmTransactionTimeout; split <;> simp [hs]
@[simp] theorem shaped_opCulmOutboundAccept (hs : Shaped s) (i) : Shaped (opCulmOutboundAccept i s) := by
  simp [opCulmOutboundAccept, hs]
@[simp] theorem shaped_opPrefetchExpiry (hs : Shaped s) (k) : Shaped (opPrefetchExpiry k s) := by
  unfold opPrefetchExpiry; split <;> simp [hs]
@[simp] theorem shaped_answerIn (kind data) : Shaped (answerIn kind data s) ↔ Shaped s := by simp [answerIn]
@[simp] theorem shaped_refuseIn (hs : Shaped s) (p v) : Shaped (refuseIn p v s) := by simp [refuseIn, hs]
@[simp] theorem shaped_inWrite (p v) : Shaped (inWrite p v s) ↔ Shaped s := by simp [inWrite]
@[simp] theorem shaped_inRead (p v) : Shaped (inRead p v s) ↔ Shaped s := by
  unfold inRead; (repeat' split) <;> simp
@[simp] theorem shaped_inNormal (hs : Shaped s) (p v) : Shaped (inNormal p v s) := by simp [inNormal, hs]
@[simp] theorem shaped_retryIn (m) : Shaped (retryIn m s) ↔ Shaped s := by simp [retryIn]
@[simp] theorem shaped_inPhase (hs : Shaped s) (pass p) : Shaped (inPhase pass p s) := by
  unfold inPhase; split <;> simp [hs]
@[simp] theorem shaped_opCulmInboundAddressPhase (hs : Shaped s) (p) : Shaped (opCulmInboundAddressPhase p s) := by
  simp [opCulmInboundAddressPhase, hs]
@[simp] theorem shaped_issueWrites (hs : Shaped s) (value l phys bs) : Shaped (issueWrites value l phys bs s).2 := by
  induction l generalizing bs s with
  | nil => exact hs
  | cons e t ih => exact ih (shaped_dmaWrite hs _ _ _) _
@[simp] theorem shaped_issueReads (hs : Shaped s) (value l phys) : Shaped (issueReads value l phys s).2.2 := by
  induction l generalizing s with
  | nil => exact hs
  | cons e t ih => exact ih (shaped_dmaRead hs _ _ _)
@[simp] theorem shaped_opInboundWriteIssue (hs : Shaped s) : Shaped (opInboundWriteIssue s) := by
  unfold opInboundWriteIssue; split <;> simp [hs]
@[simp] theorem shaped_opDelayedReadData (hs : Shaped s) (slot) : Shaped (opDelayedReadData slot s) := by
  unfold opDelayedReadData; split <;> simp [hs]
@[simp] theorem shaped_opDelayedReadDiscard (hs : Shaped s) (slot) : Shaped (opDelayedReadDiscard slot s) := by
  unfold opDelayedReadDiscard; split <;> simp [hs]
@[simp] theorem shaped_opCulmWindowEnableWrite (hs : Shaped s) (init inbound w v) :
    Shaped (opCulmWindowEnableWrite init inbound w v s) := by
  simp [opCulmWindowEnableWrite, hs]
@[simp] theorem shaped_culmStart (hs : Shaped s) : Shaped (culmStart s) := by
  simp_all [Shaped, PartUnits, culmStart]
@[simp] theorem shaped_culmAbortAll (hs : Shaped s) (resp outcome) : Shaped (culmAbortAll resp outcome s) := by
  have h := shaped_discardBufs (shaped_abortAllOut hs resp outcome) (fun _ => true)
  simp [culmAbortAll, h]
@[simp] theorem shaped_culmSafe (hs : Shaped s) : Shaped (culmSafe s) := by simp [culmSafe, hs]

/-! #### Field inputs and outputs (14) -/

@[simp] theorem shaped_modDq (n f) : Shaped (modDq n f s) ↔ Shaped s := by simp [modDq]
@[simp] theorem shaped_modDi (n f) : Shaped (modDi n f s) ↔ Shaped s := by simp [modDi]
@[simp] theorem shaped_modFb (n f) : Shaped (modFb n f s) ↔ Shaped s := by simp [modFb]
@[simp] theorem shaped_modGrp (g f) : Shaped (modGrp g f s) ↔ Shaped s := by simp [modGrp]
@[simp] theorem shaped_raiseFio (hs : Shaped s) (bit code ch cause d0 d1) :
    Shaped (raiseFio bit code ch cause d0 d1 s) := by
  simp [raiseFio, hs]
@[simp] theorem shaped_raiseEpisode (hs : Shaped s) (bit code ch d0 open') :
    Shaped (raiseEpisode bit code ch d0 open' s) := by
  simp [raiseEpisode, hs]
@[simp] theorem shaped_writeFaultRecord (hs : Shaped s) : Shaped (writeFaultRecord s) := by simp [writeFaultRecord, hs]
@[simp] theorem shaped_loadFaultRecord (hs : Shaped s) : Shaped (loadFaultRecord s) := by
  have h := shaped_mramProbe (shaped_mramProbe hs 0x180 64) 0x1C0 64
  simp only [loadFaultRecord]; split <;> simp [h]
@[simp] theorem shaped_dqSwitch (n on) : Shaped (dqSwitch n on s) ↔ Shaped s := by simp [dqSwitch]
@[simp] theorem shaped_latchFbk (hs : Shaped s) (n cause) : Shaped (latchFbk n cause s) := by simp [latchFbk, hs]
@[simp] theorem shaped_dqFollow (hs : Shaped s) (n) : Shaped (dqFollow n s) := by simp [dqFollow, hs]
@[simp] theorem shaped_fioRefresh (hs : Shaped s) : Shaped (fioRefresh s) := by simp [fioRefresh, hs]
@[simp] theorem shaped_latchCross (hs : Shaped s) (n cause partner) : Shaped (latchCross n cause partner s) := by
  unfold latchCross
  exact shaped_writeFaultRecord (shaped_raiseFio (shaped_fioRefresh ((shaped_modDq ..).2 hs)) ..)
@[simp] theorem shaped_latchPathDq (hs : Shaped s) (n) : Shaped (latchPathDq n s) := by
  unfold latchPathDq
  exact shaped_writeFaultRecord (shaped_raiseFio (shaped_fioRefresh ((shaped_modDq ..).2 hs)) ..)
@[simp] theorem shaped_latchGsw (hs : Shaped s) (g) : Shaped (latchGsw g s) :=
  shaped_writeFaultRecord (shaped_raiseFio (shaped_fioRefresh (by simp [hs])) ..)
@[simp] theorem shaped_fioOff (hs : Shaped s) : Shaped (fioOff s) := by simp [fioOff, hs]
@[simp] theorem shaped_dinReport (hs : Shaped s) (ch thresh low) (get : State → Din) (put : (Din → Din) → State → State)
    (hp : ∀ f t, Shaped t → Shaped (put f t)) : Shaped (dinReport ch thresh low get put s) := by
  unfold dinReport
  extract_lets now d s₁ s₂
  have h₁ : Shaped s₁ := by simp only [s₁]; (repeat' split) <;> simp [hp, hs]
  have h₂ : Shaped s₂ := by simp only [s₂]; (repeat' split) <;> simp [hp, h₁]
  split
  · exact shaped_writeFaultRecord (shaped_raiseFio (hp _ _ h₂) ..)
  · exact h₂
@[simp] theorem shaped_sampleDi (hs : Shaped s) (i v) : Shaped (sampleDi i v s) := by simp [sampleDi, hs]
@[simp] theorem shaped_fbCheck (hs : Shaped s) (n) : Shaped (fbCheck n s) := by simp [fbCheck, hs]
@[simp] theorem shaped_sampleFb (hs : Shaped s) (n v) : Shaped (sampleFb n v s) := by simp [sampleFb, hs]
@[simp] theorem shaped_opInputSample (hs : Shaped s) (di fb) : Shaped (opInputSample di fb s) := by
  unfold opInputSample; split
  · exact shaped_forIdx _ _ _ (fun i x t ht => shaped_sampleFb ht i x)
      (shaped_forIdx _ _ _ (fun i x t ht => shaped_sampleDi ht i x) hs)
  · exact hs
@[simp] theorem shaped_nameCross (hs : Shaped s) (n) : Shaped (nameCross n s) := by
  unfold nameCross; split <;> simp [hs]
@[simp] theorem shaped_sampleDq (hs : Shaped s) (n v ma) : Shaped (sampleDq n v ma s) := by
  unfold sampleDq
  split
  · exact hs
  · extract_lets s₁ d s₂ s₃
    have h₂ : Shaped s₂ := by simp only [s₂]; split <;> simp [s₁, hs]
    have h₃ : Shaped s₃ := by simp only [s₃]; split <;> simp [h₂]
    exact shaped_nameCross h₃ n
@[simp] theorem shaped_opReadbackSample (hs : Shaped s) (dq loadMa groupMa) :
    Shaped (opReadbackSample dq loadMa groupMa s) := by
  unfold opReadbackSample; split
  · refine shaped_fioRefresh ?_
    simpa using shaped_forIdx 0 dq _ (fun n v t ht => shaped_sampleDq ht n v _) hs
  · exact hs
@[simp] theorem shaped_opOutputImageArrival (hs : Shaped s) : Shaped (opOutputImageArrival s) := by
  unfold opOutputImageArrival; (repeat' split) <;> simp +contextual [hs]
@[simp] theorem shaped_opTestRound : Shaped (opTestRound s) ↔ Shaped s := by simp [opTestRound]
@[simp] theorem shaped_opOffPulse (n) : Shaped (opOffPulse n s) ↔ Shaped s := by simp [opOffPulse]
@[simp] theorem shaped_opOffPulseEnd (hs : Shaped s) (n) : Shaped (opOffPulseEnd n s) := by simp [opOffPulseEnd, hs]
@[simp] theorem shaped_groupCheck (hs : Shaped s) (g slot showsOpen) : Shaped (groupCheck g slot showsOpen s) := by
  simp [groupCheck, hs]
@[simp] theorem shaped_opGroupSwitchTest (hs : Shaped s) (g showsOpen) : Shaped (opGroupSwitchTest g showsOpen s) := by
  simp [opGroupSwitchTest, hs]
@[simp] theorem shaped_opTestRoundEnd (hs : Shaped s) : Shaped (opTestRoundEnd s) := by simp [opTestRoundEnd, hs]
@[simp] theorem shaped_opOutputOverload (hs : Shaped s) (n ma) : Shaped (opOutputOverload n ma s) := by
  simp [opOutputOverload, hs]
@[simp] theorem shaped_opGroupOvercurrent (hs : Shaped s) (g ma) : Shaped (opGroupOvercurrent g ma s) := by
  unfold opGroupOvercurrent; split
  · exact shaped_writeFaultRecord (shaped_raiseFio (shaped_fioRefresh (by simp [hs])) ..)
  · exact hs
@[simp] theorem shaped_opReturnCrossFault (hs : Shaped s) (g) : Shaped (opReturnCrossFault g s) := by
  unfold opReturnCrossFault; split
  · exact shaped_writeFaultRecord (shaped_raiseFio (shaped_fioRefresh (by simp [hs])) ..)
  · exact hs
@[simp] theorem shaped_opOpenLoad (hs : Shaped s) (n) : Shaped (opOpenLoad n s) := by simp [opOpenLoad, hs]
@[simp] theorem shaped_opOpenLoadCleared (n) : Shaped (opOpenLoadCleared n s) ↔ Shaped s := by simp [opOpenLoadCleared]
@[simp] theorem shaped_opFbPullInTimeout (hs : Shaped s) (n) : Shaped (opFbPullInTimeout n s) := by
  simp [opFbPullInTimeout, hs]
@[simp] theorem shaped_opFbDropOutTimeout (hs : Shaped s) (n) : Shaped (opFbDropOutTimeout n s) := by
  simp [opFbDropOutTimeout, hs]
@[simp] theorem shaped_fioLplusLost (hs : Shaped s) : Shaped (fioLplusLost s) := by simp [fioLplusLost, hs]
@[simp] theorem shaped_lplusUsable (hs : Shaped s) : Shaped (lplusUsable s) := by simp [lplusUsable, hs]
@[simp] theorem shaped_opLplusRestored (hs : Shaped s) : Shaped (opLplusRestored s) := by simp [opLplusRestored, hs]
@[simp] theorem shaped_faultReset (hs : Shaped s) (inputs groups channels) :
    Shaped (faultReset inputs groups channels s) := by
  unfold faultReset
  exact shaped_writeFaultRecord (shaped_event (shaped_fioRefresh (by split <;> simp [hs])) ..)
@[simp] theorem shaped_opFaultReset (hs : Shaped s) (init inputs groups channels) :
    Shaped (opFaultReset init inputs groups channels s) := by
  simp [opFaultReset, hs]
@[simp] theorem shaped_opOvlReset (hs : Shaped s) (init groups channels) : Shaped (opOvlReset init groups channels s) := by
  unfold opOvlReset; split
  · exact shaped_writeFaultRecord (shaped_event (shaped_fioRefresh (by simp [hs])) ..)
  · exact hs
@[simp] theorem shaped_fioStart (hs : Shaped s) : Shaped (fioStart s) := by simp [fioStart, hs]

/-! #### Granary (19) -/

@[simp] theorem shaped_putRec (hs : Shaped s) (q r) : Shaped (putRec q r s) := by simp [putRec, hs]
@[simp] theorem shaped_overflowRecord : Shaped (overflowRecord s) ↔ Shaped s := by simp [overflowRecord]
@[simp] theorem shaped_writeFront (hs : Shaped s) (q) : Shaped (writeFront q s) := by
  unfold writeFront; split <;> simp [hs]
@[simp] theorem shaped_flushQueue (hs : Shaped s) (q) : Shaped (flushQueue q s) := by
  simp +contextual [flushQueue, hs]
@[simp] theorem shaped_lifeLine (hs : Shaped s) (e) : Shaped (lifeLine e s) := by simp [lifeLine, hs]
@[simp] theorem shaped_lifeFlush (hs : Shaped s) : Shaped (lifeFlush s) := by simp +contextual [lifeFlush, hs]
@[simp] theorem shaped_hoursCopy (hs : Shaped s) : Shaped (hoursCopy s) := by simp [hoursCopy, hs]
@[simp] theorem shaped_hoursCopyWhole (hs : Shaped s) : Shaped (hoursCopyWhole s) := by simp [hoursCopyWhole, hs]
@[simp] theorem shaped_writeSlot (hs : Shaped s) (o data) : Shaped (writeSlot o data s) := by simp [writeSlot, hs]
@[simp] theorem shaped_lifeBad (hs : Shaped s) (d) : Shaped (lifeBad d s) := by simp [lifeBad, hs]
@[simp] theorem shaped_writeControl (hs : Shaped s) : Shaped (writeControl s) := by simp [writeControl, hs]
@[simp] theorem shaped_probeSlots (hs : Shaped s) (o) : Shaped (probeSlots o s) := by simp [probeSlots, hs]
@[simp] theorem shaped_startControl (hs : Shaped s) : Shaped (startControl s) := by
  have h := shaped_probeSlots hs 0x240000
  simp only [startControl]; split
  · simp [h]
  · exact shaped_lifeBad (shaped_writeControl (by simp [h])) 1
@[simp] theorem shaped_startPower (hs : Shaped s) (last) : Shaped (startPower last s) := by
  have h := shaped_probeSlots hs 0x200
  simp only [startPower]; split <;> simp [h]
@[simp] theorem shaped_opGranaryStart (hs : Shaped s) : Shaped (opGranaryStart s) := by
  unfold opGranaryStart
  split
  · extract_lets c held last s₁ s₂ p grn s₃ s₄
    have h₁ : Shaped s₁ := shaped_startControl (shaped_startPower hs last)
    have h₂ : Shaped s₂ := by simp only [s₂]; split <;> simp [h₁]
    have h₃ : Shaped s₃ := by simpa [s₃, grn] using h₂
    split
    · exact h₃
    · simpa using shaped_event h₃ ..
  · exact hs
@[simp] theorem shaped_grnClear (hs : Shaped s) (auth) : Shaped (grnClear auth s) := by
  unfold grnClear
  extract_lets s₁ n cleared e s₂ grn s₃ grn'
  have h₂ : Shaped s₂ := (shaped_mramWrite ..).2 (shaped_flushQueue hs false)
  clear_value s₂
  have h₃ : Shaped s₃ := shaped_writeControl (by simpa [grn] using h₂)
  clear_value s₃
  exact shaped_event (by simpa [grn'] using h₃) ..
@[simp] theorem shaped_opEventRaise (hs : Shaped s) (code detail d0 d1) : Shaped (opEventRaise code detail d0 d1 s) := by
  simp [opEventRaise, hs]
@[simp] theorem shaped_opRateIntervalEnd (hs : Shaped s) (code idx) : Shaped (opRateIntervalEnd code idx s) := by
  unfold opRateIntervalEnd; split <;> simp [hs]
@[simp] theorem shaped_opRecordWritten (hs : Shaped s) : Shaped (opRecordWritten s) := by simp [opRecordWritten, hs]
@[simp] theorem shaped_opLifeWriteTick (hs : Shaped s) : Shaped (opLifeWriteTick s) := by simp [opLifeWriteTick, hs]
@[simp] theorem shaped_slackCount (c x) : Shaped (slackCount c x s) ↔ Shaped s := by simp [slackCount]
@[simp] theorem shaped_opOperatingSecond (hs : Shaped s) : Shaped (opOperatingSecond s) := by simp [opOperatingSecond, hs]
@[simp] theorem shaped_opHoursCopy (hs : Shaped s) : Shaped (opHoursCopy s) := by simp [opHoursCopy, hs]

/-! #### What several chapters share -/

@[simp] theorem shaped_giveIrq (n src) : Shaped (giveIrq n src s) ↔ Shaped s := by simp [giveIrq]
@[simp] theorem shaped_irqTriad (hs : Shaped s) (t ps src) : Shaped (irqTriad t ps src s) := by simp [irqTriad, hs]
@[simp] theorem shaped_irqAll (hs : Shaped s) (src) : Shaped (irqAll src s) := by
  simp +contextual [irqAll, hs]
@[simp] theorem shaped_braceEnd (hs : Shaped s) : Shaped (braceEnd s) := by
  unfold braceEnd; split <;> simp [hs]
@[simp] theorem shaped_enterSafe (hs : Shaped s) (cause) : Shaped (enterSafe cause s) := by
  unfold enterSafe; split
  · exact shaped_event (shaped_culmSafe (shaped_fioOff (shaped_braceEnd (by simp [hs])))) ..
  · exact hs
@[simp] theorem shaped_haltCores (t) : Shaped (haltCores t s) ↔ Shaped s := by simp [haltCores]
@[simp] theorem shaped_abortTimers : Shaped (abortTimers s) ↔ Shaped s := by simp [abortTimers]
@[simp] theorem shaped_awnScanLost (hs : Shaped s) (st) : Shaped (awnScanLost st s) := by simp [awnScanLost, hs]
@[simp] theorem shaped_haltAll (hs : Shaped s) : Shaped (haltAll s) := by
  have h : Shaped { s with trd := { s.trd with
      cores := s.trd.cores.map (fun (c : Core) => { c with running := false }),
      triads := s.trd.triads.map (fun (t : Triad) =>
        if t.state = 0 then t else { t.emptied with state := 6, haltedAt := none }) } } := by
    obtain ⟨hcounts, htriads, hscheds⟩ := hs
    refine ⟨by simpa using hcounts, ?_, hscheds⟩
    rw [map_eq_replicate_iff] at htriads ⊢
    obtain ⟨hlen, hall⟩ := htriads
    refine ⟨by simpa using hlen, fun y hy => ?_⟩
    obtain ⟨x, hx, rfl⟩ := List.mem_map.1 hy
    have h3 := hall x hx
    split
    · exact h3
    · simp_all [Triad.emptied]
  simp only [haltAll]
  split
  · exact shaped_awnScanLost h 1
  · exact h
@[simp] theorem shaped_dieReset (hs : Shaped s) (cause quenched hold) : Shaped (dieReset cause quenched hold s) := by
  have h := shaped_reset
  simp_all [Shaped, PartUnits, dieReset]

/-! #### The Awn scan (04) -/

@[simp] theorem shaped_putLane (l x) : Shaped (putLane l x s) ↔ Shaped s := by simp [putLane]
@[simp] theorem shaped_awnShadow (o bs) : Shaped (awnShadow o bs s) ↔ Shaped s := by simp [awnShadow]
@[simp] theorem shaped_awnStage (o bs) : Shaped (awnStage o bs s) ↔ Shaped s := by simp [awnStage]

@[simp] theorem shaped_awnTrigger (hs : Shaped s) : Shaped (awnTrigger s) := by
  have h : s.awn.lanes.length ≤ s.awn.live.length := (hs.awnLanes.trans hs.awnLive.symm).le
  simp [awnTrigger, hs, h]
@[simp] theorem shaped_excludeLane (hs : Shaped s) (l) : Shaped (excludeLane l s) := by
  simp only [excludeLane]; (repeat' split) <;> simp [hs]
@[simp] theorem shaped_awnNoMajority (hs : Shaped s) : Shaped (awnNoMajority s) :=
  shaped_enterSafe (shaped_awnScanLost (by simp [hs]) 5) _
@[simp] theorem shaped_awnVote (hs : Shaped s) : Shaped (awnVote s) := by
  simp only [awnVote]; (repeat' split) <;> simp +contextual [hs]
@[simp] theorem shaped_laneClosed (hs : Shaped s) (l) : Shaped (laneClosed l s) := by
  simp only [laneClosed]; (repeat' split) <;> simp [hs]
@[simp] theorem shaped_awnStep (hs : Shaped s) (l f) : Shaped (awnStep l f s) := by simp [awnStep, hs]
@[simp] theorem shaped_opAwnIllegalStep (hs : Shaped s) (l ecc) : Shaped (opAwnIllegalStep l ecc s) :=
  shaped_awnStep hs l _
@[simp] theorem shaped_opLaneTimeout (hs : Shaped s) : Shaped (opLaneTimeout s) := by simp [opLaneTimeout, hs]
@[simp] theorem shaped_awnPublishCore (hs : Shaped s) : Shaped (awnPublishCore s) := by
  simp only [awnPublishCore]; (repeat' split) <;> simp [hs]
@[simp] theorem shaped_awnSetEn (hs : Shaped s) (v) : Shaped (awnSetEn v s) := by simp [awnSetEn, hs]
@[simp] theorem shaped_opAwnEnableWrite (hs : Shaped s) (init v) : Shaped (opAwnEnableWrite init v s) := by
  simp [opAwnEnableWrite, hs]
@[simp] theorem shaped_awnFill (d) : Shaped (awnFill d s) ↔ Shaped s := by simp [awnFill]

@[simp] theorem shaped_awnLoad (hs : Shaped s) (p) : Shaped (awnLoad p s) := by
  simp_all [Shaped, PartUnits, awnLoad, awnFill]

@[simp] theorem shaped_awnTransfer (hs : Shaped s) (po old) : Shaped (awnTransfer po old s) := by
  simp [awnTransfer, hs]

/-! #### Glume connections (13) -/

@[simp] theorem shaped_modConn (c f) : Shaped (modConn c f s) ↔ Shaped s := by simp [modConn]
@[simp] theorem shaped_modStn (k f) : Shaped (modStn k f s) ↔ Shaped s := by simp [modStn]
@[simp] theorem shaped_raiseGlmRate (hs : Shaped s) (bit code c) : Shaped (raiseGlmRate bit code c s) := by
  simp [raiseGlmRate, hs]
@[simp] theorem shaped_stationLost (c) : Shaped (stationLost c s) ↔ Shaped s := by
  unfold stationLost; (repeat' split) <;> simp
@[simp] theorem shaped_connLeave (hs : Shaped s) (c dest cause) : Shaped (connLeave c dest cause s) := by
  simp [connLeave, hs]
@[simp] theorem shaped_transportLost (hs : Shaped s) (p) : Shaped (transportLost p s) := by
  simp +contextual [transportLost, hs]
@[simp] theorem shaped_kernelLost (hs : Shaped s) : Shaped (kernelLost s) := by simp [kernelLost, hs]
@[simp] theorem shaped_kernelRemapped (hs : Shaped s) : Shaped (kernelRemapped s) := by simp [kernelRemapped, hs]
@[simp] theorem shaped_hubLost (hs : Shaped s) (port) : Shaped (hubLost port s) := by simp [hubLost, hs]
@[simp] theorem shaped_canLost (hs : Shaped s) (n obj) : Shaped (canLost n obj s) := by simp [canLost, hs]
@[simp] theorem shaped_glumeAccept (hs : Shaped s) (c q r ready words) : Shaped (glumeAccept c q r ready words s) := by
  simp [glumeAccept, hs]
@[simp] theorem shaped_glumeReject (hs : Shaped s) (c) : Shaped (glumeReject c s) := by simp [glumeReject, hs]
@[simp] theorem shaped_glumeOffer (transport index ms) : Shaped (glumeOffer transport index ms s) ↔ Shaped s := by
  simp [glumeOffer]
@[simp] theorem shaped_glumeWithdraw (transport index ms) : Shaped (glumeWithdraw transport index ms s) ↔ Shaped s := by
  simp [glumeWithdraw]
@[simp] theorem shaped_glumeJudge (hs : Shaped s) (transport index b) : Shaped (glumeJudge transport index b s) := by
  unfold glumeJudge; split <;> simp [hs]
@[simp] theorem shaped_opGlumeMessageReceive (hs : Shaped s) (transport index b) :
    Shaped (opGlumeMessageReceive transport index b s) := by
  simp [opGlumeMessageReceive, hs]
@[simp] theorem shaped_opConnectionTimeout (hs : Shaped s) (c) : Shaped (opConnectionTimeout c s) := by
  simp [opConnectionTimeout, hs]
@[simp] theorem shaped_glumeTimeouts (hs : Shaped s) : Shaped (glumeTimeouts s) := by
  simp +contextual [glumeTimeouts, hs]
@[simp] theorem shaped_connSetEn (hs : Shaped s) (c v) : Shaped (connSetEn c v s) := by simp [connSetEn, hs]
@[simp] theorem shaped_connsFall : Shaped (connsFall s) ↔ Shaped s := by simp [connsFall]
@[simp] theorem shaped_opGlmConnEnableWrite (hs : Shaped s) (init c v) : Shaped (opGlmConnEnableWrite init c v s) := by
  simp [opGlmConnEnableWrite, hs]
@[simp] theorem shaped_glmStart (hs : Shaped s) : Shaped (glmStart s) := by
  simp +contextual [glmStart, hs]
@[simp] theorem shaped_mboxFreeze (hs : Shaped s) (c) : Shaped (mboxFreeze c s) := by
  simp only [mboxFreeze, shaped_modConn]
  exact shaped_dmaWrite (shaped_dmaWrite (shaped_dmaWrite hs ..) ..) ..
@[simp] theorem shaped_mboxWords (hs : Shaped s) (c) : Shaped (mboxWords c s).2 := by simp [mboxWords, hs]

/-! #### The hub and guardian (10) -/

@[simp] theorem shaped_modPort (p f) : Shaped (modPort p f s) ↔ Shaped s := by simp [modPort]
@[simp] theorem shaped_hubDid (d) : Shaped (hubDid d s) ↔ Shaped s := by simp [hubDid]
@[simp] theorem shaped_opBeaconSend (hs : Shaped s) : Shaped (opBeaconSend s) := by simp [opBeaconSend, hs]
@[simp] theorem shaped_opHubTxSlot (hs : Shaped s) (d) : Shaped (opHubTxSlot d s) := by
  simp only [opHubTxSlot]; (repeat' split) <;> simp [hs]
@[simp] theorem shaped_hubCommit (b body) : Shaped (hubCommit b body s) ↔ Shaped s := by simp [hubCommit]
@[simp] theorem shaped_raiseHubRate (hs : Shaped s) (bit code p desc) : Shaped (raiseHubRate bit code p desc s) := by
  simp [raiseHubRate, hs]
@[simp] theorem shaped_raiseHub (hs : Shaped s) (bit code p) : Shaped (raiseHub bit code p s) := by simp [raiseHub, hs]
@[simp] theorem shaped_portBlock (hs : Shaped s) (p) : Shaped (portBlock p s) := by simp [portBlock, hs]
@[simp] theorem shaped_hubViolation (hs : Shaped s) (bit code p desc count) :
    Shaped (hubViolation bit code p desc count s) := by
  simp [hubViolation, hs]
@[simp] theorem shaped_rxInside (hs : Shaped s) (p d x f) : Shaped (rxInside p d x f s) := by
  simp only [rxInside]; (repeat' split) <;> simp [hs]
@[simp] theorem shaped_opHubFrameReceive (hs : Shaped s) (p f) : Shaped (opHubFrameReceive p f s) := by
  unfold opHubFrameReceive; (repeat' split) <;> simp [hs]
@[simp] theorem shaped_hubHandOver (hs : Shaped s) (p) : Shaped (hubHandOver p s) := by
  refine shaped_forAll _ _ (fun e t ht => ?_) (by simp [hs])
  split <;> simp [ht]
@[simp] theorem shaped_opHubRxWindowClose (hs : Shaped s) (d) : Shaped (opHubRxWindowClose d s) := by
  unfold opHubRxWindowClose; split <;> simp [hs]
@[simp] theorem shaped_hubBoundary : Shaped (hubBoundary s) ↔ Shaped s := by simp [hubBoundary]
@[simp] theorem shaped_hubGrace (within) : Shaped (hubGrace within s) ↔ Shaped s := by simp [hubGrace]
@[simp] theorem shaped_opGuardianGraceEnd : Shaped (opGuardianGraceEnd s) ↔ Shaped s := by simp [opGuardianGraceEnd]
@[simp] theorem shaped_opPortReopen (hs : Shaped s) (p) : Shaped (opPortReopen p s) := by simp [opPortReopen, hs]
@[simp] theorem shaped_portSetEn (hs : Shaped s) (p v) : Shaped (portSetEn p v s) := by
  simp only [portSetEn]; split
  · exact shaped_hubLost (by simp [hs]) p
  · simp [hs]
@[simp] theorem shaped_opHubPortEnableWrite (hs : Shaped s) (init p v) : Shaped (opHubPortEnableWrite init p v s) := by
  simp [opHubPortEnableWrite, hs]
@[simp] theorem shaped_hubStart (hs : Shaped s) : Shaped (hubStart s) := by
  simp +contextual [hubStart, hs]
@[simp] theorem shaped_opHubLinkChange (hs : Shaped s) (p up) : Shaped (opHubLinkChange p up s) := by
  simp [opHubLinkChange, hs]
@[simp] theorem shaped_hubHalt (hs : Shaped s) (code) : Shaped (hubHalt code s) := by simp [hubHalt, hs]

/-! #### The train fabric (11) -/

@[simp] theorem shaped_raiseNoAddr (hs : Shaped s) (index) : Shaped (raiseNoAddr index s) := by simp [raiseNoAddr, hs]
@[simp] theorem shaped_buildList (hs : Shaped s) : Shaped (buildList s) := by
  simp only [buildList]; (repeat' split) <;> simp [hs]
@[simp] theorem shaped_dropSession (ses) : Shaped (dropSession ses s) ↔ Shaped s := by simp [dropSession]
@[simp] theorem shaped_dropStream (hs : Shaped s) (x code reset) : Shaped (dropStream x code reset s) := by
  simp only [dropStream]; (repeat' split) <;> simp [hs]
@[simp] theorem shaped_pushMsg (m) : Shaped (pushMsg m s) ↔ Shaped s := by simp [pushMsg]
@[simp] theorem shaped_pushClose (x reason) : Shaped (pushClose x reason s) ↔ Shaped s := by simp [pushClose]
@[simp] theorem shaped_streamsReinaug (hs : Shaped s) (send) : Shaped (streamsReinaug send s) := by
  simp +contextual [streamsReinaug, hs]
@[simp] theorem shaped_mapDrop (hs : Shaped s) : Shaped (mapDrop s) := by simp [mapDrop, hs]
@[simp] theorem shaped_mapTake (hs : Shaped s) (num org l) : Shaped (mapTake num org l s) := by
  refine shaped_kernelRemapped ?_
  have h : ∀ {t}, Shaped t → ∀ a b c, Shaped (event 0x2537 a b c (streamsReinaug true t)) :=
    fun ht a b c => shaped_event (shaped_streamsReinaug ht true) ..
  split <;> simp [h, hs]
@[simp] theorem shaped_fabHeader (hs : Shaped s) (inaug origin far) : Shaped (fabHeader inaug origin far s) := by
  simp [fabHeader, hs]
@[simp] theorem shaped_fabAdopt : Shaped (fabAdopt s) ↔ Shaped s := by simp [fabAdopt]
@[simp] theorem shaped_fabCommit : Shaped (fabCommit s) ↔ Shaped s := by simp [fabCommit]
@[simp] theorem shaped_fabSent : Shaped (fabSent s) ↔ Shaped s := by simp [fabSent]
@[simp] theorem shaped_loseOrigin : Shaped (loseOrigin s) ↔ Shaped s := by simp [loseOrigin]
@[simp] theorem shaped_opOriginYield : Shaped (opOriginYield s) ↔ Shaped s := by simp [opOriginYield]
@[simp] theorem shaped_yieldEnd (hs : Shaped s) : Shaped (yieldEnd s) := by simp [yieldEnd, hs]
@[simp] theorem shaped_fabBoundary (hs : Shaped s) : Shaped (fabBoundary s) := by
  unfold fabBoundary; split <;> simp [hs]
@[simp] theorem shaped_slotPayload (ch r) : Shaped (slotPayload ch r s).2 ↔ Shaped s := by
  unfold slotPayload; (repeat' split) <;> simp
@[simp] theorem shaped_modStream (x f) : Shaped (modStream x f s) ↔ Shaped s := by simp [modStream]
@[simp] theorem shaped_withMsg (hs : Shaped s) (p : List Byte → Bool) (f : State → State) (hf : ∀ t, Shaped t → Shaped (f t)) :
    Shaped (withMsg p f s) := by
  unfold withMsg; split <;> simp [hf, hs]
@[simp] theorem shaped_takeOpen (src dst stream) : Shaped (takeOpen src dst stream s) ↔ Shaped s := by simp [takeOpen]
@[simp] theorem shaped_opOpenMsg (hs : Shaped s) (src dst stream) : Shaped (opOpenMsg src dst stream s) := by
  simp [opOpenMsg, hs]
@[simp] theorem shaped_takeData (src dst stream offset ack bytes) :
    Shaped (takeData src dst stream offset ack bytes s) ↔ Shaped s := by
  unfold takeData; (repeat' split) <;> simp
@[simp] theorem shaped_opDataMsg (hs : Shaped s) (src dst stream offset ack bytes) :
    Shaped (opDataMsg src dst stream offset ack bytes s) := by
  simp [opDataMsg, hs]
@[simp] theorem shaped_takeClose (hs : Shaped s) (src dst stream reason) : Shaped (takeClose src dst stream reason s) := by
  unfold takeClose; (repeat' split) <;> simp [hs]
@[simp] theorem shaped_opCloseMsg (hs : Shaped s) (src dst stream reason) :
    Shaped (opCloseMsg src dst stream reason s) := by
  simp +contextual [opCloseMsg, hs]
@[simp] theorem shaped_opRelayConnect (port) : Shaped (opRelayConnect port s) ↔ Shaped s := by simp [opRelayConnect]
@[simp] theorem shaped_opStreamResend (peer stream) : Shaped (opStreamResend peer stream s) ↔ Shaped s := by
  unfold opStreamResend; (repeat' split) <;> simp
@[simp] theorem shaped_opStreamAckTimeout (hs : Shaped s) (peer stream) : Shaped (opStreamAckTimeout peer stream s) := by
  unfold opStreamAckTimeout; split <;> simp [hs]
@[simp] theorem shaped_opStreamIdleTimeout (hs : Shaped s) (peer stream) : Shaped (opStreamIdleTimeout peer stream s) := by
  unfold opStreamIdleTimeout; split <;> simp [hs]
@[simp] theorem shaped_streamPush (gw num b) : Shaped (streamPush gw num b s) ↔ Shaped s := by
  unfold streamPush; (repeat' split) <;> simp
@[simp] theorem shaped_relayData (port num b) : Shaped (relayData port num b s) ↔ Shaped s := by
  unfold relayData; (repeat' split) <;> simp
@[simp] theorem shaped_relayClose (hs : Shaped s) (port num) : Shaped (relayClose port num s) := by
  unfold relayClose; split <;> simp [hs]

/-! #### The Sheaf image (02) -/

@[simp] theorem shaped_setMark (hs : Shaped s) (c o) : Shaped (setMark c o s) := by simp [setMark, hs]

/-! #### The scheduler (06) -/

@[simp] theorem shaped_modTask (i f) : Shaped (modTask i f s) ↔ Shaped s := by simp [modTask]
@[simp] theorem shaped_modDisp (t p f) : Shaped (modDisp t p f s) ↔ Shaped s := by simp [modDisp]
@[simp] theorem shaped_account (hs : Shaped s) (t) : Shaped (account t s) := by simp [account, hs]
@[simp] theorem shaped_regate (t) : Shaped (regate t s) ↔ Shaped s := by simp [regate]
@[simp] theorem shaped_dispatch (hs : Shaped s) (t p) : Shaped (dispatch t p s) := by simp [dispatch, hs]
@[simp] theorem shaped_resched (hs : Shaped s) (t) : Shaped (resched t s) := by
  simp +contextual [resched, hs]
@[simp] theorem shaped_reschedAll (hs : Shaped s) : Shaped (reschedAll s) := by
  simp +contextual [reschedAll, hs]
@[simp] theorem shaped_missFault (hs : Shaped s) (task) : Shaped (missFault task s) := by simp [missFault, hs]
@[simp] theorem shaped_missOf (hs : Shaped s) (i) : Shaped (missOf i s) := by
  unfold missOf; (repeat' split) <;> simp [hs]
@[simp] theorem shaped_missReact (hs : Shaped s) (i) : Shaped (missReact i s) := by
  simp only [missReact]; (repeat' split) <;> simp [hs]
@[simp] theorem shaped_missHalted (hs : Shaped s) (t) : Shaped (missHalted t s) := by
  simp +contextual [missHalted, hs]
@[simp] theorem shaped_skipRelease (t) : Shaped (skipRelease t s) ↔ Shaped s := by simp [skipRelease]
@[simp] theorem shaped_opTaskRelease (hs : Shaped s) (i) : Shaped (opTaskRelease i s) := by
  unfold opTaskRelease; split <;> simp [hs]
@[simp] theorem shaped_opDispatchTake (hs : Shaped s) (init t p v) : Shaped (opDispatchTake init t p v s) := by
  simp [opDispatchTake, hs]
@[simp] theorem shaped_opJobDone (hs : Shaped s) (init t p v) : Shaped (opJobDone init t p v s) := by
  have h := shaped_account hs t
  simp only [opJobDone]; split
  · split
    · refine shaped_resched ?_ t
      rw [shaped_modTask]
      (repeat' split) <;> simp [h]
    · exact hs
  · exact hs
@[simp] theorem shaped_opDeadlineMiss (hs : Shaped s) (i) : Shaped (opDeadlineMiss i s) := by
  unfold opDeadlineMiss; (repeat' split) <;> simp [hs]
@[simp] theorem shaped_opBudgetOverrun (hs : Shaped s) (i) : Shaped (opBudgetOverrun i s) := by
  simp only [opBudgetOverrun]; (repeat' split) <;> simp [hs]
@[simp] theorem shaped_applyLevel (hs : Shaped s) (cause) : Shaped (applyLevel cause s) := by simp [applyLevel, hs]
@[simp] theorem shaped_energySample (hs : Shaped s) : Shaped (energySample s) := by simp [energySample, hs]
@[simp] theorem shaped_opSensorSample (hs : Shaped s) (q) : Shaped (opSensorSample q s) := by
  unfold opSensorSample
  split
  · exact hs
  · refine shaped_applyLevel ?_ 1
    have h : ∀ f : Nat → Int → State → State, (∀ i x t, Shaped t → Shaped (f i x t)) →
        Shaped (forIdx 0 q f { s with sch := { s.sch with temp := q, sampled := true } }) :=
      fun f hf => shaped_forIdx 0 q f hf (by simp [hs])
    simp only [shaped_mk, shaped_eta]
    split
    · refine shaped_enterSafe (shaped_event ?_ ..) _
      simp only [shaped_errSch, shaped_mk, shaped_eta]
      exact h _ fun i x t ht => by split <;> simp [ht]
    · simp only [shaped_mk, shaped_eta]
      exact h _ fun i x t ht => by split <;> simp [ht]
@[simp] theorem shaped_opShedEnd (hs : Shaped s) (cause) : Shaped (opShedEnd cause s) := by
  unfold opShedEnd; split <;> simp [hs]

/-! #### Triads: the base (03) -/

@[simp] theorem shaped_raiseTriad (hs : Shaped s) (bit code cause t window d0 d1) :
    Shaped (raiseTriad bit code cause t window d0 d1 s) := by
  simp [raiseTriad, hs]
@[simp] theorem shaped_raiseCore (hs : Shaped s) (bit code cause core pos t window d0 d1) :
    Shaped (raiseCore bit code cause core pos t window d0 d1 s) := by
  simp [raiseCore, hs]
@[simp] theorem shaped_startCore (n entry role t p) : Shaped (startCore n entry role t p s) ↔ Shaped s := by
  simp [startCore]
@[simp] theorem shaped_votingWith (hs : Shaped s) (t ps) : Shaped (modTri t (fun x => x.votingWith ps) s) :=
  shaped_modTri_of hs t fun x h => by simp_all [Triad.votingWith, Triad.emptied]
@[simp] theorem shaped_startVoting (hs : Shaped s) (t ps) : Shaped (startVoting t ps s) := by
  simp [startVoting, hs]
@[simp] theorem shaped_startSplitCore (t a0 p) : Shaped (startSplitCore t a0 p s) ↔ Shaped s := by simp [startSplitCore]
@[simp] theorem shaped_startSplit (hs : Shaped s) (t) : Shaped (startSplit t s) := by
  refine shaped_forAll _ _ (fun p u hu => by simp [hu]) (shaped_modTri_of hs t fun x h => ?_)
  simp_all [Triad.emptied]
@[simp] theorem shaped_claimReserve (t) : Shaped (claimReserve t s) ↔ Shaped s := by
  unfold claimReserve; (repeat' split) <;> simp
@[simp] theorem shaped_joinCore (t p n) : Shaped (joinCore t p n s) ↔ Shaped s := by simp [joinCore]

/-! #### The supply supervisor, the always-on domain and the quench (07, 08) -/

@[simp] theorem shaped_raiseSup (hs : Shaped s) (bit code detail value) : Shaped (raiseSup bit code detail value s) := by
  simp [raiseSup, hs]
@[simp] theorem shaped_episodeNow (code) : Shaped (episodeNow code s) ↔ Shaped s := by simp [episodeNow]
@[simp] theorem shaped_raiseSupEpisode (hs : Shaped s) (bit code detail value info) :
    Shaped (raiseSupEpisode bit code detail value info s) := by
  simp [raiseSupEpisode, hs]
@[simp] theorem shaped_writeQuenchBlock (hs : Shaped s) (us) : Shaped (writeQuenchBlock us s) := by
  simp [writeQuenchBlock, hs]
@[simp] theorem shaped_opQuenchDone (hs : Shaped s) (us) : Shaped (opQuenchDone us s) := by
  unfold opQuenchDone; split
  · exact shaped_dieReset (shaped_writeQuenchBlock (shaped_lifeFlush (shaped_flushQueue hs true)) us) 1 true none
  · exact hs

theorem shaped_incrTake (hs : Shaped s) (n : Nat) : Shaped { s with grn := { s.grn with incr := s.grn.incr.take n } } := hs

@[simp] theorem shaped_opQuenchGuardExpiry (hs : Shaped s) : Shaped (opQuenchGuardExpiry s) := by
  unfold opQuenchGuardExpiry
  split
  · extract_lets k s₁ s₂ n g s₃
    have h₂ : Shaped s₂ := by
      simp only [s₂]; split
      · exact shaped_forAll _ _ (fun k t ht => shaped_writeFront ht true) (by simp [s₁, hs])
      · simp [s₁, hs]
    have h₃ : Shaped s₃ := shaped_incrTake h₂ n
    exact shaped_dieReset (shaped_lifeFlush (by simp [h₃])) 3 false none
  · exact hs
@[simp] theorem shaped_opRailFaultTimeout (hs : Shaped s) : Shaped (opRailFaultTimeout s) := by
  simp [opRailFaultTimeout, hs]
@[simp] theorem shaped_disconnect (hs : Shaped s) (high) : Shaped (disconnect high s) := by simp [disconnect, hs]
@[simp] theorem shaped_inputSampled (hs : Shaped s) : Shaped (inputSampled s) := by simp [inputSampled, hs]
@[simp] theorem shaped_opFluctuationTimeout (hs : Shaped s) : Shaped (opFluctuationTimeout s) := by
  simp [opFluctuationTimeout, hs]
@[simp] theorem shaped_opSurgeTimeout (hs : Shaped s) : Shaped (opSurgeTimeout s) := by simp [opSurgeTimeout, hs]
@[simp] theorem shaped_opInputReconnect : Shaped (opInputReconnect s) ↔ Shaped s := by simp [opInputReconnect]
@[simp] theorem shaped_windowSampled (hs : Shaped s) : Shaped (windowSampled s) := by simp [windowSampled, hs]
@[simp] theorem shaped_lplusSampled (hs : Shaped s) : Shaped (lplusSampled s) := by simp [lplusSampled, hs]
@[simp] theorem shaped_railFault (hs : Shaped s) (r) : Shaped (railFault r s) := by simp [railFault, hs]
@[simp] theorem shaped_railSampled (hs : Shaped s) (rails) : Shaped (railSampled rails s) := by
  simp +contextual [railSampled, hs]
@[simp] theorem shaped_raiseWarn (hs : Shaped s) : Shaped (raiseWarn s) := by simp [raiseWarn, hs]
@[simp] theorem shaped_braceEntry (hs : Shaped s) : Shaped (braceEntry s) :=
  shaped_irqAll (shaped_lifeFlush (shaped_flushQueue (shaped_hoursCopy (by simp [hs])) false)) _
@[simp] theorem shaped_braceDip (hs : Shaped s) : Shaped (braceDip s) := by simp [braceDip, hs]
@[simp] theorem shaped_warnOnly (hs : Shaped s) : Shaped (warnOnly s) :=
  shaped_flushQueue (shaped_hoursCopyWhole (by simp [hs])) false
@[simp] theorem shaped_warnFall (hs : Shaped s) : Shaped (warnFall s) := by
  unfold warnFall; split <;> simp [hs]
@[simp] theorem shaped_warnFallDeep (hs : Shaped s) : Shaped (warnFallDeep s) := by
  unfold warnFallDeep; split <;> simp [hs]
@[simp] theorem shaped_quenchStore (hs : Shaped s) (t st) : Shaped (quenchStore t st s) := by
  unfold quenchStore; (repeat' split) <;> simp +contextual [hs]
@[simp] theorem shaped_quenchRelease (hs : Shaped s) : Shaped (quenchRelease s) :=
  shaped_forAll _ _ (fun t _ hu =>
    shaped_forAll _ _ (fun _ _ hv => shaped_forAll _ _ (fun st _ hx => shaped_quenchStore hx t st) hv) hu) hs
@[simp] theorem shaped_resetRequest (hs : Shaped s) : Shaped (resetRequest s) := by
  unfold resetRequest
  exact shaped_haltAll (shaped_quenchRelease (by simp [hs]))
@[simp] theorem shaped_busSampled (hs : Shaped s) (old) : Shaped (busSampled old s) := by simp [busSampled, hs]
@[simp] theorem shaped_readPins (hs : Shaped s) : Shaped (readPins s) := by simp [readPins, hs]
@[simp] theorem shaped_opSupplySample (hs : Shaped s) (vin vbus lplus rails) :
    Shaped (opSupplySample vin vbus lplus rails s) := by
  unfold opSupplySample
  split
  · exact hs
  extract_lets s₁ old e sch sup s₂ s₃ s₄
  have h₂ : Shaped s₂ := by simp only [s₂, sch, s₁]; split <;> simp [hs]
  clear_value s₂
  split
  · exact shaped_dieReset h₂ 2 false none
  have h₃ : Shaped s₃ := shaped_railSampled (shaped_lplusSampled (shaped_windowSampled (shaped_inputSampled h₂))) rails
  have h₄ : Shaped s₄ := shaped_busSampled h₃ old
  split
  · exact shaped_energySample h₄
  · exact h₄
@[simp] theorem shaped_opBraceDwellEnd (hs : Shaped s) : Shaped (opBraceDwellEnd s) := by simp [opBraceDwellEnd, hs]
@[simp] theorem shaped_opPowerOn (hs : Shaped s) (coding) : Shaped (opPowerOn coding s) := by simp [opPowerOn, hs]
@[simp] theorem shaped_opCapacitanceMeasurement (hs : Shaped s) (ua us) : Shaped (opCapacitanceMeasurement ua us s) := by
  simp [opCapacitanceMeasurement, hs]
@[simp] theorem shaped_opSupervisorRelease (hs : Shaped s) (oscOk) : Shaped (opSupervisorRelease oscOk s) := by
  simp +contextual [opSupervisorRelease, hs]
@[simp] theorem shaped_opLogicSupplyLost (hs : Shaped s) : Shaped (opLogicSupplyLost s) := by simp [opLogicSupplyLost, hs]
@[simp] theorem shaped_opLampTestEnd : Shaped (opLampTestEnd s) ↔ Shaped s := by simp [opLampTestEnd]
@[simp] theorem shaped_opCellMeasurement (hs : Shaped s) (mv) : Shaped (opCellMeasurement mv s) := by
  simp [opCellMeasurement, hs]
@[simp] theorem shaped_opAonSnap (_init v) : Shaped (opAonSnap _init v s) ↔ Shaped s := by simp [opAonSnap]
@[simp] theorem shaped_opAonSnapDone : Shaped (opAonSnapDone s) ↔ Shaped s := by simp [opAonSnapDone]
@[simp] theorem shaped_opAonRtcSet (hs : Shaped s) (init v) : Shaped (opAonRtcSet init v s) := by simp [opAonRtcSet, hs]
@[simp] theorem shaped_opErrorEpisodeEnd (e) : Shaped (opErrorEpisodeEnd e s) ↔ Shaped s := by
  unfold opErrorEpisodeEnd; (repeat' split) <;> simp

/-! #### Thresh (18) -/

@[simp] theorem shaped_raiseThr (hs : Shaped s) (bit code detail info d0 d1) :
    Shaped (raiseThr bit code detail info d0 d1 s) := by
  simp [raiseThr, hs]
@[simp] theorem shaped_thrJoin (f o startup) : Shaped (thrJoin f o startup s) ↔ Shaped s := by simp [thrJoin]
@[simp] theorem shaped_zeroUnit (hs : Shaped s) (startup u) : Shaped (zeroUnit startup u s) := by
  unfold zeroUnit
  split
  · simp [hs]
  split
  · exact shaped_modTri_of hs _ fun x h => by simp_all
  split
  · split <;> simp [hs]
  · simp [hs]
@[simp] theorem shaped_holdLanes (hs : Shaped s) : Shaped (holdLanes s) := by
  simp [holdLanes, hs, hs.awnLive.le]
@[simp] theorem shaped_bankRecords (hs : Shaped s) (f b) : Shaped (bankRecords f b s) := by
  have h := shaped_forAll (f.reps.filter (fun e => decide (e.1 = b))) _
    (fun e t ht => shaped_flushQueue (shaped_raiseThr ht 3 0x2E04 b (thrInfo 3 b (b / 32) 0) (w32 e.2.1) (w32 e.2.2)) false) hs
  unfold bankRecords; split <;> simp [h]
@[simp] theorem shaped_unitRecords (hs : Shaped s) (f u) : Shaped (unitRecords f u s) := by
  have one : ∀ bit code i d0 d1 {t}, Shaped t → Shaped (flushQueue false (raiseThr bit code u i d0 d1 t)) :=
    fun bit code i d0 d1 t ht => shaped_flushQueue (shaped_raiseThr ht ..) false
  unfold unitRecords
  extract_lets f s₁ s₂
  have h₁ : Shaped s₁ := by simp only [s₁]; split <;> simp [one, f, hs]
  have h₂ : Shaped s₂ := by simp only [s₂]; split <;> simp [one, f, h₁]
  (repeat' split) <;> simp [one, f, h₂]
@[simp] theorem shaped_threshRecords (hs : Shaped s) (f o startup) : Shaped (threshRecords f o startup s) :=
  shaped_flushQueue (shaped_event (shaped_forAll _ _ (fun u _ ht => shaped_unitRecords ht f u)
    (shaped_forAll _ _ (fun b _ ht => shaped_bankRecords ht f b) hs)) ..) false
@[simp] theorem shaped_writeVerdict (hs : Shaped s) (failed startup) : Shaped (writeVerdict failed startup s) := by
  simp [writeVerdict, hs]
@[simp] theorem shaped_opVerdictApply (hs : Shaped s) : Shaped (opVerdictApply s) := by
  have h := shaped_mramProbe (shaped_mramProbe hs (verdictOff 0) 0x4000) (verdictOff 1) 0x4000
  unfold opVerdictApply
  split
  · extract_lets s₁ slot b cause thr u s₂ core mod s₃
    have h₂ : Shaped s₂ := by
      have h₁ : Shaped s₁ := h
      clear_value s₁ b
      unfold s₂; split <;> simp [thr, u, h₁]
    have h₃ : Shaped s₃ := by simpa [s₃, mod] using h₂
    split
    · exact h₃
    · exact shaped_raiseThr h₃ ..
  · exact hs
@[simp] theorem shaped_zeroise (hs : Shaped s) : Shaped (zeroise s) := by simp [zeroise, hs]
@[simp] theorem shaped_threshVerdict (hs : Shaped s) (o startup) : Shaped (threshVerdict o startup s) := by
  have h := shaped_forAll (testedUnits s) _ (fun u t ht => shaped_zeroUnit ht startup u) hs
  exact shaped_lifeFlush (shaped_writeVerdict (shaped_threshRecords (by simp [h]) ..) ..)
@[simp] theorem shaped_opStartupBist (hs : Shaped s) (o) : Shaped (opStartupBist o s) := by
  have h := shaped_threshVerdict (shaped_zeroise hs) o true
  simp only [opStartupBist]; (repeat' split) <;> simp [h, hs]
@[simp] theorem shaped_opThreshRun (hs : Shaped s) (o) : Shaped (opThreshRun o s) := by simp [opThreshRun, hs]
@[simp] theorem shaped_opThreshRunDone (hs : Shaped s) : Shaped (opThreshRunDone s) := by
  unfold opThreshRunDone; split <;> simp [hs]

/-! #### BOOT (02, 20) -/

@[simp] theorem shaped_rejectCopy (hs : Shaped s) (c k) : Shaped (rejectCopy c k s) := by simp [rejectCopy, hs]
@[simp] theorem shaped_enterRecovery (hs : Shaped s) : Shaped (enterRecovery s) := by simp [enterRecovery, hs]
@[simp] theorem shaped_opBootSecuritySelftest (hs : Shaped s) (fail) : Shaped (opBootSecuritySelftest fail s) := by
  unfold opBootSecuritySelftest; (repeat' split) <;> simp +contextual [hs]
@[simp] theorem shaped_opDramClear : Shaped (opDramClear s) ↔ Shaped s := by simp [opDramClear]
@[simp] theorem shaped_dropFailed (hs : Shaped s) (c) : Shaped (dropFailed c s) := by simp [dropFailed, hs]
@[simp] theorem shaped_opImageSelect (hs : Shaped s) : Shaped (opImageSelect s) := by
  have h := shaped_dropFailed (shaped_dropFailed hs false) true
  simp only [opImageSelect]; (repeat' split) <;> simp [h, hs]
@[simp] theorem shaped_acceptCopy (hs : Shaped s) (c) : Shaped (acceptCopy c s) := by simp [acceptCopy, hs]
@[simp] theorem shaped_opImageCheck (hs : Shaped s) (c) : Shaped (opImageCheck c s) := by
  unfold opImageCheck
  split
  · split
    · extract_lets k s₁ mod s₂
      have h₁ : Shaped s₁ := by simp only [s₁]; split <;> simp [hs]
      have h₂ : Shaped s₂ := shaped_rejectCopy (by simpa using h₁) c k
      (repeat' split) <;> simp [h₂, hs]
    · exact hs
  · exact hs
@[simp] theorem shaped_opCounterRaise (hs : Shaped s) : Shaped (opCounterRaise s) := by
  unfold opCounterRaise; split <;> simp [hs]
@[simp] theorem shaped_fillPosition (t p) : Shaped (fillPosition t p s) ↔ Shaped s := by
  unfold fillPosition; (repeat' split) <;> simp
@[simp] theorem shaped_assignRoles (hs : Shaped s) : Shaped (assignRoles s) := by
  refine shaped_forAll _ _ (fun t u hu => shaped_forAll _ _ (fun p v hv => by simp [hv]) hu) ?_
  refine shaped_forAll _ _ (fun r u hu => by simp [hu]) ?_
  simp_all [Shaped, PartUnits]
@[simp] theorem shaped_assignTriads (hs : Shaped s) (b) : Shaped (assignTriads b s) := by
  unfold assignTriads
  refine shaped_assignRoles (shaped_forAll _ _ (fun t u hu =>
    shaped_forAll _ _ (fun p v hv => (shaped_fillPosition ..).2 hv) hu) ?_)
  obtain ⟨hcounts, -, hscheds⟩ := hs
  refine ⟨by simp_all, (map_eq_replicate_iff _ _ _ _).2 ⟨by simp, fun x hx => ?_⟩, hscheds⟩
  obtain ⟨t, -, rfl⟩ := List.mem_map.1 hx
  simp
@[simp] theorem shaped_lkPutAll (hs : Shaped s) (l) : Shaped (lkPutAll l s) := by simp +contextual [lkPutAll, hs]
@[simp] theorem shaped_clearPart (x) : Shaped (clearPart x s) ↔ Shaped s := by simp [clearPart]
@[simp] theorem shaped_loadCoreImage (hs : Shaped s) (p i) : Shaped (loadCoreImage p i s) := by
  unfold loadCoreImage; split <;> simp [hs]
@[simp] theorem shaped_hoursRestore (hs : Shaped s) : Shaped (hoursRestore s) := by
  have h := shaped_probeSlots hs 0
  simp only [hoursRestore]; (repeat' split) <;> simp [h]
@[simp] theorem shaped_loadQuench (hs : Shaped s) : Shaped (loadQuench s) := by simp [loadQuench, hs]
@[simp] theorem shaped_bootRegisters (c) : Shaped (bootRegisters c s) ↔ Shaped s := by simp [bootRegisters]
@[simp] theorem shaped_loadSections (hs : Shaped s) (h p) : Shaped (loadSections h p s) := by
  simp only [loadSections]; (repeat' split) <;> simp [hs]
@[simp] theorem shaped_opLoadAndLock (hs : Shaped s) : Shaped (opLoadAndLock s) := by
  unfold opLoadAndLock
  split
  · exact hs
  split
  · split
    · exact hs
    next p _ =>
      have h₁ := shaped_lkPutAll (shaped_assignTriads hs (pay p 1 0)) fixedRegions
      have h₂ := shaped_forAll (parseParts (pay p 2 0)) _ (fun x t ht => (shaped_clearPart x).2 ht) h₁
      have h₃ := shaped_forAll (List.range 24) _ (fun i t ht => shaped_loadCoreImage ht p i) h₂
      refine shaped_loadQuench (shaped_hoursRestore ?_)
      simp [h₃]
  · exact hs
@[simp] theorem shaped_opProtLock (init v) : Shaped (opProtLock init v s) ↔ Shaped s := by simp [opProtLock]

/-! #### CAN (15) -/

@[simp] theorem shaped_modCan (n f) : Shaped (modCan n f s) ↔ Shaped s := by simp [modCan]
@[simp] theorem shaped_modCanObj (n k f) : Shaped (modCanObj n k f s) ↔ Shaped s := by simp [modCanObj]
@[simp] theorem shaped_raiseCan (hs : Shaped s) (n bit code d0 d1) : Shaped (raiseCan n bit code d0 d1 s) := by
  simp [raiseCan, hs]
@[simp] theorem shaped_raiseCanRate (hs : Shaped s) (n bit code obj kind d1) :
    Shaped (raiseCanRate n bit code obj kind d1 s) := by
  simp [raiseCanRate, hs]
@[simp] theorem shaped_raiseRefLost (hs : Shaped s) (n) : Shaped (raiseRefLost n s) := by simp [raiseRefLost, hs]
@[simp] theorem shaped_canMayStart (n) : Shaped (canMayStart n s) ↔ Shaped s := by
  unfold canMayStart; (repeat' split) <;> simp
@[simp] theorem shaped_itemEnd (n k outcome) : Shaped (itemEnd n k outcome s) ↔ Shaped s := by simp [itemEnd]
@[simp] theorem shaped_refAbort (hs : Shaped s) (n) : Shaped (refAbort n s) := by
  unfold refAbort; split <;> simp [hs]
@[simp] theorem shaped_canAbortAll (hs : Shaped s) (n outcome) : Shaped (canAbortAll n outcome s) := by
  simp [canAbortAll, hs]
@[simp] theorem shaped_canRequest (n k) : Shaped (canRequest n k s) ↔ Shaped s := by simp [canRequest]
@[simp] theorem shaped_opTxReq (init n k) : Shaped (opTxReq init n k s) ↔ Shaped s := by simp [opTxReq]
@[simp] theorem shaped_canDataWrite (init n k o bs) : Shaped (canDataWrite init n k o bs s) ↔ Shaped s := by
  simp [canDataWrite]
@[simp] theorem shaped_canCommit (n k bs) : Shaped (canCommit n k bs s) ↔ Shaped s := by simp [canCommit]
@[simp] theorem shaped_canBusOff (hs : Shaped s) (n) : Shaped (canBusOff n s) :=
  shaped_canLost (shaped_canAbortAll (shaped_raiseCan (by simp [hs]) ..) ..) ..
@[simp] theorem shaped_canLeave (hs : Shaped s) (n outcome) : Shaped (canLeave n outcome s) := by simp [canLeave, hs]
@[simp] theorem shaped_canRejoin (n) : Shaped (canRejoin n s) ↔ Shaped s := by simp [canRejoin]
@[simp] theorem shaped_canTdc (hs : Shaped s) (n d) : Shaped (canTdc n d s) := by simp [canTdc, hs]
@[simp] theorem shaped_canLoop (hs : Shaped s) (n k loop) : Shaped (canLoop n k loop s) := by
  unfold canLoop; split <;> simp [hs]
@[simp] theorem shaped_canSent (hs : Shaped s) (n k sof loop) : Shaped (canSent n k sof loop s) := by simp [canSent, hs]
@[simp] theorem shaped_canFailed (hs : Shaped s) (n k error) : Shaped (canFailed n k error s) := by simp [canFailed, hs]
@[simp] theorem shaped_canCounted (hs : Shaped s) (n tec rec) : Shaped (canCounted n tec rec s) := by simp [canCounted, hs]
@[simp] theorem shaped_opCanTxAttemptEnd (hs : Shaped s) (n e) : Shaped (opCanTxAttemptEnd n e s) := by
  simp only [opCanTxAttemptEnd]
  split
  · exact hs
  split
  · exact hs
  split
  · exact shaped_canSent hs ..
  · exact shaped_canFailed hs ..
  · exact shaped_canCounted (shaped_canFailed (shaped_raiseCanRate (shaped_canLoop hs ..) ..) ..) ..
@[simp] theorem shaped_opCanSendDeadline (hs : Shaped s) (n) : Shaped (opCanSendDeadline n s) := by
  have h := (shaped_canMayStart n).2 hs
  have hf : Shaped (forAll (canPending (canMayStart n s) n) (fun k t =>
      if (t.canObj n k).since = cycleMark s then t
      else if (t.can n).onBus = some k then modCanObj n k (fun (o : CanObj) => { o with last := true }) t
      else raiseCanRate n 4 0x2A05 k 0 0 (itemEnd n k 2 t)) (canMayStart n s)) :=
    shaped_forAll _ _ (fun k t ht => by (repeat' split) <;> simp [ht]) h
  unfold opCanSendDeadline
  extract_lets now s₁ s₂
  have h₂ : Shaped s₂ := hf
  clear_value s₂
  (repeat' split) <;> simp [h₂]
@[simp] theorem shaped_objStore (hs : Shaped s) (n k f) : Shaped (objStore n k f s) := by simp [objStore, hs]
@[simp] theorem shaped_refReceived (n f) : Shaped (refReceived n f s) ↔ Shaped s := by simp [refReceived]
@[simp] theorem shaped_canReceived (hs : Shaped s) (n f) : Shaped (canReceived n f s) := by
  simp only [canReceived]; (repeat' split) <;> simp [hs]
@[simp] theorem shaped_opCanFrameReceive (hs : Shaped s) (n r) : Shaped (opCanFrameReceive n r s) := by
  unfold opCanFrameReceive; (repeat' split) <;> simp [hs]
@[simp] theorem shaped_objStatTake (n k) : Shaped (objStatTake n k s) ↔ Shaped s := by simp [objStatTake]
@[simp] theorem shaped_opObjStatRead (init n k) : Shaped (opObjStatRead init n k s) ↔ Shaped s := by simp [opObjStatRead]
@[simp] theorem shaped_opCanEnableWrite (hs : Shaped s) (n v) : Shaped (opCanEnableWrite n v s) := by
  simp [opCanEnableWrite, hs]
@[simp] theorem shaped_canDrainDone (n) : Shaped (canDrainDone n s) ↔ Shaped s := by simp [canDrainDone]
@[simp] theorem shaped_opCanObjectEnableWrite (hs : Shaped s) (n k v) : Shaped (opCanObjectEnableWrite n k v s) := by
  simp [opCanObjectEnableWrite, hs]
@[simp] theorem shaped_objDrainDone (n k) : Shaped (objDrainDone n k s) ↔ Shaped s := by simp [objDrainDone]
@[simp] theorem shaped_opBusOffHoldEnd (n) : Shaped (opBusOffHoldEnd n s) ↔ Shaped s := by simp [opBusOffHoldEnd]
@[simp] theorem shaped_opRecover (n) : Shaped (opRecover n s) ↔ Shaped s := by simp [opRecover]
@[simp] theorem shaped_opCanRecoveryDone (n) : Shaped (opCanRecoveryDone n s) ↔ Shaped s := by simp [opCanRecoveryDone]
@[simp] theorem shaped_opCanBusIntegrated (n) : Shaped (opCanBusIntegrated n s) ↔ Shaped s := by simp [opCanBusIntegrated]
@[simp] theorem shaped_opReferenceSend (n) : Shaped (opReferenceSend n s) ↔ Shaped s := by simp [opReferenceSend]
@[simp] theorem shaped_opReferenceLost (hs : Shaped s) (n) : Shaped (opReferenceLost n s) := by simp [opReferenceLost, hs]
@[simp] theorem shaped_canBoundary (n) : Shaped (canBoundary n s) ↔ Shaped s := by simp [canBoundary]
@[simp] theorem shaped_canStart (hs : Shaped s) (n) : Shaped (canStart n s) := by
  simp +contextual [canStart, hs]

/-! #### The pair (12) -/

@[simp] theorem shaped_raisePair (hs : Shaped s) (bit code hub d0 d1) : Shaped (raisePair bit code hub d0 d1 s) := by
  simp [raisePair, hs]
@[simp] theorem shaped_setReign (hs : Shaped s) (r) : Shaped (setReign r s) := by simp [setReign, hs]
@[simp] theorem shaped_reignSeen (hs : Shaped s) (r) : Shaped (reignSeen r s) := by simp [reignSeen, hs]
@[simp] theorem shaped_partRead (hs : Shaped s) (b) : Shaped (partRead b s).2 := by simp [partRead, hs]
@[simp] theorem shaped_opPairTxSlot (hs : Shaped s) (buf) : Shaped (opPairTxSlot buf s) := by
  unfold opPairTxSlot; split <;> simp [hs]
@[simp] theorem shaped_shadowTry : Shaped (shadowTry s) ↔ Shaped s := by
  unfold shadowTry; (repeat' split) <;> simp
@[simp] theorem shaped_pairDropped : Shaped (pairDropped s) ↔ Shaped s := by simp [pairDropped]
@[simp] theorem shaped_opShadowFrameReceive (rx b) : Shaped (opShadowFrameReceive rx b s) ↔ Shaped s := by
  simp [opShadowFrameReceive]
@[simp] theorem shaped_startDraw : Shaped (startDraw s) ↔ Shaped s := by simp [startDraw]
@[simp] theorem shaped_settleRole (hs : Shaped s) (r) : Shaped (settleRole r s) := by simp [settleRole, hs]
@[simp] theorem shaped_pairFence (hs : Shaped s) (role partner hub) : Shaped (pairFence role partner hub s) := by
  simp [pairFence, hs]
@[simp] theorem shaped_fenceCheck (hs : Shaped s) (r hub) : Shaped (fenceCheck r hub s) := by simp [fenceCheck, hs]
@[simp] theorem shaped_reportActive (hs : Shaped s) (b) : Shaped (reportActive b s) := by simp [reportActive, hs]
@[simp] theorem shaped_reportStandby (b) : Shaped (reportStandby b s) ↔ Shaped s := by simp [reportStandby]
@[simp] theorem shaped_reportCandidate (own b) : Shaped (reportCandidate own b s) ↔ Shaped s := by simp [reportCandidate]
@[simp] theorem shaped_wrongPartner (hs : Shaped s) (b) : Shaped (wrongPartner b s) := by simp [wrongPartner, hs]
@[simp] theorem shaped_reportTaken (hs : Shaped s) (b) : Shaped (reportTaken b s) := by
  simp only [reportTaken]; (repeat' split) <;> simp [hs]
@[simp] theorem shaped_opPairReportReceive (hs : Shaped s) (rx b) : Shaped (opPairReportReceive rx b s) := by
  simp [opPairReportReceive, hs]
@[simp] theorem shaped_pairKernel (hs : Shaped s) (hub role reign) : Shaped (pairKernel hub role reign s) := by
  simp [pairKernel, hs]
@[simp] theorem shaped_opPilInChange (level) : Shaped (opPilInChange level s) ↔ Shaped s := by simp [opPilInChange]
@[simp] theorem shaped_opCandidateTimeout (hs : Shaped s) : Shaped (opCandidateTimeout s) := by
  simp [opCandidateTimeout, hs]
@[simp] theorem shaped_opCandidateDrawEnd (hs : Shaped s) : Shaped (opCandidateDrawEnd s) := by
  simp [opCandidateDrawEnd, hs]
@[simp] theorem shaped_loadShadow (hs : Shaped s) (x) : Shaped (loadShadow x s) := by
  simp +contextual [loadShadow, hs]
@[simp] theorem shaped_forceClear (hs : Shaped s) : Shaped (forceClear s) := by
  simp +contextual [forceClear, hs]
@[simp] theorem shaped_exchFail (hs : Shaped s) (why) : Shaped (exchFail why s) := by simp [exchFail, hs]
@[simp] theorem shaped_pairTakeover (hs : Shaped s) (cause b) : Shaped (pairTakeover cause b s) := by
  have h := shaped_setReign hs (Nat.max s.pair.reign s.pair.partnerReign + 1)
  unfold pairTakeover
  extract_lets r s₁ age s₂ s₃ s₄ pair
  have h₂ : Shaped s₂ := by simp only [s₂]; split <;> simp [s₁, r, h]
  have h₃ : Shaped s₃ := by simp only [s₃]; (repeat' split) <;> simp [h₂]
  have h₄ : Shaped s₄ := by simp only [s₄]; split <;> simp [h₃]
  clear_value s₄
  exact shaped_event (by simpa using h₄) ..
@[simp] theorem shaped_switchDone (hs : Shaped s) (b) : Shaped (switchDone b s) := by
  unfold switchDone
  extract_lets exch s₁ pair s₂ cyc awn
  have h₂ : Shaped s₂ := shaped_event (by simpa using shaped_pairTakeover hs 3 b) ..
  clear_value s₂
  split
  · exact shaped_forceClear (by simpa [cyc, awn] using h₂)
  · exact h₂
@[simp] theorem shaped_switchRefused (hs : Shaped s) (res) : Shaped (switchRefused res s) := by simp [switchRefused, hs]
@[simp] theorem shaped_switchDefer (hs : Shaped s) (b) : Shaped (switchDefer b s) := by simp [switchDefer, hs]
@[simp] theorem shaped_opPairSwitch (hs : Shaped s) (init v) : Shaped (opPairSwitch init v s) := by simp [opPairSwitch, hs]
@[simp] theorem shaped_switchOvertaken (hs : Shaped s) : Shaped (switchOvertaken s) := by simp [switchOvertaken, hs]
@[simp] theorem shaped_standbyBoundary (hs : Shaped s) (back b) : Shaped (standbyBoundary back b s) := by
  simp [standbyBoundary, hs]
@[simp] theorem shaped_activeBoundary (hs : Shaped s) (dual b) : Shaped (activeBoundary dual b s) := by
  simp [activeBoundary, hs]
@[simp] theorem shaped_candidateBoundary (hs : Shaped s) : Shaped (candidateBoundary s) := by
  unfold candidateBoundary; split <;> simp [hs]
@[simp] theorem shaped_pairFaults (hs : Shaped s) : Shaped (pairFaults s) := by simp [pairFaults, hs]
@[simp] theorem shaped_pairBoundary (hs : Shaped s) (b) : Shaped (pairBoundary b s) := by
  simp only [pairBoundary]; (repeat' split) <;> simp [hs]
@[simp] theorem shaped_opPairLinkLost (hs : Shaped s) : Shaped (opPairLinkLost s) := by simp [opPairLinkLost, hs]
@[simp] theorem shaped_pairPublished : Shaped (pairPublished s) ↔ Shaped s := by simp [pairPublished]
@[simp] theorem shaped_checkCount (hs : Shaped s) (ok) : Shaped (checkCount ok s) := by simp [checkCount, hs]
@[simp] theorem shaped_opCheckScan (hs : Shaped s) : Shaped (opCheckScan s) := by
  unfold opCheckScan; split <;> simp [hs]
@[simp] theorem shaped_pairStart (hs : Shaped s) : Shaped (pairStart s) := by
  have h := shaped_mramProbe (shaped_mramProbe hs 0x100 64) 0x140 64
  simp only [pairStart]; split
  · exact hs
  · simp only [shaped_mk, shaped_eta]; split <;> simp [h]

/-! #### The Vyfabin cycle (09, 10) -/

@[simp] theorem shaped_modCh (ch f) : Shaped (modCh ch f s) ↔ Shaped s := by simp [modCh]
@[simp] theorem shaped_modChs (f) : Shaped (modChs f s) ↔ Shaped s := by simp [modChs]
@[simp] theorem shaped_raiseVyf (hs : Shaped s) (bit code detail port d0 d1) :
    Shaped (raiseVyf bit code detail port d0 d1 s) := by
  simp [raiseVyf, hs]
@[simp] theorem shaped_nextBoundary : Shaped (nextBoundary s) ↔ Shaped s := by
  unfold nextBoundary; (repeat' split) <;> simp
@[simp] theorem shaped_pendFollow : Shaped (pendFollow s) ↔ Shaped s := by
  unfold pendFollow; (repeat' split) <;> simp

@[simp] theorem shaped_timeStep (hs : Shaped s) (d) : Shaped (timeStep d s) := by
  simp only [timeStep, shaped_hubGrace, shaped_modChs]
  split <;> simp [hs]
@[simp] theorem shaped_listen (extra) : Shaped (listen extra s) ↔ Shaped s := by simp [listen]
@[simp] theorem shaped_integrate (id cyc) : Shaped (integrate id cyc s) ↔ Shaped s := by simp [integrate]
@[simp] theorem shaped_kernelsClose : Shaped (kernelsClose s) ↔ Shaped s := by simp [kernelsClose]
@[simp] theorem shaped_leaveSynced (hs : Shaped s) (f : State → State) (hf : ∀ t, Shaped t → Shaped (f t)) : Shaped (leaveSynced f s) := by
  simp [leaveSynced, hf, hs]
@[simp] theorem shaped_vyfTie (hs : Shaped s) (id) : Shaped (vyfTie id s) := by simp [vyfTie, hs]
@[simp] theorem shaped_putKernel (ch tx b) : Shaped (putKernel ch tx b s).2 ↔ Shaped s := by simp [putKernel]
@[simp] theorem shaped_wiringCheck (hs : Shaped s) : Shaped (wiringCheck s) := by
  unfold wiringCheck; (repeat' split) <;> simp [hs]
@[simp] theorem shaped_putClaim (hs : Shaped s) (ch b) : Shaped (putClaim ch b s).2 := by
  simp only [putClaim]; (repeat' split) <;> simp [hs]
@[simp] theorem shaped_putAper (hs : Shaped s) (ch tx as b) : Shaped (putAper ch tx as b s).2 := by
  induction as generalizing b s with
  | nil => exact hs
  | cons a t ih =>
    unfold putAper; dsimp only
    split
    · exact ih (by simp [hs]) _
    · exact ih hs b
@[simp] theorem shaped_putSlots (hs : Shaped s) (ch kind tx b) : Shaped (putSlots ch kind tx b s).2 := by
  simp [putSlots, hs]
@[simp] theorem shaped_earSendCh (hs : Shaped s) (ch) : Shaped (earSendCh ch s) := by simp [earSendCh, hs]
@[simp] theorem shaped_opEarFrameSend (hs : Shaped s) : Shaped (opEarFrameSend s) := by simp [opEarFrameSend, hs]
@[simp] theorem shaped_earOut (port fcsOk b) : Shaped (earOut port fcsOk b s) ↔ Shaped s := by simp [earOut]
@[simp] theorem shaped_earWrite (hs : Shaped s) (ch p q fcsOk b) : Shaped (earWrite ch p q fcsOk b s) := by
  simp [earWrite, hs]
@[simp] theorem shaped_opEarFrameForward (hs : Shaped s) (port b fcsOk) : Shaped (opEarFrameForward port b fcsOk s) := by
  simp [opEarFrameForward, hs]
@[simp] theorem shaped_roundCheck (hs : Shaped s) (port loop) : Shaped (roundCheck port loop s) := by simp [roundCheck, hs]
@[simp] theorem shaped_measureLoop (hs : Shaped s) (port rx) : Shaped (measureLoop port rx s) := by
  simp only [measureLoop]; (repeat' split) <;> simp [hs]
@[simp] theorem shaped_mapCheck (hs : Shaped s) (addr hub) : Shaped (mapCheck addr hub s) := by simp [mapCheck, hs]
@[simp] theorem shaped_kernelOffer (hs : Shaped s) (k b) : Shaped (kernelOffer k b s) := by simp [kernelOffer, hs]
@[simp] theorem shaped_takeKernel (hs : Shaped s) (k ch rx b) : Shaped (takeKernel k ch rx b s) := by
  simp only [takeKernel]; (repeat' split) <;> simp [hs]
@[simp] theorem shaped_kcrcFail (hs : Shaped s) (port addr) : Shaped (kcrcFail port addr s) := by simp [kcrcFail, hs]
@[simp] theorem shaped_readKernel (hs : Shaped s) (port rx h b k) : Shaped (readKernel port rx h b k s) := by
  simp [readKernel, hs]
@[simp] theorem shaped_readClaims (hs : Shaped s) (port rx h b) : Shaped (readClaims port rx h b s) := by
  refine shaped_forAll _ _ (fun j t ht => ?_) hs
  simp only; (repeat' split) <;> simp [ht]
@[simp] theorem shaped_readAper (hs : Shaped s) (port rx h b a) : Shaped (readAper port rx h b a s) := by
  simp only [readAper]; (repeat' split) <;> simp [hs]
@[simp] theorem shaped_readSlots (hs : Shaped s) (port rx h b) : Shaped (readSlots port rx h b s) :=
  shaped_forAll _ _ (fun a _ ht => shaped_readAper ht port rx h b a)
    (shaped_readClaims (shaped_forAll _ _ (fun k _ ht => shaped_readKernel ht port rx h b k) hs) port rx h b)
@[simp] theorem shaped_noteHeader (hs : Shaped s) (port h) : Shaped (noteHeader port h s) := by simp [noteHeader, hs]
@[simp] theorem shaped_startIntegrate (hs : Shaped s) (port rx h b) : Shaped (startIntegrate port rx h b s) := by
  simp [startIntegrate, hs]
@[simp] theorem shaped_takeHeader (hs : Shaped s) (port rx h) : Shaped (takeHeader port rx h s) := by simp [takeHeader, hs]
@[simp] theorem shaped_setTime (hs : Shaped s) (port rx h) : Shaped (setTime port rx h s) := by simp [setTime, hs]
@[simp] theorem shaped_headerIntegrating (hs : Shaped s) (port rx h b) : Shaped (headerIntegrating port rx h b s) := by
  have ht := shaped_takeHeader hs port rx h
  simp only [headerIntegrating]
  split
  · simp [hs]
  split
  · exact hs
  · refine shaped_readSlots ?_ port rx h b
    (repeat' split) <;> simp [ht]
@[simp] theorem shaped_headerCold (hs : Shaped s) (port rx h b) : Shaped (headerCold port rx h b s) := by
  simp [headerCold, hs]
@[simp] theorem shaped_headerSynced (hs : Shaped s) (port rx h b) : Shaped (headerSynced port rx h b s) := by
  simp +contextual [headerSynced, hs]
@[simp] theorem shaped_schedMismatch (hs : Shaped s) (sched) : Shaped (schedMismatch sched s) := by
  simp [schedMismatch, hs]
@[simp] theorem shaped_readHeader (hs : Shaped s) (port rx b) : Shaped (readHeader port rx b s) := by
  unfold readHeader; split <;> simp [hs]
@[simp] theorem shaped_clockSync : Shaped (clockSync s).2 ↔ Shaped s := by simp [clockSync]
@[simp] theorem shaped_clockOut (hs : Shaped s) : Shaped (clockOut s) := by simp [clockOut, hs]
@[simp] theorem shaped_modeRefused (hs : Shaped s) (res) : Shaped (modeRefused res s) := by simp [modeRefused, hs]
@[simp] theorem shaped_requestJudged (hs : Shaped s) : Shaped (requestJudged s) := by simp [requestJudged, hs]
@[simp] theorem shaped_announce : Shaped (announce s) ↔ Shaped s := by
  unfold announce; (repeat' split) <;> simp
@[simp] theorem shaped_endOfPass (hs : Shaped s) : Shaped (endOfPass s) := by simp [endOfPass, hs]
@[simp] theorem shaped_opEarFrameReceive (hs : Shaped s) (port rx endPass b) :
    Shaped (opEarFrameReceive port rx endPass b s) := by
  simp [opEarFrameReceive, hs]
@[simp] theorem shaped_opVyfModeReq (hs : Shaped s) (init v) : Shaped (opVyfModeReq init v s) := by simp [opVyfModeReq, hs]
@[simp] theorem shaped_opModeRequestTimeout (hs : Shaped s) : Shaped (opModeRequestTimeout s) := by
  simp [opModeRequestTimeout, hs]
@[simp] theorem shaped_opBackboneLinkChange (hs : Shaped s) (port up) : Shaped (opBackboneLinkChange port up s) := by
  simp [opBackboneLinkChange, hs]
@[simp] theorem shaped_coldStart (hs : Shaped s) : Shaped (coldStart s) := by simp [coldStart, hs]
@[simp] theorem shaped_opListenTimeout (hs : Shaped s) : Shaped (opListenTimeout s) := by simp [opListenTimeout, hs]
@[simp] theorem shaped_opOriginTakeover (hs : Shaped s) : Shaped (opOriginTakeover s) := by simp [opOriginTakeover, hs]
@[simp] theorem shaped_opSyncLost (hs : Shaped s) : Shaped (opSyncLost s) := by simp [opSyncLost, hs]
@[simp] theorem shaped_coldBoundary (hs : Shaped s) : Shaped (coldBoundary s) := by simp [coldBoundary, hs]
@[simp] theorem shaped_modeSwitch (hs : Shaped s) : Shaped (modeSwitch s) := by simp [modeSwitch, hs]
@[simp] theorem shaped_missedCount : Shaped (missedCount s) ↔ Shaped s := by simp [missedCount]
@[simp] theorem shaped_leaveNetwork : Shaped (leaveNetwork s) ↔ Shaped s := by simp [leaveNetwork]
@[simp] theorem shaped_vyfEnd (hs : Shaped s) : Shaped (vyfEnd s) := by simp [vyfEnd, hs]
@[simp] theorem shaped_vyfStart : Shaped (vyfStart s) ↔ Shaped s := by simp [vyfStart]

/-! #### The train cycle (05) -/

@[simp] theorem shaped_raiseCyc (hs : Shaped s) (bit code stn detail d0 d1) :
    Shaped (raiseCyc bit code stn detail d0 d1 s) := by
  simp [raiseCyc, hs]
@[simp] theorem shaped_cycWrite (hs : Shaped s) (addr b) : Shaped (cycWrite addr b s) := by simp [cycWrite, hs]
@[simp] theorem shaped_modeRequest (init m) : Shaped (modeRequest init m s) ↔ Shaped s := by simp [modeRequest]
@[simp] theorem shaped_opModeReqRun (init) : Shaped (opModeReqRun init s) ↔ Shaped s := by simp [opModeReqRun]
@[simp] theorem shaped_opModeReqStop (init) : Shaped (opModeReqStop init s) ↔ Shaped s := by simp [opModeReqStop]
@[simp] theorem shaped_opModeReqHold (init) : Shaped (opModeReqHold init s) ↔ Shaped s := by simp [opModeReqHold]
@[simp] theorem shaped_firstRun : Shaped (firstRun s) ↔ Shaped s := by
  unfold firstRun; (repeat' split) <;> simp
@[simp] theorem shaped_modeChange (hs : Shaped s) (m) : Shaped (modeChange m s).2 := by simp [modeChange, hs]
@[simp] theorem shaped_modeAtBoundary (hs : Shaped s) : Shaped (modeAtBoundary s) := by
  unfold modeAtBoundary; (repeat' split) <;> simp [hs]
@[simp] theorem shaped_awnFollow (hs : Shaped s) : Shaped (awnFollow s) := by simp [awnFollow, hs]
@[simp] theorem shaped_followPartner : Shaped (followPartner s) ↔ Shaped s := by
  unfold followPartner; (repeat' split) <;> simp
@[simp] theorem shaped_autorun : Shaped (autorun s) ↔ Shaped s := by simp [autorun]
@[simp] theorem shaped_stnStartUp (k) : Shaped (stnStartUp k s) ↔ Shaped s := by simp [stnStartUp]
@[simp] theorem shaped_stnTake (hs : Shaped s) (k words) : Shaped (stnTake k words s) := by simp [stnTake, hs]
@[simp] theorem shaped_stnAge (hs : Shaped s) (k lost) : Shaped (stnAge k lost s) := by simp [stnAge, hs]
@[simp] theorem shaped_stnFreeze (hs : Shaped s) (k) : Shaped (stnFreeze k s) := by simp [stnFreeze, hs]
@[simp] theorem shaped_freeze (hs : Shaped s) : Shaped (freeze s) :=
  shaped_forAll _ _ (fun c t ht => shaped_mboxFreeze ht c) (shaped_forAll _ _ (fun k t ht => shaped_stnFreeze ht k) (by simp [hs]))
@[simp] theorem shaped_writeInputBank (hs : Shaped s) : Shaped (writeInputBank s) := by
  unfold writeInputBank
  extract_lets a
  split
  · exact hs
  · exact shaped_cycWrite (shaped_cycWrite (shaped_cycWrite (shaped_cycWrite
      (shaped_forAll _ _ (fun k t ht => shaped_cycWrite ht ..) hs) ..) ..) ..) ..
@[simp] theorem shaped_stageInputs (hs : Shaped s) : Shaped (stageInputs s) := by simp [stageInputs, hs]
@[simp] theorem shaped_holdPermit (hs : Shaped s) : Shaped (holdPermit s) := by simp [holdPermit, hs]
@[simp] theorem shaped_forceInputs (hs : Shaped s) : Shaped (forceInputs s) := by simp [forceInputs, hs]
@[simp] theorem shaped_olcRefused (hs : Shaped s) (res fail) : Shaped (olcRefused res fail s) := by simp [olcRefused, hs]
@[simp] theorem shaped_olcMerge (hs : Shaped s) : Shaped (olcMerge s) := by
  unfold olcMerge; (repeat' split) <;> simp [hs]
@[simp] theorem shaped_opOlcCommit (hs : Shaped s) (init v) : Shaped (opOlcCommit init v s) := by
  simp only [opOlcCommit]; (repeat' split) <;> simp [hs]
@[simp] theorem shaped_olcWrite (init o v) : Shaped (olcWrite init o v s) ↔ Shaped s := by simp [olcWrite]
@[simp] theorem shaped_merge (hs : Shaped s) : Shaped (merge s) :=
  shaped_olcMerge (shaped_forceInputs (shaped_holdPermit (shaped_stageInputs (shaped_writeInputBank hs))))
@[simp] theorem shaped_cycleOverrun (hs : Shaped s) : Shaped (cycleOverrun s) := by
  unfold cycleOverrun; split
  · exact shaped_enterSafe (shaped_missFault (shaped_raiseCyc hs ..) ..) _
  · exact hs
@[simp] theorem shaped_cycleEnd (hs : Shaped s) : Shaped (cycleEnd s) := by simp [cycleEnd, hs]
@[simp] theorem shaped_cycleBegin (hs : Shaped s) (n) : Shaped (cycleBegin n s) := by simp [cycleBegin, hs]
@[simp] theorem shaped_countRun (was) : Shaped (countRun was s) ↔ Shaped s := by simp [countRun]
@[simp] theorem shaped_opCycleBoundary (hs : Shaped s) : Shaped (opCycleBoundary s) := by
  unfold opCycleBoundary
  split
  · exact hs
  split
  · exact hs
  next n _ _ =>
    extract_lets was s₁ s₂ s₃ s₄ s₅
    have h₁ : Shaped s₁ := shaped_cycleEnd (shaped_cycleOverrun hs)
    have h₂ : Shaped s₂ := shaped_pairBoundary ((shaped_followPartner).2 h₁) _
    have h₃ : Shaped s₃ := shaped_cycleBegin h₂ n
    have h₄ : Shaped s₄ := by simp [s₄, h₃]
    have h₅ : Shaped s₅ := by simp [s₅, h₄]
    exact shaped_merge (shaped_freeze h₅)
@[simp] theorem shaped_scanOverrun (hs : Shaped s) : Shaped (scanOverrun s) :=
  shaped_enterSafe (shaped_missFault (shaped_raiseCyc hs ..) ..) _
@[simp] theorem shaped_opAwnScanTrigger (hs : Shaped s) : Shaped (opAwnScanTrigger s) := by simp [opAwnScanTrigger, hs]
@[simp] theorem shaped_opReleasePhase (hs : Shaped s) : Shaped (opReleasePhase s) := by simp [opReleasePhase, hs]
@[simp] theorem shaped_opAwnPublish (hs : Shaped s) : Shaped (opAwnPublish s) := by simp [opAwnPublish, hs]
@[simp] theorem shaped_stnRunWords (hs : Shaped s) (k q) : Shaped (stnRunWords k q s).2.2 := by simp [stnRunWords, hs]
@[simp] theorem shaped_stnWords (hs : Shaped s) (k q fs) : Shaped (stnWords k q fs s).2.2 := by
  unfold stnWords; split <;> simp [hs]
@[simp] theorem shaped_stnDiscard (hs : Shaped s) (k) : Shaped (stnDiscard k s) := by simp [stnDiscard, hs]
@[simp] theorem shaped_glumeSendOne (hs : Shaped s) (c words acc) : Shaped (glumeSendOne c words acc s).2 := by
  unfold glumeSendOne; dsimp only; split <;> simp [hs]
@[simp] theorem shaped_connMessage (q fs c) (x : List (Nat × List Byte) × State) (hx : Shaped x.2) :
    Shaped (connMessage q fs c x).2 := by
  simp only [connMessage]
  split
  · exact hx
  split
  · split
    · exact shaped_stnDiscard hx _
    split
    · exact hx
    · refine shaped_glumeSendOne ((shaped_modStn ..).2 ?_) ..
      exact shaped_stnWords hx ..
  · split
    · exact hx
    · refine shaped_glumeSendOne ?_ ..
      exact shaped_mboxWords hx c
@[simp] theorem shaped_allMessages (q fs cs) (x : List (Nat × List Byte) × State) (hx : Shaped x.2) :
    Shaped (allMessages q fs cs x).2 := by
  induction cs generalizing x with
  | nil => exact hx
  | cons c t ih => exact ih _ (shaped_connMessage q fs c x hx)
@[simp] theorem shaped_fillSlots (hs : Shaped s) (slots ms) : Shaped (fillSlots slots ms s) := by
  induction slots generalizing ms s with
  | nil => exact hs
  | cons x t ih =>
    unfold fillSlots; dsimp only
    split
    · exact ih hs ms
    · exact ih (by simp [hs]) _
@[simp] theorem shaped_commitMessages (hs : Shaped s) (ms) : Shaped (commitMessages ms s) := by
  simp +contextual [commitMessages, hs]
@[simp] theorem shaped_exchRecord (hs : Shaped s) : Shaped (exchRecord s) := by simp [exchRecord, hs]
@[simp] theorem shaped_publishNow (hs : Shaped s) : Shaped (publishNow s) := by
  unfold publishNow
  refine shaped_exchRecord (shaped_pairPublished.2 (shaped_commitMessages (shaped_allMessages _ _ _ _ ?_) _))
  simp [hs]
@[simp] theorem shaped_opPublish (hs : Shaped s) : Shaped (opPublish s) := by simp [opPublish, hs]
@[simp] theorem shaped_opForceEntryWrite (hs : Shaped s) (init i v) : Shaped (opForceEntryWrite init i v s) := by
  simp [opForceEntryWrite, hs]
@[simp] theorem shaped_opExchStart (hs : Shaped s) (init v) : Shaped (opExchStart init v s) := by simp [opExchStart, hs]

/-! #### SELFTEST, hand-over and shut-down (03, 20) -/

@[simp] theorem shaped_opCmptestStart (_init v) : Shaped (opCmptestStart _init v s) ↔ Shaped s := by simp [opCmptestStart]
@[simp] theorem shaped_failCore (hs : Shaped s) (n pos t step) : Shaped (failCore n pos t step s) :=
  shaped_event (shaped_thr ((shaped_modCore ..).2 hs) _) ..
@[simp] theorem shaped_refillPosition (t p) : Shaped (refillPosition t p s) ↔ Shaped s := by
  unfold refillPosition; (repeat' split) <;> simp
@[simp] theorem shaped_opCmptestDone (hs : Shaped s) (o) : Shaped (opCmptestDone o s) := by
  unfold opCmptestDone
  split
  · extract_lets sink res voters paths bad s₁ s₂ s₃ s₄ s₅ bad'
    have h₁ : Shaped s₁ := by simp only [s₁]; split <;> simp [hs]
    clear_value s₁
    have h₂ : Shaped s₂ := shaped_forAll _ _ (fun r t ht => by simp [ht]) h₁
    have h₃ : Shaped s₃ := shaped_forAll _ _ (fun r t ht => by simp [ht]) h₂
    have h₄ : Shaped s₄ := shaped_forAll _ _ (fun r t ht => by simp [ht]) h₃
    have h₅ : Shaped s₅ := shaped_forAll _ _ (fun r t ht => by simp [ht]) h₄
    clear_value s₅
    exact h₅
  · exact hs
@[simp] theorem shaped_judgeVerdict (hs : Shaped s) : Shaped (judgeVerdict s) := by
  have h := shaped_forAll (emptyAt s true) _ (fun e t ht =>
    shaped_raiseThr ht 6 0x2E07 (trdDetail 255 e.2 e.1) (thrInfo 6 0 0x3F 0) 0 0) hs
  unfold judgeVerdict
  extract_lets s₁ thr s₂
  have h₂ : Shaped s₂ := h
  clear_value s₂
  split <;> simp [h₂]
@[simp] theorem shaped_startTriads (hs : Shaped s) : Shaped (startTriads s) := by
  refine shaped_forAll _ _ (fun t u hu => ?_) hs
  have h : Shaped (modTri t (fun x => { x with fwCore := x.cores }) u) :=
    shaped_modTri_of hu t fun x hx => by simp_all
  dsimp only
  split <;> simp [h]
@[simp] theorem shaped_spendTrial (hs : Shaped s) : Shaped (spendTrial s) := by
  unfold spendTrial; split <;> simp [hs]
@[simp] theorem shaped_startBlocks (hs : Shaped s) : Shaped (startBlocks s) := by
  have h := shaped_glmStart (shaped_hubStart (shaped_pairStart (shaped_vyfStart.2 hs)))
  exact shaped_culmStart (shaped_fioStart (shaped_canStart (shaped_canStart h 0) 1))
@[simp] theorem shaped_opHandOver (hs : Shaped s) : Shaped (opHandOver s) := by
  unfold opHandOver
  split
  · extract_lets s₁ bad s₂ ms mod sup s₃ s₄ culm
    have h₂ : Shaped s₂ := shaped_startTriads (shaped_spendTrial (shaped_judgeVerdict hs))
    clear_value s₂ bad
    have h₃ : Shaped s₃ := h₂
    have h₄ : Shaped s₄ := shaped_startBlocks h₃
    clear_value s₄
    split
    · exact shaped_enterSafe h₄ _
    split
    · exact shaped_enterSafe h₄ _
    · exact h₄
  · exact hs
@[simp] theorem shaped_shutRequest (hs : Shaped s) (restart pin) : Shaped (shutRequest restart pin s) := by
  simp [shutRequest, hs]
@[simp] theorem shaped_opSdreqActive (hs : Shaped s) : Shaped (opSdreqActive s) := by simp [opSdreqActive, hs]
@[simp] theorem shaped_opShutdownGo (hs : Shaped s) (init v) : Shaped (opShutdownGo init v s) := by simp [opShutdownGo, hs]
@[simp] theorem shaped_opShutdownRestart (init) : Shaped (opShutdownRestart init s) ↔ Shaped s := by
  simp [opShutdownRestart]
@[simp] theorem shaped_shutDrain (hs : Shaped s) : Shaped (shutDrain s) :=
  shaped_hoursCopy (shaped_lifeFlush (shaped_flushQueue (shaped_haltAll (by simp [hs])) false))
@[simp] theorem shaped_opShutdownReady (hs : Shaped s) (init) : Shaped (opShutdownReady init s) := by
  simp [opShutdownReady, hs]
@[simp] theorem shaped_opShutdownEntry (hs : Shaped s) : Shaped (opShutdownEntry s) := by
  unfold opShutdownEntry
  split
  · extract_lets mod vyf chA chB s₁ s₂ culm s₃ s₄
    have h₂ : Shaped s₂ := shaped_hubHalt (shaped_fioOff (shaped_braceEnd (by simp [s₁, hs]))) 1
    clear_value s₂
    have h₂' : Shaped { s₂ with culm := { culm with bprst := true } } := h₂
    have h₃ : Shaped s₃ := shaped_event h₂' ..
    have h₄ : Shaped s₄ := shaped_irqAll h₃ _
    split <;> simp [h₄]
  · exact hs
@[simp] theorem shaped_opShutdownGraceEnd (hs : Shaped s) : Shaped (opShutdownGraceEnd s) := by
  simp [opShutdownGraceEnd, hs]

/-! #### The security engine (17) -/

@[simp] theorem shaped_modSession (ses f) : Shaped (modSession ses f s) ↔ Shaped s := by simp [modSession]
@[simp] theorem shaped_reply (hs : Shaped s) (r op status data) : Shaped (reply r op status data s) := by
  simp only [reply]; (repeat' split) <;> simp [hs]
@[simp] theorem shaped_closeSession (hs : Shaped s) (ses) : Shaped (closeSession ses s) := by
  unfold closeSession; (repeat' split) <;> simp [hs]
@[simp] theorem shaped_closeOthers (hs : Shaped s) (keep) : Shaped (closeOthers keep s) := by
  simp +contextual [closeOthers, hs]
@[simp] theorem shaped_closeLocal (hs : Shaped s) : Shaped (closeLocal s) := by
  simp +contextual [closeLocal, hs]
@[simp] theorem shaped_raiseAuth (hs : Shaped s) : Shaped (raiseAuth s) := by simp [raiseAuth, hs]
@[simp] theorem shaped_raisePriv (hs : Shaped s) (op) : Shaped (raisePriv op s) := by simp [raisePriv, hs]
@[simp] theorem shaped_serverAuth (o) : Shaped (serverAuth o s) ↔ Shaped s := by simp [serverAuth]
@[simp] theorem shaped_refuseSession (hs : Shaped s) (o) : Shaped (refuseSession o s) := by
  unfold refuseSession; (repeat' split) <;> simp [hs]
@[simp] theorem shaped_opTlsHandshake (hs : Shaped s) (o) : Shaped (opTlsHandshake o s) := by simp [opTlsHandshake, hs]
@[simp] theorem shaped_opSessionIdleTimeout (hs : Shaped s) (ses) : Shaped (opSessionIdleTimeout ses s) := by
  unfold opSessionIdleTimeout; split <;> simp [hs]
@[simp] theorem shaped_opSessionClosed (hs : Shaped s) (ses) : Shaped (opSessionClosed ses s) := by
  simp [opSessionClosed, hs]
@[simp] theorem shaped_request (hs : Shaped s) (r op b) (f : Session → State → State) (hf : ∀ x t, Shaped t → Shaped (f x t)) :
    Shaped (request r op b f s) := by
  simp only [request]; split <;> simp [hf, hs]
@[simp] theorem shaped_privileged (hs : Shaped s) (r op bit addr b) (f : Session → State → Nat × State)
    (hf : ∀ x t, Shaped t → Shaped (f x t).2) : Shaped (privileged r op bit addr b f s) := by
  unfold privileged
  refine shaped_request hs _ _ _ _ fun x t ht => ?_
  split
  · simp [ht]
  split
  · simp [ht]
  · have h := hf x t ht
    simp only; split <;> simp [h]
@[simp] theorem shaped_keysAction (hs : Shaped s) (r op) (f : State → Nat × State) (hf : ∀ t, Shaped t → Shaped (f t).2) :
    Shaped (keysAction r op f s) := by
  unfold keysAction
  refine shaped_privileged hs _ _ _ _ _ _ fun x t ht => ?_
  dsimp only
  split <;> simp [hf, ht]
@[simp] theorem shaped_opAttest (hs : Shaped s) (r nonce) : Shaped (opAttest r nonce s) := by
  simp +contextual [opAttest, hs]
@[simp] theorem shaped_opChallenge (hs : Shaped s) (r) : Shaped (opChallenge r s) := by
  simp +contextual [opChallenge, hs]
@[simp] theorem shaped_opToken (hs : Shaped s) (r b) : Shaped (opToken r b s) := by
  refine shaped_request hs _ _ _ _ fun x t ht => ?_
  split <;> simp [ht]
@[simp] theorem shaped_readBlocks (hs : Shaped s) (fuel addr count) : Shaped (readBlocks fuel addr count s).2.2 := by
  induction fuel generalizing addr count s with
  | zero => exact hs
  | succ k ih =>
    unfold readBlocks
    split
    · exact hs
    extract_lets n r
    have hr : Shaped r.2.2 := by simp only [r]; (repeat' split) <;> simp [hs]
    split
    · exact hr
    · exact ih hr _ _
@[simp] theorem shaped_opReadMem (hs : Shaped s) (r addr count) : Shaped (opReadMem r addr count s) := by
  refine shaped_request hs _ _ _ _ fun x t ht => ?_
  have h := shaped_readBlocks ht (count / 64 + 2) addr count
  dsimp only; (repeat' split) <;> simp [h, ht]
@[simp] theorem shaped_opClearRecords (hs : Shaped s) (r) : Shaped (opClearRecords r s) := by
  simp +contextual [opClearRecords, hs]
@[simp] theorem shaped_norErase (c a b) : Shaped (norErase c a b s) ↔ Shaped s := by simp [norErase]
@[simp] theorem shaped_norProgram (hs : Shaped s) (c o bs) : Shaped (norProgram c o bs s) := by simp [norProgram, hs]
@[simp] theorem shaped_opImageBegin (hs : Shaped s) (r len) : Shaped (opImageBegin r len s) := by
  simp [opImageBegin, hs]
@[simp] theorem shaped_opImageData (hs : Shaped s) (r offset bytes) : Shaped (opImageData r offset bytes s) := by
  refine shaped_privileged hs _ _ _ _ _ _ fun x t ht => ?_
  dsimp only; (repeat' split) <;> simp [ht]
@[simp] theorem shaped_opImageEnd (hs : Shaped s) (r) : Shaped (opImageEnd r s) := by
  refine shaped_privileged hs _ _ _ _ _ _ fun x t ht => ?_
  dsimp only; (repeat' split) <;> simp [ht]
@[simp] theorem shaped_opInstallationComplete (hs : Shaped s) : Shaped (opInstallationComplete s) := by
  unfold opInstallationComplete
  split
  · exact hs
  split
  · exact hs
  next i _ _ =>
    extract_lets k sec s₁ s₂ v s₃
    have h₁ : Shaped s₁ := by simpa [s₁, sec] using hs
    have h₃ : Shaped s₃ := shaped_event (shaped_setMark (shaped_norProgram h₁ ..) ..) ..
    split
    · exact shaped_reply (shaped_rejectCopy h₁ ..) ..
    split
    · exact shaped_dieReset (shaped_lifeFlush (shaped_flushQueue h₃ false)) ..
    · exact h₃
@[simp] theorem shaped_confirmCopy (hs : Shaped s) : Shaped (confirmCopy s) := by simp [confirmCopy, hs]
@[simp] theorem shaped_opConfirm (hs : Shaped s) (r) : Shaped (opConfirm r s) := by
  simp +contextual [opConfirm, hs]
@[simp] theorem shaped_opSecImageConfirm (hs : Shaped s) (_init v) : Shaped (opSecImageConfirm _init v s) := by
  simp [opSecImageConfirm, hs]
@[simp] theorem shaped_opAutoConfirm (hs : Shaped s) : Shaped (opAutoConfirm s) := by simp [opAutoConfirm, hs]
@[simp] theorem shaped_opActivate (hs : Shaped s) (r) : Shaped (opActivate r s) := by
  simp +contextual [opActivate, hs]
@[simp] theorem shaped_opImageKeyInstall (hs : Shaped s) (r slot wrapped) :
    Shaped (opImageKeyInstall r slot wrapped s) := by
  refine shaped_keysAction hs _ _ _ fun t ht => ?_
  (repeat' split) <;> simp [ht]
@[simp] theorem shaped_opAnchorInstall (hs : Shaped s) (r slot key) : Shaped (opAnchorInstall r slot key s) := by
  simp [opAnchorInstall, hs]
@[simp] theorem shaped_opKeySlotProgram (hs : Shaped s) (r slot key) : Shaped (opKeySlotProgram r slot key s) := by
  simp [opKeySlotProgram, hs]
@[simp] theorem shaped_opSlotRevoke (hs : Shaped s) (r slot) : Shaped (opSlotRevoke r slot s) := by simp [opSlotRevoke, hs]
@[simp] theorem shaped_opAnchorA0Disable (hs : Shaped s) (r) : Shaped (opAnchorA0Disable r s) := by
  simp [opAnchorA0Disable, hs]
@[simp] theorem shaped_opDebugOpen (hs : Shaped s) (r) : Shaped (opDebugOpen r s) := by
  refine shaped_privileged hs _ _ _ _ _ _ fun x t ht => ?_
  dsimp only; (repeat' split) <;> simp [ht]
@[simp] theorem shaped_rngTaken : Shaped (rngTaken s) ↔ Shaped s := by simp [rngTaken]
@[simp] theorem shaped_opRngRead (init) : Shaped (opRngRead init s) ↔ Shaped s := by simp [opRngRead]
@[simp] theorem shaped_opRngHealthFail (hs : Shaped s) : Shaped (opRngHealthFail s) := by simp [opRngHealthFail, hs]
@[simp] theorem shaped_opMaintenanceFrameReceive (hs : Shaped s) (f) : Shaped (opMaintenanceFrameReceive f s) := by
  unfold opMaintenanceFrameReceive; (repeat' split) <;> simp [hs]

/-! #### Triads: quiet points, repair, split (03) -/

@[simp] theorem shaped_haltedAt (hs : Shaped s) (t now) : Shaped (modTri t (fun x => { x.emptied with
    state := 6, haltedAt := now, returnSince := none, stoppedAt := none }) s) :=
  shaped_modTri_of hs t fun x h => by simp_all [Triad.emptied]
@[simp] theorem shaped_haltTriad (hs : Shaped s) (t cause) : Shaped (haltTriad t cause s) := by
  have h := shaped_missHalted (shaped_account hs t) t
  simp only [haltTriad]; split <;> simp [h]
@[simp] theorem shaped_noMajority (hs : Shaped s) (t num cause) : Shaped (noMajority t num cause s) := by
  simp [noMajority, hs]
@[simp] theorem shaped_opQuiet (hs : Shaped s) (t) : Shaped (opQuiet t s) := by simp [opQuiet, hs]
@[simp] theorem shaped_resume (hs : Shaped s) (t) : Shaped (resume t s) := by simp [resume, hs]
@[simp] theorem shaped_reintegrate (hs : Shaped s) (t) : Shaped (reintegrate t s) := by
  unfold reintegrate
  refine shaped_resume (shaped_event ?_ ..) t
  simp [hs]
@[simp] theorem shaped_reintFailed (hs : Shaped s) (t) : Shaped (reintFailed t s) := by
  refine shaped_resume ((shaped_claimReserve t).2 ?_) t
  rw [shaped_modTri _ _ (fun x => by simp)]
  exact shaped_raiseCore (shaped_thr ((shaped_modCore ..).2 hs) _) ..
@[simp] theorem shaped_opReintegration (hs : Shaped s) (t da db dr) : Shaped (opReintegration t da db dr s) := by
  simp [opReintegration, hs]
@[simp] theorem shaped_opReserveL1ClearDone (r) : Shaped (opReserveL1ClearDone r s) ↔ Shaped s := by
  simp [opReserveL1ClearDone]
@[simp] theorem shaped_refuseSplit (t res) : Shaped (refuseSplit t res s) ↔ Shaped s := by simp [refuseSplit]
@[simp] theorem shaped_opToSplit (hs : Shaped s) (t) : Shaped (opToSplit t s) := by simp [opToSplit, hs]
@[simp] theorem shaped_opSplitStart (hs : Shaped s) (t) : Shaped (opSplitStart t s) := by
  simp only [opSplitStart]; split
  · refine shaped_resched (shaped_event ?_ ..) t
    rw [shaped_modSchTri _ _ (fun x => by simp)]
    refine shaped_forAll _ _ (fun i u hu => shaped_irqTriad hu ..) ?_
    refine shaped_forAll _ _ (fun p u hu => by simp [hu]) ?_
    exact shaped_modTri_of hs t fun x h => by simp_all
  · exact hs
@[simp] theorem shaped_stopSplit (t p) : Shaped (stopSplit t p s) ↔ Shaped s := by simp [stopSplit]
@[simp] theorem shaped_beginReturn (hs : Shaped s) (t) : Shaped (beginReturn t s) := by simp [beginReturn, hs]
@[simp] theorem shaped_opToTriad (hs : Shaped s) (core) : Shaped (opToTriad core s) := by simp [opToTriad, hs]
@[simp] theorem shaped_abortFlights (hs : Shaped s) (t p) : Shaped (abortFlights t p s) := by
  unfold abortFlights
  extract_lets n mine items s₁ rch culm s₂ s₃
  have h₁ : Shaped s₁ := (shaped_modTri _ _ (fun x => by simp)).2 hs
  have h₂ : Shaped s₂ := h₁
  have h₃ : Shaped s₃ := shaped_forAll _ _ (fun f u hu => by simp [hu]) h₂
  exact shaped_forAll _ _ (fun o u hu => shaped_abortOut hu 6 2 o) h₃
@[simp] theorem shaped_opHandoverTimeout (hs : Shaped s) (t) : Shaped (opHandoverTimeout t s) := by
  unfold opHandoverTimeout; split
  · refine shaped_beginReturn (shaped_raiseTriad ?_ ..) t
    exact shaped_forAll _ _ (fun p u hu => by simp [hu]) hs
  · exact hs
@[simp] theorem shaped_restoreSaved (hs : Shaped s) (t c ps) : Shaped (restoreSaved t c ps s) := by
  have h := shaped_forAll ps (fun p u => modCore ((u.tri t).coreAt p) (fun _ => c.copied t p) u)
    (fun p u hu => by simp [hu]) hs
  exact shaped_modTri_of h t fun x hx => by simp_all
@[simp] theorem shaped_opTriadRestore (hs : Shaped s) (t ds) : Shaped (opTriadRestore t ds s) := by
  simp only [opTriadRestore]; (repeat' split)
  · exact shaped_resched (shaped_event (by simp [hs]) ..) t
  · exact shaped_resched (shaped_startVoting (shaped_raiseTriad (by simp [hs]) ..) ..) t
  · exact hs
@[simp] theorem shaped_opTriadCtrl (hs : Shaped s) (init t v) : Shaped (opTriadCtrl init t v s) := by
  simp [opTriadCtrl, hs]
@[simp] theorem shaped_joinReserve (t) : Shaped (joinReserve t s) ↔ Shaped s := by simp [joinReserve]
@[simp] theorem shaped_opTriadRestart (hs : Shaped s) (t) : Shaped (opTriadRestart t s) := by
  simp only [opTriadRestart]; split
  · exact shaped_resched (shaped_startVoting (by simp [hs]) ..) t
  · exact hs
@[simp] theorem shaped_restartSplit (hs : Shaped s) (t) : Shaped (restartSplit t s) := by
  refine shaped_resched (shaped_forAll _ _ (fun p u hu => by simp [hu]) ?_) t
  exact shaped_modTri_of hs t fun x h => by simp_all [Triad.emptied]
@[simp] theorem shaped_opTrdWatchdog (hs : Shaped s) (t) : Shaped (opTrdWatchdog t s) := by
  unfold opTrdWatchdog
  split
  · exact hs
  · have h : ∀ a b, Shaped (haltTriad t 0x3010 (raiseTriad 8 0x3010 0 t 0 a b s)) := fun a b =>
      shaped_haltTriad (shaped_raiseTriad hs ..) ..
    simp only; split <;> simp [h]
@[simp] theorem shaped_opL1Error (hs : Shaped s) (l) : Shaped (opL1Error l s) := by simp [opL1Error, hs]

/-! #### The register blocks (21) -/

@[simp] theorem shaped_modErr (w f) : Shaped (modErr w f s) ↔ Shaped s := by
  unfold modErr; (repeat' split) <;> simp
@[simp] theorem shaped_regReadEffect (hs : Shaped s) (w o) : Shaped (regReadEffect w o s) := by
  unfold regReadEffect; (repeat' split) <;> simp [hs]
@[simp] theorem shaped_modeReqWrite (init v) : Shaped (modeReqWrite init v s) ↔ Shaped s := by
  unfold modeReqWrite; (repeat' split) <;> simp
@[simp] theorem shaped_cycRegWrite (hs : Shaped s) (init o v) : Shaped (cycRegWrite init o v s) := by
  simp [cycRegWrite, hs]
@[simp] theorem shaped_schWrite (hs : Shaped s) (init o v) : Shaped (schWrite init o v s) := by simp [schWrite, hs]
@[simp] theorem shaped_rchWrite (o v) : Shaped (rchWrite o v s) ↔ Shaped s := by
  unfold rchWrite; (repeat' split) <;> simp
@[simp] theorem shaped_canWrite (hs : Shaped s) (init n o v) : Shaped (canWrite init n o v s) := by simp [canWrite, hs]
@[simp] theorem shaped_culmWrite (hs : Shaped s) (init o v) : Shaped (culmWrite init o v s) := by simp [culmWrite, hs]
@[simp] theorem shaped_shutdownWrite (hs : Shaped s) (init v) : Shaped (shutdownWrite init v s) := by
  simp [shutdownWrite, hs]
@[simp] theorem shaped_aonWrite (hs : Shaped s) (init o v) : Shaped (aonWrite init o v s) := by simp [aonWrite, hs]
@[simp] theorem shaped_blockWrite (hs : Shaped s) (init w o v) : Shaped (blockWrite init w o v s) := by
  unfold blockWrite; split <;> simp [hs]
@[simp] theorem shaped_regWrite (hs : Shaped s) (init w o v) : Shaped (regWrite init w o v s) := by simp [regWrite, hs]

/-! #### The scrubbers (01) -/

@[simp] theorem shaped_dramScrubNext : Shaped (dramScrubNext s) ↔ Shaped s := by simp [dramScrubNext]
@[simp] theorem shaped_mramScrubNext : Shaped (mramScrubNext s) ↔ Shaped s := by simp [mramScrubNext]
@[simp] theorem shaped_opDramScrub (hs : Shaped s) (r) : Shaped (opDramScrub r s) := by
  simp only [opDramScrub]; (repeat' split) <;> simp [hs]
@[simp] theorem shaped_areaHit (hs : Shaped s) (o) : Shaped (areaHit o s) := by simp [areaHit, hs]
@[simp] theorem shaped_opMramScrub (hs : Shaped s) (r) : Shaped (opMramScrub r s) := by
  simp only [opMramScrub]; (repeat' split) <;> simp [hs]

/-! #### Rachis (01) -/

@[simp] theorem shaped_dramWrite (o bs) : Shaped (dramWrite o bs s) ↔ Shaped s := by simp [dramWrite]
@[simp] theorem shaped_writeTarget (hs : Shaped s) (init addr bs en) : Shaped (writeTarget init addr bs en s).2 := by
  unfold writeTarget; (repeat' split) <;> simp +contextual [hs]
@[simp] theorem shaped_readTarget (hs : Shaped s) (init addr n) : Shaped (readTarget init addr n s).2.2 := by
  unfold readTarget; split <;> simp [hs]
@[simp] theorem shaped_busWrite (hs : Shaped s) (init addr bs en) : Shaped (busWrite init addr bs en s).2 := by
  unfold busWrite; split <;> simp [hs]
@[simp] theorem shaped_busRead (hs : Shaped s) (init addr n) : Shaped (busRead init addr n s).2.2 := by
  unfold busRead; split <;> simp [hs]
@[simp] theorem shaped_correctedAt (hs : Shaped s) (t) : Shaped (correctedAt t s) := by simp [correctedAt, hs]
@[simp] theorem shaped_cellCorrected (hs : Shaped s) (t) : Shaped (cellCorrected t s) := by
  unfold cellCorrected; split <;> simp [hs]
@[simp] theorem shaped_cellBad (hs : Shaped s) (t) : Shaped (cellBad t s) := by
  unfold cellBad; split <;> simp [hs]
@[simp] theorem shaped_readEffect (hs : Shaped s) (t) : Shaped (readEffect t s) := by
  have h := shaped_readTarget hs t.init t.reached t.size
  have hc : Shaped (if hasCells t.reached && decide (t.cell = .correctable)
      then cellCorrected t (readTarget t.init t.reached t.size s).2.2
      else (readTarget t.init t.reached t.size s).2.2) := by split <;> simp [h]
  simp only [readEffect]
  split
  · split <;> simp [hs]
  split
  · simp [hs]
  split
  · simpa using hc
  split
  · simpa using hc
  · simpa using shaped_correctedAt hc t
  · simpa using shaped_refuse hc 3 t.init false t.addr t.size
  · simpa using shaped_refuse hc 3 t.init false t.addr t.size
@[simp] theorem shaped_writeEffect (hs : Shaped s) (t) : Shaped (writeEffect t s) := by simp [writeEffect, hs]
@[simp] theorem shaped_rachisEffect (hs : Shaped s) (t) : Shaped (rachisEffect t s) := by simp [rachisEffect, hs]
@[simp] theorem shaped_opRachisTransaction (hs : Shaped s) (t) : Shaped (opRachisTransaction t s) := by
  unfold opRachisTransaction; (repeat' split) <;> simp [hs]
@[simp] theorem shaped_opRegisterWrite (hs : Shaped s) (init addr v) : Shaped (opRegisterWrite init addr v s) := by
  unfold opRegisterWrite; split <;> simp [hs]
@[simp] theorem shaped_endFlight (code f) : Shaped (endFlight code f s) ↔ Shaped s := by simp [endFlight]
@[simp] theorem shaped_raiseTmo (hs : Shaped s) (init write addr) : Shaped (raiseTmo init write addr s) := by
  simp [raiseTmo, hs]
@[simp] theorem shaped_opBusTimeout (hs : Shaped s) (tg) : Shaped (opBusTimeout tg s) := by
  simp only [opBusTimeout]; (repeat' split) <;> simp [hs]
@[simp] theorem shaped_opBridgeBackstopTimeout (hs : Shaped s) : Shaped (opBridgeBackstopTimeout s) := by
  unfold opBridgeBackstopTimeout
  split
  · exact hs
  split
  · refine shaped_culmAbortAll (shaped_forAll _ _ (fun f u hu => by simp [hu]) ?_) ..
    simp [hs]
  · exact hs
@[simp] theorem shaped_raiseSource (hs : Shaped s) (bit code source) : Shaped (raiseSource bit code source s) := by
  simp [raiseSource, hs]
@[simp] theorem shaped_modChan (ch f) : Shaped (modChan ch f s) ↔ Shaped s := by simp [modChan]
@[simp] theorem shaped_chanHalt (ch) : Shaped (chanHalt ch s) ↔ Shaped s := by simp [chanHalt]
@[simp] theorem shaped_engineRestart (hs : Shaped s) (e) : Shaped (engineRestart e s) := by
  unfold engineRestart; split <;> simp [hs]
@[simp] theorem shaped_opEngineWatchdog (hs : Shaped s) (e) : Shaped (opEngineWatchdog e s) := by
  simp [opEngineWatchdog, hs]
@[simp] theorem shaped_opClockFault (hs : Shaped s) (d) : Shaped (opClockFault d s) := by
  have h : ∀ r, Shaped (raiseSource 6 0x3407 d { s with rch := r }) := fun r => shaped_raiseSource (by simp [hs]) ..
  unfold opClockFault; split
  · exact hs
  · simp only; split <;> simp [h]
@[simp] theorem shaped_opFunctionDrainDone (f) : Shaped (opFunctionDrainDone f s) ↔ Shaped s := by
  unfold opFunctionDrainDone; (repeat' split) <;> simp

/-! #### Cores, windows and votes (03) -/

@[simp] theorem shaped_modLane (t p f) : Shaped (modLane t p f s) ↔ Shaped s := by simp [modLane]
@[simp] theorem shaped_openWin (t p) : Shaped (openWin t p s) ↔ Shaped s := by simp [openWin]
@[simp] theorem shaped_closeWin (t p cause) : Shaped (closeWin t p cause s) ↔ Shaped s := by simp [closeWin]
@[simp] theorem shaped_noteL2 (t addr) : Shaped (noteL2 t addr s) ↔ Shaped s := by simp [noteL2]
@[simp] theorem shaped_issueStore (hs : Shaped s) (t st) : Shaped (issueStore t st s) := by simp [issueStore, hs]
@[simp] theorem shaped_releaseWin (hs : Shaped s) (t w) : Shaped (releaseWin t w s) := by
  simp +contextual [releaseWin, hs]
@[simp] theorem shaped_dropWin (t n) : Shaped (dropWin t n s) ↔ Shaped s := by simp [dropWin]
@[simp] theorem shaped_excludeCore (hs : Shaped s) (t p bit code n cause) :
    Shaped (excludeCore t p bit code n cause s) := by
  unfold excludeCore
  refine (shaped_claimReserve t).2 (shaped_raiseCore (shaped_thr ?_ _) ..)
  simp [hs]
@[simp] theorem shaped_voteOutcome (hs : Shaped s) (t n) : Shaped (voteOutcome t n s) := by
  simp only [voteOutcome]; (repeat' split) <;> simp [hs]
@[simp] theorem shaped_advance (hs : Shaped s) (t fuel) : Shaped (advance t fuel s) := by
  induction fuel generalizing s with
  | zero => exact hs
  | succ k ih =>
    unfold advance; dsimp only
    split
    · exact hs
    split
    · exact ih (by simp [hs])
    split
    · exact ih (by simp [hs])
    · exact hs
@[simp] theorem shaped_noteLevel (t) : Shaped (noteLevel t s) ↔ Shaped s := by simp [noteLevel]
@[simp] theorem shaped_foldMember (n c) : Shaped (foldMember n c s) ↔ Shaped s := by simp [foldMember]
@[simp] theorem shaped_trapCore (n irq code tval) : Shaped (trapCore n irq code tval s) ↔ Shaped s := by simp [trapCore]
@[simp] theorem shaped_takeIrqs (hs : Shaped s) (fuel n) : Shaped (takeIrqs fuel n s) := by
  induction fuel generalizing s with
  | zero => exact hs
  | succ k ih =>
    unfold takeIrqs
    split
    · exact hs
    · exact ih (by simp [hs])
@[simp] theorem shaped_takeAll (hs : Shaped s) (n) : Shaped (takeAll n s) := by simp [takeAll, hs]
@[simp] theorem shaped_reachC (hs : Shaped s) (t p e) : Shaped (reachC t p e s) := by simp [reachC, hs]
@[simp] theorem shaped_setC (hs : Shaped s) (t cause irqs) : Shaped (setC t cause irqs s) := by
  simp +contextual [setC, hs]
@[simp] theorem shaped_joinC (hs : Shaped s) (t irqs) : Shaped (joinC t irqs s) :=
  shaped_forAll _ _ (fun p u hu => shaped_takeAll (shaped_forAll _ _ (fun i v hv => by simp [hv]) hu) _) (by simp [hs])
@[simp] theorem shaped_rearm (hs : Shaped s) (t) : Shaped (rearm t s) := by simp [rearm, hs]
@[simp] theorem shaped_pruneC (t) : Shaped (pruneC t s) ↔ Shaped s := by simp [pruneC]
@[simp] theorem shaped_closeAfter (hs : Shaped s) (t p m0 c) : Shaped (closeAfter t p m0 c s) := by
  refine shaped_takeAll (shaped_forAll _ _ (fun e u hu => by simp [hu]) ?_) _
  (repeat' split) <;> simp [hs]
@[simp] theorem shaped_commitMember (hs : Shaped s) (n c) : Shaped (commitMember n c s) := by simp [commitMember, hs]
@[simp] theorem shaped_writeThrough (hs : Shaped s) (n addr) : Shaped (writeThrough n addr s) := by simp [writeThrough, hs]
@[simp] theorem shaped_commitSplit (hs : Shaped s) (n c) : Shaped (commitSplit n c s) := by
  unfold commitSplit; split
  · refine shaped_takeAll ?_ n
    split
    · simp [hs]
    · refine shaped_writeThrough ?_ ..
      split <;> simp [hs]
  · exact hs
@[simp] theorem shaped_commitCore (hs : Shaped s) (n c) : Shaped (commitCore n c s) := by simp [commitCore, hs]
@[simp] theorem shaped_loadPrivate (hs : Shaped s) (n addr size) : Shaped (loadPrivate n addr size s).2.2 := by
  simp [loadPrivate, hs]
@[simp] theorem shaped_serveHeld (hs : Shaped s) (t p) : Shaped (serveHeld t p s) := by
  simp only [serveHeld]; (repeat' split) <;> simp [hs]
@[simp] theorem shaped_issueRead (hs : Shaped s) (t n win addr size only) :
    Shaped (issueRead t n win addr size only s) := by
  simp [issueRead, hs]
@[simp] theorem shaped_coreRequest (hs : Shaped s) (n addr size) : Shaped (coreRequest n addr size s) := by
  simp [coreRequest, hs]
@[simp] theorem shaped_serveAll (hs : Shaped s) (t) : Shaped (serveAll t s) := by
  simp +contextual [serveAll, hs]
@[simp] theorem shaped_opSingleIssueRead (hs : Shaped s) (t) : Shaped (opSingleIssueRead t s) := by
  have h := shaped_serveAll hs t
  simp only [opSingleIssueRead]; (repeat' split) <;> simp [h]
@[simp] theorem shaped_amoCommit (hs : Shaped s) (n a old) : Shaped (amoCommit n a old s) := by
  unfold amoCommit; split <;> simp [hs]
@[simp] theorem shaped_coreAmo (hs : Shaped s) (n a) : Shaped (coreAmo n a s) := by simp [coreAmo, hs]
@[simp] theorem shaped_settleTriad (hs : Shaped s) (t) : Shaped (settleTriad t s) := by
  have h := shaped_serveAll hs t
  simp only [settleTriad]; split
  · exact shaped_forAll _ _ (fun p u hu => shaped_takeAll hu _) h
  · exact (shaped_pruneC ..).2 (shaped_advance (shaped_rearm h t) ..)
@[simp] theorem shaped_settleN (hs : Shaped s) (n) : Shaped (settleN n s) := by
  induction n generalizing s with
  | zero => exact hs
  | succ k ih =>
    unfold settleN
    split
    · exact hs
    · exact ih (shaped_forAll _ _ (fun t u hu => shaped_settleTriad hu t) hs)
@[simp] theorem shaped_settle (hs : Shaped s) : Shaped (settle s) := by simp [settle, hs]
@[simp] theorem shaped_opCoreInstruction (hs : Shaped s) (n a) : Shaped (opCoreInstruction n a s) := by
  unfold opCoreInstruction; split <;> simp [hs]
@[simp] theorem shaped_opWindowTimer (hs : Shaped s) (t) : Shaped (opWindowTimer t s) := by simp [opWindowTimer, hs]
@[simp] theorem shaped_opTriadInterrupt (hs : Shaped s) (t p src) : Shaped (opTriadInterrupt t p src s) := by
  simp [opTriadInterrupt, hs]
@[simp] theorem shaped_opLagTimeout (hs : Shaped s) (t) : Shaped (opLagTimeout t s) := by
  simp only [opLagTimeout]; (repeat' split) <;> simp [hs]
@[simp] theorem shaped_opReleasedStoreError (hs : Shaped s) (t addr resp) :
    Shaped (opReleasedStoreError t addr resp s) := by
  simp [opReleasedStoreError, hs]

/-! #### Register access by the maintenance protocol (17) -/

@[simp] theorem shaped_readRegs (hs : Shaped s) (n addr acc) : Shaped (readRegs n addr acc s).2.2 := by
  induction n generalizing addr acc s with
  | zero => exact hs
  | succ k ih =>
    unfold readRegs
    split
    · simp [hs]
    split
    · exact hs
    split
    · exact ih (by simp [hs]) _ _
    · exact ih hs _ _
@[simp] theorem shaped_opReadReg (hs : Shaped s) (r addr count) : Shaped (opReadReg r addr count s) := by
  refine shaped_request hs _ _ _ _ fun x t ht => ?_
  have h := shaped_readRegs ht count addr []
  dsimp only; (repeat' split) <;> simp [h, ht]
@[simp] theorem shaped_opWriteReg (hs : Shaped s) (r addr v) : Shaped (opWriteReg r addr v s) := by
  unfold opWriteReg; (repeat' split) <;> simp +contextual [hs]

end

/-! ### Commands and steps -/

/-- A command keeps the units as its meaning does; one with operands outside the part leaves them. -/
theorem shaped_wfRun {i : Instr} {f : State → State} {s t : State} (h : wfRun i f s = .next t)
    (hf : ∀ u, Shaped u → Shaped (f u)) (hs : Shaped s) : Shaped t := by
  obtain rfl : _ = t := Host.Outcome.next.inj h
  split
  · exact hf s.begin hs
  · exact hs

theorem exec_shaped (c : Instr) {s t : State} (h : exec c s = .next t) (hs : Shaped s) : Shaped t := by
  cases c
  all_goals
    dsimp only [exec] at h
    exact shaped_wfRun h (fun u hu => by simp [hu]) hs

theorem shaped_tick {s : State} (hs : Shaped s) : Shaped (tick s) := by
  obtain ⟨k, a, h, -⟩ := tick_eq s
  rw [h]; exact hs

/-- Settles O60: a step is 8 ns of time, which leave every list as it is, or a command, whose meaning keeps the number of units
of each kind. -/
theorem unitsStayInNumber : Obligations.UnitsStayInNumber := by
  intro s t h hs
  rw [shaped_iff] at hs ⊢
  cases hp : s.pending with
  | nil =>
    obtain rfl : tick s = t := Host.Outcome.next.inj ((step_idle s hp).symm.trans h)
    exact shaped_tick hs
  | cons c r => exact exec_shaped c ((step_front s c r hp).symm.trans h) hs

end Sys2Proof.Machine
end

section
/-! PROOF. The triads' part of the state: what a change of a triad, of a lane and of a core leaves of the others (03 R75). -/

namespace Sys2Proof.Machine

/-! ### A triad changed, a core changed -/

theorem tri_modTri_self {t : Nat} (f : Triad → Triad) {s : State} (h : t < s.trd.triads.length) :
    (modTri t f s).tri t = f (s.tri t) := nth_modAt_self _ _ _ _ h

@[simp] theorem tri_modCore (n : Nat) (f : Core → Core) (s : State) (t : Nat) : (modCore n f s).tri t = s.tri t := by
  unfold modCore; rfl

@[simp] theorem core_modTri (t : Nat) (f : Triad → Triad) (s : State) (n : Nat) : (modTri t f s).core n = s.core n := by
  unfold modTri; rfl

theorem core_modCore_self {n : Nat} (f : Core → Core) {s : State} (h : n < s.trd.cores.length) :
    (modCore n f s).core n = f (s.core n) := nth_modAt_self _ _ _ _ h

theorem core_modCore_ne {n m : Nat} (f : Core → Core) (s : State) (h : m ≠ n) : (modCore n f s).core m = s.core m :=
  nth_modAt_ne _ _ _ h

theorem core_modCore_or (m n : Nat) (f : Core → Core) (s : State) :
    (modCore n f s).core m = s.core m ∨ (modCore n f s).core m = f (s.core m) := nth_modAt_or _ _ _ _ _

@[simp] theorem tri_emit (o : Out) (s : State) (t : Nat) : (emit o s).tri t = s.tri t := by unfold emit; rfl

@[simp] theorem core_emit (o : Out) (s : State) (n : Nat) : (emit o s).core n = s.core n := by unfold emit; rfl

@[simp] theorem tri_begin (s : State) (t : Nat) : s.begin.tri t = s.tri t := by unfold State.begin; rfl

@[simp] theorem core_begin (s : State) (n : Nat) : s.begin.core n = s.core n := by unfold State.begin; rfl

@[simp] theorem length_modTri_triads (t : Nat) (f : Triad → Triad) (s : State) :
    (modTri t f s).trd.triads.length = s.trd.triads.length := by unfold modTri; exact length_modAt _ _ _

@[simp] theorem cores_modTri (t : Nat) (f : Triad → Triad) (s : State) : (modTri t f s).trd.cores = s.trd.cores := by
  unfold modTri; rfl

@[simp] theorem triads_modCore (n : Nat) (f : Core → Core) (s : State) : (modCore n f s).trd.triads = s.trd.triads := by
  unfold modCore; rfl

@[simp] theorem length_modCore_cores (n : Nat) (f : Core → Core) (s : State) :
    (modCore n f s).trd.cores.length = s.trd.cores.length := by unfold modCore; exact length_modAt _ _ _

/-- Two states with the same triads' part have the same triads and cores. -/
theorem tri_congr {s u : State} (h : u.trd = s.trd) (t : Nat) : u.tri t = s.tri t := by rw [State.tri, h]; rfl

theorem core_congr {s u : State} (h : u.trd = s.trd) (n : Nat) : u.core n = s.core n := by rw [State.core, h]; rfl

/-! ### Live positions -/

theorem mem_livePos {x : Triad} {p : Nat} : p ∈ x.livePos ↔ p < 3 ∧ nth x.live p false = true := by
  simp [Triad.livePos]

theorem nodup_livePos (x : Triad) : x.livePos.Nodup := List.Nodup.filter _ List.nodup_range

theorem filled_of_empty {x : Triad} (h : x.empty = [false, false, false]) : x.filled = [0, 1, 2] := by
  rw [Triad.filled, h]; decide

/-! ### A command that does nothing but let the voters act -/

theorem exec_settle_of_run {c : Instr} {f : State → State} {s : State}
    (hx : exec c s = wfRun c (fun s => settle (f s)) s) (hw : c.wf = true) (hop : f s.begin = s.begin) :
    exec c s = .next { settle s.begin with pending := s.pending } := by
  rw [hx, wfRun_next _ _ _ hw, hop]

end Sys2Proof.Machine
end

section
/-! PROOF. The vote (03 R85, R87, R88, R89): the signatures that release a window, a core that is excluded, a triad without a
majority. -/

namespace Sys2Proof.Machine

/-! ### Agreement (R85) -/

/-- The closed windows `n` of the live cores, with their positions. -/
def Triad.delivered (x : Triad) (n : Nat) : List (Nat × Win) :=
  x.livePos.filterMap (fun p => (match (x.lane p).closed n with
    | some w => some (p, w)
    | none => none))

theorem mem_delivered {x : Triad} {n p : Nat} {w : Win} :
    (p, w) ∈ x.delivered n ↔ p ∈ x.livePos ∧ (x.lane p).closed n = some w := by
  unfold Triad.delivered
  rw [List.mem_filterMap]
  constructor
  · rintro ⟨q, hq, h⟩
    split at h
    · rename_i v hv
      obtain ⟨rfl, rfl⟩ := Prod.mk.inj (Option.some.inj h)
      exact ⟨hq, hv⟩
    · cases h
  · rintro ⟨hp, hw⟩
    exact ⟨p, hp, by rw [hw]⟩

/-- The windows delivered are of different positions. -/
theorem pairwise_delivered (x : Triad) (n : Nat) : (x.delivered n).Pairwise (fun a b => a.1 ≠ b.1) := by
  unfold Triad.delivered
  refine List.Pairwise.filterMap _ (fun p q hpq a ha b hb => ?_) (nodup_livePos x)
  split at ha
  · split at hb
    · obtain rfl := Option.some.inj ha
      obtain rfl := Option.some.inj hb
      exact hpq
    · cases hb
  · cases ha

/-- What two agreeing deliveries are: a delivery, and another one behind it with the same signature. -/
theorem agreed_split {x : Triad} {n p : Nat} {w : Win} (h : x.agreed n = some (p, w)) :
    ∃ pre rest, x.delivered n = pre ++ (p, w) :: rest ∧ ∃ b ∈ rest, b.2.sig = w.sig := by
  change (match x.delivered n with
    | [] => none
    | a :: rest =>
      if rest.any (fun b => decide (b.2.sig = a.2.sig)) then some a
      else
        match rest with
        | [] => none
        | b :: rest => if rest.any (fun c => decide (c.2.sig = b.2.sig)) then some b else none) = some (p, w) at h
  split at h
  · cases h
  · rename_i a rest hl
    split at h
    · rename_i hany
      obtain rfl := Option.some.inj h
      exact ⟨[], rest, hl, by simpa using hany⟩
    · cases rest with
      | nil => cases h
      | cons b rest =>
        dsimp only at h
        split at h
        · rename_i hany
          obtain rfl := Option.some.inj h
          exact ⟨[a], rest, hl, by simpa using hany⟩
        · cases h

/-- R85: what is agreed has been delivered by two live cores with equal signatures. -/
theorem agreed_two {x : Triad} {n p : Nat} {w : Win} (h : x.agreed n = some (p, w)) :
    (x.lane p).closed n = some w ∧ p ∈ x.livePos ∧
      ∃ q v, q ≠ p ∧ q ∈ x.livePos ∧ (x.lane q).closed n = some v ∧ v.sig = w.sig := by
  obtain ⟨pre, rest, hl, ⟨q, v⟩, hb, hsig⟩ := agreed_split h
  have hpair := pairwise_delivered x n
  rw [hl] at hpair
  have hne : q ≠ p := ((List.pairwise_cons.1 (List.pairwise_append.1 hpair).2.1).1 _ hb).symm
  obtain ⟨hp, hw⟩ := mem_delivered.1 (show (p, w) ∈ x.delivered n by simp [hl])
  obtain ⟨hq, hv⟩ := mem_delivered.1 (show (q, v) ∈ x.delivered n by simp [hl, hb])
  exact ⟨hw, hp, q, v, hne, hq, hv, hsig⟩

/-! ### Exclusion (R88) -/

/-- Claiming a reserve changes two fields of the triad. -/
theorem claimReserve_tri {t : Nat} {s : State} (hl : t < s.trd.triads.length) : ∃ sel,
    (claimReserve t s).tri t = { s.tri t with reintPending := (freeReserve s).isSome, reserveSel := sel } := by
  unfold claimReserve
  split
  case h_1 hf => exact ⟨(s.tri t).reserveSel, by rw [tri_modTri_self _ hl, hf]; rfl⟩
  case h_2 r hf => exact ⟨r, by rw [tri_modTri_self _ (by exact hl), hf]; rfl⟩

/-- A claimed reserve is in reset: claiming it makes no core run. -/
theorem claimReserve_held {t n : Nat} {s : State} (h : (s.core n).running = false) :
    ((claimReserve t s).core n).running = false := by
  unfold claimReserve
  split
  · exact h
  · rw [core_modTri]
    rcases core_modCore_or n _ _ _ with hn | hn <;> rw [hn]
    exact h

/-- The triad that has lost the core of position `p`. -/
def Triad.without (x : Triad) (p : Nat) : Triad :=
  { x with
    lanes := modAt x.lanes p (fun _ => {}), live := modAt x.live p (fun _ => false),
    empty := modAt x.empty p (fun _ => true),
    held := x.held.filter (fun h => x.livePos.any (fun q => decide (q ≠ p) && !h.given.contains q)),
    state := if x.state = 1 then 2 else x.state, excludedCore := x.coreAt p }

/-- A core out of its triad, before its error is raised and a reserve claimed. -/
def coreOut (t p : Nat) (s : State) : State :=
  { modTri t (fun (x : Triad) => { x.without p with excludedCore := (s.tri t).coreAt p })
      (modCore ((s.tri t).coreAt p) (fun (c : Core) => { c with role := 4, running := false }) s) with
    thr := { s.thr with excluded := s.thr.excluded ++ [(s.tri t).coreAt p] } }

theorem excludeCore_eq (t p bit code n cause : Nat) (s : State) : excludeCore t p bit code n cause s =
    claimReserve t (raiseCore bit code cause ((s.tri t).coreAt p) p t n (w32 n) (w32 cause) (coreOut t p s)) := rfl

theorem only_coreOut (t p s) : Only [.trd, .thr] s (coreOut t p s) := by simp [only_iff, coreOut, modTri, modCore]

theorem coreOut_tri {t : Nat} (p : Nat) {s : State} (hl : t < s.trd.triads.length) :
    (coreOut t p s).tri t = (s.tri t).without p := by
  unfold coreOut
  exact tri_modTri_self _ (by simpa using hl)

theorem coreOut_core {t p : Nat} {s : State} (h : (s.tri t).coreAt p < s.trd.cores.length) :
    ((coreOut t p s).core ((s.tri t).coreAt p)).running = false := by
  have hcore := core_modCore_self (fun (c : Core) => { c with role := 4, running := false }) h
  exact congrArg Core.running hcore

theorem length_coreOut (t p : Nat) (s : State) : (coreOut t p s).trd.triads.length = s.trd.triads.length := by
  simp [coreOut]

/-- R88: the excluded core is held in reset and recorded, the triad goes on without it, and a free reserve is claimed. -/
theorem excludeCore_excludes {t p bit : Nat} (code n cause : Nat) {s : State} (hq : s.sup.quenchSince = none)
    (hl : t < s.trd.triads.length) (hb : bit < 32) (hc : (s.tri t).coreAt p < s.trd.cores.length) :
    Only [.trd, .thr, .grn] s (excludeCore t p bit code n cause s) ∧
      ((excludeCore t p bit code n cause s).core ((s.tri t).coreAt p)).running = false ∧
      (∃ sel, (excludeCore t p bit code n cause s).tri t =
        { (s.tri t).without p with reintPending := (freeReserve s).isSome, reserveSel := sel }) ∧
      (excludeCore t p bit code n cause s).thr = { s.thr with excluded := s.thr.excluded ++ [(s.tri t).coreAt p] } ∧
      bitOf (excludeCore t p bit code n cause s).trd.err.status bit = true := by
  have hout := only_coreOut t p s
  obtain ⟨g, hg⟩ := raiseCore_calm bit code cause ((s.tri t).coreAt p) p t n (w32 n) (w32 cause) (s := coreOut t p s) hq
  rw [excludeCore_eq, hg]
  have hraise : Only [.trd, .grn] (coreOut t p s)
      { errTrd bit (trdInfo bit cause ((s.tri t).coreAt p) p t) n (coreOut t p s) with grn := g } := by simp [only_iff, errTrd]
  have htri := coreOut_tri p hl
  have hlen := length_coreOut t p s
  obtain ⟨honly, herr, -⟩ := claimReserve_trd (t := t)
    (s := { errTrd bit (trdInfo bit cause ((s.tri t).coreAt p) p t) n (coreOut t p s) with grn := g })
    (by rw [← hlen] at hl; exact hl)
  obtain ⟨sel, hclaim⟩ := claimReserve_tri (t := t)
    (s := { errTrd bit (trdInfo bit cause ((s.tri t).coreAt p) p t) n (coreOut t p s) with grn := g })
    (by rw [← hlen] at hl; exact hl)
  refine ⟨((hout.weaken (by decide)).then hraise (by decide)).then honly (by decide), claimReserve_held (coreOut_core hc),
    ⟨sel, ?_⟩, honly .thr (by decide), ?_⟩
  · rw [hclaim, ← htri]; rfl
  · rw [herr]; exact raise_status_self _ hb _ _ _

/-! ### The outcome of a window (R87, R88) -/

theorem only_dropWin (t n s) : Only [.trd] s (dropWin t n s) := only_modTri _ _ _

/-- A live core is out of line with window `w`: it has not delivered, or differs. -/
def Triad.strays (x : Triad) (n : Nat) (w : Win) (q : Nat) : Bool :=
  match (x.lane q).closed n with
  | some v => decide (v.sig ≠ w.sig)
  | none => true

theorem head_of_forall_eq {α : Type} {l : List α} {q : α} (hq : q ∈ l) (h : ∀ p ∈ l, p = q) : ∃ r, l = q :: r := by
  cases l with
  | nil => cases hq
  | cons a r => exact ⟨r, by rw [h a List.mem_cons_self]⟩

/-- The live cores whose window `n` differs from `w`. -/
def Triad.differing (x : Triad) (n : Nat) (w : Win) : List Nat :=
  x.livePos.filter (fun p => (match (x.lane p).closed n with
    | some v => decide (v.sig ≠ w.sig)
    | none => false))

/-- The live cores that have not delivered window `n`. -/
def Triad.silent (x : Triad) (n : Nat) : List Nat := x.livePos.filter (fun p => ((x.lane p).closed n).isNone)

theorem voteOutcome_agreed {t n p : Nat} {w : Win} {s : State} (ha : (s.tri t).agreed n = some (p, w)) :
    voteOutcome t n s = (match (s.tri t).differing n w, (s.tri t).silent n with
      | p :: _, _ => excludeCore t p 0 0x3001 n w.cause (dropWin t n s)
      | [], p :: _ => excludeCore t p 2 0x3003 n w.cause (dropWin t n s)
      | [], [] => dropWin t n s) := by
  unfold voteOutcome
  dsimp only
  rw [ha]
  rfl

section
variable {x : Triad} {n q : Nat} {w : Win}

theorem mem_differing : q ∈ x.differing n w ↔ q ∈ x.livePos ∧ ∃ v, (x.lane q).closed n = some v ∧ v.sig ≠ w.sig := by
  unfold Triad.differing
  rw [List.mem_filter]
  cases (x.lane q).closed n <;> simp

theorem mem_silent : q ∈ x.silent n ↔ q ∈ x.livePos ∧ (x.lane q).closed n = none := by
  simp [Triad.silent]

/-- The cores out of line are those that differ and those that are silent. -/
theorem mem_strays : q ∈ x.livePos.filter (x.strays n w) ↔ q ∈ x.differing n w ∨ q ∈ x.silent n := by
  rw [List.mem_filter, mem_differing, mem_silent, Triad.strays]
  cases (x.lane q).closed n <;> simp

end

/-- With one core out of line the outcome is its exclusion: with MISMATCH where it has delivered, else with LAG. -/
theorem voteOutcome_excludes {t n p q : Nat} {w : Win} {s : State} (ha : (s.tri t).agreed n = some (p, w))
    (hq : (s.tri t).livePos.filter ((s.tri t).strays n w) = [q]) :
    voteOutcome t n s = if (((s.tri t).lane q).closed n).isSome then excludeCore t q 0 0x3001 n w.cause (dropWin t n s)
      else excludeCore t q 2 0x3003 n w.cause (dropWin t n s) := by
  have hone : ∀ r, r ∈ (s.tri t).differing n w ∨ r ∈ (s.tri t).silent n → r = q := fun r hr =>
    List.mem_singleton.1 (hq ▸ mem_strays.2 hr)
  have hmem : q ∈ (s.tri t).differing n w ∨ q ∈ (s.tri t).silent n := mem_strays.1 (hq ▸ List.mem_singleton_self q)
  rw [voteOutcome_agreed ha]
  rcases hmem with hin | hin
  · obtain ⟨r, hr⟩ := head_of_forall_eq hin fun r hr => hone r (.inl hr)
    obtain ⟨-, v, hv, -⟩ := mem_differing.1 hin
    rw [hr, hv]
    rfl
  · have hnone := (mem_silent.1 hin).2
    have hnil : (s.tri t).differing n w = [] := List.eq_nil_iff_forall_not_mem.2 fun r hr => by
      obtain ⟨-, v, hv, -⟩ := mem_differing.1 hr
      rw [hone r (.inl hr), hnone] at hv
      cases hv
    obtain ⟨r, hr⟩ := head_of_forall_eq hin fun r hr => hone r (.inr hr)
    rw [hnil, hr, hnone]
    rfl

/-! ### The lag timer (R87 to R89) -/

section
variable {s : State} {t t0 cause : Nat}

theorem opLagTimeout_due
    (hg : (s.tri t).lags.find? (fun g => decide (g.1 = (s.tri t).voteNum)) = some ((s.tri t).voteNum, t0, cause))
    (hv : (s.tri t).votes = true) (hd : t0 + 45000 ≤ s.clk.now) :
    opLagTimeout t s.begin = voteOutcome t (s.tri t).voteNum s.begin := by
  unfold opLagTimeout
  simp [hg, hv, due, hd]

theorem opLagTimeout_early
    (hg : (s.tri t).lags.find? (fun g => decide (g.1 = (s.tri t).voteNum)) = some ((s.tri t).voteNum, t0, cause))
    (hd : s.clk.now < t0 + 45000) : opLagTimeout t s.begin = s.begin := by
  unfold opLagTimeout
  simp [hg, due, Nat.not_le.2 hd]

theorem lagTimeout_excludes (ht : t < 6) (hl : t < s.trd.triads.length) (hqu : s.sup.quenchSince = none)
    (hv : (s.tri t).votes = true)
    (hg : (s.tri t).lags.find? (fun g => decide (g.1 = (s.tri t).voteNum)) = some ((s.tri t).voteNum, t0, cause))
    (hd : t0 + 45000 ≤ s.clk.now) {p q : Nat} {w : Win} (ha : (s.tri t).agreed (s.tri t).voteNum = some (p, w)) (hq3 : q < 3)
    (hq : (s.tri t).livePos.filter ((s.tri t).strays (s.tri t).voteNum w) = [q])
    (hc : (s.tri t).coreAt q < s.trd.cores.length) (h1 : (s.tri t).state = 1) (hlive : (s.tri t).live.length = 3) :
    GivesSettled [.trd, .thr, .grn] (.lagTimeout t) s (fun u =>
      (u.core ((s.tri t).coreAt q)).running = false ∧ (u.tri t).state = 2 ∧ nth (u.tri t).live q true = false ∧
      (u.tri t).voteNum = (s.tri t).voteNum + 1 ∧
      u.thr = { s.thr with excluded := s.thr.excluded ++ [(s.tri t).coreAt q] } ∧
      (u.tri t).reintPending = (freeReserve s).isSome ∧
      ((((s.tri t).lane q).closed (s.tri t).voteNum).isNone = true → bitOf u.trd.err.status 2 = true) ∧
      ((((s.tri t).lane q).closed (s.tri t).voteNum).isSome = true → bitOf u.trd.err.status 0 = true)) := by
  have hop := (opLagTimeout_due hg hv hd).trans (voteOutcome_excludes (s := s.begin) ha hq)
  have hdrop := only_dropWin t (s.tri t).voteNum s.begin
  have htri : (dropWin t (s.tri t).voteNum s.begin).tri t = _ := tri_modTri_self _ hl
  have hexcl : ∀ bit code, bit < 32 → _ := fun bit code hb =>
    excludeCore_excludes (t := t) (p := q) (bit := bit) code (s.tri t).voteNum w.cause
    (s := dropWin t (s.tri t).voteNum s.begin) hqu (by simpa [dropWin] using hl) hb (by rw [htri]; exact hc)
  have hstate : ((s.tri t).without q).state = 2 := by simp [Triad.without, h1]
  have hout : nth ((s.tri t).without q).live q true = false := by
    show nth (modAt (s.tri t).live q (fun _ => false)) q true = false
    rw [nth_modAt_self _ _ _ _ (by omega)]
  rw [htri] at hexcl
  cases hcl : ((s.tri t).lane q).closed (s.tri t).voteNum with
  | some v =>
    obtain ⟨honly, hcore, ⟨sel, hu⟩, hthr, hbit⟩ := hexcl 0 0x3001 (by decide)
    rw [show (s.begin.tri t).lane q = (s.tri t).lane q from rfl, hcl, Option.isSome_some, if_pos rfl] at hop
    refine givesSettled_of_run (exec_lagTimeout t s) (by simp [Instr.wf, ht]) ?_ ?_ <;> rw [hop]
    · exact (hdrop.weaken (by decide)).then honly (by decide)
    · rw [hu]
      exact ⟨hcore, hstate, hout, rfl, hthr, rfl, fun h => absurd h (by simp), fun _ => hbit⟩
  | none =>
    obtain ⟨honly, hcore, ⟨sel, hu⟩, hthr, hbit⟩ := hexcl 2 0x3003 (by decide)
    rw [show (s.begin.tri t).lane q = (s.tri t).lane q from rfl, hcl, Option.isSome_none, if_neg (by decide)] at hop
    refine givesSettled_of_run (exec_lagTimeout t s) (by simp [Instr.wf, ht]) ?_ ?_ <;> rw [hop]
    · exact (hdrop.weaken (by decide)).then honly (by decide)
    · rw [hu]
      exact ⟨hcore, hstate, hout, rfl, hthr, rfl, fun _ => hbit, fun h => absurd h (by simp)⟩

/-- A module without tasks runs no Safety or Control task. -/
theorem runsSafety_of_idle (h : s.img.tasks = []) : runsSafety s t = false := by rw [runsSafety, h]; rfl

/-- A halt after an error leaves the module state to a triad without Safety and Control tasks. -/
theorem raised_halts_mod {bit code c window : Nat} {d0 d1 : Word} (hqu : s.sup.quenchSince = none)
    (hs : runsSafety s t = false) : (haltTriad t c (raiseTriad bit code cause t window d0 d1 s)).mod = s.mod := by
  obtain ⟨g, hg⟩ := raiseTriad_calm bit code cause t window d0 d1 hqu
  rw [hg, haltTriad_plain _ (by exact hs), halted_mod]
  rfl

theorem lagTimeout_noMajority (ht : t < 6) (hl : t < s.trd.triads.length) (hqu : s.sup.quenchSince = none)
    (hv : (s.tri t).votes = true)
    (hg : (s.tri t).lags.find? (fun g => decide (g.1 = (s.tri t).voteNum)) = some ((s.tri t).voteNum, t0, cause))
    (hd : t0 + 45000 ≤ s.clk.now) (ha : (s.tri t).agreed (s.tri t).voteNum = none) :
    ∃ u, exec (.lagTimeout t) s = .next { settle u with pending := s.pending } ∧
      (u.tri t).state = 6 ∧ bitOf u.trd.err.status 1 = true ∧ (s.img.tasks = [] → u.mod = s.mod) ∧
      (runsSafety s t = true → s.mod.mode = .run → u.mod.mode = .safe) := by
  have hop : opLagTimeout t s.begin =
      noMajority t (s.tri t).voteNum ((s.tri t).firstCause (s.tri t).voteNum) s.begin := by
    rw [opLagTimeout_due hg hv hd, voteOutcome, show (s.begin.tri t).agreed (s.tri t).voteNum = none from ha]
    rfl
  have hx := (exec_lagTimeout t s).trans (wfRun_next _ _ _ (by simp [Instr.wf, ht]))
  rw [hop, noMajority] at hx
  obtain ⟨hstate, hbit, hsafe⟩ := raised_halts (bit := 1) (code := 0x3002)
    (cause := (s.tri t).firstCause (s.tri t).voteNum) (t := t) (window := (s.tri t).voteNum) (c := 0x3002)
    (d0 := w32 (s.tri t).voteNum) (d1 := w32 ((s.tri t).firstCause (s.tri t).voteNum)) (s := s.begin) hqu (by decide) hl
  exact ⟨_, hx, hstate, hbit,
    fun hno => raised_halts_mod (s := s.begin) hqu (runsSafety_of_idle hno), hsafe⟩

end

/-- Settles O15: what is agreed has two equal deliveries; at the lag timer's end the one core out of line is excluded, and
without a majority the triad halts. -/
theorem lagTimerVote : Obligations.LagTimerVote := by
  intro s t t0 cause ht hl hqu
  refine ⟨fun n p w => agreed_two, fun hv hg hd => ⟨fun p w ha q hq3 hq hc h1 _ _ hlive => ?_, fun ha => ?_⟩, fun hg hd => ?_⟩
  · exact lagTimeout_excludes ht hl hqu hv hg hd ha hq3 hq hc h1 hlive
  · exact lagTimeout_noMajority ht hl hqu hv hg hd ha
  · exact exec_settle_of_run (exec_lagTimeout t s) (by simp [Instr.wf, ht]) (opLagTimeout_early hg hd)

end Sys2Proof.Machine
end

section
/-! PROOF. Windows, commits and traps: what each of them makes of its triad and its core (03 R72, R78 to R84). -/

namespace Sys2Proof.Machine

/-! ### A triad put in place

What the operations of this part do to a triad they do from what it was: each is written once as the triad that it makes. -/

theorem modAt_congr {α : Type} {l : List α} {i : Nat} {f g : α → α} {d : α} (h : f (nth l i d) = g (nth l i d)) :
    modAt l i f = modAt l i g := by
  induction l generalizing i with
  | nil => rfl
  | cons a l ih =>
    cases i with
    | zero => exact congrArg (· :: l) h
    | succ i => exact congrArg (a :: ·) (ih h)

theorem modAt_modAt {α : Type} (l : List α) (i : Nat) (f g : α → α) :
    modAt (modAt l i f) i g = modAt l i (fun a => g (f a)) := by
  induction l generalizing i with
  | nil => rfl
  | cons a l ih =>
    cases i with
    | zero => rfl
    | succ i => exact congrArg (a :: ·) (ih i)

/-- Triad `t` is `x`. -/
def putTri (t : Nat) (x : Triad) (s : State) : State := modTri t (fun _ => x) s

theorem modTri_eq_putTri (t : Nat) (f : Triad → Triad) (s : State) : modTri t f s = putTri t (f (s.tri t)) s := by
  unfold putTri modTri
  rw [modAt_congr (d := {})]
  rfl

theorem modTri_putTri (t : Nat) (f : Triad → Triad) (x : Triad) (s : State) :
    modTri t f (putTri t x s) = putTri t (f x) s := by
  simp only [putTri, modTri, modAt_modAt]

theorem putTri_putTri (t : Nat) (x y : Triad) (s : State) : putTri t y (putTri t x s) = putTri t y s :=
  modTri_putTri _ _ _ _

@[simp] theorem length_putTri_triads (t : Nat) (x : Triad) (s : State) :
    (putTri t x s).trd.triads.length = s.trd.triads.length := length_modTri_triads _ _ _

@[simp] theorem cores_putTri (t : Nat) (x : Triad) (s : State) : (putTri t x s).trd.cores = s.trd.cores :=
  cores_modTri _ _ _

theorem putTri_self (t : Nat) (s : State) : putTri t (s.tri t) s = s := by
  unfold putTri modTri State.tri
  rw [modAt_nth]

theorem tri_putTri_self {t : Nat} (x : Triad) {s : State} (h : t < s.trd.triads.length) : (putTri t x s).tri t = x :=
  tri_modTri_self _ h

theorem tri_putTri_ne {k t : Nat} (h : k ≠ t) (x : Triad) (s : State) : (putTri t x s).tri k = s.tri k :=
  tri_modTri_ne h _ _

theorem tri_putTri_or (k t : Nat) (x : Triad) (s : State) :
    (putTri t x s).tri k = s.tri k ∨ k = t ∧ (putTri t x s).tri k = x := by
  by_cases h : k = t
  · rcases tri_modTri_or k t (fun _ => x) s with hx | hx
    · exact .inl hx
    · exact .inr ⟨h, hx⟩
  · exact .inl (tri_putTri_ne h x s)

@[simp] theorem core_putTri (t : Nat) (x : Triad) (s : State) (n : Nat) : (putTri t x s).core n = s.core n :=
  core_modTri _ _ _ _

theorem only_putTri (t x s) : Only [.trd] s (putTri t x s) := only_modTri _ _ _

/-! ### Lanes -/

/-- The lane of position `p` changed. -/
def Triad.atLane (x : Triad) (p : Nat) (f : Lane → Lane) : Triad := { x with lanes := modAt x.lanes p f }

theorem modLane_eq (t p : Nat) (f : Lane → Lane) (s : State) : modLane t p f s = putTri t ((s.tri t).atLane p f) s :=
  modTri_eq_putTri _ _ _

theorem lane_atLane_self {x : Triad} {p : Nat} (f : Lane → Lane) (h : p < x.lanes.length) :
    (x.atLane p f).lane p = f (x.lane p) := nth_modAt_self _ _ _ _ h

theorem lane_atLane_ne {x : Triad} {p q : Nat} (h : q ≠ p) (f : Lane → Lane) : (x.atLane p f).lane q = x.lane q :=
  nth_modAt_ne _ _ _ h

theorem lane_atLane_or (x : Triad) (p q : Nat) (f : Lane → Lane) :
    (x.atLane p f).lane q = x.lane q ∨ q = p ∧ (x.atLane p f).lane q = f (x.lane q) := by
  by_cases h : q = p
  · rcases nth_modAt_or x.lanes p q f {} with hl | hl
    · exact .inl hl
    · exact .inr ⟨h, hl⟩
  · exact .inl (lane_atLane_ne h f)

@[simp] theorem length_atLane (x : Triad) (p : Nat) (f : Lane → Lane) : (x.atLane p f).lanes.length = x.lanes.length := by
  unfold Triad.atLane; exact length_modAt _ _ _

/-- A lane whose last window is `w` is open while that window is. -/
theorem open_append {l : Lane} {ws : List Win} {w : Win} (h : l.wins = ws ++ [w]) : l.open' = decide (w.cause = 0) := by
  simp [Lane.open', h]

theorem modLast_append (f : Win → Win) (ws : List Win) (w : Win) : modLast f (ws ++ [w]) = ws ++ [f w] := by
  induction ws with
  | nil => rfl
  | cons a ws ih =>
    rw [List.cons_append, List.cons_append, ← ih]
    cases ws <;> rfl

/-- An open lane has a last window, and it is open. -/
theorem wins_of_open {l : Lane} (h : l.open' = true) : ∃ ws w, l.wins = ws ++ [w] ∧ w.cause = 0 := by
  rcases List.eq_nil_or_concat l.wins with hl | ⟨ws, w, hl⟩
  · simp [Lane.open', hl] at h
  · rw [List.concat_eq_append] at hl
    exact ⟨ws, w, hl, by simpa [open_append hl] using h⟩

/-! ### Windows opened and closed (R80, R81) -/

/-- The lane with its next window open. -/
def Lane.opened (n : Nat) (l : Lane) : Lane := { l with wins := l.wins ++ [⟨n, sigInit, [], 0⟩], nextNum := n + 1 }

/-- The triad in which the core of position `p` has opened its next window. -/
def Triad.opens (x : Triad) (p : Nat) (c : Clk) : Triad :=
  if (x.lane p).open' then x
  else if (x.lane p).nextNum < x.stampWin then x.atLane p (Lane.opened (x.lane p).nextNum)
  else { x.atLane p (Lane.opened (x.lane p).nextNum) with
    stamps := FMap.store x.stamps 0 (x.lane p).nextNum (BitVec.ofNat 64 c.tb), stampWin := (x.lane p).nextNum + 1,
    openedAt := some c.now }

theorem openWin_eq (t p : Nat) (s : State) : openWin t p s = putTri t ((s.tri t).opens p s.clk) s := by
  unfold openWin Triad.opens
  dsimp only
  split
  · rw [putTri_self]
  · split
    · exact modLane_eq _ _ _ _
    · rw [modLane_eq, modTri_putTri]
      rfl

/-- The lane with its last window closed by `cause`; a window that has been released keeps no entries. -/
def Lane.closedBy (cause n rel : Nat) (l : Lane) : Lane :=
  { l with wins := modLast (fun (w : Win) => { w with
      sig := sigRecord w.sig (closeWord cause w.stores.length) (BitVec.ofNat 64 n), cause := cause,
      stores := if n < rel then [] else w.stores }) l.wins }

/-- The triad in which the core of position `p` has closed its open window. -/
def Triad.closes (x : Triad) (p cause now : Nat) : Triad :=
  if (x.lane p).open' then
    { x.atLane p (Lane.closedBy cause ((x.lane p).nextNum - 1) x.relNum) with
      lags := if x.lags.any (fun g => decide (g.1 = (x.lane p).nextNum - 1)) then x.lags
        else x.lags ++ [((x.lane p).nextNum - 1, now, cause)] }
  else x

theorem closeWin_eq (t p cause : Nat) (s : State) :
    closeWin t p cause s = putTri t ((s.tri t).closes p cause s.clk.now) s := by
  unfold closeWin Triad.closes
  dsimp only
  cases h : ((s.tri t).lane p).open'
  · rw [Bool.not_false, if_pos rfl, if_neg (by decide), putTri_self]
  · rw [Bool.not_true, if_neg (by decide), if_pos rfl, modLane_eq, modTri_putTri]
    rfl

/-! ### Instructions folded (R78, R84) -/

/-- The lane with an instruction's records in its last window. -/
def Lane.folds (k : Core) (c : Commit) (l : Lane) : Lane :=
  { l with wins := modLast (fun (w : Win) => { w with
      sig := foldCommit k c w.sig,
      stores := (match c.store with
        | some st => w.stores ++ [st]
        | none => w.stores) }) l.wins }

/-- The triad that keeps its highest LEVEL. -/
def Triad.noted (x : Triad) : Triad := { x with highWater := (x.lanes.map Lane.level).foldl Nat.max x.highWater }

/-- The triad in which core `k` has committed an instruction. -/
def Triad.commits (x : Triad) (k : Core) (c : Commit) (clk : Clk) : Triad :=
  ((x.opens k.pos clk).atLane k.pos (Lane.folds k c)).noted

theorem modTri_modCore (t n : Nat) (f : Triad → Triad) (g : Core → Core) (s : State) :
    modTri t f (modCore n g s) = modCore n g (modTri t f s) := rfl

theorem foldMember_eq (n : Nat) (c : Commit) (s : State) : foldMember n c s = modCore n (commitRegs c)
    (putTri (s.core n).triad ((s.tri (s.core n).triad).commits (s.core n) c s.clk) s) := by
  unfold foldMember noteLevel
  dsimp only
  rw [modTri_modCore, openWin_eq, modLane, modTri_putTri, modTri_putTri]
  rfl

/-- The lane's last window has the 256 entries that close it. -/
def Lane.full (l : Lane) : Bool :=
  match l.wins.getLast? with
  | some w => decide (256 ≤ w.stores.length)
  | none => false

/-- After an instruction at a triad that has set no C: the window closes with STORES, or with CONTROL, and the core of the
position takes its interrupts. -/
theorem closeAfter_eq {t : Nat} (p m0 : Nat) (c : Commit) {s : State} (h : (s.tri t).closeAt = []) :
    closeAfter t p m0 c s = takeAll ((s.tri t).coreAt p)
      (if ((s.tri t).lane p).full then closeWin t p 1 s else if toCtrl c then closeWin t p 5 s else s) := by
  unfold closeAfter
  dsimp only
  rw [h]
  rfl

theorem commitMember_goes {n : Nat} {c : Commit} {s : State} (h : mayCommit s n = true)
    (hs : (c.store.isSome && ((s.tri (s.core n).triad).lane (s.core n).pos).stalls (s.tri (s.core n).triad).relNum) = false) :
    commitMember n c s =
      closeAfter (s.core n).triad (s.core n).pos (s.core n).minstret c (foldMember n c s) := by
  unfold commitMember
  dsimp only
  rw [h, hs]
  rfl

/-! ### Traps and interrupts that a core takes (R72, R82) -/

theorem trapCore_split {n : Nat} {s : State} (h : (s.core n).role = 1) (irq : Bool) (code : Nat) (v : Dword) :
    trapCore n irq code v s = modCore n (commitRegs (trapCommit (s.core n) (s.core n).pc irq code v)) s := if_pos h

/-- A core that has been given no interrupt takes none. -/
theorem takeAll_nil {n : Nat} {s : State} (h : (s.core n).intr = []) : takeAll n s = s := by
  rw [takeAll, h]; rfl

/-- A core in user mode with every interrupt enabled, and none delegated, takes any. -/
theorem irqEnabled_user {k : Core} (hall : k.csrAt 0x304 = BitVec.allOnes 64) (hdel : k.csrAt 0x303 = 0) (hp : k.priv = 0)
    {code : Nat} (hc : code < 64) : irqEnabled k code = true := by
  have hon : (BitVec.allOnes 64).getLsbD code = true := by rw [BitVec.getLsbD_allOnes]; exact decide_eq_true hc
  have hoff : (0 : Dword).getLsbD code = false := BitVec.getLsbD_zero
  rw [irqEnabled, hall, hdel, hp, hon, hoff]
  rfl

/-- The one source that a core has been given, where it would take any. -/
theorem takes_user {k : Core} {i : Nat} (hall : k.csrAt 0x304 = BitVec.allOnes 64) (hdel : k.csrAt 0x303 = 0)
    (hp : k.priv = 0) (hi : k.intr = [i]) : k.takes = some i := by
  have hon : irqEnabled k (Config.irqCode i % 64) = true := irqEnabled_user hall hdel hp (Nat.mod_lt _ (by decide))
  have hne : k.csrAt 0x304 ≠ 0 := by rw [hall]; decide
  rw [Core.takes, if_neg hne, hi]
  exact List.find?_cons_of_pos hon

/-- A split core that has been given one source and would take it: it traps, and nothing else changes. -/
theorem takeAll_one {n i : Nat} {s : State} (hi : (s.core n).intr = [i]) (ht : (s.core n).takes = some i)
    (hr : (s.core n).role = 1) (hn : n < s.trd.cores.length) :
    ∃ c, takeAll n s = modCore n (commitRegs c) (modCore n (fun (k : Core) => { k with intr := k.intr.erase i }) s) := by
  have hr' : ((modCore n (fun (k : Core) => { k with intr := k.intr.erase i }) s).core n).role = 1 := by
    rw [core_modCore_self _ hn]; exact hr
  have hone : takeAll n s = trapCore n true (Config.irqCode i % 64) 0
      (modCore n (fun (k : Core) => { k with intr := k.intr.erase i }) s) := by
    rw [takeAll, hi, show [i].length = 1 from rfl, takeIrqs, ht]
    rfl
  exact ⟨_, hone.trans (trapCore_split hr' _ _ _)⟩

/-- What an instruction writes leaves the interrupts that the core has been given. -/
theorem putCsrs_intr (l : List (Nat × Dword)) (k : Core) : (putCsrs l k).intr = k.intr := by
  induction l generalizing k with
  | nil => rfl
  | cons a l ih =>
    rw [putCsrs, ih]
    unfold csrPut
    (repeat' split) <;> rfl

theorem takeRet_intr (r : TrapRet) (k : Core) : (takeRet r k).intr = k.intr := by cases r <;> rfl

theorem commitRegs_intr (c : Commit) (k : Core) : (commitRegs c k).intr = k.intr := by
  unfold commitRegs
  dsimp only
  split
  · rfl
  · split
    · rw [takeRet_intr]
      exact putCsrs_intr _ _
    · exact putCsrs_intr _ _

end Sys2Proof.Machine
end

section
/-! PROOF. A member's instruction in a triad whose position another core holds (03 R72, R82). -/

namespace Sys2Proof.Machine

/-- A split core in user mode, every interrupt enabled, that has been given one. -/
def interrupted : Core := { role := 1, priv := 0, csr := [(0x304, BitVec.allOnes 64)], intr := [0] }

/-- Core 1 counts itself to position 0 of a voting triad that holds core 0 there; core 0 has an interrupt to take. The triad
stands behind the six that the voters settle, so that what the command leaves is its own effect. -/
def misplaced : State :=
  { trd := {
      triads := List.replicate 6 {} ++ [{ state := 1, live := [true, true, true] }]
      cores := [interrupted, { triad := 6, running := true }] } }

/-- A committed instruction that writes nothing. -/
def noEffect : Commit := ⟨0, 4, none, none, none, none, [], none, none, false⟩

/-- Triads in reset have nothing to settle. -/
theorem rest_of_reset {s : State} (h : ∀ t, t < 6 → s.tri t = {}) : TriadsAtRest s :=
  List.all_eq_true.2 fun t ht => by
    rw [settled, h t (List.mem_range.1 ht)]
    rfl

theorem misplaced_reset {t : Nat} (h : t < 6) : misplaced.tri t = {} := by interval_cases t <;> rfl

/-- What the instruction of core 1 leaves before core 0 takes its interrupt. -/
def folded : State := foldMember 1 noEffect misplaced.begin

theorem folded_core : folded.core 0 = interrupted := by
  rw [folded, foldMember_eq, core_modCore_ne _ _ (by decide), core_putTri]
  rfl

theorem folded_reset {t : Nat} (h : t < 6) : folded.tri t = {} := by
  rw [folded, foldMember_eq, tri_modCore, tri_putTri_ne, tri_begin, misplaced_reset h]
  exact h.ne

theorem folded_cores : folded.trd.cores.length = 2 := by
  rw [folded, foldMember_eq]
  rfl

/-- The command's effect: the instruction of core 1, and then core 0 takes its interrupt. -/
theorem misplaced_effect : opCoreInstruction 1 (.commit noEffect) misplaced.begin = takeAll 0 folded := by
  have htri : folded.tri 6 = (misplaced.tri 6).commits (misplaced.core 1) noEffect misplaced.clk := by
    rw [folded, foldMember_eq, tri_modCore]
    exact tri_putTri_self _ (by decide)
  calc opCoreInstruction 1 (.commit noEffect) misplaced.begin
      = commitMember 1 noEffect misplaced.begin := rfl
    _ = closeAfter 6 0 0 noEffect folded := commitMember_goes (by decide +kernel) rfl
    _ = takeAll 0 folded := by rw [closeAfter_eq _ _ _ (by rw [htri]; rfl), htri]; rfl

/-- Core 0 has taken its interrupt, and no voter has work. -/
theorem misplaced_taken : ((takeAll 0 folded).core 0).intr = [] ∧ TriadsAtRest (takeAll 0 folded) := by
  obtain ⟨c, hc⟩ := takeAll_one (n := 0) (i := 0) (s := folded) (by rw [folded_core]; rfl)
    (by rw [folded_core]; exact takes_user rfl rfl rfl rfl) (by rw [folded_core]; rfl) (by rw [folded_cores]; decide)
  rw [hc]
  refine ⟨?_, rest_of_reset fun t ht => by rw [tri_modCore, tri_modCore, folded_reset ht]⟩
  rw [core_modCore_self _ (by simp [folded_cores]), commitRegs_intr, core_modCore_self _ (by simp [folded_cores]), folded_core]
  rfl

/-- Refutes O12: the statement has every core but the one that commits stay as it is. The interrupts after an instruction are
those of the core that the triad holds in the position (03 R75, R82), and nothing in the statement makes that the core that
commits: where core 0 stands in the position that core 1 counts itself to, core 1's instruction has core 0 take its
interrupt. -/
theorem not_coreCommitsInstruction : ¬ Obligations.CoreCommitsInstruction := by
  unfold Obligations.CoreCommitsInstruction
  intro h
  obtain ⟨-, hmember, -⟩ := h misplaced 1 noEffect (by decide) (by decide) (by decide) rfl
  obtain ⟨u, hx, ⟨-, hcores, htris, -⟩, -⟩ := hmember (by decide +kernel) (.inl (by decide +kernel)) rfl (by decide) (by decide)
  obtain ⟨htaken, hrest⟩ := misplaced_taken
  have hstays : TriadsAtRest u := rest_of_reset fun t ht => (htris t ht.ne).trans (misplaced_reset ht)
  rw [exec_coreInstruction, wfRun_next _ _ _ (by decide), misplaced_effect, settle_rest _ hrest, settle_rest _ hstays] at hx
  injection hx with hx
  have htrd : (takeAll 0 folded).trd = u.trd := by have h := congrArg State.trd hx; exact h
  rw [core_congr htrd, hcores 0 (by decide)] at htaken
  exact absurd htaken (by decide)

end Sys2Proof.Machine
end

section
/-! PROOF. Instruction C and what sets it: the window timer, interrupt sources, late store errors (03 R81, R82, R86, R95). -/

namespace Sys2Proof.Machine

/-! ### Windows closed in several lanes -/

theorem nth_of_le {α : Type} {l : List α} {i : Nat} (d : α) (h : l.length ≤ i) : nth l i d = d := by
  induction l generalizing i with
  | nil => rfl
  | cons a l ih =>
    cases i with
    | zero => cases h
    | succ i => exact ih (Nat.le_of_succ_le_succ h)

theorem lane_lt {x : Triad} {p : Nat} {ws : List Win} {w : Win} (h : (x.lane p).wins = ws ++ [w]) : p < x.lanes.length := by
  by_contra hp
  rw [Triad.lane, nth_of_le _ (Nat.le_of_not_lt hp)] at h
  simp at h

theorem closes_of_open {x : Triad} {p : Nat} (h : (x.lane p).open' = true) (cause now : Nat) : ∃ lags, x.closes p cause now =
    { x.atLane p (Lane.closedBy cause ((x.lane p).nextNum - 1) x.relNum) with lags := lags } := ⟨_, if_pos h⟩

theorem closes_lane_ne {x : Triad} {p q : Nat} (h : q ≠ p) (cause now : Nat) :
    (x.closes p cause now).lane q = x.lane q := by
  unfold Triad.closes
  split
  · exact lane_atLane_ne h _
  · rfl

/-- The last window of the lane is closed, its number kept. -/
theorem closes_wins {x : Triad} {p : Nat} {ws : List Win} {w : Win} (h : (x.lane p).wins = ws ++ [w]) (h0 : w.cause = 0)
    (cause now : Nat) : ∃ v, ((x.closes p cause now).lane p).wins = ws ++ [v] ∧ v.cause = cause ∧ v.num = w.num := by
  have hopen : (x.lane p).open' = true := by rw [open_append h, h0]; rfl
  obtain ⟨lags, hx⟩ := closes_of_open hopen cause now
  have hlane : (x.closes p cause now).lane p = Lane.closedBy cause ((x.lane p).nextNum - 1) x.relNum (x.lane p) := by
    rw [hx]; exact lane_atLane_self _ (lane_lt h)
  rw [hlane, Lane.closedBy, h, modLast_append]
  exact ⟨_, rfl, rfl, rfl⟩

/-- What closing a window leaves of its triad: all but the lane and the lag timers. -/
theorem closes_frame (x : Triad) (p cause now : Nat) :
    ∃ lanes lags, x.closes p cause now = { x with lanes := lanes, lags := lags } := by
  unfold Triad.closes
  split
  · exact ⟨_, _, rfl⟩
  · exact ⟨x.lanes, x.lags, rfl⟩

/-- The windows of positions `l` closed, one after the other. -/
def Triad.closesAll (cause now : Nat) (l : List Nat) (x : Triad) : Triad := l.foldl (fun x p => x.closes p cause now) x

theorem closesAll_frame (cause now : Nat) (l : List Nat) (x : Triad) :
    ∃ lanes lags, x.closesAll cause now l = { x with lanes := lanes, lags := lags } := by
  induction l generalizing x with
  | nil => exact ⟨x.lanes, x.lags, rfl⟩
  | cons p l ih =>
    obtain ⟨lanes, lags, hp⟩ := closes_frame x p cause now
    obtain ⟨lanes', lags', hl⟩ := ih (x.closes p cause now)
    exact ⟨lanes', lags', hl.trans (by rw [hp])⟩

theorem closesAll_lane_ne {l : List Nat} {q : Nat} (h : q ∉ l) (cause now : Nat) (x : Triad) :
    (x.closesAll cause now l).lane q = x.lane q := by
  induction l generalizing x with
  | nil => rfl
  | cons p l ih =>
    rw [List.mem_cons, not_or] at h
    exact (ih h.2 _).trans (closes_lane_ne h.1 _ _)

theorem closesAll_wins {l : List Nat} (hl : l.Nodup) {q : Nat} (hq : q ∈ l) {x : Triad} {ws : List Win} {w : Win}
    (h : (x.lane q).wins = ws ++ [w]) (h0 : w.cause = 0) (cause now : Nat) :
    ∃ v, ((x.closesAll cause now l).lane q).wins = ws ++ [v] ∧ v.cause = cause ∧ v.num = w.num := by
  induction l generalizing x with
  | nil => cases hq
  | cons p l ih =>
    obtain ⟨hp, hl⟩ := List.nodup_cons.1 hl
    rcases List.mem_cons.1 hq with rfl | hq
    · rw [show x.closesAll cause now (q :: l) = (x.closes q cause now).closesAll cause now l from rfl, closesAll_lane_ne hp]
      exact closes_wins h h0 cause now
    · have hne : q ≠ p := fun h => hp (h ▸ hq)
      exact ih hl hq (x := x.closes p cause now) (by rw [closes_lane_ne hne]; exact h)

/-! ### The cores at instruction C (R81) -/

/-- Cores that stand at C with the window open that closes there, and have been given no interrupt: they close it. -/
theorem reachC_all {t : Nat} {e : ClosePt} (he : e.irqs = []) {l : List Nat} (hl : l.Nodup) {s : State}
    (ht : t < s.trd.triads.length) (hintr : ∀ p ∈ l, (s.core ((s.tri t).coreAt p)).intr = [])
    (hopen : ∀ p ∈ l, ((s.tri t).lane p).open' = true ∧ ((s.tri t).lane p).current = e.win) :
    forAll l (fun p s => reachC t p e s) s = putTri t ((s.tri t).closesAll e.cause s.clk.now l) s := by
  induction l generalizing s with
  | nil => exact (putTri_self t s).symm
  | cons p l ih =>
    obtain ⟨hp, hl⟩ := List.nodup_cons.1 hl
    have hclose : reachC t p e s = closeWin t p e.cause s := by
      unfold reachC
      dsimp only
      rw [if_pos (hopen p List.mem_cons_self), he, forAll, takeAll_nil]
      rw [closeWin_eq, core_putTri]
      exact hintr p List.mem_cons_self
    obtain ⟨lanes, lags, hframe⟩ := closes_frame (s.tri t) p e.cause s.clk.now
    have htri : (putTri t ((s.tri t).closes p e.cause s.clk.now) s).tri t = (s.tri t).closes p e.cause s.clk.now :=
      tri_putTri_self _ ht
    rw [forAll, hclose, closeWin_eq, ih hl]
    · rw [htri, putTri_putTri]
      rfl
    · simpa using ht
    · intro q hq
      rw [htri, core_putTri, hframe]
      exact hintr q (List.mem_cons_of_mem _ hq)
    · intro q hq
      have hne : q ≠ p := fun h => hp (h ▸ hq)
      rw [htri, closes_lane_ne hne]
      exact hopen q (List.mem_cons_of_mem _ hq)

theorem nodup_standAt (s : State) (t c : Nat) : (standAt s t c).Nodup := List.Nodup.filter _ (nodup_livePos _)

theorem mem_standAt {s : State} {t c p : Nat} :
    p ∈ standAt s t c ↔ p ∈ (s.tri t).livePos ∧ (s.core ((s.tri t).coreAt p)).minstret = c := by
  simp [standAt]

/-! ### The window timer (R81) -/

/-- The triad with its window timer stopped. -/
def timerStopped (t : Nat) (s : State) : State := modTri t (fun (x : Triad) => { x with openedAt := none }) s.begin

/-- The instruction C that the window timer sets. -/
def timerPoint (s : State) (t : Nat) : ClosePt := ⟨highest s t, 2, newest s t, []⟩

/-- The triad with the window timer's C set. -/
def Triad.timed (x : Triad) (e : ClosePt) : Triad := { x with openedAt := none, closeAt := [e] }

section
variable {s : State} {t t0 : Nat}

theorem timerStopped_tri (hl : t < s.trd.triads.length) : (timerStopped t s).tri t = { s.tri t with openedAt := none } :=
  tri_modTri_self _ hl

/-- What of the triads the voter's choice of C looks at is not the window timer. -/
theorem timerStopped_same (hl : t < s.trd.triads.length) : leadOpen (timerStopped t s) t = leadOpen s t ∧
    highest (timerStopped t s) t = highest s t ∧ newest (timerStopped t s) t = newest s t ∧
    ∀ c, standAt (timerStopped t s) t c = standAt s t c := by
  have htri := timerStopped_tri hl
  have hhigh : highest (timerStopped t s) t = highest s t := by rw [highest, htri]; rfl
  have hnew : newest (timerStopped t s) t = newest s t := by rw [newest, htri]; rfl
  have hstand : ∀ c, standAt (timerStopped t s) t c = standAt s t c := fun c => by rw [standAt, htri]; rfl
  refine ⟨?_, hhigh, hnew, hstand⟩
  rw [leadOpen, hhigh, hnew, hstand, htri]
  rfl

theorem opWindowTimer_due (hl : t < s.trd.triads.length) (hv : (s.tri t).voting = true) (ho : (s.tri t).openedAt = some t0)
    (hd : t0 + 10000 ≤ s.clk.now) (hc : (s.tri t).closeAt = []) : opWindowTimer t s.begin =
      if leadOpen s t = true ∧ (s.tri t).livePos ≠ [] then setC t 2 [] (timerStopped t s) else timerStopped t s := by
  obtain ⟨hlead, -, hnew, -⟩ := timerStopped_same hl
  have hdue : due (s.tri t).openedAt 10000 s.clk.now = true := by rw [ho]; exact decide_eq_true hd
  unfold opWindowTimer
  dsimp only
  rw [if_pos (show ((s.begin.tri t).voting && due (s.begin.tri t).openedAt 10000 s.begin.clk.now) = true by
    rw [tri_begin, hv]; exact hdue)]
  rw [show modTri t (fun (x : Triad) => { x with openedAt := none }) s.begin = timerStopped t s from rfl, hlead, tri_begin, hc]
  refine if_congr ?_ rfl rfl
  simp

theorem only_timerStopped (t s) : Only [.trd] s.begin (timerStopped t s) := only_modTri _ _ _

theorem windowTimer_closes (ht : t < 6) (hl : t < s.trd.triads.length) (hv : (s.tri t).voting = true)
    (ho : (s.tri t).openedAt = some t0) (hd : t0 + 10000 ≤ s.clk.now) (hc : (s.tri t).closeAt = [])
    (hintr : ∀ p ∈ (s.tri t).livePos, (s.core ((s.tri t).coreAt p)).intr = []) (hlead : leadOpen s t = true)
    (hlive : (s.tri t).livePos ≠ []) : GivesSettled [.trd] (.windowTimer t) s (fun u =>
      (u.tri t).closeAt = [⟨highest s t, 2, newest s t, []⟩] ∧ (u.tri t).openedAt = none ∧
      (∀ k, k ≠ t → u.tri k = s.tri k) ∧ u.trd.cores = s.trd.cores ∧
      (∀ p ∈ (s.tri t).livePos, (s.core ((s.tri t).coreAt p)).minstret < highest s t →
        (u.tri t).lane p = (s.tri t).lane p) ∧
      (∀ p ∈ (s.tri t).livePos, (s.core ((s.tri t).coreAt p)).minstret = highest s t → ∀ ws w,
        ((s.tri t).lane p).wins = ws ++ [w] → ∃ v, ((u.tri t).lane p).wins = ws ++ [v] ∧ v.cause = 2 ∧ v.num = w.num)) := by
  obtain ⟨-, hhigh, hnew, hstand⟩ := timerStopped_same hl
  have hleads : ∀ p ∈ standAt s t (highest s t),
      ((s.tri t).lane p).open' = true ∧ ((s.tri t).lane p).current = newest s t := fun p hp => by
    have h := List.all_eq_true.1 hlead p hp
    simp only [Bool.and_eq_true, decide_eq_true_eq] at h
    exact h.1
  have hset : setC t 2 [] (timerStopped t s) = forAll (standAt s t (highest s t))
      (fun p u => reachC t p (timerPoint s t) u) (putTri t ((s.tri t).timed (timerPoint s t)) s.begin) := by
    unfold setC
    dsimp only
    rw [hhigh, hnew, hstand, modTri_eq_putTri, timerStopped_tri hl, timerStopped, modTri_eq_putTri, putTri_putTri, hc]
    rfl
  have htri : (putTri t ((s.tri t).timed (timerPoint s t)) s.begin).tri t = (s.tri t).timed (timerPoint s t) :=
    tri_putTri_self _ hl
  have hop : opWindowTimer t s.begin = putTri t
      (((s.tri t).timed (timerPoint s t)).closesAll 2 s.clk.now (standAt s t (highest s t))) s.begin := by
    rw [opWindowTimer_due hl hv ho hd hc, if_pos ⟨hlead, hlive⟩, hset, reachC_all rfl (nodup_standAt _ _ _) (by simpa using hl)
      (by rw [htri]; exact fun p hp => hintr p (mem_standAt.1 hp).1) (by rw [htri]; exact hleads), htri, putTri_putTri]
    rfl
  obtain ⟨lanes, lags, hframe⟩ := closesAll_frame 2 s.clk.now (standAt s t (highest s t)) ((s.tri t).timed (timerPoint s t))
  refine givesSettled_of_run (exec_windowTimer t s) (by simp [Instr.wf, ht]) ?_ ?_ <;> rw [hop]
  · exact only_putTri _ _ _
  · rw [tri_putTri_self _ (by exact hl)]
    refine ⟨by rw [hframe]; rfl, by rw [hframe]; rfl, fun k hk => tri_putTri_ne hk _ _, cores_modTri _ _ _, fun p hp hlt => ?_,
      fun p hp heq ws w hw => ?_⟩
    · exact closesAll_lane_ne (fun h => hlt.ne (mem_standAt.1 h).2) _ _ _
    · have hat : p ∈ standAt s t (highest s t) := mem_standAt.2 ⟨hp, heq⟩
      have h0 : w.cause = 0 := by simpa [open_append hw] using (hleads p hat).1
      exact closesAll_wins (nodup_standAt _ _ _) hat (x := (s.tri t).timed (timerPoint s t)) hw h0 _ _

theorem windowTimer_waits (ht : t < 6) (hl : t < s.trd.triads.length) (hv : (s.tri t).voting = true)
    (ho : (s.tri t).openedAt = some t0) (hd : t0 + 10000 ≤ s.clk.now) (hc : (s.tri t).closeAt = [])
    (hlead : leadOpen s t = false) : GivesSettled [.trd] (.windowTimer t) s (fun u =>
      u.tri t = { s.tri t with openedAt := none } ∧ (∀ k, k ≠ t → u.tri k = s.tri k) ∧ u.trd.cores = s.trd.cores) := by
  have hop : opWindowTimer t s.begin = timerStopped t s := by
    rw [opWindowTimer_due hl hv ho hd hc, hlead, if_neg (by simp)]
  refine givesSettled_of_run (exec_windowTimer t s) (by simp [Instr.wf, ht]) ?_ ?_ <;> rw [hop]
  · exact only_timerStopped t s
  · exact ⟨timerStopped_tri hl, fun k hk => tri_modTri_ne hk _ _, cores_modTri _ _ _⟩

end

/-! ### Interrupt sources (R82, R95) -/

theorem irqTriad_pending {t : Nat} (ps : List Nat) (src : Nat) {s : State} (h1 : 1 ≤ (s.tri t).state)
    (h5 : (s.tri t).state ≤ 5) (h4 : (s.tri t).state ≠ 4) :
    irqTriad t ps src s = putTri t { s.tri t with irqs := (s.tri t).irqs ++ [src] } s := by
  rw [irqTriad, if_neg h4, if_pos ⟨h1, h5⟩]
  exact modTri_eq_putTri _ _ _

theorem irqTriad_none {t : Nat} (ps : List Nat) (src : Nat) {s : State} (h : (s.tri t).state = 0 ∨ (s.tri t).state = 6) :
    irqTriad t ps src s = s := by
  rw [irqTriad, if_neg (by omega), if_neg (by omega)]

section
variable {s : State} {t src pos : Nat}

theorem opTriadInterrupt_source (h : src < 16 ∨ 35 ≤ src ∨ blockLine s (src - 16) = true) :
    opTriadInterrupt t pos src s.begin = irqTriad t [pos] src s.begin := by
  refine if_neg fun hc => ?_
  obtain ⟨h16, h35, hline⟩ := hc
  rcases h with h | h | h
  · omega
  · omega
  · rw [show blockLine s.begin (src - 16) = true from h] at hline
    cases hline

theorem triadInterrupt_pending (ht : t < 6) (hl : t < s.trd.triads.length) (hs : src < 64) (hp : pos < 3)
    (h : src < 16 ∨ 35 ≤ src ∨ blockLine s (src - 16) = true) (h1 : 1 ≤ (s.tri t).state) (h5 : (s.tri t).state ≤ 5)
    (h4 : (s.tri t).state ≠ 4) : GivesSettled [.trd] (.triadInterrupt t ⟨src, pos⟩) s (fun u =>
      u.tri t = { s.tri t with irqs := (s.tri t).irqs ++ [src] } ∧ (∀ k, k ≠ t → u.tri k = s.tri k) ∧
      u.trd.cores = s.trd.cores) := by
  have hop := (opTriadInterrupt_source (t := t) (pos := pos) h).trans (irqTriad_pending [pos] src (s := s.begin) h1 h5 h4)
  refine givesSettled_of_run (exec_triadInterrupt t ⟨src, pos⟩ s) (by simp [Instr.wf, ht, hs, hp]) ?_ ?_ <;> rw [hop]
  · exact only_putTri _ _ _
  · exact ⟨tri_putTri_self _ hl, fun k hk => tri_putTri_ne hk _ _, cores_modTri _ _ _⟩

theorem triadInterrupt_split (ht : t < 6) (hs : src < 64) (hp : pos < 3)
    (h : src < 16 ∨ 35 ≤ src ∨ blockLine s (src - 16) = true) (h4 : (s.tri t).state = 4)
    (hn : (s.tri t).coreAt pos < s.trd.cores.length) : GivesSettled [.trd] (.triadInterrupt t ⟨src, pos⟩) s (fun u =>
      u.out = [.irq ((s.tri t).coreAt pos) src] ∧
      u.core ((s.tri t).coreAt pos) =
        { s.core ((s.tri t).coreAt pos) with intr := (s.core ((s.tri t).coreAt pos)).intr ++ [src] } ∧
      (∀ m, m ≠ (s.tri t).coreAt pos → u.core m = s.core m) ∧ u.trd.triads = s.trd.triads) := by
  have hop : opTriadInterrupt t pos src s.begin = giveIrq ((s.tri t).coreAt pos) src s.begin := by
    rw [opTriadInterrupt_source h, irqTriad, if_pos (by exact h4)]
    rfl
  refine givesSettled_of_run (exec_triadInterrupt t ⟨src, pos⟩ s) (by simp [Instr.wf, ht, hs, hp]) ?_ ?_ <;> rw [hop]
  · exact (only_modCore _ _ _).then (only_emit _ _) (by decide)
  · exact ⟨rfl, core_modCore_self _ hn, fun m hm => core_modCore_ne _ _ hm, rfl⟩

theorem triadInterrupt_quiet (ht : t < 6) (hs : src < 64) (hp : pos < 3)
    (hop : opTriadInterrupt t pos src s.begin = s.begin) :
    exec (.triadInterrupt t ⟨src, pos⟩) s = .next { settle s.begin with pending := s.pending } :=
  exec_settle_of_run (exec_triadInterrupt t ⟨src, pos⟩ s) (by simp [Instr.wf, ht, hs, hp]) hop

/-- A block without an enabled error, or a triad that takes no interrupt: nothing becomes pending. -/
theorem opTriadInterrupt_line (h16 : 16 ≤ src) (h35 : src < 35) (h : blockLine s (src - 16) = false) :
    opTriadInterrupt t pos src s.begin = s.begin :=
  if_pos ⟨h16, h35, by rw [show blockLine s.begin (src - 16) = false from h]; rfl⟩

theorem opTriadInterrupt_stopped (h : (s.tri t).state = 0 ∨ (s.tri t).state = 6) :
    opTriadInterrupt t pos src s.begin = s.begin := by
  unfold opTriadInterrupt
  rw [irqTriad_none _ _ (by exact h), ite_self]

end

/-! ### Late errors of released stores (R86) -/

/-- The error of a released store, raised when its response comes. -/
def lateError (t addr resp : Nat) (s : State) : State :=
  if resp = 4 then raiseTmo (voterId t) true addr s
  else if resp = 6 then s
  else (refuse resp (voterId t) true addr 0 s).2.2

/-- The sticky error of Rachis that each error response raises; ERR_ABORT raises none. -/
theorem lateError_calm (t addr : Nat) {resp : Nat} (h1 : 1 ≤ resp) (h6 : resp ≤ 6) {s : State}
    (hq : s.sup.quenchSince = none) : ∃ rch g, lateError t addr resp s = { s with rch := rch, grn := g } ∧
      ∀ bit, (resp, bit) ∈ [(1, 3), (2, 2), (3, 1), (5, 3), (4, 4)] → bitOf rch.err.status bit = true := by
  by_cases h : resp = 6
  · subst h
    exact ⟨s.rch, s.grn, rfl, fun bit hb => absurd hb (by simp)⟩
  · by_cases h' : resp = 4
    · subst h'
      obtain ⟨g, hg⟩ := raiseTmo_calm (voterId t) true addr hq
      refine ⟨_, g, hg, fun bit hb => ?_⟩
      obtain rfl : bit = 4 := by simpa using hb
      exact errRch_status _ _ _ _ _ _ _ (by decide)
    · obtain ⟨bit, hbit, hlt⟩ : ∃ bit, (resp, bit) ∈ [(1, 3), (2, 2), (3, 1), (5, 3)] ∧ bit < 32 := by
        obtain rfl | rfl | rfl | rfl : resp = 1 ∨ resp = 2 ∨ resp = 3 ∨ resp = 5 := by omega
        · exact ⟨3, by decide, by decide⟩
        · exact ⟨2, by decide, by decide⟩
        · exact ⟨1, by decide, by decide⟩
        · exact ⟨3, by decide, by decide⟩
      obtain ⟨g, hg⟩ := refuse_calm hbit (voterId t) true addr 0 hq
      refine ⟨_, g, (if_neg h').trans ((if_neg h).trans hg), fun b hb => ?_⟩
      obtain rfl : b = bit := by
        simp only [List.mem_cons, List.not_mem_nil, or_false, Prod.mk.injEq] at hb hbit
        omega
      exact errRch_status _ _ _ _ _ _ _ hlt

theorem releasedStoreError_raises {s : State} {t a resp : Nat} (ht : t < 6) (hl : t < s.trd.triads.length) (ha : a < 2 ^ 36)
    (h1 : 1 ≤ resp) (h6 : resp ≤ 6) (hm : s.mod.mode.handed = true) (hq : s.sup.quenchSince = none)
    (hv : (s.tri t).voting = true) : GivesSettled [.trd, .rch, .grn] (.releasedStoreError t a resp) s (fun u =>
      (u.tri t).irqs = (s.tri t).irqs ++ [irqStoreError] ∧ (resp = 2 → bitOf u.rch.err.status 2 = true) ∧
      (resp = 3 → bitOf u.rch.err.status 1 = true) ∧ (resp = 1 ∨ resp = 5 → bitOf u.rch.err.status 3 = true) ∧
      (resp = 4 → bitOf u.rch.err.status 4 = true)) := by
  obtain ⟨rch, g, herr, hbits⟩ := lateError_calm t a h1 h6 (s := s.begin) hq
  have hstate : (s.tri t).state = 1 ∨ (s.tri t).state = 2 := by
    simp only [Triad.voting, Bool.and_eq_true, decide_eq_true_eq] at hv
    exact hv.1
  have hop : opReleasedStoreError t a resp s.begin =
      putTri t { s.tri t with irqs := (s.tri t).irqs ++ [irqStoreError] } { s.begin with rch := rch, grn := g } := by
    have hgo : opReleasedStoreError t a resp s.begin = irqTriad t [0, 1, 2] irqStoreError (lateError t a resp s.begin) :=
      if_neg (by rw [show s.begin.mod.mode.handed = true from hm]; decide)
    rw [hgo, herr]
    exact irqTriad_pending _ _ (s := { s.begin with rch := rch, grn := g })
      (show 1 ≤ (s.tri t).state by omega) (show (s.tri t).state ≤ 5 by omega) (show (s.tri t).state ≠ 4 by omega)
  have hw : (Instr.releasedStoreError t a resp).wf = true := by
    simp only [Instr.wf, ht, ha, h1, h6, decide_true, Bool.and_self]
  refine givesSettled_of_run (exec_releasedStoreError t a resp s) hw ?_ ?_ <;> rw [hop]
  · have hrch : Only [.rch, .grn] s.begin { s.begin with rch := rch, grn := g } := by simp [only_iff]
    exact (hrch.weaken (by decide)).then (only_putTri _ _ _) (by decide)
  · rw [tri_putTri_self _ (by exact hl)]
    refine ⟨rfl, ?_, ?_, ?_, ?_⟩
    · rintro rfl; exact hbits 2 (by decide)
    · rintro rfl; exact hbits 1 (by decide)
    · rintro (rfl | rfl)
      · exact hbits 3 (by decide)
      · exact hbits 3 (by decide)
    · rintro rfl; exact hbits 4 (by decide)

/-- Settles O14: the window timer by the closing of the lanes that stand at C, a source by where it becomes pending, a late
error by what it raises. -/
theorem timersAndInterruptsSetC : Obligations.TimersAndInterruptsSetC := by
  intro s t ht hl
  refine ⟨fun t0 hv ho hd hc hintr => ⟨fun hlead hlive => ?_, fun hlead => ?_⟩, fun src pos hs hp => ⟨fun h => ⟨?_, ?_⟩, ?_, ?_⟩,
    fun a resp ha h1 h6 hm hq hv => ?_⟩
  · exact windowTimer_closes ht hl hv ho hd hc hintr hlead hlive
  · exact windowTimer_waits ht hl hv ho hd hc hlead
  · exact triadInterrupt_pending ht hl hs hp h
  · exact triadInterrupt_split ht hs hp h
  · exact fun h16 h35 h => triadInterrupt_quiet ht hs hp (opTriadInterrupt_line h16 h35 h)
  · exact fun h => triadInterrupt_quiet ht hs hp (opTriadInterrupt_stopped h)
  · exact releasedStoreError_raises ht hl ha h1 h6 hm hq hv

end Sys2Proof.Machine
end

section
/-! PROOF. What one core does alone stays in its triad until the vote (03 R79, R84, R85). -/

namespace Sys2Proof.Machine

/-! ### Triads in which the voter finds nothing new

A voter acts on reads that are held, on sources and instructions C that wait, and on closed windows. An operation keeps it from
acting where it adds none of them. -/

/-- Every window of the lane is open. -/
def Lane.Open (l : Lane) : Prop := ∀ w ∈ l.wins, w.cause = 0

theorem Lane.open_of_nil {l : Lane} (h : l.wins = []) : l.Open := fun w hw => by rw [h] at hw; cases hw

theorem closed_none {l : Lane} (h : l.Open) (n : Nat) : l.closed n = none :=
  List.find?_eq_none.2 fun w hw => by simp [h w hw]

/-- From triad `x` to triad `y` nothing is added that its voter would act on, but for closed windows in positions out of
`ps`. -/
structure Triad.Keeps (ps : Nat → Prop) (x y : Triad) : Prop where
  held : y.held = x.held
  irqs : y.irqs = x.irqs
  closeAt : y.closeAt = x.closeAt
  state : y.state = x.state
  stoppedAt : y.stoppedAt = x.stoppedAt
  live : y.live = x.live
  lanes : ∀ p, ps p → (x.lane p).Open → (y.lane p).Open

namespace Triad.Keeps

variable {ps qs : Nat → Prop} {x y z : Triad}

theorem refl (ps : Nat → Prop) (x : Triad) : x.Keeps ps x := ⟨rfl, rfl, rfl, rfl, rfl, rfl, fun _ _ h => h⟩

theorem trans (h : x.Keeps ps y) (h' : y.Keeps ps z) : x.Keeps ps z :=
  ⟨h'.held.trans h.held, h'.irqs.trans h.irqs, h'.closeAt.trans h.closeAt, h'.state.trans h.state,
    h'.stoppedAt.trans h.stoppedAt, h'.live.trans h.live, fun p hp hx => h'.lanes p hp (h.lanes p hp hx)⟩

theorem mono (h : x.Keeps qs y) (hq : ∀ p, ps p → qs p) : x.Keeps ps y :=
  { h with lanes := fun p hp => h.lanes p (hq p hp) }

/-- A lane changed that keeps its windows open. -/
theorem atLane (ps : Nat → Prop) (x : Triad) (p : Nat) {f : Lane → Lane} (hf : ∀ l : Lane, l.Open → (f l).Open) :
    x.Keeps ps (x.atLane p f) :=
  ⟨rfl, rfl, rfl, rfl, rfl, rfl, fun q _ h => by
    rcases lane_atLane_or x p q f with hl | ⟨-, hl⟩ <;> rw [hl]
    · exact h
    · exact hf _ h⟩

/-- A lane changed that is not watched. -/
theorem atLane_ne (x : Triad) (p : Nat) (f : Lane → Lane) : x.Keeps (· ≠ p) (x.atLane p f) :=
  ⟨rfl, rfl, rfl, rfl, rfl, rfl, fun q hq h => by rw [lane_atLane_ne hq]; exact h⟩

theorem votes (h : x.Keeps ps y) : y.votes = x.votes := by rw [Triad.votes, h.state, h.stoppedAt]; rfl

theorem livePos (h : x.Keeps ps y) : y.livePos = x.livePos := by rw [Triad.livePos, h.live]; rfl

end Triad.Keeps

theorem Lane.open_opened {l : Lane} (h : l.Open) (n : Nat) : (l.opened n).Open := fun w hw => by
  rcases List.mem_append.1 hw with hw | hw
  · exact h w hw
  · rw [List.mem_singleton.1 hw]

theorem mem_modLast {f : Win → Win} {l : List Win} {w : Win} (h : w ∈ modLast f l) : w ∈ l ∨ ∃ v ∈ l, w = f v := by
  rcases List.eq_nil_or_concat l with rfl | ⟨ws, v, rfl⟩
  · cases h
  · rw [List.concat_eq_append] at h ⊢
    rw [modLast_append] at h
    rcases List.mem_append.1 h with h | h
    · exact .inl (List.mem_append_left _ h)
    · exact .inr ⟨v, by simp, List.mem_singleton.1 h⟩

theorem Lane.open_folds {l : Lane} (h : l.Open) (k : Core) (c : Commit) : (l.folds k c).Open := fun w hw => by
  rcases mem_modLast hw with hw | ⟨v, hv, rfl⟩
  · exact h w hw
  · exact h v hv

section
variable (ps : Nat → Prop) (x : Triad)

theorem keeps_opens (p : Nat) (c : Clk) : x.Keeps ps (x.opens p c) := by
  have hlane : x.Keeps ps (x.atLane p (Lane.opened (x.lane p).nextNum)) := .atLane ps x p fun l h => Lane.open_opened h _
  unfold Triad.opens
  split
  · exact .refl ps x
  · split
    · exact hlane
    · exact { hlane with }

theorem keeps_commits (k : Core) (c : Commit) (clk : Clk) : x.Keeps ps (x.commits k c clk) := by
  have hlanes := (keeps_opens ps x k.pos clk).trans (.atLane ps (x.opens k.pos clk) k.pos fun l h => Lane.open_folds h k c)
  exact { hlanes with }

theorem keeps_closes (p cause now : Nat) : x.Keeps (· ≠ p) (x.closes p cause now) := by
  unfold Triad.closes
  split
  · exact { Triad.Keeps.atLane_ne x p _ with }
  · exact .refl _ x

end

/-! ### Operations that stay in the triads -/

/-- From `s` to `u` nothing leaves the triads, and no voter finds anything new but closed windows of triad `t0`, position
`p0`. -/
structure Stays (t0 p0 : Nat) (s u : State) : Prop where
  only : Only [.trd] s u
  out : u.out = s.out
  tri : ∀ t, (s.tri t).Keeps (fun p => t ≠ t0 ∨ p ≠ p0) (u.tri t)

namespace Stays

variable {t0 p0 : Nat} {s u v : State}

theorem refl (t0 p0 : Nat) (s : State) : Stays t0 p0 s s := ⟨.refl _ _, rfl, fun _ => .refl _ _⟩

theorem trans (h : Stays t0 p0 s u) (h' : Stays t0 p0 u v) : Stays t0 p0 s v :=
  ⟨h.only.then h'.only (List.Subset.refl _), h'.out.trans h.out, fun t => (h.tri t).trans (h'.tri t)⟩

theorem ite (c : Prop) [Decidable c] (h : Stays t0 p0 s u) (h' : Stays t0 p0 s v) :
    Stays t0 p0 s (if c then u else v) := by
  split
  · exact h
  · exact h'

theorem forAll {α : Type} (l : List α) (f : α → State → State) (s : State) (hf : ∀ a u, Stays t0 p0 u (f a u)) :
    Stays t0 p0 s (forAll l f s) :=
  forAll_keeps (P := Stays t0 p0 s) l f s (fun a _ h => h.trans (hf a _)) (.refl _ _ _)

theorem modCore (t0 p0 n : Nat) (f : Core → Core) (s : State) : Stays t0 p0 s (modCore n f s) :=
  ⟨only_modCore _ _ _, rfl, fun t => by rw [tri_modCore]; exact .refl _ _⟩

theorem putTri {t : Nat} {x : Triad} {s : State} (h : (s.tri t).Keeps (fun p => t ≠ t0 ∨ p ≠ p0) x) :
    Stays t0 p0 s (putTri t x s) :=
  ⟨only_putTri _ _ _, rfl, fun k => by
    rcases tri_putTri_or k t x s with hk | ⟨rfl, hk⟩ <;> rw [hk]
    · exact .refl _ _
    · exact h⟩

end Stays

section
variable (t0 p0 : Nat)

theorem stays_foldMember (n : Nat) (c : Commit) (s : State) : Stays t0 p0 s (foldMember n c s) := by
  rw [foldMember_eq]
  exact (Stays.putTri (keeps_commits _ _ _ _ _)).trans (.modCore _ _ _ _ _)

theorem stays_trapCore (n : Nat) (irq : Bool) (code : Nat) (v : Dword) (s : State) :
    Stays t0 p0 s (trapCore n irq code v s) := .ite _ (.modCore _ _ _ _ _) (stays_foldMember _ _ _ _ _)

theorem stays_takeIrqs (fuel n : Nat) (s : State) : Stays t0 p0 s (takeIrqs fuel n s) := by
  induction fuel generalizing s with
  | zero => exact .refl _ _ _
  | succ fuel ih =>
    unfold takeIrqs
    split
    · exact .refl _ _ _
    · exact ((Stays.modCore _ _ _ _ _).trans (stays_trapCore _ _ _ _ _ _ _)).trans (ih _)

theorem stays_takeAll (n : Nat) (s : State) : Stays t0 p0 s (takeAll n s) := stays_takeIrqs _ _ _ _ _

theorem stays_noteL2 (t addr : Nat) (s : State) : Stays t0 p0 s (noteL2 t addr s) := by
  unfold noteL2
  rw [modTri_eq_putTri]
  exact .ite _ (.putTri { Triad.Keeps.refl _ _ with }) (.refl _ _ _)

/-- The watched position closes its window. -/
theorem stays_closeWin (cause : Nat) (s : State) : Stays t0 p0 s (closeWin t0 p0 cause s) := by
  rw [closeWin_eq]
  exact .putTri ((keeps_closes _ p0 cause _).mono fun p hp => hp.resolve_left (· rfl))

end

/-! ### The commands of a member -/

section
variable {s : State} {n t0 p0 : Nat}

theorem stays_commitMember (ht : (s.core n).triad = t0) (hp : (s.core n).pos = p0) (hc : (s.tri t0).closeAt = [])
    (c : Commit) : Stays t0 p0 s (commitMember n c s) := by
  unfold commitMember
  dsimp only
  rw [ht, hp]
  have hfold := stays_foldMember t0 p0 n c s
  refine .ite _ (.refl _ _ _) ?_
  rw [closeAfter_eq _ _ _ ((hfold.tri t0).closeAt.trans hc)]
  exact hfold.trans (Stays.trans (.ite _ (stays_closeWin _ _ _ _) (.ite _ (stays_closeWin _ _ _ _) (.refl _ _ _)))
    (stays_takeAll _ _ _ _))

end

/-- A read of DRAM that reaches it gives what stands there, and leaves everything as it is. -/
theorem busRead_dram {s : State} {n addr size o : Nat} (hp : placeOf addr = .dram o)
    (hr : rachisRefusal s n .read addr size = none) (hb : touchesBad s.mem.dramBad o size = false) :
    busRead n addr size s = (0, s.mem.dramGet o size, s) := by
  have hculm : toCulm addr = false := by rw [toCulm, hp]; rfl
  unfold busRead
  simp only [hr, hculm, readTarget, hp, readDram, hb, Bool.false_eq_true, if_false]

/-- What core `n` loads from a page of DRAM that is its triad's own, and what it leaves: lines of its caches. -/
theorem loadPrivate_dram {s : State} {n addr size o : Nat} (hp : placeOf addr = .dram o)
    (hr : rachisRefusal s n .read addr size = none) (hb : touchesBad s.mem.dramBad o size = false) :
    loadPrivate n addr size s = (0,
      (List.range size).map (fun i => laneByte ((s.tri (s.core n).triad).lane (s.core n).pos) (addr + i)
        (nth (s.mem.dramGet o size) i 0)),
      noteL2 (s.core n).triad addr (modCore n (fun (c : Core) => { c with l1d := fillL1 c.l1d (addr / 64) }) s)) := by
  unfold loadPrivate
  rw [busRead_dram hp hr hb]
  rfl

/-- A read at `addr`, where that page is the triad's own, reaches DRAM. -/
def ReadsDram (s : State) (n addr size : Nat) : Prop := privateTo s (s.core n).triad addr = true →
  ∃ o, placeOf addr = .dram o ∧ rachisRefusal s n .read addr size = none ∧ touchesBad s.mem.dramBad o size = false

/-- Core `n` has the same role and place in both states. -/
structure SameSeat (n : Nat) (s u : State) : Prop where
  role : (u.core n).role = (s.core n).role
  triad : (u.core n).triad = (s.core n).triad
  pos : (u.core n).pos = (s.core n).pos

theorem SameSeat.trans {n : Nat} {s u v : State} (h : SameSeat n s u) (h' : SameSeat n u v) : SameSeat n s v :=
  ⟨h'.role.trans h.role, h'.triad.trans h.triad, h'.pos.trans h.pos⟩

theorem SameSeat.modCore (n m : Nat) {f : Core → Core}
    (hf : ∀ k : Core, (f k).role = k.role ∧ (f k).triad = k.triad ∧ (f k).pos = k.pos) (s : State) :
    SameSeat n s (modCore m f s) := by
  obtain ⟨hr, ht, hp⟩ := hf (s.core n)
  rcases core_modCore_or n m f s with h | h <;> refine ⟨?_, ?_, ?_⟩ <;> rw [h] <;> assumption

theorem core_noteL2 (t addr : Nat) (s : State) (n : Nat) : (noteL2 t addr s).core n = s.core n := by
  unfold noteL2
  split
  · exact core_modTri _ _ _ _
  · rfl

section
variable {s : State} {n t0 p0 : Nat}

/-- A load from such a page, and what it leaves. -/
theorem stays_loadPrivate {addr size : Nat} (t0 p0 : Nat) (h : ReadsDram s n addr size)
    (hpriv : privateTo s (s.core n).triad addr = true) :
    (loadPrivate n addr size s).1 = 0 ∧ Stays t0 p0 s (loadPrivate n addr size s).2.2 ∧
      SameSeat n s (loadPrivate n addr size s).2.2 := by
  obtain ⟨o, hp, hr, hb⟩ := h hpriv
  rw [loadPrivate_dram hp hr hb]
  have hseat := SameSeat.modCore n n (f := fun (c : Core) => { c with l1d := fillL1 c.l1d (addr / 64) })
    (fun _ => ⟨rfl, rfl, rfl⟩) s
  refine ⟨rfl, (Stays.modCore _ _ _ _ _).trans (stays_noteL2 _ _ _ _ _), ?_⟩
  dsimp only
  exact ⟨by rw [core_noteL2]; exact hseat.role, by rw [core_noteL2]; exact hseat.triad, by rw [core_noteL2]; exact hseat.pos⟩

/-- A member that holds position `p0` of triad `t0`, which has set no C. -/
structure Member (n t0 p0 : Nat) (s : State) : Prop where
  role : (s.core n).role ≠ 1
  triad : (s.core n).triad = t0
  pos : (s.core n).pos = p0
  noPoint : (s.tri t0).closeAt = []

theorem Member.after {u : State} (h : Member n t0 p0 s) (hs : Stays t0 p0 s u) (hseat : SameSeat n s u) :
    Member n t0 p0 u :=
  ⟨by rw [hseat.role]; exact h.role, hseat.triad.trans h.triad, hseat.pos.trans h.pos, (hs.tri t0).closeAt.trans h.noPoint⟩

theorem stays_commitCore (h : Member n t0 p0 s) (c : Commit) : Stays t0 p0 s (commitCore n c s) := by
  rw [commitCore, if_neg h.role]
  exact stays_commitMember h.triad h.pos h.noPoint _

/-- A change of the reservation before the commit. -/
theorem stays_reserved (h : Member n t0 p0 s) (r : Option Nat) (c : Commit) :
    Stays t0 p0 s (commitCore n c (modCore n (fun (k : Core) => { k with resv := r }) s)) := by
  have hs := Stays.modCore t0 p0 n (fun (k : Core) => { k with resv := r }) s
  have hseat := SameSeat.modCore n n (f := fun (k : Core) => { k with resv := r }) (fun _ => ⟨rfl, rfl, rfl⟩) s
  exact hs.trans (stays_commitCore (h.after hs hseat) c)

theorem stays_amoCommit (h : Member n t0 p0 s) (a : Amo) (old : Dword) : Stays t0 p0 s (amoCommit n a old s) := by
  unfold amoCommit
  dsimp only
  split
  · exact stays_reserved h _ _
  · exact .ite _ (stays_reserved h _ _) (stays_reserved h _ _)
  · exact stays_commitCore h _

theorem stays_coreAmo (h : Member n t0 p0 s) {a : Amo} (hr : ReadsDram s n a.addr a.size) :
    Stays t0 p0 s (coreAmo n a s) := by
  unfold coreAmo
  dsimp only
  refine .ite _ (.refl _ _ _) (.ite _ (stays_trapCore _ _ _ _ _ _ _) ?_)
  by_cases hgo : (!privateTo s (s.core n).triad a.addr) = true ∨
      pmpDenies (s.core n) (if a.op = .lr then 0 else 1) a.addr a.size = true
  · rw [if_pos hgo]
    exact stays_trapCore _ _ _ _ _ _ _
  · rw [if_neg hgo]
    have hpriv : privateTo s (s.core n).triad a.addr = true := by
      cases hp : privateTo s (s.core n).triad a.addr
      · exact absurd (.inl (by rw [hp]; rfl)) hgo
      · rfl
    obtain ⟨hok, hstay, hseat⟩ := stays_loadPrivate t0 p0 hr hpriv
    rw [if_pos hok]
    exact hstay.trans (stays_amoCommit (h.after hstay hseat) _ _)

/-- A triad that holds no read serves none. -/
theorem serveHeld_nil {t : Nat} (p : Nat) (h : (s.tri t).held = []) : serveHeld t p s = s := by
  have hnone : heldFor (s.tri t) p = none := by
    unfold heldFor
    rw [h]
    split <;> rfl
  unfold serveHeld
  dsimp only
  rw [hnone]

/-- What an instruction of a member does: it stays in the triads, but for the answer to its own load. -/
def Answers (n t0 p0 : Nat) (s u : State) : Prop :=
  ∃ v, Stays t0 p0 s v ∧ (u = v ∨ ∃ bs, u = emit (.response n 0 bs) v)

theorem Stays.answers {u : State} (h : Stays t0 p0 s u) : Answers n t0 p0 s u := ⟨u, h, .inl rfl⟩

/-- The member's lane after its request: the window closed, the read waited for. -/
def requested (t p addr size : Nat) (s : State) : State :=
  modLane t p (fun (l : Lane) => { l with req := some (addr, size) }) (closeWin t p 4 s)

theorem stays_requested (t p addr size : Nat) (s : State) : Stays t p s (requested t p addr size s) := by
  unfold requested
  rw [modLane_eq]
  exact (stays_closeWin t p 4 s).trans (.putTri (.atLane _ _ _ fun _ h => h))

theorem coreRequest_shared {addr size : Nat} (hgo : mayGo s n = true) (hal : addr % size = 0)
    (hpmp : pmpDenies (s.core n) 0 addr size = false) (hpriv : privateTo s (s.core n).triad addr = false)
    (hr : (s.core n).role ≠ 1) (hheld : (s.tri (s.core n).triad).held = []) :
    coreRequest n addr size s = requested (s.core n).triad (s.core n).pos addr size s := by
  have hstay := stays_requested (s.core n).triad (s.core n).pos addr size s
  unfold coreRequest
  simp only [hgo, hal, hpmp, hpriv, hr, Bool.not_true, ne_eq, not_true_eq_false, Bool.false_eq_true, if_false]
  exact serveHeld_nil _ ((hstay.tri _).held.trans hheld)

theorem answers_coreRequest (h : Member n t0 p0 s) (hheld : (s.tri t0).held = []) {addr size : Nat}
    (hr : ReadsDram s n addr size) : Answers n t0 p0 s (coreRequest n addr size s) := by
  obtain ⟨hrole, rfl, rfl, -⟩ := h
  by_cases hgo : mayGo s n = true
  · by_cases hal : addr % size = 0
    · cases hpmp : pmpDenies (s.core n) 0 addr size
      · cases hpriv : privateTo s (s.core n).triad addr
        · rw [coreRequest_shared hgo hal hpmp hpriv hrole hheld]
          exact (stays_requested _ _ _ _ _).answers
        · obtain ⟨hok, hstay, -⟩ := stays_loadPrivate (s.core n).triad (s.core n).pos hr hpriv
          refine ⟨_, hstay, .inr ⟨(loadPrivate n addr size s).2.1, ?_⟩⟩
          unfold coreRequest
          simp only [hgo, hal, hpmp, hpriv, hok, Bool.not_true, ne_eq, not_true_eq_false, Bool.false_eq_true, if_false, if_true]
      · unfold coreRequest
        simp only [hgo, hal, hpmp, Bool.not_true, ne_eq, not_true_eq_false, Bool.false_eq_true, if_false, if_true]
        exact (stays_trapCore _ _ _ _ _ _ _).answers
    · unfold coreRequest
      simp only [hgo, hal, Bool.not_true, ne_eq, not_false_eq_true, Bool.false_eq_true, if_false, if_true]
      exact (stays_trapCore _ _ _ _ _ _ _).answers
  · unfold coreRequest
    simp only [hgo, Bool.not_false, if_true]
    exact (Stays.refl _ _ _).answers

/-- The loads of the action, from the triad's own pages, reach DRAM. -/
def LoadsDram (s : State) (n : Nat) (a : CoreAct) : Prop :=
  match a with
  | .commit _ => True
  | .request addr size => ReadsDram s n addr size
  | .amo m => ReadsDram s n m.addr m.size

theorem answers_coreInstruction (h : Member n t0 p0 s) (hheld : (s.tri t0).held = []) {a : CoreAct} (hr : LoadsDram s n a) :
    Answers n t0 p0 s (opCoreInstruction n a s) := by
  cases a with
  | commit c => exact (stays_commitCore h c).answers
  | request addr size => exact answers_coreRequest h hheld hr
  | amo m => exact (stays_coreAmo h hr).answers

end

/-! ### The voters (R85, R87) -/

/-- The voters have nothing to do: no read, source or instruction C waits, and no window is closed but those of one lane of a
triad with two live cores. -/
structure Alone (t0 p0 : Nat) (s : State) : Prop where
  held : ∀ t, t < 6 → (s.tri t).held = []
  irqs : ∀ t, t < 6 → (s.tri t).irqs = []
  closeAt : ∀ t, t < 6 → (s.tri t).closeAt = []
  lanes : ∀ t, t < 6 → (s.tri t).votes = true → ∀ p, t ≠ t0 ∨ p ≠ p0 → ((s.tri t).lane p).Open
  live : 2 ≤ (s.tri t0).livePos.length

section
variable {s u : State} {t0 p0 t : Nat}

theorem Alone.after (h : Alone t0 p0 s) (hs : Stays t0 p0 s u) : Alone t0 p0 u :=
  ⟨fun t ht => (hs.tri t).held.trans (h.held t ht), fun t ht => (hs.tri t).irqs.trans (h.irqs t ht),
    fun t ht => (hs.tri t).closeAt.trans (h.closeAt t ht),
    fun t ht hv p hp => (hs.tri t).lanes p hp (h.lanes t ht ((hs.tri t).votes ▸ hv) p hp),
    by rw [(hs.tri t0).livePos]; exact h.live⟩

/-- No two live cores have delivered a window. -/
theorem Alone.agreed (h : Alone t0 p0 s) (ht : t < 6) (hv : (s.tri t).votes = true) (n : Nat) :
    (s.tri t).agreed n = none := by
  cases ha : (s.tri t).agreed n with
  | none => rfl
  | some g =>
    obtain ⟨p, w⟩ := g
    obtain ⟨hp, -, q, v, hqp, -, hq, -⟩ := agreed_two ha
    by_cases hpp : t ≠ t0 ∨ p ≠ p0
    · rw [closed_none (h.lanes t ht hv p hpp)] at hp
      cases hp
    · rw [closed_none (h.lanes t ht hv q (by omega))] at hq
      cases hq

/-- Of two live positions one is not `p0`. -/
theorem exists_live_ne {x : Triad} (h : 2 ≤ x.livePos.length) (p0 : Nat) : ∃ p ∈ x.livePos, p ≠ p0 := by
  by_contra hno
  push Not at hno
  have hle := (List.eq_replicate_of_mem hno)
  have hnd := nodup_livePos x
  rw [hle] at hnd
  exact absurd (List.nodup_replicate.1 hnd) (by omega)

/-- Not every live core has delivered a window. -/
theorem Alone.complete (h : Alone t0 p0 s) (ht : t < 6) (hv : (s.tri t).votes = true) (hl : (s.tri t).livePos ≠ [])
    (n : Nat) : (s.tri t).complete n = false := by
  obtain ⟨p, hp, hne⟩ : ∃ p ∈ (s.tri t).livePos, t ≠ t0 ∨ p ≠ p0 := by
    by_cases htt : t = t0
    · subst htt
      obtain ⟨p, hp, hne⟩ := exists_live_ne h.live p0
      exact ⟨p, hp, .inr hne⟩
    · obtain ⟨p, hp⟩ := List.exists_mem_of_ne_nil _ hl
      exact ⟨p, hp, .inl htt⟩
  refine List.all_eq_false.2 ⟨p, hp, ?_⟩
  rw [closed_none (h.lanes t ht hv p hne)]
  decide

theorem Alone.advance (h : Alone t0 p0 s) (ht : t < 6) (fuel : Nat) : advance t fuel s = s := by
  cases fuel with
  | zero => rfl
  | succ fuel =>
    unfold Sys2Proof.Machine.advance
    dsimp only
    split
    · rfl
    · rename_i hgo
      simp only [Bool.or_eq_true, Bool.not_eq_true', List.isEmpty_iff, not_or, Bool.not_eq_false] at hgo
      rw [h.agreed ht hgo.1, h.complete ht hgo.1 hgo.2]
      rfl

theorem Alone.serveAll (h : Alone t0 p0 s) (ht : t < 6) : serveAll t s = s := by
  unfold Sys2Proof.Machine.serveAll
  dsimp only
  rw [h.held t ht]
  rfl

theorem Alone.rearm (h : Alone t0 p0 s) (ht : t < 6) : rearm t s = s := by
  unfold Sys2Proof.Machine.rearm
  dsimp only
  rw [h.irqs t ht, if_pos (by simp)]

theorem Alone.pruneC (h : Alone t0 p0 s) (ht : t < 6) : pruneC t s = s := by
  unfold Sys2Proof.Machine.pruneC
  rw [modTri_eq_putTri, h.closeAt t ht, List.filter_nil]
  exact (congrArg (putTri t · s) (by rw [← h.closeAt t ht])).trans (putTri_self t s)

theorem Alone.settleTriad (h : Alone t0 p0 s) (ht : t < 6) : Stays t0 p0 s (settleTriad t s) := by
  unfold Sys2Proof.Machine.settleTriad
  dsimp only
  rw [h.serveAll ht]
  refine .ite _ (.forAll _ _ _ fun p u => stays_takeAll _ _ _ _) ?_
  rw [h.rearm ht, h.advance ht, h.pruneC ht]
  exact .refl _ _ _

theorem Alone.settleN (h : Alone t0 p0 s) (k : Nat) : Stays t0 p0 s (settleN k s) := by
  induction k generalizing s with
  | zero => exact .refl _ _ _
  | succ k ih =>
    have hround : Stays t0 p0 s (Sys2Proof.Machine.forAll (List.range 6) Sys2Proof.Machine.settleTriad s) :=
      forAll_keeps_mem (P := Stays t0 p0 s) _ _ _
        (fun t ht v hv => hv.trans ((h.after hv).settleTriad (List.mem_range.1 ht))) (.refl _ _ _)
    unfold Sys2Proof.Machine.settleN
    exact .ite _ (.refl _ _ _) (hround.trans (ih (h.after hround)))

/-- A member that acts while no other core of its triad has a window and every other triad is at rest. -/
theorem alone_of_settled (hset : ∀ t, t < 6 → t ≠ t0 → settled s t = true) (hc : (s.tri t0).closeAt = [])
    (hi : (s.tri t0).irqs = []) (hh : (s.tri t0).held = []) (hw : ∀ p, p ≠ p0 → ((s.tri t0).lane p).wins = [])
    (hl : 2 ≤ (s.tri t0).livePos.length) : Alone t0 p0 s := by
  have hrest : ∀ t, t < 6 → t ≠ t0 → (s.tri t).held = [] ∧ (s.tri t).irqs = [] ∧ (s.tri t).closeAt = [] ∧
      ((s.tri t).votes = true → ∀ l ∈ (s.tri t).lanes, l.wins = []) := fun t ht hne => by
    have h := hset t ht hne
    simp only [settled, Bool.and_eq_true, List.isEmpty_iff, Bool.or_eq_true, Bool.not_eq_true', List.all_eq_true] at h
    exact ⟨h.1.1.1.1, h.1.1.1.2, h.1.1.2, fun hv => h.2.resolve_left (by simp [hv])⟩
  refine ⟨fun t ht => ?_, fun t ht => ?_, fun t ht => ?_, fun t ht hv p hp => ?_, hl⟩ <;> by_cases htt : t = t0
  · rw [htt]; exact hh
  · exact (hrest t ht htt).1
  · rw [htt]; exact hi
  · exact (hrest t ht htt).2.1
  · rw [htt]; exact hc
  · exact (hrest t ht htt).2.2.1
  · subst htt
    exact Lane.open_of_nil (hw p (hp.resolve_left (· rfl)))
  · by_cases hlen : p < (s.tri t).lanes.length
    · rw [Triad.lane, nth_of_lt _ hlen]
      exact Lane.open_of_nil ((hrest t ht htt).2.2.2 hv _ (List.getElem_mem hlen))
    · rw [Triad.lane, nth_of_le _ (Nat.le_of_not_lt hlen)]
      exact Lane.open_of_nil rfl

/-- An answer to a load keeps the voters from acting. -/
theorem Alone.emit (h : Alone t0 p0 s) (o : Out) : Alone t0 p0 (emit o s) := by
  have htri := tri_emit o s
  exact ⟨fun t ht => by rw [htri]; exact h.held t ht, fun t ht => by rw [htri]; exact h.irqs t ht,
    fun t ht => by rw [htri]; exact h.closeAt t ht, fun t ht => by rw [htri]; exact h.lanes t ht, by rw [htri]; exact h.live⟩

/-- R79, R84, R85: nothing leaves the triads but the answer. -/
theorem answers_settle {n : Nat} (hb : s.out = []) (h : Alone t0 p0 s) (ha : Answers n t0 p0 s u) :
    Only [.trd] s (settle u) ∧ ∀ e ∈ (settle u).out, ∃ bs, e = .response n 0 bs := by
  obtain ⟨v, hv, rfl | ⟨bs, rfl⟩⟩ := ha
  · have hset := (h.after hv).settleN 20
    refine ⟨hv.only.then hset.only (List.Subset.refl _), fun e he => ?_⟩
    rw [settle, hset.out, hv.out, hb] at he
    cases he
  · have hset := ((h.after hv).emit (.response n 0 bs)).settleN 20
    refine ⟨(hv.only.then (only_emit _ _) (by decide)).then hset.only (List.Subset.refl _), fun e he => ?_⟩
    rw [settle, hset.out, show (Sys2Proof.Machine.emit (.response n 0 bs) v).out = v.out ++ [.response n 0 bs] from rfl,
      hv.out, hb, List.nil_append, List.mem_singleton] at he
    exact ⟨bs, he⟩

end

end Sys2Proof.Machine
end

section
/-! PROOF. Loads (03 R72, R83, R84): a member's request, a load from a page of the triad's own, the single issue and whom it
serves. -/

namespace Sys2Proof.Machine

/-! ### A member's request (R83) -/

theorem length_closes (x : Triad) (p cause now : Nat) : (x.closes p cause now).lanes.length = x.lanes.length := by
  unfold Triad.closes
  split
  · exact length_atLane _ _ _
  · rfl

theorem closes_closed {x : Triad} {p cause : Nat} (hc : cause ≠ 0) (now : Nat) :
    ((x.closes p cause now).lane p).open' = false := by
  cases h : (x.lane p).open'
  · rw [Triad.closes, if_neg (by simp [h])]
    exact h
  · obtain ⟨ws, w, hw, h0⟩ := wins_of_open h
    obtain ⟨v, hv, hcause, -⟩ := closes_wins hw h0 cause now
    rw [open_append hv, hcause]
    exact decide_eq_false hc

/-- The lane that waits for a read. -/
def Lane.waits (addr size : Nat) (l : Lane) : Lane := { l with req := some (addr, size) }

theorem requested_eq (t p addr size : Nat) {s : State} (h : t < s.trd.triads.length) : requested t p addr size s =
    putTri t (((s.tri t).closes p 4 s.clk.now).atLane p (Lane.waits addr size)) s := by
  rw [requested, modLane_eq, closeWin_eq, tri_putTri_self _ h, putTri_putTri]
  rfl

theorem mayGo_member {s : State} {n : Nat} (h : mayCommit s n = true) : (s.core n).role = 0 ∧ mayGo s n = true := by
  have hr : (s.core n).role = 0 := by
    simp only [mayCommit, Bool.and_eq_true, decide_eq_true_eq] at h
    tauto
  exact ⟨hr, by rw [mayGo, if_neg (by omega), h]⟩

section
variable {s : State} {n a size : Nat}

theorem wf_request (hn : n < 20) (ha : a < 2 ^ 36) (hs : size ∈ [1, 2, 4, 8]) :
    (Instr.coreInstruction n (.request a size)).wf = true := by
  have hsize : size = 1 ∨ size = 2 ∨ size = 4 ∨ size = 8 := by simpa using hs
  simp only [Instr.wf, CoreAct.wf, hn, ha, hsize, decide_true, Bool.and_self]

theorem request_waits (hn : n < 20) (ha : a < 2 ^ 36) (hs : size ∈ [1, 2, 4, 8]) (hgo : mayCommit s n = true)
    (hal : a % size = 0) (hpmp : pmpDenies (s.core n) 0 a size = false) (hpriv : privateTo s (s.core n).triad a = false)
    (hheld : (s.tri (s.core n).triad).held = []) (hl : (s.core n).triad < s.trd.triads.length)
    (hp : (s.core n).pos < (s.tri (s.core n).triad).lanes.length) :
    GivesSettled [.trd] (.coreInstruction n (.request a size)) s (fun u =>
      ((u.tri (s.core n).triad).lane (s.core n).pos).req = some (a, size) ∧
      ((u.tri (s.core n).triad).lane (s.core n).pos).open' = false ∧ u.core n = s.core n ∧
      (∀ ws w, ((s.tri (s.core n).triad).lane (s.core n).pos).wins = ws ++ [w] → w.cause = 0 →
        ∃ v, ((u.tri (s.core n).triad).lane (s.core n).pos).wins = ws ++ [v] ∧ v.cause = 4 ∧ v.num = w.num)) := by
  obtain ⟨hrole, hmay⟩ := mayGo_member hgo
  have hop : opCoreInstruction n (.request a size) s.begin =
      putTri (s.core n).triad (((s.tri (s.core n).triad).closes (s.core n).pos 4 s.clk.now).atLane (s.core n).pos
        (Lane.waits a size)) s.begin :=
    (coreRequest_shared (s := s.begin) hmay hal hpmp hpriv (by rw [core_begin]; omega) hheld).trans (requested_eq _ _ _ _ hl)
  refine givesSettled_of_run (exec_coreInstruction n _ s) (wf_request hn ha hs) ?_ ?_ <;> rw [hop]
  · exact only_putTri _ _ _
  · rw [tri_putTri_self _ (by exact hl), core_putTri, lane_atLane_self _ (by rw [length_closes]; exact hp)]
    exact ⟨rfl, closes_closed (by decide) _, rfl, fun ws w hw h0 => closes_wins hw h0 4 _⟩

theorem request_misaligned (hn : n < 20) (ha : a < 2 ^ 36) (hs : size ∈ [1, 2, 4, 8]) (hgo : mayGo s n = true)
    (hal : a % size ≠ 0) : exec (.coreInstruction n (.request a size)) s =
      .next { settle (trapCore n false 4 (BitVec.ofNat 64 a) s.begin) with pending := s.pending } := by
  have hop : opCoreInstruction n (.request a size) s.begin = trapCore n false 4 (BitVec.ofNat 64 a) s.begin := by
    have hgo' : mayGo s.begin n = true := hgo
    unfold opCoreInstruction coreRequest
    simp only [hgo', hal, Bool.not_true, ne_eq, not_false_eq_true, Bool.false_eq_true, if_false, if_true]
  rw [exec_coreInstruction, wfRun_next _ _ _ (wf_request hn ha hs), hop]

theorem request_private (hn : n < 20) (ha : a < 2 ^ 36) (hs : size ∈ [1, 2, 4, 8]) {o : Nat} (hgo : mayGo s n = true)
    (hal : a % size = 0) (hpmp : pmpDenies (s.core n) 0 a size = false) (hpriv : privateTo s (s.core n).triad a = true)
    (hp : placeOf a = .dram o) (hr : rachisRefusal s n .read a size = none) (hb : touchesBad s.mem.dramBad o size = false) :
    GivesSettled [.trd] (.coreInstruction n (.request a size)) s (fun u =>
      u.out = [.response n 0 ((List.range size).map (fun i =>
        laneByte ((s.tri (s.core n).triad).lane (s.core n).pos) (a + i) (nth (s.mem.dramGet o size) i 0)))]) := by
  have hload := loadPrivate_dram (s := s.begin) hp hr hb
  obtain ⟨-, hstay, -⟩ := stays_loadPrivate (s := s.begin) (n := n) (addr := a) (size := size) 0 0
    (fun _ => ⟨o, hp, hr, hb⟩) hpriv
  have hop : opCoreInstruction n (.request a size) s.begin =
      emit (.response n 0 (loadPrivate n a size s.begin).2.1) (loadPrivate n a size s.begin).2.2 := by
    have hgo' : mayGo s.begin n = true := hgo
    have hpmp' : pmpDenies (s.begin.core n) 0 a size = false := hpmp
    have hpriv' : privateTo s.begin (s.begin.core n).triad a = true := hpriv
    have hok : (loadPrivate n a size s.begin).1 = 0 := by rw [hload]
    unfold opCoreInstruction coreRequest
    simp only [hgo', hal, hpmp', hpriv', hok, Bool.not_true, ne_eq, not_true_eq_false, Bool.false_eq_true, if_false, if_true]
  refine givesSettled_of_run (exec_coreInstruction n _ s) (wf_request hn ha hs) ?_ ?_ <;> rw [hop]
  · exact hstay.only.then (only_emit _ _) (by decide)
  · show (loadPrivate n a size s.begin).2.2.out ++ [_] = _
    rw [hstay.out, hload]
    rfl

theorem request_waiting (hn : n < 20) (ha : a < 2 ^ 36) (hs : size ∈ [1, 2, 4, 8]) (hgo : mayGo s n = false) :
    exec (.coreInstruction n (.request a size)) s = .next { settle s.begin with pending := s.pending } :=
  exec_settle_of_run (exec_coreInstruction n _ s) (wf_request hn ha hs)
    (if_pos (by rw [show mayGo s.begin n = false from hgo]; rfl))

end

/-! ### The single issue (R83) -/

/-- A read that has gone out under core `n`'s ID, and that every live core is to have. -/
def asked (n win addr size : Nat) : HeldRead := ⟨win, addr, size, some n, none, 0, [], []⟩

/-- The same read with its data there, given to the positions `ps` so far. -/
def answered (win addr size : Nat) (bs : List Byte) (ps : List Nat) : HeldRead := ⟨win, addr, size, none, none, 0, bs, ps⟩

/-- What the triad holds is nothing that a refusal looks at. -/
theorem rachisRefusal_putTri {t : Nat} {x : Triad} {s : State} (h : x.fwCore = (s.tri t).fwCore) (n : Nat) (kind : RKind)
    (addr size : Nat) : rachisRefusal (putTri t x s) n kind addr size = rachisRefusal s n kind addr size := by
  have hid : fwId (putTri t x s) n = fwId s n := by
    unfold fwId
    dsimp only
    rw [core_putTri]
    rcases tri_putTri_or (s.core n).triad t x s with hk | ⟨hk, hx⟩
    · rw [hk]; rfl
    · rw [hx, h, hk]; rfl
  unfold rachisRefusal mapRefusal firewallOk
  rw [hid]
  rfl

/-- A read of DRAM: its data is held for the live cores. -/
theorem issueRead_dram {s : State} {t n win a size o : Nat} (hh : (s.tri t).held = [])
    (hp : placeOf a = .dram o) (hr : rachisRefusal s n .read a size = none)
    (hb : touchesBad s.mem.dramBad o size = false) : issueRead t n win a size none s =
      putTri t { s.tri t with held := [answered win a size (s.mem.dramGet o size) []] } s := by
  have hculm : toCulm a = false := by rw [toCulm, hp]; rfl
  have hput : modTri t (fun (x : Triad) => { x with held := x.held ++ [asked n win a size] }) s =
      putTri t { s.tri t with held := [asked n win a size] } s := by rw [modTri_eq_putTri, hh]; rfl
  have hread := busRead_dram (s := putTri t { s.tri t with held := [asked n win a size] } s) (n := n) hp
    ((rachisRefusal_putTri (by rfl) _ _ _ _).trans hr) hb
  unfold issueRead
  dsimp only
  rw [show (⟨win, a, size, some n, none, 0, [], []⟩ : HeldRead) = asked n win a size from rfl, hput, hread, hculm,
    if_neg (by simp), modTri_putTri]
  refine congrArg (putTri t · s) ?_
  simp only [fillHeld, asked, and_self, if_true]
  rfl

/-- The triad after position `p` has had the response that `h` holds for it, and `pend` is what it still holds. -/
def Triad.served (x : Triad) (p : Nat) (pend : List HeldRead) : Triad :=
  { x.atLane p (fun l => { l with req := none }) with held := pend }

theorem lane_served_ne (x : Triad) {p q : Nat} (h : q ≠ p) (pend : List HeldRead) :
    (x.served p pend).lane q = x.lane q := lane_atLane_ne h _

section
variable {s : State} {t w a size : Nat} {bs : List Byte}

/-- One live core takes the response; it is held on while another live core has not had it. -/
theorem serveHeld_serves {p : Nat} {ps : List Nat} (hh : (s.tri t).held = [answered w a size bs ps])
    (hreq : ((s.tri t).lane p).req = some (a, size)) (hw : ((s.tri t).lane p).nextNum - 1 = w) (hp : p ∉ ps) :
    serveHeld t p s = emit (.response ((s.tri t).coreAt p) 0 bs) (putTri t ((s.tri t).served p
      (if (s.tri t).livePos.any (fun q => !(p :: ps).contains q) then [answered w a size bs (p :: ps)] else [])) s) := by
  have hfor : heldFor (s.tri t) p = some (answered w a size bs ps) := by
    unfold heldFor
    rw [hreq, hh]
    simp [answered, hw, hp]
  unfold serveHeld
  dsimp only
  rw [hfor]
  dsimp only
  rw [if_pos (show (answered w a size bs ps).code = 0 from rfl), modTri_eq_putTri, hh]
  refine congrArg (fun x => emit _ (putTri t x s)) ?_
  rw [List.erase_cons_head, List.nil_append]
  rfl

/-- Of different positions served in turn, one is left to serve while any is. -/
theorem left_to_serve {pre suf : List Nat} {p : Nat} (h : (pre ++ p :: suf).Nodup) :
    (pre ++ p :: suf).any (fun q => !(p :: pre.reverse).contains q) = !suf.isEmpty := by
  obtain ⟨-, hps, hdis⟩ := List.nodup_append.1 h
  cases suf with
  | nil => simp +contextual
  | cons r suf =>
    have hrp : r ≠ p := fun e => (List.nodup_cons.1 hps).1 (e ▸ List.mem_cons_self)
    have hrpre : r ∉ pre := fun e => hdis r e r (List.mem_cons_of_mem _ List.mem_cons_self) rfl
    simp [hrp, hrpre]

/-- The state in which position `p` has had the response, and `pend` is held on. -/
def servedState (t p : Nat) (bs : List Byte) (pend : List HeldRead) (s : State) : State :=
  emit (.response ((s.tri t).coreAt p) 0 bs) (putTri t ((s.tri t).served p pend) s)

theorem servedState_tri (hl : t < s.trd.triads.length) (p : Nat) (pend : List HeldRead) :
    (servedState t p bs pend s).tri t = (s.tri t).served p pend := by
  rw [servedState, tri_emit, tri_putTri_self _ hl]

theorem only_servedState (t p bs pend s) : Only [.trd] s (servedState t p bs pend s) :=
  (only_putTri _ _ _).then (only_emit _ _) (by decide)

theorem servedState_req (hl : t < s.trd.triads.length) {p q : Nat} (hp : p < (s.tri t).lanes.length)
    (pend : List HeldRead) (hq : q = p ∨ ((s.tri t).lane q).req = none) :
    (((servedState t p bs pend s).tri t).lane q).req = none := by
  rw [servedState_tri hl]
  by_cases hqp : q = p
  · rw [hqp]; exact congrArg Lane.req (lane_atLane_self _ hp)
  · rw [lane_served_ne _ hqp]; exact hq.resolve_left hqp

/-- The live cores that are left take the response in turn. -/
theorem serveHeld_all (hl : t < s.trd.triads.length) {pre suf : List Nat} (hlive : (s.tri t).livePos = pre ++ suf)
    (hsuf : suf ≠ []) (hlen : (s.tri t).lanes.length = 3) (hh : (s.tri t).held = [answered w a size bs pre.reverse])
    (hreq : ∀ q ∈ suf, ((s.tri t).lane q).req = some (a, size) ∧ ((s.tri t).lane q).nextNum - 1 = w) :
    Only [.trd] s (forAll suf (serveHeld t) s) ∧
      (forAll suf (serveHeld t) s).out = s.out ++ suf.map (fun q => .response ((s.tri t).coreAt q) 0 bs) ∧
      (∀ q, q ∈ suf ∨ ((s.tri t).lane q).req = none → (((forAll suf (serveHeld t) s).tri t).lane q).req = none) ∧
      ((forAll suf (serveHeld t) s).tri t).held = [] := by
  induction suf generalizing pre s with
  | nil => exact absurd rfl hsuf
  | cons p suf ih =>
    have hnd := nodup_livePos (s.tri t)
    rw [hlive] at hnd
    obtain ⟨-, hps, hdis⟩ := List.nodup_append.1 hnd
    have hpre : p ∉ pre := fun h => hdis p h p List.mem_cons_self rfl
    have hp3 : p < (s.tri t).lanes.length := by
      rw [hlen]; exact (mem_livePos.1 (hlive ▸ List.mem_append_right _ List.mem_cons_self)).1
    obtain ⟨hr, hw⟩ := hreq p List.mem_cons_self
    have hserve : serveHeld t p s = servedState t p bs
        (if (!suf.isEmpty) = true then [answered w a size bs (p :: pre.reverse)] else []) s := by
      rw [serveHeld_serves hh hr hw (by simpa using hpre), hlive, left_to_serve hnd]
      rfl
    rw [forAll, hserve]
    by_cases hnil : suf = []
    · subst hnil
      refine ⟨only_servedState _ _ _ _ _, rfl, fun q hq => servedState_req hl hp3 _ (hq.imp (by simp) id), ?_⟩
      exact (congrArg Triad.held (servedState_tri hl p _)).trans rfl
    · rw [if_pos (by simpa using hnil)]
      have htri := servedState_tri (bs := bs) hl p [answered w a size bs (p :: pre.reverse)]
      obtain ⟨honly, hout, hreqs, hdone⟩ := ih (s := servedState t p bs [answered w a size bs (p :: pre.reverse)] s)
        (pre := pre ++ [p]) (by simpa [servedState, emit] using hl)
        (by rw [htri]; show (s.tri t).livePos = _; simp [hlive]) hnil
        (by rw [htri]; exact (length_atLane _ _ _).trans hlen) (by rw [htri, List.reverse_append]; rfl)
        (fun q hq => by
          have hqp : q ≠ p := fun h => (List.nodup_cons.1 hps).1 (h ▸ hq)
          rw [htri, lane_served_ne _ hqp]
          exact hreq q (List.mem_cons_of_mem _ hq))
      refine ⟨(only_servedState _ _ _ _ _).then honly (by decide), ?_, fun q hq => hreqs q ?_, hdone⟩
      · rw [hout, htri]
        show (s.out ++ [_]) ++ _ = _
        rw [List.append_assoc]
        rfl
      · rcases hq with hq | hq
        · exact (List.mem_cons.1 hq).elim (fun h => .inr (servedState_req hl hp3 _ (.inl h))) .inl
        · exact .inr (servedState_req hl hp3 _ (.inr hq))

/-- A read is ready only where a core is live. -/
theorem livePos_of_ready {x : Triad} {r : Nat × Nat × Nat × Nat} (h : readReady x = some r) : x.livePos ≠ [] := fun hn => by
  rw [readReady, hn] at h
  cases h

theorem singleIssueRead_serves {p o : Nat} (ht : t < 6) (hl : t < s.trd.triads.length) (hv : (s.tri t).voting = true)
    (hh : (s.tri t).held = []) (hst : storesAnswered s t = true) (hready : readReady (s.tri t) = some (p, w, a, size))
    (hreq : ∀ q ∈ (s.tri t).livePos, ((s.tri t).lane q).req = some (a, size) ∧ ((s.tri t).lane q).nextNum - 1 = w)
    (hlen : (s.tri t).lanes.length = 3) (hp : placeOf a = .dram o)
    (hr : rachisRefusal s ((s.tri t).coreAt p) .read a size = none) (hb : touchesBad s.mem.dramBad o size = false) :
    GivesSettled [.trd] (.singleIssueRead t) s (fun u =>
      u.out = (s.tri t).livePos.map (fun q => .response ((s.tri t).coreAt q) 0 (s.mem.dramGet o size)) ∧
      (∀ q ∈ (s.tri t).livePos, ((u.tri t).lane q).req = none) ∧ (u.tri t).held = []) := by
  have hissue := issueRead_dram (s := s.begin) (n := (s.tri t).coreAt p) (win := w) hh hp hr hb
  rw [tri_begin] at hissue
  set y : Triad := { s.tri t with held := [answered w a size (s.begin.mem.dramGet o size) []] } with hy
  have htri : (putTri t y s.begin).tri t = y := tri_putTri_self _ hl
  have h4 : (s.tri t).state ≠ 4 := fun h4 => by simp [Triad.voting, h4] at hv
  have hnone : serveAll t s.begin = s.begin := if_pos (by rw [tri_begin, hh]; rfl)
  have hall : serveAll t (putTri t y s.begin) = forAll (s.tri t).livePos (serveHeld t) (putTri t y s.begin) := by
    unfold serveAll
    dsimp only
    rw [htri, if_neg (by simp [hy]), if_neg (by exact h4)]
    rfl
  have hop : opSingleIssueRead t s.begin = forAll (s.tri t).livePos (serveHeld t) (putTri t y s.begin) := by
    unfold opSingleIssueRead
    dsimp only
    rw [hnone, if_neg (by
      rw [tri_begin, hv, hh, show storesAnswered s.begin t = true from hst]; decide), tri_begin, hready]
    dsimp only
    rw [hissue, hall]
  obtain ⟨honly, hout, hreqs, hdone⟩ := serveHeld_all (s := putTri t y s.begin) (pre := []) (by simpa using hl)
    (by rw [htri]; rfl) (livePos_of_ready hready) (by rw [htri]; exact hlen) (by rw [htri]; rfl)
    (by rw [htri]; exact hreq)
  rw [htri] at hout
  refine givesSettled_of_run (exec_singleIssueRead t s) (by simp [Instr.wf, ht]) ?_ ?_ <;> rw [hop]
  · exact (only_putTri _ _ _).then honly (by decide)
  · exact ⟨hout, fun q hq => hreqs q (.inl hq), hdone⟩

end

/-! ### What one core alone commits (R79, R84, R85) -/

theorem alone_commits {s : State} {n : Nat} {a : CoreAct} (hn : n < 20) (ha : a.wf = true) (hr : LoadsDram s n a)
    (hrole : (s.core n).role ≠ 1) (hset : ∀ t, t < 6 → t ≠ (s.core n).triad → settled s t = true)
    (hc : (s.tri (s.core n).triad).closeAt = []) (hi : (s.tri (s.core n).triad).irqs = [])
    (hh : (s.tri (s.core n).triad).held = [])
    (hw : ∀ p, p ≠ (s.core n).pos → ((s.tri (s.core n).triad).lane p).wins = [])
    (hl : 2 ≤ (s.tri (s.core n).triad).livePos.length) :
    GivesOnly [.trd] (.coreInstruction n a) s (fun t => ∀ e ∈ t.out, ∃ bs, e = .response n 0 bs) := by
  have halone : Alone (s.core n).triad (s.core n).pos s.begin := alone_of_settled hset hc hi hh hw hl
  have hloads : LoadsDram s.begin n a := by cases a <;> exact hr
  have hdoes := answers_coreInstruction (s := s.begin) ⟨hrole, rfl, rfl, hc⟩ hh hloads
  obtain ⟨honly, hout⟩ := answers_settle rfl halone hdoes
  exact givesOnly_of_run (exec_coreInstruction n a s) (by simp [Instr.wf, hn, ha]) honly hout

/-- Settles O13: a request by the window it closes, a load from an own page by what DRAM holds under the core's own stores,
the single issue by serving the live cores in turn; and what one core alone does leaves the voters nothing to act on. -/
theorem singleIssueReadsAgree : Obligations.SingleIssueReadsAgree := by
  refine ⟨fun s => ⟨fun n a size hn ha hs => ⟨?_, ?_, fun o => ?_, ?_⟩, fun t p w a size o => singleIssueRead_serves⟩,
    fun s n a hn ha hr => ?_⟩
  · exact request_waits hn ha hs
  · exact request_misaligned hn ha hs
  · exact request_private hn ha hs
  · exact request_waiting hn ha hs
  · exact alone_commits hn ha (by cases a <;> exact hr)

end Sys2Proof.Machine
end

section
/-! PROOF. Hand-over to split operation and return from it (03 R95, R96, R97). -/

namespace Sys2Proof.Machine

/-! ### The three cores of a triad -/

/-- The triad's three positions hold different cores of the part. -/
structure ThreeCores (x : Triad) : Prop where
  lt : ∀ p, p < 3 → x.coreAt p < 20
  ne01 : x.coreAt 0 ≠ x.coreAt 1
  ne02 : x.coreAt 0 ≠ x.coreAt 2
  ne12 : x.coreAt 1 ≠ x.coreAt 2

theorem ThreeCores.ne_of_lt {x : Triad} (h : ThreeCores x) {p q : Nat} (hpq : p < q) (hq : q < 3) :
    x.coreAt p ≠ x.coreAt q := by
  obtain ⟨rfl, rfl⟩ | ⟨rfl, rfl⟩ | ⟨rfl, rfl⟩ : p = 0 ∧ q = 1 ∨ p = 0 ∧ q = 2 ∨ p = 1 ∧ q = 2 := by omega
  · exact h.ne01
  · exact h.ne02
  · exact h.ne12

theorem ThreeCores.ne {x : Triad} (h : ThreeCores x) {p q : Nat} (hp : p < 3) (hq : q < 3) (hpq : p ≠ q) :
    x.coreAt p ≠ x.coreAt q :=
  (Nat.lt_or_gt_of_ne hpq).elim (fun hlt => h.ne_of_lt hlt hq) fun hgt => (h.ne_of_lt hgt hp).symm

/-- Every core of the triad changed, each by what its position says. -/
def modThree (x : Triad) (g : Nat → Core → Core) (s : State) : State :=
  modCore (x.coreAt 2) (g 2) (modCore (x.coreAt 1) (g 1) (modCore (x.coreAt 0) (g 0) s))

@[simp] theorem tri_modThree (x : Triad) (g : Nat → Core → Core) (s : State) (t : Nat) : (modThree x g s).tri t = s.tri t := by
  simp [modThree]

theorem only_modThree (x g s) : Only [.trd] s (modThree x g s) :=
  (only_modCore _ _ s).then ((only_modCore _ _ _).then (only_modCore _ _ _) (List.Subset.refl _)) (List.Subset.refl _)

theorem core_modThree {x : Triad} (h : ThreeCores x) {s : State} (hc : s.trd.cores.length = 20) (g : Nat → Core → Core)
    {p : Nat} (hp : p < 3) : (modThree x g s).core (x.coreAt p) = g p (s.core (x.coreAt p)) := by
  have hlen := h.lt p hp
  obtain rfl | rfl | rfl : p = 0 ∨ p = 1 ∨ p = 2 := by omega
  · rw [modThree, core_modCore_ne _ _ h.ne02, core_modCore_ne _ _ h.ne01, core_modCore_self _ (by omega)]
  · rw [modThree, core_modCore_ne _ _ h.ne12, core_modCore_self _ (by simpa [hc] using hlen), core_modCore_ne _ _ h.ne01.symm]
  · rw [modThree, core_modCore_self _ (by simpa [hc] using hlen), core_modCore_ne _ _ h.ne12.symm,
      core_modCore_ne _ _ h.ne02.symm]

/-! ### What scheduling does to a split triad (R95) -/

/-- From `s` to `u` the triads' part changes only in the interrupts that cores have been given. -/
structure IntrOnly (s u : State) : Prop where
  triads : u.trd.triads = s.trd.triads
  err : u.trd.err = s.trd.err
  cores : ∀ n, ∃ l, u.core n = { s.core n with intr := l }

namespace IntrOnly

variable {s u v : State}

theorem of_trd (h : u.trd = s.trd) : IntrOnly s u := ⟨by rw [h], by rw [h], fun n => ⟨(s.core n).intr, core_congr h n⟩⟩

theorem refl (s : State) : IntrOnly s s := of_trd rfl

theorem trans (h : IntrOnly s u) (h' : IntrOnly u v) : IntrOnly s v :=
  ⟨h'.triads.trans h.triads, h'.err.trans h.err, fun n => by
    obtain ⟨l, hl⟩ := h.cores n
    obtain ⟨l', hl'⟩ := h'.cores n
    exact ⟨l', by rw [hl', hl]⟩⟩

theorem after (h : IntrOnly u v) (htrd : u.trd = s.trd) : IntrOnly s v := (of_trd htrd).trans h

theorem tri (h : IntrOnly s u) (t : Nat) : u.tri t = s.tri t := by rw [State.tri, h.triads]; rfl

theorem forAll {α : Type} (l : List α) (f : α → State → State) {P : State → Prop}
    (hP : ∀ u, IntrOnly s u → P u) (hf : ∀ a u, P u → IntrOnly u (f a u)) : IntrOnly s (forAll l f s) :=
  forAll_keeps (P := IntrOnly s) l f s (fun a u hu => hu.trans (hf a u (hP u hu))) (refl s)

end IntrOnly

theorem intrOnly_giveIrq (n src : Nat) (s : State) : IntrOnly s (giveIrq n src s) :=
  ⟨rfl, rfl, fun m => by
    rcases core_modCore_or m n (fun (c : Core) => { c with intr := c.intr ++ [src] }) s with h | h <;>
      rw [giveIrq, core_emit, h]
    · exact ⟨_, rfl⟩
    · exact ⟨_, rfl⟩⟩

section
variable {s : State} {t : Nat}

theorem intrOnly_irqTriad (h4 : (s.tri t).state = 4) (ps : List Nat) (src : Nat) : IntrOnly s (irqTriad t ps src s) := by
  rw [irqTriad, if_pos h4]
  exact .forAll _ _ (fun _ _ => trivial) fun p u _ => intrOnly_giveIrq _ _ u

theorem intrOnly_dispatch (h4 : (s.tri t).state = 4) (p : Nat) : IntrOnly s (dispatch t p s) := by
  unfold dispatch
  split
  · exact .refl _
  · extract_lets c d
    split
    · exact .of_trd rfl
    · split
      · exact .of_trd rfl
      · exact (intrOnly_irqTriad (s := modDisp t p _ s) h4 _ _).after rfl

theorem intrOnly_resched (h4 : (s.tri t).state = 4) : IntrOnly s (resched t s) := by
  have htrd : (regate t (account t s)).trd = s.trd :=
    ((only_account t s).then (only_regate t _) (List.Subset.refl _)) .trd (by decide)
  have h4' : ((regate t (account t s)).tri t).state = 4 := by rw [tri_congr htrd]; exact h4
  refine (IntrOnly.of_trd htrd).trans (.forAll _ _ (P := fun u => (u.tri t).state = 4) (fun u hu => ?_) fun p u hu =>
    intrOnly_dispatch hu p)
  rw [hu.tri]; exact h4'

/-- Sources given to the cores of a split triad. -/
theorem intrOnly_irqs (h4 : (s.tri t).state = 4) (l : List Nat) :
    IntrOnly s (forAll l (fun i u => irqTriad t (u.tri t).filled i u) s) :=
  .forAll _ _ (P := fun u => (u.tri t).state = 4) (fun u hu => by rw [hu.tri]; exact h4) fun i u hu =>
    intrOnly_irqTriad hu _ _

end

/-! ### TO_SPLIT (R96) -/

section
variable {s : State} {t : Nat}

theorem refuseSplit_gives (ht : t < 6) (hl : t < s.trd.triads.length) {res : Nat}
    (hop : opToSplit t s.begin = refuseSplit t res s.begin) :
    GivesSettled [.trd] (.toSplit t) s (fun u => u.tri t = { s.tri t with hoResult := res }) := by
  refine givesSettled_of_run (exec_toSplit t s) (by simp [Instr.wf, ht]) ?_ ?_ <;> rw [hop]
  · exact only_modTri _ _ _
  · exact tri_modTri_self _ hl

theorem toSplit_begins (ht : t < 6) (hl : t < s.trd.triads.length) (ho : (s.tri t).handover = true) (h1 : (s.tri t).state = 1)
    (hr : (s.tri t).reintPending = false) (hs : runsSafety s t = false) :
    GivesSettled [.trd, .sch] (.toSplit t) s (fun u => u.tri t = { s.tri t with state := 5, openedAt := none }) := by
  have hacc := only_account t s.begin
  have hop : opToSplit t s.begin = modTri t (fun (x : Triad) => { x with state := 5, openedAt := none }) (account t s.begin) := by
    have hs' : runsSafety s.begin t = false := hs
    simp [opToSplit, ho, h1, hr, hs']
  refine givesSettled_of_run (exec_toSplit t s) (by simp [Instr.wf, ht]) ?_ ?_ <;> rw [hop]
  · exact (hacc.weaken (by decide)).then (only_modTri _ _ _) (by decide)
  · have htrd : (account t s.begin).trd = s.trd := hacc .trd (by decide)
    rw [tri_modTri_self _ (by rw [htrd]; exact hl), tri_congr htrd]

/-- R96: refused, with its result, or begun. -/
theorem toSplit_answers (ht : t < 6) (hl : t < s.trd.triads.length) (h1 : 1 ≤ (s.tri t).state) (h3 : (s.tri t).state ≤ 3) :
    ((s.tri t).handover = false →
      GivesSettled [.trd] (.toSplit t) s (fun u => u.tri t = { s.tri t with hoResult := 2 })) ∧
    ((s.tri t).handover = true → (s.tri t).state ≠ 1 ∨ (s.tri t).reintPending = true →
      GivesSettled [.trd] (.toSplit t) s (fun u => u.tri t = { s.tri t with hoResult := 3 })) ∧
    ((s.tri t).handover = true → (s.tri t).state = 1 → (s.tri t).reintPending = false →
      (runsSafety s t = true → GivesSettled [.trd] (.toSplit t) s (fun u => u.tri t = { s.tri t with hoResult := 4 })) ∧
      (runsSafety s t = false → GivesSettled [.trd, .sch] (.toSplit t) s (fun u =>
        u.tri t = { s.tri t with state := 5, openedAt := none }))) := by
  refine ⟨fun ho => refuseSplit_gives ht hl ?_, fun ho hno => refuseSplit_gives ht hl ?_,
    fun ho h1' hr => ⟨fun hs => refuseSplit_gives ht hl ?_, toSplit_begins ht hl ho h1' hr⟩⟩
  · simp [opToSplit, h1, h3, ho]
  · simp [opToSplit, h1, h3, ho, hno]
  · have hs' : runsSafety s.begin t = true := hs
    simp [opToSplit, h1', ho, hr, hs']

end

/-! ### SPLIT_START (R96) -/

/-- Core of position `p` as it starts split: at ENTRY of its own image, a0 holding `a0`. -/
def splitStarted (s : State) (t a0 p : Nat) : Core :=
  { x := FMap.store [] 0 10 (BitVec.ofNat 64 a0), csr := pmpCsrs (pmpOf s t), pc := BitVec.ofNat 64 (entryOf s (4 * t + 1 + p)),
    role := 1, triad := t, pos := p, running := true, cycBase := -(BitVec.ofNat 64 s.clk.now) }

theorem modCore_modCore (n : Nat) (f g : Core → Core) (s : State) :
    modCore n g (modCore n f s) = modCore n (fun k => g (f k)) s := by
  simp only [modCore, modAt_modAt]

theorem startSplitCore_eq (t a0 p : Nat) (s : State) :
    startSplitCore t a0 p s = modCore ((s.tri t).coreAt p) (fun _ => splitStarted s t a0 p) s :=
  modCore_modCore _ _ _ _

/-- The three cores start split one after the other. -/
theorem startSplit_three (t a0 : Nat) (s : State) : forAll [0, 1, 2] (fun p u => startSplitCore t a0 p u) s =
    modThree (s.tri t) (fun p _ => splitStarted s t a0 p) s := by
  simp only [forAll, startSplitCore_eq, tri_modCore]
  rfl

/-- The triad in split operation, the state of core `src` saved. -/
def Triad.splits (x : Triad) (src : Core) : Triad :=
  { x with
    state := 4, live := [false, false, false], hoCount := (x.hoCount + 1) % 65536, hoResult := 1, saved := some src,
    savedSig := checkWindowSig src, lanes := x.lanes.map (fun (l : Lane) => { l with stopped := false, req := none }),
    held := [], irqs := [], closeAt := [], stamps := [], returnSince := none, stoppedAt := none }

/-- A scheduler whose accounts begin at `now`. -/
def SchTriad.marked (now : Nat) (y : SchTriad) : SchTriad :=
  { y with disp := y.disp.map (fun (d : Disp) => { d with mark := now }) }

/-- The split triad before its schedulers choose. -/
def splitBegun (t : Nat) (s : State) : State :=
  let x := s.tri t
  modThree x (fun p _ => splitStarted s t ((x.hoCount + 1) % 65536) p)
    (putTri t (x.splits (s.core (x.coreAt x.firstLive))) s)

section
variable {s : State} {t : Nat}

theorem splitBegun_tri (hl : t < s.trd.triads.length) :
    (splitBegun t s).tri t = (s.tri t).splits (s.core ((s.tri t).coreAt (s.tri t).firstLive)) := by
  rw [splitBegun, tri_modThree, tri_putTri_self _ hl]

theorem only_splitBegun (t s) : Only [.trd] s (splitBegun t s) :=
  (only_putTri _ _ _).then (only_modThree _ _ _) (List.Subset.refl _)

/-- The effect of SPLIT_START: the cores start, the sources that waited are theirs, and the schedulers choose. -/
theorem opSplitStart_eq (hl : t < s.trd.triads.length) (h5 : (s.tri t).state = 5) (hs : (s.tri t).stoppedAt = none)
    (hd : (s.tri t).drained = true) (he : (s.tri t).empty = [false, false, false]) :
    ∃ now, opSplitStart t s = resched t (event 0x2021 (trdDetail 255 3 t) (w32 (((s.tri t).hoCount + 1) % 65536)) 0
      (modSchTri t (SchTriad.marked now)
        (forAll (s.tri t).irqs (fun i u => irqTriad t (u.tri t).filled i u) (splitBegun t s)))) := by
  have hput : ∀ f, modTri t f s = putTri t (f (s.tri t)) s := fun f => modTri_eq_putTri t f s
  have htri := tri_putTri_self ((s.tri t).splits (s.core ((s.tri t).coreAt (s.tri t).firstLive))) hl
  have hfilled : ((s.tri t).splits (s.core ((s.tri t).coreAt (s.tri t).firstLive))).filled = [0, 1, 2] := filled_of_empty he
  refine ⟨(forAll (s.tri t).irqs (fun i u => irqTriad t (u.tri t).filled i u) (splitBegun t s)).clk.now, ?_⟩
  have hstart : forAll ((putTri t ((s.tri t).splits (s.core ((s.tri t).coreAt (s.tri t).firstLive))) s).tri t).filled
      (fun p u => startSplitCore t (((s.tri t).hoCount + 1) % 65536) p u)
      (putTri t ((s.tri t).splits (s.core ((s.tri t).coreAt (s.tri t).firstLive))) s) = splitBegun t s := by
    rw [htri, hfilled, startSplit_three, htri]
    rfl
  rw [← hstart]
  unfold opSplitStart
  dsimp only
  rw [if_pos (by rw [h5, hs, hd]; rfl), hput]
  rfl

end

section
variable {s : State} {t : Nat}

/-- R96: the split cores run, each at ENTRY of its own image, with the count in a0. -/
theorem splitStart_starts (ht : t < 6) (hl : t < s.trd.triads.length) (hq : s.sup.quenchSince = none)
    (hc : s.trd.cores.length = 20) (h3 : ThreeCores (s.tri t)) (he : (s.tri t).empty = [false, false, false])
    (h5 : (s.tri t).state = 5) (hs : (s.tri t).stoppedAt = none) (hd : (s.tri t).drained = true) :
    GivesSettled [.trd, .sch, .grn] (.splitStart t) s (fun u =>
      (u.tri t).state = 4 ∧ (u.tri t).hoCount = ((s.tri t).hoCount + 1) % 65536 ∧ (u.tri t).hoResult = 1 ∧
      (u.tri t).saved = some (s.core ((s.tri t).coreAt (s.tri t).firstLive)) ∧
      ∀ p, p < 3 → (u.core ((s.tri t).coreAt p)).running = true ∧ (u.core ((s.tri t).coreAt p)).role = 1 ∧
        (u.core ((s.tri t).coreAt p)).pc = BitVec.ofNat 64 (entryOf s (4 * t + 1 + p)) ∧
        FMap.look (u.core ((s.tri t).coreAt p)).x 0 10 = BitVec.ofNat 64 (((s.tri t).hoCount + 1) % 65536)) := by
  obtain ⟨now, hop⟩ := opSplitStart_eq (s := s.begin) hl h5 hs hd he
  have hbegun := only_splitBegun t s.begin
  have htri := splitBegun_tri (s := s.begin) hl
  have hcore : ∀ p, p < 3 → (splitBegun t s.begin).core ((s.tri t).coreAt p) =
      splitStarted s.begin t (((s.tri t).hoCount + 1) % 65536) p := fun p hp =>
    core_modThree (x := s.tri t) h3 (by simpa using hc) _ hp
  generalize splitBegun t s.begin = A at *
  have hirqs := intrOnly_irqs (t := t) (s := A) (by rw [htri]; rfl) (s.begin.tri t).irqs
  have hirqsOnly : Only [.trd] A (forAll (s.begin.tri t).irqs (fun i u => irqTriad t (u.tri t).filled i u) A) :=
    .forAll _ _ _ fun _ _ => only_irqTriad _ _ _ _
  generalize forAll (s.begin.tri t).irqs (fun i u => irqTriad t (u.tri t).filled i u) A = B at *
  have hB := hbegun.then hirqsOnly (List.Subset.refl _)
  have hrec := only_event_calm 0x2021 (trdDetail 255 3 t) (w32 (((s.begin.tri t).hoCount + 1) % 65536)) 0
    (s := modSchTri t (SchTriad.marked now) B) ((hB.quench (by decide) hq))
  have hmark := only_modSchTri t (SchTriad.marked now) B
  generalize event 0x2021 (trdDetail 255 3 t) (w32 (((s.begin.tri t).hoCount + 1) % 65536)) 0
    (modSchTri t (SchTriad.marked now) B) = C at *
  have hC : IntrOnly A C := hirqs.trans (.of_trd ((hrec .trd (by decide)).trans (hmark .trd (by decide))))
  have hend := hC.trans (intrOnly_resched (t := t) (by rw [hC.tri, htri]; rfl))
  refine givesSettled_of_run (exec_splitStart t s) (by simp [Instr.wf, ht]) ?_ ?_ <;> rw [hop]
  · exact (((hB.weaken (by decide)).then hmark (by decide)).then hrec (by decide)).then (only_resched _ _) (by decide)
  · rw [hend.tri, htri]
    refine ⟨rfl, rfl, rfl, rfl, fun p hp => ?_⟩
    obtain ⟨l, hl⟩ := hend.cores ((s.tri t).coreAt p)
    rw [hl, hcore p hp]
    exact ⟨rfl, rfl, rfl, by rw [splitStarted, FMap.look_store, if_pos rfl]⟩

end

/-! ### Cores that stop (R97) -/

theorem only_stopSplit (t p s) : Only [.trd] s (stopSplit t p s) :=
  (only_modCore _ _ _).then (only_modTri _ _ _) (List.Subset.refl _)

/-- A core that has been stopped does not run, whether or not the part has it. -/
theorem core_stopped (n : Nat) (s : State) :
    ((modCore n (fun (c : Core) => { c with running := false }) s).core n).running = false := by
  by_cases h : n < s.trd.cores.length
  · rw [core_modCore_self _ h]
  · rw [State.core, nth_of_le _ (by simpa using Nat.le_of_not_lt h)]

theorem core_stopSplit_self (t p : Nat) (s : State) :
    ((stopSplit t p s).core ((s.tri t).coreAt p)).running = false := by
  rw [stopSplit, core_modTri, core_stopped]

theorem core_stopSplit_ne {t p m : Nat} {s : State} (h : m ≠ (s.tri t).coreAt p) :
    (stopSplit t p s).core m = s.core m := by
  rw [stopSplit, core_modTri, core_modCore_ne _ _ h]

section
variable {s : State} {t : Nat}

theorem stopSplit_tri (hl : t < s.trd.triads.length) (p : Nat) :
    (stopSplit t p s).tri t = (s.tri t).atLane p (fun (l : Lane) => { l with stopped := true }) := by
  rw [stopSplit, tri_modTri_self _ (by simpa using hl), tri_modCore]
  rfl

theorem mem_splitRunning {p : Nat} :
    p ∈ splitRunning s t ↔ p ∈ (s.tri t).filled ∧ (s.core ((s.tri t).coreAt p)).running = true := by
  simp [splitRunning]

/-- The state of triad `t` once the last of its cores has stopped. -/
theorem beginReturn_tri (hl : t < s.trd.triads.length) : Only [.trd, .sch] s (beginReturn t s) ∧
    (beginReturn t s).tri t = { s.tri t with state := 5, returnSince := none, stoppedAt := some s.clk.now } ∧
    (∀ n, (beginReturn t s).core n = s.core n) ∧ (beginReturn t s).trd.err = s.trd.err := by
  have hacc := only_account t s
  have htrd : (account t s).trd = s.trd := hacc .trd (by decide)
  refine ⟨(hacc.weaken (by decide)).then (only_modTri _ _ _) (by decide), ?_, fun n => ?_, ?_⟩
  · rw [beginReturn, tri_modTri_self _ (by rw [htrd]; exact hl), tri_congr htrd]
  · rw [beginReturn, core_modTri, core_congr htrd]
  · show (account t s).trd.err = s.trd.err
    rw [htrd]

/-- The triad in which position `p` has stopped, with the return timer running. -/
def stoppedOne (t p : Nat) (s : State) : State :=
  modTri t (fun (x : Triad) => { x with returnSince := some ((s.tri t).returnSince.getD s.clk.now) }) (stopSplit t p s)

theorem only_stoppedOne (t p s) : Only [.trd] s (stoppedOne t p s) :=
  (only_stopSplit _ _ _).then (only_modTri _ _ _) (List.Subset.refl _)

theorem stoppedOne_tri (hl : t < s.trd.triads.length) (p : Nat) : (stoppedOne t p s).tri t =
    { (s.tri t).atLane p (fun (l : Lane) => { l with stopped := true }) with
      returnSince := some ((s.tri t).returnSince.getD s.clk.now) } := by
  rw [stoppedOne, tri_modTri_self _ (by simpa [stopSplit] using hl), stopSplit_tri hl]

/-- The other cores of the triad go on. -/
theorem mem_stoppedOne (hl : t < s.trd.triads.length) (h3 : ThreeCores (s.tri t)) {p q : Nat} (hp : p < 3) :
    q ∈ splitRunning (stoppedOne t p s) t ↔ q ∈ splitRunning s t ∧ q ≠ p := by
  have hq3 : ∀ {q}, q ∈ (s.tri t).filled → q < 3 := fun h => List.mem_range.1 (List.mem_filter.1 h).1
  rw [mem_splitRunning, mem_splitRunning, stoppedOne_tri hl]
  show q ∈ (s.tri t).filled ∧ ((stoppedOne t p s).core ((s.tri t).coreAt q)).running = true ↔ _
  rw [stoppedOne, core_modTri]
  by_cases hqp : q = p
  · subst hqp
    rw [core_stopSplit_self]
    simp
  · refine ⟨fun h => ⟨⟨h.1, ?_⟩, hqp⟩, fun h => ⟨h.1.1, ?_⟩⟩
    · rw [← core_stopSplit_ne (h3.ne (hq3 h.1) hp hqp)]; exact h.2
    · rw [core_stopSplit_ne (h3.ne (hq3 h.1.1) hp hqp)]; exact h.1.2

theorem nodup_splitRunning (s : State) (t : Nat) : (splitRunning s t).Nodup :=
  List.Nodup.filter _ (List.Nodup.filter _ List.nodup_range)

/-- No core is left once the last one running stops. -/
theorem splitRunning_stoppedOne (hl : t < s.trd.triads.length) (h3 : ThreeCores (s.tri t)) {p : Nat} (hp : p < 3)
    (hin : p ∈ splitRunning s t) : splitRunning (stoppedOne t p s) t = [] ↔ splitRunning s t = [p] := by
  rw [List.eq_nil_iff_forall_not_mem]
  constructor
  · intro h
    obtain ⟨r, hr⟩ := head_of_forall_eq hin fun q hq => by
      by_contra hqp
      exact h q ((mem_stoppedOne hl h3 hp).2 ⟨hq, hqp⟩)
    have hnd := nodup_splitRunning s t
    have hnil : r = [] := List.eq_nil_iff_forall_not_mem.2 fun q hq => h q ((mem_stoppedOne hl h3 hp).2
      ⟨by rw [hr]; exact List.mem_cons_of_mem _ hq, fun hqp => by rw [hr] at hnd; exact (List.nodup_cons.1 hnd).1 (hqp ▸ hq)⟩)
    rw [hr, hnil]
  · intro h q hq
    obtain ⟨hin', hne⟩ := (mem_stoppedOne hl h3 hp).1 hq
    rw [h] at hin'
    exact hne (List.mem_singleton.1 hin')

/-- The return timer starts with the first core that stops, and goes on with the others. -/
theorem stoppedOne_eq (hl : t < s.trd.triads.length) {p : Nat} {f : Triad → Triad} (hf : ∀ x : Triad, f x = { x with
      returnSince := some (x.returnSince.getD (stopSplit t p s).clk.now) }) :
    modTri t f (stopSplit t p s) = stoppedOne t p s := by
  have hsince : ((stopSplit t p s).tri t).returnSince = (s.tri t).returnSince := by rw [stopSplit_tri hl]; rfl
  have hclk : (stopSplit t p s).clk = s.clk := only_stopSplit t p s .clk (by decide)
  rw [stoppedOne, modTri_eq_putTri, modTri_eq_putTri, hf, hsince, hclk]

/-- TO_TRIAD of a running split core. -/
theorem opToTriad_stops {n p : Nat} (hl : t < s.trd.triads.length) (hr : (s.core n).role = 1)
    (hrun : (s.core n).running = true) (ht : (s.core n).triad = t) (hp : (s.core n).pos = p) (h4 : (s.tri t).state = 4)
    (ho : (s.tri t).handover = true) : opToTriad n s =
      if (splitRunning (stoppedOne t p s) t).isEmpty then beginReturn t (stoppedOne t p s) else stoppedOne t p s := by
  subst ht hp
  unfold opToTriad
  dsimp only
  rw [if_pos (by rw [hr, hrun, h4, ho]; rfl), stoppedOne_eq hl fun x => by cases x.returnSince <;> rfl]

theorem toTriad_stops {n p : Nat} (hl : t < s.trd.triads.length) (h3 : ThreeCores (s.tri t))
    (he : (s.tri t).empty = [false, false, false]) (hp : p < 3) (hn : n = (s.tri t).coreAt p) (hr : (s.core n).role = 1)
    (hrun : (s.core n).running = true) (ht : (s.core n).triad = t) (hpos : (s.core n).pos = p) (h4 : (s.tri t).state = 4)
    (ho : (s.tri t).handover = true) :
    (splitRunning s t ≠ [p] → GivesSettled [.trd] (.toTriad n) s (fun u => (u.core n).running = false ∧
      (u.tri t).state = 4 ∧ (u.tri t).returnSince = some ((s.tri t).returnSince.getD s.clk.now))) ∧
    (splitRunning s t = [p] → GivesSettled [.trd, .sch] (.toTriad n) s (fun u => (u.core n).running = false ∧
      (u.tri t).state = 5 ∧ (u.tri t).stoppedAt = some s.clk.now)) := by
  have hop := opToTriad_stops (s := s.begin) hl hr hrun ht hpos h4 ho
  have hw : (Instr.toTriad n).wf = true := by
    have h20 : n < 20 := hn ▸ h3.lt p hp
    simp [Instr.wf, h20]
  have hin : p ∈ splitRunning s.begin t :=
    mem_splitRunning.2 ⟨(filled_of_empty (x := s.begin.tri t) he) ▸ (by simp; omega), hn ▸ hrun⟩
  have hlast := splitRunning_stoppedOne (s := s.begin) hl h3 hp hin
  have htri := stoppedOne_tri (s := s.begin) hl p
  have honly := only_stoppedOne t p s.begin
  have hcore : ((stoppedOne t p s.begin).core n).running = false := by
    rw [hn, stoppedOne, core_modTri]; exact core_stopSplit_self t p s.begin
  have hlen : t < (stoppedOne t p s.begin).trd.triads.length := by simpa [stoppedOne, stopSplit] using hl
  have hclk : (stoppedOne t p s.begin).clk = s.clk := honly .clk (by decide)
  generalize stoppedOne t p s.begin = A at *
  constructor
  · intro hmore
    rw [if_neg (by rw [List.isEmpty_iff, hlast]; exact hmore)] at hop
    refine givesSettled_of_run (exec_toTriad n s) hw ?_ ?_ <;> rw [hop]
    · exact honly
    · rw [htri]
      exact ⟨hcore, h4, rfl⟩
  · intro hone
    rw [if_pos (by rw [List.isEmpty_iff, hlast]; exact hone)] at hop
    obtain ⟨honly', htri', hcores, -⟩ := beginReturn_tri hlen
    refine givesSettled_of_run (exec_toTriad n s) hw ?_ ?_ <;> rw [hop]
    · exact (honly.weaken (by decide)).then honly' (by decide)
    · rw [hcores, htri', hclk]
      exact ⟨hcore, rfl, rfl⟩

end

/-! ### The return timer (R97) -/

/-- Items that a core had in flight end with an answer: nothing of the triads' part changes but reads that are held. -/
structure Ended (s u : State) : Prop where
  only : Only [.trd] s u
  cores : u.trd.cores = s.trd.cores
  coreAt : ∀ k, (u.tri k).cores = (s.tri k).cores
  count : u.trd.triads.length = s.trd.triads.length

theorem Ended.refl (s : State) : Ended s s := ⟨.refl _ _, rfl, fun _ => rfl, rfl⟩

theorem Ended.trans {s u v : State} (h : Ended s u) (h' : Ended u v) : Ended s v :=
  ⟨h.only.then h'.only (List.Subset.refl _), h'.cores.trans h.cores, fun k => (h'.coreAt k).trans (h.coreAt k),
    h'.count.trans h.count⟩

theorem ended_emit (o : Out) (s : State) : Ended s (emit o s) := ⟨(only_emit _ _).weaken (by decide), rfl, fun _ => rfl, rfl⟩

theorem ended_modTri (t : Nat) {f : Triad → Triad} (hf : ∀ x, (f x).cores = x.cores) (s : State) : Ended s (modTri t f s) :=
  ⟨only_modTri _ _ _, cores_modTri _ _ _, fun k => by
    rcases tri_modTri_or k t f s with h | h <;> rw [h]
    exact hf _, length_modTri_triads _ _ _⟩

theorem ended_answerItem (init addr code : Nat) (data : List Byte) (s : State) : Ended s (answerItem init addr code data s) := by
  unfold answerItem
  split
  · exact ended_modTri _ (by exact fun _ => rfl) s
  · exact ended_emit _ _

/-- What the bridge still answers is not posted. -/
theorem ended_abortOut {o : CulmOut} (h : o.posted = false) (resp outcome : Nat) (s : State) :
    Ended s (abortOut resp outcome o s) := by
  rw [abortOut, h, if_neg (by decide)]
  exact ended_answerItem _ _ _ _ _

/-- From `s` to `u` items in flight have ended and cores have stopped, and no core has started. -/
structure Stopped (t : Nat) (s u : State) : Prop where
  only : Only [.trd, .rch, .culm] s u
  coreAt : (u.tri t).cores = (s.tri t).cores
  count : u.trd.triads.length = s.trd.triads.length
  running : ∀ n, (u.core n).running = true → (s.core n).running = true

theorem Stopped.trans {t : Nat} {s u v : State} (h : Stopped t s u) (h' : Stopped t u v) : Stopped t s v :=
  ⟨h.only.then h'.only (List.Subset.refl _), h'.coreAt.trans h.coreAt, h'.count.trans h.count,
    fun n hn => h.running n (h'.running n hn)⟩

theorem Ended.stopped {s u : State} (h : Ended s u) (t : Nat) : Stopped t s u :=
  ⟨h.only.weaken (by decide), h.coreAt t, h.count, fun n hn => by rwa [State.core, h.cores] at hn⟩

theorem stopped_abortFlights (t p : Nat) (s : State) : Stopped t s (abortFlights t p s) := by
  unfold abortFlights
  extract_lets n mine items s₁ rch culm s₂ s₃
  have h₁ : Ended s s₁ := ended_modTri t (by exact fun _ => rfl) s
  have h₂ : Stopped t s₁ s₂ := ⟨by simp [only_iff, s₂], rfl, rfl, fun _ h => h⟩
  have h₃ : Ended s₂ s₃ := forAll_keeps (P := Ended s₂) _ _ _ (fun f u hu => hu.trans (ended_emit _ _)) (.refl _)
  have hposted : ∀ {o}, o ∈ items → o.posted = false := fun ho => by
    have h := (List.mem_filter.1 ho).2
    simp only [Bool.and_eq_true, Bool.not_eq_true'] at h
    exact h.1
  have h₄ : Ended s₃ (forAll items (abortOut 6 2) s₃) := forAll_keeps_mem (P := Ended s₃) _ _ _ (fun o ho u hu =>
    hu.trans (ended_abortOut (hposted ho) _ _ _)) (.refl _)
  exact (((h₁.stopped t).trans h₂).trans (h₃.stopped t)).trans (h₄.stopped t)

theorem stopped_stopSplit (t p : Nat) (s : State) : Stopped t s (stopSplit t p s) := by
  refine ⟨(only_stopSplit t p s).weaken (by decide), ?_, by simp [stopSplit], fun n hn => ?_⟩
  · unfold stopSplit
    rcases tri_modTri_or t t (fun (x : Triad) => { x with lanes := modAt x.lanes p (fun (l : Lane) => { l with stopped := true }) })
      (modCore ((s.tri t).coreAt p) (fun (c : Core) => { c with running := false }) s) with h | h <;> rw [h, tri_modCore]
  · rw [stopSplit, core_modTri] at hn
    rcases core_modCore_or n ((s.tri t).coreAt p) (fun (c : Core) => { c with running := false }) s with h | h <;> rw [h] at hn
    · exact hn
    · cases hn

/-- The cores of positions `l` stopped, and what they had in flight aborted. -/
def stopAll (t : Nat) (l : List Nat) (s : State) : State := forAll l (fun p u => abortFlights t p (stopSplit t p u)) s

theorem stopAll_stops (t : Nat) (l : List Nat) (s : State) : Stopped t s (stopAll t l s) ∧
    ∀ p ∈ l, ((stopAll t l s).core ((s.tri t).coreAt p)).running = false := by
  induction l generalizing s with
  | nil => exact ⟨(Ended.refl s).stopped t, fun p hp => by cases hp⟩
  | cons p l ih =>
    have habort := stopped_abortFlights t p (stopSplit t p s)
    have hone := (stopped_stopSplit t p s).trans habort
    obtain ⟨hrest, hstop⟩ := ih (abortFlights t p (stopSplit t p s))
    have hcoreAt : ∀ q, ((abortFlights t p (stopSplit t p s)).tri t).coreAt q = (s.tri t).coreAt q := fun q => by
      rw [Triad.coreAt, hone.coreAt]; rfl
    refine ⟨hone.trans hrest, fun q hq => ?_⟩
    rcases List.mem_cons.1 hq with rfl | hq
    · by_contra hrun
      rw [Bool.not_eq_false] at hrun
      have h := habort.running _ (hrest.running _ hrun)
      rw [core_stopSplit_self] at h
      cases h
    · rw [← hcoreAt]
      exact hstop q hq

section
variable {s : State} {t : Nat}

theorem handoverTimeout_stops {t0 : Nat} (ht : t < 6) (hl : t < s.trd.triads.length) (hq : s.sup.quenchSince = none)
    (he : (s.tri t).empty = [false, false, false]) (h4 : (s.tri t).state = 4) (hr : (s.tri t).returnSince = some t0)
    (hd : t0 + 9000000 ≤ s.clk.now) : GivesSettled [.trd, .sch, .rch, .grn, .culm] (.handoverTimeout t) s (fun u =>
      (u.tri t).state = 5 ∧ (u.tri t).stoppedAt = some s.clk.now ∧ bitOf u.trd.err.status 5 = true ∧
      ∀ p, p < 3 → (u.core ((s.tri t).coreAt p)).running = false) := by
  obtain ⟨hstopped, hstop⟩ := stopAll_stops t (splitRunning s t) s.begin
  obtain ⟨g, hg⟩ := raiseTriad_calm 5 0x3006 0 t 0 (w32 ((splitRunning s t).foldl (fun a p => a + 2 ^ p) 0)) 0
    (hstopped.only.quench (by decide) hq)
  have hop : opHandoverTimeout t s.begin = beginReturn t (raiseTriad 5 0x3006 0 t 0
      (w32 ((splitRunning s t).foldl (fun a p => a + 2 ^ p) 0)) 0 (stopAll t (splitRunning s t) s.begin)) := by
    have hdue : due (s.tri t).returnSince 9000000 s.clk.now = true := by rw [hr]; exact decide_eq_true hd
    unfold opHandoverTimeout
    dsimp only
    rw [if_pos (by rw [tri_begin, h4, show s.begin.clk = s.clk from rfl, hdue]; rfl)]
    rfl
  rw [hg] at hop
  have hquiet : ∀ p, p < 3 → ((stopAll t (splitRunning s t) s.begin).core ((s.tri t).coreAt p)).running = false :=
    fun p hp => by
      by_contra hrun
      rw [Bool.not_eq_false] at hrun
      have hin : p ∈ splitRunning s t :=
        mem_splitRunning.2 ⟨filled_of_empty he ▸ (by simp; omega), hstopped.running _ hrun⟩
      rw [show (s.tri t).coreAt p = (s.begin.tri t).coreAt p from rfl, hstop p hin] at hrun
      cases hrun
  generalize stopAll t (splitRunning s t) s.begin = A at *
  have hraise : Only [.trd, .grn] A { errTrd 5 (trdInfo 5 0 0x1F 3 t) 0 A with grn := g } := by simp [only_iff, errTrd]
  obtain ⟨honly, htri, hcores, herr⟩ := beginReturn_tri (t := t) (s := { errTrd 5 (trdInfo 5 0 0x1F 3 t) 0 A with grn := g })
    (by have h := hstopped.count; exact h.symm ▸ hl)
  refine givesSettled_of_run (exec_handoverTimeout t s) (by simp [Instr.wf, ht]) ?_ ?_ <;> rw [hop]
  · exact ((hstopped.only.weaken (by decide)).then hraise (by decide)).then honly (by decide)
  · rw [htri, herr]
    refine ⟨rfl, ?_, raise_status_self _ (by decide) _ _ _, fun p hp => ?_⟩
    · have hclk : A.clk = s.clk := hstopped.only .clk (by decide)
      show some A.clk.now = some s.clk.now
      rw [hclk]
    · rw [hcores]
      exact hquiet p hp

end

/-! ### The saved state (R97) -/

/-- The vote of three check signatures gives what two of them are. -/
theorem sigMajority_three (f : Nat → Dword) (v : Dword) : sigMajority ([0, 1, 2].map f) = some v ↔
    ∃ p q, p < q ∧ q < 3 ∧ f p = v ∧ f q = v := by
  have hsome : sigMajority ([0, 1, 2].map f) =
      if f 0 = f 1 ∨ f 0 = f 2 then some (f 0) else if f 1 = f 2 then some (f 1) else none := by
    simp [sigMajority]
  rw [hsome]
  constructor
  · intro h
    split at h
    · rename_i h0
      obtain rfl := Option.some.inj h
      rcases h0 with h0 | h0
      · exact ⟨0, 1, by decide, by decide, rfl, h0.symm⟩
      · exact ⟨0, 2, by decide, by decide, rfl, h0.symm⟩
    · split at h
      · rename_i h1
        obtain rfl := Option.some.inj h
        exact ⟨1, 2, by decide, by decide, rfl, h1.symm⟩
      · cases h
  · rintro ⟨p, q, hpq, hq3, hp, hq⟩
    obtain ⟨rfl, rfl⟩ | ⟨rfl, rfl⟩ | ⟨rfl, rfl⟩ : p = 0 ∧ q = 1 ∨ p = 0 ∧ q = 2 ∨ p = 1 ∧ q = 2 := by omega
    · rw [if_pos (.inl (hp.trans hq.symm)), hp]
    · rw [if_pos (.inr (hp.trans hq.symm)), hp]
    · by_cases h0 : f 0 = f 1 ∨ f 0 = f 2
      · rw [if_pos h0, h0.elim (·.trans hp) (·.trans hq)]
      · rw [if_neg h0, if_pos (hp.trans hq.symm), hp]

/-- The saved state is trusted where two of the cores' check windows give the stored signature. -/
theorem savedGood_iff {x : Triad} {c : Core} (hs : x.saved = some c) (he : x.empty = [false, false, false]) (ds : List Dword) :
    savedGood x ds = true ↔ ∃ p q, p < q ∧ q < 3 ∧ checkWindowSig c ^^^ nth ds p 0 = x.savedSig ∧
      checkWindowSig c ^^^ nth ds q 0 = x.savedSig := by
  rw [savedGood, hs, filled_of_empty he]
  dsimp only
  rw [decide_eq_true_iff, sigMajority_three]

/-- The triad that votes again from a saved state. -/
def Triad.restored (lanes : List Lane) (x : Triad) : Triad :=
  { x with state := 1, live := [true, true, true], lanes := lanes, saved := none, stoppedAt := none }

/-- The three cores take the saved state. -/
theorem restoreSaved_three (t : Nat) (c : Core) (s : State) : ∃ lanes, restoreSaved t c [0, 1, 2] s =
    modTri t (Triad.restored lanes) (modThree (s.tri t) (fun p _ => c.copied t p) s) := ⟨_, rfl⟩

section
variable {s : State} {t t0 : Nat}

/-- The triad's schedulers begin their accounts. -/
def accountsBegun (t : Nat) (s : State) : State := modSchTri t (SchTriad.marked s.clk.now) s.begin

theorem only_accountsBegun (t s) : Only [.sch] s.begin (accountsBegun t s) := only_modSchTri _ _ _

theorem opTriadRestore_good (h5 : (s.tri t).state = 5) (hs : (s.tri t).stoppedAt = some t0) {c : Core}
    (hc : (s.tri t).saved = some c) (he : (s.tri t).empty = [false, false, false]) {ds : List Dword}
    (hg : savedGood (s.tri t) ds = true) : opTriadRestore t ds s.begin =
      resched t (event 0x2022 (trdDetail 255 3 t) (w32 (s.tri t).hoCount) 0 (restoreSaved t c [0, 1, 2] (accountsBegun t s))) := by
  unfold opTriadRestore
  dsimp only
  rw [tri_begin, if_pos (by rw [h5, hs]; rfl), if_pos hg, hc, filled_of_empty he]
  rfl

/-- The triad without a saved state, RESTORE raised. -/
def restoreRaised (t : Nat) (g : Grn) (s : State) : State :=
  { errTrd 6 (trdInfo 6 0 0x1F 3 t) 0
      (modTri t (fun (x : Triad) => { x with saved := none, stoppedAt := none }) (accountsBegun t s)) with grn := g }

theorem only_restoreRaised (t g s) : Only [.trd, .sch, .grn] s.begin (restoreRaised t g s) := by
  simp [only_iff, restoreRaised, errTrd, modTri, accountsBegun, modSchTri]

theorem restoreRaised_tri (hl : t < s.trd.triads.length) (g : Grn) :
    (restoreRaised t g s).tri t = { s.tri t with saved := none, stoppedAt := none } :=
  tri_modTri_self (s := accountsBegun t s) _ hl

theorem restoreRaised_err (t : Nat) (g : Grn) (s : State) : bitOf (restoreRaised t g s).trd.err.status 6 = true :=
  raise_status_self _ (by decide) _ _ _

theorem opTriadRestore_bad (hq : s.sup.quenchSince = none) (h5 : (s.tri t).state = 5) (hs : (s.tri t).stoppedAt = some t0)
    (he : (s.tri t).empty = [false, false, false]) {ds : List Dword} (hg : savedGood (s.tri t) ds = false) :
    ∃ g, opTriadRestore t ds s.begin = resched t (startVoting t [0, 1, 2] (restoreRaised t g s)) := by
  obtain ⟨g, hgr⟩ := raiseTriad_calm 6 0x3007 0 t 0 (w32 (s.tri t).hoCount) 0
    (s := modTri t (fun (x : Triad) => { x with saved := none, stoppedAt := none }) (accountsBegun t s)) hq
  refine ⟨g, ?_⟩
  rw [restoreRaised, ← hgr]
  unfold opTriadRestore
  dsimp only
  rw [tri_begin, if_pos (by rw [h5, hs]; rfl), if_neg (by rw [hg]; decide), filled_of_empty he]
  rfl

/-- Starting to vote leaves the triads' errors. -/
theorem startVoting_err (t : Nat) (ps : List Nat) (s : State) : (startVoting t ps s).trd.err = s.trd.err := by
  unfold startVoting
  split
  · rfl
  · dsimp only
    split
    · rfl
    · exact forAll_keeps (P := fun u => u.trd.err = s.trd.err) _ _ _ (fun _ _ h => h) rfl

/-- In triad operation the schedulers' choice leaves the triad but for its sources, and the cores. -/
theorem resched_keeps (h4 : (s.tri t).state ≠ 4) : (∃ irqs, (resched t s).tri t = { s.tri t with irqs := irqs }) ∧
    (∀ n, (resched t s).core n = s.core n) ∧ (resched t s).trd.err = s.trd.err := by
  obtain ⟨l, htrd, htris⟩ := resched_trd h4
  obtain ⟨irqs, hu⟩ := htris t
  exact ⟨⟨irqs, by rw [State.tri, htrd]; exact hu⟩, fun n => by rw [State.core, htrd]; rfl, by rw [htrd]⟩

theorem triadRestore_restores (ht : t < 6) (hl : t < s.trd.triads.length) (hq : s.sup.quenchSince = none)
    (hlen : s.trd.cores.length = 20) (h3 : ThreeCores (s.tri t)) (he : (s.tri t).empty = [false, false, false])
    (h5 : (s.tri t).state = 5) (hs : (s.tri t).stoppedAt = some t0) {c : Core} (hc : (s.tri t).saved = some c)
    {ds : List Dword} (hds : ds.length = 3) (hg : savedGood (s.tri t) ds = true) :
    GivesSettled [.trd, .sch, .grn] (.triadRestore t ds) s (fun u =>
      (u.tri t).state = 1 ∧ (u.tri t).live = [true, true, true] ∧ (u.tri t).saved = none ∧
      ∀ p, p < 3 → u.core ((s.tri t).coreAt p) = c.copied t p) := by
  have hop := opTriadRestore_good h5 hs hc he hg
  obtain ⟨lanes, hres⟩ := restoreSaved_three t c (accountsBegun t s)
  rw [hres, show (accountsBegun t s).tri t = s.tri t from rfl] at hop
  have honly : Only [.trd, .sch] s.begin (modTri t (Triad.restored lanes)
      (modThree (s.tri t) (fun p _ => c.copied t p) (accountsBegun t s))) :=
    ((only_accountsBegun t s).weaken (by decide)).then
      ((only_modThree _ _ _).then (only_modTri t (Triad.restored lanes) _) (List.Subset.refl _)) (by decide)
  have htri := tri_modTri_self (t := t) (Triad.restored lanes)
    (s := modThree (s.tri t) (fun p _ => c.copied t p) (accountsBegun t s))
    (by simpa [modThree, accountsBegun, modSchTri] using hl)
  have hcore : ∀ p, p < 3 → (modTri t (Triad.restored lanes)
      (modThree (s.tri t) (fun p _ => c.copied t p) (accountsBegun t s))).core ((s.tri t).coreAt p) = c.copied t p :=
    fun p hp => by
      rw [core_modTri]
      exact core_modThree h3 (s := accountsBegun t s) hlen _ hp
  generalize modTri t (Triad.restored lanes) (modThree (s.tri t) (fun p _ => c.copied t p) (accountsBegun t s)) = A at *
  have hrec := only_event_calm 0x2022 (trdDetail 255 3 t) (w32 (s.tri t).hoCount) 0 (honly.quench (by decide) hq)
  generalize event 0x2022 (trdDetail 255 3 t) (w32 (s.tri t).hoCount) 0 A = B at *
  have htrd : B.trd = A.trd := hrec .trd (by decide)
  have hstate : (B.tri t).state = 1 := by rw [tri_congr htrd, htri]; rfl
  obtain ⟨⟨irqs, hu⟩, hcores, -⟩ := resched_keeps (t := t) (s := B) (by rw [hstate]; decide)
  refine givesSettled_of_run (exec_triadRestore t ds s) (by simp [Instr.wf, ht, hds]) ?_ ?_ <;> rw [hop]
  · exact ((honly.weaken (by decide)).then hrec (by decide)).then (only_resched _ _) (by decide)
  · rw [hu, tri_congr htrd, htri]
    exact ⟨rfl, rfl, rfl, fun p hp => by rw [hcores, core_congr htrd, hcore p hp]⟩

theorem triadRestore_restarts (ht : t < 6) (hl : t < s.trd.triads.length) (hq : s.sup.quenchSince = none)
    (hlen : s.trd.cores.length = 20) (h3 : ThreeCores (s.tri t)) (he : (s.tri t).empty = [false, false, false])
    (h5 : (s.tri t).state = 5) (hs : (s.tri t).stoppedAt = some t0) {ds : List Dword} (hds : ds.length = 3)
    (hg : savedGood (s.tri t) ds = false) (hiso : isolated s (20 + t) = false) :
    GivesSettled [.trd, .sch, .grn] (.triadRestore t ds) s (fun u => (u.tri t).state = 1 ∧
      bitOf u.trd.err.status 6 = true ∧ (u.tri t).saved = none ∧ ∀ p, p < 3 →
        (u.core ((s.tri t).coreAt p)).running = true ∧
        (u.core ((s.tri t).coreAt p)).pc = BitVec.ofNat 64 (entryOf s (4 * t))) := by
  obtain ⟨g, hop⟩ := opTriadRestore_bad hq h5 hs he hg
  have htri := restoreRaised_tri hl g
  obtain ⟨honly, hvote, -, hstart⟩ := startVoting_three (s := restoreRaised t g s) hiso
    (by simpa [restoreRaised, errTrd, accountsBegun, modSchTri] using hl) hlen (by rw [htri]; exact h3.lt)
    (by rw [htri]; exact h3.ne01) (by rw [htri]; exact h3.ne02) (by rw [htri]; exact h3.ne12)
  have herr := startVoting_err t [0, 1, 2] (restoreRaised t g s)
  rw [htri] at hvote hstart
  generalize startVoting t [0, 1, 2] (restoreRaised t g s) = V at *
  obtain ⟨⟨irqs, hu⟩, hcores, herr'⟩ := resched_keeps (t := t) (s := V) (by rw [hvote]; show (1 : Nat) ≠ 4; decide)
  refine givesSettled_of_run (exec_triadRestore t ds s) (by simp [Instr.wf, ht, hds]) ?_ ?_ <;> rw [hop]
  · exact ((only_restoreRaised t g s).then honly (by decide)).then (only_resched _ _) (by decide)
  · rw [hu, hvote, herr', herr]
    exact ⟨rfl, restoreRaised_err t g s, rfl, fun p hp => by rw [hcores]; exact hstart p hp⟩

end

/-- Settles O17: each command by what it makes of the triad, and what the schedulers' choice after it leaves: in split
operation the interrupts of its cores, in triad operation its sources. -/
theorem splitAndReturn : Obligations.SplitAndReturn := by
  intro s t ht hl hq hlen x hlt h01 h02 h12 he _
  have h3 : ThreeCores (s.tri t) := ⟨hlt, h01, h02, h12⟩
  refine ⟨toSplit_answers ht hl, splitStart_starts ht hl hq hlen h3 he,
    fun n p hp hn hr hrun hnt hpos h4 ho => toTriad_stops hl h3 he hp hn hr hrun hnt hpos h4 ho,
    fun t0 => handoverTimeout_stops ht hl hq he, fun t0 c ds h5 hs hc hds => ⟨fun hzero hsig => ?_, fun hbad hiso => ?_⟩⟩
  · obtain ⟨p, q, hpq, hq3, hp, hq0⟩ := hzero
    refine triadRestore_restores ht hl hq hlen h3 he h5 hs hc hds ((savedGood_iff hc he ds).2 ⟨p, q, hpq, hq3, ?_, ?_⟩)
    · rw [hp]; exact BitVec.xor_zero.trans hsig
    · rw [hq0]; exact BitVec.xor_zero.trans hsig
  · refine triadRestore_restarts ht hl hq hlen h3 he h5 hs hds (Bool.eq_false_iff.2 fun hgood => ?_) hiso
    obtain ⟨p, q, hpq, hq3, hp, hq0⟩ := (savedGood_iff hc he ds).1 hgood
    rcases hbad with hnone | hdiffer
    · exact hnone p (by omega) hp
    · exact hdiffer p q hpq hq3 ((BitVec.xor_right_inj _).1 (hp.trans hq0.symm))

end Sys2Proof.Machine
end

section
/-! PROOF. The steps of one Awn lane (04 R107, R110 to R121): what a step that closes no lane answers, and the equation of each
kind of step. -/

namespace Sys2Proof.Machine

/-! ### A step that leaves its lane open (R99, R122) -/

theorem AwnRuns.lt_three {s : State} {lane : Nat} (h : AwnRuns s lane) : lane < 3 := by
  obtain ⟨hlt, -⟩ := h; exact hlt

theorem AwnRuns.lt_length {s : State} {lane : Nat} (h : AwnRuns s lane) : lane < s.awn.lanes.length := by
  obtain ⟨-, hlen, -⟩ := h; exact hlen

theorem AwnRuns.scans {s : State} {lane : Nat} (h : AwnRuns s lane) : s.awn.state = 2 := by
  obtain ⟨-, -, hstate, -⟩ := h; exact hstate

/-- Lane and operand of a step are of the part. -/
theorem AwnRuns.wf {s : State} {lane : Nat} {b : Bool} (h : AwnRuns s lane) (hb : b = true) :
    (decide (lane < 3) && b) = true := by
  rw [hb, decide_eq_true h.lt_three]; rfl

theorem awnStep_open {s : State} {lane : Nat} {f : AwnEnv → AwnLane → AwnLane} (h : AwnRuns s lane)
    (hopen : (f (awnEnv s) (awnLane s lane)).cause = (awnLane s lane).cause) :
    awnStep lane f s = putLane lane (f (awnEnv s) (awnLane s lane)) s := by
  obtain ⟨-, -, hstate, hlive, hcause⟩ := h
  unfold awnStep
  rw [if_pos ⟨hstate, hlive, by rw [hcause]; rfl⟩]
  exact if_neg (by rw [hopen, hcause]; exact Bool.false_ne_true)

/-- A step of an executing lane that leaves it open answers the state with that lane replaced. -/
theorem exec_laneTo {c : Instr} {f : AwnEnv → AwnLane → AwnLane} {s : State} {lane : Nat} {l : AwnLane}
    (hx : exec c s = wfRun c (awnStep lane f) s) (hw : c.wf = true) (h : AwnRuns s lane)
    (hl : f (awnEnv s) (awnLane s lane) = l) (hopen : l.cause = (awnLane s lane).cause := by rfl) :
    exec c s = .next (laneTo s lane l) := by
  have hstep : awnStep lane f s.begin = putLane lane l s.begin := by
    rw [← hl]
    exact awnStep_open (s := s.begin) h (hl ▸ hopen)
  rw [hx, wfRun_next _ _ _ hw, hstep]
  rfl

/-! ### Word steps (R108, R111, R112) -/

section
variable {e : AwnEnv} {l : AwnLane} {x : WOp} {v : Word} (h : readWord e l x = some v)
include h

theorem laneWord_of_read (f : Word → Word → Word) : laneWord f e x l = laneNext 1 { l with wa := f l.wa v } := by
  unfold laneWord; rw [h]; rfl

theorem laneSigned_of_read (f : Int → Int → Int) : laneSigned f e x l = laneArith (f l.wa.toInt v.toInt) l := by
  unfold laneSigned; rw [h]

theorem laneCompare_of_read (f : Int → Int → Bool) :
    laneCompare f e x l = laneNext 1 { l with ba := f l.wa.toInt v.toInt } := by
  unfold laneCompare; rw [h]; rfl

end

/-- OV is the negation of lying in the range of a signed word (R112). -/
theorem laneArith_eq (r : Int) (l : AwnLane) : laneArith r l =
    laneNext 1 { l with wa := BitVec.ofInt 32 r, ov := decide (r < -(2 ^ 31) ∨ 2 ^ 31 - 1 < r) } := by
  have hov : (!(decide (-2147483648 ≤ r) && decide (r ≤ 2147483647))) = decide (r < -(2 ^ 31) ∨ 2 ^ 31 - 1 < r) := by
    rw [← Bool.decide_and, ← decide_not]
    exact decide_eq_decide.2 (by omega)
  rw [laneArith, hov]; rfl

theorem laneSw_of_storable {e : AwnEnv} {x : WOp} {l : AwnLane} (h : wordStorable x = true) :
    laneSw e x l = laneNext 1 { l with
      d := storeWord l.d x l.wa,
      sig := sigRecord l.sig (BitVec.ofNat 64 (5 * 2 ^ 60 + x.sp * 2 ^ 57 + x.idx)) (BitVec.ofNat 64 l.wa.toNat) } := by
  rw [laneSw, if_pos h]; rfl

theorem laneAbs_eq (l : AwnLane) : laneAbs l = laneArith (Int.natAbs l.wa.toInt) l := by
  have habs : (if l.wa.toInt < 0 then -l.wa.toInt else l.wa.toInt) = Int.natAbs l.wa.toInt := by split <;> omega
  rw [laneAbs, habs]

/-- Settles O22: each step by its equation, a step that leaves its lane open. -/
theorem awnWordArithmeticSteps : Obligations.AwnWordArithmeticSteps := by
  intro s lane hr l put
  refine ⟨fun x v hx hv => ⟨?_, ?_, ?_, ?_⟩, fun x hx hs => ?_, ?_, ?_⟩
  · exact exec_laneTo (exec_awnLw lane x s) (hr.wf hx) hr (laneWord_of_read hv _)
  · exact exec_laneTo (exec_awnAdd lane x s) (hr.wf hx) hr ((laneSigned_of_read hv _).trans (laneArith_eq _ _))
  · exact exec_laneTo (exec_awnSub lane x s) (hr.wf hx) hr ((laneSigned_of_read hv _).trans (laneArith_eq _ _))
  · exact exec_laneTo (exec_awnMul lane x s) (hr.wf hx) hr ((laneSigned_of_read hv _).trans (laneArith_eq _ _))
  · exact exec_laneTo (exec_awnSw lane x s) (hr.wf hx) hr (laneSw_of_storable hs)
  · exact exec_laneTo (exec_awnNegw lane s) (decide_eq_true hr.lt_three) hr (laneArith_eq _ _)
  · exact exec_laneTo (exec_awnAbs lane s) (decide_eq_true hr.lt_three) hr ((laneAbs_eq _).trans (laneArith_eq _ _))

/-! ### Word logic, shifts, comparisons, jumps (R111, R114) -/

theorem ofInt_min_toInt (a b : Word) : BitVec.ofInt 32 (min a.toInt b.toInt) = if a.toInt ≤ b.toInt then a else b := by
  rw [min_def, apply_ite (BitVec.ofInt 32), BitVec.ofInt_toInt, BitVec.ofInt_toInt]

theorem ofInt_max_toInt (a b : Word) : BitVec.ofInt 32 (max a.toInt b.toInt) = if a.toInt ≤ b.toInt then b else a := by
  rw [max_def, apply_ite (BitVec.ofInt 32), BitVec.ofInt_toInt, BitVec.ofInt_toInt]

theorem shiftLeft_eq_ofNat (v : Word) (n : Nat) : v <<< n = BitVec.ofNat 32 (v.toNat * 2 ^ n) := by
  apply BitVec.eq_of_toNat_eq
  rw [BitVec.toNat_shiftLeft, Nat.shiftLeft_eq, BitVec.toNat_ofNat]

theorem ushiftRight_eq_ofNat (v : Word) (n : Nat) : v >>> n = BitVec.ofNat 32 (v.toNat / 2 ^ n) := by
  apply BitVec.eq_of_toNat_eq
  rw [BitVec.toNat_ushiftRight, Nat.shiftRight_eq_div_pow, BitVec.toNat_ofNat,
    Nat.mod_eq_of_lt ((Nat.div_le_self _ _).trans_lt v.isLt)]

theorem sshiftRight_eq_ofInt (v : Word) (n : Nat) : v.sshiftRight n = BitVec.ofInt 32 (v.toInt / 2 ^ n) := by
  rw [BitVec.sshiftRight, Int.shiftRight_eq_div_pow]; norm_cast

theorem laneJump_eq (target : Nat) (l : AwnLane) : laneJump target l = { l with
    pc := target, steps := l.steps + 1,
    sig := sigRecord l.sig (BitVec.ofNat 64 (7 * 2 ^ 60 + target)) (BitVec.ofNat 64 l.pc) } := rfl

/-- Settles O23: each step by its equation, a step that leaves its lane open. -/
theorem awnWordLogicCompareJumpSteps : Obligations.AwnWordLogicCompareJumpSteps := by
  refine ⟨fun s lane hr => ⟨fun x v hx hv => ⟨?_, ?_, ?_, ?_, ?_, fun hba => ?_, fun hba => ?_⟩,
    fun n hn => ⟨?_, ?_, ?_⟩, fun v => ?_⟩, fun s lane x v hr hx hv => ⟨?_, ?_, ?_, ?_, ?_, ?_⟩,
    fun s lane target hr ht => ⟨?_, fun hba => ⟨?_, ?_⟩, fun hba => ⟨?_, ?_⟩, ?_⟩⟩
  · exact exec_laneTo (exec_awnAndw lane x s) (hr.wf hx) hr (laneWord_of_read hv _)
  · exact exec_laneTo (exec_awnOrw lane x s) (hr.wf hx) hr (laneWord_of_read hv _)
  · exact exec_laneTo (exec_awnXorw lane x s) (hr.wf hx) hr (laneWord_of_read hv _)
  · rw [ofInt_min_toInt]
    exact exec_laneTo (exec_awnMin lane x s) (hr.wf hx) hr (laneWord_of_read hv _)
  · rw [ofInt_max_toInt]
    exact exec_laneTo (exec_awnMax lane x s) (hr.wf hx) hr (laneWord_of_read hv _)
  · refine exec_laneTo (exec_awnSel lane x s) (hr.wf hx) hr ?_
    exact (laneWord_of_read hv _).trans (by rw [hba]; rfl)
  · refine exec_laneTo (exec_awnSel lane x s) (hr.wf hx) hr ?_
    exact (laneWord_of_read hv _).trans (by rw [hba]; rfl)
  · rw [← shiftLeft_eq_ofNat]
    exact exec_laneTo (exec_awnShl lane n s) (hr.wf (decide_eq_true hn)) hr rfl
  · rw [← ushiftRight_eq_ofNat]
    exact exec_laneTo (exec_awnShr lane n s) (hr.wf (decide_eq_true hn)) hr rfl
  · rw [← sshiftRight_eq_ofInt]
    exact exec_laneTo (exec_awnAsr lane n s) (hr.wf (decide_eq_true hn)) hr rfl
  · exact exec_laneTo (exec_awnLdl lane v s) (decide_eq_true hr.lt_three) hr rfl
  · refine exec_laneTo (exec_awnCeq lane x s) (hr.wf hx) hr ((laneCompare_of_read hv _).trans ?_)
    simp only [BitVec.toInt_inj]
  · refine exec_laneTo (exec_awnCne lane x s) (hr.wf hx) hr ((laneCompare_of_read hv _).trans ?_)
    simp only [ne_eq, BitVec.toInt_inj]
  · exact exec_laneTo (exec_awnClt lane x s) (hr.wf hx) hr (laneCompare_of_read hv _)
  · exact exec_laneTo (exec_awnCle lane x s) (hr.wf hx) hr (laneCompare_of_read hv _)
  · exact exec_laneTo (exec_awnCgt lane x s) (hr.wf hx) hr (laneCompare_of_read hv _)
  · exact exec_laneTo (exec_awnCge lane x s) (hr.wf hx) hr (laneCompare_of_read hv _)
  · exact exec_laneTo (exec_awnJmp lane target s) (hr.wf (decide_eq_true ht)) hr (laneJump_eq _ _)
  · exact exec_laneTo (exec_awnJc lane target s) (hr.wf (decide_eq_true ht)) hr (if_pos hba)
  · exact exec_laneTo (exec_awnJnc lane target s) (hr.wf (decide_eq_true ht)) hr (if_pos hba)
  · exact exec_laneTo (exec_awnJc lane target s) (hr.wf (decide_eq_true ht)) hr (if_neg (by simp [hba]))
  · exact exec_laneTo (exec_awnJnc lane target s) (hr.wf (decide_eq_true ht)) hr (if_neg (by simp [hba]))
  · exact exec_laneTo (exec_awnNop lane s) (decide_eq_true hr.lt_three) hr rfl

end Sys2Proof.Machine
end

section
/-! PROOF. The objects of Awn: timers, counters and edge detectors, each with its record (04 R115 to R121). -/

namespace Sys2Proof.Machine

/-! ### Records of objects (R121) -/

theorem lanePutTimer_eq (n : Nat) (t : AwnTimer) {l : AwnLane} {b : Bool} (hb : l.ba = b) : lanePutTimer n t l = { l with
    ba := b, d := { l.d with timers := FMap.store l.d.timers {} n t },
    sig := sigRecord l.sig (BitVec.ofNat 64 (6 * 2 ^ 60 + n))
      (BitVec.ofNat 64 (t.q.toNat + 2 * t.run.toNat + 4 * t.inp.toNat)) } := by
  rw [lanePutTimer, show objRecord 0 n = 6 * 2 ^ 60 + n by rw [objRecord, Nat.zero_mul, Nat.add_zero], ← hb]; rfl

theorem lanePutCounter_eq (n : Nat) (c : AwnCounter) {l : AwnLane} {b : Bool} (hb : l.ba = b) :
    lanePutCounter n c l = { l with
      ba := b, d := { l.d with counters := FMap.store l.d.counters {} n c },
      sig := sigRecord l.sig (BitVec.ofNat 64 (6 * 2 ^ 60 + 2 ^ 58 + n)) (BitVec.ofNat 64 c.cv.toNat) } := by
  rw [lanePutCounter, show objRecord 1 n = 6 * 2 ^ 60 + 2 ^ 58 + n by rw [objRecord, Nat.one_mul], ← hb]; rfl

/-! ### Counters and edge detectors (R119, R120) -/

theorem laneEdg_eq (e : AwnEnv) (n : Nat) (l : AwnLane) : laneEdg e n l = laneNext 1 { l with
    ba := if (awnObj e.prog.edges n).kind = 2 then FMap.look l.d.edges false n && !l.ba
      else l.ba && !FMap.look l.d.edges false n,
    d := { l.d with edges := FMap.store l.d.edges false n l.ba },
    sig := sigRecord l.sig (BitVec.ofNat 64 (6 * 2 ^ 60 + 2 * 2 ^ 58 + n)) (if l.ba then 1 else 0) } := by
  have hbit : BitVec.ofNat 64 l.ba.toNat = if l.ba then 1 else 0 := by cases l.ba <;> rfl
  rw [← hbit]; rfl

/-- Settles O21: each step by its equation, a step that leaves its lane open. -/
theorem awnCounterEdgeSteps : Obligations.AwnCounterEdgeSteps := by
  intro s lane n hr
  refine ⟨fun hn => ⟨?_, ?_, fun hba => ?_, fun hba => ?_, fun hba => ?_, fun hba => ?_⟩,
    fun hn => ⟨fun hk => ?_, fun hk => ?_⟩⟩
  · refine exec_laneTo (exec_awnCtu lane n s) (hr.wf (decide_eq_true hn)) hr ?_
    rw [laneCtu, lanePutCounter_eq _ _ rfl]; rfl
  · refine exec_laneTo (exec_awnCtd lane n s) (hr.wf (decide_eq_true hn)) hr ?_
    rw [laneCtd, lanePutCounter_eq _ _ rfl]; rfl
  · refine exec_laneTo (exec_awnCrs lane n s) (hr.wf (decide_eq_true hn)) hr ?_
    rw [laneCrs, if_pos hba, lanePutCounter_eq _ _ hba]; rfl
  · refine exec_laneTo (exec_awnCrs lane n s) (hr.wf (decide_eq_true hn)) hr ?_
    rw [laneCrs, if_neg (by simp [hba]), lanePutCounter_eq _ _ hba]
  · refine exec_laneTo (exec_awnCld lane n s) (hr.wf (decide_eq_true hn)) hr ?_
    rw [laneCld, if_pos hba, lanePutCounter_eq _ _ hba]
  · refine exec_laneTo (exec_awnCld lane n s) (hr.wf (decide_eq_true hn)) hr ?_
    rw [laneCld, if_neg (by simp [hba]), lanePutCounter_eq _ _ hba]
  · refine exec_laneTo (exec_awnEdg lane n s) (hr.wf (decide_eq_true hn)) hr ?_
    rw [laneEdg_eq, if_neg (by rw [show (awnObj (awnEnv s).prog.edges n).kind = 1 from hk]; decide)]
  · refine exec_laneTo (exec_awnEdg lane n s) (hr.wf (decide_eq_true hn)) hr ?_
    rw [laneEdg_eq, if_pos (show (awnObj (awnEnv s).prog.edges n).kind = 2 from hk)]

/-! ### Timers (R116, R118) -/

section
variable {d : AwnData} {o : AwnObj} (i : Bool) (t : AwnTimer)

theorem evalTimer_ton (h : o.kind = 1) :
    evalTimer d o i t = { evalTon d.scanTime (timerPreset d o * timerBase o) i t with inp := i } := by
  simp only [evalTimer, h]

theorem evalTimer_tof (h : o.kind = 2) :
    evalTimer d o i t = { evalTof d.scanTime (timerPreset d o * timerBase o) i t with inp := i } := by
  simp only [evalTimer, h]

theorem evalTimer_tp (h : o.kind = 3) :
    evalTimer d o i t = { evalTp d.scanTime (timerPreset d o * timerBase o) i t with inp := i } := by
  simp only [evalTimer, h]

end

theorem laneTim_eq (e : AwnEnv) (n : Nat) {l : AwnLane} {t : AwnTimer}
    (h : evalTimer l.d (awnObj e.prog.timers n) l.ba (FMap.look l.d.timers {} n) = t) :
    laneTim e n l = laneNext 1 { l with
      ba := t.q, d := { l.d with timers := FMap.store l.d.timers {} n t },
      sig := sigRecord l.sig (BitVec.ofNat 64 (6 * 2 ^ 60 + n))
        (BitVec.ofNat 64 (t.q.toNat + 2 * t.run.toNat + 4 * t.inp.toNat)) } := by
  rw [laneTim, h, lanePutTimer_eq _ _ rfl]; rfl

section
variable (now later : Dword) {limit : Nat} {t : AwnTimer}

theorem not_elapsed_at_start (h : 0 < limit) : ¬ limit ≤ (now - now).toNat := by
  rw [BitVec.sub_self]; exact Nat.not_le_of_lt h

theorem evalTon_input_off : (evalTon now limit false t).q = false ∧ (evalTon now limit false t).run = false :=
  ⟨rfl, rfl⟩

theorem evalTof_input_on : (evalTof now limit true t).q = true ∧ (evalTof now limit true t).run = false := ⟨rfl, rfl⟩

/-- A TON that runs switches where its limit has passed. -/
theorem evalTon_running (h : t.run = true) : evalTon now limit true t =
    if limit ≤ (now - t.start).toNat then { t with run := false, q := true } else t := by
  simp [evalTon, h]

/-- A TON at rest starts with its input, and is then a TON that runs. -/
theorem evalTon_rest (hrun : t.run = false) (hq : t.q = false) :
    evalTon now limit true t = evalTon now limit true { t with run := true, start := now } := by
  simp [evalTon, hrun, hq]

/-- A TOF that runs switches where its limit has passed. -/
theorem evalTof_running (h : t.run = true) (hq : t.q = true) : evalTof now limit false t =
    if limit ≤ (now - t.start).toNat then { t with run := false, q := false } else t := by
  simp [evalTof, h, hq]

theorem evalTof_rest (hrun : t.run = false) (hq : t.q = true) :
    evalTof now limit false t = evalTof now limit false { t with run := true, start := now } := by
  simp [evalTof, hrun, hq]

/-- A TP that runs ends where its limit has passed, whatever its input. -/
theorem evalTp_running (i : Bool) (h : t.run = true) : evalTp now limit i t =
    if limit ≤ (now - t.start).toNat then { t with run := false, q := false } else t := by
  simp [evalTp, h]

theorem evalTp_rise (hrun : t.run = false) (hinp : t.inp = false) :
    evalTp now limit true t = evalTp now limit true { t with run := true, q := true, start := now } := by
  simp [evalTp, hrun, hinp]

/-- A TP at rest stays so without a rise of its input. -/
theorem evalTp_rest {i : Bool} (hrun : t.run = false) (h : (i && !t.inp) = false) : evalTp now limit i t = t := by
  simp [evalTp, hrun, h]

/-- A TON at rest whose limit is above 0 starts and does not switch. -/
theorem evalTon_start (hrun : t.run = false) (hq : t.q = false) (h : 0 < limit) :
    evalTon now limit true t = { t with run := true, start := now } := by
  rw [evalTon_rest now hrun hq, evalTon_running now rfl, if_neg (not_elapsed_at_start now h)]

theorem evalTof_start (hrun : t.run = false) (hq : t.q = true) (h : 0 < limit) :
    evalTof now limit false t = { t with run := true, start := now } := by
  rw [evalTof_rest now hrun hq, evalTof_running now rfl (by exact hq), if_neg (not_elapsed_at_start now h)]

theorem evalTp_start (hrun : t.run = false) (hinp : t.inp = false) (h : 0 < limit) :
    evalTp now limit true t = { t with run := true, q := true, start := now } := by
  rw [evalTp_rise now hrun hinp, evalTp_running now true rfl, if_neg (not_elapsed_at_start now h)]

/-- A TP with a preset of 0 is never on. -/
theorem evalTp_zero (i : Bool) (h : t.q = t.run) : (evalTp now 0 i t).q = false := by
  cases hrun : t.run
  case true => rw [evalTp_running now i hrun, if_pos (Nat.zero_le _)]
  case false =>
    cases hrise : i && !t.inp
    case false => rw [evalTp_rest now hrun hrise, h, hrun]
    case true =>
      obtain ⟨rfl, hinp⟩ : i = true ∧ t.inp = false := by simpa using hrise
      rw [evalTp_rise now hrun hinp, evalTp_running now true rfl, if_pos (Nat.zero_le _)]

end

/-- Settles O20: TIM and TRS by their equations; a timer that rests starts, and one that runs switches where its limit has
passed. -/
theorem awnTimerStepsAndLimits : Obligations.AwnTimerStepsAndLimits := by
  refine ⟨fun s lane n hr hn => ⟨fun hk => ?_, fun hk => ?_, fun hk => ?_, fun hba => ?_, fun hba => ?_⟩,
    fun now later limit t => ⟨fun hrun hq hl => ?_, fun hrun hq => ?_, evalTon_input_off now, evalTof_input_on now,
      fun hrun hq hl => ?_, fun hq hrun => ?_, fun hrun _ hinp hl i => ?_, fun h i => evalTp_zero now i h⟩⟩
  · exact exec_laneTo (exec_awnTim lane n s) (hr.wf (decide_eq_true hn)) hr (laneTim_eq _ n (evalTimer_ton _ _ hk))
  · exact exec_laneTo (exec_awnTim lane n s) (hr.wf (decide_eq_true hn)) hr (laneTim_eq _ n (evalTimer_tof _ _ hk))
  · exact exec_laneTo (exec_awnTim lane n s) (hr.wf (decide_eq_true hn)) hr (laneTim_eq _ n (evalTimer_tp _ _ hk))
  · refine exec_laneTo (exec_awnTrs lane n s) (hr.wf (decide_eq_true hn)) hr ?_
    rw [laneTrs, if_pos hba, lanePutTimer_eq _ _ hba]
  · refine exec_laneTo (exec_awnTrs lane n s) (hr.wf (decide_eq_true hn)) hr ?_
    rw [laneTrs, if_neg (by simp [hba]), lanePutTimer_eq _ _ hba]
  · rw [evalTon_start now hrun hq hl]
    refine ⟨rfl, hq, rfl, ?_⟩
    rw [evalTon_running later rfl]
    split <;> simp_all
  · rw [evalTon_rest now hrun hq, evalTon_running now rfl, if_pos (Nat.zero_le _)]
  · rw [evalTof_start now hrun hq hl]
    refine ⟨rfl, hq, rfl, ?_⟩
    rw [evalTof_running later rfl (by exact hq)]
    split <;> simp_all
  · rw [evalTof_rest now hrun hq, evalTof_running now rfl (by exact hq), if_pos (Nat.zero_le _)]
  · rw [evalTp_start now hrun hinp hl]
    refine ⟨rfl, rfl, rfl, ?_⟩
    rw [evalTp_running later i (by rfl)]
    split <;> simp_all

end Sys2Proof.Machine
end

section
/-! PROOF. The operands of Awn steps (04 R107 to R109): bits and words stored in their areas. -/

namespace Sys2Proof.Machine

/-! ### Bit areas and word memory (R103) -/

/-- Setting bit `k` by a mask leaves the others as they were. -/
theorem getLsbD_setBit {w : Nat} (y : BitVec w) (b : Bool) {k : Nat} (hk : k < w) (j : Nat) :
    (if b then y ||| BitVec.ofNat w (2 ^ k) else y &&& ~~~BitVec.ofNat w (2 ^ k)).getLsbD j =
      if j = k then b else y.getLsbD j := by
  have hmask : (BitVec.ofNat w (2 ^ k)).getLsbD j = decide (j = k) := by
    rw [BitVec.getLsbD_ofNat, Nat.testBit_two_pow]
    by_cases hj : j = k
    · simp [hj, hk]
    · simp [hj, Ne.symm hj]
  generalize BitVec.ofNat w (2 ^ k) = m at hmask
  cases b
  · rw [if_neg Bool.false_ne_true, BitVec.getLsbD_and, BitVec.getLsbD_not, hmask]
    by_cases hj : j = k
    · simp [hj]
    · by_cases hw : j < w
      · simp [hj, hw]
      · simp [hj, hw, BitVec.getLsbD_of_ge y j (Nat.le_of_not_lt hw)]
  · rw [if_pos rfl, BitVec.getLsbD_or, hmask]
    by_cases hj : j = k <;> simp [hj]

/-- A bit of a table of words of `w` bits, by its index, after a bit was set in it. -/
theorem getLsbD_upd_setBit {w : Nat} (hw : 0 < w) (a : FMap (BitVec w)) (i j : Nat) (b : Bool) :
    (FMap.look (FMap.upd a 0 (i / w) (fun y =>
      if b then y ||| BitVec.ofNat w (2 ^ (i % w)) else y &&& ~~~BitVec.ofNat w (2 ^ (i % w)))) 0 (j / w)).getLsbD (j % w) =
      if j = i then b else (FMap.look a 0 (j / w)).getLsbD (j % w) := by
  have hidx : j = i ↔ j / w = i / w ∧ j % w = i % w :=
    ⟨fun h => h ▸ ⟨rfl, rfl⟩, fun ⟨hd, hm⟩ => by rw [← Nat.div_add_mod j w, hd, hm, Nat.div_add_mod]⟩
  rw [FMap.look_upd]
  by_cases hdiv : j / w = i / w
  · rw [if_pos hdiv, getLsbD_setBit _ _ (Nat.mod_lt i hw), hdiv]
    exact if_congr (by rw [hidx]; exact (and_iff_right hdiv).symm) rfl rfl
  · rw [if_neg hdiv, if_neg fun h => hdiv (hidx.1 h).1]

theorem areaBit_areaSetBit (a : FMap Byte) (i j : Nat) (b : Bool) :
    areaBit (areaSetBit a i b) j = if j = i then b else areaBit a j := getLsbD_upd_setBit (by decide) a i j b

theorem areaWord_areaSetWord (a : FMap Byte) (i j : Nat) (v : Word) :
    areaWord (areaSetWord a i v) j = if j = i then v else areaWord a j := by
  unfold areaWord areaSetWord
  by_cases h : j = i
  · have hread := FMap.lookList_storeList (le 4 v.toNat) a 0 (4 * j)
    rw [length_le] at hread
    rw [if_pos h, ← h, hread, leNat_le, Nat.mod_eq_of_lt (show v.toNat < 256 ^ 4 from v.isLt)]
    exact BitVec.ofNat_toNat ..
  · rw [if_neg h]
    congr 2
    refine List.map_congr_left fun k hk => ?_
    have hk4 := List.mem_range.1 hk
    rw [FMap.look_storeList, if_neg (by rw [length_le]; omega)]

/-! ### Operands (R107 to R109) -/

/-- An operand that may be stored to lies in Q, M or W, within its area. -/
theorem bitStorable_cases {sp i : Nat} (h : bitStorable sp i = true) :
    (sp = 1 ∧ i < 8192) ∨ (sp = 2 ∧ i < 8192) ∨ (sp = 3 ∧ i < 131072) := by
  unfold bitStorable at h
  split at h <;> simp_all

theorem wordStorable_cases {x : WOp} (h : wordStorable x = true) :
    (x.sp = 1 ∧ x.idx < 256) ∨ (x.sp = 2 ∧ x.idx < 256) ∨ (x.sp = 3 ∧ x.idx < 4096) := by
  unfold wordStorable at h
  split at h <;> simp_all

theorem le_three_cases {n : Nat} (h : n ≤ 3) : n = 0 ∨ n = 1 ∨ n = 2 ∨ n = 3 := by omega

section
variable (e : AwnEnv) (l : AwnLane)

theorem readBit_storeBit_self {sp i : Nat} (b : Bool) (h : bitStorable sp i = true) (j : Nat) :
    readBit e { l with d := storeBit l.d sp i b } sp j = if j = i then some b else readBit e l sp j := by
  rcases bitStorable_cases h with ⟨rfl, hi⟩ | ⟨rfl, hi⟩ | ⟨rfl, hi⟩
  · simp only [readBit, storeBit, areaBit_areaSetBit]
    by_cases hj : j = i <;> simp [hj, hi]
  · simp only [readBit, storeBit, areaBit_areaSetBit]
    by_cases hj : j = i <;> simp [hj, hi]
  · simp only [readBit, storeBit, w32, getLsbD_upd_setBit (w := 32) (by decide) l.d.w i j b]
    by_cases hj : j = i <;> simp [hj, hi]

theorem readBit_storeBit_other {sp i : Nat} (b : Bool) (h : bitStorable sp i = true) {sp' : Nat} (hsp : sp' ≤ 3)
    (hne : sp' ≠ sp) (j : Nat) : readBit e { l with d := storeBit l.d sp i b } sp' j = readBit e l sp' j := by
  rcases bitStorable_cases h with ⟨rfl, -⟩ | ⟨rfl, -⟩ | ⟨rfl, -⟩ <;>
    rcases le_three_cases hsp with rfl | rfl | rfl | rfl
  exacts [rfl, absurd rfl hne, rfl, rfl, rfl, rfl, absurd rfl hne, rfl, rfl, rfl, rfl, absurd rfl hne]

theorem readWord_storeWord_self {x : WOp} (v : Word) (h : wordStorable x = true) {y : WOp} (hy : y.sp = x.sp) :
    readWord e { l with d := storeWord l.d x v } y = if y.idx = x.idx then some v else readWord e l y := by
  obtain ⟨sp, i⟩ := x
  obtain ⟨sp', j⟩ := y
  dsimp only at hy
  subst hy
  rcases wordStorable_cases h with ⟨rfl, hi⟩ | ⟨rfl, hi⟩ | ⟨rfl, hi⟩
  · simp only [readWord, storeWord, areaWord_areaSetWord]
    by_cases hj : j = i <;> simp_all
  · simp only [readWord, storeWord, areaWord_areaSetWord]
    by_cases hj : j = i <;> simp_all
  · simp only [readWord, storeWord, FMap.look_store]
    by_cases hj : j = i <;> simp_all

theorem readWord_storeWord_other {x : WOp} (v : Word) (h : wordStorable x = true) {y : WOp} (hy : y.sp ≤ 3)
    (hne : y.sp ≠ x.sp) : readWord e { l with d := storeWord l.d x v } y = readWord e l y := by
  obtain ⟨sp, i⟩ := x
  obtain ⟨sp', j⟩ := y
  rcases wordStorable_cases h with ⟨rfl, -⟩ | ⟨rfl, -⟩ | ⟨rfl, -⟩ <;>
    rcases le_three_cases hy with rfl | rfl | rfl | rfl
  exacts [rfl, absurd rfl hne, rfl, rfl, rfl, rfl, absurd rfl hne, rfl, rfl, rfl, rfl, absurd rfl hne]

end

/-- What a bit operand reads, by its space (R107, R109, R119). -/
theorem readBit_spaces (e : AwnEnv) (l : AwnLane) (i : Nat) :
    (i < 8192 → readBit e l 0 i = some (areaBit l.d.i i) ∧ readBit e l 1 i = some (areaBit l.d.q i) ∧
      readBit e l 2 i = some (areaBit l.d.m i)) ∧
    (i < 131072 → readBit e l 3 i = some ((FMap.look l.d.w 0 (i / 32)).getLsbD (i % 32))) ∧
    (i < 2048 → readBit e l 4 i = some (FMap.look l.d.timers {} i).q) ∧
    (i < 1024 → readBit e l 5 i =
      some (counterOut l.d (awnObj e.prog.counters i) (FMap.look l.d.counters {} i))) :=
  ⟨fun h => ⟨if_pos h, if_pos h, if_pos h⟩, fun h => if_pos h, fun h => if_pos h, fun h => if_pos h⟩

theorem readBit_sys (e : AwnEnv) (l : AwnLane) {i : Nat} (h : i < 12) : readBit e l 6 i = some (sysBit e l i) := if_pos h

theorem readBit_beyond (e : AwnEnv) (l : AwnLane) (i : Nat) :
    (8192 ≤ i → readBit e l 0 i = none ∧ readBit e l 1 i = none ∧ readBit e l 2 i = none) ∧
    (131072 ≤ i → readBit e l 3 i = none) ∧ (2048 ≤ i → readBit e l 4 i = none) ∧
    (1024 ≤ i → readBit e l 5 i = none) ∧
    (12 ≤ i → readBit e l 6 i = none) :=
  ⟨fun h => ⟨if_neg h.not_gt, if_neg h.not_gt, if_neg h.not_gt⟩, fun h => if_neg h.not_gt, fun h => if_neg h.not_gt,
    fun h => if_neg h.not_gt, fun h => if_neg h.not_gt⟩

theorem sysBit_reserved (e : AwnEnv) (l : AwnLane) {i : Nat} (h5 : 5 ≤ i) (h7 : i ≤ 7) : sysBit e l i = false := by
  obtain rfl | rfl | rfl : i = 5 ∨ i = 6 ∨ i = 7 := by omega
  all_goals rfl

/-- Settles O18: the spaces one by one, and the store of a bit or word as one that reads back alone. -/
theorem awnOperandForms : Obligations.AwnOperandForms := by
  refine ⟨fun e l i => ?_, fun e l => ⟨fun sp i b h => ⟨?_, fun sp' j hsp hne => ?_⟩,
    fun x v h => ⟨?_, fun y hy hne => ?_⟩⟩⟩
  · obtain ⟨hareas, hw, ht, hc⟩ := readBit_spaces e l i
    obtain ⟨hareas', hw', ht', hc', hs'⟩ := readBit_beyond e l i
    have hsys : ∀ n, n < 12 → readBit e l 6 n = some (sysBit e l n) := fun n hn => readBit_sys e l hn
    exact ⟨hareas, hw, ht, hc, hsys 0 (by decide), hsys 1 (by decide), hsys 2 (by decide), hsys 3 (by decide),
      hsys 4 (by decide), fun h5 h7 => (hsys i (by omega)).trans (by rw [sysBit_reserved e l h5 h7]), hsys 8 (by decide),
      hsys 9 (by decide), hsys 10 (by decide), hsys 11 (by decide), hareas', hw', ht', hc', hs', rfl⟩
  · rw [readBit_storeBit_self e l b h, if_pos rfl]
  · by_cases hs : sp' = sp
    · subst hs
      rw [readBit_storeBit_self e l b h, if_neg fun hj => hne (by rw [hj])]
    · exact readBit_storeBit_other e l b h hsp hs j
  · rw [readWord_storeWord_self e l v h rfl, if_pos rfl]
  · by_cases hs : y.sp = x.sp
    · rw [readWord_storeWord_self e l v h hs, if_neg fun hi => hne ?_]
      cases x; cases y; exact congrArg₂ WOp.mk hs hi
    · exact readWord_storeWord_other e l v h hy hs

end Sys2Proof.Machine
end

section
/-! PROOF. A step that closes the last lane of a scan which a disable waits for (04 R122 to R125): the timers of that lane are
aborted with the others, so an operand that is not allowed does not leave the lane's data as they were. -/

namespace Sys2Proof.Machine

/-- EN has been cleared while a scan runs; lanes A and B have closed with different signatures, and lane C executes, a timer of it
running. -/
def disabledScan : State :=
  { mod := { mode := .run }
    awn := {
      state := 2, loaded := true, active := true, live := [true, true, true], laneSince := some 0,
      lanes := [{ cause := some 1, sig := 1 }, { cause := some 1, sig := 2 }, { d := { timers := [(0, { run := true })] } }] } }

/-- The close of lane C finds no majority, so the scan is lost, and with it the disable aborts the timer (R124, R125). -/
theorem disabledScan_ld : Gives (.awnLd 2 ⟨7, false, 0⟩) disabledScan (fun t =>
    FMap.look (awnLane t 2).d.timers {} 0 = {}) :=
  ⟨_, wfRun_next _ _ _ (by decide), by decide +kernel⟩

/-- Refutes O19: an LD of space 7, which R107 does not have, closes lane C of a scan that a disable waits for; without a majority
the scan is lost, the timers are aborted (R125), and the lane's data change. -/
theorem not_awnBitSteps : ¬ Obligations.AwnBitSteps := by
  rintro ⟨h, -, -⟩
  obtain ⟨-, -, hillegal⟩ := h disabledScan 2 (by decide)
  obtain ⟨t, ht, -, -, hd⟩ := hillegal ⟨7, false, 0⟩ (by decide) rfl (.awnLd 2 ⟨7, false, 0⟩) (List.mem_cons_self ..)
  obtain ⟨u, hu, htimer⟩ := disabledScan_ld
  injection ht.symm.trans hu with htu
  rw [← htu, hd] at htimer
  exact absurd htimer (by decide)

end Sys2Proof.Machine
end

section
/-! PROOF. What entry to SAFE leaves alone (00 R4, 16 R342): the bridge's part, and SAFE as a whole. -/

namespace Sys2Proof.Machine

/-- What an access that waits at the bridge may change when it is offered again. -/
def offerParts : List StatePart := .rch :: bridgeParts

theorem only_raiseRch (bit code source init write resp addr s) :
    Only [.rch, .grn, .sup] s (raiseRch bit code source init write resp addr s) :=
  Only.then (t := errRch bit source init write resp addr s) (by simp [only_iff, errRch]) (only_event _ _ _ _ _) (by decide)

theorem only_freeBuf (s) : Only [.culm, .grn, .sup] s (freeBuf s) := by
  unfold freeBuf
  split
  · exact .ite _ (only_discardBuf _ _) (.refl _ _)
  · exact .refl _ _

theorem only_serveBuf (b init addr size s) : Only offerParts s (serveBuf b init addr size s) :=
  Only.then (t := { s with culm := _ }) (by simp [only_iff, offerParts, bridgeParts]) (only_answerItem _ _ _ _ _) (by decide)

theorem only_pushOut (i w posted prefetch s) : Only [.culm] s (pushOut i w posted prefetch s) := by simp [only_iff, pushOut]

theorem only_waitAtPort (since i s) : Only [.rch] s (waitAtPort since i s) := by simp [only_iff, waitAtPort]

theorem only_culmOffer (since : Nat) (i : CulmItem) (s : State) : Only offerParts s (culmOffer since i s) := by
  have hwait : ∀ t, Only offerParts t (waitAtPort since i t) := fun t => (only_waitAtPort _ _ t).weaken (by decide)
  have hanswer : ∀ code data t, Only offerParts t (answerItem i.init i.addr code data t) := fun _ _ t =>
    (only_answerItem _ _ _ _ t).weaken (by decide)
  have hpush : ∀ w posted prefetch t, Only offerParts t (pushOut i w posted prefetch t) := fun _ _ _ t =>
    (only_pushOut _ _ _ _ t).weaken (by decide)
  have hdecode : Only offerParts s (raiseRch 3 0x3404 0 i.init i.write 1 i.addr s) :=
    (only_raiseRch _ _ _ _ _ _ _ _).weaken (by decide)
  have hdiscard : ∀ p, Only offerParts s (discardBufs p s) := fun p => (only_discardBufs p s).weaken (by decide)
  have hself := List.Subset.refl offerParts
  unfold culmOffer
  refine .ite _ (hwait s) ?_
  split
  · exact hdecode.then (hanswer _ _ _) hself
  refine .ite _ (.ite _ (hanswer _ _ _) (hdecode.then (hanswer _ _ _) hself)) (.ite _ ?_ (.ite _ ?_ (.ite _ ?_ (.ite _ ?_ ?_))))
  · exact Only.then ((only_raiseCulmRate _ _ _ _ _ _ _ s).weaken (by decide)) (hanswer _ _ _) hself
  · exact Only.then (t := { s with culm := _ }) (by simp [only_iff, offerParts, bridgeParts]) (hanswer _ _ _) hself
  · exact .ite _ (.ite _ (((hdiscard _).then (hpush _ _ _ _) hself).then (hanswer _ _ _) hself)
      ((hdiscard _).then (hwait _) hself)) ((hdiscard _).then (hpush _ _ _ _) hself)
  · split
    · exact only_serveBuf _ _ _ _ _
    · exact ((hdiscard _).then (only_freeBuf _) (by decide)).then (hpush _ _ _ _) hself
  · exact hpush _ _ _ _

theorem only_admitWaiting (s : State) : Only offerParts s (admitWaiting s) :=
  Only.then (t := { s with rch := _ }) (by simp [only_iff, offerParts]) (.forAll _ _ _ fun _ _ => only_culmOffer _ _ _)
    (List.Subset.refl _)

theorem only_culmSafe (s : State) : Only offerParts s (culmSafe s) :=
  (((only_abortAllOut 6 3 s).weaken (by decide)).then (only_admitWaiting _) (List.Subset.refl _)).then
    (qs := [.culm]) (by simp [only_iff, culmSafe]) (by decide)

/-- Entry to SAFE leaves everything but the module state, the outputs, the bridge with what waits there, the schedulers, the
supervisor and Granary. -/
theorem only_enterSafe (cause : Nat) (s : State) :
    Only ([.mod, .fio, .sch] ++ offerParts) s (enterSafe cause s) := by
  refine .ite _ ?_ (.refl _ _)
  have hmode : Only ([.mod, .fio, .sch] ++ offerParts) s { s with mod := { s.mod with mode := .safe, safeSeen := true } } := by
    simp [only_iff]
  exact (((hmode.then (only_braceEnd _) (by decide)).then (only_fioOff _) (by decide)).then (only_culmSafe _) (by decide)).then
    (only_event _ _ _ _ _) (by decide)

theorem enterSafe_mode (cause : Nat) {s : State} (h : s.mod.mode = .run) : (enterSafe cause s).mod.mode = .safe := by
  obtain ⟨m, hst, hm⟩ := standing_enterSafe cause s
  rw [mod_of_standing hst, hm h]

end Sys2Proof.Machine
end

section
/-! PROOF. Lanes of Awn that close (04 R121 to R123, R131): the sticky error of the cause, and the lane timer while another live
lane executes. -/

namespace Sys2Proof.Machine

/-! ### One lane replaced -/

theorem awnLane_putLane_self {l : Nat} (x : AwnLane) {s : State} (h : l < s.awn.lanes.length) :
    awnLane (putLane l x s) l = x := nth_modAt_self _ _ _ _ h

theorem awnLane_putLane_ne {l b : Nat} (x : AwnLane) (s : State) (h : b ≠ l) : awnLane (putLane l x s) b = awnLane s b :=
  nth_modAt_ne _ _ _ h

theorem awnLane_congr {s u : State} (h : u.awn.lanes = s.awn.lanes) (l : Nat) : awnLane u l = awnLane s l := by
  rw [awnLane, h]; rfl

theorem mem_liveLanes {s : State} {l : Nat} : l ∈ liveLanes s ↔ l < 3 ∧ laneLive s l = true := by simp [liveLanes]

theorem nodup_liveLanes (s : State) : (liveLanes s).Nodup := List.Nodup.filter _ List.nodup_range

/-! ### The close of a lane -/

/-- The sticky error of a close and its record (R131). -/
def closeError (bit code cause l : Nat) (s : State) : State :=
  event code l (w32 s.awn.scan) (w32 (awnLane s l).pc) (errAwn bit (awnInfo bit l cause (awnLane s l).pc) s)

/-- What follows a close: the vote, or the start of the lane timer (R123). -/
def closeFollowed (s : State) : State :=
  let closed := (liveLanes s).filter (fun l => (awnLane s l).cause.isSome)
  if closed.length = (liveLanes s).length then awnVote s
  else if closed.length + 1 = (liveLanes s).length ∧ s.awn.laneSince.isNone then
    { s with awn := { s.awn with laneSince := some s.clk.now } }
  else s

theorem laneClosed_end {l : Nat} {s : State} (h : (awnLane s l).cause = some 1) : laneClosed l s = closeFollowed s := by
  unfold laneClosed; simp only [h]; rfl

theorem laneClosed_ecc {l : Nat} {s : State} (h : (awnLane s l).cause = some 3) :
    laneClosed l s = closeFollowed (closeError 5 0x3106 3 l s) := by
  unfold laneClosed; simp only [h]; rfl

theorem laneClosed_illegal {l : Nat} {s : State} (h : (awnLane s l).cause = some 4) :
    laneClosed l s = closeFollowed (closeError 4 0x3105 4 l s) := by
  unfold laneClosed; simp only [h]; rfl

theorem awnStep_close {s : State} {lane : Nat} {f : AwnEnv → AwnLane → AwnLane} (h : AwnRuns s lane)
    (hclose : (f (awnEnv s) (awnLane s lane)).cause ≠ none) :
    awnStep lane f s = laneClosed lane (putLane lane (f (awnEnv s) (awnLane s lane)) s) := by
  obtain ⟨-, -, hstate, hlive, hcause⟩ := h
  unfold awnStep
  rw [if_pos ⟨hstate, hlive, by rw [hcause]; rfl⟩]
  exact if_pos (Option.isSome_iff_ne_none.2 hclose)

/-- Of the engine the error of a close changes the error registers alone. -/
theorem closeError_awn (bit code cause l : Nat) (s : State) :
    (closeError bit code cause l s).awn =
      { s.awn with err := s.awn.err.raise bit (awnInfo bit l cause (awnLane s l).pc) (w32 s.awn.scan) 0 } :=
  only_event code l (w32 s.awn.scan) (w32 (awnLane s l).pc) (errAwn bit (awnInfo bit l cause (awnLane s l).pc) s) .awn
    (by decide)

theorem only_closeError (bit code cause l : Nat) (s : State) :
    Only [.awn, .grn, .sup] s (closeError bit code cause l s) :=
  Only.then (t := errAwn bit (awnInfo bit l cause (awnLane s l).pc) s) (by simp [only_iff, errAwn]) (only_event _ _ _ _ _)
    (by decide)

/-! ### The lane timer (R123) -/

/-- One entry of a list without repeats fails a test where it does and every other one passes. -/
theorem length_filter_add_one_iff {l : List Nat} (hn : l.Nodup) {p : Nat → Bool} {a : Nat} (ha : a ∈ l)
    (hp : p a = false) : (l.filter p).length + 1 = l.length ↔ ∀ b ∈ l, b ≠ a → p b = true := by
  have hsum := List.length_eq_length_filter_add (l := l) p
  have hfail : a ∈ l.filter (fun b => !p b) := List.mem_filter.2 ⟨ha, by simp [hp]⟩
  constructor
  · intro h b hb hne
    obtain ⟨c, hc⟩ := List.length_eq_one_iff.1 (show (l.filter (fun b => !p b)).length = 1 by omega)
    by_contra hpb
    have hb' : b ∈ l.filter (fun b => !p b) := List.mem_filter.2 ⟨hb, by simpa using hpb⟩
    rw [hc, List.mem_singleton] at hfail hb'
    exact hne (hb'.trans hfail.symm)
  · intro h
    have hone : l.filter (fun b => !p b) = l.filter (· == a) :=
      List.filter_congr fun b hb => by
        by_cases hba : b = a
        · subst hba; simp [hp]
        · simp [h b hb hba, hba]
    have hcount : (l.filter (· == a)).length = 1 := by
      rw [← List.countP_eq_length_filter]; exact List.count_eq_one_of_mem hn ha
    rw [hone] at hsum
    omega

/-- No live lane but `a` executes. -/
def lastLane (s : State) (a : Nat) : Bool :=
  [0, 1, 2].all (fun b => b == a || !laneLive s b || (awnLane s b).cause.isSome)

theorem lastLane_iff {s : State} {a : Nat} :
    lastLane s a = true ↔ ∀ b ∈ liveLanes s, b ≠ a → (awnLane s b).cause.isSome = true := by
  rw [lastLane, show [0, 1, 2] = List.range 3 from rfl, List.all_eq_true]
  simp only [mem_liveLanes, List.mem_range, Bool.or_eq_true, beq_iff_eq, Bool.not_eq_true']
  refine forall_congr' fun b => ?_
  cases laneLive s b <;> simp
  tauto

/-- While lane `a` executes no vote is taken; the lane timer starts where `a` is the last live lane to execute. -/
theorem closeFollowed_waits {s : State} {a : Nat} (ha : a < 3) (hlive : laneLive s a = true)
    (hopen : (awnLane s a).cause = none) : closeFollowed s = { s with awn := { s.awn with
      laneSince := if s.awn.laneSince = none ∧ lastLane s a = true then some s.clk.now else s.awn.laneSince } } := by
  have hmem : a ∈ liveLanes s := mem_liveLanes.2 ⟨ha, hlive⟩
  have hfail : (awnLane s a).cause.isSome = false := by rw [hopen]; rfl
  have hvote : ((liveLanes s).filter (fun l => (awnLane s l).cause.isSome)).length ≠ (liveLanes s).length := fun h => by
    rw [List.length_filter_eq_length_iff.1 h a hmem] at hfail
    cases hfail
  have hlast := (length_filter_add_one_iff (nodup_liveLanes s) hmem hfail).trans lastLane_iff.symm
  unfold closeFollowed
  rw [if_neg hvote]
  by_cases h : s.awn.laneSince = none ∧ lastLane s a = true
  · rw [if_pos h, if_pos ⟨hlast.2 h.2, by rw [h.1]; rfl⟩]
  · rw [if_neg h, if_neg fun h' => h ⟨Option.isNone_iff_eq_none.1 h'.2, hlast.1 h'.1⟩]

/-! ### A lane closes while another executes -/

section
variable {s : State} {lane a : Nat} (hr : AwnRuns s lane) (ha : AwnRuns s a) (hne : a ≠ lane)

/-- With lane `lane` closed, `a` is the last one where every third lane has closed or takes no part. -/
theorem lastLane_closed {u : State} {x : AwnLane} (h : lane < s.awn.lanes.length) (hx : x.cause ≠ none)
    (hlanes : u.awn.lanes = (putLane lane x s).awn.lanes) (hlive : u.awn.live = s.awn.live) : lastLane u a =
      [0, 1, 2].all (fun b => b == a || b == lane || !laneLive s b || (awnLane s b).cause.isSome) := by
  refine congrArg _ (funext fun b => ?_)
  rw [awnLane_congr hlanes, laneLive, hlive]
  by_cases hb : b = lane
  · subst hb
    rw [awnLane_putLane_self x h, Option.isSome_iff_ne_none.2 hx]; simp
  · rw [awnLane_putLane_ne x s hb, beq_false_of_ne hb, Bool.or_false]; rfl

include hr ha hne

theorem closeFollowed_closed {u : State} {x : AwnLane} (hx : x.cause ≠ none)
    (hlanes : u.awn.lanes = (putLane lane x s).awn.lanes) (hlive : u.awn.live = s.awn.live)
    (hsince : u.awn.laneSince = s.awn.laneSince) (hclk : u.clk = s.clk) :
    closeFollowed u = { u with awn := { u.awn with
      laneSince := if s.awn.laneSince = none ∧
          [0, 1, 2].all (fun b => b == a || b == lane || !laneLive s b || (awnLane s b).cause.isSome) = true
        then some s.clk.now else s.awn.laneSince } } := by
  obtain ⟨ha3, -, -, halive, hopen⟩ := ha
  have hopen' : (awnLane u a).cause = none := by rw [awnLane_congr hlanes, awnLane_putLane_ne x s hne, hopen]
  rw [closeFollowed_waits ha3 (by rw [laneLive, hlive]; exact halive) hopen', hsince, hclk,
    lastLane_closed hr.lt_length hx hlanes hlive]

/-- END: cause 1, the step counted, the lane timer where one live lane is left. -/
theorem awnEnd_waits : GivesOnly [.awn] (.awnEnd lane) s (fun t =>
    t.awn = { s.awn with lanes := t.awn.lanes, laneSince := t.awn.laneSince } ∧
    awnLane t lane = laneEnd (awnEnv s) (awnLane s lane) ∧ (∀ b, b ≠ lane → awnLane t b = awnLane s b) ∧
    t.awn.laneSince = (if s.awn.laneSince = none ∧
        [0, 1, 2].all (fun b => b == a || b == lane || !laneLive s b || (awnLane s b).cause.isSome) = true
      then some s.clk.now else s.awn.laneSince)) := by
  have hself := awnLane_putLane_self (laneEnd (awnEnv s) (awnLane s lane)) (s := s.begin) hr.lt_length
  have hop : awnStep lane laneEnd s.begin =
      closeFollowed (putLane lane (laneEnd (awnEnv s) (awnLane s lane)) s.begin) :=
    (awnStep_close (s := s.begin) hr (Option.some_ne_none 1)).trans (laneClosed_end (congrArg AwnLane.cause hself))
  rw [closeFollowed_closed hr ha hne (u := putLane lane (laneEnd (awnEnv s) (awnLane s lane)) s.begin)
    (Option.some_ne_none 1) rfl rfl rfl rfl] at hop
  refine givesOnly_of_run (exec_awnEnd lane s) (decide_eq_true hr.lt_three) ?_ ?_ <;> rw [hop]
  · simp [only_iff, putLane]
  · exact ⟨rfl, hself, fun b hb => awnLane_putLane_ne _ s.begin hb, rfl⟩

/-- A close with an error: the error and its record, the lane timer, and nothing else of the engine. -/
theorem closeError_waits {x : AwnLane} (hx : x.cause ≠ none) {bit : Nat} (hbit : bit < 32) (code cause : Nat) {t : State}
    (ht : t = closeFollowed (closeError bit code cause lane (putLane lane x s.begin))) :
    Only [.awn, .grn, .sup] s.begin t ∧ awnLane t lane = x ∧ (∀ b, b ≠ lane → awnLane t b = awnLane s b) ∧
    t.awn.laneSince = (if s.awn.laneSince = none ∧
        [0, 1, 2].all (fun b => b == a || b == lane || !laneLive s b || (awnLane s b).cause.isSome) = true
      then some s.clk.now else s.awn.laneSince) ∧
    t.awn.state = 2 ∧ t.awn.live = s.awn.live ∧ bitOf t.awn.err.status bit = true ∧
    t.grn = (event code lane (w32 s.awn.scan) (w32 x.pc) s).grn := by
  have hself := awnLane_putLane_self x (s := s.begin) hr.lt_length
  have hawn := closeError_awn bit code cause lane (putLane lane x s.begin)
  have hput : Only [.awn] s.begin (putLane lane x s.begin) := by simp [only_iff, putLane]
  have honly := (hput.weaken (ps := [.awn, .grn, .sup]) (by decide)).then (only_closeError bit code cause lane _) (by decide)
  have hgrn : (closeError bit code cause lane (putLane lane x s.begin)).grn =
      (event code lane (w32 s.awn.scan) (w32 x.pc) s).grn := by
    rw [closeError, hself]
    exact event_grn_congr (s := s) (t := errAwn bit (awnInfo bit lane cause x.pc) (putLane lane x s.begin))
      rfl rfl rfl rfl rfl rfl rfl _ _ _ _
  generalize closeError bit code cause lane (putLane lane x s.begin) = u at *
  have hlanes : u.awn.lanes = (putLane lane x s).awn.lanes := by rw [hawn]; rfl
  rw [closeFollowed_closed hr ha hne hx hlanes (by rw [hawn]; rfl) (by rw [hawn]; rfl) (honly .clk (by decide))] at ht
  subst ht
  refine ⟨honly.then (qs := [.awn]) (by simp [only_iff]) (by decide), (awnLane_congr hlanes lane).trans hself,
    fun b hb => (awnLane_congr hlanes b).trans (awnLane_putLane_ne x s hb), rfl, ?_, ?_, ?_, hgrn⟩ <;>
    dsimp only <;> rw [hawn]
  · exact hr.scans
  · rfl
  · exact raise_status_self _ hbit _ _ _

/-- An undefined step closes with ILLEGAL, an uncorrectable word with ECC. -/
theorem awnIllegalStep_waits (ecc : Bool) : GivesOnly [.awn, .grn, .sup] (.awnIllegalStep lane ecc) s (fun t =>
    awnLane t lane = laneClose (awnEnv s) (if ecc then 3 else 4) (awnLane s lane) ∧
    (∀ b, b ≠ lane → awnLane t b = awnLane s b) ∧
    t.awn.laneSince = (if s.awn.laneSince = none ∧
        [0, 1, 2].all (fun b => b == a || b == lane || !laneLive s b || (awnLane s b).cause.isSome) = true
      then some s.clk.now else s.awn.laneSince) ∧
    t.awn.state = 2 ∧ t.awn.live = s.awn.live ∧ bitOf t.awn.err.status (if ecc then 5 else 4) = true ∧
    t.grn = (event (if ecc then 0x3106 else 0x3105) lane (w32 s.awn.scan) (w32 (awnLane s lane).pc) s).grn) := by
  have hself := awnLane_putLane_self (laneClose (awnEnv s) (if ecc then 3 else 4) (awnLane s lane)) (s := s.begin) hr.lt_length
  have hop : opAwnIllegalStep lane ecc s.begin = closeFollowed (closeError (if ecc then 5 else 4)
      (if ecc then 0x3106 else 0x3105) (if ecc then 3 else 4) lane
      (putLane lane (laneClose (awnEnv s) (if ecc then 3 else 4) (awnLane s lane)) s.begin)) := by
    refine (awnStep_close (s := s.begin) hr (Option.some_ne_none _)).trans ?_
    cases ecc
    · exact laneClosed_illegal (congrArg AwnLane.cause hself)
    · exact laneClosed_ecc (congrArg AwnLane.cause hself)
  obtain ⟨honly, hP⟩ := closeError_waits hr ha hne (Option.some_ne_none _) (by cases ecc <;> decide) _ _ hop
  exact givesOnly_of_run (exec_awnIllegalStep lane ecc s) (decide_eq_true hr.lt_three) honly hP

end

end Sys2Proof.Machine
end

section
/-! PROOF. The vote of Awn's lanes (04 R123, R124): the result two lanes agree on, the exclusion of the third, and no
majority. -/

namespace Sys2Proof.Machine

/-! ### Agreement -/

/-- Two live lanes have closed with one signature. -/
structure LanesAgree (s : State) (a b : Nat) : Prop where
  lt : a < b
  lt_three : b < 3
  live : laneLive s a = true
  live' : laneLive s b = true
  closed : (awnLane s a).cause ≠ none
  closed' : (awnLane s b).cause ≠ none
  sig : (awnLane s a).sig = (awnLane s b).sig

theorem LanesAgree.begin {s : State} {a b : Nat} (h : LanesAgree s a b) : LanesAgree s.begin a b :=
  ⟨h.lt, h.lt_three, h.live, h.live', h.closed, h.closed', h.sig⟩

/-- Lane `c` does not bear out the result of lane `a`: it executes still, or it has another signature. -/
def laneDiffers (s : State) (a c : Nat) : Bool :=
  (awnLane s c).cause.isNone || decide ((awnLane s c).sig ≠ (awnLane s a).sig)

theorem laneDiffers_iff {s : State} {a c : Nat} : laneDiffers s a c = true ↔
    (awnLane s c).cause = none ∨ (awnLane s c).sig ≠ (awnLane s a).sig := by
  simp [laneDiffers, Option.isNone_iff_eq_none]

theorem LanesAgree.not_differs {s : State} {a b : Nat} (h : LanesAgree s a b) {c : Nat} (hc : c = a ∨ c = b) :
    laneDiffers s a c = false := by
  rw [Bool.eq_false_iff, ne_eq, laneDiffers_iff]
  rintro (hn | hsig)
  · rcases hc with rfl | rfl
    · exact h.closed hn
    · exact h.closed' hn
  · rcases hc with rfl | rfl
    · exact hsig rfl
    · exact hsig h.sig.symm

/-- The live lanes that have closed. -/
def closedLanes (s : State) : List Nat := (liveLanes s).filter (fun l => (awnLane s l).cause.isSome)

theorem mem_closedLanes {s : State} {l : Nat} :
    l ∈ closedLanes s ↔ l < 3 ∧ laneLive s l = true ∧ (awnLane s l).cause ≠ none := by
  rw [closedLanes, List.mem_filter, mem_liveLanes, Option.isSome_iff_ne_none, and_assoc]

theorem agreeing_any_iff {s : State} {a : Nat} :
    (closedLanes s).any (fun b => decide (a ≠ b) && decide ((awnLane s a).sig = (awnLane s b).sig)) = true ↔
      ∃ b ∈ closedLanes s, a ≠ b ∧ (awnLane s a).sig = (awnLane s b).sig := by simp

/-- The search of the closed lanes goes in their order. -/
theorem find?_closedLanes {s : State} {q : Nat → Bool} {a : Nat} : (closedLanes s).find? q = some a ↔
    a ∈ closedLanes s ∧ q a = true ∧ ∀ l < a, l ∈ closedLanes s → q l = false := by
  have hsearch : (closedLanes s).find? q = (List.range 3).find? (fun l =>
      decide (laneLive s l = true ∧ decide ((awnLane s l).cause.isSome = true ∧ q l = true) = true)) := by
    rw [closedLanes, liveLanes, List.find?_filter, List.find?_filter]
  rw [hsearch, List.find?_range_eq_some]
  simp only [mem_closedLanes, Option.isSome_iff_ne_none, List.mem_range, decide_eq_true_eq, Bool.not_eq_true',
    decide_eq_false_iff_not]
  constructor
  · rintro ⟨⟨hlive, hclosed, hq⟩, ha, hmin⟩
    exact ⟨⟨ha, hlive, hclosed⟩, hq, fun l hl ⟨_, hlive', hclosed'⟩ =>
      Bool.eq_false_iff.2 fun hql => hmin l hl ⟨hlive', hclosed', hql⟩⟩
  · rintro ⟨⟨ha, hlive, hclosed⟩, hq, hmin⟩
    exact ⟨⟨hlive, hclosed, hq⟩, ha, fun l hl ⟨hlive', hclosed', hql⟩ =>
      Bool.eq_false_iff.1 (hmin l hl ⟨hl.trans ha, hlive', hclosed'⟩) hql⟩

/-- The vote takes the first of two lanes that agree where a third live lane does not agree with them. -/
theorem agreeing_first {s : State} {a b : Nat} (h : LanesAgree s a b)
    (hthird : ∀ c, c < 3 → c ≠ a → c ≠ b → laneLive s c = true → laneDiffers s a c = true) :
    agreeing s (closedLanes s) = some a := by
  have hlt := h.lt
  have hb3 := h.lt_three
  have ha : a ∈ closedLanes s := mem_closedLanes.2 ⟨hlt.trans hb3, h.live, h.closed⟩
  have hb : b ∈ closedLanes s := mem_closedLanes.2 ⟨hb3, h.live', h.closed'⟩
  refine find?_closedLanes.2 ⟨ha, agreeing_any_iff.2 ⟨b, hb, hlt.ne, h.sig⟩, fun l hla hl => ?_⟩
  rw [Bool.eq_false_iff, ne_eq, agreeing_any_iff]
  rintro ⟨c, hc, hne, hsig⟩
  obtain ⟨hl3, hlive, hclosed⟩ := mem_closedLanes.1 hl
  obtain ⟨hc3, -, -⟩ := mem_closedLanes.1 hc
  rcases laneDiffers_iff.1 (hthird l hl3 (by omega) (by omega) hlive) with hn | hn
  · exact hclosed hn
  · obtain rfl | rfl : c = a ∨ c = b := by omega
    exacts [hn hsig, hn (hsig.trans h.sig.symm)]

theorem agreeing_none {s : State} (h : ∀ a b, a < b → b < 3 → laneLive s a = true → laneLive s b = true →
    (awnLane s a).cause = none ∨ (awnLane s b).cause = none ∨ (awnLane s a).sig ≠ (awnLane s b).sig) :
    agreeing s (closedLanes s) = none := by
  refine List.find?_eq_none.2 fun a ha hany => ?_
  obtain ⟨b, hb, hne, hsig⟩ := agreeing_any_iff.1 hany
  obtain ⟨ha3, halive, haclosed⟩ := mem_closedLanes.1 ha
  obtain ⟨hb3, hblive, hbclosed⟩ := mem_closedLanes.1 hb
  rcases Nat.lt_or_gt_of_ne hne with hlt | hlt
  · rcases h a b hlt hb3 halive hblive with hn | hn | hn
    exacts [haclosed hn, hbclosed hn, hn hsig]
  · rcases h b a hlt ha3 hblive halive with hn | hn | hn
    exacts [hbclosed hn, haclosed hn, hn hsig.symm]

/-! ### The vote -/

/-- The live lanes that do not bear out the result of lane `w`. -/
def outvoted (s : State) (w : Nat) : List Nat := (liveLanes s).filter (laneDiffers s w)

/-- The result of lane `w` taken. -/
def winnerTaken (w : Nat) (s : State) : State :=
  { s with
    awn := { s.awn with state := 4, winner := some w, laneSince := none },
    pair := { s.pair with scanSig := (awnLane s w).sig, scanNum := s.awn.scan } }

theorem awnVote_none {s : State} (h : agreeing s (closedLanes s) = none) : awnVote s = awnNoMajority s := by
  simp only [awnVote, show agreeing s ((liveLanes s).filter (fun l => (awnLane s l).cause.isSome)) = none from h]

theorem awnVote_some {s : State} {w : Nat} (h : agreeing s (closedLanes s) = some w)
    (h2 : (liveLanes s).length < 3 → outvoted s w = []) :
    awnVote s = winnerTaken w (forAll (outvoted s w) excludeLane s) := by
  simp only [awnVote, show agreeing s ((liveLanes s).filter (fun l => (awnLane s l).cause.isSome)) = some w from h]
  exact if_neg fun hx => hx.2 (h2 hx.1)

/-- One excluded lane: it takes part no longer, its error stands, and every other lane is as before. -/
theorem excludeLane_awn (c : Nat) (s : State) : ∃ info, (excludeLane c s).awn = { s.awn with
    live := modAt s.awn.live c (fun _ => false), degraded := true,
    err := s.awn.err.raise (if (awnLane s c).cause = none then 2 else 0) info (w32 s.awn.scan) 0 } := by
  unfold excludeLane
  dsimp only
  rw [show awnLane { s with awn := { s.awn with live := modAt s.awn.live c (fun _ => false), degraded := true } } c =
    awnLane s c from rfl]
  cases h : (awnLane s c).cause with
  | none => exact ⟨_, (only_event _ _ _ _ _) .awn (by decide)⟩
  | some n => exact ⟨_, (only_event _ _ _ _ _) .awn (by decide)⟩

theorem only_excludeLane (c : Nat) (s : State) : Only [.awn, .grn, .sup] s (excludeLane c s) := by
  unfold excludeLane
  dsimp only
  split
  · exact Only.then (t := errAwn 0 _ _) (by simp [only_iff, errAwn]) (only_event _ _ _ _ _) (by decide)
  · exact Only.then (t := errAwn 2 _ _) (by simp [only_iff, errAwn]) (only_event _ _ _ _ _) (by decide)

/-- A scan that is lost leaves the errors and the scan number, and the bank where no disable waits for it. -/
theorem awnScanLost_awn (st : Nat) (s : State) : (awnScanLost st s).awn.state = st ∧
    (s.awn.en = true → (awnScanLost st s).awn.bank = s.awn.bank) ∧ (awnScanLost st s).awn.scan = s.awn.scan ∧
    (awnScanLost st s).awn.err = s.awn.err := by
  unfold awnScanLost
  dsimp only
  split
  · exact ⟨rfl, fun _ => rfl, rfl, rfl⟩
  · next hen => exact ⟨rfl, fun h => absurd h hen, rfl, rfl⟩

theorem only_awnScanLost (st : Nat) (s : State) : Only [.awn] s (awnScanLost st s) :=
  .ite _ (by simp [only_iff]) (by simp [only_iff, abortTimers])

/-- Without a majority Awn halts with the banks and the scan number as they were, and its error stands (R124). -/
theorem awnNoMajority_awn (s : State) : (awnNoMajority s).awn.state = 5 ∧
    (s.awn.en = true → (awnNoMajority s).awn.bank = s.awn.bank) ∧ (awnNoMajority s).awn.scan = s.awn.scan ∧
    bitOf (awnNoMajority s).awn.err.status 1 = true := by
  have hev : (event 0x3102 3 (w32 s.awn.scan) 0 (errAwn 1 (awnInfo 1 3 0 0) s)).awn =
      (errAwn 1 (awnInfo 1 3 0 0) s).awn := (only_event _ _ _ _ _) .awn (by decide)
  obtain ⟨hstate, hbank, hscan, herr⟩ := awnScanLost_awn 5 (event 0x3102 3 (w32 s.awn.scan) 0 (errAwn 1 (awnInfo 1 3 0 0) s))
  rw [hev] at hbank hscan herr
  unfold awnNoMajority
  dsimp only
  rw [show ∀ c t, (enterSafe c t).awn = t.awn from fun c t => only_enterSafe c t .awn (by decide)]
  exact ⟨hstate, hbank, hscan, by rw [herr]; exact raise_status_self _ (by decide) _ _ _⟩

theorem awnNoMajority_mode {s : State} (h : s.mod.mode = .run) : (awnNoMajority s).mod.mode = .safe := by
  have hmod : (event 0x3102 3 (w32 s.awn.scan) 0 (errAwn 1 (awnInfo 1 3 0 0) s)).mod = s.mod :=
    only_event _ _ _ _ (errAwn 1 (awnInfo 1 3 0 0) s) .mod (by decide)
  refine enterSafe_mode 0x3102 ?_
  rw [show ∀ st t, (awnScanLost st t).mod = t.mod from fun st t => only_awnScanLost st t .mod (by decide), hmod, h]

/-- A third live lane that differs or is missing is excluded, and the result of the two is taken. -/
theorem awnVote_excludes {s : State} {a b c : Nat} (h : LanesAgree s a b) (hc : c < 3) (hca : c ≠ a) (hcb : c ≠ b)
    (hlive : laneLive s c = true) (hdiffers : laneDiffers s a c = true) :
    awnVote s = winnerTaken a (excludeLane c s) := by
  have hlt := h.lt
  have hb3 := h.lt_three
  have hthird : ∀ x, x < 3 → x = a ∨ x = b ∨ x = c := fun x _ => by omega
  have hdiffers' : ∀ l ∈ liveLanes s, laneDiffers s a l = (l == c) := fun l hl => by
    obtain ⟨hl3, -⟩ := mem_liveLanes.1 hl
    by_cases hlc : l = c
    · rw [hlc, hdiffers, beq_self_eq_true]
    · rw [beq_false_of_ne hlc, h.not_differs (by have := hthird l hl3; tauto)]
  have hout : outvoted s a = [c] := by
    rw [outvoted, List.filter_congr hdiffers', List.filter_beq,
      List.count_eq_one_of_mem (nodup_liveLanes s) (mem_liveLanes.2 ⟨hc, hlive⟩)]
    rfl
  have hall : liveLanes s = List.range 3 := List.filter_eq_self.2 fun l hl => by
    rcases hthird l (List.mem_range.1 hl) with rfl | rfl | rfl
    exacts [h.live, h.live', hlive]
  have hagree : agreeing s (closedLanes s) = some a := agreeing_first h fun x hx hxa hxb _ => by
    obtain rfl : x = c := by have := hthird x hx; tauto
    exact hdiffers
  rw [awnVote_some hagree fun hfew => absurd hfew (by rw [hall]; decide), hout]
  rfl

/-- Two live lanes that agree, with no third one, are taken as they are. -/
theorem awnVote_agrees {s : State} {a b : Nat} (h : LanesAgree s a b)
    (hthird : ∀ c, c < 3 → c ≠ a → c ≠ b → laneLive s c = false) : awnVote s = winnerTaken a s := by
  have hout : outvoted s a = [] := List.filter_eq_nil_iff.2 fun l hl => by
    obtain ⟨hl3, hlive⟩ := mem_liveLanes.1 hl
    by_cases hla : l = a ∨ l = b
    · rw [h.not_differs hla]; exact Bool.false_ne_true
    · rw [hthird l hl3 (by tauto) (by tauto)] at hlive
      cases hlive
  have hagree : agreeing s (closedLanes s) = some a := agreeing_first h fun x hx hxa hxb hlive => by
    rw [hthird x hx hxa hxb] at hlive
    cases hlive
  rw [awnVote_some hagree fun _ => hout, hout]
  rfl

/-! ### The lane timer runs out -/

theorem opLaneTimeout_due {s : State} {t0 : Nat} (hstate : s.awn.state = 2) (hsince : s.awn.laneSince = some t0)
    (hdue : t0 + 400 ≤ s.clk.now) : opLaneTimeout s = awnVote s := by
  unfold opLaneTimeout
  rw [if_pos ⟨hstate, by rw [hsince]; exact decide_eq_true hdue⟩]

section
variable {s : State} {t0 : Nat} (hstate : s.awn.state = 2) (hsince : s.awn.laneSince = some t0)
  (hdue : t0 + 400 ≤ s.clk.now)
include hstate hsince hdue

theorem laneTimeout_excludes (hlen : s.awn.live.length = 3) (hmode : s.mod.mode = .run) {a b c : Nat}
    (h : LanesAgree s a b) (hc : c < 3) (hca : c ≠ a) (hcb : c ≠ b) (hlive : laneLive s c = true)
    (hdiffers : laneDiffers s a c = true) :
    Gives .laneTimeout s (fun t => t.awn.state = 4 ∧ t.awn.winner = some a ∧ laneLive t c = false ∧
      laneLive t a = true ∧ laneLive t b = true ∧ t.awn.degraded = true ∧ t.mod.mode = .run ∧
      bitOf t.awn.err.status (if (awnLane s c).cause = none then 2 else 0) = true) := by
  have hvote : opLaneTimeout s.begin = winnerTaken a (excludeLane c s.begin) :=
    (opLaneTimeout_due (s := s.begin) hstate hsince hdue).trans (awnVote_excludes h.begin hc hca hcb hlive hdiffers)
  obtain ⟨info, hawn⟩ := excludeLane_awn c s.begin
  have hmod : (excludeLane c s.begin).mod = s.mod := only_excludeLane c s.begin .mod (by decide)
  have hkeep : ∀ l, l ≠ c → nth (modAt s.awn.live c fun _ => false) l false = laneLive s l :=
    fun l hl => nth_modAt_ne _ _ _ hl
  refine gives_of_run (exec_laneTimeout s) rfl ?_
  rw [hvote]
  simp only [winnerTaken, laneLive, hawn, State.begin_awn, hmod, hmode]
  exact ⟨trivial, trivial, nth_modAt_self _ _ _ _ (by omega), (hkeep a hca.symm).trans h.live,
    (hkeep b hcb.symm).trans h.live', trivial, trivial, raise_status_self _ (by split <;> decide) _ _ _⟩

theorem laneTimeout_agrees {a b : Nat} (h : LanesAgree s a b)
    (hthird : ∀ c, c < 3 → c ≠ a → c ≠ b → laneLive s c = false) :
    GivesOnly [.awn, .pair] .laneTimeout s (fun t =>
      t.awn.state = 4 ∧ t.awn.winner = some a ∧ t.awn.live = s.awn.live) := by
  have hvote : opLaneTimeout s.begin = winnerTaken a s.begin :=
    (opLaneTimeout_due (s := s.begin) hstate hsince hdue).trans (awnVote_agrees h.begin hthird)
  refine givesOnly_of_run (exec_laneTimeout s) rfl ?_ ?_ <;> rw [hvote]
  · simp [only_iff, winnerTaken]
  · exact ⟨rfl, rfl, rfl⟩

/-- With no two live lanes that agree nothing is published, Awn halts and the module enters SAFE. -/
theorem laneTimeout_noMajority (hmode : s.mod.mode = .run)
    (h : ∀ a b, a < b → b < 3 → laneLive s a = true → laneLive s b = true →
      (awnLane s a).cause = none ∨ (awnLane s b).cause = none ∨ (awnLane s a).sig ≠ (awnLane s b).sig) :
    Gives .laneTimeout s (fun t => t.awn.state = 5 ∧ (s.awn.en = true → t.awn.bank = s.awn.bank) ∧
      t.awn.scan = s.awn.scan ∧ t.mod.mode = .safe ∧ bitOf t.awn.err.status 1 = true) := by
  have hvote : opLaneTimeout s.begin = awnNoMajority s.begin :=
    (opLaneTimeout_due (s := s.begin) hstate hsince hdue).trans (awnVote_none (agreeing_none h))
  obtain ⟨hhalt, hbank, hscan, herr⟩ := awnNoMajority_awn s.begin
  refine gives_of_run (exec_laneTimeout s) rfl ?_
  rw [hvote]
  exact ⟨hhalt, hbank, hscan, awnNoMajority_mode hmode, herr⟩

end

/-- Settles O24: a close while another live lane executes, and the vote by what the closed lanes agree on. -/
theorem awnLanesCloseAndVote : Obligations.AwnLanesCloseAndVote := by
  refine ⟨fun s lane a hr ha hne => ⟨awnEnd_waits hr ha hne, awnIllegalStep_waits hr ha hne⟩,
    fun s hstate ⟨t0, hsince, hdue⟩ hlen _ hmode _ => ⟨fun a b hlt hb3 hla hlb hca hcb hsig => ?_, fun h =>
      laneTimeout_noMajority hstate hsince hdue hmode h⟩⟩
  have h : LanesAgree s a b := ⟨hlt, hb3, hla, hlb, hca, hcb, hsig⟩
  exact ⟨fun c hc hca hcb hlive hdiffers => laneTimeout_excludes hstate hsince hdue hlen hmode h hc hca hcb hlive
    (laneDiffers_iff.2 hdiffers), laneTimeout_agrees hstate hsince hdue h⟩

end Sys2Proof.Machine
end

section
/-! PROOF. The life of a scan (04 R100 to R106, R109, R125): the trigger, publishing, the enable. -/

namespace Sys2Proof

/-! ### Tables whose every value is changed -/

section
variable {α : Type} [DecidableEq α] {d : α}

/-- A canonical table with every number above `k` holds nothing at `k` or below. -/
theorem FMap.look_of_wfFrom {m : FMap α} {k n : Nat}
    (h : FMap.wfFrom d (some k) m = true) (hn : n ≤ k) : FMap.look m d n = d := by
  induction m generalizing k with
  | nil => rfl
  | cons e t ih =>
    obtain ⟨j, w⟩ := e
    simp only [FMap.wfFrom, Bool.and_eq_true, decide_eq_true_eq] at h
    obtain ⟨⟨hj, -⟩, ht⟩ := h
    rw [FMap.look_cons, if_neg (by omega), ih ht (by omega)]

/-- Changing every listed value changes the value at each number. -/
theorem FMap.look_mapv {f : α → α} (hf : f d = d) {m : FMap α}
    (h : FMap.wf d m = true) (n : Nat) : FMap.look (FMap.mapv m d f) d n = f (FMap.look m d n) := by
  suffices key : ∀ b, FMap.wfFrom d b m = true → FMap.look (FMap.mapv m d f) d n = f (FMap.look m d n) from key none h
  clear h
  induction m with
  | nil => exact fun _ _ => hf.symm
  | cons e t ih =>
    obtain ⟨j, w⟩ := e
    intro b h
    simp only [FMap.wfFrom, Bool.and_eq_true] at h
    obtain ⟨-, ht⟩ := h
    simp only [FMap.mapv, FMap.look_cons]
    by_cases hw : f w = d
    · rw [if_pos hw, ih _ ht]
      by_cases hj : j = n
      · rw [if_pos hj, hw, FMap.look_of_wfFrom ht hj.ge, hf]
      · rw [if_neg hj]
    · rw [if_neg hw, FMap.look_cons, ih _ ht, apply_ite f]

end

end Sys2Proof

namespace Sys2Proof.Machine

/-! ### The trigger (R100 to R104, R109) -/

theorem nth_zipWith {α β γ : Type} (f : α → β → γ) {l : List α} {m : List β} {i : Nat} (da : α) (db : β) (dc : γ)
    (hl : i < l.length) (hm : i < m.length) :
    nth (List.zipWith f l m) i dc = f (nth l i da) (nth m i db) := by
  rw [nth_of_lt dc (by rw [List.length_zipWith]; omega), nth_of_lt da hl, nth_of_lt db hm, List.getElem_zipWith]

theorem lt_live_of_laneLive {s : State} {l : Nat} (h : laneLive s l = true) : l < s.awn.live.length := by
  by_contra hle
  rw [laneLive, nth_of_le _ (Nat.le_of_not_lt hle)] at h
  cases h

/-- A lane as the trigger starts it: SCAN_TIME and the staged set taken, accumulators and stack cleared. -/
def laneTriggered (s : State) (l : AwnLane) : AwnLane :=
  laneStart l.prog { stageInto s.awn.staged l.d with scanTime := BitVec.ofNat 64 s.clk.tb }

/-- The trigger of an idle, loaded and enabled engine. -/
theorem awnTrigger_idle {s : State} (hen : s.awn.en = true) (hloaded : s.awn.loaded = true) (hstate : s.awn.state = 1)
    (hq : s.sup.quenchSince = none) : awnTrigger s = { s with
      awn := { s.awn with
        lanes := List.zipWith (fun (live : Bool) (l : AwnLane) => if live then laneTriggered s l else l) s.awn.live s.awn.lanes,
        staged := [], state := 2, first := s.awn.firstNext, firstNext := false, degradedScan := s.awn.degraded,
        laneSince := none, winner := none },
      pair := { s.pair with
        staged := s.awn.staged.any (fun e => decide (0x400 ≤ e.1)), first := s.awn.firstNext } } := by
  unfold awnTrigger
  rw [if_pos ⟨hen, hloaded, hstate, by rw [hq]; rfl⟩]
  rfl

/-- At the release instant, once a cycle, in RUN, by a module that acts, with no scan under way: the engine is triggered. -/
theorem opAwnScanTrigger_release {s : State} (hafter : afterT0 s (releaseAt s) = true) (hnot : s.cyc.triggered = false)
    (hmode : s.mod.mode = .run) (hrole : s.pair.role ≤ 1) (hstate : s.awn.state = 1) :
    opAwnScanTrigger s = awnTrigger { s with cyc := { s.cyc with triggered := true } } := by
  unfold opAwnScanTrigger
  rw [if_neg]
  · exact if_neg (by simp [scanRuns, hstate])
  · simp [hafter, hnot, hmode, Mode.running]; omega

/-! ### Publishing (R106) -/

theorem opAwnPublish_winner {s : State} {w : Nat} (hw : s.awn.winner = some w) (hen : s.awn.en = true)
    (holc : s.cyc.olcResult ≠ 2) : ∃ cyc, opAwnPublish s = { s with
      awn := { s.awn with
        bank := (awnLane s w).d, otherBank := s.awn.bank, scan := (s.awn.scan + 1) % 2 ^ 64, state := 1, winner := none,
        lastSteps := (awnLane s w).steps, hwSteps := max s.awn.hwSteps (awnLane s w).steps },
      cyc := cyc } := by
  have hcore : awnPublishCore s = { s with awn := { s.awn with
      bank := (awnLane s w).d, otherBank := s.awn.bank, scan := (s.awn.scan + 1) % 2 ^ 64, state := 1, winner := none,
      lastSteps := (awnLane s w).steps, hwSteps := max s.awn.hwSteps (awnLane s w).steps } } := by
    unfold awnPublishCore
    rw [hw]
    exact if_pos hen
  unfold opAwnPublish
  rw [if_neg (by rw [hw]; exact Bool.false_ne_true), hcore]
  exact ⟨_, if_neg holc⟩

/-! ### The enable (R125) -/

/-- EN falls with no scan under way: the timers are aborted at once. -/
theorem awnSetEn_fall {s : State} (hen : s.awn.en = true) (hstate : s.awn.state = 1) :
    awnSetEn false s = abortTimers { s with awn := { s.awn with en := false } } := by
  simp [awnSetEn, enableAfter, scanRuns, hen, hstate]

theorem awnSetEn_rise {s : State} (hen : s.awn.en = false) (hact : s.awn.active = false) :
    awnSetEn true s = { s with awn := { s.awn with en := true, active := true, firstNext := true } } := by
  simp [awnSetEn, enableAfter, hen, hact]

theorem opAwnEnableWrite_cyc (v : Word) (s : State) : opAwnEnableWrite 0x27 v s = awnSetEn (bitOf v 0) s := if_pos rfl

theorem opAwnEnableWrite_other {init : Nat} (h : init ≠ 0x27) (v : Word) (s : State) : opAwnEnableWrite init v s = s :=
  if_neg h

/-! ### The commands -/

theorem awnScanTrigger_starts {s : State} (hafter : afterT0 s (releaseAt s) = true) (hnot : s.cyc.triggered = false)
    (hmode : s.mod.mode = .run) (hrole : s.pair.role ≤ 1) (hen : s.awn.en = true) (hloaded : s.awn.loaded = true)
    (hstate : s.awn.state = 1) (hq : s.sup.quenchSince = none) :
    GivesOnly [.awn, .pair, .cyc] .awnScanTrigger s (fun t => t.awn.state = 2 ∧ t.awn.staged = [] ∧
      t.cyc = { s.cyc with triggered := true } ∧ t.awn.bank = s.awn.bank ∧ t.awn.scan = s.awn.scan ∧
      t.awn.first = s.awn.firstNext ∧ t.awn.firstNext = false ∧
      ∀ l, l < s.awn.lanes.length → laneLive s l = true → awnLane t l = laneTriggered s (awnLane s l)) := by
  have hop : opAwnScanTrigger s.begin = _ :=
    (opAwnScanTrigger_release (s := s.begin) hafter hnot hmode hrole hstate).trans (awnTrigger_idle hen hloaded hstate hq)
  refine givesOnly_of_run (exec_awnScanTrigger s) rfl ?_ ?_ <;> rw [hop]
  · simp [only_iff]
  · refine ⟨rfl, rfl, rfl, rfl, rfl, rfl, rfl, fun l hl hlive => ?_⟩
    have hnth := nth_zipWith (fun (live : Bool) (l : AwnLane) => if live then laneTriggered s l else l) false {} {}
      (lt_live_of_laneLive hlive) hl
    exact hnth.trans (if_pos hlive)

/-- Settles O25: the trigger, the publication and the enable by what their operations make of the engine. -/
theorem awnScanCycle : Obligations.AwnScanCycle := by
  refine ⟨fun s hafter hnot hmode hrole hen hloaded hstate hq =>
      awnScanTrigger_starts hafter hnot hmode hrole hen hloaded hstate hq, fun s w hw hen holc => ?_,
    fun s init v hinit => ⟨fun hne => ?_, fun hen hact => ?_, fun hen hstate => ?_⟩⟩
  · obtain ⟨cyc, hop⟩ := opAwnPublish_winner (s := s.begin) hw hen holc
    refine givesOnly_of_run (exec_awnPublish s) rfl ?_ ?_ <;> rw [hop]
    · simp [only_iff]
    · rfl
  · rw [exec_awnEnableWrite, wfRun_next (.awnEnableWrite init v) _ _ (decide_eq_true hinit), opAwnEnableWrite_other hne]
    rfl
  · rw [exec_awnEnableWrite, wfRun_next _ _ _ rfl, opAwnEnableWrite_cyc,
      show bitOf 1 0 = true from rfl, awnSetEn_rise (s := s.begin) hen hact]
    rfl
  · have hop : opAwnEnableWrite 0x27 0 s.begin = _ :=
      (opAwnEnableWrite_cyc 0 s.begin).trans (awnSetEn_fall (s := s.begin) hen hstate)
    refine givesOnly_of_run (exec_awnEnableWrite 0x27 0 s) rfl ?_ ?_ <;> rw [hop]
    · simp [only_iff, abortTimers]
    · exact ⟨rfl, rfl, rfl, rfl, fun h n => FMap.look_mapv rfl h n⟩

end Sys2Proof.Machine
end
